-- ==== Sys2Proof/Word.lean ====
section
/-! DEFINITION. The word types of the Floari T9 and their plainest arithmetic (R6, R8, R11). -/

namespace Sys2Proof

/-- One byte. -/
abbrev Byte := BitVec 8
/-- One register word (R11: every register is 32 bits wide). -/
abbrev Word := BitVec 32
/-- A 64-bit quantity, held in a register pair (R18). -/
abbrev Dword := BitVec 64
/-- One 64-byte line of core SRAM, hub cache or HBM data (R78, R224); byte i is bits [8i+7:8i]. -/
abbrev Line := BitVec 512

/-- The bits [hi:lo] of a number, right-aligned (R8). -/
def bitsOf (x hi lo : Nat) : Nat := (x / 2 ^ lo) % 2 ^ (hi + 1 - lo)

/-- Bit n of a number (R8). -/
def bitOf (x n : Nat) : Bool := (x / 2 ^ n) % 2 == 1

/-- A Boolean as a bit. -/
def bit01 (b : Bool) : Nat := if b then 1 else 0

end Sys2Proof
end

