-- ==== Sys2Proof/Syntax.lean ====
section
/-! DEFINITION. The commands of the T9: one constructor of `Instr` per row of spec/opcode_table.json, with its
operands, and the plain types those operands use. `dt` is the number of fclk cycles since the previous command
(log entry 2). What only the physical world decides (an ECC outcome, a sensor reading, a peer's message) is an
operand (log entry 5). -/

namespace Sys2Proof

/-- Who makes a register access (R18, R321). -/
inductive Src where
  /-- Register-frame source n of the source table (R320). -/
  | frame (n : Nat)
  /-- The board controller over the sideband (R334). -/
  | sideband
  /-- The management firmware. -/
  | trotos
  deriving DecidableEq, Repr

/-- The three instruction streams of a core (R95). -/
inductive Stream where
  | f | b | u
  deriving DecidableEq, Repr

/-- What error checking finds when data is read or received (R85, R163, R242). -/
inductive Ecc where
  | ok
  /-- One error, corrected; `at_` is the line, bank, queue or channel the cause's detail names. -/
  | corrected (at_ : Nat)
  /-- An uncorrectable error: the data is withheld. -/
  | uncorrectable (at_ : Nat)
  deriving DecidableEq, Repr, Inhabited

/-- A flit or token: the header of Table 6.2 and its payload (a line; a scalar word in bits [31:0]; a token in
bits [7:0]). `job` is the job whose energy account it is charged to, none for one that entered from a bridge die
(log entry 20). -/
structure Flit where
  job : Option Nat
  route : BitVec 6
  colour : BitVec 2
  isSeal : Bool
  last : Bool
  payload : Line
  deriving DecidableEq, Repr

/-- One slot of a link frame: header of Table 9.4 and 64 bytes. -/
structure Slot where
  /-- Bits [9:0] of the flit header (route, colour, seal, last). -/
  net : BitVec 10
  kind : BitVec 3
  offset : BitVec 2
  reserved : Bool
  payload : Line
  deriving DecidableEq, Repr

/-- A 270-byte link frame: four slots and the trailer of Table 9.3. -/
structure LinkFrame where
  slots : List Slot
  base : BitVec 9
  seq : BitVec 10
  req : Bool
  reqSeq : BitVec 10
  mark : Bool
  markOff : Bool
  crc : BitVec 16
  deriving DecidableEq, Repr

/-- Network-layer addressing of a received frame, as the answer needs it (R438). -/
inductive L3 where
  | raw
  | v4 (src dst : BitVec 32) (dscp : BitVec 6) (srcPort dstPort : BitVec 16)
  | v6 (src dst : BitVec 128) (dscp : BitVec 6) (srcPort dstPort : BitVec 16)
  deriving DecidableEq, Repr

/-- Where a received frame came from: interface 4p + i, source MAC, VLAN tag (priority and VID), network layer. -/
structure FrameHdr where
  intf : Nat
  mac : BitVec 48
  vlan : Option (BitVec 16)
  l3 : L3
  deriving DecidableEq, Repr

/-- A register-frame request as parsed from its body (Table 11.1). -/
structure RegReq where
  hdr : FrameHdr
  /-- The body was shorter than 24 bytes (status 0x05). -/
  short : Bool
  version : BitVec 16
  op : Byte
  flags : Byte
  seq : Word
  addr : Word
  value : Word
  mask : Word
  count : Byte
  rsvd : BitVec 24
  deriving DecidableEq, Repr

/-- What a received RoCEv2 packet asks of the responder (Table 11.4): one packet of an RDMA WRITE, a READ request, an
opcode answered with NAK invalid request, or one that is discarded (another transport, or an answer to a requester); a CNP
is of the last kind. -/
inductive RdmaOp where
  | writeFirst | writeMiddle | writeLast | writeOnly | readRequest | unsupported | discarded
  deriving DecidableEq, Repr

/-- A RoCEv2 packet addressed to a queue pair (R324 to R327). -/
structure RdmaMsg where
  hdr : FrameHdr
  op : RdmaOp
  /-- Destination QPN; queue pair n has QPN n + 2. -/
  qpn : Nat
  psn : BitVec 24
  /-- Partition key. -/
  pkey : BitVec 16
  icrcOk : Bool
  /-- Marked CE (ECN). -/
  ce : Bool
  /-- R_Key, virtual address and length of the RETH, where the packet has one. -/
  rkey : Word
  va : Dword
  length : Nat
  /-- The payload of a WRITE packet. -/
  data : List Byte
  /-- Cycles until the answer to a READ has left (its time is the model's input). -/
  answer : Nat
  deriving DecidableEq, Repr

/-- An SAK as MKA distributes it for GCM-AES-XPN-256 (R330, R331): key, salt, the short SCIs of the two channels, the SCI of
the receive channel, and its lowest acceptable packet number. -/
structure Sak where
  key : List Byte
  salt : List Byte
  txSsci : Word
  rxSsci : Word
  rxSci : Dword
  rxPn : Nat
  deriving DecidableEq, Repr

/-- A firmware component: its 320-byte header and its body (Table 15.1). -/
structure Component where
  header : List Byte
  body : List Byte
  deriving DecidableEq, Repr

/-- A firmware package: stage 1, stage 2 and the microcode carried in stage 2 (R401). -/
structure Package where
  stage1 : Component
  stage2 : Component
  microcode : Component
  /-- The ENG_EVT entries that the stage 2 image carries, by class (R390); one that it leaves out keeps its default. -/
  events : List Word
  deriving DecidableEq, Repr

/-- A physical core: Ridge, column 0-23, physical row 0-25 (R175, Table 13.3). -/
structure PhysCore where
  ridge : Nat
  col : Nat
  row : Nat
  deriving DecidableEq, Repr

/-- An entry of the field defect log (Table 13.3). -/
structure DefectEntry where
  core : PhysCore
  /-- 0 memory BIST, 1 logic BIST, 2 in-service failure, 3 microcode not received. -/
  kind : Nat
  boot : Nat
  tick : Word
  deriving DecidableEq, Repr

/-- The field defect log as it lies in flash (R371). -/
structure DefectLog where
  magic : Word
  version : Nat
  boot : Nat
  entries : List DefectEntry
  signature : List Byte
  deriving DecidableEq, Repr

/-- The boot record of board flash (R406, R413): the active slot, whether the other slot is marked as trial or holds a
staged package, and the fallback flag. -/
structure BootRecord where
  activeB : Bool
  trial : Bool
  staged : Bool
  fallback : Bool
  deriving DecidableEq, Repr

/-- The board configuration that Trotos reads from flash at step 4 of Table 13.2. -/
structure BoardConfig where
  deviceIndex : Nat
  deviceCount : Nat
  tickMaster : Nat
  tickRole : Nat
  upstream : Nat
  source0Mac : BitVec 48
  source0Rights : BitVec 4
  source0Mask : BitVec 8
  /-- (link, LINK_CFG) values. -/
  linkCfg : List (Nat × Word)
  /-- The bytes that M4 measures (Table 15.2). -/
  bytes : List Byte
  deriving DecidableEq, Repr

/-- Board flash: two package slots, boot record, field defect log, certificate, board configuration
(R371, R405, R406). -/
structure Flash where
  slotA : Option Package
  slotB : Option Package
  record : BootRecord
  log : Option DefectLog
  cert : List Byte
  config : BoardConfig
  deriving DecidableEq, Repr

/-- The Crest fuses and the fused identities (R2, R404, Table 13.10). -/
structure Fuses where
  variantH : Bool
  pkgStepping : Byte
  crestStepping : Byte
  ridgeStepping : List Byte
  /-- Key digest, programmed, revoked, for slots 0-2. -/
  keyDigests : List (List Byte)
  programmed : BitVec 3
  revoked : BitVec 3
  rollback : Nat
  secret : List Byte
  secretProgrammed : Bool
  /-- Cores the fuse map marks bad. -/
  badCores : List PhysCore
  deriving DecidableEq, Repr

/-- What one stack reports when it is trained (R239, R251). -/
structure StackTraining where
  stack : Nat
  pass : Bool
  pseudo : Nat
  high16 : Bool
  dense32 : Bool
  manuf : Byte
  lanesRepaired : Byte
  deriving DecidableEq, Repr

/-- Outcomes of the physical work of a cold bring-up or warm reset (Table 13.2, R381). -/
structure Bringup where
  /-- Straps sampled when COLD_RST_N rises (R366). -/
  bootSrc : Nat
  boardPos : Nat
  sbSel : Bool
  fuseError : Bool
  fuses : Fuses
  /-- Board flash as found; none: as the device last left it. -/
  flash : Option Flash
  /-- Cores that fail BIST, with kind 0 memory or 1 logic. -/
  bistFail : List (PhysCore × Nat)
  /-- Die codes that fail BIST (R369). -/
  dieBistFail : List Nat
  training : List StackTraining
  /-- Per Cirque, bridges trained N, E, S, W. -/
  bridges : List (Nat × BitVec 4)
  /-- Per Ridge, saddle edges calibrated N, E, S, W. -/
  saddles : List (Nat × BitVec 4)
  /-- Logical cores that received the microcode wrongly (R374): for each of the broadcast and up to three addressed resends,
  the lines with the bits that arrived wrong; index 256 is the check line. -/
  microErrs : List (Nat × List (List (Nat × Line)))
  flashWriteOk : Bool
  /-- Duration to ready, ms; without the time from the first boot request to the last byte of stage 1, which R368 excludes. -/
  ms : Nat
  deriving DecidableEq, Repr

/-- Thermal readings of one tick (R41): die code, sensor, 1/16 °C; sensors out of range; stack °C; die currents in
10 mA units. -/
structure Thermal where
  sensors : List (Nat × Nat × Int)
  bad : List (Nat × Nat)
  badCurrents : List Nat
  hbmTemps : List (Nat × Nat)
  currents : List (Nat × Nat)
  deriving DecidableEq, Repr

/-- Energy measured over the tick that ends (R389), picojoules: per Ridge, and the sum of the other rails. -/
structure Measured where
  ridges : List Nat
  others : Nat
  deriving DecidableEq, Repr

/-- A marker taken from the upstream link (R51, R277, R395). -/
structure Marker where
  link : Nat
  /-- mark_off of the marked frame: cycles from the boundary to its launch, 0 or 1. -/
  off : Nat
  /-- The N of a frame-boundary marker, with the votes and debt of its service slot. -/
  number : Option Dword
  votes : BitVec 16
  debt : BitVec 16
  /-- The frame was a replay: its marker and number are not used. -/
  replayed : Bool
  deriving DecidableEq, Repr

/-- Causes of a warm reset, as DEV_RESET codes them (Table 13.10). -/
inductive WarmCause where
  | pin | register | sideband | watchdog | fatal | firmware
  deriving DecidableEq, Repr

/-- What the read or write of one HBM line meets (R238, R241, R242). -/
inductive HbmErr where
  /-- A wrong symbol 0-67, and the value XORed into it. -/
  | symbol (k : Nat) (v : Byte)
  /-- A command or address parity error: the command is issued again. -/
  | parity
  deriving DecidableEq, Repr

/-- What one access to an HBM line meets. -/
abbrev SymErrs := List HbmErr

/-- A packet of an RDMA WRITE, and what its accesses to HBM meet, by line of the packet (R238, R242). -/
structure RdmaPut where
  msg : RdmaMsg
  errs : List (Nat × SymErrs)
  deriving DecidableEq, Repr

/-- A spare fill of a Ridge ends; what the reads of HBM meet: of the lines placed in the new cores, by line in the order of
placing, and of the Cairn that is then restored, as RESTORE numbers them (R360, R242). -/
structure FillEnd where
  ridge : Nat
  placed : List (Nat × SymErrs)
  errs : List (Nat × SymErrs)
  deriving DecidableEq, Repr

/-- What Trotos recomputes the disputed granule from (R359): the routine of Table 7.6 that the update ran, and the line
addresses of the step's previous master weights and moments and of the witness, whose places are the program's; and what the
reads of those lines, in this order, and of the stored granule meet. -/
structure Recompute where
  routine : Nat
  weights : Nat
  first : Nat
  second : Nat
  gradient : Nat
  hyper : Nat
  errs : List (Nat × SymErrs)
  deriving DecidableEq, Repr

/-- The numeric sensors that PLDM for Monitoring and Control reads (R334). -/
inductive Sensor where
  | temperature (die : Nat)
  | packagePower
  | partitionEnergy (part : Nat)
  deriving DecidableEq, Repr

/-- A message of the board controller over the sideband (R334), but for those that have rows of their own: PLDM type 63 with a
register-frame body, a sensor reading, and the assignment and discovery messages of MCTP control and PLDM base (DSP0236,
DSP0240; log entry 91). -/
inductive SidebandMsg where
  | registerFrame (q : RegReq)
  | readSensor (x : Sensor)
  | setEndpointId (eid : Byte)
  | getEndpointId
  | setTid (tid : Byte)
  | getTid
  | getTypes
  deriving DecidableEq, Repr

/-- Integrity of a received Ethernet frame below the MAC client (R284, R316). -/
structure RxStatus where
  fcsOk : Bool
  fecCorrected : Nat
  fecUncorrectable : Nat
  /-- IEEE 1588 receive timestamp, ns. -/
  timestamp : Dword
  /-- Error checking of the multicast filter entry that the frame reads; `at_` is the table (Table 10.10). -/
  table : Ecc
  /-- The same of the tables that each of its events passes, in message order; none beyond the end. -/
  looks : List Ecc
  /-- What the accesses to HBM of its RDMA packet meet, by line of the packet (R238, R242). -/
  errs : List (Nat × SymErrs)
  deriving DecidableEq, Repr

/-- The lines of an event leave for their edge core `dt` cycles on, and what error checking finds in the Port tables where they
waited (Table 10.10). -/
structure PortCheck where
  dt : Nat
  table : Ecc
  deriving DecidableEq, Repr

/-- A command to the serving lane: its sender, and what error checking finds in the Port tables that it reads (Table 10.10). -/
structure SrvCmd where
  src : Src
  table : Ecc
  deriving DecidableEq, Repr

/-- What a line of a move meets on its way into the hub: the symbol errors of its HBM read (R242) and the error check of the
inter-Cirque bridge (R250). -/
structure LineErrs where
  syms : SymErrs
  bridge : Ecc
  deriving DecidableEq, Repr

/-- A command on which the Crest reads memory: its sender, and the symbol errors of the lines read, by address (R242). -/
structure CrestCmd where
  src : Src
  errs : List (Nat × SymErrs)
  deriving DecidableEq, Repr

/-- Where lines reach a reduction engine from (R207). -/
inductive EngIn where
  /-- Edge attachment: index 0-7 of the core in the Col die's group. -/
  | grid (i : Nat)
  /-- Link k of the Col die. -/
  | link (k : Nat)
  deriving DecidableEq, Repr

/-- Which move of a Cirque a line belongs to. -/
inductive MoveRef where
  | entry (index : Nat)
  | manual
  deriving DecidableEq, Repr

/-- A divergence-handling message (code 0x14 of Table 12.6). -/
inductive DivMsg where
  | tileDigests (digests : List Dword)
  | candidate (slot : Nat) (tick : Dword)
  | clusterTraces (frame : Dword) (traces : List Dword)
  /-- None: no spare core, or the witness unreadable (Table 12.7). -/
  | verdict (equal : Option Bool)
  deriving DecidableEq, Repr

/-- A page: class code and instance (Table 0.5). -/
structure Page where
  cls : Nat
  inst : Nat
  deriving DecidableEq, Repr

/-- The channels of a switch (R164), coded 0 to 3 as in the queue codes. -/
inductive Chan where
  | v0 | v1 | scalar | control
  deriving DecidableEq, Repr

/-- The inputs and outputs of a switch (R164), coded 0 to 4 as in the queue codes. -/
inductive Port where
  | n | e | s | w | l
  deriving DecidableEq, Repr

/-- The input that a seal reaches, and what the check bits of its header find (R163, R182). -/
structure SealIn where
  inp : Port
  ecc : Ecc
  deriving DecidableEq, Repr

/-- Who makes a request to a bank of core SRAM (Table 3.2, R119) or of a hub cache (Table 8.1). -/
inductive BankUser where
  /-- Vector-network inbound writes of a plane. -/
  | netIn (plane : Nat)
  /-- Vertical-port inbound writes: hub-cache reads landing. -/
  | portIn
  /-- The array's result port. -/
  | arrayOut
  /-- Vector-unit result writes. -/
  | vecOut
  /-- The array's streaming port (srcA). -/
  | streaming
  /-- The array's stationary port (srcB). -/
  | stationary
  /-- The array's scale port, for the scales of srcA or srcB. -/
  | scale (isB : Bool)
  /-- Vector-unit operand reads: 0 is srcA, 1 srcB. -/
  | vecIn (source : Nat)
  /-- Network sends of a plane. -/
  | netOut (plane : Nat)
  /-- Reads for a vertical-port write. -/
  | portOut
  | spill (write : Bool)
  /-- An HRD of a cluster. -/
  | hrd (cluster : Nat)
  /-- An HWR of a cluster. -/
  | hwr (cluster : Nat)
  /-- A move-engine landing from HBM. -/
  | moveLand
  /-- A move-engine read for a write to HBM. -/
  | moveRead
  /-- Manual moves, placement reads, register access. -/
  | hubOther (write : Bool)
  deriving DecidableEq, Repr

/-- A request to a bank: the line it names (the first line of the block for a turn access), the row or column of a turn access
as its form, and whether it is one of the instruction that completes. -/
structure BankReq where
  user : BankUser
  line : Nat
  form : Option Nat
  own : Bool
  deriving DecidableEq, Repr

/-- The requests that reach the banks beside those that the model forms of an instruction, cycle by cycle from the first cycle
in which that one makes a request (log entry 76). -/
structure BankEvents where
  arrivals : List (List BankReq)
  deriving DecidableEq, Repr, Inhabited

/-- What a MOV meets on its way: for an HRD what the checks of its hub lines find, by index in the transfer, and for an HWR what
those of the vertical port find, line by line; the other requests at the core's banks (HWR) and at those of the hub cache. -/
structure MovChecks where
  eccs : List Ecc
  bank : BankEvents
  hub : BankEvents
  deriving DecidableEq, Repr

/-- A core whose switch spills, the error checks of the spill-area lines that it writes, and what its requests meet at the
banks (R82, R85, R187). -/
structure SpillCore where
  core : Nat
  eccs : List Ecc
  bank : BankEvents
  deriving DecidableEq, Repr

/-- The registers that a WINDOW_WRITE names (R230). -/
inductive WinReg where
  | base | limit | attr
  deriving DecidableEq, Repr

/-- What FEC finds of the codewords that end with a frame, and whether one that overlaps it is uncorrectable (R256, R259,
R281). -/
structure Fec where
  /-- Codewords corrected: for each, the lane with most symbols corrected. -/
  corrected : List Nat
  /-- Codewords that are uncorrectable. -/
  bad : Nat
  /-- An uncorrectable codeword overlaps the frame, wherever it ends. -/
  overlap : Bool
  deriving DecidableEq, Repr

/-- No error. -/
def Fec.clean : Fec := ⟨[], 0, false⟩

/-- What a link end measures in NEGOTIATE (R273). -/
structure Negotiation where
  /-- Round trip of its probe, cycles. -/
  roundTrip : Nat
  deriving DecidableEq, Repr

/-- What a device's own registers give of its pairing (R354). -/
structure PeerPair where
  enable : Bool
  partner : Nat
  role : Nat
  deriving DecidableEq, Repr

/-- What one end of a link tells the other in service slots of type 0x02 (R273): its device index, link number, L8 and
passing lanes, its M once measured, and its pairing. -/
structure LinkId where
  device : Nat
  link : Nat
  l8 : Nat
  lanes : BitVec 8
  transit : Option Nat
  pair : PeerPair
  deriving DecidableEq, Repr

/-- A region under reset (Table 13.4). -/
inductive Region where
  | core (i : Nat)
  | cluster (i : Nat)
  | partition (i : Nat)
  deriving DecidableEq, Repr

/-- A comparison message of a pair (Table 12.6): place and step are its key. -/
structure PairMsg where
  /-- Shard, job or slot; 0 for a device trace. -/
  place : Nat
  /-- Step, frame, or N at b. -/
  step : Dword
  value : Dword
  /-- The moment digest of a commit record; else 0. -/
  value2 : Dword
  deriving DecidableEq, Repr

/-- The commands of the T9: one constructor per row of the opcode table, in the table's order. -/
inductive Instr where
  /-- REGISTER_WRITE (R16). A write to a register field that has no row of its own sets or ignores the field according to its access type. -/
  | registerWrite (src : Src) (addr value : Word)
  /-- W1C_CLEAR (R17). A write of 1 to a W1C bit clears it, and clears the whole record where the bit is a record valid bit. -/
  | w1cClear (src : Src) (addr value : Word)
  /-- READ_CLEAR (R17). A read of an RC counter returns its value and clears it. -/
  | readClear (src : Src) (addr : Word)
  /-- LO_READ (R18). A read of a _LO register copies the matching _HI value into the latch of the reading source. -/
  | loRead (src : Src) (addr : Word)
  /-- LO_WRITE (R18). A write to a writable _LO register is held in the latch of the writing source. -/
  | loWrite (src : Src) (addr value : Word)
  /-- HI_WRITE (R18). A write to _HI commits both halves of the pair, or sets _HI alone when the source holds no _LO write for the pair. -/
  | hiWrite (src : Src) (addr value : Word)
  /-- PAGE_FREEZE (R25). A write of 1 to PAGE_CTL.freeze freezes the page's master before the write's other fields take effect. -/
  | pageFreeze (src : Src) (page : Page) (value : Word)
  /-- PAGE_ENABLE (R21). A write to PAGE_CTL.enable enables or disables the page's unit, subject to that page's own restrictions. -/
  | pageEnable (src : Src) (page : Page) (value : Word)
  /-- COLD_BRINGUP (R368). When COLD_RST_N rises, the device runs the cold bring-up steps through to the ready check. -/
  | coldBringup (b : Bringup)
  /-- COLD_RESET (R375). COLD_RST_N going low, or PWR_GOOD falling, resets the whole device, HBM included. -/
  | coldReset (powerFell : Bool)
  /-- RAIL_FAULT (R40). A rail leaving its regulation band in service records a device-fatal fault and requests power removal over the sideband. -/
  | railFault (rail : Nat)
  /-- WARM_RESET (R381). A warm reset runs its sequence: READY falls, interfaces and links stop, HBM enters self refresh, the dies reset, and Trotos restarts. -/
  | warmReset (cause : WarmCause) (b : Bringup)
  /-- WATCHDOG_EXPIRY (R388). CREST_HEART has kept one value for the watchdog timeout, so wdog_expired is raised and a warm reset starts. -/
  | watchdogExpiry
  /-- THERMAL_SAMPLE (R41). At each tick the Crest reads every die's thermal sensors. -/
  | thermalSample (t : Thermal)
  /-- DEFECT_LOG_WRITE (R373). Trotos adds an in-service failure entry to the field defect log, re-signs it and writes it to flash. -/
  | defectLogWrite (core : PhysCore) (flashOk : Bool)
  /-- TICK_BOUNDARY (R46). The first cycle of a tick: N advances and every per-tick action takes place. -/
  | tickBoundary (m : Measured)
  /-- FRAME_BOUNDARY (R46). A tick boundary at which N mod F is 0, where the per-frame checks, publications and decisions take place. -/
  | frameBoundary
  /-- TICK_START (R49). A write to TICK_START.start makes the tick master begin counting from TICK_BASE at the next tick boundary, or is ignored with start_ignored. -/
  | tickStart (src : Src) (value : Word)
  /-- TICK_MARKER (R51). A follower receives a tick marker and checks its arrival window and, at a frame boundary, the N it carries. -/
  | tickMarker (dt : Nat) (m : Marker)
  /-- HOLDOVER_EXCEEDED (R51). No marker has arrived for 1 ms, so a tick slip is raised and locked falls to 0. -/
  | holdoverExceeded
  /-- FCLK_LOCK (R278). The marker interval has stayed within 1 cycle of T over 4,096 markers, so fclk is locked in frequency and the cycle count is aligned. -/
  | fclkLock (dt : Nat)
  /-- LOAD (R63). SCHED_CMD LOAD starts verification of the staged image and locks its staging window. -/
  | load (src : CrestCmd)
  /-- VERIFY_DONE (R63). Image verification completes, and the image goes to VERIFIED, or to REJECTED with a reject code. -/
  | verifyDone
  /-- ARM (R66). SCHED_CMD ARM checks the image name, the activation tick and the partitions, then arms the image or rejects the command. -/
  | arm (src : Src)
  /-- ABORT (R62). SCHED_CMD ABORT returns the staged image to EMPTY or VERIFIED as Table 2.10 gives. -/
  | abort (src : Src)
  /-- SHADOW_READY (R67). Placement of the armed image's streams and tables into the shadow halves completes, and shadow_ready is set. -/
  | shadowReady
  /-- IMAGE_ACTIVATION (R67). At activation tick A the armed image becomes active and every partition that is not frozen switches. -/
  | imageActivation
  /-- NOP (R98). A CTL NOP instruction issues and does nothing. -/
  | nop (dt core : Nat) (st : Stream) (ecc : Ecc)
  /-- FEND (R96). FEND parks its stream until the next frame boundary. -/
  | fend (dt core : Nat) (st : Stream) (ecc : Ecc)
  /-- JUMP (R96). JUMP sets the stream's program counter to its target. -/
  | jump (dt core : Nat) (st : Stream) (ecc : Ecc)
  /-- LOOP (R98). LOOP decrements its scalar register and branches to its target if the result is not zero. -/
  | loop (dt core : Nat) (st : Stream) (ecc : Ecc)
  /-- MASK (R125). MASK sets the row mask applied by MMAs that issue after it. -/
  | mask (dt core : Nat) (st : Stream) (ecc : Ecc)
  /-- CTOK (R174). CTOK sends one control-network token through the named route entry. -/
  | ctok (dt core : Nat) (st : Stream) (ecc : Ecc)
  /-- MMA (R121). An MMA issues into the array queue after the checks of R92 and R118. -/
  | mma (dt core : Nat) (st : Stream) (ecc : Ecc)
  /-- MMA_BEGIN (R121). The array begins a queued MMA once it is idle or its previous MMA has finished. -/
  | mmaBegin (dt core : Nat) (eccs : List Ecc)
  /-- MMA_COMPLETE (R121). In its completion cycle an MMA writes dst if fin is set, sets dst's valid bit and releases its sources. -/
  | mmaComplete (core : Nat) (bank : BankEvents)
  /-- ADD (R145). VEC ADD adds A and B element by element. -/
  | add (dt core : Nat) (st : Stream) (ecc : Ecc)
  /-- SUB (R145). VEC SUB subtracts B from A element by element. -/
  | sub (dt core : Nat) (st : Stream) (ecc : Ecc)
  /-- MUL (R145). VEC MUL multiplies A and B element by element. -/
  | mul (dt core : Nat) (st : Stream) (ecc : Ecc)
  /-- MAX (R145). VEC MAX takes the element-wise maximum of A and B. -/
  | max (dt core : Nat) (st : Stream) (ecc : Ecc)
  /-- MIN (R145). VEC MIN takes the element-wise minimum of A and B. -/
  | min (dt core : Nat) (st : Stream) (ecc : Ecc)
  /-- FMA (R145). VEC FMA computes A × B + dst with a single rounding. -/
  | fma (dt core : Nat) (st : Stream) (ecc : Ecc)
  /-- SCL (R145). VEC SCL scales A by the scalar register taken as FP32. -/
  | scl (dt core : Nat) (st : Stream) (ecc : Ecc)
  /-- CVT (R146). VEC CVT narrows A into dst's format. -/
  | cvt (dt core : Nat) (st : Stream) (ecc : Ecc)
  /-- EXP (R435). VEC EXP computes the exponential of each element. -/
  | exp (dt core : Nat) (st : Stream) (ecc : Ecc)
  /-- LOG (R435). VEC LOG computes the logarithm of each element. -/
  | log (dt core : Nat) (st : Stream) (ecc : Ecc)
  /-- RSQRT (R435). VEC RSQRT computes the reciprocal square root of each element. -/
  | rsqrt (dt core : Nat) (st : Stream) (ecc : Ecc)
  /-- RECIP (R435). VEC RECIP computes the reciprocal of each element. -/
  | recip (dt core : Nat) (st : Stream) (ecc : Ecc)
  /-- TANH (R435). VEC TANH computes the hyperbolic tangent of each element. -/
  | tanh (dt core : Nat) (st : Stream) (ecc : Ecc)
  /-- SIGMOID (R435). VEC SIGMOID computes the sigmoid of each element. -/
  | sigmoid (dt core : Nat) (st : Stream) (ecc : Ecc)
  /-- RSUM (R100). VEC RSUM sums each 64-element group of A in a fixed binary tree. -/
  | rsum (dt core : Nat) (st : Stream) (ecc : Ecc)
  /-- RMAX (R100). VEC RMAX takes the maximum of each 64-element group of A. -/
  | rmax (dt core : Nat) (st : Stream) (ecc : Ecc)
  /-- UCALL (R216). UCALL runs the optimiser microcode routine named by imm. -/
  | ucall (dt core : Nat) (st : Stream) (ecc : Ecc)
  /-- QCRUMB (R204). QCRUMB quantises a gradient to MXFP8 E5M2 and keeps the quantisation error in the crumb. -/
  | qcrumb (dt core : Nat) (st : Stream) (ecc : Ecc)
  /-- VEC_BEGIN (R100). The vector unit begins a queued instruction once it is free. -/
  | vecBegin (dt core : Nat) (eccs : List Ecc)
  /-- VEC_COMPLETE (R100). A vector instruction's result completes its latency after the last input cycle, and dst's valid bit is set. -/
  | vecComplete (core : Nat) (bank : BankEvents)
  /-- SEND (R165). MOV SEND queues the tile's lines for the vector network. -/
  | send (dt core : Nat) (st : Stream) (ecc : Ecc)
  /-- RECV (R168). MOV RECV waits to land a tile from the vector network. -/
  | recv (dt core : Nat) (st : Stream) (ecc : Ecc)
  /-- HRD (R226). MOV HRD reads lines from the hub cache through the vertical port. -/
  | hrd (dt core : Nat) (st : Stream) (ecc : Ecc)
  /-- HWR (R111). MOV HWR writes lines to the hub cache through the vertical port. -/
  | hwr (dt core : Nat) (st : Stream) (ecc : Ecc)
  /-- SSEND (R168). MOV SSEND sends one scalar register over the scalar network. -/
  | ssend (dt core : Nat) (st : Stream) (ecc : Ecc)
  /-- SRECV (R168). MOV SRECV lands one scalar register from the scalar network. -/
  | srecv (dt core : Nat) (st : Stream) (ecc : Ecc)
  /-- MOV_BEGIN (R111). The mover begins a queued MOV, and for HRD and HWR that cycle is the port slot. -/
  | movBegin (dt core : Nat) (chk : MovChecks)
  /-- SEND_COMPLETE (R165). A SEND completes when the mover reads its last line, and releases its tag if rel is set. -/
  | sendComplete (dt core : Nat) (plane : Nat) (ecc : Ecc) (bank : BankEvents)
  /-- RECV_COMPLETE (R168). The last flit of a RECV lands and the tag's valid bit is set. -/
  | recvComplete (dt core : Nat) (plane : Nat) (bank : BankEvents)
  /-- HRD_COMPLETE (R226). The last line of an HRD lands and the tag's valid bit is set. -/
  | hrdComplete (core : Nat) (eccs : List Ecc) (bank : BankEvents)
  /-- HWR_COMPLETE (R111). An HWR completes when the vertical port accepts its last line. -/
  | hwrComplete (core : Nat) (eccs port : List Ecc)
  /-- LI (R98). SCAL LI loads an immediate into a scalar register. -/
  | li (dt core : Nat) (st : Stream) (ecc : Ecc)
  /-- ADDI (R98). SCAL ADDI adds an immediate to a scalar register, modulo 2^32. -/
  | addi (dt core : Nat) (st : Stream) (ecc : Ecc)
  /-- TDB (R98). SCAL TDB writes s[a] + imm, modulo 2^13, into the base field of a tag's descriptor. -/
  | tdb (dt core : Nat) (st : Stream) (ecc : Ecc)
  /-- TAG_SET (R93). TAG SET sets a tag's valid bit. -/
  | tagSet (dt core : Nat) (st : Stream) (ecc : Ecc)
  /-- TAG_CLR (R93). TAG CLR clears a tag's valid bit. -/
  | tagClr (dt core : Nat) (st : Stream) (ecc : Ecc)
  /-- VREAD (R200). VREAD registers a reader of the ring's current version in a stamp register. -/
  | vread (dt core : Nat) (st : Stream) (ecc : Ecc)
  /-- VDONE (R200). VDONE removes a reader from the stamped version and invalidates the stamp register. -/
  | vdone (dt core : Nat) (st : Stream) (ecc : Ecc)
  /-- VPUB (R198). VPUB publishes a FILLING slot as the ring's current version and demotes the previous one. -/
  | vpub (dt core : Nat) (st : Stream) (ecc : Ecc)
  /-- NOT_READY (R103). A stream head's sources are still not valid at h + wmax, raising slip 0x02. -/
  | notReady (core : Nat) (st : Stream)
  /-- CORE_SRAM_DATA_READ (R109). A read of CORE_SRAM_DATA returns an SRAM word in storage order and advances the address, only where the access is permitted. -/
  | coreSramDataRead (src : Src) (core : Nat) (ecc : Ecc)
  /-- CORE_SRAM_DATA_WRITE (R109). A write of CORE_SRAM_DATA writes an SRAM word and advances the address, only where the access is permitted. -/
  | coreSramDataWrite (src : Src) (core : Nat) (value : Word)
  /-- NUMMON_CLEAR (R153). A write of 1 to NUMMON_CTL.clear arranges for the live counters to be cleared at the next frame boundary. -/
  | nummonClear (src : Src) (slot : Nat)
  /-- FLIT_FORWARD (R166). A switch forwards the head of an input queue on its outputs once eligibility, phase, token, claim and credit conditions hold. -/
  | flitForward (dt core : Nat) (ch : Chan) (inp : Port)
  /-- FLIT_ARRIVE (R179). A flit or token enters a switch queue, and its occupancy is checked against the bound. -/
  | flitArrive (dt core : Nat) (ch : Chan) (inp : Port) (ecc : Ecc)
  /-- CREDIT_RETURN (R167). A credit returns to the sender 2, 6 or 10 cycles after the downstream queue entry is freed. -/
  | creditReturn (dt core : Nat) (ch : Chan) (outp : Port)
  /-- FLIT_LAND (R168). A flit in a landing buffer lands into the oldest matching RECV or SRECV once one has issued. -/
  | flitLand (dt core : Nat) (ch : Chan)
  /-- TOKEN_ARRIVE (R174). A token enters a steering unit's token queue, or raises a credit violation if the queue is full. -/
  | tokenArrive (dt core : Nat) (unit : Nat)
  /-- SEAL_ARRIVE (R182). An epoch seal arrives on an input and seals it. -/
  | sealArrive (dt core : Nat) (ch : Chan) (a : SealIn)
  /-- SPILL_MODE_REQUEST (R185). A write of 1 to SW_CTL.spill puts the switch into spill mode where permitted, or raises access_ignored. -/
  | spillModeRequest (src : Src) (core : Nat)
  /-- SPILL_MODE_EXIT (R185). A write of 0 to SW_CTL.spill takes effect in the first cycle in which every queue of the switch is empty. -/
  | spillModeExit (src : Src) (core : Nat)
  /-- DEADLOCK_DETECT (R187). A spill-mode switch that has dequeued nothing for 4,096 cycles raises deadlock_detect and spills. -/
  | deadlockDetect (core : SpillCore)
  /-- SPILL_AREA_CLEAR (R191). A write of SW_CTL.area_clear empties the spill area outside spill mode. -/
  | spillAreaClear (src : Src) (core : Nat)
  /-- REDUCE_DESCRIPTOR (R209). A reduction descriptor from the grid activates a slot with its unit count, delivery route and contributor mask. -/
  | reduceDescriptor (dt col engine : Nat) (inp : EngIn)
  /-- REDUCE_CONTRIBUTION (R210). A contribution of 67 lines is parsed and added to its unit in ascending device order. -/
  | reduceContribution (dt col engine : Nat) (inp : EngIn)
  /-- REDUCE_UNIT_DELIVER (R211). A completed unit is delivered as 256 FP32 lines to the delivery edge core, and its accumulator is freed. -/
  | reduceUnitDeliver (dt col engine slot unit : Nat)
  /-- MOVE_ISSUE (R233). The move engine issues a move-list entry at its issue tick after the window checks. -/
  | moveIssue (cirque index : Nat)
  /-- MOVE_LINE_LAND (R227). A line of a move from HBM lands in the hub cache and becomes READY, after the HBM read has been ECC-checked and decrypted. -/
  | moveLineLand (dt cirque : Nat) (mv : MoveRef) (line : Nat) (errs : LineErrs)
  /-- MOVE_COMPLETE (R233). A move completes when its last line is READY, or when its last write command is accepted. -/
  | moveComplete (dt cirque : Nat) (mv : Nat)
  /-- DEADLINE_MISS (R233). A move not complete by its deadline tick is abandoned with slip 0x03, and its job's partitions freeze. -/
  | deadlineMiss (cirque : Nat) (mv : Nat)
  /-- MANUAL_MOVE (R236). CIRQ_MM_CMD go starts a manual move, or rejects it with mm_reject. -/
  | manualMove (src : Src) (cirque : Nat) (value : Word)
  /-- MANUAL_MOVE_COMPLETE (R236). A manual move finishes and CIRQ_MM_STAT.done is set. -/
  | manualMoveComplete (dt cirque : Nat)
  /-- WINDOW_WRITE (R230). A write to WIN_BASE, WIN_LIMIT or WIN_ATTR is checked, then applied or ignored with window_conflict or window_busy. -/
  | windowWrite (src : Src) (window : Nat) (reg : WinReg) (value : Word)
  /-- MOVE_ENGINE_RESET (R237). CIRQUE PAGE_CTL.reset abandons every move in flight, clears the engine's freeze and empties its queue. -/
  | moveEngineReset (src : Src) (cirque : Nat)
  /-- SCRUB_LINE (R244). Patrol scrub reads one stack line and writes it back corrected under a line lock. -/
  | scrubLine (dt stack line : Nat) (errs : SymErrs)
  /-- KEY_LOAD (R246). KEY_CMD LOAD copies KEY_DATA and KEY_LABEL into an empty generation and zeroes KEY_DATA. -/
  | keyLoad (src : Src) (slot : Nat)
  /-- KEY_SWITCH (R246). KEY_CMD SWITCH makes the other generation current. -/
  | keySwitch (src : Src) (slot : Nat)
  /-- KEY_SWEEP (R247). KEY_CMD SWEEP begins re-encrypting the slot's windows under the current generation. -/
  | keySweep (src : Src) (slot : Nat)
  /-- KEY_CLEAR (R246). KEY_CMD CLEAR erases both generations of a slot that no window names. -/
  | keyClear (src : Src) (slot : Nat)
  /-- SWEEP_LINE (R247). A stack controller re-encrypts one line of a sweep under its lock. -/
  | sweepLine (dt slot stack line : Nat) (errs : SymErrs)
  /-- SWEEP_FINISH (R248). Every controller passes its last granule, and KEY_OLD_RD counting begins. -/
  | sweepFinish (dt slot : Nat)
  /-- KEY_ERASE (R248). KEY_OLD_RD reaches 0 and the old generation is erased. -/
  | keyErase (dt slot : Nat)
  /-- COL_TAKE (R260). A Col die takes a flit from an edge core and routes it to a link or a reduction engine. -/
  | colTake (dt core : Nat) (ch : Chan)
  /-- LINK_FRAME_LAUNCH (R257). A link direction launches a 270-byte frame packed with the waiting slots. -/
  | linkFrameLaunch (dt link : Nat)
  /-- LINK_FRAME_VERDICT (R259). The receiver judges an arriving frame good or bad by FEC, CRC and sequence. -/
  | linkFrameVerdict (dt link : Nat) (frame : LinkFrame) (fec : Fec)
  /-- REPLAY_RELAUNCH (R267). The sender relaunches the requested frame from its replay buffer in the next frame slot. -/
  | replayRelaunch (dt link : Nat)
  /-- LINK_SLOT_DELIVER (R262). A slot taken in cycle t is delivered on the peer at t + L. -/
  | linkSlotDeliver (dt link : Nat)
  /-- TX_LATE (R266). A flit still unlaunched at take + 32 raises slip 0x05. -/
  | txLate (dt link : Nat)
  /-- LINK_DOWN (R269). Loss of block lock, or 64 cycles without a frame, takes the link to DOWN. -/
  | linkDown (dt link lane : Nat)
  /-- LINK_RETRAIN (R275). LINK_CTL.retrain takes the link to OFF and trains it again, or is ignored with retrain_busy. -/
  | linkRetrain (src : Src) (link : Nat)
  /-- LINK_PAGE_RESET (R281). LINK PAGE_CTL.reset retrains the link and clears its freeze. -/
  | linkPageReset (src : Src) (link : Nat)
  /-- LINK_DETECT_DONE (R271). DETECT finds the peer's signal and the link moves to EQUALISE. -/
  | linkDetectDone (dt link : Nat)
  /-- LINK_EQUALISE_DONE (R271). Equalisation finishes and the link moves to CHECK. -/
  | linkEqualiseDone (dt link : Nat)
  /-- LINK_CHECK_DONE (R272). PRBS checking finishes and the lanes that pass decide the width. -/
  | linkCheckDone (dt link : Nat) (lanesPass : BitVec 8)
  /-- LINK_NEGOTIATE_DONE (R273). Negotiation exchanges identity, L8 and measurements, and the link comes UP or goes to FAILED. -/
  | linkNegotiateDone (dt link : Nat) (n : Negotiation)
  /-- LINK_TRAIN_TIMEOUT (R271). A training state exceeds its bound and the link goes to FAILED. -/
  | linkTrainTimeout (dt link : Nat)
  /-- ETH_FRAME_RECEIVE (R285). A received Ethernet frame passes the MAC, MACsec and VLAN stages and is classified. -/
  | ethFrameReceive (dt intf : Nat) (bytes : List Byte) (st : RxStatus)
  /-- ETH_LINK_CHANGE (R317). An Ethernet interface goes up or down, raising link_change. -/
  | ethLinkChange (dt intf : Nat) (up : Bool)
  /-- EVENT_LAND (R295). An event's meta and feature lines are written into the gather memory once its edge core is free. -/
  | eventLand (e : PortCheck)
  /-- GATHER_BOUNDARY (R292). At g_s the Port applies commands, leaves and admissions, and fixes the step's sequence order. -/
  | gatherBoundary
  /-- STEP_HEADER_LAND (R296). The step header is written after the step's last event line, and sets the gather tag's valid bit. -/
  | stepHeaderLand (dt : Nat)
  /-- INSERT (R291). IN_CMD INSERT adds a key and feed ID pair to the instrument map at the next gather boundary. -/
  | insert (src : Src)
  /-- MODIFY (R291). IN_CMD MODIFY replaces an entry's model slot, feature row and flags. -/
  | modify (src : Src)
  /-- DELETE (R291). IN_CMD DELETE removes an entry, or marks it leave pending. -/
  | delete (src : Src)
  /-- LOOKUP (R291). IN_CMD LOOKUP returns the index and contents of the entry for a pair. -/
  | lookup (src : Src)
  /-- IN_READ (R291). IN_CMD READ returns the selected table entry at once. -/
  | inRead (src : Src)
  /-- IN_WRITE (R291). IN_CMD WRITE replaces an entry of the filter, message-type or field-descriptor table at once. -/
  | inWrite (src : Src)
  /-- JOIN (R299). SRV_CMD JOIN enqueues an entry in the join queue as QUEUED. -/
  | join (cmd : SrvCmd)
  /-- LEAVE (R299). SRV_CMD LEAVE marks a QUEUED, JOINING or LIVE entry leave pending. -/
  | leave (cmd : SrvCmd)
  /-- SRV_MODEL_WRITE (R317). A write to SRV_MODEL applies at the next gather boundary, or is rejected while the slot is in use. -/
  | srvModelWrite (src : Src) (value : Word)
  /-- SRV_GATHER_WRITE (R294). A write to SRV_GATHER is range-checked and applied, or ignored with cmd_reject reason 7. -/
  | srvGatherWrite (src : Src) (value : Word)
  /-- FEED_GEOM_WRITE (R307). A write to SRV_FEED_LINE or SRV_FEED_GEOM is applied unless the ring would run past the hub cache. -/
  | feedGeomWrite (src : Src) (geom : Bool) (value : Word)
  /-- SRV_CUR_WRITE (R309). A write to SRV_CUR is accepted only while partition 0 is not running, else ignored with cmd_ignored. -/
  | srvCurWrite (src : Src) (value : Dword)
  /-- SRV_PAIR_WRITE (R311). A write to SRV_PAIR.role sets the role and clears took, muted and the take tick. -/
  | srvPairWrite (src : Src) (value : Word)
  /-- RESULT_LINE (R302). A result line from an attachment core fills its template and builds a decision frame. -/
  | resultLine (dt core : Nat) (ch : Chan) (edge table : Ecc)
  /-- DECISION_FRAME_TRANSMIT (R306). A decision frame leaves the transmit buffer, ahead of host frames, once the frame in transmission ends. -/
  | decisionFrameTransmit (dt intf : Nat)
  /-- EG_DATA_WRITE (R305). A write of EG_DATA writes the staging copy of a template word and advances the word index. -/
  | egDataWrite (src : Src) (value : Word)
  /-- TOD_SET (R313). PORT_TOD_CTL.set loads PORT_TOD_SET into the time of day at the next tick boundary. -/
  | todSet (src : Src) (value : Word)
  /-- READ (R319). A register frame READ reads one register. -/
  | read (dt : Nat) (q : RegReq)
  /-- WRITE (R319). A register frame WRITE writes one register. -/
  | write (dt : Nat) (q : RegReq)
  /-- RMW (R319). A register frame RMW reads a register and writes it under a mask with no other access between. -/
  | rmw (dt : Nat) (q : RegReq)
  /-- BLOCK_READ (R321). A register frame BLOCK_READ reads count consecutive registers in consecutive path cycles. -/
  | blockRead (dt : Nat) (q : RegReq)
  /-- SYNC (R322). A register frame SYNC sets the source's expected seq and clears its stored response. -/
  | sync (dt : Nat) (q : RegReq)
  /-- EVENT_ACK (R329). EVENT_ACK acknowledges the pending event frame. -/
  | eventAck (dt : Nat) (q : RegReq)
  /-- SIDEBAND_REGISTER_FRAME (R334). A PLDM type 63 message carries one register-frame body and returns its response. -/
  | sidebandRegisterFrame (dt : Nat) (m : SidebandMsg)
  /-- BUDGET_EFFECTER (R391). The sideband power effecter sets ENG_BUDGET, which takes effect at the next frame boundary. -/
  | budgetEffecter (watts frames : Nat)
  /-- RDMA_WRITE (R326). An RDMA WRITE message is range- and rights-checked and written to memory. -/
  | rdmaWrite (dt : Nat) (m : RdmaPut)
  /-- RDMA_WRITE_ACK (R327). A WRITE is acknowledged once every stack controller has accepted its last line. -/
  | rdmaWriteAck (dt qp : Nat)
  /-- RDMA_READ_REQUEST (R326). An RDMA READ request is checked and answered with read responses. -/
  | rdmaReadRequest (dt : Nat) (m : RdmaMsg) (errs : List (Nat × SymErrs))
  /-- QP_RESET (R325). Queue pair PAGE_CTL.reset returns the queue pair to RESET and clears its freeze, PSN and outstanding reads. -/
  | qpReset (src : Src) (qp : Nat)
  /-- EVENT_FRAME_SEND (R329). An event frame is sent when 32 entries are unsent or 50 µs have passed since the oldest was logged. -/
  | eventFrameSend (dt : Nat)
  /-- EVENT_FRAME_RESEND (R329). An unacknowledged event frame is resent every 2 ms, and the sender stalls after eight sends. -/
  | eventFrameResend (dt : Nat)
  /-- PREPARE (R332). HA_ADM_CMD PREPARE generates a fresh X448 admission key pair. -/
  | prepare (src : Src)
  /-- INSTALL (R332). HA_ADM_CMD INSTALL unwraps the CAK and installs it on the interfaces in the mask, or raises adm_reject. -/
  | install (src : Src)
  /-- ADM_REVOKE (R332). HA_ADM_CMD REVOKE erases every CAK and SAK and takes MACsec down. -/
  | admRevoke (src : Src)
  /-- SAK_INSTALL (R331). An SAK that the host distributes over MKA is installed in the data path. -/
  | sakInstall (intf an : Nat) (sak : Sak) (pn : Nat)
  /-- SOURCE_RESET (R323). HA_SRC_CTL.reset clears a source's freeze, expected seq and stored response. -/
  | sourceReset (src : Src) (source : Nat)
  /-- CAIRN_SEAL (R342). An OPEN slot seals once its moves, core latches and loss stamp are complete. -/
  | cairnSeal (dt slot : Nat)
  /-- RESTORE (R346). CAIRN_CMD RESTORE checks the slot and starts a restore, or rejects it with restore_reject. -/
  | restore (src : CrestCmd) (value : Word)
  /-- VOID (R345). CAIRN_CMD VOID voids a SEALED or OPEN slot. -/
  | void (src : CrestCmd) (value : Word)
  /-- REINSTATE_DONE (R347). Reinstating completes, and the Crest resets the partitions and writes back the core part and J. -/
  | reinstateDone (dt : Nat) (errs : List (Nat × SymErrs))
  /-- RESTORE_RESTART (R347). At the restart boundary the held partitions run. -/
  | restoreRestart
  /-- PAIR_COMMIT_MSG (R355). A commit-record pair message is compared with the device's own for the same shard and step. -/
  | pairCommitMsg (dt link : Nat) (m : PairMsg)
  /-- PAIR_TRACE_MSG (R355). A device-trace pair message is compared with the device's own for the same frame. -/
  | pairTraceMsg (dt link : Nat) (m : PairMsg)
  /-- PAIR_LOSS_MSG (R355). A loss pair message is compared with the device's own for the same job and step. -/
  | pairLossMsg (dt link : Nat) (m : PairMsg)
  /-- PAIR_SEAL_MSG (R355). A seal pair message is compared with the device's own, and equal values set pair_matched. -/
  | pairSealMsg (dt link : Nat) (m : PairMsg)
  /-- PAIR_DIVERGENCE_MSG (R357). Tile digests, a candidate slot or a recompute verdict are exchanged during divergence handling. -/
  | pairDivergenceMsg (dt link : Nat) (m : DivMsg)
  /-- PAIR_TIMEOUT (R355). The partner has not sent a value within 64 frames, so pair_timeout is raised and the comparison dropped. -/
  | pairTimeout (key : Nat)
  /-- PRIMARY_FAULT_MSG (R356). The primary-fault message received by a secondary is the takeover signal. -/
  | primaryFaultMsg (dt link : Nat) (cause : Word)
  /-- PAIR_SILENCE (R356). With silence set, two ticks without a marker from the primary act as the takeover signal. -/
  | pairSilence (dt : Nat)
  /-- HANDOVER (R356). PAIR_CTL.handover makes the primary send the primary-fault message. -/
  | handover (src : Src)
  /-- RELEASE (R358). PAIR_CTL.release takes the device out of HELD. -/
  | release (src : Src)
  /-- RECOMPUTE_DONE (R359). The recompute of the disputed granule finishes, and the verdicts decide the outcome. -/
  | recomputeDone (dt : Nat) (q : Recompute)
  /-- CORE_FAIL (R360). A core fails in service, freezing its partition and starting a spare fill or a grid loss. -/
  | coreFail (dt : Nat) (core : PhysCore)
  /-- SPARE_FILL_DONE (R360). A spare fill completes and the partition is restored from its last sealed Cairn. -/
  | spareFillDone (dt : Nat) (fill : FillEnd)
  /-- RNG_KEY_COMMIT (R365). A write of RNG_KEY word 3 commits the stream key at the next frame boundary. -/
  | rngKeyCommit (src : Src) (stream : Nat) (value : Word)
  /-- CORE_RESET (R376). CORE PAGE_CTL.reset starts a core reset where permitted, or raises access_ignored. -/
  | coreReset (src : Src) (core : Nat)
  /-- CLUSTER_RESET (R376). CLUSTER PAGE_CTL.reset starts a cluster reset where permitted, or raises reset_ignored. -/
  | clusterReset (src : Src) (cluster : Nat)
  /-- PARTITION_RESET (R378). PART PAGE_CTL.reset starts a partition reset. -/
  | partitionReset (src : Src) (part : Nat)
  /-- DRAIN_END (R377). The drain of a resetting region ends when no leaving flit remains, or when its window elapses. -/
  | drainEnd (dt : Nat) (region : Region)
  /-- RESET_COMPLETE (R378). A core, cluster or partition reset completes and its region takes its state afterwards. -/
  | resetComplete (dt : Nat) (region : Region)
  /-- POWER_STATE_REQUEST (R383). A write to PART_PWR.target requests a power state, or raises pwr_reject. -/
  | powerStateRequest (src : Src) (part : Nat) (value : Word)
  /-- POWER_TRANSITION_DONE (R383). A power-state entry or exit completes. -/
  | powerTransitionDone (dt part : Nat)
  /-- STAGE (R411). SEC_CMD STAGE verifies a package and writes it to the inactive flash slot. -/
  | stage (src : CrestCmd)
  /-- STAGE_DONE (R411). The staged package has been written and read back, and the update state becomes STAGED. -/
  | stageDone (dt : Nat) (ok : Bool)
  /-- UPDATE_ABORT (R411). SEC_CMD ABORT returns the update state to NONE. -/
  | updateAbort (src : Src)
  /-- ACTIVATE (R412). SEC_CMD ACTIVATE marks the staged slot as trial and starts a warm reset. -/
  | activate (src : Src)
  /-- COMMIT_SVN (R411). SEC_CMD COMMIT_SVN blows anti-rollback fuses up to the running svn. -/
  | commitSvn (src : Src)
  /-- REVOKE (R414). SEC_CMD REVOKE blows the revocation fuse of a key slot under a signed blob. -/
  | revoke (src : Src)
  /-- CHALLENGE (R411). SEC_CMD CHALLENGE produces 32 fresh random bytes in SEC_CHAL. -/
  | challenge (src : Src)
  /-- JTAG_UNLOCK (R414). SEC_CMD JTAG_UNLOCK unlocks JTAG under a signed blob and extends M7. -/
  | jtagUnlock (src : Src)
  /-- EXTEND (R409). SEC_CMD EXTEND extends M6 with SEC_BLOB bytes 0–63. -/
  | extend (src : Src)
  /-- TRIAL_TIMEOUT (R412). A trial boot that has not succeeded within 1.3 s falls back to the previous slot. -/
  | trialTimeout (dt : Nat)
  /-- ATTEST_REQUEST (R416). A write to ATTEST_NONCE word 15 latches the nonce and starts a report. -/
  | attestRequest (src : Src) (value : Word)
  /-- ATTEST_REPORT_DONE (R417). The signed attestation report is complete, and ATTEST_STAT.valid is set. -/
  | attestReportDone (dt : Nat)
  /-- BOOT_REQ (R407). During network boot, the boot ROM sends BOOT_REQ every 100 ms. -/
  | bootReq (dt : Nat)
  /-- BOOT_DATA (R407). A BOOT_DATA frame delivers one 1,024-byte block of the package. -/
  | bootData (block : Nat) (bytes : List Byte)
  /-- COALESCER_TAKE (R425). The coalescer takes one report from its queue and counts it, creates an entry, or drops it in a storm. -/
  | coalescerTake
  /-- FATAL_EVENT_LOG (R439). In the cycle after a device-fatal report, event 0x0003 is logged. -/
  | fatalEventLog
  /-- INT_ACK (R426). FLT_CTL.int_ack clears int_pending. -/
  | intAck (src : Src)
  /-- FLT_CLEAR (R425). FLT_CTL.clear frees the selected coalescer entry from the next cycle. -/
  | fltClear (src : Src)
  /-- STORM_CLEAR (R433). FLT_CTL.storm_clear clears the storm flag. -/
  | stormClear (src : Src)
  /-- FLT_LOG_READ (R427). A read of FLT_LOG_DATA returns an event-log entry and marks it read. -/
  | fltLogRead (src : Src) (word : Nat)
  /-- DIGEST_MSG (R431). A received shared-digest message is compared with the device's own for the same frame. -/
  | digestMsg (dt link : Nat) (frame : Word) (layout : Dword) (digest : Dword) (replayed : Bool)
  /-- LOSS_OF_HBM_TRAINING (R251). A stack that loses its training in service raises train_fail, a device-fatal cause, and READY falls. -/
  | lossOfHbmTraining (dt stack pseudo : Nat)
  /-- MANAGEMENT_MEMORY_ERROR (R388). An error in a management core's memory is corrected and counted in CREST_MCE (mem_ce), or halts the core as a device-fatal mem_ue. -/
  | managementMemoryError (core : Nat) (corrected : Bool)
  /-- BRINGUP_BOUND (R386). Ready has not been reached within the bound of the bring-up or warm-reset path, so bringup_bound is raised. -/
  | bringupBound (step : Nat)
  /-- MKA_SESSION_LOSS (R331). An interface's live MKA session ends, and the interface then sends no frame and accepts only EAPOL frames. -/
  | mkaSessionLoss (dt intf : Nat)
  deriving DecidableEq, Repr

end Sys2Proof
end

