-- ==== Sys2Proof/Decode.lean ====
section
/-! DEFINITION. Words of the opcode table. -/

namespace Sys2Proof

/-- The command that a word spells: none. The commands of this block come to it as events and register accesses, and
spec/opcode_table.json gives no row any bits (log entry 9). The instruction words of a core are decoded where the core
issues them (Machine/Operands.lean). -/
def decodeTableWord (_nbits _w : Nat) : Option Instr := none

end Sys2Proof
end

