-- ==== Sys2Proof/Machine/Sparse.lean ====
section
/-! DEFINITION. Sparse storage: a list of (key, value) pairs in one canonical form. Keys rise strictly, and no entry
equals what an unlisted key reads as. Memories, registers and the per-unit states are held so. -/

namespace Sys2Proof.Machine

/-- The value at a key; an unlisted key reads as its default. -/
def sget {α : Type} (dflt : Nat → α) : List (Nat × α) → Nat → α
  | [], k => dflt k
  | (k', v) :: t, k => if k = k' then v else if k < k' then dflt k else sget dflt t k

/-- `e` in front of `t`, unless it equals the default of its key. -/
def sconsNonDefault {α : Type} [DecidableEq α] (dflt : Nat → α) (k : Nat) (v : α) (t : List (Nat × α)) :
    List (Nat × α) :=
  if v = dflt k then t else (k, v) :: t

/-- Store a value at a key, keeping the canonical form. -/
def sset {α : Type} [DecidableEq α] (dflt : Nat → α) : List (Nat × α) → Nat → α → List (Nat × α)
  | [], k, v => sconsNonDefault dflt k v []
  | (k', v') :: t, k, v =>
    if k = k' then sconsNonDefault dflt k v t
    else if k < k' then sconsNonDefault dflt k v ((k', v') :: t)
    else (k', v') :: sset dflt t k v

/-- Remove every key of which `p` holds (those keys read as their default again). -/
def sdrop {α : Type} (p : Nat → Bool) (l : List (Nat × α)) : List (Nat × α) :=
  l.filter fun e => !p e.1

/-- Keys all above a bound. -/
def saboveB {α : Type} (lo : Nat) (l : List (Nat × α)) : Bool := l.all fun e => decide (lo < e.1)

/-- The canonical form: keys strictly rising, no entry equal to its default. -/
def swf {α : Type} [DecidableEq α] (dflt : Nat → α) : List (Nat × α) → Bool
  | [] => true
  | (k, v) :: t => !decide (v = dflt k) && saboveB k t && swf dflt t

/-- Byte memory: an unlisted address reads 0. -/
def memZero : Nat → Byte := fun _ => 0

/-- `n` bytes from an address. -/
def memBytes (m : List (Nat × Byte)) (a : Nat) : Nat → List Byte
  | 0 => []
  | n + 1 => sget memZero m a :: memBytes m (a + 1) n

/-- Store bytes from an address upwards. -/
def memPut (m : List (Nat × Byte)) (a : Nat) : List Byte → List (Nat × Byte)
  | [] => m
  | b :: t => memPut (sset memZero m a b) (a + 1) t

/-- Little-endian value of a list of bytes (R10). -/
def leNat : List Byte → Nat
  | [] => 0
  | b :: t => b.toNat + 256 * leNat t

/-- The `n` little-endian bytes of a number (R10). -/
def leBytes : Nat → Nat → List Byte
  | 0, _ => []
  | n + 1, x => BitVec.ofNat 8 x :: leBytes n (x / 256)

/-- Big-endian value of a list of bytes, for standard network fields. -/
def beNat (l : List Byte) : Nat := leNat l.reverse

/-- The `n` big-endian bytes of a number. -/
def beBytes (n x : Nat) : List Byte := (leBytes n x).reverse

/-- A 64-byte line from memory. -/
def memLine (m : List (Nat × Byte)) (a : Nat) : Line := BitVec.ofNat 512 (leNat (memBytes m a 64))

/-- Store a 64-byte line. -/
def memPutLine (m : List (Nat × Byte)) (a : Nat) (x : Line) : List (Nat × Byte) := memPut m a (leBytes 64 x.toNat)

/-- Drop the first element of which `p` holds. -/
def eraseFirst {α : Type} (p : α → Bool) : List α → List α
  | [] => []
  | a :: t => if p a then t else a :: eraseFirst p t

/-- XOR of a list of 64-bit words. -/
def xorAll (l : List Dword) : Dword := l.foldl (· ^^^ ·) 0

/-- Rotate a 64-bit word left (R105). -/
def rotl64 (x : Dword) (n : Nat) : Dword := x.rotateLeft n

/-- Two's complement value of the low `w` bits. -/
def signed (w x : Nat) : Int := if x % 2 ^ w < 2 ^ (w - 1) then (x % 2 ^ w : Nat) else ((x % 2 ^ w : Nat) : Int) - (2 ^ w : Nat)

/-- The `w`-bit two's complement of an integer. -/
def toBits (w : Nat) (x : Int) : Nat := (x % (2 ^ w : Nat)).toNat

/-- Least `n` with `2 ^ n ≥ x`. -/
def ceilLog2 (x : Nat) : Nat := if x ≤ 1 then 0 else Nat.log2 (x - 1) + 1

/-- Ceiling division. -/
def ceilDiv (a b : Nat) : Nat := (a + b - 1) / b

end Sys2Proof.Machine
end

