-- ==== Sys2Proof/Machine/Crypto.lean ====
section
/-! DEFINITION. The standard algorithms that the spec names: SHAKE256 (FIPS 202) and AES (FIPS 197), on byte lists.
PRESUMED from the standards the spec cites (log entry 10). -/

namespace Sys2Proof.Machine

/-! SHAKE256: the Keccak-f[1600] permutation on 25 lanes, rate 136 bytes. -/

/-- Rotation offsets of the rho step, lane x + 5y. -/
def keccakRho : List Nat := [0, 1, 62, 28, 27, 36, 44, 6, 55, 20, 3, 10, 43, 25, 39, 41, 45, 15, 21, 8, 18, 2, 61, 56, 14]

/-- Round constants of the iota step. -/
def keccakRc : List Nat :=
  [0x1, 0x8082, 0x800000000000808A, 0x8000000080008000, 0x808B, 0x80000001, 0x8000000080008081, 0x8000000000008009,
   0x8A, 0x88, 0x80008009, 0x8000000A] ++
  [0x8000808B, 0x800000000000008B, 0x8000000000008089, 0x8000000000008003, 0x8000000000008002, 0x8000000000000080,
   0x800A, 0x800000008000000A, 0x8000000080008081, 0x8000000000008080, 0x80000001, 0x8000000080008008]

/-- Lane i of a Keccak state. -/
def lane (a : List Nat) (i : Nat) : Nat := a.getD i 0

/-- Rotate a 64-bit number left. -/
def rotN (x n : Nat) : Nat := (x <<< n ||| x >>> (64 - n)) % 2 ^ 64

/-- The theta step. -/
def keccakTheta (a : List Nat) : List Nat :=
  let c := (List.range 5).map fun x => lane a x ^^^ lane a (x + 5) ^^^ lane a (x + 10) ^^^ lane a (x + 15) ^^^ lane a (x + 20)
  let d := (List.range 5).map fun x => lane c ((x + 4) % 5) ^^^ rotN (lane c ((x + 1) % 5)) 1
  (List.range 25).map fun i => lane a i ^^^ lane d (i % 5)

/-- The rho and pi steps: the lane that moves to (x, y) stood at (x + 3y, x). -/
def keccakRhoPi (a : List Nat) : List Nat :=
  (List.range 25).map fun i =>
    let x := i % 5
    let y := i / 5
    let j := (x + 3 * y) % 5 + 5 * x
    rotN (lane a j) (keccakRho.getD j 0)

/-- The chi step. -/
def keccakChi (a : List Nat) : List Nat :=
  (List.range 25).map fun i =>
    let r := 5 * (i / 5)
    lane a i ^^^ ((2 ^ 64 - 1 - lane a (r + (i + 1) % 5)) &&& lane a (r + (i + 2) % 5))

/-- One round with its constant. -/
def keccakRound (a : List Nat) (rc : Nat) : List Nat :=
  match keccakChi (keccakRhoPi (keccakTheta a)) with
  | [] => []
  | x :: t => (x ^^^ rc) :: t

/-- The permutation Keccak-f[1600]. -/
def keccakF (a : List Nat) : List Nat := keccakRc.foldl keccakRound a

/-- XOR a block of 136 bytes into the state. -/
def keccakAbsorb (a : List Nat) (blk : List Byte) : List Nat :=
  (List.range 25).map fun i => lane a i ^^^ (if i < 17 then leNat ((blk.drop (8 * i)).take 8) else 0)

/-- Absorb `n` blocks of 136 bytes. -/
def keccakBlocks : Nat → List Nat → List Byte → List Nat
  | 0, a, _ => a
  | n + 1, a, m => keccakBlocks n (keccakF (keccakAbsorb a (m.take 136))) (m.drop 136)

/-- The message padded for SHAKE256: 0x1F, zeros, and bit 7 of the last byte of the block. -/
def shakePad (m : List Byte) : List Byte :=
  let z := 135 - m.length % 136
  if z = 0 then m ++ [0x9F] else m ++ [0x1F] ++ List.replicate (z - 1) 0 ++ [0x80]

/-- Squeeze `n` blocks. -/
def keccakSqueeze : Nat → List Nat → List Byte
  | 0, _ => []
  | n + 1, a => (a.take 17).flatMap (leBytes 8) ++ keccakSqueeze n (keccakF a)

/-- SHAKE256 with `n` bytes of output. -/
def shake256 (n : Nat) (m : List Byte) : List Byte :=
  let p := shakePad m
  (keccakSqueeze (ceilDiv n 136) (keccakBlocks (p.length / 136) (List.replicate 25 0) p)).take n

/-! AES. -/

/-- Multiply by x in GF(2^8) modulo 0x11B. -/
def gfDouble (a : Nat) : Nat := if a < 128 then 2 * a else (2 * a) ^^^ 0x11B

/-- Multiply in GF(2^8) modulo 0x11B, over the low `n` bits of `b`. -/
def gfMulN : Nat → Nat → Nat → Nat
  | 0, _, _ => 0
  | n + 1, a, b => (if b % 2 = 1 then a else 0) ^^^ gfMulN n (gfDouble a) (b / 2)

/-- Multiply in GF(2^8) modulo 0x11B. -/
def gfMul (a b : Nat) : Nat := gfMulN 8 a b

/-- Inverse in GF(2^8): the 254th power; 0 for 0. -/
def gfInv (a : Nat) : Nat :=
  let a2 := gfMul a a
  let a4 := gfMul a2 a2
  let a8 := gfMul a4 a4
  let a16 := gfMul a8 a8
  let a32 := gfMul a16 a16
  let a64 := gfMul a32 a32
  let a128 := gfMul a64 a64
  gfMul a128 (gfMul a64 (gfMul a32 (gfMul a16 (gfMul a8 (gfMul a4 a2)))))

/-- Rotate a byte left. -/
def rotByte (x n : Nat) : Nat := (x <<< n ||| x >>> (8 - n)) % 256

/-- The S-box: inverse and affine map. -/
def aesSbox (x : Nat) : Nat :=
  let b := gfInv x
  b ^^^ rotByte b 1 ^^^ rotByte b 2 ^^^ rotByte b 3 ^^^ rotByte b 4 ^^^ 0x63

/-- The inverse S-box. -/
def aesInvSbox (y : Nat) : Nat := gfInv (rotByte y 1 ^^^ rotByte y 3 ^^^ rotByte y 6 ^^^ 0x05)

/-- XOR of two byte lists. -/
def xorB (a b : List Nat) : List Nat := List.zipWith (· ^^^ ·) a b

/-- Key expansion: `n` further words after those of `ws` (newest first), key of `nk` words. -/
def aesExpand (nk : Nat) : Nat → Nat → List (List Nat) → List (List Nat)
  | 0, _, ws => ws
  | n + 1, rcon, ws =>
    let i := ws.length
    let t := ws.getD 0 []
    let t' :=
      if i % nk = 0 then
        match (t.drop 1 ++ t.take 1).map aesSbox with
        | [] => []
        | x :: r => (x ^^^ rcon) :: r
      else if nk > 6 ∧ i % nk = 4 then t.map aesSbox
      else t
    aesExpand nk n (if i % nk = 0 then gfDouble rcon else rcon) (xorB (ws.getD (nk - 1) []) t' :: ws)

/-- The first four-byte words of a list. -/
def words4 : Nat → List Nat → List (List Nat)
  | 0, _ => []
  | n + 1, l => l.take 4 :: words4 n (l.drop 4)

/-- Round keys of a 16- or 32-byte key, 16 bytes each, in order. -/
def aesRoundKeys (key : List Nat) : List (List Nat) :=
  let nk := key.length / 4
  let rounds := nk + 6
  let ws := (aesExpand nk (4 * (rounds + 1) - nk) 1 (words4 nk key).reverse).reverse
  (List.range (rounds + 1)).map fun r => ((ws.drop (4 * r)).take 4).flatten

/-- ShiftRows: byte r + 4c comes from column c + r. -/
def aesShift (s : List Nat) : List Nat := (List.range 16).map fun i => s.getD (i % 4 + 4 * ((i / 4 + i % 4) % 4)) 0

/-- Inverse ShiftRows. -/
def aesUnshift (s : List Nat) : List Nat := (List.range 16).map fun i => s.getD (i % 4 + 4 * ((i / 4 + 4 - i % 4) % 4)) 0

/-- MixColumns with the circulant row (a, b, c, d). -/
def aesMix (a b c d : Nat) (s : List Nat) : List Nat :=
  (List.range 16).map fun i =>
    let col := 4 * (i / 4)
    let g := fun k => s.getD (col + (i + k) % 4) 0
    gfMul a (g 0) ^^^ gfMul b (g 1) ^^^ gfMul c (g 2) ^^^ gfMul d (g 3)

/-- AES encryption of one 16-byte block. -/
def aesEnc (key blk : List Nat) : List Nat :=
  match aesRoundKeys key with
  | [] => blk
  | k0 :: ks =>
    let s := (ks.dropLast).foldl (fun s k => xorB (aesMix 2 3 1 1 (aesShift (s.map aesSbox))) k) (xorB blk k0)
    xorB (aesShift (s.map aesSbox)) (ks.getLastD [])

/-- AES decryption of one 16-byte block. -/
def aesDec (key blk : List Nat) : List Nat :=
  match (aesRoundKeys key).reverse with
  | [] => blk
  | k0 :: ks =>
    let s := (ks.dropLast).foldl
      (fun s k => aesMix 14 11 13 9 (xorB ((aesUnshift s).map aesInvSbox) k)) (xorB blk k0)
    xorB ((aesUnshift s).map aesInvSbox) (ks.getLastD [])

/-- AES on byte lists. -/
def aesEncB (key blk : List Byte) : List Byte := (aesEnc (key.map BitVec.toNat) (blk.map BitVec.toNat)).map (BitVec.ofNat 8)

/-- AES decryption on byte lists. -/
def aesDecB (key blk : List Byte) : List Byte := (aesDec (key.map BitVec.toNat) (blk.map BitVec.toNat)).map (BitVec.ofNat 8)

/-! ## AES-256-XTS (IEEE 1619) on one data unit of whole blocks (R245) -/

/-- Multiply an XTS tweak by x: the 16 bytes as a little-endian polynomial. -/
def xtsNext (t : Nat) : Nat := if t < 2 ^ 127 then 2 * t else (2 * t - 2 ^ 128) ^^^ 0x87

/-- Run a block function over the blocks of a unit with the tweaks from `t`. -/
def xtsBlocks (f : List Byte → List Byte) : Nat → Nat → List Byte → List Byte
  | 0, _, _ => []
  | n + 1, t, d =>
    let tb := leBytes 16 t
    List.zipWith (· ^^^ ·) (f (List.zipWith (· ^^^ ·) (d.take 16) tb)) tb ++ xtsBlocks f n (xtsNext t) (d.drop 16)

/-- Encrypt a data unit: 64 key bytes (Key1, Key2), the tweak and the data. -/
def xtsEnc (key : List Byte) (tweak : Nat) (d : List Byte) : List Byte :=
  xtsBlocks (aesEncB (key.take 32)) (d.length / 16) (leNat (aesEncB (key.drop 32) (leBytes 16 tweak))) d

/-- Decrypt a data unit. -/
def xtsDec (key : List Byte) (tweak : Nat) (d : List Byte) : List Byte :=
  xtsBlocks (aesDecB (key.take 32)) (d.length / 16) (leNat (aesEncB (key.drop 32) (leBytes 16 tweak))) d

/-! ## AES-GCM with a 96-bit IV (NIST SP 800-38D) -/

/-- Multiply in GF(2^128) as GCM does: both as 128-bit numbers whose most significant bit is the coefficient of 1. -/
def ghashMul : Nat → Nat → Nat → Nat → Nat
  | 0, _, _, z => z
  | n + 1, x, v, z =>
    let z' := if x.testBit n then z ^^^ v else z
    let v' := if v % 2 = 1 then (v / 2) ^^^ (0xE1 * 2 ^ 120) else v / 2
    ghashMul n x v' z'

/-- GHASH over 16-byte blocks of a padded string. -/
def ghash (h : Nat) : Nat → Nat → List Byte → Nat
  | 0, y, _ => y
  | n + 1, y, d => ghash h n (ghashMul 128 (y ^^^ beNat (d.take 16)) h 0) (d.drop 16)

/-- Pad with zero bytes to whole blocks. -/
def pad16 (d : List Byte) : List Byte := d ++ List.replicate ((16 - d.length % 16) % 16) 0

/-- Counter-mode keystream XORed into the data, from counter block `ctr`. -/
def gcmCtr (key : List Byte) : Nat → Nat → List Byte → List Byte
  | 0, _, _ => []
  | n + 1, ctr, d =>
    List.zipWith (· ^^^ ·) (d.take 16) (aesEncB key (beBytes 16 ctr)) ++ gcmCtr key n (ctr + 1) (d.drop 16)

/-- The tag of a ciphertext with associated data. -/
def gcmTag (key iv aad ct : List Byte) : List Byte :=
  let h := beNat (aesEncB key (List.replicate 16 0))
  let s := pad16 aad ++ pad16 ct ++ beBytes 8 (8 * aad.length) ++ beBytes 8 (8 * ct.length)
  List.zipWith (· ^^^ ·) (beBytes 16 (ghash h (s.length / 16) 0 s)) (aesEncB key (iv ++ beBytes 4 1))

/-- Encrypt: ciphertext (counter from 2). Decryption is the same operation. -/
def gcmCrypt (key iv d : List Byte) : List Byte :=
  gcmCtr key ((d.length + 15) / 16) (beNat iv * 2 ^ 32 + 2) d

end Sys2Proof.Machine
end

