-- ==== Sys2Proof/Config.lean ====
section
/-! DEFINITION. The free values: what the spec leaves open and a run still needs. Each is opaque, so no proof can see
what it is; `n` is the counter of free values drawn (`State.free`, log entry 3). -/

namespace Sys2Proof.Config

open Sys2Proof

/-- EXP, in units in the last place from the rounded exact result (R145: within 2 ulp; the function is fixed). -/
opaque expUlp : Word → Int
/-- LOG, as `expUlp`. -/
opaque logUlp : Word → Int
/-- RSQRT, as `expUlp`. -/
opaque rsqrtUlp : Word → Int
/-- RECIP, as `expUlp`. -/
opaque recipUlp : Word → Int
/-- TANH, as `expUlp`. -/
opaque tanhUlp : Word → Int
/-- SIGMOID, as `expUlp`. -/
opaque sigmoidUlp : Word → Int
/-- Random bytes from the Crest's generator (keys, challenges, salts): the `n`th draw. -/
opaque randomByte : Nat → Nat → Byte
/-- The bytes with which a line is ciphered under a generation that holds no key: no rule states them. -/
opaque erasedKey : Nat → Byte
/-- sqrt of −0 and of a negative value in the optimiser routines, which R216 does not state. -/
opaque sqrtOther : Word → Word
/-- Pseudo-channel of a line of a stack: the controller's fixed internal function (R229, R243). -/
opaque pseudoChannel : Nat → Nat → BitVec 5
/-- What the check of a core SRAM word finds when a register access reads it (R85, R109): the `n`th draw. -/
opaque sramEcc : Nat → Ecc
/-- A value of the n-th draw that no rule states. -/
opaque freeNat : Nat → Nat

/-- Where the stream records of a Cairn slot begin, by its layout identifier and their count (Table 12.2 names no
offset). -/
opaque streamRecords : Nat → Nat → BitVec 40
/-- Reinstatement entries of a capture, by image identifier and slot (Table 12.2 does not say where the Crest takes the
count from). -/
opaque reinstatements : Nat → Nat → BitVec 16

/-- Which of the microcode headers in the body of stage 2 is the one carried, which R401 and R374 do not state. -/
opaque microcodeAt : List Byte → Nat
/-- The ENG_EVT entries, by class, that the body of a stage 2 carries; R390 and R401 state no place for them. -/
opaque eventCharges : List Byte → List Word
/-- Byte `i` of physical HBM line `a` where its decode fails and a command without an operand for it reads on (R242). -/
opaque badByte : Nat → Nat → Byte
/-- The bytes of which M0's extension is the digest: of the fused key digests, programmed fuses, revocation fuses,
anti-rollback count, variant (H) and BOOT_SRC; Table 15.2 states no layout. -/
opaque m0Bytes : List (List Byte) → BitVec 3 → BitVec 3 → Nat → Bool → Nat → List Byte

end Sys2Proof.Config
end

