-- ==== Sys2Proof/Machine/Numerics.lean ====
section
/-! DEFINITION. Element encodings, exact arithmetic, rounding and narrowing (05_numerics.md). A finite value is a sign,
a natural mantissa and an exponent of 2, so every product and sum is exact before its one rounding. -/

namespace Sys2Proof.Machine

open Sys2Proof

/-- A decoded value: ± m·2^e, an infinity, or NaN (R134). -/
inductive Num where
  | fin (neg : Bool) (m : Nat) (e : Int)
  | inf (neg : Bool)
  | nan
  deriving DecidableEq, Repr

/-- A floating-point element format (Table 5.1): exponent bits, bias, mantissa bits, largest finite value as
`maxM · 2^maxE`, and whether it has infinities. -/
structure FloatFmt where
  ebits : Nat
  bias : Nat
  mbits : Nat
  maxM : Nat
  maxE : Int
  hasInf : Bool
  /-- Canonical NaN (R136); 0 where the format has none (Table 5.3). -/
  nanBits : Nat
  deriving DecidableEq, Repr

def fp32 : FloatFmt := ⟨8, 127, 23, 2 ^ 24 - 1, 104, true, 0x7FC00000⟩
def bf16 : FloatFmt := ⟨8, 127, 7, 2 ^ 8 - 1, 120, true, 0x7FC0⟩
def fp16 : FloatFmt := ⟨5, 15, 10, 2 ^ 11 - 1, 5, true, 0x7E00⟩
def e4m3 : FloatFmt := ⟨4, 7, 3, 14, 5, false, 0x7F⟩
def e5m2 : FloatFmt := ⟨5, 15, 2, 7, 13, true, 0x7E⟩
def e2m1 : FloatFmt := ⟨2, 1, 1, 3, 1, false, 0⟩

/-- The format of a descriptor's fmt code (Table 3.5). -/
inductive Fmt where
  | flt (f : FloatFmt) (mx : Bool)
  | int (w : Nat)
  | e8m0
  | reserved
  deriving DecidableEq, Repr

/-- Table 3.5. -/
def fmtOf (code : Nat) : Fmt :=
  match code with
  | 0 => .flt fp32 false
  | 1 => .flt bf16 false
  | 2 => .flt fp16 false
  | 3 => .flt e4m3 false
  | 4 => .flt e5m2 false
  | 5 => .flt e4m3 true
  | 6 => .flt e5m2 true
  | 7 => .flt e2m1 true
  | 8 => .int 8
  | 9 => .int 4
  | 10 => .int 32
  | 11 => .e8m0
  | _ => .reserved

/-- Element width in bits; 0 for a reserved code. -/
def fmtWidth (code : Nat) : Nat :=
  match fmtOf code with
  | .flt f _ => 1 + f.ebits + f.mbits
  | .int w => w
  | .e8m0 => 8
  | .reserved => 0

/-- floor(log2 (m·2^e)) of a non-zero value. -/
def flog2 (m : Nat) (e : Int) : Int := (Nat.log2 m : Int) + e

/-- Decode an element of a floating-point format (R134). -/
def decodeFloat (f : FloatFmt) (x : Nat) : Num :=
  let neg := bitOf x (f.ebits + f.mbits)
  let ex := bitsOf x (f.ebits + f.mbits - 1) f.mbits
  let man := x % 2 ^ f.mbits
  if ex = 2 ^ f.ebits - 1 ∧ f.hasInf then (if man = 0 then .inf neg else .nan)
  else if f.nanBits ≠ 0 ∧ f.hasInf = false ∧ x % 2 ^ (f.ebits + f.mbits) = f.nanBits then .nan
  else if ex = 0 then .fin neg man (1 - (f.bias : Int) - f.mbits)
  else .fin neg (2 ^ f.mbits + man) ((ex : Int) - f.bias - f.mbits)

/-- Decode an integer element. -/
def decodeInt (w x : Nat) : Num :=
  let v := signed w x
  .fin (decide (v < 0)) v.natAbs 0

/-- Decode an element of a format code, without its block scale. -/
def decodeElem (code x : Nat) : Num :=
  match fmtOf code with
  | .flt f _ => decodeFloat f x
  | .int w => decodeInt w x
  | .e8m0 => if x = 0xFF then .nan else .fin false 1 ((x : Int) - 127)
  | .reserved => .nan

/-- Encode a representable value m·2^e of a floating-point format. -/
def encodeFin (f : FloatFmt) (neg : Bool) (m : Nat) (e : Int) : Nat :=
  let sgn := if neg then 2 ^ (f.ebits + f.mbits) else 0
  if m = 0 then sgn
  else
    let p := flog2 m e
    if p < 1 - (f.bias : Int) then
      sgn + m * 2 ^ (e - (1 - (f.bias : Int) - f.mbits)).toNat / 2 ^ ((1 - (f.bias : Int) - f.mbits) - e).toNat
    else
      let l := Nat.log2 m
      let man := if l ≤ f.mbits then m * 2 ^ (f.mbits - l) else m / 2 ^ (l - f.mbits)
      sgn + (p + f.bias).toNat * 2 ^ f.mbits + man % 2 ^ f.mbits

/-- Spacing exponent of the target at a magnitude (R148 item 1). -/
def spacing (f : FloatFmt) (m : Nat) (e : Int) : Int :=
  let lo := 1 - (f.bias : Int) - f.mbits
  if m = 0 then lo else max lo (flog2 m e - f.mbits)

/-- Round m·2^e to a multiple of 2^g, to nearest even (R147): the multiple. -/
def roundEven (m : Nat) (e g : Int) : Nat :=
  if g ≤ e then m * 2 ^ (e - g).toNat
  else
    let k := (g - e).toNat
    let q := m / 2 ^ k
    let r := m % 2 ^ k
    if 2 * r < 2 ^ k then q else if 2 * r > 2 ^ k then q + 1 else q + q % 2

/-- Round m·2^e to a multiple of 2^g, stochastically with 16 random bits (R148): the multiple. -/
def roundStoch (m : Nat) (e g : Int) (u : Nat) : Nat :=
  if g ≤ e then m * 2 ^ (e - g).toNat
  else
    let k := (g - e).toNat
    let q := m / 2 ^ k
    let fr := (m % 2 ^ k) * 2 ^ 16 / 2 ^ k
    if fr + u ≥ 2 ^ 16 then q + 1 else q

/-- m·2^e is greater than m'·2^e'. -/
def gtMag (m : Nat) (e : Int) (m' : Nat) (e' : Int) : Bool :=
  let k := min e e'
  decide (m * 2 ^ (e - k).toNat > m' * 2 ^ (e' - k).toNat)

/-- Round to FP32 without saturation, as the accumulator and the vector unit do (R143). -/
def roundFp32 : Num → Word
  | .nan => 0x7FC00000
  | .inf neg => if neg then 0xFF800000 else 0x7F800000
  | .fin neg m e =>
    let g := spacing fp32 m e
    let q := roundEven m e g
    if gtMag q g fp32.maxM fp32.maxE then (if neg then 0xFF800000 else 0x7F800000)
    else BitVec.ofNat 32 (encodeFin fp32 neg q g)

/-- An FP32 word decoded. -/
def num32 (x : Word) : Num := decodeFloat fp32 x.toNat

/-- Negate. -/
def Num.neg : Num → Num
  | .fin s m e => .fin (!s) m e
  | .inf s => .inf (!s)
  | .nan => .nan

/-- The integer m·2^(e-k), signed. -/
def sgnMant (neg : Bool) (m : Nat) (e k : Int) : Int :=
  let v : Int := (m * 2 ^ (e - k).toNat : Nat)
  if neg then -v else v

/-- Exact sum (R143): opposite infinities give NaN; a zero sum is +0 unless every term is −0. -/
def Num.add : Num → Num → Num
  | .nan, _ => .nan
  | _, .nan => .nan
  | .inf a, .inf b => if a = b then .inf a else .nan
  | .inf a, _ => .inf a
  | _, .inf b => .inf b
  | .fin s m e, .fin s' m' e' =>
    let k := min e e'
    let v := sgnMant s m e k + sgnMant s' m' e' k
    if v = 0 then .fin (s && s' && m == 0 && m' == 0) 0 0 else .fin (decide (v < 0)) v.natAbs k

/-- Exact product (R143): an infinity times a zero gives NaN. -/
def Num.mul : Num → Num → Num
  | .nan, _ => .nan
  | _, .nan => .nan
  | .inf a, .inf b => .inf (a != b)
  | .inf a, .fin s m _ => if m = 0 then .nan else .inf (a != s)
  | .fin s m _, .inf b => if m = 0 then .nan else .inf (s != b)
  | .fin s m e, .fin s' m' e' => .fin (s != s') (m * m') (e + e')

/-- `a` before `b`, −0 below +0, neither NaN (R145). -/
def Num.lt : Num → Num → Bool
  | .inf a, .inf b => a && !b
  | .inf a, _ => a
  | _, .inf b => !b
  | .fin s m e, .fin s' m' e' =>
    let k := min e e'
    let v := sgnMant s m e k
    let v' := sgnMant s' m' e' k
    decide (v < v') || (decide (v = v') && m == 0 && m' == 0 && s && !s')
  | _, _ => false

/-- max and min (R145): NaN if either input is NaN. -/
def Num.maxOf (a b : Num) : Num := if a = .nan ∨ b = .nan then .nan else if a.lt b then b else a
def Num.minOf (a b : Num) : Num := if a = .nan ∨ b = .nan then .nan else if b.lt a then b else a

/-- Scale by 2^k. -/
def Num.scale (k : Int) : Num → Num
  | .fin s m e => .fin s m (e + k)
  | x => x

/-- The value is a zero. -/
def Num.isZero : Num → Bool
  | .fin _ m _ => m == 0
  | _ => false

/-- The value is infinite or NaN. -/
def Num.nonFinite : Num → Bool
  | .fin .. => false
  | _ => true

/-- What narrowing one element did: the encoded element, and how the numerics monitor counts it (Table 5.3). -/
structure Narrowed where
  bits : Nat
  saturated : Bool
  nonFinite : Bool
  deriving DecidableEq, Repr

/-- Rounding of one element: to nearest even, or stochastic with its 16 random bits. -/
inductive Rnd where
  | even
  | stoch (u : Nat)
  deriving DecidableEq, Repr

/-- Round m·2^e to a multiple of 2^g. -/
def Rnd.round (r : Rnd) (m : Nat) (e g : Int) : Nat :=
  match r with
  | .even => roundEven m e g
  | .stoch u => roundStoch m e g u

/-- Narrow into a floating-point format other than FP32 (R146 to R150). -/
def narrowFloat (f : FloatFmt) (r : Rnd) : Num → Narrowed
  | .nan => ⟨f.nanBits, false, true⟩
  | .inf neg =>
    if f.hasInf then ⟨(if neg then 2 ^ (f.ebits + f.mbits) else 0) + (2 ^ f.ebits - 1) * 2 ^ f.mbits, false, true⟩
    else ⟨encodeFin f neg f.maxM f.maxE, true, false⟩
  | .fin neg m e =>
    let g := spacing f m e
    let q := r.round m e g
    if gtMag q g f.maxM f.maxE then ⟨encodeFin f neg f.maxM f.maxE, true, false⟩
    else ⟨encodeFin f neg q g, false, false⟩

/-- Limit a signed integer to `w` bits (R150, R144): the limited value, and whether it was limited. -/
def clampInt (w : Nat) (v : Int) : Int × Bool :=
  let hi : Int := 2 ^ (w - 1) - 1
  let lo : Int := -(2 ^ (w - 1))
  if v > hi then (hi, true) else if v < lo then (lo, true) else (v, false)

/-- Narrow into an integer format (R148, R150). -/
def narrowInt (w : Nat) (r : Rnd) : Num → Narrowed
  | .nan => ⟨0, false, true⟩
  | .inf neg => ⟨toBits w (if neg then -(2 ^ (w - 1)) else 2 ^ (w - 1) - 1), true, false⟩
  | .fin neg m e =>
    let q : Int := r.round m e 0
    let (v, sat) := clampInt w (if neg then -q else q)
    ⟨toBits w v, sat, false⟩

/-- Write an FP32 result into a tile of a format code (R146): FP32 unchanged, else narrowed. INT32 from FP32 rounds
to an integer and limits as the other integer formats do (log entry 11). -/
def narrowTo (code : Nat) (r : Rnd) (x : Word) : Narrowed :=
  match fmtOf code with
  | .flt f _ => if f = fp32 then ⟨x.toNat, false, (num32 x).nonFinite⟩ else narrowFloat f r (num32 x)
  | .int w => narrowInt w r (num32 x)
  | .e8m0 => ⟨0, false, false⟩
  | .reserved => ⟨0, false, false⟩

/-- Widen an element to FP32 (R145): exact, but INT32 rounds to nearest even. -/
def widen32 (code x : Nat) : Word := roundFp32 (decodeElem code x)

/-! FP32 operations of the vector unit (R145): one rounding to nearest even each. -/

def fadd (a b : Word) : Word := roundFp32 ((num32 a).add (num32 b))
def fsub (a b : Word) : Word := roundFp32 ((num32 a).add (num32 b).neg)
def fmul (a b : Word) : Word := roundFp32 ((num32 a).mul (num32 b))
def ffma (a b c : Word) : Word := roundFp32 (((num32 a).mul (num32 b)).add (num32 c))
def fmax (a b : Word) : Word := roundFp32 ((num32 a).maxOf (num32 b))
def fmin (a b : Word) : Word := roundFp32 ((num32 a).minOf (num32 b))

/-- floor(log2 |v|) of a finite non-zero value. -/
def Num.flog2? : Num → Option Int
  | .fin _ m e => if m = 0 then none else some (flog2 m e)
  | _ => none

/-- The E8M0 scale exponent of a block (R141). -/
def blockScale (eMax : Int) (vs : List Num) : Nat :=
  match (vs.filterMap Num.flog2?).foldl (fun (a : Option Int) x => some (match a with | none => x | some y => max x y)) none with
  | none => 0x7F
  | some l => (127 + max (-127) (min 127 (l - eMax))).toNat

/-- The histogram bin of a non-zero finite value (R152), base in two's complement. -/
def histBin (base : Nat) (l : Int) : Nat := (max 0 (min 31 (l - signed 8 base))).toNat

end Sys2Proof.Machine
end

