-- ==== Sys2Proof/Machine/RegTable.lean ====
section
/-! DEFINITION. The register tables of every page class, transcribed from the spec's tables: offset, reset value,
writable fields and retention class (R16, R19, R21). -/

namespace Sys2Proof.Machine

/-- One register of a page: offset, stride and count of an array, reset value, RW bits, W1C bits, WO bits,
retention class code of PAGE_RETAIN (0 scope, 1 K, 2 W, 3 P, 4 L, 5 V), and its half of a 64-bit pair (R18:
1 the _LO, 2 the _HI). -/
structure RegRow where
  off : Nat
  stride : Nat
  count : Nat
  reset : Nat
  rw : Nat
  w1c : Nat
  wo : Nat
  ret : Nat
  pair : Nat
  deriving DecidableEq, Repr

/-- The common page header (Table 0.8). -/
def regsHeader : List RegRow :=
  [
   ⟨0x0, 4, 1, 0x1, 0x0, 0x0, 0x0, 1, 0⟩, -- PAGE_ID
   ⟨0x4, 4, 1, 0x0, 0x0, 0x0, 0x0, 1, 0⟩, -- PAGE_CAP
   ⟨0x8, 4, 1, 0x0, 0x1, 0x0, 0x4, 0, 0⟩, -- PAGE_CTL
   ⟨0xC, 4, 1, 0x0, 0x0, 0x0, 0x0, 5, 0⟩, -- PAGE_STAT
   ⟨0x10, 4, 1, 0x0, 0x0, 0xFFFFFFFF, 0x0, 0, 0⟩, -- ERR_SUM
   ⟨0x14, 4, 1, 0x0, 0xFFFFFFFF, 0x0, 0x0, 0, 0⟩, -- ERR_MASK
   ⟨0x18, 4, 1, 0x0, 0x0, 0x0, 0x0, 0, 0⟩, -- ERR_FIRST
   ⟨0x1C, 4, 1, 0x0, 0x0, 0x0, 0x0, 0, 0⟩, -- ERR_CNT
   ⟨0x20, 4, 1, 0x0, 0x0, 0x0, 0x0, 0, 1⟩, -- ERR_TICK_LO
   ⟨0x24, 4, 1, 0x0, 0x0, 0x0, 0x0, 0, 2⟩, -- ERR_TICK_HI
   ⟨0x28, 4, 1, 0x0, 0x0, 0x0, 0x0, 5, 1⟩, -- PAGE_DIGEST_LO
   ⟨0x2C, 4, 1, 0x0, 0x0, 0x0, 0x0, 5, 2⟩ -- PAGE_DIGEST_HI
  ] ++
  [
   ⟨0x30, 4, 1, 0x0, 0x0, 0x0, 0x0, 1, 0⟩ -- PAGE_RETAIN
  ]

/-- The DEVICE page (Table 13.10). -/
def regsDevice : List RegRow :=
  [
   ⟨0x40, 4, 1, 0x0, 0x0, 0x0, 0x0, 1, 0⟩, -- DEV_INFO
   ⟨0x44, 4, 1, 0x0, 0x0, 0x0, 0x0, 5, 0⟩, -- DEV_STAT
   ⟨0x48, 4, 1, 0x1, 0x1, 0x0, 0x0, 2, 0⟩, -- DEV_CFG
   ⟨0x4C, 4, 1, 0x0, 0x0, 0x0, 0x0, 1, 0⟩, -- DEV_RESET
   ⟨0x50, 4, 1, 0x0, 0x0, 0x0, 0x0, 1, 0⟩, -- DEV_BOOT_MS
   ⟨0x54, 4, 1, 0x0, 0x0, 0x0, 0x0, 1, 1⟩, -- DEV_WARM_CNT_LO
   ⟨0x58, 4, 1, 0x0, 0x0, 0x0, 0x0, 1, 2⟩, -- DEV_WARM_CNT_HI
   ⟨0x5C, 4, 1, 0x0, 0x0, 0x0, 0x0, 5, 0⟩, -- DEV_DEFECTS
   ⟨0x60, 4, 16, 0x0, 0x0, 0x0, 0x0, 5, 0⟩, -- DEV_DLOG_DIGEST
   ⟨0xA0, 4, 1, 0x0, 0x0, 0x0, 0x0, 5, 0⟩ -- DEV_DLOG_STAT
  ]

/-- The CREST page (Table 13.14). -/
def regsCrest : List RegRow :=
  [
   ⟨0x40, 4, 1, 0x4, 0x0, 0x0, 0x0, 1, 0⟩, -- CREST_INFO
   ⟨0x44, 4, 1, 0x0, 0x0, 0x0, 0x0, 5, 0⟩, -- CREST_FW
   ⟨0x48, 4, 1, 0x0, 0x0, 0x0, 0x0, 5, 0⟩, -- CREST_HEART
   ⟨0x4C, 4, 1, 0x107D0, 0x1FFFF, 0x0, 0x0, 1, 0⟩, -- CREST_WDOG
   ⟨0x50, 4, 1, 0x0, 0x0, 0x0, 0x0, 5, 0⟩, -- CREST_MCORE
   ⟨0x54, 4, 1, 0x0, 0x0, 0x0, 0x0, 5, 0⟩, -- CREST_TEMP
   ⟨0x58, 4, 1, 0x0, 0x0, 0x0, 0x0, 2, 0⟩, -- CREST_MCE
   ⟨0x60, 4, 4, 0x0, 0xFFFFFFFF, 0x0, 0x0, 1, 0⟩ -- CREST_SCRATCH
  ]

/-- The TICK page (Table 2.13). -/
def regsTick : List RegRow :=
  [
   ⟨0x40, 4, 1, 0x401, 0x0, 0x0, 0x0, 5, 0⟩, -- TICK_CFG
   ⟨0x44, 4, 1, 0x0, 0x3F03, 0x0, 0x0, 2, 0⟩, -- TICK_ROLE
   ⟨0x48, 4, 1, 0x0, 0x0, 0x0, 0x0, 5, 0⟩, -- TICK_STAT
   ⟨0x4C, 4, 1, 0x0, 0x0, 0x0, 0x1, 0, 0⟩, -- TICK_START
   ⟨0x50, 4, 1, 0x0, 0x0, 0x0, 0x0, 5, 1⟩, -- TICK_NOW_LO
   ⟨0x54, 4, 1, 0x0, 0x0, 0x0, 0x0, 5, 2⟩, -- TICK_NOW_HI
   ⟨0x58, 4, 1, 0x0, 0xFFFFFFFF, 0x0, 0x0, 2, 1⟩, -- TICK_BASE_LO
   ⟨0x5C, 4, 1, 0x0, 0xFFFFFFFF, 0x0, 0x0, 2, 2⟩, -- TICK_BASE_HI
   ⟨0x60, 4, 1, 0x0, 0x0, 0x0, 0x0, 5, 0⟩ -- TICK_POS
  ]

/-- The RIDGE page (Table 1.6). -/
def regsRidge : List RegRow :=
  [
   ⟨0x40, 4, 1, 0x1A180000, 0x0, 0x0, 0x0, 1, 0⟩, -- RIDGE_INFO
   ⟨0x44, 4, 1, 0x0, 0x0, 0x0, 0x0, 1, 0⟩, -- RIDGE_ORIGIN
   ⟨0x48, 4, 1, 0x0, 0x0, 0x0, 0x0, 5, 0⟩, -- RIDGE_PART
   ⟨0x4C, 4, 1, 0x0, 0x0, 0x0, 0x0, 5, 0⟩, -- RIDGE_HEALTH
   ⟨0x50, 4, 1, 0x0, 0x0, 0x0, 0x0, 5, 1⟩, -- RIDGE_BYPASS_LO
   ⟨0x54, 4, 1, 0x0, 0x0, 0x0, 0x0, 5, 2⟩, -- RIDGE_BYPASS_HI
   ⟨0x58, 4, 1, 0x0, 0x1F, 0x0, 0x0, 2, 0⟩, -- RIDGE_COLSEL
   ⟨0x5C, 4, 1, 0x0, 0x0, 0x0, 0x0, 5, 0⟩, -- RIDGE_COLMAP
   ⟨0x60, 4, 1, 0x0, 0x0, 0x0, 0x0, 5, 0⟩, -- RIDGE_TEMP
   ⟨0x64, 4, 1, 0x0, 0x0, 0x0, 0x0, 5, 0⟩, -- RIDGE_CURRENT
   ⟨0x68, 4, 1, 0x0, 0x0, 0x0, 0x0, 5, 0⟩ -- RIDGE_SADDLE
  ]

/-- The CLUSTER page (Table 3.19). -/
def regsCluster : List RegRow :=
  [
   ⟨0x40, 4, 1, 0x0, 0x0, 0x0, 0x0, 1, 0⟩, -- CLUSTER_INFO
   ⟨0x44, 4, 1, 0x0, 0x0, 0x0, 0x0, 5, 0⟩, -- CLUSTER_STAT
   ⟨0x48, 4, 1, 0x0, 0x0, 0x0, 0x0, 5, 1⟩, -- CLUSTER_TRACE_LO
   ⟨0x4C, 4, 1, 0x0, 0x0, 0x0, 0x0, 5, 2⟩, -- CLUSTER_TRACE_HI
   ⟨0x50, 4, 1, 0x0, 0x0, 0x0, 0x0, 4, 1⟩, -- CLUSTER_VP_RD_LO
   ⟨0x54, 4, 1, 0x0, 0x0, 0x0, 0x0, 4, 2⟩, -- CLUSTER_VP_RD_HI
   ⟨0x58, 4, 1, 0x0, 0x0, 0x0, 0x0, 4, 1⟩, -- CLUSTER_VP_WR_LO
   ⟨0x5C, 4, 1, 0x0, 0x0, 0x0, 0x0, 4, 2⟩, -- CLUSTER_VP_WR_HI
   ⟨0x60, 4, 1, 0x0, 0x0, 0x0, 0x0, 4, 1⟩, -- CLUSTER_ABSORB_LO
   ⟨0x64, 4, 1, 0x0, 0x0, 0x0, 0x0, 4, 2⟩ -- CLUSTER_ABSORB_HI
  ]

/-- The CORE page (Tables 3.17 and 6.9). -/
def regsCore : List RegRow :=
  [
   ⟨0x40, 4, 1, 0x0, 0x0, 0x0, 0x0, 5, 0⟩, -- CORE_INFO
   ⟨0x44, 4, 1, 0x0, 0x0, 0x0, 0x0, 5, 0⟩, -- CORE_STAT
   ⟨0x48, 4, 1, 0x0, 0x0, 0x0, 0x0, 5, 0⟩, -- CORE_PC
   ⟨0x4C, 4, 1, 0xFFFF, 0x0, 0x0, 0x0, 5, 0⟩, -- CORE_MASK
   ⟨0x50, 4, 1, 0x0, 0x0, 0x0, 0x0, 4, 1⟩, -- CORE_ISSUED_LO
   ⟨0x54, 4, 1, 0x0, 0x0, 0x0, 0x0, 4, 2⟩, -- CORE_ISSUED_HI
   ⟨0x58, 4, 1, 0x0, 0x0, 0x0, 0x0, 5, 1⟩, -- CORE_TRACE_LO
   ⟨0x5C, 4, 1, 0x0, 0x0, 0x0, 0x0, 5, 2⟩, -- CORE_TRACE_HI
   ⟨0x60, 4, 1, 0x0, 0x0, 0x0, 0x0, 4, 1⟩, -- CORE_MERGE_LO
   ⟨0x64, 4, 1, 0x0, 0x0, 0x0, 0x0, 4, 2⟩, -- CORE_MERGE_HI
   ⟨0x68, 4, 1, 0x0, 0x0, 0x0, 0x0, 4, 1⟩, -- CORE_CONFLICT_LO
   ⟨0x6C, 4, 1, 0x0, 0x0, 0x0, 0x0, 4, 2⟩ -- CORE_CONFLICT_HI
  ] ++
  [
   ⟨0x70, 4, 1, 0x0, 0x3FF, 0x0, 0x0, 4, 0⟩, -- CORE_SB_SEL
   ⟨0x74, 4, 1, 0x0, 0x0, 0x0, 0x0, 5, 1⟩, -- CORE_SB_DESC_LO
   ⟨0x78, 4, 1, 0x0, 0x0, 0x0, 0x0, 5, 2⟩, -- CORE_SB_DESC_HI
   ⟨0x7C, 4, 1, 0x0, 0x0, 0x0, 0x0, 5, 0⟩, -- CORE_SB_VALID
   ⟨0x80, 4, 1, 0x0, 0x7FFFC, 0x0, 0x0, 4, 0⟩, -- CORE_SRAM_ADDR
   ⟨0x84, 4, 1, 0x0, 0xFFFFFFFF, 0x0, 0x0, 4, 0⟩, -- CORE_SRAM_DATA
   ⟨0x88, 4, 1, 0x400, 0x1FFF, 0x0, 0x0, 4, 0⟩, -- CORE_IST_SEL
   ⟨0x8C, 4, 1, 0x0, 0x0, 0x0, 0x0, 5, 1⟩, -- CORE_IST_DATA_LO
   ⟨0x90, 4, 1, 0x0, 0x0, 0x0, 0x0, 5, 2⟩, -- CORE_IST_DATA_HI
   ⟨0x100, 4, 1, 0x0, 0x1, 0x0, 0x2, 4, 0⟩, -- SW_CTL
   ⟨0x104, 4, 1, 0x0, 0x0, 0x0, 0x0, 5, 0⟩, -- SW_STAT
   ⟨0x108, 4, 1, 0x0, 0x0, 0x0, 0x0, 5, 0⟩ -- SW_SEALED
  ] ++
  [
   ⟨0x10C, 4, 1, 0x0, 0x1F, 0x0, 0x0, 4, 0⟩, -- SW_QSEL
   ⟨0x110, 4, 1, 0x0, 0x0, 0x0, 0x0, 5, 0⟩, -- SW_QSTAT
   ⟨0x114, 4, 1, 0x0, 0x0, 0x0, 0x0, 4, 0⟩, -- SW_QHIGH
   ⟨0x118, 4, 1, 0x0, 0x3FF, 0x0, 0x0, 4, 0⟩, -- SW_RSEL
   ⟨0x11C, 4, 1, 0x0, 0x0, 0x0, 0x0, 5, 0⟩, -- SW_ROUTE
   ⟨0x120, 4, 1, 0x0, 0x0, 0x0, 0x0, 5, 0⟩, -- SW_STEER
   ⟨0x124, 4, 1, 0x0, 0x0, 0x0, 0x0, 5, 0⟩, -- SW_STEER_STAT
   ⟨0x128, 4, 1, 0x0, 0x0, 0x0, 0x0, 4, 1⟩, -- SW_FWD_LO
   ⟨0x12C, 4, 1, 0x0, 0x0, 0x0, 0x0, 4, 2⟩, -- SW_FWD_HI
   ⟨0x130, 4, 1, 0x0, 0x0, 0x0, 0x0, 4, 1⟩, -- SW_SPILLED_LO
   ⟨0x134, 4, 1, 0x0, 0x0, 0x0, 0x0, 4, 2⟩, -- SW_SPILLED_HI
   ⟨0x138, 4, 1, 0x0, 0x0, 0x0, 0x0, 4, 1⟩ -- SW_DETECT_LO
  ] ++
  [
   ⟨0x13C, 4, 1, 0x0, 0x0, 0x0, 0x0, 4, 2⟩, -- SW_DETECT_HI
   ⟨0x140, 4, 1, 0x0, 0x0, 0x0, 0x0, 4, 1⟩, -- SW_DROP_LO
   ⟨0x144, 4, 1, 0x0, 0x0, 0x0, 0x0, 4, 2⟩, -- SW_DROP_HI
   ⟨0x148, 4, 1, 0x0, 0xFFFFF, 0x0, 0x0, 4, 0⟩, -- SW_SPILL_LINE
   ⟨0x14C, 4, 1, 0x0, 0xFFFF, 0x0, 0x0, 4, 0⟩, -- SW_SPILL_LEN
   ⟨0x150, 4, 1, 0x0, 0x0, 0x0, 0x0, 4, 0⟩, -- SW_SPILL_USED
   ⟨0x154, 4, 1, 0x0, 0x0, 0x0, 0x0, 4, 0⟩ -- SW_AREA
  ]

/-- The CIRQUE page (Table 8.8). -/
def regsCirque : List RegRow :=
  [
   ⟨0x40, 4, 1, 0x0, 0x0, 0x0, 0x0, 1, 0⟩, -- CIRQ_INFO
   ⟨0x44, 4, 1, 0x0, 0x0, 0x0, 0x0, 5, 0⟩, -- CIRQ_STAT
   ⟨0x48, 4, 1, 0x0, 0x0, 0x0, 0x0, 2, 1⟩, -- CIRQ_MOVES_LO
   ⟨0x4C, 4, 1, 0x0, 0x0, 0x0, 0x0, 2, 2⟩, -- CIRQ_MOVES_HI
   ⟨0x50, 4, 1, 0x0, 0x0, 0x0, 0x0, 2, 1⟩, -- CIRQ_LINES_LO
   ⟨0x54, 4, 1, 0x0, 0x0, 0x0, 0x0, 2, 2⟩, -- CIRQ_LINES_HI
   ⟨0x58, 4, 1, 0xFFFF, 0x0, 0x0, 0x0, 5, 0⟩, -- CIRQ_SLACK
   ⟨0x5C, 4, 1, 0x0, 0x0, 0x80000000, 0x0, 2, 0⟩, -- CIRQ_MISS
   ⟨0x60, 4, 1, 0x0, 0x0, 0x0, 0x0, 2, 0⟩, -- CIRQ_HUB_CE
   ⟨0x64, 4, 1, 0x0, 0x0, 0x0, 0x0, 2, 0⟩, -- CIRQ_HUB_UE
   ⟨0x68, 4, 1, 0x0, 0x0, 0x0, 0x0, 5, 0⟩, -- CIRQ_VOID
   ⟨0x6C, 4, 1, 0x0, 0x0, 0x0, 0x0, 5, 0⟩ -- CIRQ_TEMP
  ] ++
  [
   ⟨0x70, 4, 1, 0x0, 0xFFFFFFFF, 0x0, 0x0, 2, 1⟩, -- CIRQ_MM_HBM_LO
   ⟨0x74, 4, 1, 0x0, 0xFF, 0x0, 0x0, 2, 2⟩, -- CIRQ_MM_HBM_HI
   ⟨0x78, 4, 1, 0x0, 0xFFFFF, 0x0, 0x0, 2, 0⟩, -- CIRQ_MM_LINE
   ⟨0x7C, 4, 1, 0x0, 0x1FFFFF, 0x0, 0x0, 2, 0⟩, -- CIRQ_MM_LEN
   ⟨0x80, 4, 1, 0x0, 0x0, 0x0, 0x1F, 0, 0⟩, -- CIRQ_MM_CMD
   ⟨0x84, 4, 1, 0x0, 0x0, 0x0, 0x0, 5, 0⟩, -- CIRQ_MM_STAT
   ⟨0x200, 16, 32, 0x0, 0xFFFFFFF, 0x0, 0x0, 2, 0⟩, -- WIN_BASE
   ⟨0x204, 16, 32, 0x0, 0xFFFFFFF, 0x0, 0x0, 2, 0⟩, -- WIN_LIMIT
   ⟨0x208, 16, 32, 0x0, 0x7FFFFF, 0x0, 0x0, 2, 0⟩ -- WIN_ATTR
  ]

/-- The HBM page (Table 8.11). -/
def regsHbm : List RegRow :=
  [
   ⟨0x40, 4, 1, 0x0, 0x0, 0x0, 0x0, 1, 0⟩, -- HBM_INFO
   ⟨0x44, 4, 1, 0x1804, 0xFF07, 0x0, 0x0, 2, 0⟩, -- HBM_CFG
   ⟨0x48, 4, 1, 0x0, 0x0, 0x0, 0x0, 5, 0⟩, -- HBM_STAT
   ⟨0x4C, 4, 1, 0x0, 0x0, 0x0, 0x0, 2, 0⟩, -- HBM_CE_CNT
   ⟨0x50, 4, 1, 0x0, 0x0, 0x0, 0x0, 2, 0⟩, -- HBM_UE_CNT
   ⟨0x54, 4, 1, 0x0, 0x0, 0x0, 0x0, 2, 0⟩, -- HBM_CAPAR_CNT
   ⟨0x58, 4, 1, 0x0, 0x0, 0x0, 0x0, 2, 1⟩, -- HBM_UE_ADDR_LO
   ⟨0x5C, 4, 1, 0x0, 0x0, 0x80000000, 0x0, 2, 2⟩, -- HBM_UE_ADDR_HI
   ⟨0x60, 4, 1, 0x0, 0x0, 0x0, 0x0, 2, 1⟩, -- HBM_RD_LO
   ⟨0x64, 4, 1, 0x0, 0x0, 0x0, 0x0, 2, 2⟩, -- HBM_RD_HI
   ⟨0x68, 4, 1, 0x0, 0x0, 0x0, 0x0, 2, 1⟩, -- HBM_WR_LO
   ⟨0x6C, 4, 1, 0x0, 0x0, 0x0, 0x0, 2, 2⟩ -- HBM_WR_HI
  ]

/-- The COL page (Table 9.9). -/
def regsCol : List RegRow :=
  [
   ⟨0x40, 4, 1, 0x0, 0x0, 0x0, 0x0, 1, 0⟩, -- COL_INFO
   ⟨0x44, 4, 1, 0x0, 0x0, 0x0, 0x0, 5, 0⟩, -- COL_STAT
   ⟨0x48, 4, 1, 0x0, 0x0, 0x0, 0x0, 2, 0⟩, -- COL_QHIGH
   ⟨0x4C, 4, 1, 0x0, 0x0, 0x0, 0x0, 5, 0⟩ -- COL_TEMP
  ]

/-- The LINK page (Table 9.11). -/
def regsLink : List RegRow :=
  [
   ⟨0x40, 4, 1, 0x0, 0x0, 0x0, 0x0, 5, 0⟩, -- LINK_INFO
   ⟨0x44, 4, 1, 0x1FF00F0, 0x1FF0FFF, 0x0, 0x0, 2, 0⟩, -- LINK_CFG
   ⟨0x48, 4, 1, 0x0, 0x0, 0x0, 0x1, 0, 0⟩, -- LINK_CTL
   ⟨0x4C, 4, 1, 0x0, 0x0, 0x0, 0x0, 5, 0⟩, -- LINK_STAT
   ⟨0x50, 4, 1, 0x0, 0x0, 0x0, 0x0, 5, 0⟩, -- LINK_WORD
   ⟨0x54, 4, 1, 0x0, 0x0, 0x0, 0x0, 5, 0⟩, -- LINK_MEAS
   ⟨0x58, 4, 1, 0x0, 0x0, 0x0, 0x0, 5, 0⟩, -- LINK_MARK
   ⟨0x5C, 4, 1, 0x0, 0x0, 0x0, 0x0, 5, 0⟩, -- LINK_TRAIN_MS
   ⟨0x60, 4, 1, 0x0, 0x0, 0x0, 0x0, 2, 1⟩, -- LINK_FRAMES_TX_LO
   ⟨0x64, 4, 1, 0x0, 0x0, 0x0, 0x0, 2, 2⟩, -- LINK_FRAMES_TX_HI
   ⟨0x68, 4, 1, 0x0, 0x0, 0x0, 0x0, 2, 1⟩, -- LINK_FRAMES_RX_LO
   ⟨0x6C, 4, 1, 0x0, 0x0, 0x0, 0x0, 2, 2⟩ -- LINK_FRAMES_RX_HI
  ] ++
  [
   ⟨0x70, 4, 1, 0x0, 0x0, 0x0, 0x0, 2, 1⟩, -- LINK_REPLAY_TX_LO
   ⟨0x74, 4, 1, 0x0, 0x0, 0x0, 0x0, 2, 2⟩, -- LINK_REPLAY_TX_HI
   ⟨0x78, 4, 1, 0x0, 0x0, 0x0, 0x0, 2, 1⟩, -- LINK_REPLAY_RX_LO
   ⟨0x7C, 4, 1, 0x0, 0x0, 0x0, 0x0, 2, 2⟩, -- LINK_REPLAY_RX_HI
   ⟨0x80, 4, 1, 0x0, 0x0, 0x0, 0x0, 2, 0⟩, -- LINK_FEC_CE
   ⟨0x84, 4, 1, 0x0, 0x0, 0x0, 0x0, 2, 0⟩, -- LINK_FEC_UE
   ⟨0x88, 4, 1, 0x0, 0x0, 0x0, 0x0, 2, 0⟩, -- LINK_CRC_ERR
   ⟨0x8C, 4, 1, 0x0, 0x0, 0x0, 0x0, 2, 0⟩ -- LINK_DROP
  ]

/-- The PORT page (Table 10.9). -/
def regsPort : List RegRow :=
  [
   ⟨0x40, 4, 1, 0x0, 0x0, 0x0, 0x0, 5, 0⟩, -- PORT_INFO
   ⟨0x44, 4, 1, 0x0, 0x0, 0x0, 0x0, 5, 1⟩, -- PORT_TOD_LO
   ⟨0x48, 4, 1, 0x0, 0x0, 0x0, 0x0, 5, 2⟩, -- PORT_TOD_HI
   ⟨0x4C, 4, 1, 0x0, 0xFFFFFFFF, 0x0, 0x0, 2, 1⟩, -- PORT_TOD_SET_LO
   ⟨0x50, 4, 1, 0x0, 0xFFFFFFFF, 0x0, 0x0, 2, 2⟩, -- PORT_TOD_SET_HI
   ⟨0x54, 4, 1, 0x0, 0x0, 0x0, 0x1, 0, 0⟩, -- PORT_TOD_CTL
   ⟨0x58, 4, 1, 0x0, 0xFFFFFFFF, 0x0, 0x0, 2, 0⟩, -- PORT_TOD_RATE
   ⟨0x5C, 4, 1, 0x0, 0x0, 0x0, 0x0, 5, 0⟩ -- PORT_TEMP
  ]

/-- The ETH page (Table 10.12). -/
def regsEth : List RegRow :=
  [
   ⟨0x40, 4, 1, 0x0, 0x7, 0x0, 0x0, 2, 0⟩, -- ETH_CFG
   ⟨0x44, 4, 1, 0x0, 0x0, 0x0, 0x0, 5, 0⟩, -- ETH_STAT
   ⟨0x48, 4, 1, 0x0, 0x3, 0x0, 0x0, 2, 0⟩, -- ETH_MAC_SEL
   ⟨0x4C, 4, 1, 0x0, 0xFFFFFFFF, 0x0, 0x0, 2, 1⟩, -- ETH_MAC_LO
   ⟨0x50, 4, 1, 0x0, 0xFFFF, 0x0, 0x0, 2, 2⟩, -- ETH_MAC_HI
   ⟨0x54, 4, 1, 0x0, 0xF, 0x0, 0x0, 2, 0⟩, -- ETH_CNT_SEL
   ⟨0x58, 4, 1, 0x0, 0x0, 0x0, 0x0, 5, 1⟩, -- ETH_CNT_LO
   ⟨0x5C, 4, 1, 0x0, 0x0, 0x0, 0x0, 5, 2⟩ -- ETH_CNT_HI
  ]

/-- The INGRESS page (Table 10.12). -/
def regsIngress : List RegRow :=
  [
   ⟨0x40, 4, 1, 0x0, 0x7FFF3, 0x0, 0x0, 2, 0⟩, -- IN_SEL
   ⟨0x44, 4, 8, 0x0, 0xFFFFFFFF, 0x0, 0x0, 2, 0⟩, -- IN_DATA
   ⟨0x64, 4, 1, 0x0, 0x0, 0x0, 0x7, 0, 0⟩, -- IN_CMD
   ⟨0x68, 4, 1, 0x0, 0x0, 0x0, 0x0, 5, 0⟩, -- IN_RESULT
   ⟨0x6C, 4, 1, 0x0, 0x0, 0x0, 0x0, 5, 0⟩, -- IN_MAP_USED
   ⟨0x70, 4, 1, 0x0, 0xF, 0x0, 0x0, 2, 0⟩, -- IN_CNT_SEL
   ⟨0x74, 4, 1, 0x0, 0x0, 0x0, 0x0, 5, 1⟩, -- IN_CNT_LO
   ⟨0x78, 4, 1, 0x0, 0x0, 0x0, 0x0, 5, 2⟩ -- IN_CNT_HI
  ]

/-- The EGRESS page (Table 10.12). -/
def regsEgress : List RegRow :=
  [
   ⟨0x40, 4, 1, 0x0, 0x7F03FF, 0x0, 0x0, 2, 0⟩, -- EG_SEL
   ⟨0x44, 4, 1, 0x0, 0xFFFFFFFF, 0x0, 0x0, 2, 0⟩, -- EG_DATA
   ⟨0x48, 4, 1, 0x0, 0x0, 0x0, 0x0, 5, 0⟩, -- EG_STAT
   ⟨0x4C, 4, 1, 0x0, 0xF, 0x0, 0x0, 2, 0⟩, -- EG_CNT_SEL
   ⟨0x50, 4, 1, 0x0, 0x0, 0x0, 0x0, 5, 1⟩, -- EG_CNT_LO
   ⟨0x54, 4, 1, 0x0, 0x0, 0x0, 0x0, 5, 2⟩ -- EG_CNT_HI
  ]

/-- The SERVE page (Table 10.12). -/
def regsServe : List RegRow :=
  [
   ⟨0x40, 4, 1, 0x2, 0x1FFF, 0x0, 0x0, 2, 0⟩, -- SRV_CFG
   ⟨0x44, 4, 1, 0x1C00, 0x1FFF, 0x0, 0x0, 2, 0⟩, -- SRV_GATHER
   ⟨0x48, 4, 1, 0x4000, 0x7FFF, 0x0, 0x0, 2, 0⟩, -- SRV_PAGES
   ⟨0x4C, 4, 1, 0x0, 0xFFFFF, 0x0, 0x0, 2, 0⟩, -- SRV_FEED_LINE
   ⟨0x50, 4, 1, 0x101, 0x7FFFFF, 0x0, 0x0, 2, 0⟩, -- SRV_FEED_GEOM
   ⟨0x54, 4, 1, 0x0, 0xFFF, 0x0, 0x0, 2, 0⟩, -- SRV_MSEL
   ⟨0x58, 4, 1, 0x0, 0xFF, 0x0, 0x0, 2, 0⟩, -- SRV_MODEL
   ⟨0x5C, 4, 1, 0x0, 0x7FFF, 0x0, 0x0, 2, 0⟩, -- SRV_JOIN_ENTRY
   ⟨0x60, 4, 1, 0x0, 0xFFFFF, 0x0, 0x0, 2, 0⟩, -- SRV_JOIN_HUB
   ⟨0x64, 4, 1, 0x0, 0x1FFF, 0x0, 0x0, 2, 0⟩, -- SRV_JOIN_LEN
   ⟨0x68, 4, 1, 0x0, 0x0, 0x0, 0x3, 0, 0⟩, -- SRV_CMD
   ⟨0x6C, 4, 1, 0x0, 0x0, 0x0, 0x0, 5, 0⟩ -- SRV_STAT
  ] ++
  [
   ⟨0x70, 4, 1, 0x0, 0x0, 0x0, 0x0, 5, 0⟩, -- SRV_SEQ
   ⟨0x74, 4, 1, 0x0, 0x3, 0x0, 0x0, 2, 0⟩, -- SRV_PAIR
   ⟨0x78, 4, 1, 0x0, 0x0, 0x0, 0x0, 2, 1⟩, -- SRV_TAKE_TICK_LO
   ⟨0x7C, 4, 1, 0x0, 0x0, 0x0, 0x0, 2, 2⟩, -- SRV_TAKE_TICK_HI
   ⟨0x80, 4, 1, 0x0, 0xFFFFFFFF, 0x0, 0x0, 2, 1⟩, -- SRV_CUR_LO
   ⟨0x84, 4, 1, 0x0, 0xFFFFFFFF, 0x0, 0x0, 2, 2⟩, -- SRV_CUR_HI
   ⟨0x88, 4, 1, 0x0, 0xF, 0x0, 0x0, 2, 0⟩, -- SRV_CNT_SEL
   ⟨0x8C, 4, 1, 0x0, 0x0, 0x0, 0x0, 5, 1⟩, -- SRV_CNT_LO
   ⟨0x90, 4, 1, 0x0, 0x0, 0x0, 0x0, 5, 2⟩ -- SRV_CNT_HI
  ]

/-- The RDMA page, instance 0 (Table 11.6). -/
def regsRdmaZero : List RegRow :=
  [
   ⟨0x40, 4, 1, 0xC6DE0003, 0xFFFF0007, 0x0, 0x0, 2, 0⟩, -- HA_CFG
   ⟨0x44, 4, 1, 0x0, 0x0, 0x0, 0x0, 5, 0⟩, -- HA_STAT
   ⟨0x48, 4, 1, 0x0, 0x1F, 0x0, 0x0, 2, 0⟩, -- HA_SRC_SEL
   ⟨0x4C, 4, 1, 0x0, 0xFFFFFFFF, 0x0, 0x0, 2, 1⟩, -- HA_SRC_MAC_LO
   ⟨0x50, 4, 1, 0x0, 0xFFFF, 0x0, 0x0, 2, 2⟩, -- HA_SRC_MAC_HI
   ⟨0x54, 4, 1, 0x0, 0x1FFF, 0x0, 0x2000, 2, 0⟩, -- HA_SRC_CTL
   ⟨0x58, 4, 1, 0x0, 0x0, 0x0, 0x0, 5, 0⟩, -- HA_SRC_STAT
   ⟨0x5C, 4, 1, 0x0, 0x0, 0x0, 0x0, 5, 0⟩, -- HA_SRC_SEQ
   ⟨0x60, 4, 1, 0x0, 0xF, 0x0, 0x0, 2, 0⟩, -- HA_CNT_SEL
   ⟨0x64, 4, 1, 0x0, 0x0, 0x0, 0x0, 5, 1⟩, -- HA_CNT_LO
   ⟨0x68, 4, 1, 0x0, 0x0, 0x0, 0x0, 5, 2⟩, -- HA_CNT_HI
   ⟨0x6C, 4, 1, 0x0, 0xFFFF003F, 0x0, 0x0, 2, 0⟩ -- HA_EVT_CFG
  ] ++
  [
   ⟨0x70, 4, 1, 0x0, 0xFFFFFFFF, 0x0, 0x0, 2, 1⟩, -- HA_EVT_MAC_LO
   ⟨0x74, 4, 1, 0x0, 0xFFFF, 0x0, 0x0, 2, 2⟩, -- HA_EVT_MAC_HI
   ⟨0x78, 4, 4, 0x0, 0xFFFFFFFF, 0x0, 0x0, 2, 0⟩, -- HA_EVT_IP
   ⟨0x88, 4, 1, 0x0, 0x0, 0x0, 0x0, 5, 0⟩, -- HA_EVT_SEQ
   ⟨0x8C, 4, 1, 0x0, 0x7, 0x0, 0x0, 2, 0⟩, -- HA_MS_SEL
   ⟨0x90, 4, 1, 0x2, 0xFFFFFFFF, 0x0, 0x0, 2, 0⟩, -- HA_MS_CFG
   ⟨0x94, 4, 1, 0x0, 0x0, 0x0, 0x0, 5, 0⟩, -- HA_MS_STAT
   ⟨0x98, 4, 1, 0x0, 0x0, 0x0, 0x3, 0, 0⟩, -- HA_ADM_CMD
   ⟨0xA0, 4, 40, 0x0, 0x0, 0x0, 0xFFFFFFFF, 2, 0⟩, -- HA_ADM_DATA
   ⟨0x140, 4, 1, 0x0, 0x0, 0x0, 0x0, 2, 0⟩, -- HA_SRC_NOPAGE
   ⟨0x144, 4, 4, 0x0, 0xFFFFFFFF, 0x0, 0x0, 2, 0⟩ -- HA_EVT_SRC_IP
  ]

/-- The RDMA page, instance 1 + n (Table 11.7). -/
def regsRdmaItem : List RegRow :=
  [
   ⟨0x40, 4, 1, 0x0, 0x0, 0x0, 0x0, 5, 0⟩, -- QP_STATE
   ⟨0x44, 4, 1, 0x0, 0xFFFFFF, 0x0, 0x0, 2, 0⟩, -- QP_PEER_QPN
   ⟨0x48, 4, 1, 0x0, 0xFFFFFFFF, 0x0, 0x0, 2, 0⟩, -- QP_RKEY
   ⟨0x4C, 4, 1, 0x1400, 0x3FFF, 0x0, 0x0, 2, 0⟩, -- QP_CFG
   ⟨0x50, 4, 1, 0x0, 0xFFFFFF, 0x0, 0x0, 2, 0⟩, -- QP_EPSN
   ⟨0x54, 4, 4, 0x0, 0xFFFFFFFF, 0x0, 0x0, 2, 0⟩, -- QP_PEER_IP
   ⟨0x64, 4, 1, 0x0, 0x7, 0x0, 0x0, 2, 0⟩, -- QP_CNT_SEL
   ⟨0x68, 4, 1, 0x0, 0x0, 0x0, 0x0, 5, 1⟩, -- QP_CNT_LO
   ⟨0x6C, 4, 1, 0x0, 0x0, 0x0, 0x0, 5, 2⟩ -- QP_CNT_HI
  ]

/-- The SEC page (Table 15.8). -/
def regsSec : List RegRow :=
  [
   ⟨0x40, 4, 1, 0x0, 0x0, 0x0, 0x0, 1, 0⟩, -- SEC_FUSE
   ⟨0x44, 4, 1, 0x0, 0x0, 0x0, 0x0, 5, 0⟩, -- SEC_BOOT
   ⟨0x48, 4, 1, 0x0, 0x0, 0x0, 0x0, 1, 0⟩, -- SEC_UPD
   ⟨0x4C, 4, 1, 0x0, 0xFFFFFFFF, 0x0, 0x0, 1, 1⟩, -- SEC_UPD_ADDR_LO
   ⟨0x50, 4, 1, 0x0, 0xFF, 0x0, 0x0, 1, 2⟩, -- SEC_UPD_ADDR_HI
   ⟨0x54, 4, 1, 0x0, 0x3FFFFFF, 0x0, 0x0, 1, 0⟩, -- SEC_UPD_LEN
   ⟨0x58, 4, 1, 0x0, 0x0, 0x0, 0xF, 0, 0⟩, -- SEC_CMD
   ⟨0x5C, 4, 1, 0x0, 0x0, 0x0, 0x0, 5, 0⟩, -- SEC_STAT
   ⟨0x60, 4, 15, 0x0, 0x0, 0x0, 0x0, 1, 0⟩, -- SEC_ID_PUB
   ⟨0xA0, 4, 16, 0x0, 0x0, 0x0, 0x0, 1, 0⟩, -- SEC_STAGED_DIG
   ⟨0xE0, 4, 8, 0x0, 0x0, 0x0, 0x0, 5, 0⟩, -- SEC_CHAL
   ⟨0x100, 4, 64, 0x0, 0x0, 0x0, 0xFFFFFFFF, 1, 0⟩ -- SEC_BLOB
  ] ++
  [
   ⟨0x200, 4, 128, 0x0, 0x0, 0x0, 0x0, 5, 0⟩ -- SEC_MEAS
  ]

/-- The ATTEST page (Table 15.10). -/
def regsAttest : List RegRow :=
  [
   ⟨0x40, 4, 1, 0x0, 0x0, 0x0, 0x0, 5, 0⟩, -- ATTEST_STAT
   ⟨0x44, 4, 1, 0x3B2, 0x0, 0x0, 0x0, 5, 0⟩, -- ATTEST_LEN
   ⟨0x80, 4, 16, 0x0, 0xFFFFFFFF, 0x0, 0x0, 2, 0⟩, -- ATTEST_NONCE
   ⟨0x400, 4, 237, 0x0, 0x0, 0x0, 0x0, 2, 0⟩, -- ATTEST_REPORT
   ⟨0x800, 4, 256, 0x0, 0x0, 0x0, 0x0, 2, 0⟩ -- ATTEST_CERT
  ]

/-- The ENERGY page, instance 0 (Table 14.4). -/
def regsEnergyZero : List RegRow :=
  [
   ⟨0x40, 4, 1, 0x100000, 0x1FFF1FFF, 0x0, 0x0, 2, 0⟩, -- ENG_BUDGET
   ⟨0x44, 4, 1, 0xFFFF0010, 0xFFFF001F, 0x0, 0x0, 2, 0⟩, -- ENG_CFG
   ⟨0x48, 4, 1, 0x25A64, 0xFFFFF, 0x0, 0x0, 2, 0⟩, -- ENG_THERM
   ⟨0x4C, 4, 1, 0x0, 0xFFFFFFFF, 0x0, 0x0, 2, 0⟩, -- ENG_BASE
   ⟨0x50, 4, 1, 0x0, 0xF, 0x0, 0x0, 2, 0⟩, -- ENG_EVT_SEL
   ⟨0x54, 4, 1, 0x0, 0xFFFFFFFF, 0x0, 0x0, 2, 0⟩, -- ENG_EVT
   ⟨0x58, 4, 1, 0x0, 0x7, 0x0, 0x0, 2, 0⟩, -- ENG_JOB_SEL
   ⟨0x5C, 4, 1, 0x0, 0x0, 0x0, 0x0, 2, 1⟩, -- ENG_JOB_LO
   ⟨0x60, 4, 1, 0x0, 0x0, 0x0, 0x0, 2, 2⟩, -- ENG_JOB_HI
   ⟨0x64, 4, 1, 0x0, 0x0, 0x0, 0x0, 2, 1⟩, -- ENG_SHARED_LO
   ⟨0x68, 4, 1, 0x0, 0x0, 0x0, 0x0, 2, 2⟩, -- ENG_SHARED_HI
   ⟨0x6C, 4, 1, 0x0, 0x0, 0x0, 0x0, 2, 1⟩ -- ENG_PKG_LO
  ] ++
  [
   ⟨0x70, 4, 1, 0x0, 0x0, 0x0, 0x0, 2, 2⟩, -- ENG_PKG_HI
   ⟨0x74, 4, 1, 0x0, 0x0, 0x0, 0x0, 2, 1⟩, -- ENG_DEFERRED_LO
   ⟨0x78, 4, 1, 0x0, 0x0, 0x0, 0x0, 2, 2⟩, -- ENG_DEFERRED_HI
   ⟨0x7C, 4, 1, 0x0, 0x0, 0x0, 0x0, 2, 1⟩, -- ENG_OVERRUN_LO
   ⟨0x80, 4, 1, 0x0, 0x0, 0x0, 0x0, 2, 2⟩, -- ENG_OVERRUN_HI
   ⟨0x84, 4, 1, 0x0, 0x0, 0x0, 0x0, 2, 0⟩, -- ENG_DEBT
   ⟨0x88, 4, 1, 0x0, 0x0, 0x0, 0x0, 5, 0⟩, -- ENG_STAT
   ⟨0x8C, 4, 1, 0x3F800000, 0x0, 0x0, 0x0, 5, 0⟩, -- ENG_K
   ⟨0x90, 4, 1, 0x0, 0x0, 0x0, 0x0, 5, 0⟩ -- ENG_PROJ
  ]

/-- The ENERGY page, instance 1 + n (Table 14.5). -/
def regsEnergyItem : List RegRow :=
  [
   ⟨0x40, 4, 1, 0x0, 0x0, 0x0, 0x0, 3, 1⟩, -- ENG_PART_LO
   ⟨0x44, 4, 1, 0x0, 0x0, 0x0, 0x0, 3, 2⟩, -- ENG_PART_HI
   ⟨0x48, 4, 1, 0x0, 0x0, 0x0, 0x0, 5, 0⟩ -- ENG_PART_PWR
  ]

/-- The FAULT page (Table 16.8). -/
def regsFault : List RegRow :=
  [
   ⟨0x40, 4, 1, 0x0, 0x0, 0x0, 0x0, 5, 0⟩, -- FLT_STAT
   ⟨0x44, 4, 1, 0x0, 0x0, 0x0, 0x7, 0, 0⟩, -- FLT_CTL
   ⟨0x48, 4, 1, 0x0, 0x3F, 0x0, 0x0, 2, 0⟩, -- FLT_SEL
   ⟨0x4C, 4, 1, 0x0, 0x0, 0x0, 0x0, 2, 0⟩, -- FLT_KEY
   ⟨0x50, 4, 1, 0x0, 0x0, 0x0, 0x0, 2, 0⟩, -- FLT_INFO
   ⟨0x54, 4, 1, 0x0, 0x0, 0x0, 0x0, 2, 1⟩, -- FLT_TICK_LO
   ⟨0x58, 4, 1, 0x0, 0x0, 0x0, 0x0, 2, 2⟩, -- FLT_TICK_HI
   ⟨0x5C, 4, 1, 0x0, 0x0, 0x0, 0x0, 2, 0⟩, -- FLT_CNT
   ⟨0x60, 4, 1, 0x0, 0x0, 0x0, 0x0, 2, 1⟩, -- FLT_STORM_CNT_LO
   ⟨0x64, 4, 1, 0x0, 0x0, 0x0, 0x0, 2, 2⟩, -- FLT_STORM_CNT_HI
   ⟨0x68, 4, 1, 0x0, 0x0, 0x0, 0x0, 1, 0⟩, -- FLT_LOG_HEAD
   ⟨0x6C, 4, 1, 0x0, 0xFFFFFFFF, 0x0, 0x0, 2, 0⟩ -- FLT_LOG_SEL
  ] ++
  [
   ⟨0x70, 4, 1, 0x0, 0x0, 0x0, 0x0, 1, 1⟩, -- FLT_LOG_LOST_LO
   ⟨0x74, 4, 1, 0x0, 0x0, 0x0, 0x0, 1, 2⟩, -- FLT_LOG_LOST_HI
   ⟨0x80, 4, 8, 0x0, 0x0, 0x0, 0x0, 1, 0⟩ -- FLT_LOG_DATA
  ]

/-- The DIGEST page (Table 16.10). -/
def regsDigest : List RegRow :=
  [
   ⟨0x40, 4, 1, 0x0, 0x0, 0x0, 0x0, 5, 1⟩, -- DIG_DEV_LO
   ⟨0x44, 4, 1, 0x0, 0x0, 0x0, 0x0, 5, 2⟩, -- DIG_DEV_HI
   ⟨0x48, 4, 1, 0x0, 0x0, 0x0, 0x0, 5, 1⟩, -- DIG_SHARED_LO
   ⟨0x4C, 4, 1, 0x0, 0x0, 0x0, 0x0, 5, 2⟩, -- DIG_SHARED_HI
   ⟨0x50, 4, 1, 0x0, 0x0, 0x0, 0x0, 5, 1⟩, -- DIG_TIMING_LO
   ⟨0x54, 4, 1, 0x0, 0x0, 0x0, 0x0, 5, 2⟩, -- DIG_TIMING_HI
   ⟨0x58, 4, 1, 0x0, 0x0, 0x0, 0x0, 5, 1⟩, -- DIG_FRAME_LO
   ⟨0x5C, 4, 1, 0x0, 0x0, 0x0, 0x0, 5, 2⟩, -- DIG_FRAME_HI
   ⟨0x60, 4, 1, 0x0, 0x0, 0x0, 0x0, 5, 0⟩ -- DIG_CMP
  ]

/-- The PART page (Table 13.12). -/
def regsPart : List RegRow :=
  [
   ⟨0x40, 4, 1, 0x0, 0x0, 0x0, 0x0, 5, 0⟩, -- PART_INFO
   ⟨0x44, 4, 1, 0x0, 0x0, 0x0, 0x0, 5, 0⟩, -- PART_STAT
   ⟨0x48, 4, 1, 0x0, 0x1, 0x0, 0x0, 2, 0⟩, -- PART_CTL
   ⟨0x4C, 4, 1, 0x0, 0x3, 0x0, 0x0, 2, 0⟩, -- PART_PWR
   ⟨0x50, 4, 1, 0x0, 0x0, 0x0, 0x0, 2, 1⟩, -- PART_RESETS_LO
   ⟨0x54, 4, 1, 0x0, 0x0, 0x0, 0x0, 2, 2⟩, -- PART_RESETS_HI
   ⟨0x58, 4, 1, 0x0, 0x0, 0x0, 0x0, 2, 1⟩, -- PART_ABSORB_LO
   ⟨0x5C, 4, 1, 0x0, 0x0, 0x0, 0x0, 2, 2⟩, -- PART_ABSORB_HI
   ⟨0x60, 4, 1, 0x0, 0x0, 0x0, 0x0, 2, 1⟩, -- PART_DRAIN_DROP_LO
   ⟨0x64, 4, 1, 0x0, 0x0, 0x0, 0x0, 2, 2⟩, -- PART_DRAIN_DROP_HI
   ⟨0x68, 4, 1, 0x0, 0x0, 0x0, 0x0, 2, 1⟩, -- PART_RESET_TICK_LO
   ⟨0x6C, 4, 1, 0x0, 0x0, 0x0, 0x0, 2, 2⟩ -- PART_RESET_TICK_HI
  ]

/-- The SCHED page, instance 0 (Table 2.15). -/
def regsSchedZero : List RegRow :=
  [
   ⟨0x40, 4, 1, 0x0, 0xFFFFFFFF, 0x0, 0x0, 2, 1⟩, -- SCHED_LOAD_LO
   ⟨0x44, 4, 1, 0x0, 0xFF, 0x0, 0x0, 2, 2⟩, -- SCHED_LOAD_HI
   ⟨0x48, 4, 1, 0x0, 0x0, 0x0, 0xF, 0, 0⟩, -- SCHED_CMD
   ⟨0x4C, 4, 1, 0x0, 0x0, 0x0, 0x0, 5, 0⟩, -- SCHED_STAT
   ⟨0x50, 4, 1, 0x0, 0xFFFFFFFF, 0x0, 0x0, 2, 1⟩, -- SCHED_NAME_LO
   ⟨0x54, 4, 1, 0x0, 0xFFFFFFFF, 0x0, 0x0, 2, 2⟩, -- SCHED_NAME_HI
   ⟨0x58, 4, 1, 0x0, 0xFFFFFFFF, 0x0, 0x0, 2, 1⟩, -- SCHED_ACT_TICK_LO
   ⟨0x5C, 4, 1, 0x0, 0xFFFFFFFF, 0x0, 0x0, 2, 2⟩, -- SCHED_ACT_TICK_HI
   ⟨0x60, 4, 1, 0x0, 0x0, 0x0, 0x0, 5, 1⟩, -- SCHED_ARMED_TICK_LO
   ⟨0x64, 4, 1, 0x0, 0x0, 0x0, 0x0, 5, 2⟩, -- SCHED_ARMED_TICK_HI
   ⟨0x68, 4, 1, 0x0, 0x0, 0x0, 0x0, 5, 1⟩, -- SCHED_ACTIVE_ID_LO
   ⟨0x6C, 4, 1, 0x0, 0x0, 0x0, 0x0, 5, 2⟩ -- SCHED_ACTIVE_ID_HI
  ] ++
  [
   ⟨0x70, 4, 1, 0x0, 0x0, 0x0, 0x0, 5, 1⟩, -- SCHED_ACTIVE_TICK_LO
   ⟨0x74, 4, 1, 0x0, 0x0, 0x0, 0x0, 5, 2⟩, -- SCHED_ACTIVE_TICK_HI
   ⟨0x78, 4, 1, 0x0, 0x0, 0x0, 0x0, 5, 0⟩, -- SCHED_PERIOD
   ⟨0x7C, 4, 1, 0x0, 0x0, 0x80000000, 0x0, 2, 0⟩, -- SCHED_SLIP
   ⟨0x80, 4, 1, 0x0, 0x0, 0x0, 0x0, 2, 1⟩, -- SCHED_SLIP_TICK_LO
   ⟨0x84, 4, 1, 0x0, 0x0, 0x0, 0x0, 2, 2⟩, -- SCHED_SLIP_TICK_HI
   ⟨0x88, 4, 1, 0x0, 0x0, 0x0, 0x0, 2, 1⟩, -- SCHED_SLIP_CNT_LO
   ⟨0x8C, 4, 1, 0x0, 0x0, 0x0, 0x0, 2, 2⟩ -- SCHED_SLIP_CNT_HI
  ]

/-- The SCHED page, instance 1 + n (Table 2.16). -/
def regsSchedItem : List RegRow :=
  [
   ⟨0x40, 4, 1, 0x0, 0x0, 0x0, 0x0, 5, 0⟩, -- JOB_INFO
   ⟨0x44, 4, 1, 0x0, 0x0, 0x0, 0x0, 5, 0⟩, -- JOB_WINDOWS
   ⟨0x48, 4, 1, 0x0, 0x0, 0x0, 0x0, 2, 1⟩, -- JOB_ISSUED_LO
   ⟨0x4C, 4, 1, 0x0, 0x0, 0x0, 0x0, 2, 2⟩, -- JOB_ISSUED_HI
   ⟨0x50, 4, 1, 0x0, 0x0, 0x0, 0x0, 5, 0⟩ -- JOB_DECL
  ]

/-- The CAIRN page (Table 12.9). -/
def regsCairn : List RegRow :=
  [
   ⟨0x40, 4, 1, 0x0, 0xFFFFF000, 0x0, 0x0, 2, 1⟩, -- CAIRN_BASE_LO
   ⟨0x44, 4, 1, 0x0, 0xFF, 0x0, 0x0, 2, 2⟩, -- CAIRN_BASE_HI
   ⟨0x48, 4, 1, 0x0, 0xFFFFFFF, 0x0, 0x0, 2, 0⟩, -- CAIRN_SLOT_SIZE
   ⟨0x4C, 4, 1, 0x0, 0xFFFFFFFF, 0x0, 0x0, 2, 1⟩, -- CAIRN_LAYOUT_LO
   ⟨0x50, 4, 1, 0x0, 0xFFFFFFFF, 0x0, 0x0, 2, 2⟩, -- CAIRN_LAYOUT_HI
   ⟨0x54, 4, 4, 0x0, 0xFFFF1FFF, 0x0, 0x0, 2, 0⟩, -- CAIRN_POS
   ⟨0x64, 4, 1, 0x0, 0xFFFFF, 0x0, 0x0, 2, 0⟩, -- CAIRN_LOSS_LINE
   ⟨0x68, 4, 1, 0x0, 0x0, 0x0, 0xFFF, 0, 0⟩, -- CAIRN_CMD
   ⟨0x6C, 4, 1, 0x0, 0x0, 0x0, 0x0, 5, 0⟩, -- CAIRN_STAT
   ⟨0x70, 4, 1, 0x0, 0xFFFFFFFF, 0x0, 0x0, 2, 1⟩, -- CAIRN_RESTART_LO
   ⟨0x74, 4, 1, 0x0, 0xFFFFFFFF, 0x0, 0x0, 2, 2⟩, -- CAIRN_RESTART_HI
   ⟨0x78, 4, 1, 0x0, 0x3, 0x0, 0x0, 2, 0⟩ -- CAIRN_SLOT_SEL
  ] ++
  [
   ⟨0x7C, 4, 1, 0x0, 0x0, 0x0, 0x0, 5, 0⟩, -- CAIRN_SLOT_STAT
   ⟨0x80, 4, 1, 0x0, 0x0, 0x0, 0x0, 5, 1⟩, -- CAIRN_SLOT_TICK_LO
   ⟨0x84, 4, 1, 0x0, 0x0, 0x0, 0x0, 5, 2⟩, -- CAIRN_SLOT_TICK_HI
   ⟨0x88, 4, 1, 0x0, 0x7, 0x0, 0x0, 2, 0⟩, -- CAIRN_J_SEL
   ⟨0x8C, 4, 1, 0x0, 0xFFFFFFFF, 0x0, 0x0, 2, 1⟩, -- CAIRN_J_LO
   ⟨0x90, 4, 1, 0x0, 0xFFFFFFFF, 0x0, 0x0, 2, 2⟩, -- CAIRN_J_HI
   ⟨0x94, 4, 1, 0x3A83126F, 0xFFFFFFFF, 0x0, 0x0, 2, 0⟩, -- CAIRN_T7_TOL
   ⟨0x98, 4, 1, 0x0, 0x0, 0x0, 0x0, 5, 0⟩, -- CAIRN_SKEW
   ⟨0x9C, 4, 1, 0x0, 0x0, 0x0, 0x0, 2, 1⟩, -- CAIRN_SEALED_LO
   ⟨0xA0, 4, 1, 0x0, 0x0, 0x0, 0x0, 2, 2⟩, -- CAIRN_SEALED_HI
   ⟨0xA4, 4, 1, 0x0, 0x0, 0x0, 0x0, 2, 1⟩, -- CAIRN_RESTORES_LO
   ⟨0xA8, 4, 1, 0x0, 0x0, 0x0, 0x0, 2, 2⟩ -- CAIRN_RESTORES_HI
  ]

/-- The PAIR page (Table 12.11). -/
def regsPair : List RegRow :=
  [
   ⟨0x40, 4, 1, 0x1800, 0x7FFF, 0x0, 0x0, 2, 0⟩, -- PAIR_CFG
   ⟨0x44, 4, 1, 0x0, 0xFFFFFFFF, 0x0, 0x0, 2, 1⟩, -- PAIR_LINKS_LO
   ⟨0x48, 4, 1, 0x0, 0xFFFFFF, 0x0, 0x0, 2, 2⟩, -- PAIR_LINKS_HI
   ⟨0x4C, 4, 1, 0x0, 0x0, 0x0, 0x0, 5, 0⟩, -- PAIR_STAT
   ⟨0x50, 4, 1, 0x0, 0x0, 0x0, 0x3, 0, 0⟩, -- PAIR_CTL
   ⟨0x54, 4, 1, 0x0, 0x0, 0x0, 0x0, 2, 0⟩, -- PAIR_DIV
   ⟨0x58, 4, 1, 0x0, 0x0, 0x0, 0x0, 2, 1⟩, -- PAIR_DIV_AT_LO
   ⟨0x5C, 4, 1, 0x0, 0x0, 0x0, 0x0, 2, 2⟩, -- PAIR_DIV_AT_HI
   ⟨0x60, 4, 1, 0x0, 0x0, 0x0, 0x0, 2, 0⟩, -- PAIR_DIV_GRAN
   ⟨0x64, 4, 1, 0x0, 0x0, 0x0, 0x0, 5, 1⟩, -- PAIR_TRACE_LO
   ⟨0x68, 4, 1, 0x0, 0x0, 0x0, 0x0, 5, 2⟩, -- PAIR_TRACE_HI
   ⟨0x6C, 4, 1, 0x0, 0x0, 0x0, 0x0, 2, 1⟩ -- PAIR_ROLLBACK_LO
  ] ++
  [
   ⟨0x70, 4, 1, 0x0, 0x0, 0x0, 0x0, 2, 2⟩, -- PAIR_ROLLBACK_HI
   ⟨0x74, 4, 1, 0x0, 0x0, 0x0, 0x0, 2, 1⟩, -- PAIR_CMP_LO
   ⟨0x78, 4, 1, 0x0, 0x0, 0x0, 0x0, 2, 2⟩ -- PAIR_CMP_HI
  ]

/-- The RNG page (Table 12.13). -/
def regsRng : List RegRow :=
  [
   ⟨0x40, 4, 1, 0x0, 0x3F, 0x0, 0x0, 2, 0⟩, -- RNG_SEL
   ⟨0x44, 4, 1, 0x0, 0x0, 0x0, 0x0, 2, 0⟩, -- RNG_MODE
   ⟨0x48, 4, 4, 0x0, 0x0, 0x0, 0xFFFFFFFF, 2, 0⟩, -- RNG_KEY
   ⟨0x58, 4, 4, 0x0, 0x0, 0x0, 0x0, 2, 0⟩, -- RNG_BASE
   ⟨0x68, 4, 1, 0x0, 0x0, 0x0, 0x0, 2, 1⟩, -- RNG_CUR_LO
   ⟨0x6C, 4, 1, 0x0, 0x0, 0x0, 0x0, 2, 2⟩ -- RNG_CUR_HI
  ]

/-- The NUMMON page (Table 5.4). -/
def regsNummon : List RegRow :=
  [
   ⟨0x40, 4, 1, 0xF0, 0xFF, 0x0, 0x0, 2, 0⟩, -- NUMMON_CFG
   ⟨0x44, 4, 1, 0x0, 0x0, 0x0, 0x1, 0, 0⟩, -- NUMMON_CTL
   ⟨0x48, 4, 1, 0x0, 0x0, 0x0, 0x0, 2, 1⟩, -- NUMMON_FRAME_LO
   ⟨0x4C, 4, 1, 0x0, 0x0, 0x0, 0x0, 2, 2⟩, -- NUMMON_FRAME_HI
   ⟨0x50, 4, 1, 0x0, 0x0, 0x0, 0x0, 2, 1⟩, -- NUMMON_TOTAL_LO
   ⟨0x54, 4, 1, 0x0, 0x0, 0x0, 0x0, 2, 2⟩, -- NUMMON_TOTAL_HI
   ⟨0x58, 4, 1, 0x0, 0x0, 0x0, 0x0, 2, 1⟩, -- NUMMON_ZERO_LO
   ⟨0x5C, 4, 1, 0x0, 0x0, 0x0, 0x0, 2, 2⟩, -- NUMMON_ZERO_HI
   ⟨0x60, 4, 1, 0x0, 0x0, 0x0, 0x0, 2, 1⟩, -- NUMMON_NONFIN_LO
   ⟨0x64, 4, 1, 0x0, 0x0, 0x0, 0x0, 2, 2⟩, -- NUMMON_NONFIN_HI
   ⟨0x68, 4, 1, 0x0, 0x0, 0x0, 0x0, 2, 1⟩, -- NUMMON_SAT_LO
   ⟨0x6C, 4, 1, 0x0, 0x0, 0x0, 0x0, 2, 2⟩ -- NUMMON_SAT_HI
  ] ++
  [
   ⟨0x80, 8, 32, 0x0, 0x0, 0x0, 0x0, 2, 1⟩, -- NUMMON_HIST_LO
   ⟨0x84, 8, 32, 0x0, 0x0, 0x0, 0x0, 2, 2⟩, -- NUMMON_HIST_HI
   ⟨0x180, 4, 1, 0x0, 0x0, 0x0, 0x0, 2, 1⟩, -- NUMMON_ALL_SAT_LO
   ⟨0x184, 4, 1, 0x0, 0x0, 0x0, 0x0, 2, 2⟩, -- NUMMON_ALL_SAT_HI
   ⟨0x188, 4, 1, 0x0, 0x0, 0x0, 0x0, 2, 1⟩, -- NUMMON_ALL_NF_LO
   ⟨0x18C, 4, 1, 0x0, 0x0, 0x0, 0x0, 2, 2⟩ -- NUMMON_ALL_NF_HI
  ]

/-- The REDUCE page (Table 7.10). -/
def regsReduce : List RegRow :=
  [
   ⟨0x40, 4, 1, 0x0, 0xF03, 0x0, 0x0, 2, 0⟩, -- RED_SEL
   ⟨0x44, 4, 1, 0x0, 0x0, 0x0, 0x0, 5, 0⟩, -- RED_SLOT
   ⟨0x48, 4, 1, 0x0, 0x0, 0x0, 0x0, 5, 0⟩, -- RED_UNITS
   ⟨0x4C, 4, 1, 0x0, 0x0, 0x0, 0x0, 5, 0⟩, -- RED_DONE
   ⟨0x50, 4, 1, 0x0, 0x0, 0x0, 0x0, 5, 0⟩, -- RED_BUF
   ⟨0x54, 4, 1, 0x0, 0x0, 0x0, 0x0, 2, 0⟩, -- RED_BUF_HIGH
   ⟨0x58, 4, 1, 0x0, 0x0, 0x0, 0x0, 2, 1⟩, -- RED_UNITS_DLV_LO
   ⟨0x5C, 4, 1, 0x0, 0x0, 0x0, 0x0, 2, 2⟩, -- RED_UNITS_DLV_HI
   ⟨0x60, 4, 1, 0x0, 0x0, 0x0, 0x0, 2, 1⟩, -- RED_CONTRIB_LO
   ⟨0x64, 4, 1, 0x0, 0x0, 0x0, 0x0, 2, 2⟩, -- RED_CONTRIB_HI
   ⟨0x68, 4, 1, 0x0, 0x0, 0x0, 0x0, 2, 1⟩, -- RED_NONFIN_LO
   ⟨0x6C, 4, 1, 0x0, 0x0, 0x0, 0x0, 2, 2⟩ -- RED_NONFIN_HI
  ]

/-- The KEYS page (Table 8.13). -/
def regsKeys : List RegRow :=
  [
   ⟨0x40, 4, 1, 0x0, 0x0, 0x0, 0x0, 5, 0⟩, -- KEY_STAT
   ⟨0x44, 4, 1, 0x0, 0x0, 0x0, 0x7, 0, 0⟩, -- KEY_CMD
   ⟨0x48, 4, 1, 0x0, 0xFFFFFFFF, 0x0, 0x0, 1, 0⟩, -- KEY_LABEL
   ⟨0x4C, 4, 1, 0x0, 0x0, 0x0, 0x0, 1, 0⟩, -- KEY_LABEL_G0
   ⟨0x50, 4, 1, 0x0, 0x0, 0x0, 0x0, 1, 0⟩, -- KEY_LABEL_G1
   ⟨0x54, 4, 1, 0x0, 0x0, 0x0, 0x0, 5, 0⟩, -- KEY_SWEPT
   ⟨0x58, 4, 1, 0x0, 0x0, 0x0, 0x0, 5, 0⟩, -- KEY_TOTAL
   ⟨0x5C, 4, 1, 0x0, 0x0, 0x0, 0x0, 5, 0⟩, -- KEY_OLD_RD
   ⟨0x60, 4, 1, 0x0, 0x0, 0x0, 0x0, 2, 0⟩, -- KEY_SWEEP_UE
   ⟨0x80, 4, 16, 0x0, 0x0, 0x0, 0xFFFFFFFF, 1, 0⟩ -- KEY_DATA
  ]

/-- The class-specific registers of page class `cls`, instance `inst` (R12). -/
def regsOf (cls inst : Nat) : List RegRow :=
  match cls with
  | 0 => regsDevice
  | 1 => regsCrest
  | 2 => regsTick
  | 3 => regsRidge
  | 4 => regsCluster
  | 5 => regsCore
  | 6 => regsCirque
  | 7 => regsHbm
  | 8 => regsCol
  | 9 => regsLink
  | 10 => regsPort
  | 11 => regsEth
  | 12 => regsIngress
  | 13 => regsEgress
  | 14 => regsServe
  | 15 => if inst = 0 then regsRdmaZero else regsRdmaItem
  | 16 => regsSec
  | 17 => regsAttest
  | 18 => if inst = 0 then regsEnergyZero else regsEnergyItem
  | 19 => regsFault
  | 20 => regsDigest
  | 21 => regsPart
  | 22 => if inst = 0 then regsSchedZero else regsSchedItem
  | 23 => regsCairn
  | 24 => regsPair
  | 25 => regsRng
  | 26 => regsNummon
  | 27 => regsReduce
  | 28 => regsKeys
  | _ => []

/-- Register `r` holds offset `off`. -/
def RegRow.covers (r : RegRow) (off : Nat) : Bool :=
  decide (r.off ≤ off) && (off - r.off) % r.stride == 0 && decide ((off - r.off) / r.stride < r.count)

/-- The register at an offset of a page: of the common header below 0x040, else of the class. -/
def regRow? (cls inst off : Nat) : Option RegRow :=
  if off < 0x40 then regsHeader.find? (·.covers off) else (regsOf cls inst).find? (·.covers off)

end Sys2Proof.Machine
end

