-- ==== Sys2Proof/Machine/State.lean ====
section
/-! DEFINITION. The state of a T9 as plain data: every register, queue, buffer, counter and mode that the spec gives
the device, with the queue of waiting commands. Registers that hold their own value lie in `regs`, under the key
`address + 2^32 · bank`; the others are computed from the fields below (R20). -/

namespace Sys2Proof.Machine

open Sys2Proof

/-- Why a command stops. -/
inductive Fault where
  /-- The command names a unit that the T9 does not have (R12, R27): no such core, link, slot or line exists. Raised by
  any command that carries the number. Safe: a command to a unit that does not exist has no effect to model. -/
  | noSuchUnit (kind : String) (number : Nat)
  deriving DecidableEq, Repr

/-- Why a command has no meaning. -/
inductive Refusal where
  /-- The command is not modelled. Raised by the arms of `exec` that name it. Safe: nothing is claimed of it. -/
  | notModelled (mnemonic : String)
  deriving DecidableEq, Repr

/-! ## The core (03_core.md) -/

/-- One instruction stream of a core (R95, R96, R101): program counter, cycle at which its head reached the head, the
cycle in which FEND parked it, and the first tick and frame boundary since the head was reached. -/
structure StreamSt where
  pc : BitVec 10
  head : Nat
  parked : Option Nat
  tickRel : Option Nat
  frameRel : Option Nat
  deriving DecidableEq, Repr

/-- A tile descriptor held with its tag (R90). -/
structure TagDesc where
  tag : Nat
  desc : Dword
  deriving DecidableEq, Repr

/-- When a tag's valid bit changed (R93): cycle after the last set, first cycle in which its present 1 is seen, first
cycle in which its present 0 is seen. -/
structure TagTime where
  setAt : Nat
  up : Nat
  down : Nat
  deriving DecidableEq, Repr

/-- An instruction in a unit queue: its word, and what it took in its issue cycle: row mask (R125), scalar register
named by sreg, the descriptors of its tags, job frame count and frame position (R338). -/
structure QOp where
  word : Dword
  mask : BitVec 16
  scalar : Word
  descs : List TagDesc
  jobFrames : Dword
  pos : Nat
  issuedAt : Nat
  /-- Its program counter and stream, as a cause's detail names them. -/
  origin : Nat
  /-- Flits landed into it while it waits (R168); one more than its lines once it is complete. -/
  landed : Nat
  deriving DecidableEq, Repr

/-- The MMA in the array: when it began, the first cycle of its last K step, and its last cycle without stalls
(R121, R122). -/
structure MmaRun where
  op : QOp
  begun : Nat
  lastStep : Nat
  due : Nat
  stopped : Bool
  deriving DecidableEq, Repr

/-- One element to be written: index, bits, saturated, non-finite, floor(log2 |value|) where finite and not zero. -/
structure ElemOut where
  idx : Nat
  bits : Nat
  sat : Bool
  nonfin : Bool
  lg : Option Int
  deriving DecidableEq, Repr

/-- The elements that an instruction writes into one tile. -/
structure TileOut where
  tag : Nat
  desc : Dword
  elems : List ElemOut
  counted : Bool
  deriving DecidableEq, Repr

/-- An instruction that the vector unit has begun, with its results (R100). -/
structure VecRun where
  op : QOp
  due : Nat
  outs : List TileOut
  stopped : Bool
  deriving DecidableEq, Repr

/-- A MOV that the mover has begun: lines moved so far and the cycle it began (Table 3.12). -/
structure MovRun where
  op : QOp
  moved : Nat
  begun : Nat
  /-- What it meets on its way (HRD, HWR). -/
  chk : MovChecks
  stopped : Bool
  deriving DecidableEq, Repr

/-- States of a ring slot (R196). -/
inductive SlotSt where
  | free | filling | current | old
  deriving DecidableEq, Repr

/-- A member slot of a millefeuille ring (R196). -/
structure RingSlot where
  tag : Nat
  ring : Nat
  st : SlotSt
  ver : Byte
  readers : Nat
  deriving DecidableEq, Repr

/-- A valid stamp register (R196). -/
structure Stamp where
  idx : Nat
  ring : Nat
  tag : Nat
  ver : Byte
  deriving DecidableEq, Repr

/-- A flit in an input queue, with its arrival cycle (R164, R165). -/
structure QFlit where
  flit : Flit
  at_ : Nat
  deriving DecidableEq, Repr

/-- The current token of a steering unit: select and flits left in the run (R174). -/
structure SteerTok where
  unit : Nat
  token : Flit
  left : Nat
  deriving DecidableEq, Repr

/-- The shape, job and accumulator kind of the last MMA issued (R129). -/
structure LastMma where
  shape : Nat
  job : Nat
  isInt : Bool
  deriving DecidableEq, Repr

/-- A core with its switch. -/
structure Core where
  /-- Active half of instruction store, tile tables and route tables. -/
  half : Bool
  /-- Instruction store words, key 3072·half + 1024·stream + index; unlisted words are FEND. -/
  ist : List (Nat × Dword)
  /-- Descriptors, key 512·half + tag. -/
  tiles : List (Nat × Dword)
  /-- Route entries 0-63 and steering words 64-71, key 72·half + entry. -/
  routes : List (Nat × Word)
  /-- Valid bits of the active table, by tag. -/
  valid : BitVec 512
  /-- Valid bits placed for the shadow table. -/
  validShadow : BitVec 512
  /-- When valid bits last changed, by tag (R93). -/
  tagAt : List (Nat × TagTime)
  f : StreamSt
  b : StreamSt
  u : StreamSt
  /-- Cycle of the last issue, plus 1 (R102: at most one issue per cycle). -/
  issued : Nat
  sregs : List (Nat × Word)
  mask : BitVec 16
  trace : Dword
  traceOut : Dword
  arrayQ : List QOp
  array : Option MmaRun
  /-- Of the last MMA completed: first cycle of its last K step, and its last cycle. -/
  arrayLast : Nat × Nat
  /-- Accumulator slots, key 16·cell + slot with cell 16·physical row + physical column (R114); FP32 or INT32 words. -/
  acc : List (Nat × Word)
  /-- Saturation flags of the slots (R144). -/
  accSat : List (Nat × Bool)
  lastMma : Option LastMma
  /-- Stationary and staging registers of the array's physical rows (R120), key 16·row + entry: the elements of one row of S
  within a K step. -/
  rowRegs : List (Nat × List Nat)
  staging : List (Nat × List Nat)
  vecQ : List QOp
  vecs : List VecRun
  /-- First cycle in which the vector unit takes its next instruction. -/
  vecFree : Nat
  movQ : List QOp
  movs : List MovRun
  slots : List RingSlot
  ringLast : List (Nat × Byte)
  stamps : List Stamp
  /-- The member slots, and the tags with a read in flight, as they stood before the completions of cycle `ringAt` - 1: what
  the issue selector sees in that cycle (R198). -/
  ringAt : Nat
  ringSlots : List RingSlot
  ringReads : List Nat
  frozen : Bool
  /-- Cycle in which the core froze (R422). -/
  frozenAt : Nat
  /-- A reset request held until the freeze reaches the partition (R376). -/
  resetHeld : Bool
  inReset : Bool
  colour : BitVec 2
  spill : Bool
  /-- A write of 0 to SW_CTL.spill waits for empty queues (R185). -/
  spillExit : Bool
  sealing : Bool
  sealed : BitVec 20
  /-- Inputs whose seal of the current colour was withheld (R163). -/
  lostSeals : BitVec 20
  /-- Input queues, key 5·ch + input (R164). -/
  queues : List (Nat × List QFlit)
  /-- Highest occupancy, key queue code. -/
  high : List (Nat × Nat)
  /-- Landing buffers, key channel 0-2 (R83, R168). -/
  landing : List (Nat × List QFlit)
  /-- Token queues of the steering units. -/
  tokQ : List (Nat × List Flit)
  steer : List SteerTok
  /-- Credits held for each link output, key 5·ch + output (R167). -/
  credits : List (Nat × Nat)
  /-- Outputs claimed in cycle `claimAt`, as 5·ch + output (R166). -/
  claims : List Nat
  claimAt : Nat
  /-- Cycle of the last dequeue (R187). -/
  lastDeq : Nat
  deriving DecidableEq, Repr

/-- A stream at program counter 0, not parked. -/
def StreamSt.reset (t : Nat) : StreamSt := ⟨0, t, none, none, none⟩

/-- A core after cold reset (R375, R378). -/
def Core.reset : Core :=
  { half := false, ist := [], tiles := [], routes := [], valid := 0, validShadow := 0, tagAt := [],
    f := .reset 0, b := .reset 0, u := .reset 0, issued := 0, sregs := [], mask := 0xFFFF, trace := 0, traceOut := 0,
    arrayQ := [], array := none, arrayLast := (0, 0), acc := [], accSat := [], lastMma := none, rowRegs := [], staging := [], vecQ := [], vecs := [], vecFree := 0, movQ := [],
    movs := [], slots := [], ringLast := [], stamps := [], ringAt := 0, ringSlots := [], ringReads := [], frozen := false, frozenAt := 0, resetHeld := false, inReset := false,
    colour := 0, spill := false, spillExit := false, sealing := false, sealed := 0, lostSeals := 0, queues := [], high := [],
    landing := [], tokQ := [], steer := [], credits := [], claims := [], claimAt := 0, lastDeq := 0 }

/-! ## Traffic between switches (06_fabric.md) -/

/-- A flit or token on its way into a queue of a switch, or to a steering unit. -/
structure Wire where
  core : Nat
  ch : Chan
  inp : Port
  flit : Flit
  due : Nat
  deriving DecidableEq, Repr

/-- A flit forwarded out of the grid, on its way to the die attached to an edge core (R30, R165). -/
structure EdgeWire where
  core : Nat
  ch : Chan
  flit : Flit
  due : Nat
  deriving DecidableEq, Repr

/-- A token on its way to a steering unit's queue (R174). -/
structure TokWire where
  core : Nat
  unit : Nat
  flit : Flit
  due : Nat
  deriving DecidableEq, Repr

/-- A credit on its way back (R167); output `l` names the credit of the die attached to the core. -/
structure CreditWire where
  core : Nat
  ch : Chan
  out : Port
  due : Nat
  deriving DecidableEq, Repr

/-- Traffic in flight. -/
structure Fabric where
  wires : List Wire
  edge : List EdgeWire
  toks : List TokWire
  credits : List CreditWire
  /-- Credits that an edge die has spent on the queues of an edge core and not got back, key 4·core + ch. The lines of a
  reduction unit count from its delivery on (log entry 83). -/
  dieSpent : List (Nat × Nat)
  deriving DecidableEq, Repr

/-! ## Ticks and the schedule (02_ticks_frames_schedule.md) -/

/-- The tick logic of the Crest. -/
structure Tick where
  running : Bool
  n : Dword
  /-- First cycle of the current tick. -/
  boundAt : Nat
  /-- First cycle of the current frame. -/
  frameAt : Nat
  /-- The frame boundary of this tick has been taken. -/
  frameDone : Bool
  /-- TICK_START was written; counting begins at the next boundary. -/
  startPending : Bool
  locked : Bool
  /-- fclk is locked in frequency (R278). -/
  freqLocked : Bool
  holdover : Bool
  numberOk : Bool
  offset : Int
  /-- Cycle in which the last marker of the upstream link arrived, and its mark_off. -/
  lastMarker : Nat
  lastOff : Nat
  /-- The upstream link in force (R52). -/
  upstream : Nat
  deriving DecidableEq, Repr

/-- A job of an image (Table 2.8). -/
structure Job where
  id : Nat
  serving : Bool
  parts : BitVec 16
  windows : BitVec 256
  deriving DecidableEq, Repr

/-- What the device keeps of an image once it has read it: its place, header and tables (Tables 2.3 to 2.8). -/
structure Image where
  addr : Nat
  len : Nat
  id : Dword
  /-- Its staging window (R65). -/
  window : Nat
  tickCode : Nat
  frameCode : Nat
  period : Nat
  servRidges : Nat
  parts : List Nat
  jobs : List Job
  deriving DecidableEq, Repr

/-- The staged and the active image (Table 2.10, Table 2.15). -/
structure Sched where
  /-- 0 EMPTY, 1 LOADING, 2 VERIFIED, 3 ARMED, 4 REJECTED. -/
  st : Nat
  /-- Address named by LOAD. -/
  loadAddr : Nat
  /-- Window that LOAD locked. -/
  lockWin : Option Nat
  /-- Errors of the lines that the verification of the image reads, as LOAD gave them (R242); the field is the model's own
  (log entry 48). -/
  loadErrs : List (Nat × SymErrs)
  staged : Option Image
  reject : Nat
  link : Nat
  armedTick : Dword
  shadowReady : Bool
  active : Option Image
  activeTick : Dword
  /-- First cycle of the activation tick (Table 6.7). -/
  activeAt : Nat
  /-- Epoch colour of the device (R184). -/
  colour : BitVec 2
  deriving DecidableEq, Repr

/-! ## Partitions, regions and the device (13_bringup_and_reset.md) -/

/-- A partition (Tables 13.6, 13.12). -/
structure Part where
  /-- State code of Table 13.6. -/
  st : Nat
  /-- A power transition in progress: target and its due cycle. -/
  move : Option (Nat × Nat)
  /-- Frozen when it was parked (Table 13.7). -/
  wasFrozen : Bool
  /-- A partition reset waits for the exit from a power state. -/
  resetAfter : Bool
  deriving DecidableEq, Repr

/-- A reset in progress (R377): its region, request cycle, and whether its drain has ended. -/
structure ResetRun where
  region : Region
  at_ : Nat
  drained : Bool
  keepP : Bool
  deriving DecidableEq, Repr

/-! ## Reports and the event log (16_faults_events_digest.md) -/

/-- A report on its way to the coalescer (R424). -/
structure Report where
  key : Nat
  cls : Nat
  inst : Nat
  bit : Nat
  fclass : Nat
  errFirst : Word
  tick : Dword
  /-- Cycle of the report. -/
  at_ : Nat
  deriving DecidableEq, Repr

/-- A coalescer entry (Table 16.8). -/
structure FltEntry where
  key : Nat
  cls : Nat
  inst : Nat
  bit : Nat
  fclass : Nat
  tick : Dword
  cnt : Nat
  /-- Cleared: the entry is free from this cycle on. -/
  freeFrom : Option Nat
  deriving DecidableEq, Repr

/-- An event-log entry (Table 16.4). -/
structure LogEntry where
  idx : Word
  code : Nat
  cls : Nat
  fclass : Nat
  tick : Dword
  inst : Nat
  detail : List Byte
  read : Bool
  /-- Cycle in which it was logged. -/
  at_ : Nat
  deriving DecidableEq, Repr

/-- What one page recorded in the present cycle (R17, R23): the bits set in ERR_SUM, the causes counted, ERR_CNT before
them, whether ERR_FIRST latched, and whether a W1C write of this cycle cleared its valid bit. -/
structure FreshPage where
  page : Nat
  bits : Word
  count : Nat
  before : Word
  latched : Bool
  wiped : Bool
  deriving DecidableEq, Repr

/-- An event of the present cycle that a record with a W1C valid bit holds or would hold (R17, R73): the key of the register
with the valid bit, its rank among the events of the cycle, the registers of the record, and whether the record took it. -/
structure FreshRec where
  key : Nat
  rank : Nat
  vals : List (Nat × Word)
  latched : Bool
  deriving DecidableEq, Repr

/-- What the hardware recorded in cycle `at_` (R17, R23, R73). -/
structure Fresh where
  at_ : Nat
  pages : List FreshPage
  recs : List FreshRec
  deriving DecidableEq, Repr

/-- The fault coalescer and the event log. -/
structure Faults where
  queue : List Report
  /-- Device-fatal reports to be logged in the cycle after (R439). -/
  fatal : List Report
  /-- Entries 0-63. -/
  entries : List (Nat × FltEntry)
  intPending : Bool
  storm : Bool
  fatalRecorded : Bool
  /-- FLT_STAT[9]: event 0x0003 of a recorded device-fatal fault is in the log. -/
  fatalLogged : Bool
  /-- Log ring, key index mod 4,096. -/
  log : List (Nat × LogEntry)
  /-- Index of the next event. -/
  head : Word
  /-- Entries lost unread, in all. -/
  lost : Nat
  /-- What was recorded in the present cycle. -/
  fresh : Fresh
  /-- First cycle in which the coalescer may take its next report (R425). -/
  takeFrom : Nat
  deriving DecidableEq, Repr

/-! ## Memory hubs, stacks and keys (08_memory.md) -/

/-- A move in flight (R233, R236). -/
structure Move where
  cirque : Nat
  /-- Its index in the move list; none: the manual move. -/
  index : Option Nat
  job : Nat
  /-- Hub cache to HBM. -/
  toHbm : Bool
  hbm : Nat
  hub : Nat
  lines : Nat
  /-- Lines landed or written, rising. -/
  landed : List Nat
  /-- Tick boundary by which it must be complete. -/
  deadline : Dword
  /-- XOR of the line digests of the lines written (R343). -/
  digest : Dword
  deriving DecidableEq, Repr

/-- A stack as trained (Table 8.11). -/
structure Stack where
  trained : Bool
  selfRefresh : Bool
  rate : Nat
  doubleRefresh : Bool
  repaired : Nat
  temp : Nat
  /-- Lines of its scrub pass done in this period. -/
  scrubbed : Nat
  deriving DecidableEq, Repr

/-- A sweep in progress (R247): the windows it covers, and the lines that each stack has passed. -/
structure Sweep where
  windows : List Nat
  passed : List (Nat × Nat)
  deriving DecidableEq, Repr

/-- A key slot (R246): two generations of 64 key bytes. -/
structure KeySlot where
  g0 : Option (List Byte)
  g1 : Option (List Byte)
  current : Bool
  /-- A SWITCH since the last sweep finished. -/
  switched : Bool
  sweep : Option Sweep
  erasePending : Bool
  /-- Reads issued before the last sweep finished and not yet returned (R248): Cirque, list index and line of the move. -/
  oldReads : List (Nat × Option Nat × Nat)
  swept : Nat
  total : Nat
  deriving DecidableEq, Repr

/-- A hub line, key 2^20 · Cirque + line, as it was before a change of its contents or state in a cycle. -/
structure HubPast where
  key : Nat
  at_ : Nat
  line : Line
  st : Nat
  deriving DecidableEq, Repr

/-- A line of core SRAM, key 2^13 · core + line, as it stood before a change of cycle `at_` (R82, R84). -/
structure SramPast where
  key : Nat
  at_ : Nat
  line : Line
  deriving DecidableEq, Repr

/-- The memory system outside its registers. -/
structure Mem where
  /-- Hub line states other than READY, key 2^20 · Cirque + line: 1 PENDING, 2 VOID (R227). -/
  lineSt : List (Nat × Nat)
  /-- Changes of hub lines while an HRD is on its way, oldest first (R226). -/
  hubPast : List HubPast
  /-- Changes of core SRAM lines while a SEND or HWR of the core is on its way, oldest first (R82, R84). -/
  sramPast : List SramPast
  moves : List Move
  /-- Moves whose issue tick passed while their engine was frozen (R232). -/
  unissued : List Move
  /-- Move engines frozen. -/
  engFrozen : List (Nat × Bool)
  /-- Per Cirque: N + 1 of the last tick served, and the list index served in it, plus 1. -/
  issueTick : List (Nat × Nat)
  issueIdx : List (Nat × Nat)
  /-- Least slack in the current frame, and over the last completed frame; 0xFFFF unless listed (CIRQ_SLACK). -/
  slackNow : List (Nat × Nat)
  slack : List (Nat × Nat)
  mmDone : List (Nat × Bool)
  mmRejected : List (Nat × Bool)
  /-- Bridges trained, N E S W, by Cirque. -/
  bridges : List (Nat × Nat)
  stk : List (Nat × Stack)
  keys : List (Nat × KeySlot)
  deriving DecidableEq, Repr

/-! ## The energy ledger (14_energy.md) -/

/-- What the ledger keeps of a completed frame: package energy and declared energy of all jobs, µJ, and deferred. -/
structure FrameEnergy where
  pkg : Nat
  declared : Nat
  deferred : Bool
  deriving DecidableEq, Repr

/-- Accounts in femtojoules and the state of votes and deferrals. -/
structure Energy where
  part : List (Nat × Nat)
  job : List (Nat × Nat)
  shared : Nat
  pkg : Nat
  /-- Event charges of the current tick, by job and by partition. -/
  tickJob : List (Nat × Nat)
  tickPart : List (Nat × Nat)
  /-- A frame has begun: the accounts at its beginning are kept. -/
  inFrame : Bool
  /-- Accounts at the last frame boundary. -/
  pkgMark : Nat
  partMark : List (Nat × Nat)
  /-- Power of each partition over the last completed frame, 0.1 W. -/
  partPwr : List (Nat × Nat)
  /-- Completed frames, newest first. -/
  hist : List FrameEnergy
  /-- Frames for which a vote is held. -/
  votes : List Nat
  budgetVote : Bool
  thermalVote : Bool
  deferred : Bool
  proj : Nat
  /-- Frame at which the last activation fell. -/
  actFrame : Nat
  /-- Training period position P_t and device period position (R392). -/
  trainPos : Nat
  devPos : Nat
  /-- Whole image periods of training frames since activation (R341). -/
  periods : Nat
  deriving DecidableEq, Repr

/-! ## Links and reduction engines (09_links.md, 07_training_passes.md) -/

/-- A slot waiting in an outbound queue, with its take cycle and the edge core that fed it (R260). -/
structure TxSlot where
  slot : Slot
  take : Nat
  core : Nat
  /-- Job it is charged to (log entry 20). -/
  job : Option Nat
  deriving DecidableEq, Repr

/-- A received slot in the elastic buffer: its cycle t + L of delivery, and when it is available (R262). -/
structure RxSlot where
  slot : Slot
  due : Nat
  avail : Nat
  deriving DecidableEq, Repr

/-- A frame in the replay buffer: its launch cycle, and whether it was replayed (R267). -/
structure Sent where
  frame : LinkFrame
  at_ : Nat
  replayed : Bool
  deriving DecidableEq, Repr

/-- A link (R256 to R281). -/
structure Link where
  /-- State code of Table 9.8. -/
  st : Nat
  width : Nat
  lanes : BitVec 8
  passed : BitVec 8
  fail : Nat
  /-- Live word (R274). -/
  word : Word
  mIn : Nat
  mOut : Nat
  mark : Int
  /-- Cycle in which its last marker arrived. -/
  markAt : Nat
  trainMs : Nat
  /-- Cycle at which the present training state was entered. -/
  since : Nat
  /-- Cycle at which the present training began, and the cycle up to which Trotos retrains the link (R276). -/
  trainFrom : Nat
  retryTill : Nat
  peerDevice : Nat
  peerLink : Nat
  /-- What the peer last told of itself (R273). -/
  peerId : Option LinkId
  frozen : Bool
  outQ : List TxSlot
  /-- Service slots to send (R258). -/
  svcQ : List Slot
  /-- The first of them is a primary-fault message, which goes in the first frame launched (R356). -/
  faultFirst : Bool
  txSeq : BitVec 10
  lastLaunch : Nat
  /-- N + 1 of the last tick whose marker was sent. -/
  markSent : Nat
  sent : List Sent
  /-- Relaunch of a requested frame: seq and its cycle (R267). -/
  relaunch : Option (BitVec 10 × Nat)
  /-- Request last served. -/
  served : Option (BitVec 10)
  /-- seq of the last good frame received in order. -/
  rxSeq : Option (BitVec 10)
  /-- Bad frames whose replay is requested, oldest first: seq and the cycle of the verdict (R267). -/
  await : List (BitVec 10 × Nat)
  elastic : List RxSlot
  lastRx : Nat
  /-- Went DOWN with deliveries outstanding (R269). -/
  missed : Bool
  deriving DecidableEq, Repr

/-- A slot of a reduction engine (R209). -/
structure RedSlot where
  slot : Nat
  owner : Nat
  units : Nat
  route : BitVec 6
  plane : Bool
  mask : BitVec 512
  delivered : List Nat
  /-- Links through which it has taken a contribution (R268). -/
  links : List Nat
  /-- Units discarded by a fault (R212); `dead`: it stood active at a frame boundary, and delivers nothing more. -/
  bad : List Nat
  dead : Bool
  /-- Every unit is on its way: the cycle in which the last line leaves, after which the slot is no longer active (R209). -/
  endAt : Option Nat
  /-- Job of the descriptor, to which what the slot causes is charged (Table 14.1). -/
  job : Option Nat
  deriving DecidableEq, Repr

/-- A unit being summed (R210): its accumulator of 4,096 FP32 values and the last device added. -/
structure RedUnit where
  slot : Nat
  unit : Nat
  last : Option Nat
  busy : Bool
  /-- Contributions added. -/
  count : Nat
  complete : Bool
  /-- Cycle in which the unit's last line was taken. -/
  doneAt : Nat
  acc : List (Nat × Word)
  /-- Once it is delivered: the cycle in which its last line leaves. -/
  freeAt : Option Nat
  deriving DecidableEq, Repr

/-- A line waiting at an engine input: payload, last, and the edge core (for a link: the first of its pair) by which it arrived. -/
structure RedLine where
  /-- Job it is charged to. -/
  job : Option Nat
  payload : Line
  last : Bool
  core : Nat
  deriving DecidableEq, Repr

/-- One input of an engine: its queue and its parse state (R207, R208): lines parsed of the present contribution or
descriptor, its header, its scale lines; `skip`: its unit was discarded. -/
structure RedInput where
  queue : List RedLine
  parsed : Nat
  hdr : Line
  scales : List Line
  skip : Bool
  deriving DecidableEq, Repr

/-- A reduction engine. -/
structure RedEngine where
  slots : List RedSlot
  units : List RedUnit
  /-- Inputs, key 0-7 edge attachment, 8-11 link k. -/
  inputs : List (Nat × RedInput)
  takenAt : Nat
  deriving DecidableEq, Repr
/-! ## Cairns, restore and pairing (12_pairing_and_recovery.md) -/

/-- A capture in progress: an OPEN slot (R341, R342). -/
structure Capture where
  slot : Nat
  jobs : BitVec 8
  frame : Nat
  tick : Dword
  /-- Hub-to-HBM moves into the slot that issued in the capture frame and have not completed: Cirque and list index. -/
  waiting : List (Nat × Nat)
  /-- XOR of the move digests of the completed ones (R343). -/
  digest : Dword
  /-- What each core latched at b, by core. -/
  latches : List (Nat × List Byte)
  /-- Jobs whose loss stamp is written. -/
  stamped : BitVec 8
  deriving DecidableEq, Repr

/-- A restore in progress (R347): phase 1 reinstating, 2 holding, 3 replaying. -/
structure Restore where
  slot : Nat
  jobs : BitVec 8
  phase : Nat
  /-- Restart boundary; 0 while none is chosen. -/
  restart : Dword
  /-- Cycle at which stage 2 ended. -/
  readyAt : Nat
  /-- Named jobs whose replayed loss has been compared. -/
  compared : BitVec 8
  deriving DecidableEq, Repr

/-- What the Crest keeps of Cairns outside HBM. -/
structure CairnSt where
  captures : List Capture
  matched : List (Nat × Bool)
  restore : Option Restore
  lastSlot : Nat
  reason : Nat
  accepted : Bool
  t7 : Bool
  skew : Nat
  /-- Step number and loss that each training job's loss record last showed (R340). -/
  loss : List (Nat × (Dword × Word))
  /-- Move digest of the latest completion, key 2^16 · Cirque + list index (R343). -/
  moveDigest : List (Nat × Dword)
  deriving DecidableEq, Repr

/-- A value exchanged by a pair (Table 12.6), with the frame in which it was kept. -/
structure PairVal where
  code : Nat
  place : Nat
  step : Dword
  value : Dword
  value2 : Dword
  frame : Nat
  /-- For a commit record: the HBM address of the shard's new weights and their lines (tile digests, R357). -/
  addr : Nat
  lines : Nat
  /-- It has been compared; further copies of the partner's value are dropped. -/
  done : Bool
  deriving DecidableEq, Repr

/-- What the Crest keeps of its pair. -/
structure PairSt where
  formed : Bool
  /-- State code of PAIR_STAT. -/
  st : Nat
  rollbacks : Nat
  own : List PairVal
  peer : List PairVal
  trace : Dword
  /-- Own cluster traces, by frame. -/
  traces : List (Nat × List Dword)
  /-- Primary fault being sent: its cause, and the ticks left. -/
  fault : Option (Nat × Nat)
  /-- The takeover signal: received, and not yet applied. -/
  taken : Bool
  takePending : Bool
  /-- Divergence whose place is not yet known. -/
  seeking : Option PairVal
  /-- Tile digests: own and the partner's. -/
  tiles : Option (List Dword)
  peerTiles : Option (List Dword)
  peerTraces : Option (Dword × List Dword)
  candidate : Option (Nat × Dword)
  peerCandidate : Option (Nat × Dword)
  /-- The shard whose granule is recomputed (R359). -/
  disputed : Option PairVal
  verdict : Option (Option Bool)
  peerVerdict : Option (Option Bool)
  /-- The last message of each kind of divergence handling, and the pair links on which it has come (R355, R357). -/
  heard : List (DivMsg × List Nat)
  deriving DecidableEq, Repr


/-! ## The device (13_bringup_and_reset.md, 15_security.md, 16_faults_events_digest.md) -/

/-- A spare fill (R360, R361): the failed cores it covers, of one column, oldest first, and the logical cores whose
positions they held when they failed. -/
structure Fill where
  cores : List PhysCore
  spots : List Nat
  /-- Step 2 is done: the partition's switches are empty, and the column is remapped. -/
  remapped : Bool
  deriving DecidableEq, Repr

/-- What the Crest keeps of the device. -/
structure DevSt where
  /-- COLD_RST_N is high and the boot ROM has run. -/
  up : Bool
  /-- Trotos runs. -/
  trotos : Bool
  fuseError : Bool
  /-- No firmware could be booted: DEV_STAT.reason 5. -/
  fwFail : Bool
  /-- Step of Table 13.2 that a device not ready stands at. -/
  step : Nat
  fuses : Fuses
  flash : Flash
  /-- Unusable physical cores (R369, R373). -/
  bad : List PhysCore
  /-- Rows bypassed by the remap in force, key 24 · Ridge + column (R175). -/
  bypass : List (Nat × List Nat)
  /-- Spare fills, the first one running (R361). -/
  fills : List Fill
  /-- Saddle edges calibrated, N E S W, by Ridge. -/
  saddles : List (Nat × Nat)
  /-- Dies that failed BIST, by code (R367). -/
  dieBad : List Nat
  /-- Logical cores without verified microcode. -/
  micro : List Nat
  /-- The microcode image that every other core's store holds (R97, R374), and by logical core the bits of lines in which its
  store differs though its check passed. -/
  ucode : List Byte
  ucodeOdd : List (Nat × List (Nat × Line))
  /-- The field defect log that Trotos keeps; a failed write leaves the one in flash behind it (R373). -/
  log : Option DefectLog
  /-- Cores that failed in service and are to be logged, with bits [31:0] of the tick of the failure (R373). -/
  toLog : List (PhysCore × Word)
  /-- DEV_DLOG_STAT: a valid log was found; the last flash write failed; defect_log_full was raised. -/
  logFound : Bool
  logFailed : Bool
  logFull : Bool
  /-- Thermal sensors, key 16 · die code + index, in 1/16 °C; those excluded; die currents. -/
  sensors : List (Nat × Int)
  sensorBad : List Nat
  currents : List (Nat × Nat)
  /-- THERM_TRIP_N is low. -/
  tripped : Bool
  /-- Management cores running and halted, one bit each. -/
  running : BitVec 4
  halted : BitVec 4
  /-- A warm reset that is to start, by cause. -/
  warm : Option WarmCause
  /-- A firmware trial is running, and the cycle of its start (R412). -/
  trial : Option Nat
  /-- Cycle in which the last bring-up or warm reset began. -/
  bootAt : Nat
  /-- Losses that Trotos has still to log, one list for each warm reset: page class, group and instance (R384). -/
  lossDue : List (List (Nat × Nat × Nat))
  /-- The Ridges whose current sensor is excluded (R44). -/
  currentBad : List Nat
  /-- Power state of the Ridges: 6 Park, 7 Retain, 8 Off, unless listed Active (R382). -/
  power : List (Nat × Nat)
  /-- The switches stand in spill mode under the flood configuration that hardware holds (R374). -/
  flood : Bool
  /-- CREST_HEART, and the cycle in which its value last changed (R388). -/
  heart : Word
  heartAt : Nat
  deriving DecidableEq, Repr

/-- What the Crest keeps of security. -/
structure SecSt where
  slotB : Bool
  net : Bool
  fallback : Bool
  jtag : Bool
  keySlot : Nat
  svn : Nat
  version : Word
  /-- M0 to M7; an unlisted one is zero (R409). -/
  meas : List (Nat × List Byte)
  /-- Extensions of M5, M6 and M7 since the last warm reset (R410). -/
  extensions : Nat
  /-- The package of a STAGE in progress. -/
  staging : Option Package
  result : Nat
  last : Nat
  chal : Option (List Byte)
  /-- The nonce of the report being made (R416). -/
  nonce : Option (List Byte)
  report : Option (List Byte)
  reports : Nat
  cert : List Byte
  /-- Network boot: the bring-up that waits for the package (with true: a warm reset), the next block index, the bytes so
  far (R407). -/
  netWait : Option (Bringup × Bool)
  netNext : Nat
  netData : List Byte
  deriving DecidableEq, Repr

/-- A peer's comparison with the own shared digest (R432): link, frames in a row that differ, raised. -/
structure DigPeer where
  device : Nat
  link : Nat
  run : Nat
  raised : Bool
  /-- One more than the last frame compared. -/
  last : Nat
  deriving DecidableEq, Repr

/-- What the DIGEST page publishes and compares (R430 to R432). -/
structure DigSt where
  dev : Dword
  shared : Dword
  timing : Dword
  frame : Dword
  /-- Own shared digests by frame, newest first. -/
  own : List (Nat × Dword)
  /-- Messages for a frame not yet published: frame, layout, digest, peer, link. -/
  waiting : List (Word × Dword × Dword × Nat × Nat)
  peers : List DigPeer
  lastPeer : Nat
  lastLink : Nat
  /-- Peers compared since the last boundary, and as shown. -/
  compared : List Nat
  shown : Nat
  /-- Device digest, shared digest and timing contribution as they stood before the changes of the cycle of the frame boundary
  (R430). -/
  held : Option (Dword × Dword × Dword)
  deriving DecidableEq, Repr

/-! ## Host access (11_host_ports.md) -/

/-- A register-frame source (R320, R322, R323): expected seq, the stored response body, status of the last response. -/
structure SourceSt where
  frozen : Bool
  synced : Bool
  expected : Word
  stored : Option (List Byte)
  status : Byte
  deriving DecidableEq, Repr

/-- The latches of an access source (R18): pair address and _HI value of its last _LO read; address and value of a
_LO write it holds. -/
structure Latch where
  rd : Option (Nat × Word)
  wr : Option (Nat × Word)
  deriving DecidableEq, Repr

/-- An RDMA WRITE message not yet acknowledged (R327): first and last PSN, the header of its last packet, and the headers
and PSNs of duplicates of its packets, which are acknowledged after it. -/
structure AckDue where
  first : BitVec 24
  psn : BitVec 24
  hdr : FrameHdr
  again : List (FrameHdr × BitVec 24)
  deriving DecidableEq, Repr

/-- An RDMA WRITE message of which packets are still to come (R326): its first PSN, where its next byte goes, how many bytes
are left, and duplicates of its packets. -/
structure WriteRun where
  first : BitVec 24
  va : Nat
  left : Nat
  again : List (FrameHdr × BitVec 24)
  deriving DecidableEq, Repr

/-- A queue pair outside its registers (R324 to R327): last NAK syndrome, a PSN sequence error outstanding, cycle of the
last CNP plus 1, message sequence number, the WRITE message in progress, WRITEs to acknowledge, and the cycles in which the
answers of its READ requests have left. -/
structure QpSt where
  syndrome : Byte
  nakHeld : Bool
  cnpAt : Nat
  msn : BitVec 24
  writing : Option WriteRun
  acks : List AckDue
  reads : List Nat
  deriving DecidableEq, Repr

/-- An installed SAK, with the next packet number to send under it. -/
structure LiveSak extends Sak where
  txPn : Nat
  deriving DecidableEq, Repr

/-- MACsec of an interface (R330, R331): CKN and CAK, live MKA session, SAKs by association number, transmit association. -/
structure MacsecSt where
  cak : Option (List Byte × List Byte)
  live : Bool
  saks : List (Nat × LiveSak)
  txAn : Nat
  deriving DecidableEq, Repr

/-- A register frame that waits for the path (R321): over the sideband or from an interface, and its cycle of arrival. -/
structure PathEntry where
  q : RegReq
  sideband : Bool
  at_ : Nat
  deriving DecidableEq, Repr

/-- An event frame not yet acknowledged (R329): first log index, entry count, sends so far, cycle of the last send. -/
structure EventFrame where
  first : Word
  count : Nat
  sends : Nat
  at_ : Nat
  /-- Its register-frame body. -/
  body : List Byte
  deriving DecidableEq, Repr

/-- What the Crest keeps for host access. -/
structure HostSt where
  sources : List (Nat × SourceSt)
  /-- Latches: key n of source n, 32 the sideband, 33 Trotos. -/
  latches : List (Nat × Latch)
  /-- Register frames waiting for the path, in order of arrival (R321). -/
  path : List PathEntry
  qps : List (Nat × QpSt)
  macsec : List (Nat × MacsecSt)
  /-- Log index of the first unsent entry, seq of the pending or next event frame, the pending frame, stalled. -/
  evtNext : Word
  evtSeq : Word
  evtFrame : Option EventFrame
  evtStalled : Bool
  /-- Admission (R332): 0 none, 1 prepared, 2 installed; the key pair. -/
  adm : Nat
  admPriv : Option (List Byte)
  admPub : List Byte
  /-- The endpoint ID that the board controller has assigned, and the PLDM terminus ID (R334). -/
  eid : Byte
  tid : Byte
  deriving DecidableEq, Repr

/-! ## Random streams (12_pairing_and_recovery.md) -/

/-- A random stream (R337, R339, R365): its key, the key words written and not yet committed, the key that takes effect
at the next frame boundary, key_set, T7 mode with its base, and the cursor shown. -/
structure RngSt where
  key : BitVec 128
  words : BitVec 128
  commit : Option (BitVec 128)
  keySet : Bool
  t7 : Bool
  base : BitVec 128
  cur : Dword
  deriving DecidableEq, Repr

/-! ## The serving lane (10_serving_lane.md) -/

/-- An entry of the instrument map (Table 10.3): `leave` and `delete` pending, and the state pages its sequence owns
(R298). State codes: 0 IDLE, 1 QUEUED, 2 JOINING, 3 LIVE. -/
structure MapEntry where
  key : Dword
  feed : Nat
  row : Nat
  slot : Nat
  flags : Nat
  st : Nat
  leave : Bool
  delete : Bool
  pages : List Nat
  deriving DecidableEq, Repr

/-- A command of IN_CMD waiting for the gather boundary: its code, and IN_SEL and IN_DATA as latched (R291). -/
structure MapCmd where
  code : Nat
  index : Nat
  data : List Word
  deriving DecidableEq, Repr

/-- A queued join (R299): its entry, history line and length, and whether it was counted as deferred (R300). -/
structure JoinReq where
  entry : Nat
  hub : Nat
  len : Nat
  deferred : Bool
  deriving DecidableEq, Repr

/-- A JOINING sequence: the next chunk, the step that took its last chunk, the step of its admission (R300, R301). -/
structure Joining where
  entry : Nat
  hub : Nat
  len : Nat
  chunk : Nat
  last : Option Nat
  admitted : Nat
  deriving DecidableEq, Repr

/-- What one slot of a step, or a place in the carry queue, holds (Table 10.5); `chunk` is the chunk word of bytes 8-11. -/
structure Served where
  entry : Nat
  slot : Nat
  row : Nat
  flags : Nat
  chunk : Option Nat
  count : Nat
  steps : Nat
  ts : Dword
  cursor : Dword
  pages : List Nat
  feature : Line
  deriving DecidableEq, Repr

/-- The step being composed (R293, R294): E, first gather line, slots so far, carried, chunks. -/
structure StepRec where
  step : Nat
  ports : Nat
  base : Nat
  slots : List Served
  carried : Nat
  chunks : Nat
  deriving DecidableEq, Repr

/-- The two lines of a slot on their way to an edge core (R294, R295). -/
structure GatherLine where
  step : Nat
  core : Nat
  line : Nat
  head : Line
  feature : Line
  due : Nat
  deriving DecidableEq, Repr

/-- A step header on its way (R296). -/
structure HeaderLine where
  step : Nat
  ports : Nat
  line : Nat
  head : Line
  tag : Nat
  deriving DecidableEq, Repr

/-- A decision in the fill pipeline (R302, R305): the cycle it enters the MAC, its template as committed at fill, the
sequence counter before fill, and its result line. -/
structure FillRun where
  due : Nat
  words : List Word
  seq : Word
  line : Line
  deriving DecidableEq, Repr

/-- An event whose lookup falls in a later cycle, beyond a gather or frame boundary (R290, R292): that cycle, the feed, the
timestamp, the instrument key and the feature line. -/
structure LateLook where
  at_ : Nat
  feed : Nat
  ts : Dword
  key : Dword
  feature : Line
  deriving DecidableEq, Repr

/-- The serving lane. -/
structure ServeSt where
  /-- Links up, by interface. -/
  ethUp : List (Nat × Bool)
  map : List (Nat × Option MapEntry)
  /-- Filter, message-type and field-descriptor entries: key 2^20 · table + 8 · index + word. -/
  tab : List (Nat × Word)
  cmd : Option MapCmd
  /-- IN_RESULT without busy. -/
  result : Word
  models : List (Nat × Word)
  /-- Writes of SRV_MODEL that wait for the gather boundary: slot and value (R317). -/
  modelPend : List (Nat × Word)
  joinQ : List JoinReq
  /-- In admission order. -/
  joining : List Joining
  /-- Pages freed at the last gather boundary (R300). -/
  freed : List Nat
  /-- Oldest first. -/
  carry : List Served
  /-- B in force. -/
  budget : Nat
  /-- One more than the last step whose gather boundary was taken. -/
  nextStep : Nat
  comp : Option StepRec
  /-- Entries that left IDLE since the last gather boundary: at it they were IDLE (R292). -/
  joined : List Nat
  /-- Cycle of the last lookup, its port, and that port's lookups in the cycle (R290, R293). -/
  lookAt : Nat
  lookPort : Nat
  looks : Nat
  /-- Events whose lookup waits for its cycle. -/
  lateLooks : List LateLook
  /-- An image was activated and no step has been composed since (Table 10.5). -/
  first : Bool
  /-- One more than the last step that was marked as the first after an activation. -/
  firstTick : Nat
  landing : List GatherLine
  /-- Gather lines that the Port wrote in cycle `oldAt`, key 2^13 · core + line, as they were before (R84). -/
  oldLines : List (Nat × Line)
  oldAt : Nat
  headers : List HeaderLine
  /-- First free cycle of each edge core's gather ports (R295). -/
  edgeFree : List (Nat × Nat)
  /-- Template words: key 82 · template + word; committed, with the sequence counters, and staging. -/
  tpl : List (Nat × Word)
  tplStage : List (Nat × Word)
  tplPend : List Nat
  fills : List FillRun
  /-- Decision frames in the transmit buffers, by interface, and the host frames that wait behind them (R306). -/
  tx : List (Nat × List (List Byte))
  txHost : List (Nat × List (List Byte))
  /-- Cycle in which muted was set. -/
  mutedAt : Nat
  /-- Time of day at cycle `todAt`, in units of 1/(47 · 2^40) ns. -/
  tod : Nat
  todAt : Nat
  todPend : Bool
  /-- Feed block of frame `feedFrame`: records written, dropped, and the cursor of record 0 (R307). -/
  feedIn : Nat
  feedDrop : Nat
  /-- The frame whose block that is. -/
  feedFrame : Nat
  feedCur : Dword
  deriving DecidableEq, Repr

/-- Live counters of the numerics monitor: those of past cycles, and the counts of one cycle apart (R153). -/
structure LiveCounts where
  past : List (Nat × Nat)
  now : List (Nat × Nat)
  cycle : Nat
  deriving DecidableEq, Repr

/-! ## What leaves the device -/

/-- Something the device sends or drives. -/
inductive Out where
  /-- A frame on an Ethernet interface. -/
  | frame (intf : Nat) (bytes : List Byte)
  /-- A link frame launched. -/
  | linkFrame (link : Nat) (f : LinkFrame)
  /-- The board is asked over the sideband to remove power (R40). -/
  | powerRemoval
  /-- A sideband response. -/
  | sideband (bytes : List Byte)
  /-- The value that answers another message over the sideband: a sensor's reading, an identifier (R334). -/
  | sidebandValue (v : Int)
  /-- A PTP event message passed to Trotos with its receive timestamp (R284). -/
  | ptp (intf : Nat) (timestamp : Dword) (bytes : List Byte)
  deriving DecidableEq, Repr

/-- The state of a T9. -/
structure State where
  pending : List Instr
  /-- fclk cycles elapsed (log entry 2). -/
  now : Nat
  /-- Free values drawn so far (log entry 3). -/
  free : Nat
  out : List Out
  /-- Stored registers, key address + 2^32 · bank. -/
  regs : List (Nat × Word)
  /-- Core SRAM and gather memories, key 2^19 · core + byte. -/
  sram : List Host.Cell
  /-- Hub caches, key 2^26 · Cirque + byte. -/
  hub : List Host.Cell
  /-- HBM, key 128 · (2^29 · stack + line) + symbol: 64 data bytes, tag, check bytes (R241). -/
  hbm : List Host.Cell
  cores : List (Nat × Core)
  fab : Fabric
  tick : Tick
  sched : Sched
  parts : List (Nat × Part)
  resets : List ResetRun
  faults : Faults
  /-- Job frame counts J_j (R338). -/
  jobFrames : List (Nat × Dword)
  /-- J_0 of each job, for streams in T7 mode (R339). -/
  jobBase : List (Nat × Dword)
  /-- Live counters of the numerics monitor by key 64 · slot + counter (R153). -/
  live : LiveCounts
  /-- Monitor slots that count, and slots with a clear pending (R153). -/
  monOn : List (Nat × Bool)
  monClear : List (Nat × Bool)
  mem : Mem
  energy : Energy
  links : List (Nat × Link)
  /-- Reduction engines, key 4 · Col + k. -/
  engines : List (Nat × RedEngine)
  /-- Random streams (R337). -/
  rng : List (Nat × RngSt)
  serve : ServeSt
  host : HostSt
  dev : DevSt
  sec : SecSt
  dig : DigSt
  cairn : CairnSt
  pair : PairSt
  deriving DecidableEq, Repr

/-! ## Reset (R375): the state while COLD_RST_N is low -/

/-- Nothing in flight. -/
def Fabric.reset : Fabric := ⟨[], [], [], [], []⟩

/-- No tick counted (R436). -/
def Tick.reset : Tick := ⟨false, 0, 0, 0, false, false, false, false, false, false, 0, 0, 0, 0⟩

/-- No image. -/
def Sched.reset : Sched := ⟨0, 0, none, [], none, 0, 0, 0, false, none, 0, 0, 0⟩

/-- An unassigned partition. -/
def Part.reset : Part := ⟨0, none, false, false⟩

/-- No report and an empty log. -/
def Faults.reset : Faults := ⟨[], [], [], false, false, false, false, [], 0, 0, ⟨0, [], []⟩, 0⟩

/-- An untrained stack. -/
def Stack.reset : Stack := ⟨false, false, 0, false, 0, 0, 0⟩

/-- An empty key slot. -/
def KeySlot.reset : KeySlot := ⟨none, none, false, false, none, false, [], 0, 0⟩

/-- No move, every hub line READY. -/
def Mem.reset : Mem := ⟨[], [], [], [], [], [], [], [], [], [], [], [], [], [], []⟩

/-- No energy accounted. -/
def Energy.reset : Energy := ⟨[], [], 0, 0, [], [], false, 0, [], [], [], [], false, false, false, 0, 0, 0, 0, 0⟩

/-- A link that is OFF. -/
def Link.reset : Link :=
  ⟨0, 0, 0, 0, 0, 0, 0, 0, 0, 0, 0, 0, 0, 0, 0, 0, none, false, [], [], false, 0, 0, 0, [], none, none, none, [], [], 0, false⟩

/-- An idle input. -/
def RedInput.reset : RedInput := ⟨[], 0, 0, [], false⟩

/-- An idle engine. -/
def RedEngine.reset : RedEngine := ⟨[], [], [], 0⟩

/-- A stream at reset: key 0, native mode. -/
def RngSt.reset : RngSt := ⟨0, 0, none, false, false, 0, 0⟩

/-- An empty serving lane: no entry, no sequence, budget 2. -/
def ServeSt.reset : ServeSt :=
  { ethUp := [], map := [], tab := [], cmd := none, result := 0, models := [], modelPend := [], joinQ := [], joining := [],
    freed := [], carry := [], budget := 2, nextStep := 0, comp := none, joined := [], lookAt := 0, lookPort := 0, looks := 0, lateLooks := [], first := false, firstTick := 0, landing := [], oldLines := [], oldAt := 0, headers := [],
    edgeFree := [], tpl := [], tplStage := [], tplPend := [], fills := [], tx := [], txHost := [], mutedAt := 0, tod := 0, todAt := 0,
    todPend := false, feedIn := 0, feedDrop := 0, feedFrame := 0, feedCur := 0 }

/-- A source not synced. -/
def SourceSt.reset : SourceSt := ⟨false, false, 0, none, 0⟩

/-- Nothing latched. -/
def Latch.reset : Latch := ⟨none, none⟩

/-- A queue pair in RESET. -/
def QpSt.reset : QpSt := ⟨0, false, 0, 0, none, [], []⟩

/-- No MACsec. -/
def MacsecSt.reset : MacsecSt := ⟨none, false, [], 0⟩

/-- No source known, nothing sent. -/
def HostSt.reset : HostSt := ⟨[], [], [], [], [], 0, 0, none, false, 0, none, [], 0, 0⟩

/-- No capture and no restore. -/
def CairnSt.reset : CairnSt := ⟨[], [], none, 0, 0, false, false, 0, [], []⟩

/-- No pair. -/
def PairSt.reset : PairSt :=
  ⟨false, 0, 0, [], [], 0, [], none, false, false, none, none, none, none, none, none, none, none, none, []⟩

/-- Blank fuses: the fused values come with a cold bring-up (log entry 6). -/
def fusesBlank : Fuses :=
  { variantH := false, pkgStepping := 0, crestStepping := 0, ridgeStepping := [], keyDigests := [], programmed := 0,
    revoked := 0, rollback := 0, secret := [], secretProgrammed := false, badCores := [] }

/-- Blank flash: the board's flash comes with a cold bring-up (log entry 6). -/
def flashBlank : Flash :=
  { slotA := none, slotB := none, record := ⟨false, false, false, false⟩, log := none, cert := [],
    config := { deviceIndex := 0, deviceCount := 1, tickMaster := 0, tickRole := 0, upstream := 0, source0Mac := 0,
                source0Rights := 0, source0Mask := 0, linkCfg := [], bytes := [] } }

/-- A device held in cold reset. -/
def DevSt.reset : DevSt :=
  { up := false, trotos := false, fuseError := false, fwFail := false, step := 1, fuses := fusesBlank, flash := flashBlank,
    bad := [], bypass := [], fills := [], saddles := [], dieBad := [], micro := [], ucode := [], ucodeOdd := [], log := none, toLog := [], logFound := false, logFailed := false,
    logFull := false, sensors := [], sensorBad := [], currents := [], tripped := false, running := 0, halted := 0,
    warm := none, trial := none, bootAt := 0, lossDue := [], currentBad := [], power := [], flood := false, heart := 0,
    heartAt := 0 }

/-- Nothing booted or measured. -/
def SecSt.reset : SecSt :=
  { slotB := false, net := false, fallback := false, jtag := false, keySlot := 0, svn := 0, version := 0, meas := [],
    extensions := 0, staging := none, result := 0, last := 0, chal := none, nonce := none, report := none, reports := 0,
    cert := [], netWait := none, netNext := 0, netData := [] }

/-- Nothing published. -/
def DigSt.reset : DigSt := ⟨0, 0, 0, 0, [], [], [], 0, 0, [], 0, none⟩

/-- The machine in cold reset: nothing brought up, every register at its reset value. -/
def State.reset : State :=
  { pending := [], now := 0, free := 0, out := [], regs := [], sram := [], hub := [], hbm := [], cores := [],
    fab := .reset, tick := .reset, sched := .reset, parts := [], resets := [], faults := .reset, jobFrames := [], jobBase := [],
    live := ⟨[], [], 0⟩, monOn := [], monClear := [], mem := .reset, energy := .reset, links := [], engines := [], rng := [], serve := .reset, host := .reset, dev := .reset, sec := .reset, dig := .reset,
    cairn := .reset, pair := .reset }

end Sys2Proof.Machine
end

