-- ==== Sys2Proof/WellFormed.lean ====
section
/-! DEFINITION. Which commands are well formed: every unit number that a command names is the number of a unit that the
T9 has (R12, R27). -/

namespace Sys2Proof

/-- A unit number in a command: what kind of unit, the number, and how many there are. -/
structure UnitNo where
  kind : String
  number : Nat
  count : Nat
  deriving DecidableEq, Repr

/-- A physical core: 16 Ridges of 24 columns and 26 rows (R175). -/
def PhysCore.units (p : PhysCore) : List UnitNo := [⟨"ridge", p.ridge, 16⟩, ⟨"column", p.col, 24⟩, ⟨"row", p.row, 26⟩]

/-- A region of Table 13.4. -/
def Region.units : Region → List UnitNo
  | .core i => [⟨"core", i, 9216⟩]
  | .cluster i => [⟨"cluster", i, 576⟩]
  | .partition i => [⟨"partition", i, 16⟩]

/-- A register access comes from one of the 32 register-frame sources, the sideband or Trotos (R18, R320). -/
def Src.units : Src → List UnitNo
  | .frame n => [⟨"source", n, 32⟩]
  | .sideband => []
  | .trotos => []

/-- The Ridge of a fill that ends. -/
def FillEnd.units (e : FillEnd) : List UnitNo := [⟨"ridge", e.ridge, 16⟩]

/-- The sender of a command on which the Crest reads memory. -/
def CrestCmd.units (c : CrestCmd) : List UnitNo := c.src.units

/-- The access source that sends a command (log entry 81); none: the command is an event, or comes over a path of its own. -/
def CrestCmd.sender (c : CrestCmd) : Option Src := some c.src

/-- The sender of a command to the serving lane. -/
def SrvCmd.units (c : SrvCmd) : List UnitNo := c.src.units

/-- The access source that sends a command to the serving lane. -/
def SrvCmd.sender (c : SrvCmd) : Option Src := some c.src

/-- A core whose switch spills. -/
def SpillCore.units (c : SpillCore) : List UnitNo := [⟨"core", c.core, 9216⟩]

/-- An input of a reduction engine: eight edge attachments and four links (R207). -/
def EngIn.units : EngIn → List UnitNo
  | .grid i => [⟨"edge attachment", i, 8⟩]
  | .link k => [⟨"link of a Col die", k, 4⟩]

/-- The unit numbers that a command names. -/
def Instr.units : Instr → List UnitNo
  | .registerWrite src _ _ => src.units
  | .w1cClear src _ _ => src.units
  | .readClear src _ => src.units
  | .loRead src _ => src.units
  | .loWrite src _ _ => src.units
  | .hiWrite src _ _ => src.units
  | .pageFreeze src _ _ => src.units
  | .pageEnable src _ _ => src.units
  | .coldBringup _ => []
  | .coldReset _ => []
  | .railFault rail => [⟨"rail", rail, 9⟩]
  | .warmReset _ _ => []
  | .watchdogExpiry => []
  | .thermalSample _ => []
  | .defectLogWrite core _ => core.units
  | .tickBoundary _ => []
  | .frameBoundary => []
  | .tickStart src _ => src.units
  | .tickMarker _ _ => []
  | .holdoverExceeded => []
  | .fclkLock _ => []
  | .load src => src.units
  | .verifyDone => []
  | .arm src => src.units
  | .abort src => src.units
  | .shadowReady => []
  | .imageActivation => []
  | .nop _ core _ _ => [⟨"core", core, 9216⟩]
  | .fend _ core _ _ => [⟨"core", core, 9216⟩]
  | .jump _ core _ _ => [⟨"core", core, 9216⟩]
  | .loop _ core _ _ => [⟨"core", core, 9216⟩]
  | .mask _ core _ _ => [⟨"core", core, 9216⟩]
  | .ctok _ core _ _ => [⟨"core", core, 9216⟩]
  | .mma _ core _ _ => [⟨"core", core, 9216⟩]
  | .mmaBegin _ core _ => [⟨"core", core, 9216⟩]
  | .mmaComplete core _ => [⟨"core", core, 9216⟩]
  | .add _ core _ _ => [⟨"core", core, 9216⟩]
  | .sub _ core _ _ => [⟨"core", core, 9216⟩]
  | .mul _ core _ _ => [⟨"core", core, 9216⟩]
  | .max _ core _ _ => [⟨"core", core, 9216⟩]
  | .min _ core _ _ => [⟨"core", core, 9216⟩]
  | .fma _ core _ _ => [⟨"core", core, 9216⟩]
  | .scl _ core _ _ => [⟨"core", core, 9216⟩]
  | .cvt _ core _ _ => [⟨"core", core, 9216⟩]
  | .exp _ core _ _ => [⟨"core", core, 9216⟩]
  | .log _ core _ _ => [⟨"core", core, 9216⟩]
  | .rsqrt _ core _ _ => [⟨"core", core, 9216⟩]
  | .recip _ core _ _ => [⟨"core", core, 9216⟩]
  | .tanh _ core _ _ => [⟨"core", core, 9216⟩]
  | .sigmoid _ core _ _ => [⟨"core", core, 9216⟩]
  | .rsum _ core _ _ => [⟨"core", core, 9216⟩]
  | .rmax _ core _ _ => [⟨"core", core, 9216⟩]
  | .ucall _ core _ _ => [⟨"core", core, 9216⟩]
  | .qcrumb _ core _ _ => [⟨"core", core, 9216⟩]
  | .vecBegin _ core _ => [⟨"core", core, 9216⟩]
  | .vecComplete core _ => [⟨"core", core, 9216⟩]
  | .send _ core _ _ => [⟨"core", core, 9216⟩]
  | .recv _ core _ _ => [⟨"core", core, 9216⟩]
  | .hrd _ core _ _ => [⟨"core", core, 9216⟩]
  | .hwr _ core _ _ => [⟨"core", core, 9216⟩]
  | .ssend _ core _ _ => [⟨"core", core, 9216⟩]
  | .srecv _ core _ _ => [⟨"core", core, 9216⟩]
  | .movBegin _ core _ => [⟨"core", core, 9216⟩]
  | .sendComplete _ core plane _ _ => [⟨"core", core, 9216⟩, ⟨"plane", plane, 2⟩]
  | .recvComplete _ core plane _ => [⟨"core", core, 9216⟩, ⟨"plane", plane, 2⟩]
  | .hrdComplete core _ _ => [⟨"core", core, 9216⟩]
  | .hwrComplete core _ _ => [⟨"core", core, 9216⟩]
  | .li _ core _ _ => [⟨"core", core, 9216⟩]
  | .addi _ core _ _ => [⟨"core", core, 9216⟩]
  | .tdb _ core _ _ => [⟨"core", core, 9216⟩]
  | .tagSet _ core _ _ => [⟨"core", core, 9216⟩]
  | .tagClr _ core _ _ => [⟨"core", core, 9216⟩]
  | .vread _ core _ _ => [⟨"core", core, 9216⟩]
  | .vdone _ core _ _ => [⟨"core", core, 9216⟩]
  | .vpub _ core _ _ => [⟨"core", core, 9216⟩]
  | .notReady core _ => [⟨"core", core, 9216⟩]
  | .coreSramDataRead src core _ => src.units ++ [⟨"core", core, 9216⟩]
  | .coreSramDataWrite src core _ => src.units ++ [⟨"core", core, 9216⟩]
  | .nummonClear src slot => src.units ++ [⟨"monitor slot", slot, 4096⟩]
  | .flitForward _ core _ _ => [⟨"core", core, 9216⟩]
  | .flitArrive _ core _ _ _ => [⟨"core", core, 9216⟩]
  | .creditReturn _ core _ _ => [⟨"core", core, 9216⟩]
  | .flitLand _ core _ => [⟨"core", core, 9216⟩]
  | .tokenArrive _ core _ => [⟨"core", core, 9216⟩]
  | .sealArrive _ core _ _ => [⟨"core", core, 9216⟩]
  | .spillModeRequest src core => src.units ++ [⟨"core", core, 9216⟩]
  | .spillModeExit src core => src.units ++ [⟨"core", core, 9216⟩]
  | .deadlockDetect core => core.units
  | .spillAreaClear src core => src.units ++ [⟨"core", core, 9216⟩]
  | .reduceDescriptor _ col engine inp => inp.units ++ [⟨"col", col, 14⟩, ⟨"engine", engine, 4⟩]
  | .reduceContribution _ col engine inp => inp.units ++ [⟨"col", col, 14⟩, ⟨"engine", engine, 4⟩]
  | .reduceUnitDeliver _ col engine slot _ => [⟨"col", col, 14⟩, ⟨"engine", engine, 4⟩, ⟨"reduction slot", slot, 16⟩]
  | .moveIssue cirque _ => [⟨"cirque", cirque, 8⟩]
  | .moveLineLand _ cirque _ _ _ => [⟨"cirque", cirque, 8⟩]
  | .moveComplete _ cirque _ => [⟨"cirque", cirque, 8⟩]
  | .deadlineMiss cirque _ => [⟨"cirque", cirque, 8⟩]
  | .manualMove src cirque _ => src.units ++ [⟨"cirque", cirque, 8⟩]
  | .manualMoveComplete _ cirque => [⟨"cirque", cirque, 8⟩]
  | .windowWrite src window _ _ => src.units ++ [⟨"window", window, 256⟩]
  | .moveEngineReset src cirque => src.units ++ [⟨"cirque", cirque, 8⟩]
  | .scrubLine _ stack _ _ => [⟨"stack", stack, 24⟩]
  | .keyLoad src slot => src.units ++ [⟨"key slot", slot, 64⟩]
  | .keySwitch src slot => src.units ++ [⟨"key slot", slot, 64⟩]
  | .keySweep src slot => src.units ++ [⟨"key slot", slot, 64⟩]
  | .keyClear src slot => src.units ++ [⟨"key slot", slot, 64⟩]
  | .sweepLine _ slot stack _ _ => [⟨"key slot", slot, 64⟩, ⟨"stack", stack, 24⟩]
  | .sweepFinish _ slot => [⟨"key slot", slot, 64⟩]
  | .keyErase _ slot => [⟨"key slot", slot, 64⟩]
  | .colTake _ core _ => [⟨"core", core, 9216⟩]
  | .linkFrameLaunch _ link => [⟨"link", link, 56⟩]
  | .linkFrameVerdict _ link _ _ => [⟨"link", link, 56⟩]
  | .replayRelaunch _ link => [⟨"link", link, 56⟩]
  | .linkSlotDeliver _ link => [⟨"link", link, 56⟩]
  | .txLate _ link => [⟨"link", link, 56⟩]
  | .linkDown _ link _ => [⟨"link", link, 56⟩]
  | .linkRetrain src link => src.units ++ [⟨"link", link, 56⟩]
  | .linkPageReset src link => src.units ++ [⟨"link", link, 56⟩]
  | .linkDetectDone _ link => [⟨"link", link, 56⟩]
  | .linkEqualiseDone _ link => [⟨"link", link, 56⟩]
  | .linkCheckDone _ link _ => [⟨"link", link, 56⟩]
  | .linkNegotiateDone _ link _ => [⟨"link", link, 56⟩]
  | .linkTrainTimeout _ link => [⟨"link", link, 56⟩]
  | .ethFrameReceive _ intf _ _ => [⟨"interface", intf, 8⟩]
  | .ethLinkChange _ intf _ => [⟨"interface", intf, 8⟩]
  | .eventLand _ => []
  | .gatherBoundary => []
  | .stepHeaderLand _ => []
  | .insert src => src.units
  | .modify src => src.units
  | .delete src => src.units
  | .lookup src => src.units
  | .inRead src => src.units
  | .inWrite src => src.units
  | .join cmd => cmd.units
  | .leave cmd => cmd.units
  | .srvModelWrite src _ => src.units
  | .srvGatherWrite src _ => src.units
  | .feedGeomWrite src _ _ => src.units
  | .srvCurWrite src _ => src.units
  | .srvPairWrite src _ => src.units
  | .resultLine _ core _ _ _ => [⟨"core", core, 9216⟩]
  | .decisionFrameTransmit _ intf => [⟨"interface", intf, 8⟩]
  | .egDataWrite src _ => src.units
  | .todSet src _ => src.units
  | .read _ _ => []
  | .write _ _ => []
  | .rmw _ _ => []
  | .blockRead _ _ => []
  | .sync _ _ => []
  | .eventAck _ _ => []
  | .sidebandRegisterFrame _ _ => []
  | .budgetEffecter _ _ => []
  | .rdmaWrite _ _ => []
  | .rdmaWriteAck _ qp => [⟨"queue pair", qp, 1024⟩]
  | .rdmaReadRequest _ _ _ => []
  | .qpReset src qp => src.units ++ [⟨"queue pair", qp, 1024⟩]
  | .eventFrameSend _ => []
  | .eventFrameResend _ => []
  | .prepare src => src.units
  | .install src => src.units
  | .admRevoke src => src.units
  | .sakInstall intf an _ _ => [⟨"interface", intf, 8⟩, ⟨"association", an, 4⟩]
  | .sourceReset src source => src.units ++ [⟨"source", source, 32⟩]
  | .cairnSeal _ slot => [⟨"Cairn slot", slot, 4⟩]
  | .restore src _ => src.units
  | .void src _ => src.units
  | .reinstateDone _ _ => []
  | .restoreRestart => []
  | .pairCommitMsg _ link _ => [⟨"link", link, 56⟩]
  | .pairTraceMsg _ link _ => [⟨"link", link, 56⟩]
  | .pairLossMsg _ link _ => [⟨"link", link, 56⟩]
  | .pairSealMsg _ link _ => [⟨"link", link, 56⟩]
  | .pairDivergenceMsg _ link _ => [⟨"link", link, 56⟩]
  | .pairTimeout _ => []
  | .primaryFaultMsg _ link _ => [⟨"link", link, 56⟩]
  | .pairSilence _ => []
  | .handover src => src.units
  | .release src => src.units
  | .recomputeDone _ _ => []
  | .coreFail _ core => core.units
  | .spareFillDone _ fill => fill.units
  | .rngKeyCommit src stream _ => src.units ++ [⟨"random stream", stream, 4096⟩]
  | .coreReset src core => src.units ++ [⟨"core", core, 9216⟩]
  | .clusterReset src cluster => src.units ++ [⟨"cluster", cluster, 576⟩]
  | .partitionReset src part => src.units ++ [⟨"partition", part, 16⟩]
  | .drainEnd _ region => region.units
  | .resetComplete _ region => region.units
  | .powerStateRequest src part _ => src.units ++ [⟨"partition", part, 16⟩]
  | .powerTransitionDone _ part => [⟨"partition", part, 16⟩]
  | .stage src => src.units
  | .stageDone _ _ => []
  | .updateAbort src => src.units
  | .activate src => src.units
  | .commitSvn src => src.units
  | .revoke src => src.units
  | .challenge src => src.units
  | .jtagUnlock src => src.units
  | .extend src => src.units
  | .trialTimeout _ => []
  | .attestRequest src _ => src.units
  | .attestReportDone _ => []
  | .bootReq _ => []
  | .bootData _ _ => []
  | .coalescerTake => []
  | .fatalEventLog => []
  | .intAck src => src.units
  | .fltClear src => src.units
  | .stormClear src => src.units
  | .fltLogRead src word => src.units ++ [⟨"log word", word, 8⟩]
  | .digestMsg _ link _ _ _ _ => [⟨"link", link, 56⟩]
  | .lossOfHbmTraining _ stack _ => [⟨"stack", stack, 24⟩]
  | .managementMemoryError core _ => [⟨"management core", core, 4⟩]
  | .bringupBound _ => []
  | .mkaSessionLoss _ intf => [⟨"interface", intf, 8⟩]

/-- A register whose writes need the right key: of SEC, KEYS, or ATTEST outside ATTEST_NONCE (R323). -/
def keyAddr (a : Word) : Bool :=
  let cls := a.toNat / 2 ^ 26
  let off := a.toNat % 2 ^ 12
  cls == 0x10 || cls == 0x1C || (cls == 0x11 && !(decide (0x80 ≤ off) && decide (off < 0xC0)))

/-- The command writes a register whose writes need the right key (R323, R411). -/
def Instr.needsKey : Instr → Bool
  | .registerWrite _ addr _ => keyAddr addr
  | .w1cClear _ addr _ => keyAddr addr
  | .readClear _ _ => false
  | .loRead _ _ => false
  | .loWrite _ addr _ => keyAddr addr
  | .hiWrite _ addr _ => keyAddr addr
  | .pageFreeze _ page _ => [0x10, 0x11, 0x1C].contains page.cls
  | .pageEnable _ page _ => [0x10, 0x11, 0x1C].contains page.cls
  | .coldBringup _ => false
  | .coldReset _ => false
  | .railFault _ => false
  | .warmReset _ _ => false
  | .watchdogExpiry => false
  | .thermalSample _ => false
  | .defectLogWrite _ _ => false
  | .tickBoundary _ => false
  | .frameBoundary => false
  | .tickStart _ _ => false
  | .tickMarker _ _ => false
  | .holdoverExceeded => false
  | .fclkLock _ => false
  | .load _ => false
  | .verifyDone => false
  | .arm _ => false
  | .abort _ => false
  | .shadowReady => false
  | .imageActivation => false
  | .nop _ _ _ _ => false
  | .fend _ _ _ _ => false
  | .jump _ _ _ _ => false
  | .loop _ _ _ _ => false
  | .mask _ _ _ _ => false
  | .ctok _ _ _ _ => false
  | .mma _ _ _ _ => false
  | .mmaBegin _ _ _ => false
  | .mmaComplete _ _ => false
  | .add _ _ _ _ => false
  | .sub _ _ _ _ => false
  | .mul _ _ _ _ => false
  | .max _ _ _ _ => false
  | .min _ _ _ _ => false
  | .fma _ _ _ _ => false
  | .scl _ _ _ _ => false
  | .cvt _ _ _ _ => false
  | .exp _ _ _ _ => false
  | .log _ _ _ _ => false
  | .rsqrt _ _ _ _ => false
  | .recip _ _ _ _ => false
  | .tanh _ _ _ _ => false
  | .sigmoid _ _ _ _ => false
  | .rsum _ _ _ _ => false
  | .rmax _ _ _ _ => false
  | .ucall _ _ _ _ => false
  | .qcrumb _ _ _ _ => false
  | .vecBegin _ _ _ => false
  | .vecComplete _ _ => false
  | .send _ _ _ _ => false
  | .recv _ _ _ _ => false
  | .hrd _ _ _ _ => false
  | .hwr _ _ _ _ => false
  | .ssend _ _ _ _ => false
  | .srecv _ _ _ _ => false
  | .movBegin _ _ _ => false
  | .sendComplete _ _ _ _ _ => false
  | .recvComplete _ _ _ _ => false
  | .hrdComplete _ _ _ => false
  | .hwrComplete _ _ _ => false
  | .li _ _ _ _ => false
  | .addi _ _ _ _ => false
  | .tdb _ _ _ _ => false
  | .tagSet _ _ _ _ => false
  | .tagClr _ _ _ _ => false
  | .vread _ _ _ _ => false
  | .vdone _ _ _ _ => false
  | .vpub _ _ _ _ => false
  | .notReady _ _ => false
  | .coreSramDataRead _ _ _ => false
  | .coreSramDataWrite _ _ _ => false
  | .nummonClear _ _ => false
  | .flitForward _ _ _ _ => false
  | .flitArrive _ _ _ _ _ => false
  | .creditReturn _ _ _ _ => false
  | .flitLand _ _ _ => false
  | .tokenArrive _ _ _ => false
  | .sealArrive _ _ _ _ => false
  | .spillModeRequest _ _ => false
  | .spillModeExit _ _ => false
  | .deadlockDetect _ => false
  | .spillAreaClear _ _ => false
  | .reduceDescriptor _ _ _ _ => false
  | .reduceContribution _ _ _ _ => false
  | .reduceUnitDeliver _ _ _ _ _ => false
  | .moveIssue _ _ => false
  | .moveLineLand _ _ _ _ _ => false
  | .moveComplete _ _ _ => false
  | .deadlineMiss _ _ => false
  | .manualMove _ _ _ => false
  | .manualMoveComplete _ _ => false
  | .windowWrite _ _ _ _ => false
  | .moveEngineReset _ _ => false
  | .scrubLine _ _ _ _ => false
  | .keyLoad _ _ => true
  | .keySwitch _ _ => true
  | .keySweep _ _ => true
  | .keyClear _ _ => true
  | .sweepLine _ _ _ _ _ => false
  | .sweepFinish _ _ => false
  | .keyErase _ _ => false
  | .colTake _ _ _ => false
  | .linkFrameLaunch _ _ => false
  | .linkFrameVerdict _ _ _ _ => false
  | .replayRelaunch _ _ => false
  | .linkSlotDeliver _ _ => false
  | .txLate _ _ => false
  | .linkDown _ _ _ => false
  | .linkRetrain _ _ => false
  | .linkPageReset _ _ => false
  | .linkDetectDone _ _ => false
  | .linkEqualiseDone _ _ => false
  | .linkCheckDone _ _ _ => false
  | .linkNegotiateDone _ _ _ => false
  | .linkTrainTimeout _ _ => false
  | .ethFrameReceive _ _ _ _ => false
  | .ethLinkChange _ _ _ => false
  | .eventLand _ => false
  | .gatherBoundary => false
  | .stepHeaderLand _ => false
  | .insert _ => false
  | .modify _ => false
  | .delete _ => false
  | .lookup _ => false
  | .inRead _ => false
  | .inWrite _ => false
  | .join _ => false
  | .leave _ => false
  | .srvModelWrite _ _ => false
  | .srvGatherWrite _ _ => false
  | .feedGeomWrite _ _ _ => false
  | .srvCurWrite _ _ => false
  | .srvPairWrite _ _ => false
  | .resultLine _ _ _ _ _ => false
  | .decisionFrameTransmit _ _ => false
  | .egDataWrite _ _ => false
  | .todSet _ _ => false
  | .read _ _ => false
  | .write _ _ => false
  | .rmw _ _ => false
  | .blockRead _ _ => false
  | .sync _ _ => false
  | .eventAck _ _ => false
  | .sidebandRegisterFrame _ _ => false
  | .budgetEffecter _ _ => false
  | .rdmaWrite _ _ => false
  | .rdmaWriteAck _ _ => false
  | .rdmaReadRequest _ _ _ => false
  | .qpReset _ _ => false
  | .eventFrameSend _ => false
  | .eventFrameResend _ => false
  | .prepare _ => false
  | .install _ => false
  | .admRevoke _ => false
  | .sakInstall _ _ _ _ => false
  | .sourceReset _ _ => false
  | .cairnSeal _ _ => false
  | .restore _ _ => false
  | .void _ _ => false
  | .reinstateDone _ _ => false
  | .restoreRestart => false
  | .pairCommitMsg _ _ _ => false
  | .pairTraceMsg _ _ _ => false
  | .pairLossMsg _ _ _ => false
  | .pairSealMsg _ _ _ => false
  | .pairDivergenceMsg _ _ _ => false
  | .pairTimeout _ => false
  | .primaryFaultMsg _ _ _ => false
  | .pairSilence _ => false
  | .handover _ => false
  | .release _ => false
  | .recomputeDone _ _ => false
  | .coreFail _ _ => false
  | .spareFillDone _ _ => false
  | .rngKeyCommit _ _ _ => false
  | .coreReset _ _ => false
  | .clusterReset _ _ => false
  | .partitionReset _ _ => false
  | .drainEnd _ _ => false
  | .resetComplete _ _ => false
  | .powerStateRequest _ _ _ => false
  | .powerTransitionDone _ _ => false
  | .stage _ => true
  | .stageDone _ _ => false
  | .updateAbort _ => true
  | .activate _ => true
  | .commitSvn _ => true
  | .revoke _ => true
  | .challenge _ => true
  | .jtagUnlock _ => true
  | .extend _ => true
  | .trialTimeout _ => false
  | .attestRequest _ _ => false
  | .attestReportDone _ => false
  | .bootReq _ => false
  | .bootData _ _ => false
  | .coalescerTake => false
  | .fatalEventLog => false
  | .intAck _ => false
  | .fltClear _ => false
  | .stormClear _ => false
  | .fltLogRead _ _ => false
  | .digestMsg _ _ _ _ _ _ => false
  | .lossOfHbmTraining _ _ _ => false
  | .managementMemoryError _ _ => false
  | .bringupBound _ => false
  | .mkaSessionLoss _ _ => false

/-- The access source whose register access a command is (R321). -/
def Instr.sender : Instr → Option Src
  | .registerWrite src _ _ => some src
  | .w1cClear src _ _ => some src
  | .readClear src _ => some src
  | .loRead src _ => some src
  | .loWrite src _ _ => some src
  | .hiWrite src _ _ => some src
  | .pageFreeze src _ _ => some src
  | .pageEnable src _ _ => some src
  | .coldBringup _ => none
  | .coldReset _ => none
  | .railFault _ => none
  | .warmReset _ _ => none
  | .watchdogExpiry => none
  | .thermalSample _ => none
  | .defectLogWrite _ _ => none
  | .tickBoundary _ => none
  | .frameBoundary => none
  | .tickStart src _ => some src
  | .tickMarker _ _ => none
  | .holdoverExceeded => none
  | .fclkLock _ => none
  | .load src => src.sender
  | .verifyDone => none
  | .arm src => some src
  | .abort src => some src
  | .shadowReady => none
  | .imageActivation => none
  | .nop _ _ _ _ => none
  | .fend _ _ _ _ => none
  | .jump _ _ _ _ => none
  | .loop _ _ _ _ => none
  | .mask _ _ _ _ => none
  | .ctok _ _ _ _ => none
  | .mma _ _ _ _ => none
  | .mmaBegin _ _ _ => none
  | .mmaComplete _ _ => none
  | .add _ _ _ _ => none
  | .sub _ _ _ _ => none
  | .mul _ _ _ _ => none
  | .max _ _ _ _ => none
  | .min _ _ _ _ => none
  | .fma _ _ _ _ => none
  | .scl _ _ _ _ => none
  | .cvt _ _ _ _ => none
  | .exp _ _ _ _ => none
  | .log _ _ _ _ => none
  | .rsqrt _ _ _ _ => none
  | .recip _ _ _ _ => none
  | .tanh _ _ _ _ => none
  | .sigmoid _ _ _ _ => none
  | .rsum _ _ _ _ => none
  | .rmax _ _ _ _ => none
  | .ucall _ _ _ _ => none
  | .qcrumb _ _ _ _ => none
  | .vecBegin _ _ _ => none
  | .vecComplete _ _ => none
  | .send _ _ _ _ => none
  | .recv _ _ _ _ => none
  | .hrd _ _ _ _ => none
  | .hwr _ _ _ _ => none
  | .ssend _ _ _ _ => none
  | .srecv _ _ _ _ => none
  | .movBegin _ _ _ => none
  | .sendComplete _ _ _ _ _ => none
  | .recvComplete _ _ _ _ => none
  | .hrdComplete _ _ _ => none
  | .hwrComplete _ _ _ => none
  | .li _ _ _ _ => none
  | .addi _ _ _ _ => none
  | .tdb _ _ _ _ => none
  | .tagSet _ _ _ _ => none
  | .tagClr _ _ _ _ => none
  | .vread _ _ _ _ => none
  | .vdone _ _ _ _ => none
  | .vpub _ _ _ _ => none
  | .notReady _ _ => none
  | .coreSramDataRead src _ _ => some src
  | .coreSramDataWrite src _ _ => some src
  | .nummonClear src _ => some src
  | .flitForward _ _ _ _ => none
  | .flitArrive _ _ _ _ _ => none
  | .creditReturn _ _ _ _ => none
  | .flitLand _ _ _ => none
  | .tokenArrive _ _ _ => none
  | .sealArrive _ _ _ _ => none
  | .spillModeRequest src _ => some src
  | .spillModeExit src _ => some src
  | .deadlockDetect _ => none
  | .spillAreaClear src _ => some src
  | .reduceDescriptor _ _ _ _ => none
  | .reduceContribution _ _ _ _ => none
  | .reduceUnitDeliver _ _ _ _ _ => none
  | .moveIssue _ _ => none
  | .moveLineLand _ _ _ _ _ => none
  | .moveComplete _ _ _ => none
  | .deadlineMiss _ _ => none
  | .manualMove src _ _ => some src
  | .manualMoveComplete _ _ => none
  | .windowWrite src _ _ _ => some src
  | .moveEngineReset src _ => some src
  | .scrubLine _ _ _ _ => none
  | .keyLoad src _ => some src
  | .keySwitch src _ => some src
  | .keySweep src _ => some src
  | .keyClear src _ => some src
  | .sweepLine _ _ _ _ _ => none
  | .sweepFinish _ _ => none
  | .keyErase _ _ => none
  | .colTake _ _ _ => none
  | .linkFrameLaunch _ _ => none
  | .linkFrameVerdict _ _ _ _ => none
  | .replayRelaunch _ _ => none
  | .linkSlotDeliver _ _ => none
  | .txLate _ _ => none
  | .linkDown _ _ _ => none
  | .linkRetrain src _ => some src
  | .linkPageReset src _ => some src
  | .linkDetectDone _ _ => none
  | .linkEqualiseDone _ _ => none
  | .linkCheckDone _ _ _ => none
  | .linkNegotiateDone _ _ _ => none
  | .linkTrainTimeout _ _ => none
  | .ethFrameReceive _ _ _ _ => none
  | .ethLinkChange _ _ _ => none
  | .eventLand _ => none
  | .gatherBoundary => none
  | .stepHeaderLand _ => none
  | .insert src => some src
  | .modify src => some src
  | .delete src => some src
  | .lookup src => some src
  | .inRead src => some src
  | .inWrite src => some src
  | .join cmd => cmd.sender
  | .leave cmd => cmd.sender
  | .srvModelWrite src _ => some src
  | .srvGatherWrite src _ => some src
  | .feedGeomWrite src _ _ => some src
  | .srvCurWrite src _ => some src
  | .srvPairWrite src _ => some src
  | .resultLine _ _ _ _ _ => none
  | .decisionFrameTransmit _ _ => none
  | .egDataWrite src _ => some src
  | .todSet src _ => some src
  | .read _ _ => none
  | .write _ _ => none
  | .rmw _ _ => none
  | .blockRead _ _ => none
  | .sync _ _ => none
  | .eventAck _ _ => none
  | .sidebandRegisterFrame _ _ => none
  | .budgetEffecter _ _ => none
  | .rdmaWrite _ _ => none
  | .rdmaWriteAck _ _ => none
  | .rdmaReadRequest _ _ _ => none
  | .qpReset src _ => some src
  | .eventFrameSend _ => none
  | .eventFrameResend _ => none
  | .prepare src => some src
  | .install src => some src
  | .admRevoke src => some src
  | .sakInstall _ _ _ _ => none
  | .sourceReset src _ => some src
  | .cairnSeal _ _ => none
  | .restore src _ => src.sender
  | .void src _ => src.sender
  | .reinstateDone _ _ => none
  | .restoreRestart => none
  | .pairCommitMsg _ _ _ => none
  | .pairTraceMsg _ _ _ => none
  | .pairLossMsg _ _ _ => none
  | .pairSealMsg _ _ _ => none
  | .pairDivergenceMsg _ _ _ => none
  | .pairTimeout _ => none
  | .primaryFaultMsg _ _ _ => none
  | .pairSilence _ => none
  | .handover src => some src
  | .release src => some src
  | .recomputeDone _ _ => none
  | .coreFail _ _ => none
  | .spareFillDone _ _ => none
  | .rngKeyCommit src _ _ => some src
  | .coreReset src _ => some src
  | .clusterReset src _ => some src
  | .partitionReset src _ => some src
  | .drainEnd _ _ => none
  | .resetComplete _ _ => none
  | .powerStateRequest src _ _ => some src
  | .powerTransitionDone _ _ => none
  | .stage src => src.sender
  | .stageDone _ _ => none
  | .updateAbort src => some src
  | .activate src => some src
  | .commitSvn src => some src
  | .revoke src => some src
  | .challenge src => some src
  | .jtagUnlock src => some src
  | .extend src => some src
  | .trialTimeout _ => none
  | .attestRequest src _ => some src
  | .attestReportDone _ => none
  | .bootReq _ => none
  | .bootData _ _ => none
  | .coalescerTake => none
  | .fatalEventLog => none
  | .intAck src => some src
  | .fltClear src => some src
  | .stormClear src => some src
  | .fltLogRead src _ => some src
  | .digestMsg _ _ _ _ _ _ => none
  | .lossOfHbmTraining _ _ _ => none
  | .managementMemoryError _ _ => none
  | .bringupBound _ => none
  | .mkaSessionLoss _ _ => none

/-- Every unit number of a list exists. -/
def unitsOk (l : List UnitNo) : Bool := l.all fun u => decide (u.number < u.count)

/-- A well-formed command. -/
def Instr.wf (i : Instr) : Bool := unitsOk i.units

end Sys2Proof
end

