-- ==== Sys2Proof/Machine/Base.lean ====
section
/-! DEFINITION. The operations every other file builds on: answers, time, registers, and where cores, partitions and
jobs lie. -/

namespace Sys2Proof.Machine

open Sys2Proof

/-! ## Answers -/

/-- The register path performs a command now (R321, R323, R411): one of the sideband does not write where the right key is
needed, and one of Trotos waits while register frames wait for the path. DESIGN CHOICE (log entry 81): a command that waits
has no effect, and its sender gives it again. -/
def admitted (i : Instr) (s : State) : Bool :=
  match i.sender with
  | none => true
  | some (.frame _) => true
  | some .sideband => !i.needsKey
  | some .trotos => s.host.path.isEmpty

/-- The command names units that exist, and the register path performs it. -/
def fit (i : Instr) (s : State) : Bool := i.wf && admitted i s

/-- Answer a command given in state `s` with the state `t`, unless it names a unit that does not exist or the register path
does not perform it. The queue of waiting commands is no part of a command's effect. -/
def answer (i : Instr) (s t : State) : Host.Outcome State Fault Refusal :=
  match i.units.find? fun u => !decide (u.number < u.count) with
  | none => .next { (if admitted i s then t else s) with pending := s.pending }
  | some u => .fault (.noSuchUnit u.kind u.number)

/-- `f s` where the event can take place, else the state as it was (log entry 7). -/
def onlyIf (p : Bool) (t s : State) : State := if p then t else s

/-- Let `dt` cycles pass. -/
def elapse (dt : Nat) (s : State) : State := { s with now := s.now + dt }

/-- Let time pass up to cycle `t`. -/
def passTo (t : Nat) (s : State) : State := { s with now := max s.now t }

/-- Send something. -/
def emit (o : Out) (s : State) : State := { s with out := s.out ++ [o] }

/-- Draw one free value's number. -/
def drawFree (s : State) : State := { s with free := s.free + 1 }

/-! ## Registers -/

/-- Address of a register (Table 0.4). -/
def regAddr (cls inst off : Nat) : Nat := 2 ^ 26 * cls + 2 ^ 12 * inst + off

/-- Key of a register in the store; `bank` is the selected item where one address shows several. -/
def regKey (cls inst off bank : Nat) : Nat := regAddr cls inst off + 2 ^ 32 * bank

/-- Default charges of Table 14.2, fJ. -/
def evtDefault : List Nat :=
  [400, 520, 610, 650, 8200, 3000, 6100, 15500, 10300, 6400, 1790000, 1880000, 2600000, 41000, 9000, 0]

/-- The reset value of a stored register. ENG_BUDGET resets to the package limit (Table 14.4), 4,400 W but on a ZGT9-H, whose
resets set its own (R391), with a window of 16 frames. -/
def regReset (key : Nat) : Word :=
  let a := key % 2 ^ 32
  if a = regAddr 0x12 0 0x40 then BitVec.ofNat 32 (4400 + 2 ^ 16 * 16)
  else if a = regAddr 0x12 0 0x54 then BitVec.ofNat 32 (evtDefault.getD (key / 2 ^ 32) 0)
  else
    match regRow? (a / 2 ^ 26) (a / 2 ^ 12 % 2 ^ 14) (a % 2 ^ 12) with
    | some r => BitVec.ofNat 32 r.reset
    | none => 0

/-- A stored register. -/
def rget (s : State) (key : Nat) : Word := sget regReset s.regs key

/-- Set a stored register. -/
def rset (key : Nat) (v : Word) (s : State) : State := { s with regs := sset regReset s.regs key v }

/-- A stored register of a page, bank 0. -/
def reg (s : State) (cls inst off : Nat) : Word := rget s (regKey cls inst off 0)

/-- Set a stored register of a page, bank 0. -/
def setReg (cls inst off : Nat) (v : Word) (s : State) : State := rset (regKey cls inst off 0) v s

/-- A field of a register. -/
def field (w : Word) (hi lo : Nat) : Nat := bitsOf w.toNat hi lo

/-- Replace a field of a register. -/
def setField (w : Word) (hi lo v : Nat) : Word :=
  BitVec.ofNat 32 (w.toNat - field w hi lo * 2 ^ lo + v % 2 ^ (hi + 1 - lo) * 2 ^ lo)

/-- A 64-bit pair, low half at `key`, high half at `key + 4` (R18). -/
def rget64 (s : State) (key : Nat) : Dword := (rget s (key + 4) ++ rget s key : BitVec 64)

/-- Set a 64-bit pair. -/
def rset64 (key : Nat) (v : Dword) (s : State) : State :=
  rset (key + 4) (BitVec.ofNat 32 (v.toNat / 2 ^ 32)) (rset key (BitVec.ofNat 32 v.toNat) s)

/-! ## Where things lie (R28, R32, R33) -/

/-- Ridge of a core. -/
def ridgeOf (core : Nat) : Nat := 4 * (core / 96 / 24) + core % 96 / 24

/-- Cluster of a core. -/
def clusterOf (core : Nat) : Nat := 24 * (core / 96 / 4) + core % 96 / 4

/-- Cirque under a Ridge (R29). -/
def cirqueOfRidge (d : Nat) : Nat := d / 2

/-- The cores of a cluster, in index order i = 4·(y mod 4) + (x mod 4) (R106). -/
def clusterCores (k : Nat) : List Nat :=
  (List.range 16).map fun i => 96 * (4 * (k / 24) + i / 4) + 4 * (k % 24) + i % 4

/-- The cores of a Ridge in ascending ID. -/
def ridgeCores (d : Nat) : List Nat :=
  (List.range 576).map fun i => 96 * (24 * (d / 4) + i / 24) + 24 * (d % 4) + i % 24

/-- The partition that holds a Ridge: of the active image, or the Ridge's own (R382). -/
def partOfRidge (s : State) (d : Nat) : Nat :=
  match s.sched.active with
  | some im => im.parts.getD d d
  | none => d

/-- The partition of a core. -/
def partOf (s : State) (core : Nat) : Nat := partOfRidge s (ridgeOf core)

/-- The device is a ZGT9-H: fixed by fuse, whatever reset the device went through (R2, R15). -/
def variantH (s : State) : Bool := s.dev.fuses.variantH

/-- The Ridges of a partition. -/
def partRidges (s : State) (p : Nat) : List Nat := (List.range 16).filter fun d => partOfRidge s d == p

/-- The partitions that exist now, ascending. -/
def partsNow (s : State) : List Nat := (List.range 16).filter fun p => !(partRidges s p).isEmpty

/-- The active image assigns every Ridge (R33). -/
def assigned (s : State) : Bool := s.sched.active.isSome

/-- Apply a change to every listed unit of a sparse map, keeping its canonical form. -/
def smap {α : Type} [DecidableEq α] (dflt : Nat → α) (f : Nat → α → α) (l : List (Nat × α)) : List (Nat × α) :=
  l.filterMap fun e => if f e.1 e.2 = dflt e.1 then none else some (e.1, f e.1 e.2)

/-- Power state of a Ridge (R382): 6 Park, 7 Retain, 8 Off; 0 Active. -/
def ridgePower (s : State) (d : Nat) : Nat := sget (fun _ => 0) s.dev.power d

/-- A core of a Ridge that is Off: writes of its page are ignored (R383). -/
def coreOff (s : State) (c : Nat) : Bool := ridgePower s (ridgeOf c) == 8

/-- Set the power state of some Ridges. -/
def setPower (v : Nat) (ds : List Nat) (s : State) : State :=
  { s with dev := { s.dev with power := ds.foldl (fun m d => sset (fun _ => 0) m d v) s.dev.power } }

/-- A partition's state. -/
def part (s : State) (p : Nat) : Part := sget (fun _ => Part.reset) s.parts p

/-- Set a partition's state. -/
def setPart (p : Nat) (x : Part) (s : State) : State := { s with parts := sset (fun _ => Part.reset) s.parts p x }

/-- A partition is frozen (R382; a parked one keeps its freeze, Table 13.7). -/
def partFrozen (s : State) (p : Nat) : Bool :=
  let x := part s p
  x.st == 2 || (x.st == 6 && x.wasFrozen)

/-- A core. -/
def core (s : State) (c : Nat) : Core := sget (fun _ => Core.reset) s.cores c

/-- Set a core. -/
def setCore (c : Nat) (x : Core) (s : State) : State := { s with cores := sset (fun _ => Core.reset) s.cores c x }

/-- Change a core. -/
def modCore (c : Nat) (f : Core → Core) (s : State) : State := setCore c (f (core s c)) s

/-- A core is frozen: by itself or with its partition (R421, R422). -/
def coreFrozen (s : State) (c : Nat) : Bool := (core s c).frozen || partFrozen s (partOf s c)

/-- A core lies in a region under reset (R377). -/
def coreInReset (s : State) (c : Nat) : Bool :=
  s.resets.any fun r =>
    match r.region with
    | .core i => i == c
    | .cluster k => k == clusterOf c
    | .partition p => p == partOf s c

/-- A partition is in reset. -/
def partInReset (s : State) (p : Nat) : Bool :=
  s.resets.any fun r => match r.region with | .partition q => q == p | _ => false

/-- The job of the active image with an ID. -/
def jobOf (s : State) (j : Nat) : Option Job :=
  match s.sched.active with
  | some im => im.jobs.find? (·.id == j)
  | none => none

/-- The job of the active image is a training job. -/
def isTraining (s : State) (j : Nat) : Bool :=
  match jobOf s j with
  | some b => !b.serving
  | none => false

/-- The partitions of a job (Table 2.8). -/
def jobParts (s : State) (j : Nat) : List Nat :=
  match jobOf s j with
  | some b => (List.range 16).filter fun p => b.parts.getLsbD p
  | none => []

/-- The training partitions: those in which a training job runs. -/
def trainingParts (s : State) : List Nat :=
  (partsNow s).filter fun p =>
    match s.sched.active with
    | some im => im.jobs.any fun b => !b.serving && b.parts.getLsbD p
    | none => false

/-- Tick length T in cycles of a tick code (Table 2.1). -/
def tickLen (code : Nat) : Nat := 2 ^ (code + 4)

/-- T of the active image; 32 with none (R45). -/
def ticT (s : State) : Nat := tickLen (match s.sched.active with | some im => im.tickCode | none => 1)

/-- F of the active image in ticks; 256 with none (R45). -/
def ticF (s : State) : Nat := 2 ^ ((match s.sched.active with | some im => im.frameCode | none => 4) + 4)

/-- The global tick number as every record takes it: 0 while no tick is counted (R436). -/
def tickN (s : State) : Dword := if s.tick.running then s.tick.n else 0

/-- Cycle position in the frame. -/
def framePos (s : State) : Nat := s.now - s.tick.frameAt

/-- The frame number N div F (R46). -/
def frameNo (s : State) : Nat := (tickN s).toNat / ticF s

/-- Add one to a 48-bit saturating counter held as a pair (Table 16.6), without a cause. -/
def bump48Quiet (key n : Nat) (s : State) : State :=
  let hi := rget s (key + 4)
  let v := (rget s key).toNat + 2 ^ 32 * field hi 15 0 + n
  if v ≥ 2 ^ 48 - 1 then rset (key + 4) 0x8000FFFF (rset key 0xFFFFFFFF s)
  else rset (key + 4) (setField hi 15 0 (v / 2 ^ 32)) (rset key (BitVec.ofNat 32 v) s)

end Sys2Proof.Machine
end

