-- ==== Sys2Proof/Machine/Hbm.lean ====
section
/-! DEFINITION. Physical addresses, memory windows and HBM lines (R228 to R232, R241 to R245): where a byte lies, which
access a window permits, symbol check codes and encryption. -/

namespace Sys2Proof.Machine

open Sys2Proof

/-! ## Windows (Table 8.8) -/

/-- A window as its three registers give it. -/
structure Win where
  idx : Nat
  enable : Bool
  job : Nat
  /-- core_rd, core_wr, move_rd, move_wr, rdma_rd, rdma_wr. -/
  rights : Nat
  group : Nat
  c0 : Nat
  hub : Bool
  encrypt : Bool
  slot : Nat
  base : Nat
  limit : Nat
  deriving DecidableEq, Repr

/-- A window from its register values. -/
def winOf (w : Nat) (base limit attr : Word) : Win :=
  ⟨w, attr.getLsbD 0, field attr 3 1, field attr 9 4, 2 ^ field attr 11 10, field attr 14 12, attr.getLsbD 15,
   attr.getLsbD 16, field attr 22 17, field base 27 0, field limit 27 0⟩

/-- Offset of a register of window w in its CIRQUE page. -/
def winOff (w : Nat) (r : WinReg) : Nat :=
  0x200 + 16 * (w % 32) + (match r with | .base => 0 | .limit => 4 | .attr => 8)

/-- Window w. -/
def window (s : State) (w : Nat) : Win :=
  winOf w (reg s 6 (w / 32) (winOff w .base)) (reg s 6 (w / 32) (winOff w .limit)) (reg s 6 (w / 32) (winOff w .attr))

/-- Bytes from `a` to `b` lie in an enabled window. -/
def Win.holds (w : Win) (a b : Nat) : Bool :=
  w.enable && decide (4096 * w.base ≤ a) && decide (b < 4096 * (w.limit + 1))

/-- The enabled window that holds bytes `a` to `b`. -/
def windowHolding (s : State) (a b : Nat) : Option Win :=
  ((List.range 256).map (window s)).find? fun w => w.holds a b

/-- The job's mask has the window (Table 2.8, R59). -/
def jobHas (s : State) (j w : Nat) : Bool :=
  match jobOf s j with
  | some b => b.windows.getLsbD w
  | none => false

/-- A window admits a job's access with a right (Table 8.4): bits 0 core_rd, 1 core_wr, 2 move_rd, 3 move_wr. -/
def jobMayAccess (s : State) (j right a b : Nat) : Bool :=
  match windowHolding s a b with
  | some w => bitOf w.rights right && w.job == j && jobHas s j w.idx
  | none => false

/-! ## Physical addresses (Table 8.3) -/

/-- Address of a hub line. -/
def hubAddr (cirque h : Nat) : Nat := 0xF000000000 + 0x04000000 * cirque + 64 * h

/-- Size of the HBM of a Cirque's group. -/
def groupBytes : Nat := 0x1800000000

/-- Where an HBM line lies: stack and line of the stack (R229), by the window that holds it. -/
def hbmPlace (s : State) (a : Nat) : Nat × Nat :=
  let (g, c0) := match windowHolding s a a with
    | some w => if w.hub then (1, a / groupBytes) else (w.group, w.c0)
    | none => (1, a / groupBytes)
  let j := (a - groupBytes * c0) / 4096
  (3 * c0 + j % (3 * g), (4096 * (j / (3 * g)) + a % 4096) / 64)

/-- The address lies in the HBM of the device: stacks 12 to 23 are fused off on a ZGT9-H (R15, R228). -/
def hbmExists (s : State) (a : Nat) : Bool :=
  decide (a / groupBytes < (if variantH s then 4 else 8))

/-! ## Symbol ECC (R241, R242): Reed-Solomon over GF(2^8) with x^8 + x^4 + x^3 + x^2 + 1 -/

/-- Multiply by α. -/
def rsDouble (a : Nat) : Nat := if a < 128 then 2 * a else (2 * a) ^^^ 0x11D

/-- Multiply in the field of the symbol code. -/
def rsMulN : Nat → Nat → Nat → Nat
  | 0, _, _ => 0
  | n + 1, a, b => (if b % 2 = 1 then a else 0) ^^^ rsMulN n (rsDouble a) (b / 2)

/-- Multiply in the field of the symbol code. -/
def rsMul (a b : Nat) : Nat := rsMulN 8 a b

/-- α^k. -/
def rsPow : Nat → Nat
  | 0 => 1
  | k + 1 => rsDouble (rsPow k)

/-- Coefficients of the generator (x - 1)(x - α)(x - α^2), x^2 to x^0. -/
def rsGen : List Nat := [7, 14, 8]

/-- One symbol into the remainder of the systematic encoder. -/
def rsStep (r : List Nat) (sym : Nat) : List Nat :=
  let f := (r.getD 0 0) ^^^ sym
  [r.getD 1 0 ^^^ rsMul f 7, r.getD 2 0 ^^^ rsMul f 14, rsMul f 8]

/-- The three check symbols of 65 symbols; symbol k is the coefficient of x^(67 - k) (log entry 14). -/
def rsCheck (syms : List Nat) : List Nat := syms.foldl rsStep [0, 0, 0]

/-- Syndrome at α^j. -/
def rsSyndrome (j : Nat) (syms : List Nat) : Nat := syms.foldl (fun a x => rsMul a (rsPow j) ^^^ x) 0

/-- What the decoder makes of 68 symbols (R242). -/
inductive Symbols where
  | good (syms : List Nat)
  | corrected (syms : List Nat)
  | bad
  deriving DecidableEq, Repr

/-- Decode: no error, one symbol corrected, or uncorrectable. -/
def rsDecode (syms : List Nat) : Symbols :=
  let s0 := rsSyndrome 0 syms
  let s1 := rsSyndrome 1 syms
  let s2 := rsSyndrome 2 syms
  if s0 = 0 ∧ s1 = 0 ∧ s2 = 0 then .good syms
  else
    match (List.range 68).find? fun k =>
        s0 != 0 && s1 == rsMul s0 (rsPow (67 - k)) && s2 == rsMul s1 (rsPow (67 - k)) with
    | some k => .corrected (syms.set k (syms.getD k 0 ^^^ s0))
    | none => .bad

/-! ## HBM lines -/

/-- Address of symbol 0 of a line in the store. -/
def hbmKey (stack line : Nat) : Nat := 128 * (2 ^ 29 * stack + line)

/-- The symbols of a line as a read meets them: as stored, with the errors of this read (R242). -/
def hbmSymbols (s : State) (stack line : Nat) (errs : SymErrs) : List Nat :=
  errs.foldl (fun l e => match e with | .symbol k v => l.set k (l.getD k 0 ^^^ v.toNat) | .parity => l)
    ((memBytes s.hbm (hbmKey stack line) 68).map BitVec.toNat)

/-- Write the 68 symbols of a line. -/
def putSymbols (stack line : Nat) (syms : List Nat) (s : State) : State :=
  { s with hbm := memPut s.hbm (hbmKey stack line) (syms.map (BitVec.ofNat 8)) }

/-- A key slot. -/
def keySlot (s : State) (k : Nat) : KeySlot := sget (fun _ => KeySlot.reset) s.mem.keys k

/-- Set a key slot. -/
def setKeySlot (k : Nat) (x : KeySlot) (s : State) : State :=
  { s with mem := { s.mem with keys := sset (fun _ => KeySlot.reset) s.mem.keys k x } }

/-- A generation of a key slot; the bytes of an erased one are free (log entry 15). -/
def keyBytes (x : KeySlot) (gen : Bool) : List Byte :=
  match (if gen then x.g1 else x.g0) with
  | some k => k
  | none => (List.range 64).map Config.erasedKey

/-- Encode 64 data bytes with a tag. -/
def withCheck (data : List Nat) (tag : Nat) : List Nat := data ++ [tag] ++ rsCheck (data ++ [tag])

/-- Write a plaintext line at a physical address, encrypted where its window asks for it (R245). -/
def hbmWrite (a : Nat) (data : List Byte) (s : State) : State :=
  let p := hbmPlace s a
  let (bytes, tag) := match windowHolding s a a with
    | some w =>
      if w.encrypt then
        let k := keySlot s w.slot
        (xtsEnc (keyBytes k k.current) (a / 64) data, 2 + bit01 k.current)
      else (data, 0)
    | none => (data, 0)
  putSymbols p.1 p.2 (withCheck (bytes.map BitVec.toNat) tag) s

/-- The plaintext that decoded symbols hold at an address (R245): decrypted where the tag says encrypted, under the
generation of the tag. -/
def hbmPlain (s : State) (a : Nat) (syms : List Nat) : List Byte :=
  let data := (syms.take 64).map (BitVec.ofNat 8)
  let tag := syms.getD 64 0
  match windowHolding s a a with
  | some w => if bitOf tag 1 then xtsDec (keyBytes (keySlot s w.slot) (bitOf tag 0)) (a / 64) data else data
  | none => data

/-! ## Lines at physical addresses, as the Crest and Trotos see them -/

/-- The address names a hub line. -/
def isHubAddr (a : Nat) : Bool := decide (0xF000000000 ≤ a) && decide (a < 0xF020000000)

/-- A hub address in the hub store. -/
def hubKey (a : Nat) : Nat := a - 0xF000000000

/-- The plaintext line at a physical address: a hub line, or an HBM line; 0 where no memory lies. A line whose stored symbols
do not decode gives no data: free values (log entry 88). -/
def physLine (s : State) (a : Nat) : List Byte :=
  if isHubAddr a then memBytes s.hub (hubKey a / 64 * 64) 64
  else if hbmExists s a then
    let p := hbmPlace s a
    match rsDecode (hbmSymbols s p.1 p.2 []) with
    | .good syms => hbmPlain s a syms
    | .corrected syms => hbmPlain s a syms
    | .bad => (List.range 64).map (Config.badByte (a / 64))
  else List.replicate 64 0

/-- Plaintext bytes from a physical address. -/
def physBytes (s : State) (a n : Nat) : List Byte :=
  let first := a / 64
  let last := (a + n + 63) / 64
  (((List.range (last - first)).map fun i => physLine s (64 * (first + i))).flatten.drop (a % 64)).take n

/-- A little-endian field at a physical address. -/
def physNat (s : State) (a n : Nat) : Nat := leNat (physBytes s a n)

/-- Pseudo-channel of a line. -/
def pseudoOf (stack line : Nat) : Nat := (Config.pseudoChannel stack line).toNat

end Sys2Proof.Machine
end

