-- ==== Sys2Proof/Machine/Ops.lean ====
section
/-! DEFINITION. The named operations over causes, freezes, counters and memories that every meaning uses. -/

namespace Sys2Proof.Machine

open Sys2Proof

/-! ## The event log (R427) -/

/-- What the hardware recorded in the present cycle. -/
def freshNow (s : State) : Fresh := if s.faults.fresh.at_ = s.now then s.faults.fresh else ⟨s.now, [], []⟩

/-- Set it. -/
def setFresh (x : Fresh) (s : State) : State := { s with faults := { s.faults with fresh := x } }

/-- What a page recorded in the present cycle. -/
def freshPage (s : State) (cls inst : Nat) : FreshPage :=
  ((freshNow s).pages.find? (·.page == 2 ^ 14 * cls + inst)).getD ⟨2 ^ 14 * cls + inst, 0, 0, 0, false, false⟩

/-- Set it. -/
def setFreshPage (x : FreshPage) (s : State) : State :=
  setFresh { freshNow s with pages := x :: (freshNow s).pages.filter (·.page != x.page) } s

/-- Record a cause in its page (R23): ERR_SUM, ERR_CNT, and ERR_FIRST with ERR_TICK if none is valid, or if the valid one
is of the same cycle and has a higher bit index. One that was valid when the cycle began stays so, though a W1C write of
this cycle found no other bit set: the write does not leave ERR_SUM zero. -/
def recordCause (cls inst bit fclass detail : Nat) (s : State) : State :=
  let sum := reg s cls inst 0x10
  let cnt := reg s cls inst 0x1C
  let fr := freshPage s cls inst
  let first := if fr.wiped then setField (reg s cls inst 0x18) 31 31 1 else reg s cls inst 0x18
  let s := setFreshPage ⟨fr.page, fr.bits ||| BitVec.ofNat 32 (2 ^ bit), fr.count + 1, if fr.count = 0 then cnt else fr.before,
    fr.latched || !first.getLsbD 31, false⟩ s
  let s := setReg cls inst 0x10 (sum ||| BitVec.ofNat 32 (2 ^ bit)) s
  let s := setReg cls inst 0x1C (if cnt = 0xFFFFFFFF then cnt else cnt + 1) s
  if first.getLsbD 31 && !(fr.latched && decide (bit < field first 4 0)) then setReg cls inst 0x18 first s
  else
    rset64 (regKey cls inst 0x20 0) (tickN s)
      (setReg cls inst 0x18 (BitVec.ofNat 32 (2 ^ 31 + 2 ^ 29 * fclass + 2 ^ 8 * (detail % 2 ^ 16) + bit)) s)

/-- Set some stored registers. -/
def setRegs : List (Nat × Word) → State → State
  | [], s => s
  | (k, v) :: t, s => setRegs t (rset k v s)

/-- An event for a record with a W1C valid bit in bit 31 of the register `key` (R17, R73): the record takes it unless it
holds an older event. Of two in one cycle the one of lower rank counts. -/
def noteRecord (key rank : Nat) (vals : List (Nat × Word)) (s : State) : State :=
  let valid := (rget s key).getLsbD 31
  match (freshNow s).recs.find? (·.key == key) with
  | none =>
    let s := setFresh { freshNow s with recs := ⟨key, rank, vals, !valid⟩ :: (freshNow s).recs } s
    if valid then s else setRegs vals s
  | some r =>
    if rank < r.rank then
      let s := setFresh { freshNow s with
        recs := (freshNow s).recs.map fun x => if x.key == key then { x with rank := rank, vals := vals } else x } s
      if r.latched then setRegs vals s else s
    else s

/-- A write of 1 to the valid bit of a record (R17): the record is cleared, or holds in full what the present cycle
recorded. -/
def clearRecord (key : Nat) (keys : List Nat) (s : State) : State :=
  match (freshNow s).recs.find? (·.key == key) with
  | some r =>
    setRegs r.vals (setFresh { freshNow s with
      recs := (freshNow s).recs.map fun x => if x.key == key then { x with latched := true } else x } s)
  | none => setRegs (keys.map fun k => (k, 0)) s

/-- Write an event at the next index of the log (R427); an unread entry that it replaces is lost. -/
def logEvent (code cls inst fclass : Nat) (detail : List Byte) (s : State) : State :=
  let f := s.faults
  let pos := f.head.toNat % 4096
  let gone := match f.log.find? (·.1 == pos) with | some e => !e.2.read | none => false
  let e : LogEntry := ⟨f.head, code, cls, fclass, tickN s, inst, (detail ++ List.replicate 12 0).take 12, false, s.now⟩
  let s := { s with faults := { f with log := (pos, e) :: f.log.filter (·.1 != pos), head := f.head + 1,
                                       lost := if gone then f.lost + 1 else f.lost } }
  if gone then
    let k := regKey 0x13 0 0x70 0
    let was := (rget s (k + 4)).getLsbD 31
    let s := bump48Quiet k 1 s
    let s := if f.lost % 4096 = 0 then recordCause 0x13 0 1 0 0 s else s
    if !was && (rget s (k + 4)).getLsbD 31 then recordCause 0x13 0 2 0 1 s else s
  else s

/-- A report that the coalescer drops (R425): storm, its count, cause 0, and event 0x0002 when storm is first set. -/
def dropReport (key : Nat) (s : State) : State :=
  let k := regKey 0x13 0 0x60 0
  let was := (rget s (k + 4)).getLsbD 31
  let s := bump48Quiet k 1 s
  let s := recordCause 0x13 0 0 0 key s
  let s := if !was && (rget s (k + 4)).getLsbD 31 then recordCause 0x13 0 2 0 0 s else s
  if s.faults.storm then s
  else
    let cnt := (rget s k).toNat + 2 ^ 32 * field (rget s (k + 4)) 15 0
    logEvent 0x0002 0x13 0 0 (leBytes 8 cnt) { s with faults := { s.faults with storm := true } }

/-- The 20-bit key of a page (R424). -/
def keyOf (cls inst : Nat) : Nat := 2 ^ 14 * cls + inst

/-- Insert a report: in order of arrival, in one cycle by ascending key, then ascending page (R425). -/
def insertReport (r : Report) : List Report → List Report
  | [] => [r]
  | q :: t =>
    if q.at_ == r.at_ && (decide (r.key < q.key) || (r.key == q.key && decide (keyOf r.cls r.inst < keyOf q.cls q.inst))) then
      r :: q :: t
    else q :: insertReport r t

/-- Put a report into the coalescer's queue of 4,096 (R425). -/
def enqueueReport (r : Report) (s : State) : State :=
  if s.faults.queue.length ≥ 4096 then dropReport r.key s
  else { s with faults := { s.faults with queue := insertReport r s.faults.queue } }

/-! ## Recording and reporting a cause -/

/-- Enter one report for each key. -/
def enqueueReports (mk : Nat → Report) : List Nat → State → State
  | [], s => s
  | k :: t, s => enqueueReports mk t (enqueueReport (mk k) s)

/-- The page's unit is in reset, and so raises no cause (R377). -/
def pageInReset (s : State) (cls inst : Nat) : Bool :=
  if cls = 5 then coreInReset s inst
  else if cls = 4 then s.resets.any fun r =>
    match r.region with
    | .cluster k => k == inst
    | .partition p => p == partOfRidge s (ridgeOf ((clusterCores inst).getD 0 0))
    | .core _ => false
  else false

/-- Record a cause and report it under some keys, unless it is masked. A device-fatal cause is reported whether masked
or not (R24, R439). The FAULT page reports nothing to itself. -/
def record (cls inst bit fclass detail : Nat) (keys : List Nat) (s : State) : State :=
  let masked := (reg s cls inst 0x14).getLsbD bit
  let s := recordCause cls inst bit fclass detail s
  if cls = 0x13 ∨ (masked ∧ fclass ≠ 2) then s
  else
    let ef : Word := BitVec.ofNat 32 (2 ^ 31 + 2 ^ 29 * fclass + 2 ^ 8 * (detail % 2 ^ 16) + bit)
    let mk := fun k => (⟨k, cls, inst, bit, fclass, ef, tickN s, s.now⟩ : Report)
    if fclass = 2 then { s with faults := { s.faults with fatal := s.faults.fatal ++ [mk (keyOf 0 0)] } }
    else enqueueReports mk keys s

/-- Count a line written to a stack; the page's count_overflow on reaching the largest value (R251, R428). -/
def countHbmWrite (stack : Nat) (s : State) : State :=
  let k := regKey 7 stack 0x68 0
  let was := (rget s (k + 4)).getLsbD 31
  let s := bump48Quiet k 1 s
  if !was && (rget s (k + 4)).getLsbD 31 then record 7 stack 6 0 4 [keyOf 7 stack] s else s

/-- Write the plaintext line at a physical address, as the Crest and Trotos do. -/
def putPhysLine (a : Nat) (data : List Byte) (s : State) : State :=
  if isHubAddr a then { s with hub := memPut s.hub (hubKey a / 64 * 64) data }
  else if hbmExists s a then countHbmWrite (hbmPlace s a).1 (hbmWrite a data s)
  else s

/-- Write plaintext lines from a line address upwards. -/
def putPhysLines (a : Nat) : List (List Byte) → State → State
  | [], s => s
  | x :: t, s => putPhysLines (a + 64) t (putPhysLine a x s)

/-- Write bytes within one line. -/
def putPhysBytes (a : Nat) (b : List Byte) (s : State) : State :=
  let old := physLine s (a / 64 * 64)
  putPhysLine (a / 64 * 64) (old.take (a % 64) ++ b ++ old.drop (a % 64 + b.length)) s

/-- A link. -/
def link (s : State) (l : Nat) : Link := sget (fun _ => Link.reset) s.links l

/-- Set a link. -/
def setLink (l : Nat) (x : Link) (s : State) : State := { s with links := sset (fun _ => Link.reset) s.links l x }

/-! ## Cairns and pairs where a partition freezes (R342, R349, R356) -/

/-- First byte of a Cairn slot (R341). -/
def cairnAddr (s : State) (i : Nat) : Nat :=
  (rget64 s (regKey 0x17 0 0x40 0)).toNat + i * field (reg s 0x17 0 0x48) 27 0 * 4096

/-- A capture ends unsealed: its slot becomes VOID (R342). `why` is the code of cairn_void. -/
def voidCapture (why : Nat) (c : Capture) (s : State) : State :=
  let s := { s with cairn := { s.cairn with captures := s.cairn.captures.filter fun x => x.slot != c.slot } }
  record 0x17 0 0 0 (c.slot + 4 * why) [keyOf 0x17 0] (putPhysBytes (cairnAddr s c.slot + 6) [2] s)

/-- End each of some captures. -/
def voidCaptures (why : Nat) : List Capture → State → State
  | [], s => s
  | c :: t, s => voidCaptures why t (voidCapture why c s)

/-- A job of the set runs in partition p. -/
def jobsRunIn (s : State) (jobs : BitVec 8) (p : Nat) : Bool :=
  (List.range 8).any fun j => jobs.getLsbD j && (jobParts s j).contains p

/-- The partitions of a set of jobs. -/
def partsOfJobs (s : State) (jobs : BitVec 8) : List Nat := (List.range 16).filter fun p => jobsRunIn s jobs p

/-- A service slot that carries a management message: type 0x03, code, content (R258, R355; log entry 21). -/
def mgmtSlot (code : Nat) (content : List Byte) : Slot :=
  ⟨0, 5, 0, false, BitVec.ofNat 512 (leNat ([3, BitVec.ofNat 8 code] ++ content.take 62))⟩

/-- The pair links in UP (R354). -/
def pairLinks (s : State) : List Nat :=
  (List.range 56).filter fun l => (rget64 s (regKey 0x18 0 0x44 0)).getLsbD l && (link s l).st == 5

/-- Put a service slot in front of the service queue of each of some links. -/
def sendFirst (x : Slot) : List Nat → State → State
  | [], s => s
  | l :: t, s => sendFirst x t (setLink l { link s l with svcQ := x :: (link s l).svcQ } s)

/-- Put a service slot behind the service queue of each of some links. -/
def sendSlot (x : Slot) : List Nat → State → State
  | [], s => s
  | l :: t, s => sendSlot x t (setLink l { link s l with svcQ := (link s l).svcQ ++ [x] } s)

/-- SRV_PAIR.role (R310). -/
def pairRole (s : State) : Nat := field (reg s 0xE 0 0x74) 1 0

/-- The message at the front of the service queue of each of some links goes in the next frame. -/
def faultNext : List Nat → State → State
  | [], s => s
  | l :: t, s => faultNext t (setLink l { link s l with faultFirst := true } s)

/-- R356: a primary sends the primary-fault message on every pair link, and again every tick for 64 ticks. Causes:
0 partition 0 frozen, 1 device-fatal, 2 warm reset, 3 handover. -/
def primaryFault (cause : Nat) (s : State) : State :=
  if pairRole s = 1 ∧ (reg s 0x18 0 0x40).getLsbD 9 then
    record 0x18 0 6 0 cause [keyOf 0x18 0]
      (faultNext (pairLinks s) (sendFirst (mgmtSlot 0x7F [BitVec.ofNat 8 cause]) (pairLinks s)
        { s with pair := { s.pair with fault := some (cause, 64) } }))
  else s

/-! ## Freezes (R421) -/

/-- A hub line. -/
def hubLine (s : State) (cirque h : Nat) : Line := memLine s.hub (2 ^ 26 * cirque + 64 * h)

/-- State of a hub line: 0 READY, 1 PENDING, 2 VOID (R227). -/
def lineSt (s : State) (cirque h : Nat) : Nat := sget (fun _ => 0) s.mem.lineSt (2 ^ 20 * cirque + h)

/-- Some core reads or writes the Cirque's hub cache. -/
def hubInUse (s : State) (cirque : Nat) : Bool :=
  s.cores.any fun e => cirqueOfRidge (ridgeOf e.1) == cirque && e.2.movs.any fun r => !r.stopped

/-- A hub line is about to change: keep it as it is, for the HRDs whose bank access lies before this cycle (R226). -/
def noteHub (cirque h : Nat) (s : State) : State :=
  if hubInUse s cirque then
    { s with mem := { s.mem with
        hubPast := s.mem.hubPast ++ [⟨2 ^ 20 * cirque + h, s.now, hubLine s cirque h, lineSt s cirque h⟩] } }
  else s

/-- A hub line and its state as a bank access in cycle t finds them: before every change of cycle t or later. -/
def hubSeen (s : State) (cirque h t : Nat) : Line × Nat :=
  match s.mem.hubPast.find? fun p => p.key == 2 ^ 20 * cirque + h && decide (t ≤ p.at_) with
  | some p => (p.line, p.st)
  | none => (hubLine s cirque h, lineSt s cirque h)

/-- Change the lines of a range of a hub cache to a state (Table 8.2). -/
def setLineSt (cirque st : Nat) : List Nat → State → State
  | [], s => s
  | h :: t, s =>
    let s := noteHub cirque h s
    setLineSt cirque st t
      { s with mem := { s.mem with lineSt := sset (fun _ => 0) s.mem.lineSt (2 ^ 20 * cirque + h) st } }

/-- Reads of the lines `ls` of a Cirque's move are no longer outstanding (R248). -/
def returnReads (cirque : Nat) (index : Option Nat) (ls : List Nat) (s : State) : State :=
  { s with mem := { s.mem with keys := smap (fun _ => KeySlot.reset) (fun _ x =>
      { x with oldReads := x.oldReads.filter fun e => !(e.1 == cirque && e.2.1 == index && ls.contains e.2.2) }) s.mem.keys } }

/-- Abandon a move: it leaves the engine, and the lines of a move from HBM that have not landed become VOID. The lines of
a manual move never became PENDING (Table 8.2). A capture that waits for it ends (R342). -/
def abandonMove (m : Move) (s : State) : State :=
  let s := { s with mem := { s.mem with moves := eraseFirst (fun x => x == m) s.mem.moves } }
  let s := match m.index with
    | some i => voidCaptures 2 (s.cairn.captures.filter fun c => c.waiting.contains (m.cirque, i)) s
    | none => s
  if m.toHbm then s
  else
    let s := returnReads m.cirque m.index (List.range m.lines) s
    if m.index.isNone then s
    else setLineSt m.cirque 2 (((List.range m.lines).filter fun i => !m.landed.contains i).map (m.hub + ·)) s

/-- Abandon each of some moves. -/
def abandonMoves : List Move → State → State
  | [], s => s
  | m :: t, s => abandonMoves t (abandonMove m s)

/-- R235: abandon the moves of every job that runs in partition p. Manual moves run on. -/
def abandonPartMoves (p : Nat) (s : State) : State :=
  let mine := fun (m : Move) => m.index.isSome && (jobParts s m.job).contains p
  abandonMoves (s.mem.moves.filter mine) { s with mem := { s.mem with unissued := s.mem.unissued.filter fun m => !mine m } }

/-- Freeze one partition with what follows from it: open captures of its jobs end (R342), its moves are abandoned (R235),
and where it is partition 0 a primary mutes its egress (R311) and sends the primary-fault message (R356). -/
def freezeOne (p : Nat) (s : State) : State :=
  let x := part s p
  if x.st = 0 ∨ x.st = 1 ∨ x.st = 4 ∨ x.st = 5 then
    let s := setPart p { x with st := 2 } s
    let s := abandonPartMoves p (voidCaptures 0 (s.cairn.captures.filter fun c => jobsRunIn s c.jobs p) s)
    if p = 0 then
      let s :=
        if pairRole s = 1 ∧ !(reg s 0xE 0 0x74).getLsbD 5 then
          setReg 0xE 0 0x74 (setField (reg s 0xE 0 0x74) 5 5 1) { s with serve := { s.serve with mutedAt := s.now } }
        else s
      primaryFault 0 s
    else s
  else s

/-- Freeze one after another. -/
def freezeEach : List Nat → State → State
  | [], s => s
  | p :: t, s => freezeEach t (freezeOne p s)

/-- Freeze a partition (R422, Table 13.6): one that is in reset or in a power state is not frozen. Where it belongs to a
job of a restore whose comparisons are not all made, the restore fails with replay_mismatch (R349). -/
def freezePart (p : Nat) (s : State) : State :=
  let s := freezeOne p s
  match s.cairn.restore with
  | some r =>
    if r.phase ≥ 2 ∧ jobsRunIn s r.jobs p then
      let ps := partsOfJobs s r.jobs
      let job := ((List.range 8).find? fun j => r.jobs.getLsbD j && (jobParts s j).contains p).getD 0
      record 0x17 0 2 1 job (ps.map (keyOf 0x15))
        (freezeEach ps { s with cairn := { s.cairn with restore := none } })
    else s
  | none => s

/-- Freeze each of some partitions. -/
def freezeParts : List Nat → State → State
  | [], s => s
  | p :: t, s => freezeParts t (freezePart p s)

/-- The response to a cause (R420): the master frozen. -/
inductive Resp where
  | none
  | core (c : Nat)
  | cores (cs : List Nat)
  | parts (ps : List Nat)
  | engine (c : Nat)
  | link (l : Nat)
  | qp (n : Nat)
  | source (n : Nat)
  | fatal (power : Bool)
  deriving DecidableEq, Repr

/-- A core freezes in cycle t. -/
def freezeCore (t : Nat) (x : Core) : Core :=
  { x with frozen := true, frozenAt := if x.frozen then x.frozenAt else t }

/-- Freeze each of some cores. -/
def freezeCores : List Nat → State → State
  | [], s => s
  | c :: t, s => freezeCores t (modCore c (freezeCore s.now) s)

/-- Freeze the master a cause names. -/
def respond (r : Resp) (s : State) : State :=
  match r with
  | .none => s
  | .core c => modCore c (freezeCore s.now) s
  | .cores cs => freezeCores cs s
  | .parts ps => freezeParts ps s
  | .engine c => { s with mem := { s.mem with engFrozen := sset (fun _ => false) s.mem.engFrozen c true } }
  | .link l => setLink l { link s l with frozen := true } s
  | .qp n => setReg 0xF (1 + n) 0x8 (setField (reg s 0xF (1 + n) 0x8) 1 1 1) s
  | .source n =>
    { s with host := { s.host with sources := sset (fun _ => SourceSt.reset) s.host.sources n
                                    { sget (fun _ => SourceSt.reset) s.host.sources n with frozen := true } } }
  | .fatal power =>
    let s := freezeParts (partsNow s) (primaryFault 1 { s with faults := { s.faults with fatalRecorded := true } })
    if power then emit .powerRemoval s else s

/-- The keys under which a report enters the coalescer (R424). -/
def reportKeys (s : State) (cls inst fclass : Nat) (r : Resp) : List Nat :=
  if fclass = 2 then [keyOf 0 0]
  else if fclass = 1 then
    match r with
    | .parts ps => ps.map (keyOf 0x15)
    | .core c => [keyOf 0x15 (partOf s c)]
    | .cores cs => [keyOf 0x15 (partOf s (cs.headD 0))]
    | .engine c => [keyOf 6 c]
    | .link l => [keyOf 9 l]
    | .qp n => [keyOf 0xF (1 + n)]
    | .source n => [keyOf 0xF (0x2000 + n)]
    | _ => [keyOf cls inst]
  else [keyOf cls inst]

/-- A cause occurs (R23, R24, R420): it is recorded, its master freezes, and, unless masked, it is reported. A
device-fatal cause is reported whether masked or not, and is logged in the next cycle (R439). -/
def raise (cls inst bit fclass detail : Nat) (r : Resp) (s : State) : State :=
  if pageInReset s cls inst then s
  else record cls inst bit fclass detail (reportKeys s cls inst fclass r) (respond r s)

/-- A correctable cause. -/
def raiseCe (cls inst bit detail : Nat) (s : State) : State := raise cls inst bit 0 detail .none s

/-! ## Counters (Table 16.6) -/

/-- Add to a 48-bit saturating counter; when its sticky bit sets, raise the page's count_overflow once. -/
def bump48 (cls inst off bank n : Nat) (ovf : Option (Nat × Nat)) (s : State) : State :=
  let k := regKey cls inst off bank
  let was := (rget s (k + 4)).getLsbD 31
  let s := bump48Quiet k n s
  if !was && (rget s (k + 4)).getLsbD 31 then
    match ovf with
    | some (bit, d) => raiseCe cls inst bit d s
    | none => s
  else s

/-- Add to a 32-bit saturating counter; on reaching its largest value raise count_overflow once. -/
def bump32 (cls inst off bank n : Nat) (ovf : Option (Nat × Nat)) (s : State) : State :=
  let k := regKey cls inst off bank
  let v := (rget s k).toNat
  if v = 2 ^ 32 - 1 then s
  else
    let s := rset k (BitVec.ofNat 32 (min (2 ^ 32 - 1) (v + n))) s
    if v + n ≥ 2 ^ 32 - 1 then
      match ovf with
      | some (bit, d) => raiseCe cls inst bit d s
      | none => s
    else s

/-! ## Schedule slips (R72, R73) -/

/-- Count a slip, record it if none is recorded (the lower code, then unit, of one cycle: R73), and raise cause 2 of the SCHED page with the response of its unit. -/
def recordSlip (code unit : Nat) (ps : List Nat) (r : Resp) (s : State) : State :=
  let p := match ps with | [] => 0 | q :: t => t.foldl min q
  let s := bump48 0x16 0 0x88 0 1 none s
  let n := tickN s
  let s := noteRecord (regKey 0x16 0 0x7C 0) (2 ^ 14 * code + unit)
    [(regKey 0x16 0 0x7C 0, BitVec.ofNat 32 (2 ^ 31 + 2 ^ 16 * (unit % 2 ^ 14) + 2 ^ 8 * code + p)),
     (regKey 0x16 0 0x80 0, BitVec.ofNat 32 n.toNat), (regKey 0x16 0 0x84 0, BitVec.ofNat 32 (n.toNat / 2 ^ 32))] s
  raise 0x16 0 2 1 (code + 2 ^ 8 * p) r s

/-- A slip that freezes partitions: its cause in the detecting unit's page, and its record in the SCHED page. -/
def slip (cls inst bit detail code unit : Nat) (ps : List Nat) (s : State) : State :=
  recordSlip code unit ps (.parts ps) (raise cls inst bit 1 detail (.parts ps) s)

/-- A slip that a core detects: the core freezes at once, its partition at the next tick boundary (R422). -/
def coreSlip (c bit detail code : Nat) (s : State) : State :=
  recordSlip code c [partOf s c] (.core c) (raise 5 c bit 1 detail (.core c) s)

/-! ## Energy charges (R390) -/

/-- Charge `n` events of a class to a job. -/
def charge (job ecls n : Nat) (s : State) : State :=
  let fj := n * (rget s (regKey 0x12 0 0x54 ecls)).toNat
  { s with energy := { s.energy with
      tickJob := sset (fun _ => 0) s.energy.tickJob job (sget (fun _ => 0) s.energy.tickJob job + fj) } }

/-- Charge `n` events of a class to a job, where there is one. -/
def chargeJob (job : Option Nat) (ecls n : Nat) (s : State) : State :=
  match job with
  | some j => charge j ecls n s
  | none => s

/-- The job to which what enters a partition from a bridge die is charged (Table 14.1). DESIGN CHOICE (log entry 20): where
several jobs run in the partition, the lowest-numbered. -/
def jobOfPart (s : State) (p : Nat) : Option Nat := (List.range 8).find? fun j => (jobParts s j).contains p

/-- Charge `n` events of a class on a Cirque, Col or Port die to a partition (Table 14.1). -/
def chargePart (p ecls n : Nat) (s : State) : State :=
  let fj := n * (rget s (regKey 0x12 0 0x54 ecls)).toNat
  { s with energy := { s.energy with
      tickPart := sset (fun _ => 0) s.energy.tickPart p (sget (fun _ => 0) s.energy.tickPart p + fj) } }

/-! ## Core SRAM and hub caches -/

/-- Address of a line of a core's SRAM or gather memory in the store. -/
def sramAddr (c line : Nat) : Nat := 2 ^ 19 * c + 64 * line

/-- A line of core SRAM in storage order. -/
def sramLine (s : State) (c line : Nat) : Line := memLine s.sram (sramAddr c line)

/-- Write a line of core SRAM in storage order. -/
def setSramLine (c line : Nat) (x : Line) (s : State) : State :=
  { s with sram := memPutLine s.sram (sramAddr c line) x }

/-- Write a hub line. -/
def setHubLine (cirque h : Nat) (x : Line) (s : State) : State :=
  let s := noteHub cirque h s
  { s with hub := memPutLine s.hub (2 ^ 26 * cirque + 64 * h) x }

/-- The state as the core units see it: a gather line that the Port writes in this cycle still holds what it held before
(R84). -/
def coreSees (s : State) : State :=
  if s.serve.oldAt = s.now then
    { s with sram := s.serve.oldLines.foldr (fun e m => memPutLine m (sramAddr (e.1 / 2 ^ 13) (e.1 % 2 ^ 13)) e.2) s.sram }
  else s

/-- The Port writes a gather line (R84). -/
def setGatherLine (c line : Nat) (x : Line) (s : State) : State :=
  let old := if s.serve.oldAt = s.now then s.serve.oldLines else []
  let k := 2 ^ 13 * c + line
  let s := { s with serve := { s.serve with
    oldAt := s.now, oldLines := if old.any (·.1 == k) then old else old ++ [(k, sramLine s c line)] } }
  setSramLine c line x s

end Sys2Proof.Machine
end

