-- ==== Sys2Proof/Machine/Operands.lean ====
section
/-! DEFINITION. The operand forms of a core: instruction words (R98, Tables 3.6 to 3.14), tile descriptors (R90), the
places of elements in core SRAM (R86, R87, R117, R135, R138), and flits built from them. -/

namespace Sys2Proof.Machine

open Sys2Proof

/-! ## Instruction words -/

/-- Bits [hi:lo] of an instruction word. -/
def wbits (w : Dword) (hi lo : Nat) : Nat := bitsOf w.toNat hi lo

/-- FEND, the fill of unused instruction-store words (R96). -/
def fendWord : Dword := 0x0000080000000000

def iClass (w : Dword) : Nat := wbits w 63 60
def iJob (w : Dword) : Nat := wbits w 59 57
def iSync (w : Dword) : Nat := wbits w 56 55
def iWmax (w : Dword) : Nat := wbits w 54 47

/-- The op field of a class (Tables 3.8 to 3.14); MMA has none. -/
def iOp (w : Dword) : Nat :=
  match iClass w with
  | 0 => wbits w 46 43
  | 2 => wbits w 46 41
  | 3 => wbits w 46 44
  | 4 => wbits w 46 43
  | 5 => wbits w 46 44
  | 6 => wbits w 46 44
  | _ => 0

/-- No reserved class, opcode or non-zero reserved field (R98). DESIGN CHOICE (log entry 85): bits of `arg` that a CTL op does not
name count as reserved. -/
def iLegal (w : Dword) : Bool :=
  iSync w != 3 &&
  match iClass w with
  | 0 =>
    wbits w 42 16 == 0 &&
    (match iOp w with
      | 0 => wbits w 15 0 == 0
      | 1 => wbits w 15 0 == 0
      | 2 => wbits w 15 10 == 0
      | 3 => wbits w 15 14 == 0
      | 4 => true
      | 5 => wbits w 15 14 == 0
      | _ => false)
  | 1 => decide (wbits w 19 17 ≤ 5) && wbits w 10 8 == 0
  | 2 => [0x00, 0x01, 0x02, 0x03, 0x04, 0x05, 0x06, 0x08, 0x09, 0x0A, 0x0B, 0x0C, 0x0D, 0x0E, 0x10, 0x11, 0x20,
      0x21].contains (iOp w)
  | 3 => decide (iOp w ≤ 5) && wbits w 22 20 == 0
  | 4 => decide (iOp w ≤ 2) && wbits w 25 20 == 0
  | 5 => decide (iOp w ≤ 1) && wbits w 34 0 == 0
  | 6 => decide (iOp w ≤ 2) && wbits w 24 0 == 0
  | _ => false

/-! MMA fields (Table 3.9). -/

def mmaDst (w : Dword) : Nat := wbits w 46 38
def mmaA (w : Dword) : Nat := wbits w 37 29
def mmaB (w : Dword) : Nat := wbits w 28 20
def mmaShape (w : Dword) : Nat := wbits w 19 17
def mmaTurnA (w : Dword) : Bool := bitOf w.toNat 16
def mmaTurnB (w : Dword) : Bool := bitOf w.toNat 15
def mmaAcc (w : Dword) : Bool := bitOf w.toNat 14
def mmaFin (w : Dword) : Bool := bitOf w.toNat 13
def mmaRelA (w : Dword) : Bool := bitOf w.toNat 12
def mmaRelB (w : Dword) : Bool := bitOf w.toNat 11
/-- K steps, 1 to 256. -/
def mmaSteps (w : Dword) : Nat := wbits w 7 0 + 1

/-! VEC fields (Table 3.10). -/

def vecDst (w : Dword) : Nat := wbits w 40 32
def vecA (w : Dword) : Nat := wbits w 31 23
def vecB (w : Dword) : Nat := wbits w 22 14
def vecRelA (w : Dword) : Bool := bitOf w.toNat 13
def vecRelB (w : Dword) : Bool := bitOf w.toNat 12
def vecSreg (w : Dword) : Nat := wbits w 11 8
def vecImm (w : Dword) : Nat := wbits w 7 0

/-- The op takes srcB: ADD to FMA, UCALL, QCRUMB. -/
def vecUsesB (op : Nat) : Bool := decide (op ≤ 5) || op == 0x20 || op == 0x21

/-! MOV fields (Table 3.12). -/

def movTag (w : Dword) : Nat := wbits w 43 35
def movRoute (w : Dword) : Nat := wbits w 34 29
def movPlane (w : Dword) : Nat := wbits w 28 28
def movSreg (w : Dword) : Nat := wbits w 27 24
def movRel (w : Dword) : Bool := bitOf w.toNat 23
def movHub (w : Dword) : Nat := wbits w 19 0

/-! SCAL, TAG and VER fields (Tables 3.13, 3.14). -/

def scalD (w : Dword) : Nat := wbits w 42 39
def scalA (w : Dword) : Nat := wbits w 38 35
def scalTag (w : Dword) : Nat := wbits w 34 26
/-- The signed 20-bit immediate, extended to 32 bits. -/
def scalImm (w : Dword) : Word := BitVec.ofInt 32 (signed 20 (wbits w 19 0))
def tagTag (w : Dword) : Nat := wbits w 43 35
def verRing (w : Dword) : Nat := wbits w 34 29
def verStamp (w : Dword) : Nat := wbits w 28 25

/-! ## Tile descriptors (Table 3.4) -/

def dBase (d : Dword) : Nat := wbits d 12 0
def dLines (d : Dword) : Nat := wbits d 25 13
def dFmt (d : Dword) : Nat := wbits d 29 26
def dTurn (d : Dword) : Bool := bitOf d.toNat 30
def dRnd (d : Dword) : Bool := bitOf d.toNat 31
def dStream (d : Dword) : Nat := wbits d 43 32
def dMon (d : Dword) : Nat := wbits d 55 44
def dMonEn (d : Dword) : Bool := bitOf d.toNat 56

/-- The fmt code is reserved (Table 3.5). -/
def fmtReserved (code : Nat) : Bool := decide (0xC ≤ code)

/-- An MX element format (R134). -/
def fmtMx (code : Nat) : Bool := code == 5 || code == 6 || code == 7

/-- An integer element format. -/
def fmtInt (code : Nat) : Bool := code == 8 || code == 9 || code == 0xA

/-- Element count of a tile (R100). -/
def dElems (d : Dword) : Nat := dLines d * 512 / fmtWidth (dFmt d)

/-- Side n of the turn block of a width (Table 3.3). -/
def blockSide (w : Nat) : Nat := 256 / w

/-- Lines of a turn block (Table 3.3). -/
def blockLines (w : Nat) : Nat := blockSide w / 2

/-- The 16 Port attachment cores: x = 16 to 31 of row 0 (R84). -/
def isAttachment (c : Nat) : Bool := decide (16 ≤ c) && decide (c ≤ 31)

/-! ## A core's tables -/

/-- An instruction-store word: the half, stream (1 F, 2 B, 3 U) and index. -/
def istWord (x : Core) (half : Bool) (stream idx : Nat) : Dword :=
  sget (fun _ => fendWord) x.ist (3072 * bit01 half + 1024 * (stream - 1) + idx)

/-- A descriptor of the active tile table. -/
def tileOf (x : Core) (tag : Nat) : Dword := sget (fun _ => (0 : Dword)) x.tiles (512 * bit01 x.half + tag)

/-- An active route entry 0-63, or steering word as 64 + unit. -/
def routeOf (x : Core) (r : Nat) : Word := sget (fun _ => (0 : Word)) x.routes (72 * bit01 x.half + r)

/-- A scalar register. -/
def sregOf (x : Core) (r : Nat) : Word := sget (fun _ => (0 : Word)) x.sregs r

/-- Set a scalar register. -/
def setSreg (r : Nat) (v : Word) (x : Core) : Core := { x with sregs := sset (fun _ => (0 : Word)) x.sregs r v }

/-- Stream code of Table 3.16. -/
def streamCode : Stream → Nat
  | .f => 1
  | .b => 2
  | .u => 3

/-- A stream's state. -/
def streamOf (x : Core) : Stream → StreamSt
  | .f => x.f
  | .b => x.b
  | .u => x.u

/-- Change a stream's state. -/
def setStream (st : Stream) (y : StreamSt) (x : Core) : Core :=
  match st with
  | .f => { x with f := y }
  | .b => { x with b := y }
  | .u => { x with u := y }

/-! ## Valid bits (R93): a change made in cycle c is seen from cycle c + 1; a set and a clear in one cycle end set -/

def TagTime.zero : TagTime := ⟨0, 0, 0⟩

/-- The valid bit of a tag, as it stands. -/
def tagValid (x : Core) (tag : Nat) : Bool := x.valid.getLsbD tag

/-- The valid bit of a tag as the issue selector sees it in cycle `t`. -/
def tagSeen (x : Core) (t tag : Nat) : Bool :=
  let k := sget (fun _ => TagTime.zero) x.tagAt tag
  if tagValid x tag then decide (k.up ≤ t) else decide (t < k.down)

/-- Set a tag's valid bit in cycle `t`. -/
def setTag (t tag : Nat) (x : Core) : Core :=
  let k := sget (fun _ => TagTime.zero) x.tagAt tag
  let k' : TagTime := { k with setAt := t + 1, up := if tagValid x tag then k.up else if k.down = t + 1 then 0 else t + 1 }
  { x with valid := x.valid ||| BitVec.ofNat 512 (2 ^ tag), tagAt := sset (fun _ => TagTime.zero) x.tagAt tag k' }

/-- Clear a tag's valid bit in cycle `t`. -/
def clearTag (t tag : Nat) (x : Core) : Core :=
  let k := sget (fun _ => TagTime.zero) x.tagAt tag
  if k.setAt = t + 1 then x
  else
    { x with valid := x.valid &&& ~~~(BitVec.ofNat 512 (2 ^ tag)),
             tagAt := sset (fun _ => TagTime.zero) x.tagAt tag
               { k with down := if tagValid x tag then t + 1 else k.down } }

/-! ## Places of elements -/

/-- Bit address, in the core's SRAM, of the element with natural index k of a tile whose elements are w bits wide
(R87, R135). -/
def elemBit (d : Dword) (w k : Nat) : Nat :=
  if dTurn d then
    let n := blockSide w
    let b := k / (n * n)
    let r := k % (n * n) / n
    let cc := k % n
    512 * (dBase d + b * blockLines w + r / 2) + 256 * (r % 2) + w * ((cc + r / 2) % n)
  else 512 * dBase d + w * k

/-- The w bits (a divisor or multiple of 8, at most 32) at a bit address of a core's SRAM. -/
def getBits (s : State) (c a w : Nat) : Nat :=
  leNat (memBytes s.sram (2 ^ 19 * c + a / 8) (ceilDiv w 8)) / 2 ^ (a % 8) % 2 ^ w

/-- Store w bits at a bit address. -/
def putBits (c a w v : Nat) (s : State) : State :=
  let b := 2 ^ 19 * c + a / 8
  let n := ceilDiv w 8
  let old := leNat (memBytes s.sram b n)
  let part := old / 2 ^ (a % 8) % 2 ^ w
  { s with sram := memPut s.sram b (leBytes n (old - part * 2 ^ (a % 8) + v % 2 ^ w * 2 ^ (a % 8))) }

/-- An element of a tile by natural index. -/
def elemOf (s : State) (c : Nat) (d : Dword) (k : Nat) : Nat :=
  let w := fmtWidth (dFmt d)
  getBits s c (elemBit d w k) w

/-- Natural index of element (r, cc) of a rows × cols matrix held in a tile: row-major, or by turn blocks in
block-row-major order (R117). A matrix that is no whole number of blocks stays row-major (log entry 13). -/
def matIndex (d : Dword) (w rows cols r cc : Nat) : Nat :=
  let n := blockSide w
  if dTurn d ∧ rows % n = 0 ∧ cols % n = 0 then (r / n * (cols / n) + cc / n) * (n * n) + r % n * n + cc % n
  else r * cols + cc

/-- Rotate the two halves of a line of a turn block to natural order (R87): `back` undoes it. -/
def turnLine (w lb : Nat) (back : Bool) (x : Line) : Line :=
  let lo : BitVec 256 := BitVec.ofNat 256 (x.toNat % 2 ^ 256)
  let hi : BitVec 256 := BitVec.ofNat 256 (x.toNat / 2 ^ 256)
  let k := w * lb % 256
  if back then (hi.rotateLeft k ++ lo.rotateLeft k : BitVec 512) else (hi.rotateRight k ++ lo.rotateRight k : BitVec 512)

/-- Line i of a tile, as it is stored, in natural order (R87). -/
def naturalLine (d : Dword) (i : Nat) (x : Line) : Line :=
  let w := fmtWidth (dFmt d)
  if dTurn d then turnLine w (i % blockLines w) false x else x

/-- Line i of a tile, in natural order (R87). -/
def tileLine (s : State) (c : Nat) (d : Dword) (i : Nat) : Line := naturalLine d i (sramLine s c (dBase d + i))

/-- Some SEND or HWR of the core is on its way. -/
def sending (s : State) (c : Nat) : Bool :=
  (core s c).movs.any fun r => (iOp r.op.word == 0 || iOp r.op.word == 3) && !r.stopped

/-- Lines of a core are about to change: each is kept as it is, for the reads of a SEND or HWR that lie before the change. -/
def noteSram (c : Nat) (ls : List Nat) (s : State) : State :=
  if sending s c then
    { s with mem := { s.mem with
        sramPast := s.mem.sramPast ++ ls.map fun l => ⟨2 ^ 13 * c + l, s.now, sramLine s c l⟩ } }
  else s

/-- The lines of a tile. -/
def tileLines (d : Dword) : List Nat := (List.range (dLines d)).map (dBase d + ·)

/-- Tiles of a core are about to change. -/
def noteTiles (c : Nat) (ds : List Dword) (s : State) : State := noteSram c (ds.flatMap tileLines) s

/-- A line of a core as a read in cycle u finds it. A write of a bank in that cycle goes before the read (R82); one of the Port
into the gather memory does not, and the read returns what the line held before (R84). -/
def sramSeen (s : State) (c l u : Nat) : Line :=
  match s.mem.sramPast.find? fun p => p.key == 2 ^ 13 * c + l && decide ((if l < 7168 then u + 1 else u) ≤ p.at_) with
  | some p => p.line
  | none => sramLine s c l

/-- Line i of a tile as a read in cycle u finds it, in natural order. -/
def tileSeen (s : State) (c : Nat) (d : Dword) (i u : Nat) : Line := naturalLine d i (sramSeen s c (dBase d + i) u)

/-- The changes of a core's lines need not be kept any longer, once none of its SENDs and HWRs runs. -/
def sramForget (c : Nat) (s : State) : State :=
  if sending s c then s
  else { s with mem := { s.mem with sramPast := s.mem.sramPast.filter fun p => p.key / 2 ^ 13 != c } }

/-- Do now what belongs to cycle t. -/
def atCycle (t : Nat) (f : State → State) (s : State) : State := { f { s with now := t } with now := s.now }

/-- Store line i of a tile, given in natural order. -/
def setTileLine (c : Nat) (d : Dword) (i : Nat) (x : Line) (s : State) : State :=
  let w := fmtWidth (dFmt d)
  setSramLine c (dBase d + i) (if dTurn d then turnLine w (i % blockLines w) true x else x) s

/-! ## Shapes (Tables 4.2, 4.3) -/

/-- The modes of the array (Table 4.1). -/
inductive ArrayMode where
  | square | band | strip | line | quad
  deriving DecidableEq, Repr

/-- A tile shape (Table 4.2): mode, M, N, K step, rows per cell g_r, columns per cell g_c, slots per cell a, problems. -/
structure Shape where
  mode : ArrayMode
  m : Nat
  n : Nat
  k : Nat
  gr : Nat
  gc : Nat
  a : Nat
  problems : Nat
  deriving DecidableEq, Repr

/-- The shape of a shape code. -/
def shapeOf (code : Nat) : Shape :=
  match code with
  | 0 => ⟨.square, 64, 64, 64, 4, 4, 16, 1⟩
  | 1 => ⟨.band, 32, 128, 64, 4, 4, 16, 1⟩
  | 2 => ⟨.strip, 16, 256, 32, 4, 4, 16, 1⟩
  | 3 => ⟨.line, 4, 1024, 16, 4, 4, 16, 1⟩
  | 4 => ⟨.square, 128, 32, 64, 8, 2, 16, 1⟩
  | _ => ⟨.quad, 16, 16, 32, 2, 2, 4, 4⟩

/-- Physical row and column of cell (r, k) of the logical array, or of problem q's quadrant (Table 4.1). -/
def physCell (mode : ArrayMode) (q r k : Nat) : Nat × Nat :=
  match mode with
  | .square => (r, k)
  | .band => (2 * r + k / 16, k % 16)
  | .strip => (4 * r + k / 16, k % 16)
  | .line => (k / 16, k % 16)
  | .quad => (8 * (q / 2) + r, 8 * (q % 2) + k)

/-- Physical rows that make up logical row r of problem q. -/
def physRows (mode : ArrayMode) (q r : Nat) : List Nat :=
  match mode with
  | .square => [r]
  | .band => [2 * r, 2 * r + 1]
  | .strip => (List.range 4).map (4 * r + ·)
  | .line => List.range 16
  | .quad => [8 * (q / 2) + r]

/-- Accumulator slot of output (m, n) of problem q (R114): 16·cell + slot, cell 16·row + column. -/
def accKey (h : Shape) (q m n : Nat) : Nat :=
  let p := physCell h.mode q (m / h.gr) (n / h.gc)
  16 * (16 * p.1 + p.2) + h.gc * (m % h.gr) + n % h.gc

/-- Entries of row m of S of problem q in the stationary and staging registers (R120): 16·physical row + entry. -/
def rowKeys (h : Shape) (q m : Nat) : List Nat :=
  (physRows h.mode q (m / h.gr)).map fun r => 16 * r + (if h.problems = 1 then 0 else h.gr * (q % 2)) + m % h.gr

/-- Products per update d of an element width (R115). -/
def perUpdate (w : Nat) : Nat := 16 / w

/-- K-step cycles C (R116). -/
def stepCycles (code w : Nat) : Nat :=
  let h := shapeOf code
  h.a * h.k / perUpdate w * (if code = 3 then 2 else 1)

/-- Lines of a slice of srcB or srcA (R117). -/
def sliceLinesB (code w : Nat) : Nat := ceilDiv ((shapeOf code).problems * (shapeOf code).m * (shapeOf code).k * w) 512
def sliceLinesA (code w : Nat) : Nat := ceilDiv ((shapeOf code).problems * (shapeOf code).n * (shapeOf code).k * w) 512

/-- Lines that a finishing MMA writes (R118, R121). -/
def dstLines (code w : Nat) : Nat := ceilDiv ((shapeOf code).problems * (shapeOf code).m * (shapeOf code).n * w) 512

/-- Output row m is fed by mask bit `maskBit` (R125). -/
def maskBit (code m : Nat) : Nat :=
  match code with
  | 0 => m / 4
  | 1 => m / 2
  | 2 => m
  | 3 => m
  | 4 => m / 8
  | _ => m

/-- Turned reads permitted (Table 4.7). -/
def turnAllowed (code w : Nat) (isB : Bool) : Bool :=
  match code, w, isB with
  | 0, _, _ => true
  | 1, 4, true => false
  | 1, _, _ => true
  | 2, 16, _ => true
  | 2, 8, false => true
  | 2, _, _ => false
  | 3, _, _ => false
  | 4, 4, false => false
  | 4, _, _ => true
  | 5, 16, _ => true
  | _, _, _ => false

/-! ## Flits (Table 6.2) -/

/-- A flit or token injected by a core. -/
def mkFlit (job : Option Nat) (route : Nat) (colour : BitVec 2) (last : Bool) (payload : Line) : Flit :=
  ⟨job, BitVec.ofNat 6 route, colour, false, last, payload⟩

end Sys2Proof.Machine
end

