-- ==== Sys2Proof/Machine/Monitor.lean ====
section
/-! DEFINITION. The numerics monitor (R151 to R155), the random draws of narrowing (R149, R337 to R339), and the write
of narrowed elements into a tile. -/

namespace Sys2Proof.Machine

open Sys2Proof

/-! ## Random draws -/

/-- A random stream. -/
def rngOf (s : State) (k : Nat) : RngSt := sget (fun _ => RngSt.reset) s.rng k

/-- Set a random stream. -/
def setRng (k : Nat) (x : RngSt) (s : State) : State := { s with rng := sset (fun _ => RngSt.reset) s.rng k x }

/-- Counter of draw i (R338, R339). -/
def drawCounter (r : RngSt) (jobFrames base : Dword) (c pos i : Nat) : Nat :=
  let j := if r.t7 then (jobFrames - base).toNat else jobFrames.toNat
  let native := j * 2 ^ 64 + c * 2 ^ 50 + pos * 2 ^ 24 + i
  if r.t7 then (native + r.base.toNat) % 2 ^ 128 else native

/-- A 128-bit draw (R337). -/
def draw (r : RngSt) (counter : Nat) : Nat := leNat (aesEncB (leBytes 16 r.key.toNat) (leBytes 16 counter))

/-- The rounding of the element with natural index e into a tile (R149). -/
def rndOf (s : State) (c : Nat) (o : QOp) (d : Dword) (e : Nat) : Rnd :=
  if dRnd d then
    let r := rngOf s (dStream d)
    .stoch (bitsOf (draw r (drawCounter r o.jobFrames (sget (fun _ => 0) s.jobBase (iJob o.word)) c o.pos (e / 8))) (16 * (e % 8) + 15) (16 * (e % 8)))
  else .even

/-! ## Counting -/

/-- Largest value of a 48-bit counter. -/
def max48 : Nat := 2 ^ 48 - 1

/-- Key of a live counter: slot and counter code (Table 5.5: 0 total, 1 zero, 2 non-finite, 3 saturation, 4 all_sat,
5 all_nf, 16 + b bin b). -/
def liveKey (m k : Nat) : Nat := 64 * m + k

/-- The counter counts: its slot is enabled, or it is device-wide (R153, R154). -/
def liveCounts (s : State) (key : Nat) : Bool :=
  key == liveKey 0 4 || key == liveKey 0 5 || sget (fun _ => false) s.monOn (key / 64)

/-- Take the counts of a past cycle into the live counters. -/
def liveSettle (s : State) : LiveCounts :=
  { past := (s.live.now.filter fun e => liveCounts s e.1).foldl
      (fun l e => sset (fun _ => 0) l e.1 (min max48 (sget (fun _ => 0) l e.1 + e.2))) s.live.past,
    now := [], cycle := s.now }

/-- The live counters with the counts of the present cycle apart: those belong to the new frame, and to the new enables,
where the cycle is that of a frame boundary (R153). -/
def liveOf (s : State) : LiveCounts := if s.live.cycle = s.now then s.live else liveSettle s

/-- Add n to live counter k of slot m. -/
def liveAdd (m k n : Nat) (s : State) : State :=
  let l := liveOf s
  { s with live := { l with now := sset (fun _ => 0) l.now (liveKey m k) (sget (fun _ => 0) l.now (liveKey m k) + n) } }

/-- Count one written element (R152, R154): in slot `slot` where it is monitored, and device-wide. -/
def countElem (slot : Option Nat) (e : ElemOut) (s : State) : State :=
  let s := if e.sat then liveAdd 0 4 1 s else s
  let s := if e.nonfin then liveAdd 0 5 1 s else s
  match slot with
  | none => s
  | some m =>
    let s := liveAdd m 0 1 s
    let s := if e.sat then liveAdd m 3 1 s else s
    if e.nonfin then liveAdd m 2 1 s
    else
      match e.lg with
      | none => liveAdd m 1 1 s
      | some l => liveAdd m (16 + histBin (field (reg s 0x1A m 0x40) 7 0) l) 1 s

/-- The monitor slot of a tile (R151). -/
def monSlot (d : Dword) : Option Nat := if dMonEn d then some (dMon d) else none

/-- A narrowed element as it will be written; the monitor takes its decoded value. -/
def elemOut (code e : Nat) (n : Narrowed) : ElemOut :=
  ⟨e, n.bits, n.saturated, n.nonFinite, if n.nonFinite then none else (decodeElem code n.bits).flog2?⟩

/-- Write the elements of a tile and count those that are counted. -/
def writeElems (c : Nat) (d : Dword) (counted : Bool) : List ElemOut → State → State
  | [], s => s
  | e :: t, s =>
    let w := fmtWidth (dFmt d)
    let s := putBits c (elemBit d w e.idx) w e.bits s
    writeElems c d counted t (if counted then countElem (monSlot d) e s else s)

/-- Write each of some tiles. -/
def writeTiles (c : Nat) : List TileOut → State → State
  | [], s => s
  | o :: t, s => writeTiles c t (writeElems c o.desc o.counted o.elems s)

/-! ## What the core units share -/

/-- Nothing begins on the core: it is frozen or in reset (R440, R377). -/
def coreHalted (s : State) (c : Nat) : Bool := coreFrozen s c || coreInReset s c

/-- The descriptor that an operation took for a tag at its issue. -/
def opDesc (o : QOp) (tag : Nat) : Dword :=
  match o.descs.find? (·.tag == tag) with
  | some d => d.desc
  | none => 0

/-! ## Bank arbitration (R80 to R82, R84, R225) -/

/-- Rank of a requester in Table 3.2, or in Table 8.1. -/
def userRank : BankUser → Nat
  | .netIn _ => 1
  | .portIn => 2
  | .arrayOut => 3
  | .vecOut => 4
  | .streaming => 5
  | .stationary => 5
  | .scale _ => 5
  | .vecIn _ => 6
  | .netOut _ => 7
  | .portOut => 7
  | .spill _ => 8
  | .hrd _ => 1
  | .hwr _ => 2
  | .moveLand => 3
  | .moveRead => 4
  | .hubOther _ => 5

/-- Place within a rank: plane 0 before 1, source A before B, the lower cluster ID first (R82, R225). -/
def userPlace : BankUser → Nat
  | .netIn p => p
  | .stationary => 1
  | .scale b => bit01 b
  | .vecIn k => k
  | .netOut p => p
  | .hrd k => k
  | .hwr k => k
  | _ => 0

/-- The requester writes. -/
def userWrites : BankUser → Bool
  | .netIn _ => true
  | .portIn => true
  | .arrayOut => true
  | .vecOut => true
  | .spill w => w
  | .hwr _ => true
  | .moveLand => true
  | .hubOther w => w
  | _ => false

/-- The requester is one of a hub cache. -/
def userOfHub : BankUser → Bool
  | .hrd _ => true
  | .hwr _ => true
  | .moveLand => true
  | .moveRead => true
  | .hubOther _ => true
  | _ => false

/-- The requester is a port of the vector unit. -/
def userOfVec : BankUser → Bool
  | .vecOut => true
  | .vecIn _ => true
  | _ => false

/-- The requester is the network: landing flits, sends, the spill engine. -/
def userOfNet : BankUser → Bool
  | .netIn _ => true
  | .netOut _ => true
  | .spill _ => true
  | _ => false

/-- Bank of a request: 0 to 13 of core SRAM, 14 the read port of the gather memory; h mod 256 of a hub cache (R224). -/
def reqBank (q : BankReq) : Nat := if userOfHub q.user then q.line % 256 else q.line / 512

/-- Two reads of one line in one form, or of one row or column of one block, merge (R81, R225). -/
def mergesWith (a b : BankReq) : Bool :=
  !userWrites a.user && !userWrites b.user && a.line == b.line && a.form == b.form

/-- Place in the order of R82 or R225. Where Table 3.2 gives two requesters one place, the one listed first goes first: a free
choice of the command (log entry 76). -/
def bankOrder (q : BankReq) : Nat := 1024 * userRank q.user + userPlace q.user

/-- The request that a bank serves: the first of the least order. -/
def bankServes (k : Nat) : List BankReq → Option BankReq
  | [] => none
  | q :: t =>
    match bankServes k t with
    | none => if reqBank q = k then some q else none
    | some r => if reqBank q = k ∧ bankOrder q ≤ bankOrder r then some q else some r

/-- The request is served in a cycle with these requests: its bank's winner, or merged with it. -/
def bankServed (ps : List BankReq) (q : BankReq) : Bool :=
  match bankServes (reqBank q) ps with
  | some r => q == r || mergesWith q r
  | none => false

/-- A request of an instruction under way: the cycle in which its port first makes it, and the first cycle in which the cells
need its data, where they wait for it. -/
structure Want where
  at_ : Nat
  need : Option Nat
  req : BankReq
  deriving DecidableEq, Repr

/-- The banks while an instruction runs: the present cycle, the requests of others that retry, the requests that each port of
the instruction has yet to make, those served with their cycles (the last first), requests served by merging with another, retry
cycles, cycles in which the cells waited, and the first cycle of an MMA's last K step. -/
structure BankRun where
  cycle : Nat
  held : List BankReq
  ports : List (List Want)
  served : List (Nat × BankReq)
  merged : Nat
  retries : Nat
  waits : Nat
  lastStep : Nat
  deriving DecidableEq, Repr

/-- The request at the head of a port, where it is due. -/
def portHead (t : Nat) (l : List Want) : Option BankReq :=
  match l with
  | [] => none
  | w :: _ => if w.at_ ≤ t then some w.req else none

/-- A port once cycle t is over: a request served leaves it. -/
def portNext (t : Nat) (ps : List BankReq) (l : List Want) : List Want :=
  match portHead t l with
  | some q => if bankServed ps q then l.tail else l
  | none => l

/-- The cells need the data of a port's head in the next cycle, and the buffer holds none (R123). -/
def portDry (t : Nat) (l : List Want) : Bool :=
  match l with
  | [] => false
  | w :: _ => match w.need with | some n => decide (n ≤ t + 1) | none => false

/-- The cells wait one cycle: what lies after cycle t comes a cycle later. -/
def wantLater (t : Nat) (w : Want) : Want :=
  { w with at_ := if t < w.at_ then w.at_ + 1 else w.at_, need := w.need.map fun n => if t < n then n + 1 else n }

/-- One cycle of the banks, with the requests of others that are new in it (R80 to R82, R123). DESIGN CHOICE (log entry 76):
CORE_MERGE counts the requests of a merged group without the one that wins the bank, whose access it is. -/
def bankCycle (new : List BankReq) (b : BankRun) : BankRun :=
  let t := b.cycle
  let mine := b.ports.filterMap (portHead t)
  let others := b.held ++ new
  let ps := others ++ mine
  let own := ps.filter (·.own)
  let done := mine.filter (bankServed ps)
  let ports := b.ports.map (portNext t ps)
  let wait := ports.any (portDry t)
  { cycle := t + 1,
    held := others.filter fun q => !bankServed ps q,
    ports := if wait then ports.map fun l => l.map (wantLater t) else ports,
    served := done.map (fun q => (t, q)) ++ b.served,
    merged := b.merged + (own.filter fun q => bankServed ps q && bankServes (reqBank q) ps != some q).length,
    retries := b.retries + (own.filter fun q => !bankServed ps q).length,
    waits := b.waits + bit01 wait,
    lastStep := if wait && decide (t + 1 ≤ b.lastStep) then b.lastStep + 1 else b.lastStep }

/-- The cycle in which something happens next: where nothing retries and no others come, that of the next request. -/
def bankSkip (rest : List (List BankReq)) (b : BankRun) : BankRun :=
  if b.held.isEmpty && rest.isEmpty then
    match b.ports.filterMap fun l => l.head?.map (·.at_) with
    | [] => b
    | a :: l => { b with cycle := max b.cycle (l.foldl min a) }
  else b

/-- The banks over some cycles: requests not served retry in the next cycle, with their rank (R82). -/
def bankRun : Nat → List (List BankReq) → BankRun → BankRun
  | 0, _, b => b
  | n + 1, new, b => bankRun n new.tail (bankCycle (new.headD []) (bankSkip new b))

/-- The banks from cycle t on, with the ports of an instruction and the requests of others. -/
def bankFrom (t lastStep : Nat) (ports : List (List Want)) (e : BankEvents) : BankRun :=
  bankRun (e.arrivals.length + e.arrivals.flatten.length + ports.flatten.length) e.arrivals ⟨t, [], ports, [], 0, 0, 0, lastStep⟩

/-- What the banks made of the requests of a unit whose cycles the spec does not give: those marked as its own that are its
own ports' (log entry 76). -/
def bankCount (mine : BankUser → Bool) (e : BankEvents) : BankRun :=
  bankFrom 0 0 [] ⟨e.arrivals.map fun l => l.map fun q => { q with own := q.own && mine q.user }⟩

/-- The cycles in which the requests of one port were served, in order. -/
def servedAt (b : BankRun) (mine : BankUser → Bool) : List Nat :=
  (b.served.reverse.filter fun e => mine e.2.user).map (·.1)

/-- What the banks made of an instruction's requests, counted (R81, R82). -/
def countBanks (c : Nat) (b : BankRun) (s : State) : State :=
  bump48 5 c 0x60 0 b.merged none (bump48 5 c 0x68 0 b.retries none s)

/-- A request for line `line` of core SRAM by a port of the instruction under way. -/
def want (user : BankUser) (line at_ : Nat) : Want := ⟨at_, none, ⟨user, line, none, true⟩⟩

/-- Core SRAM reads of an instruction are checked (R85): a corrected error is reported; an uncorrectable one freezes
the core. -/
def sramCheck (c : Nat) (ecc : Ecc) (s : State) : State :=
  match ecc with
  | .ok => s
  | .corrected l => raiseCe 5 c 0 l s
  | .uncorrectable l => raise 5 c 1 1 l (.core c) s

/-- The read withheld its data (R85). -/
def dataWithheld : Ecc → Bool
  | .uncorrectable _ => true
  | _ => false

/-- Core SRAM reads of an instruction are checked, line by line. -/
def sramChecks (c : Nat) : List Ecc → State → State
  | [], s => s
  | e :: t, s => sramChecks c t (sramCheck c e s)

/-- A read withheld its data. -/
def anyWithheld (l : List Ecc) : Bool := l.any dataWithheld

/-- Set each of some tags valid in cycle t. -/
def setTags (t : Nat) : List Nat → Core → Core
  | [], x => x
  | k :: r, x => setTags t r (setTag t k x)

/-- Clear each of some tags in cycle t. -/
def clearTags (t : Nat) : List Nat → Core → Core
  | [], x => x
  | k :: r, x => clearTags t r (clearTag t k x)

end Sys2Proof.Machine
end

