-- ==== Sys2Proof/Machine/Checks.lean ====
section
/-! DEFINITION. The checks that the sequencer makes in an instruction's issue cycle: tile checks (R92), scale formats
(R91), MMA checks (R118, R139, R99, R124), vector checks (R100, R142, R205, R214) and ring checks (R198, R200). -/

namespace Sys2Proof.Machine

open Sys2Proof

/-- A failed check: ERR_SUM bit of the CORE page and tag of the detail; `illegal` takes its detail from the program
counter (Table 3.18). -/
inductive Fail where
  | illegal
  | tile (bit tag : Nat)
  | ringFull (tag : Nat)
  | retiredRead (tag : Nat)
  deriving DecidableEq, Repr

/-- The first failure of a list of checks. -/
def firstFail : List (Option Fail) → Option Fail
  | [] => none
  | some f :: _ => some f
  | none :: t => firstFail t

/-- `f` unless `p` holds. -/
def need (p : Bool) (f : Fail) : Option Fail := if p then none else some f

/-! ## Tags an instruction uses -/

/-- The optimiser routines (Table 7.6): imm 1 SGDM, 2 ADAMW, 3 LION. -/
def ucallKnown (imm : Nat) : Bool := decide (1 ≤ imm) && decide (imm ≤ 3)

/-- Moment tags that a routine uses, from s[sreg] (R214). -/
def ucallMoments (w : Dword) (sv : Word) : List Nat :=
  if !ucallKnown (vecImm w) then []
  else if vecImm w = 2 then [field sv 8 0, field sv 17 9] else [field sv 8 0]

/-- Hyperparameter tag. -/
def ucallHyper (sv : Word) : Nat := field sv 26 18

/-- The tag and, where its tile is MX and tag + 1 exists, its scale tag (R91, R92). -/
def withScale (x : Core) (tag : Nat) : List Nat :=
  if fmtMx (dFmt (tileOf x tag)) && decide (tag < 511) then [tag, tag + 1] else [tag]

/-- Sources of the VEC op, without moments. -/
def vecSources (w : Dword) : List Nat :=
  vecA w :: ((if vecUsesB (iOp w) then [vecB w] else []) ++ (if iOp w = 5 then [vecDst w] else []))

/-- Source tags whose valid bits the issue selector checks (R101 item 2). -/
def sourceTags (x : Core) (w : Dword) : List Nat :=
  match iClass w with
  | 1 => withScale x (mmaA w) ++ withScale x (mmaB w)
  | 2 => (vecSources w).flatMap (withScale x)
  | 3 => if iOp w = 0 ∨ iOp w = 3 then [movTag w] else []
  | 6 => if iOp w = 2 then [tagTag w] else []
  | _ => []

/-- Tags that an instruction reads, for the rings (R198). -/
def readTags (x : Core) (w : Dword) (sv : Word) : List Nat :=
  match iClass w with
  | 1 => withScale x (mmaA w) ++ withScale x (mmaB w)
  | 2 => (vecSources w).flatMap (withScale x) ++
      (if iOp w = 0x20 then ucallMoments w sv ++ [ucallHyper sv] else [])
  | 3 => if iOp w = 0 ∨ iOp w = 3 then [movTag w] else []
  | _ => []

/-- Tags that an instruction writes, for the rings (R198). -/
def writeTags (w : Dword) (sv : Word) : List Nat :=
  match iClass w with
  | 1 => if mmaFin w then [mmaDst w] else []
  | 2 =>
    if iOp w = 0x20 then [vecB w] ++ ucallMoments w sv ++ [vecDst w]
    else if iOp w = 0x21 then [vecB w, vecDst w] ++ (if vecDst w < 511 then [vecDst w + 1] else [])
    else [vecDst w]
  | 3 => if iOp w = 1 ∨ iOp w = 2 then [movTag w] else []
  | 4 => if iOp w = 2 then [scalTag w] else []
  | _ => []

/-! ## R92 -/

/-- The three rules of R92 on one tag. -/
def checkTag (c : Nat) (x : Core) (tag : Nat) (written : Bool) : Option Fail :=
  let d := tileOf x tag
  let w := fmtWidth (dFmt d)
  let inBanks := decide (dBase d + dLines d ≤ 7168)
  let inGather := isAttachment c && decide (7168 ≤ dBase d) && decide (dBase d + dLines d ≤ 7304)
  firstFail
    [ need (decide (dLines d ≠ 0) && (inBanks || (inGather && !written))) (.tile 9 tag),
      need (inGather || decide (dBase d + dLines d ≤ 6912)) (.tile 8 tag),
      need (!dTurn d || (inBanks && (w == 16 || w == 8 || w == 4) && !fmtReserved (dFmt d) && dBase d % blockLines w == 0
        && dLines d % blockLines w == 0)) (.tile 10 tag) ]

/-- The tags that R92 checks, in its order, each with whether the instruction writes it. -/
def tilesChecked (x : Core) (w : Dword) (sv : Word) : List (Nat × Bool) :=
  let r := fun t => (t, false)
  match iClass w with
  | 1 =>
    (withScale x (mmaA w) ++ withScale x (mmaB w)).map r ++ (if mmaFin w then [(mmaDst w, true)] else [])
  | 2 =>
    let op := iOp w
    let inPlace := op = 0x20 ∨ op = 0x21
    (withScale x (vecA w)).map r ++
      (if vecUsesB op then (vecB w, decide inPlace) :: ((withScale x (vecB w)).drop 1).map r else []) ++
      (if op = 0x20 then (ucallMoments w sv).map (fun t => (t, true)) ++ [(ucallHyper sv, false)] else []) ++
      [(vecDst w, true)] ++ (if op = 0x21 then ((withScale x (vecDst w)).drop 1).map (fun t => (t, true)) else [])
  | 3 =>
    if iOp w = 0 ∨ iOp w = 3 then [(movTag w, false)] else if iOp w = 1 ∨ iOp w = 2 then [(movTag w, true)] else []
  | _ => []

/-- R91: the scale tag exists and has fmt 0xB. -/
def checkScale (x : Core) (tag : Nat) : Option Fail :=
  need (!fmtMx (dFmt (tileOf x tag)) || (decide (tag < 511) && dFmt (tileOf x (tag + 1)) == 0xB)) (.tile 9 tag)

/-- Tiles whose scale formats R91 checks. DESIGN CHOICE (log entry 85): the sources of an MMA or VEC and the dst of a QCRUMB, which
use a scale tile; an MX dst of another op, or an MX moment of a UCALL, has none to use and fails the format checks. -/
def scaleChecked (w : Dword) : List Nat :=
  match iClass w with
  | 1 => [mmaA w, mmaB w]
  | 2 => vecA w :: ((if vecUsesB (iOp w) then [vecB w] else []) ++ (if iOp w = 0x21 then [vecDst w] else []))
  | _ => []

/-! ## MMA -/

/-- R118 item 1: slices of both sources, and lines of dst. DESIGN CHOICE (log entry 74): where both sources lack slices, srcB, which
the item names first, gives the detail. -/
def mmaLines (x : Core) (w : Dword) : Option Fail :=
  let da := tileOf x (mmaA w)
  let db := tileOf x (mmaB w)
  let dd := tileOf x (mmaDst w)
  let h := mmaShape w
  firstFail
    [ need (decide (mmaSteps w * sliceLinesB h (fmtWidth (dFmt db)) ≤ dLines db)) (.tile 9 (mmaB w)),
      need (decide (mmaSteps w * sliceLinesA h (fmtWidth (dFmt da)) ≤ dLines da)) (.tile 9 (mmaA w)),
      need (!mmaFin w || decide (dstLines h (fmtWidth (dFmt dd)) ≤ dLines dd)) (.tile 9 (mmaDst w)) ]

/-- Reduction length K (R112). -/
def mmaK (w : Dword) : Nat := mmaSteps w * (shapeOf (mmaShape w)).k

/-- X of R138: rows of S, or columns of T; 64 in TS5. -/
def scaleX (shape : Nat) (isB : Bool) : Nat :=
  if shape = 5 then 64 else if isB then (shapeOf shape).m else (shapeOf shape).n

/-- R139 on one source: a short scale tile names the tile that it scales (log entry 42). -/
def mmaScale (x : Core) (w : Dword) (tag : Nat) (isB : Bool) : Option Fail :=
  if fmtMx (dFmt (tileOf x tag)) then
    firstFail
      [ need (mmaK w % 32 == 0) .illegal,
        need (decide (mmaK w / 32 * ceilDiv (scaleX (mmaShape w) isB) 64 ≤ dLines (tileOf x (tag + 1)))) (.tile 9 tag) ]
  else none

/-- The sources of an MMA are integer. -/
def mmaInt (x : Core) (w : Dword) : Bool := fmtInt (dFmt (tileOf x (mmaB w)))

/-- R118 items 2 to 4. -/
def mmaRules (x : Core) (w : Dword) : Option Fail :=
  let fa := dFmt (tileOf x (mmaA w))
  let fb := dFmt (tileOf x (mmaB w))
  let fd := dFmt (tileOf x (mmaDst w))
  let h := mmaShape w
  firstFail
    [ need (!mmaFin w || (if mmaInt x w then [8, 9, 0xA].contains fd else [0, 1, 2, 3, 4].contains fd)) .illegal,
      need (!mmaTurnA w || turnAllowed h (fmtWidth fa) false) .illegal,
      need (!mmaTurnB w || turnAllowed h (fmtWidth fb) true) .illegal,
      need (!mmaAcc w || x.lastMma == some ⟨h, iJob w, mmaInt x w⟩) .illegal ]

/-- A format that an MMA source may have (R99). -/
def mmaSourceFmt (code : Nat) : Bool := decide (1 ≤ code) && decide (code ≤ 9)

/-- A turned source's slices are whole turn blocks (R124). -/
def wholeBlocks (d : Dword) (x k : Nat) : Bool :=
  let n := blockSide (fmtWidth (dFmt d))
  !dTurn d || (x % n == 0 && k % n == 0)

/-- R99, with R124's whole blocks. DESIGN CHOICE (log entry 74): R92 gives whole blocks no place; they come last. -/
def mmaFormats (x : Core) (w : Dword) : Option Fail :=
  let da := tileOf x (mmaA w)
  let db := tileOf x (mmaB w)
  let h := shapeOf (mmaShape w)
  firstFail
    [ need (mmaSourceFmt (dFmt da) && mmaSourceFmt (dFmt db)) .illegal,
      need (fmtWidth (dFmt da) == fmtWidth (dFmt db) && fmtInt (dFmt da) == fmtInt (dFmt db)) .illegal,
      need (!mmaTurnA w || dTurn da) (.tile 10 (mmaA w)),
      need (!mmaTurnB w || dTurn db) (.tile 10 (mmaB w)),
      need (wholeBlocks da h.n h.k) (.tile 10 (mmaA w)),
      need (wholeBlocks db h.m h.k) (.tile 10 (mmaB w)) ]

/-! ## VEC -/

/-- R205: the operands of QCRUMB. -/
def qcrumbRules (x : Core) (w : Dword) : Option Fail :=
  let da := tileOf x (vecA w)
  let db := tileOf x (vecB w)
  let dd := tileOf x (vecDst w)
  let ds := tileOf x (vecDst w + 1)
  firstFail
    [ need (dFmt da == 0 && dFmt db == 1 && dFmt dd == 6) .illegal,
      need (dElems da == dElems db && dElems da == dElems dd && dElems da % 32 == 0) .illegal,
      need (decide (dElems da / 32 ≤ 64 * dLines ds)) (.tile 9 (vecDst w + 1)) ]

/-- R214: the operands of UCALL. -/
def ucallRules (x : Core) (w : Dword) (sv : Word) : Option Fail :=
  let e := dElems (tileOf x (vecA w))
  firstFail
    [ need (ucallKnown (vecImm w) && field sv 31 27 == 0) .illegal,
      need (dFmt (tileOf x (vecA w)) == 0 && dFmt (tileOf x (vecB w)) == 0
        && [1, 2, 3, 4].contains (dFmt (tileOf x (vecDst w)))
        && (ucallMoments w sv).all (fun t => dFmt (tileOf x t) == 0) && dFmt (tileOf x (ucallHyper sv)) == 0) .illegal,
      need ((vecB w :: vecDst w :: ucallMoments w sv).all fun t => dElems (tileOf x t) == e) .illegal ]

/-- R100, R142: the formats and counts of a vector instruction. -/
def vecRules (x : Core) (w : Dword) (sv : Word) : Option Fail :=
  let op := iOp w
  let ds := vecDst w :: vecA w :: (if vecUsesB op then [vecB w] else [])
  let fmts := ds.map fun t => dFmt (tileOf x t)
  let e := dElems (tileOf x (vecA w))
  if fmts.any fmtReserved then some .illegal
  else if op = 0x20 then ucallRules x w sv
  else if op = 0x21 then qcrumbRules x w
  else if fmts.any (fun f => fmtMx f || f == 0xB) then some .illegal
  else if op = 0x10 ∨ op = 0x11 then need (decide (ceilDiv e 64 ≤ dElems (tileOf x (vecDst w)))) .illegal
  else need (ds.all fun t => dElems (tileOf x t) == e) .illegal

/-! ## Rings (R196 to R201) -/

/-- The member slot that a tag is. -/
def ringSlot (x : Core) (tag : Nat) : Option RingSlot := x.slots.find? (·.tag == tag)

/-- Replace a member slot. -/
def setSlot (y : RingSlot) (x : Core) : Core :=
  { x with slots := x.slots.map fun z => if z.tag == y.tag then y else z }

/-- A queued or begun operation reads a tag. -/
def opReads (x : Core) (o : QOp) (tag : Nat) : Bool := (readTags x o.word o.scalar).contains tag

/-- An instruction in a queue or executing reads the tag (R198, R199). -/
def readInFlight (x : Core) (tag : Nat) : Bool :=
  x.arrayQ.any (opReads x · tag) || (match x.array with | some r => opReads x r.op tag | none => false) ||
  x.vecQ.any (opReads x · tag) || x.vecs.any (fun r => opReads x r.op tag) ||
  x.movQ.any (opReads x · tag) || x.movs.any (fun r => opReads x r.op tag)

/-- The member slots as the issue selector sees them in cycle t: a change made in cycle c is seen from c + 1 (R93, R198). -/
def seenSlots (x : Core) (t : Nat) : List RingSlot := if x.ringAt = t + 1 then x.ringSlots else x.slots

/-- The member slot that a tag is, as seen in cycle t. -/
def seenSlot (x : Core) (t tag : Nat) : Option RingSlot := (seenSlots x t).find? (·.tag == tag)

/-- A read of the tag is in flight, as seen in cycle t. -/
def seenRead (x : Core) (t tag : Nat) : Bool := if x.ringAt = t + 1 then x.ringReads.contains tag else readInFlight x tag

/-- A completion of cycle t is about to change slots or end reads: keep what the issue selector sees in cycle t. -/
def noteRing (t : Nat) (x : Core) : Core :=
  if x.ringAt = t + 1 then x
  else { x with ringAt := t + 1, ringSlots := x.slots, ringReads := (x.slots.map (·.tag)).filter (readInFlight x) }

/-- Table 7.3, read. -/
def checkRead (x : Core) (t tag : Nat) : Option Fail :=
  match seenSlot x t tag with
  | none => none
  | some y => need (y.st == .current || y.st == .old) (.retiredRead tag)

/-- Table 7.3, write. -/
def checkWrite (x : Core) (t tag : Nat) : Option Fail :=
  match seenSlot x t tag with
  | none => none
  | some y =>
    match y.st with
    | .free => none
    | .filling => none
    | .current => need (y.readers == 0 && !seenRead x t tag) (.ringFull tag)
    | .old => some (.ringFull tag)

/-- A stamp register. -/
def stampOf (x : Core) (i : Nat) : Option Stamp := x.stamps.find? (·.idx == i)

/-- Table 7.3 and R200 for the VER instructions. -/
def checkVer (x : Core) (t : Nat) (w : Dword) : Option Fail :=
  let tag := tagTag w
  let n := verRing w
  match iOp w, seenSlot x t tag with
  | 2, none => need (decide (((seenSlots x t).filter (·.ring == n)).length < 4)) (.ringFull tag)
  | 2, some y => need (y.ring == n && y.st == .filling) (.ringFull tag)
  | 0, none => some (.retiredRead tag)
  | 0, some y => need (y.ring == n && y.st == .current && (stampOf x (verStamp w)).isNone) (.retiredRead tag)
  | _, none => some (.retiredRead tag)
  | _, some y =>
    need (y.ring == n && (y.st == .current || y.st == .old) &&
      (match stampOf x (verStamp w) with
        | some q => q.ring == n && q.tag == tag && q.ver == y.ver
        | none => false)) (.retiredRead tag)

/-- All ring checks of an instruction: reads, then writes. -/
def ringChecks (x : Core) (t : Nat) (w : Dword) (sv : Word) : Option Fail :=
  if iClass w = 6 then checkVer x t w
  else firstFail ((readTags x w sv).map (checkRead x t) ++ (writeTags w sv).map (checkWrite x t))

/-! ## All of them, in the order of R92 -/

/-- The first failing check of an instruction in its issue cycle t. -/
def issueChecks (c : Nat) (x : Core) (t : Nat) (w : Dword) : Option Fail :=
  let sv := sregOf x (vecSreg w)
  firstFail
    [ firstFail ((tilesChecked x w sv).map fun p => checkTag c x p.1 p.2),
      firstFail ((scaleChecked w).map (checkScale x)),
      (match iClass w with
        | 1 => firstFail [mmaLines x w, mmaScale x w (mmaA w) false, mmaScale x w (mmaB w) true, mmaRules x w, mmaFormats x w]
        | 2 => vecRules x w sv
        | _ => none),
      ringChecks x t w sv ]

/-! ## What the rings do -/

/-- A write issues: the slot goes to FILLING (Table 7.3). -/
def ringWrite (x : Core) (tag : Nat) : Core :=
  match ringSlot x tag with
  | some y => setSlot { y with st := .filling } x
  | none => x

/-- Slots that are OLD with no reader and no read in flight become FREE (R199). -/
def retireSlots (x : Core) : Core :=
  { x with slots := x.slots.map fun y =>
      if y.st == .old && y.readers == 0 && !readInFlight x y.tag then { y with st := .free } else y }

/-- VPUB: the slot becomes CURRENT with the ring's next tag, another CURRENT slot becomes OLD (R197, Table 7.3). -/
def ringPublish (tag n : Nat) (x : Core) : Core :=
  let v := sget (fun _ => (0xFF : Byte)) x.ringLast n + 1
  let demoted := x.slots.map fun y => if y.ring == n && y.st == .current then { y with st := .old } else y
  let y : RingSlot := ⟨tag, n, .current, v, 0⟩
  let slots := if demoted.any (·.tag == tag) then demoted.map fun z => if z.tag == tag then y else z else demoted ++ [y]
  retireSlots { x with slots := slots, ringLast := sset (fun _ => (0xFF : Byte)) x.ringLast n v }

/-- VREAD: one more reader, and the stamp (R200). -/
def ringVread (tag n st : Nat) (x : Core) : Core :=
  match ringSlot x tag with
  | some y => { setSlot { y with readers := y.readers + 1 } x with stamps := x.stamps ++ [⟨st, n, tag, y.ver⟩] }
  | none => x

/-- VDONE: one reader fewer, the stamp invalid, retirement check (R199, R200). -/
def ringVdone (tag st : Nat) (x : Core) : Core :=
  match ringSlot x tag with
  | some y =>
    retireSlots { setSlot { y with readers := y.readers - 1 } x with stamps := x.stamps.filter (·.idx != st) }
  | none => x

end Sys2Proof.Machine
end

