-- ==== Sys2Proof/Machine/Windows.lean ====
section
/-! DEFINITION. Reads of HBM lines with their causes (R242, R243). -/

namespace Sys2Proof.Machine

open Sys2Proof

/-- A window that a staging lock covers (R65). -/
def windowLocked (s : State) (w : Nat) : Bool :=
  s.sched.lockWin == some w || (match s.sched.active with | some im => im.window == w | none => false)

/-- Count a line read from a stack. -/
def countHbmRead (stack : Nat) (s : State) : State := bump48 7 stack 0x60 0 1 (some (6, 3)) s

/-- A corrected line: counted, hbm_ce raised (R242). -/
def hbmCorrected (stack line : Nat) (s : State) : State :=
  raiseCe 7 stack 0 (pseudoOf stack line) (bump32 7 stack 0x4C 0 1 (some (6, 0)) s)

/-- An uncorrectable line at an address (R243): counted, its first address recorded, hbm_ue raised against the master
that `r` names. -/
def hbmUncorrectable (a stack line : Nat) (scrub : Bool) (r : Resp) (s : State) : State :=
  let s := bump32 7 stack 0x50 0 1 (some (6, 1)) s
  let s := noteRecord (regKey 7 stack 0x5C 0) 0
    [(regKey 7 stack 0x5C 0, BitVec.ofNat 32 (2 ^ 31 + a / 2 ^ 32 % 256)), (regKey 7 stack 0x58 0, BitVec.ofNat 32 a)] s
  raise 7 stack 1 1 (pseudoOf stack line + 32 * bit01 scrub) r s

/-- Command or address parity errors of one access to a line: each reissues the command and counts in HBM_CAPAR_CNT
(R238, R251). -/
def hbmParity (stack line : Nat) : SymErrs → State → State
  | [], s => s
  | .parity :: t, s => hbmParity stack line t (raiseCe 7 stack 2 (pseudoOf stack line) (bump32 7 stack 0x54 0 1 (some (6, 2)) s))
  | .symbol _ _ :: t, s => hbmParity stack line t s

/-- What the access to line i of a command meets. -/
def lineErrs (errs : List (Nat × SymErrs)) (i : Nat) : SymErrs := ((errs.find? fun e => e.1 == i).map (·.2)).getD []

/-- Read the line at a physical address with the errors of this read: the plaintext, or none where it is
uncorrectable, with the reader stopped as `r` says (R242, R243). -/
def hbmRead (a : Nat) (errs : SymErrs) (r : Resp) (s : State) : Option (List Byte) × State :=
  let p := hbmPlace s a
  let s' := countHbmRead p.1 (hbmParity p.1 p.2 errs s)
  match rsDecode (hbmSymbols s p.1 p.2 errs) with
  | .good syms => (some (hbmPlain s a syms), s')
  | .corrected syms => (some (hbmPlain s a syms), hbmCorrected p.1 p.2 s')
  | .bad => (none, hbmUncorrectable a p.1 p.2 false r s')

/-- Count the lines that the Crest reads of `n` lines from a line address, granule by granule (R229, R251). -/
def countCrest (a n : Nat) (s : State) : State :=
  (List.range (ceilDiv (a % 4096 + 64 * n) 4096)).foldl (fun s g =>
    let lo := max a (4096 * (a / 4096 + g))
    let hi := min (a + 64 * n) (4096 * (a / 4096 + g + 1))
    if hbmExists s lo then bump48 7 (hbmPlace s lo).1 0x60 0 ((hi - lo) / 64) (some (6, 3)) s else s) s

/-- Line k of a list of extents (line address, lines). -/
def extentLine : List (Nat × Nat) → Nat → Option Nat
  | [], _ => none
  | (a, n) :: t, k => if k < n then some (a + 64 * k) else extentLine t (k - n)

/-- One line of a read by the Crest or Trotos, with its errors, after those before it. -/
def crestStep (exts : List (Nat × Nat)) (r : Bool × State) (e : Nat × SymErrs) : Bool × State :=
  match extentLine exts e.1 with
  | some a =>
    if hbmExists r.2 a && !isHubAddr a then
      let p := hbmPlace r.2 a
      let s := hbmParity p.1 p.2 e.2 r.2
      match rsDecode (hbmSymbols s p.1 p.2 e.2) with
      | .good _ => (r.1, s)
      | .corrected _ => (r.1, hbmCorrected p.1 p.2 s)
      | .bad => (false, hbmUncorrectable a p.1 p.2 false .none s)
    else r
  | none => r

/-- The Crest or Trotos reads extents of memory; `errs` gives the errors of line k of them (R242, R243). False: a line is
uncorrectable. No master is frozen (DESIGN CHOICE, log entry 48). -/
def crestRead (exts : List (Nat × Nat)) (errs : List (Nat × SymErrs)) (s : State) : Bool × State :=
  errs.foldl (crestStep exts) (true, exts.foldl (fun s x => countCrest x.1 x.2 s) s)

end Sys2Proof.Machine
end

