-- ==== Sys2Proof/Machine/Sequencer.lean ====
section
/-! DEFINITION. The sequencer of a core (R95 to R103): fetch, readiness, the pick, the issue checks, what each
instruction does in its issue cycle, and the instructions that complete in it (CTL, SCAL, TAG, VER). -/

namespace Sys2Proof.Machine

open Sys2Proof

/-! ## Readiness (R101 to R103) -/

/-- The core issues: its page is enabled and its die in use, its partition runs, and it is neither frozen nor in reset.
DESIGN CHOICE (log entry 78): the cores of a Ridge die that a write took out of use (R43) issue nothing. -/
def coreRuns (s : State) (c : Nat) : Bool :=
  (reg s 5 c 8).getLsbD 0 && (reg s 3 (ridgeOf c) 8).getLsbD 0 && (part s (partOf s c)).st == 1 && !coreFrozen s c && !coreInReset s c

/-- Nothing of the job issues on the core in this frame, because the frame is deferred (R397). -/
def heldByDeferral (s : State) (c j : Nat) : Bool :=
  s.energy.deferred && (isTraining s j || (trainingParts s).contains (partOf s c))

/-- The instruction at the head of a stream. -/
def headWord (x : Core) (st : Stream) : Dword := istWord x x.half (streamCode st) (streamOf x st).pc.toNat

/-- The head cycle h of R103: when the instruction is at the head and its sync wait is released. -/
def headCycle (w : Dword) (y : StreamSt) : Option Nat :=
  match iSync w with
  | 0 => some y.head
  | 1 => y.tickRel.map (max y.head)
  | _ => y.frameRel.map (max y.head)

/-- The unit's queue has a free entry (R101 item 3, Table 3.7). -/
def queueRoom (x : Core) (w : Dword) : Bool :=
  match iClass w with
  | 1 => decide (x.arrayQ.length < 2)
  | 2 => decide (x.vecQ.length < 2)
  | 3 => decide (x.movQ.length < 4)
  | _ => true

/-- Every source's valid bit is seen in cycle t. -/
def sourcesSeen (x : Core) (t : Nat) (w : Dword) : Bool := (sourceTags x w).all (tagSeen x t)

/-- A head stands at the head of its stream in cycle t. -/
def atHead (t : Nat) (y : StreamSt) : Bool := y.parked.isNone && decide (y.head ≤ t)

/-- The head of a stream is ready in cycle t (R101). -/
def streamReady (x : Core) (t : Nat) (st : Stream) : Bool :=
  let y := streamOf x st
  let w := headWord x st
  atHead t y && iLegal w &&
  (match headCycle w y with | some h => decide (h ≤ t) | none => false) && sourcesSeen x t w && queueRoom x w

/-- No stream that goes before `st` is ready: B, then F, then U (R102). -/
def picked (x : Core) (t : Nat) : Stream → Bool
  | .b => true
  | .f => !streamReady x t .b
  | .u => !streamReady x t .b && !streamReady x t .f

/-! ## Faults of the issue cycle -/

/-- Detail of a cause that names an instruction: program counter and stream (Table 3.18). -/
def pcDetail (y : StreamSt) (st : Stream) : Nat := y.pc.toNat + 1024 * streamCode st

/-- Raise a failed issue check. -/
def raiseFail (c : Nat) (st : Stream) (f : Fail) (s : State) : State :=
  match f with
  | .illegal => raise 5 c 4 1 (pcDetail (streamOf (core s c) st) st) (.core c) s
  | .tile bit tag => raise 5 c bit 1 tag (.core c) s
  | .ringFull tag => coreSlip c 7 tag 7 s
  | .retiredRead tag => raise 5 c 11 1 tag (.parts [partOf s c]) s

/-- The window check of HRD and HWR passes (R232). -/
def hubAllowed (s : State) (c : Nat) (x : Core) (w : Dword) : Bool :=
  if iClass w = 3 ∧ (iOp w = 2 ∨ iOp w = 3) then
    let n := dLines (tileOf x (movTag w))
    let q := cirqueOfRidge (ridgeOf c)
    decide (movHub w + n ≤ 2 ^ 20) &&
      jobMayAccess s (iJob w) (if iOp w = 2 then 0 else 1) (hubAddr q (movHub w)) (hubAddr q (movHub w) + 64 * n - 1)
  else true

/-! ## What an issue does -/

/-- Pick record of Table 3.16. -/
def pickRecord (pos : Nat) (st : Stream) (job pc : Nat) : Dword :=
  BitVec.ofNat 64 (pos * 2 ^ 40 + streamCode st * 2 ^ 38 + job * 2 ^ 35 + pc * 2 ^ 25)

/-- What a queued instruction takes in its issue cycle. -/
def mkOp (s : State) (x : Core) (t origin : Nat) (w : Dword) : QOp :=
  let sv := sregOf x (vecSreg w)
  { word := w, mask := x.mask, scalar := if iClass w = 3 then sregOf x (movSreg w) else sv,
    descs := (tilesChecked x w sv).map fun p => ⟨p.1, tileOf x p.1⟩,
    jobFrames := sget (fun _ => (0 : Dword)) s.jobFrames (iJob w), pos := t - s.tick.frameAt, issuedAt := t, origin := origin, landed := 0 }

/-- Effect on a stream and the registers of a CTL instruction (Table 3.8). -/
def ctlEffect (t : Nat) (st : Stream) (w : Dword) (x : Core) : Core :=
  let y := streamOf x st
  match iOp w with
  | 1 => setStream st { y with parked := some t } x
  | 2 => setStream st { y with pc := BitVec.ofNat 10 (wbits w 9 0) } x
  | 3 =>
    let a := wbits w 13 10
    let v := sregOf x a - 1
    let x := setSreg a v x
    if v = 0 then x else setStream st { y with pc := BitVec.ofNat 10 (wbits w 9 0) } x
  | 4 => { x with mask := BitVec.ofNat 16 (wbits w 15 0) }
  | _ => x

/-- Effect of a SCAL instruction (Table 3.13). -/
def scalEffect (w : Dword) (x : Core) : Core :=
  let sum := sregOf x (scalA w) + scalImm w
  match iOp w with
  | 0 => setSreg (scalD w) (scalImm w) x
  | 1 => setSreg (scalD w) sum x
  | _ =>
    let d := tileOf x (scalTag w)
    let d' : Dword := BitVec.ofNat 64 (d.toNat - dBase d + sum.toNat % 2 ^ 13)
    { ringWrite x (scalTag w) with tiles := sset (fun _ => (0 : Dword)) x.tiles (512 * bit01 x.half + scalTag w) d' }

/-- Effect of a VER instruction (R200, Table 7.3). -/
def verEffect (w : Dword) (x : Core) : Core :=
  match iOp w with
  | 0 => ringVread (tagTag w) (verRing w) (verStamp w) x
  | 1 => ringVdone (tagTag w) (verStamp w) x
  | _ => ringPublish (tagTag w) (verRing w) x

/-- Put a wire into the fabric. -/
def addWire (y : Wire) (s : State) : State := { s with fab := { s.fab with wires := s.fab.wires ++ [y] } }

/-- The effect of an instruction in its issue cycle t, the stream having moved on. -/
def issueEffect (c t origin : Nat) (st : Stream) (w : Dword) (s : State) : State :=
  let x := core s c
  let sv := sregOf x (vecSreg w)
  match iClass w with
  | 0 =>
    if iOp w = 5 then
      addWire ⟨c, .control, .l, mkFlit (some (iJob w)) (wbits w 13 8) x.colour false (BitVec.ofNat 512 (wbits w 7 0)), t + 1⟩ s
    else modCore c (ctlEffect t st w) s
  | 1 =>
    let o := mkOp s x t origin w
    modCore c (fun x => { (writeTags w sv).foldl ringWrite x with
      arrayQ := x.arrayQ ++ [o], lastMma := some ⟨mmaShape w, iJob w, mmaInt x w⟩ }) s
  | 2 =>
    let o := mkOp s x t origin w
    modCore c (fun x => { (writeTags w sv).foldl ringWrite x with vecQ := x.vecQ ++ [o] }) s
  | 3 =>
    let o := mkOp s x t origin w
    modCore c (fun x => { (writeTags w sv).foldl ringWrite x with movQ := x.movQ ++ [o] }) s
  | 4 => modCore c (scalEffect w) s
  | 5 => modCore c (if iOp w = 0 then setTag t (tagTag w) else clearTag t (tagTag w)) s
  | _ => modCore c (verEffect w) s

/-- Issue: the pick trace (R105), the counters, the charge of class 5 (R390), the next head (R96), the effect. -/
def doIssue (c t : Nat) (st : Stream) (w : Dword) (s : State) : State :=
  let x := core s c
  let y := streamOf x st
  let x := { x with trace := rotl64 x.trace 11 ^^^ pickRecord (t - s.tick.frameAt) st (iJob w) y.pc.toNat,
                    issued := t + 1 }
  let s := setCore c (setStream st { y with pc := y.pc + 1, head := t + 1, tickRel := none, frameRel := none } x) s
  let s := bump48 5 c 0x50 0 1 none s
  let s := bump48 0x16 (1 + iJob w) 0x48 0 1 none s
  issueEffect c t (pcDetail y st) st w (charge (iJob w) 5 1 s)

/-- The head passes its checks and issues, or raises the first that fails (R92, R232). -/
def checkAndIssue (c t : Nat) (st : Stream) (w : Dword) (s : State) : State :=
  let x := core s c
  match issueChecks c x t w with
  | some f => raiseFail c st f s
  | none =>
    if hubAllowed s c x w then doIssue c t st w s
    else raise 6 (cirqueOfRidge (ridgeOf c)) 6 1 (clusterOf c) (.core c) s

/-- What the instruction-store check makes of the word at the head (R97). -/
def fetchCheck (c : Nat) (st : Stream) (ecc : Ecc) (s : State) : State :=
  let x := core s c
  let d := pcDetail (streamOf x st) st + 4096 * bit01 x.half
  match ecc with
  | .ok => s
  | .corrected _ => raiseCe 5 c 2 d s
  | .uncorrectable _ => raise 5 c 3 1 d (.core c) s

/-- The word may issue in cycle t: it is the pick, and nothing has issued in this cycle (R101, R102). -/
def mayIssue (s : State) (c t : Nat) (st : Stream) (w : Dword) : Bool :=
  let x := core s c
  streamReady x t st && picked x t st && decide (x.issued ≤ t) && !heldByDeferral s c (iJob w)

/-- One issue cycle of a stream whose head is an instruction of class `cls` and opcode `op`. An illegal word raises
illegal_instr, an uncorrectable one ist_ue, whatever row names it (R97, R98). -/
def issue (cls op c : Nat) (st : Stream) (ecc : Ecc) (s : State) : State :=
  let t := s.now
  let x := core s c
  let w := headWord x st
  if !(coreRuns s c && atHead t (streamOf x st)) then s
  else
    match ecc with
    | .uncorrectable _ => fetchCheck c st ecc s
    | _ =>
      if !iLegal w then raiseFail c st .illegal (fetchCheck c st ecc s)
      else if iClass w = cls ∧ iOp w = op ∧ mayIssue s c t st w then checkAndIssue c t st w (fetchCheck c st ecc s)
      else s

/-! ## Rows -/

/-- NOP (R98). -/
def execNop (dt core : Nat) (st : Stream) (ecc : Ecc) (s : State) : Host.Outcome State Fault Refusal :=
  answer (.nop dt core st ecc) s <|
    issue 0 0 core st ecc (elapse dt s)

/-- FEND (R96). -/
def execFend (dt core : Nat) (st : Stream) (ecc : Ecc) (s : State) : Host.Outcome State Fault Refusal :=
  answer (.fend dt core st ecc) s <|
    issue 0 1 core st ecc (elapse dt s)

/-- JUMP (R96). -/
def execJump (dt core : Nat) (st : Stream) (ecc : Ecc) (s : State) : Host.Outcome State Fault Refusal :=
  answer (.jump dt core st ecc) s <|
    issue 0 2 core st ecc (elapse dt s)

/-- LOOP (R98). -/
def execLoop (dt core : Nat) (st : Stream) (ecc : Ecc) (s : State) : Host.Outcome State Fault Refusal :=
  answer (.loop dt core st ecc) s <|
    issue 0 3 core st ecc (elapse dt s)

/-- MASK (R125). -/
def execMask (dt core : Nat) (st : Stream) (ecc : Ecc) (s : State) : Host.Outcome State Fault Refusal :=
  answer (.mask dt core st ecc) s <|
    issue 0 4 core st ecc (elapse dt s)

/-- CTOK (R174). -/
def execCtok (dt core : Nat) (st : Stream) (ecc : Ecc) (s : State) : Host.Outcome State Fault Refusal :=
  answer (.ctok dt core st ecc) s <|
    issue 0 5 core st ecc (elapse dt s)

/-- LI (R98). -/
def execLi (dt core : Nat) (st : Stream) (ecc : Ecc) (s : State) : Host.Outcome State Fault Refusal :=
  answer (.li dt core st ecc) s <|
    issue 4 0 core st ecc (elapse dt s)

/-- ADDI (R98). -/
def execAddi (dt core : Nat) (st : Stream) (ecc : Ecc) (s : State) : Host.Outcome State Fault Refusal :=
  answer (.addi dt core st ecc) s <|
    issue 4 1 core st ecc (elapse dt s)

/-- TDB (R98). -/
def execTdb (dt core : Nat) (st : Stream) (ecc : Ecc) (s : State) : Host.Outcome State Fault Refusal :=
  answer (.tdb dt core st ecc) s <|
    issue 4 2 core st ecc (elapse dt s)

/-- TAG_SET (R93). -/
def execTagSet (dt core : Nat) (st : Stream) (ecc : Ecc) (s : State) : Host.Outcome State Fault Refusal :=
  answer (.tagSet dt core st ecc) s <|
    issue 5 0 core st ecc (elapse dt s)

/-- TAG_CLR (R93). -/
def execTagClr (dt core : Nat) (st : Stream) (ecc : Ecc) (s : State) : Host.Outcome State Fault Refusal :=
  answer (.tagClr dt core st ecc) s <|
    issue 5 1 core st ecc (elapse dt s)

/-- VREAD (R200). -/
def execVread (dt core : Nat) (st : Stream) (ecc : Ecc) (s : State) : Host.Outcome State Fault Refusal :=
  answer (.vread dt core st ecc) s <|
    issue 6 0 core st ecc (elapse dt s)

/-- VDONE (R200). -/
def execVdone (dt core : Nat) (st : Stream) (ecc : Ecc) (s : State) : Host.Outcome State Fault Refusal :=
  answer (.vdone dt core st ecc) s <|
    issue 6 1 core st ecc (elapse dt s)

/-- VPUB (R198). -/
def execVpub (dt core : Nat) (st : Stream) (ecc : Ecc) (s : State) : Host.Outcome State Fault Refusal :=
  answer (.vpub dt core st ecc) s <|
    issue 6 2 core st ecc (elapse dt s)

/-- The sources of the head are not seen valid by cycle h + wmax (R103). -/
def notReadyAt (x : Core) (st : Stream) : Option Nat :=
  let y := streamOf x st
  let w := headWord x st
  if y.parked.isSome || !iLegal w then none
  else
    match headCycle w y with
    | some h => if sourcesSeen x (h + iWmax w) w then none else some (h + iWmax w)
    | none => none

/-- Raise slip 0x02 at cycle h + wmax. -/
def notReady (c : Nat) (st : Stream) (s : State) : State :=
  let x := core s c
  match notReadyAt x st with
  | some t =>
    if coreRuns s c && !heldByDeferral s c (iJob (headWord x st)) then
      coreSlip c 5 (pcDetail (streamOf x st) st) 2 (passTo t s)
    else s
  | none => s

/-- NOT_READY (R103). -/
def execNotReady (core : Nat) (st : Stream) (s : State) : Host.Outcome State Fault Refusal :=
  answer (.notReady core st) s <|
    notReady core st s

end Sys2Proof.Machine
end

