-- ==== Sys2Proof/Machine/Array.lean ====
section
/-! DEFINITION. The matrix array (04_matrix_array.md): MMA issue, begin and completion. An MMA's sums are formed when it
begins, from the operands as they then stand, and written when it completes (log entry 17). -/

namespace Sys2Proof.Machine

open Sys2Proof

/-! ## Operands (R112, R117, R137, R138) -/

/-- An MMA with its descriptors. -/
structure MmaCtx where
  c : Nat
  code : Nat
  shape : Shape
  w : Nat
  da : Dword
  db : Dword
  sa : Dword
  sb : Dword
  turnA : Bool
  turnB : Bool
  deriving DecidableEq, Repr

/-- The operands of a queued MMA. -/
def mmaCtx (c : Nat) (o : QOp) : MmaCtx :=
  let w := o.word
  let da := opDesc o (mmaA w)
  { c := c, code := mmaShape w, shape := shapeOf (mmaShape w), w := fmtWidth (dFmt da), da := da,
    db := opDesc o (mmaB w), sa := opDesc o (mmaA w + 1), sb := opDesc o (mmaB w + 1), turnA := mmaTurnA w,
    turnB := mmaTurnB w }

/-- Raw bits of the element at (r, cc) of a slice: the held matrix is rows × cols, or its transpose when turned. -/
def sliceElem (s : State) (c : Nat) (d : Dword) (w lines step q rows cols : Nat) (turned : Bool) (r cc : Nat) : Nat :=
  let e := step * lines * (512 / w) + q * rows * cols +
    (if turned then matIndex d w cols rows cc r else matIndex d w rows cols r cc)
  getBits s c (elemBit d w e) w

/-- Raw bits of S[m][kk] in K step `step` of problem q, as the stationary port reads them. -/
def mmaS (s : State) (k : MmaCtx) (q step m kk : Nat) : Nat :=
  sliceElem s k.c k.db k.w (sliceLinesB k.code k.w) step q k.shape.m k.shape.k k.turnB m kk

/-- Raw bits of T[kk][n]. -/
def mmaT (s : State) (k : MmaCtx) (q step kk n : Nat) : Nat :=
  sliceElem s k.c k.da k.w (sliceLinesA k.code k.w) step q k.shape.k k.shape.n k.turnA kk n

/-- The E8M0 scale of row or column i of problem q at reduction index kk (R138). -/
def mmaScaleByte (s : State) (k : MmaCtx) (d : Dword) (isB : Bool) (q i kk : Nat) : Nat :=
  let x := scaleX k.code isB
  getBits s k.c (elemBit d 8 (64 * (kk / 32 * ceilDiv x 64) + (if k.code = 5 then 16 * q + i else i))) 8

/-- An element under its block scale (R137). -/
def scaled (code bits scale : Nat) : Num :=
  if scale = 0xFF then .nan else Num.scale ((scale : Int) - 127) (decodeElem code bits)

/-! ## Stationary registers (R120, R126) -/

/-- The (q, m) of every row of S. -/
def mmaRows (h : Shape) : List (Nat × Nat) := (List.range h.problems).flatMap fun q => (List.range h.m).map fun m => (q, m)

/-- Put one row into its register entries. -/
def putRow (v : List Nat) : List Nat → List (Nat × List Nat) → List (Nat × List Nat)
  | [], r => r
  | e :: t, r => putRow v t (sset (fun _ => []) r e v)

/-- The stationary port fills the staging registers with a slice. -/
def fillStaging (s : State) (k : MmaCtx) (step : Nat) : List (Nat × Nat) → Core → Core
  | [], x => x
  | (q, m) :: t, x =>
    fillStaging s k step t
      { x with staging := putRow ((List.range k.shape.k).map (mmaS s k q step m)) (rowKeys k.shape q m) x.staging }

/-- The one-cycle broadcast copies the staging registers into the row registers, but for the entries of masked rows
(R126). -/
def broadcast (k : MmaCtx) (mask : BitVec 16) : List (Nat × Nat) → Core → Core
  | [], x => x
  | (q, m) :: t, x =>
    let e := rowKeys k.shape q m
    broadcast k mask t
      (if mask.getLsbD (maskBit k.code m) then
        { x with rowRegs := putRow (sget (fun _ => []) x.staging (e.headD 0)) e x.rowRegs }
       else x)

/-- Raw bits of S[m][kk] as the cells read them in a row register. -/
def rowElem (x : Core) (h : Shape) (q m kk : Nat) : Nat :=
  (sget (fun _ => []) x.rowRegs ((rowKeys h q m).headD 0)).getD kk 0

/-- S[m][kk] as a number. -/
def mmaSnum (s : State) (k : MmaCtx) (x : Core) (q step m kk : Nat) : Num :=
  let b := rowElem x k.shape q m kk
  if fmtMx (dFmt k.db) then scaled (dFmt k.db) b (mmaScaleByte s k k.sb true q m (step * k.shape.k + kk))
  else decodeElem (dFmt k.db) b

/-- T[kk][n] as a number. -/
def mmaTnum (s : State) (k : MmaCtx) (q step kk n : Nat) : Num :=
  let b := mmaT s k q step kk n
  if fmtMx (dFmt k.da) then scaled (dFmt k.da) b (mmaScaleByte s k k.sa false q n (step * k.shape.k + kk))
  else decodeElem (dFmt k.da) b

/-! ## Sums (R115, R143, R144) -/

/-- The exact sum of the d products from index kk, in ascending order. -/
def updateSum (s : State) (k : MmaCtx) (x : Core) (q step m n kk : Nat) : Num :=
  let p := fun i => (mmaSnum s k x q step m (kk + i)).mul (mmaTnum s k q step (kk + i) n)
  (List.range (perUpdate k.w - 1)).foldl (fun a i => a.add (p (i + 1))) (p 0)

/-- All updates of an FP32 slot in one K step: each adds its exact sum with one rounding. -/
def slotFp (s : State) (k : MmaCtx) (x : Core) (q step m n : Nat) (v : Word) : Word :=
  let d := perUpdate k.w
  (List.range (k.shape.k / d)).foldl (fun v u => roundFp32 ((num32 v).add (updateSum s k x q step m n (d * u)))) v

/-- The exact integer sum of an update. -/
def updateInt (s : State) (k : MmaCtx) (x : Core) (q step m n kk : Nat) : Int :=
  (List.range (perUpdate k.w)).foldl
    (fun a i => a + signed k.w (rowElem x k.shape q m (kk + i)) * signed k.w (mmaT s k q step (kk + i) n)) 0

/-- All updates of an INT32 slot in one K step: each takes the nearer limit where it overflows, and sets the flag (R144). -/
def slotInt (s : State) (k : MmaCtx) (x : Core) (q step m n : Nat) (v : Word) (sat : Bool) : Word × Bool :=
  let d := perUpdate k.w
  (List.range (k.shape.k / d)).foldl
    (fun v u =>
      let r := clampInt 32 (signed 32 v.1.toNat + updateInt s k x q step m n (d * u))
      (BitVec.ofNat 32 (toBits 32 r.1), v.2 || r.2)) (v, sat)

/-- The outputs (q, m, n) of unmasked rows, by problem, row and column (R125). -/
def fedOutputs (code : Nat) (mask : BitVec 16) : List (Nat × Nat × Nat) :=
  let h := shapeOf code
  (List.range h.problems).flatMap fun q =>
    ((List.range h.m).filter fun m => mask.getLsbD (maskBit code m)).flatMap fun m =>
      (List.range h.n).map fun n => (q, m, n)

/-- Feed the outputs of the unmasked rows in one K step. -/
def feedSlots (s : State) (k : MmaCtx) (step : Nat) (isInt : Bool) : List (Nat × Nat × Nat) → Core → Core
  | [], x => x
  | (q, m, n) :: t, x =>
    let key := accKey k.shape q m n
    let v := sget (fun _ => (0 : Word)) x.acc key
    let x :=
      if isInt then
        let r := slotInt s k x q step m n v (sget (fun _ => false) x.accSat key)
        { x with acc := sset (fun _ => (0 : Word)) x.acc key r.1, accSat := sset (fun _ => false) x.accSat key r.2 }
      else { x with acc := sset (fun _ => (0 : Word)) x.acc key (slotFp s k x q step m n v) }
    feedSlots s k step isInt t x

/-- The K steps of an MMA (R120): each slice is filled, broadcast and fed. -/
def feedSteps (s : State) (k : MmaCtx) (mask : BitVec 16) : List Nat → Core → Core
  | [], x => x
  | step :: t, x =>
    let rows := mmaRows k.shape
    feedSteps s k mask t
      (feedSlots s k step (fmtInt (dFmt k.db)) (fedOutputs k.code mask) (broadcast k mask rows (fillStaging s k step rows x)))

/-! ## Timing (R121, R122) -/

/-- Accesses of the stationary port for slice 0. -/
def fillCycles (k : MmaCtx) : Nat := sliceLinesB k.code k.w * (if k.turnB then 2 else 1)

/-- Lines that the MMA writes. -/
def mmaWrites (o : QOp) : Nat :=
  if mmaFin o.word then dstLines (mmaShape o.word) (fmtWidth (dFmt (opDesc o (mmaDst o.word)))) else 0

/-- The run of an MMA that begins in cycle b, with L_B fill cycles. -/
def mmaRun (k : MmaCtx) (o : QOp) (b lB : Nat) : MmaRun :=
  let steps := mmaSteps o.word
  let cyc := stepCycles k.code k.w
  let tail := if mmaFin o.word then 8 + mmaWrites o else 0
  ⟨o, b, b + lB + 4 + (steps - 1) * (1 + cyc) + 1, b + lB + 4 + steps * (1 + cyc) + tail - 1, false⟩

/-- MMA_BEGIN. The MMA at the head of the queue begins in the cycle after its issue, or after the last cycle of the MMA
before it; slice 0 is already filled if it was in the queue at the first cycle of that MMA's last K step. `eccs` is what the
checks of the lines that it reads find. -/
def mmaBegin (c : Nat) (eccs : List Ecc) (s : State) : State :=
  let x := core s c
  match x.arrayQ with
  | [] => s
  | o :: rest =>
    let b := max (o.issuedAt + 1) (x.arrayLast.2 + 1)
    if coreHalted s c || x.array.isSome || decide (s.now < b) then s
    else
      let k := mmaCtx c o
      let filled := decide (x.arrayLast.2 + 1 = b) && decide (o.issuedAt ≤ x.arrayLast.1) && decide (x.arrayLast.1 ≠ 0)
      let run := mmaRun k o b (if filled then 0 else fillCycles k)
      if anyWithheld eccs then
        sramChecks c eccs (setCore c { x with arrayQ := rest, array := some { run with stopped := true } } s)
      else
        let x0 := if mmaAcc o.word then x else { x with acc := [], accSat := [] }
        let x1 := feedSteps (coreSees s) k o.mask (List.range (mmaSteps o.word)) x0
        sramChecks c eccs (setCore c { x1 with arrayQ := rest, array := some run } s)

/-! ## Completion -/

/-- An output as dst takes it (R146, R150): its natural index in dst and its narrowed value. -/
def mmaOut (s : State) (c : Nat) (o : QOp) (x : Core) (isInt : Bool) (p : Nat × Nat × Nat) : ElemOut :=
  let h := shapeOf (mmaShape o.word)
  let d := opDesc o (mmaDst o.word)
  let w := fmtWidth (dFmt d)
  let e := p.1 * (h.m * h.n) + matIndex d w h.m h.n p.2.1 p.2.2
  let key := accKey h p.1 p.2.1 p.2.2
  let v := sget (fun _ => (0 : Word)) x.acc key
  if isInt then
    let r := clampInt w (signed 32 v.toNat)
    elemOut (dFmt d) e ⟨toBits w r.1, r.2 || sget (fun _ => false) x.accSat key, false⟩
  else elemOut (dFmt d) e (narrowTo (dFmt d) (rndOf s c o d e) v)

/-- Cell updates that the energy ledger charges (R126), and their class (Table 14.2). -/
def mmaUpdates (k : MmaCtx) (o : QOp) : Nat × Nat :=
  ((fedOutputs k.code o.mask).length * (mmaSteps o.word * (k.shape.k / perUpdate k.w)),
   if k.w = 16 then 0 else if k.w = 8 then 1 else 2)

/-- Core SRAM accesses of an MMA: operand lines or turn accesses, scale lines, result lines (R127). DESIGN CHOICE (log entry 74): a
scale line is charged once, also where a group of 32 spans two K steps of TS3. -/
def mmaAccesses (k : MmaCtx) (o : QOp) : Nat :=
  let steps := mmaSteps o.word
  let groups := ceilDiv (steps * k.shape.k) 32
  steps * (sliceLinesB k.code k.w * (if k.turnB then 2 else 1) + sliceLinesA k.code k.w * (if k.turnA then 2 else 1)) +
    (if fmtMx (dFmt k.db) then groups * ceilDiv (scaleX k.code true) 64 else 0) +
    (if fmtMx (dFmt k.da) then groups * ceilDiv (scaleX k.code false) 64 else 0) + mmaWrites o

/-- Tags that an MMA releases at completion. -/
def mmaReleases (w : Dword) : List Nat :=
  (if mmaRelA w then [mmaA w] else []) ++ (if mmaRelB w then [mmaB w] else [])

/-! ## The array's requests (R119 to R123) -/

/-- Access j of a port to slice `step` of a source whose slice takes `lines` lines: a line, or in a turned source the row or
column of a block. -/
def sliceReq (u : BankUser) (d : Dword) (w lines : Nat) (turned : Bool) (step j : Nat) : BankReq :=
  let a := dBase d + step * lines
  if turned then ⟨u, a + j / blockSide w * blockLines w, some (j % blockSide w), true⟩ else ⟨u, a + j, none, true⟩

/-- Accesses to a slice. -/
def sliceAccesses (lines : Nat) (turned : Bool) : Nat := if turned then 2 * lines else lines

/-- The cycle of the broadcast of K step `step` of an MMA, without stalls (R121). -/
def broadcastAt (k : MmaCtx) (o : QOp) (r : MmaRun) (step : Nat) : Nat :=
  r.due + 1 - (if mmaFin o.word then 8 + mmaWrites o else 0) - (mmaSteps o.word - step) * (1 + stepCycles k.code k.w)

/-- The stationary port fills slice `step` from a cycle on, one access a cycle, for the broadcast of a cycle. -/
def fillWants (k : MmaCtx) (step from_ : Nat) (need : Option Nat) : List Want :=
  let l := sliceLinesB k.code k.w
  (List.range (sliceAccesses l k.turnB)).map fun j => ⟨from_ + j, need, sliceReq .stationary k.db k.w l k.turnB step j⟩

/-- The stationary port's requests: slice 0 where the MMA before it did not leave it filled, slice s + 1 in K step s, and in the
last K step slice 0 of the MMA behind it (R120 to R122). -/
def stationaryWants (k : MmaCtx) (o : QOp) (r : MmaRun) (next : Option MmaCtx) : List Want :=
  let at_ := broadcastAt k o r
  (if r.begun + 4 < at_ 0 then fillWants k 0 r.begun (some (at_ 0)) else []) ++
  ((List.range (mmaSteps o.word - 1)).flatMap fun s => fillWants k (s + 1) (at_ s + 1) (some (at_ (s + 1)))) ++
  (match next with | some n => fillWants n 0 r.lastStep none | none => [])

/-- The cycles in which the cells need each access of the streaming port: the accesses of a slice spread evenly over the cycles
of its K step. -/
def streamNeeds (k : MmaCtx) (o : QOp) (r : MmaRun) : List (Nat × Nat × Nat) :=
  let n := sliceAccesses (sliceLinesA k.code k.w) k.turnA
  (List.range (mmaSteps o.word)).flatMap fun s =>
    (List.range n).map fun j => (s, j, broadcastAt k o r s + 1 + j * stepCycles k.code k.w / n)

/-- The streaming port's requests: it keeps two accesses ahead of the cells, the first two in the streaming lead. DESIGN CHOICE
(log entry 76): the spec gives the buffer and the lead, and not the cycle of each access. -/
def streamWants (k : MmaCtx) (o : QOp) (r : MmaRun) : List Want :=
  let l := streamNeeds k o r
  let lead := broadcastAt k o r 0 - 4
  let early := lead :: (lead + 1) :: l.map (·.2.2)
  (early.zip l).map fun p =>
    ⟨p.1, some p.2.2.2, sliceReq .streaming k.da k.w (sliceLinesA k.code k.w) k.turnA p.2.1 p.2.2.1⟩

/-- The scale lines of a group of 32: those of srcA, then those of srcB (R138). -/
def scaleReqs (k : MmaCtx) (g : Nat) : List BankReq :=
  let of := fun (d sd : Dword) (isB : Bool) =>
    let n := ceilDiv (scaleX k.code isB) 64
    if fmtMx (dFmt d) then (List.range n).map fun i => (⟨.scale isB, dBase sd + n * g + i, none, true⟩ : BankReq) else []
  of k.da k.sa false ++ of k.db k.sb true

/-- The scale port's requests: the lines of each group in the cycles before the cells reach it. The port never bounds a K step
(R119). -/
def scaleWants (k : MmaCtx) (o : QOp) (r : MmaRun) : List Want :=
  (List.range (ceilDiv (mmaSteps o.word * k.shape.k) 32)).flatMap fun g =>
    let s := 32 * g / k.shape.k
    let use := broadcastAt k o r s + 1 + (32 * g - s * k.shape.k) * stepCycles k.code k.w / k.shape.k
    let l := scaleReqs k g
    l.zipIdx.map fun p => ⟨max r.begun (use - l.length) + p.2, some (max use (r.begun + l.length)), p.1⟩

/-- The result port's requests: one line a cycle, up to the last cycle of the occupancy. -/
def resultWants (o : QOp) (r : MmaRun) : List Want :=
  (List.range (mmaWrites o)).map fun j => want .arrayOut (dBase (opDesc o (mmaDst o.word)) + j) (r.due + 1 - mmaWrites o + j)

/-- What the banks make of an MMA's requests, with the MMA behind it that was queued at the first cycle of its last K step. -/
def mmaBanks (k : MmaCtx) (o : QOp) (r : MmaRun) (next : Option MmaCtx) (e : BankEvents) : BankRun :=
  bankFrom r.begun r.lastStep [streamWants k o r, stationaryWants k o r next, scaleWants k o r, resultWants o r] e

/-- The cycle in which an MMA completes: its last write, or where it writes nothing its last cycle, later by the cycles in
which the cells waited (R123). -/
def mmaDone (o : QOp) (r : MmaRun) (b : BankRun) : Nat :=
  if mmaWrites o = 0 then r.due + b.waits else (servedAt b (· == .arrayOut)).foldl max r.due

/-- MMA_COMPLETE. In the last cycle of its occupancy the MMA has written dst if fin is set, dst's valid bit is set and
the sources are released (R121, R128). The occupancy grows by the cycles in which the cells waited for a retried read, and by
the retries of its result writes (R123). -/
def mmaComplete (c : Nat) (bank : BankEvents) (s : State) : State :=
  let x := core s c
  match x.array with
  | none => s
  | some r =>
    if r.stopped || coreInReset s c then s
    else
      let o := r.op
      let k := mmaCtx c o
      let next := (x.arrayQ.find? fun n => decide (n.issuedAt ≤ r.lastStep)).map (mmaCtx c)
      let b := mmaBanks k o r next bank
      let t := mmaDone o r b
      let s := countBanks c b (passTo t s)
      let outs := (fedOutputs k.code o.mask).map (mmaOut s c o x (fmtInt (dFmt k.db)))
      let s := if mmaFin o.word then writeElems c (opDesc o (mmaDst o.word)) true outs (noteTiles c [opDesc o (mmaDst o.word)] s) else s
      let u := mmaUpdates k o
      let s := charge (iJob o.word) 4 (mmaAccesses k o) (charge (iJob o.word) u.2 u.1 s)
      modCore c (fun x =>
        let x := setTags t (if mmaFin o.word then [mmaDst o.word] else [])
          { noteRing t x with array := none, arrayLast := (b.lastStep, t) }
        retireSlots (clearTags t (mmaReleases o.word) x)) s

/-! ## Rows -/

/-- MMA (R121). -/
def execMma (dt core : Nat) (st : Stream) (ecc : Ecc) (s : State) : Host.Outcome State Fault Refusal :=
  answer (.mma dt core st ecc) s <|
    issue 1 0 core st ecc (elapse dt s)

/-- MMA_BEGIN (R121). -/
def execMmaBegin (dt core : Nat) (eccs : List Ecc) (s : State) : Host.Outcome State Fault Refusal :=
  answer (.mmaBegin dt core eccs) s <|
    mmaBegin core eccs (elapse dt s)

/-- MMA_COMPLETE (R121). -/
def execMmaComplete (core : Nat) (bank : BankEvents) (s : State) : Host.Outcome State Fault Refusal :=
  answer (.mmaComplete core bank) s <|
    mmaComplete core bank s

end Sys2Proof.Machine
end

