-- ==== Sys2Proof/Machine/Curve.lean ====
section
/-! DEFINITION. X448 (RFC 7748) and Ed448 (RFC 8032), as R332, R401 and R405 name them (PRESUMED from those standards:
log entry 10). -/

namespace Sys2Proof.Machine

open Sys2Proof

/-- The prime 2^448 − 2^224 − 1. -/
def curveP : Nat := 2 ^ 448 - 2 ^ 224 - 1

/-- Modular product. -/
def pmul (a b : Nat) : Nat := a * b % curveP

/-- Modular sum. -/
def padd (a b : Nat) : Nat := (a + b) % curveP

/-- Modular difference. -/
def psub (a b : Nat) : Nat := (a + curveP - b % curveP) % curveP

/-- Modular power; `n` bounds the bits of the exponent. -/
def ppow : Nat → Nat → Nat → Nat
  | 0, _, _ => 1
  | n + 1, a, e => pmul (if e % 2 = 1 then a else 1) (ppow n (pmul a a) (e / 2))

/-- Modular inverse. -/
def pinv (a : Nat) : Nat := ppow 448 a (curveP - 2)

/-! ## X448 -/

/-- The two projective points of the ladder. -/
structure Ladder where
  x2 : Nat
  z2 : Nat
  x3 : Nat
  z3 : Nat
  deriving DecidableEq, Repr

/-- One step of the Montgomery ladder for the point u, for a scalar bit of 0. -/
def ladderStep (u : Nat) (l : Ladder) : Ladder :=
  let a := padd l.x2 l.z2
  let b := psub l.x2 l.z2
  let aa := pmul a a
  let bb := pmul b b
  let e := psub aa bb
  let da := pmul (psub l.x3 l.z3) a
  let cb := pmul (padd l.x3 l.z3) b
  ⟨pmul aa bb, pmul e (padd aa (pmul 39081 e)), pmul (padd da cb) (padd da cb), pmul u (pmul (psub da cb) (psub da cb))⟩

/-- Exchange the two points. -/
def Ladder.swap (l : Ladder) : Ladder := ⟨l.x3, l.z3, l.x2, l.z2⟩

/-- The ladder over the low `n` bits of a scalar, highest first. -/
def ladder (k u : Nat) : Nat → Ladder → Ladder
  | 0, l => l
  | n + 1, l =>
    let b := k / 2 ^ n % 2 = 1
    let m := ladderStep u (if b then l.swap else l)
    ladder k u n (if b then m.swap else m)

/-- A scalar as X448 clamps it. -/
def clamp448 (k : List Byte) : Nat :=
  let n := leNat (k.take 56)
  n - n % 4 - (if 2 ^ 447 ≤ n then 2 ^ 447 else 0) + 2 ^ 447

/-- X448. -/
def x448 (k u : List Byte) : List Byte :=
  let un := leNat (u.take 56) % curveP
  let l := ladder (clamp448 k) un 448 ⟨1, 0, un, 1⟩
  leBytes 56 (pmul l.x2 (pinv l.z2))

/-- X448 public key of a private key. -/
def x448Public (k : List Byte) : List Byte := x448 k (leBytes 56 5)

/-! ## Ed448 -/

/-- A point in projective coordinates. -/
structure EdPoint where
  x : Nat
  y : Nat
  z : Nat
  deriving DecidableEq, Repr

/-- d = −39081. -/
def edD : Nat := curveP - 39081

/-- The order of the base point. -/
def edL : Nat := 2 ^ 446 - 13818066809895115352007386748515426880336692474882178609894547503885

/-- The neutral point. -/
def edZero : EdPoint := ⟨0, 1, 1⟩

/-- The base point. -/
def edBase : EdPoint :=
  ⟨224580040295924300187604334099896036246789641632564134246125461686950415467406032909029192869357953282578032075146446173674602635247710,
   298819210078481492676017930443930673437544040154080242095928241372331506189835876003536878655418784733982303233503462500531545062832660,
   1⟩

/-- Sum of two points. -/
def edAdd (p q : EdPoint) : EdPoint :=
  let a := pmul p.z q.z
  let b := pmul a a
  let c := pmul p.x q.x
  let d := pmul p.y q.y
  let e := pmul edD (pmul c d)
  let f := psub b e
  let g := padd b e
  let h := pmul (padd p.x p.y) (padd q.x q.y)
  ⟨pmul (pmul a f) (psub (psub h c) d), pmul (pmul a g) (psub d c), pmul f g⟩

/-- k times a point; `n` bounds the bits of k. -/
def edMul : Nat → Nat → EdPoint → EdPoint
  | 0, _, _ => edZero
  | n + 1, k, p =>
    let r := edMul n (k / 2) (edAdd p p)
    if k % 2 = 1 then edAdd r p else r

/-- Two projective points are the same point. -/
def edEq (p q : EdPoint) : Bool := pmul p.x q.z == pmul q.x p.z && pmul p.y q.z == pmul q.y p.z

/-- A point as 57 bytes. -/
def edEncode (p : EdPoint) : List Byte :=
  let zi := pinv p.z
  let x := pmul p.x zi
  let y := pmul p.y zi
  leBytes 57 (y + 2 ^ 455 * (x % 2))

/-- A point from 57 bytes, where they encode one. -/
def edDecode (b : List Byte) : Option EdPoint :=
  let n := leNat (b.take 57)
  let y := n % 2 ^ 455
  let sign := n / 2 ^ 455
  if b.length ≠ 57 ∨ curveP ≤ y then none
  else
    let u := psub (pmul y y) 1
    let v := psub (pmul edD (pmul y y)) 1
    let u3v := pmul (pmul u (pmul u u)) v
    let u5v3 := pmul u3v (pmul (pmul u u) (pmul v v))
    let x := pmul u3v (ppow 448 u5v3 ((curveP - 3) / 4))
    if pmul v (pmul x x) ≠ u then none
    else if x = 0 ∧ sign = 1 then none
    else some ⟨if x % 2 = sign then x else curveP - x, y, 1⟩

/-- The bytes of an ASCII string. -/
def asciiBytes (s : String) : List Byte := s.toList.map fun c => BitVec.ofNat 8 c.toNat

/-- dom4 of pure Ed448 with an empty context. -/
def edDom : List Byte := asciiBytes "SigEd448" ++ [0, 0]

/-- The secret scalar and the prefix of a seed. -/
def edSecret (seed : List Byte) : Nat × List Byte :=
  let h := shake256 114 seed
  let n := leNat (h.take 56)
  (n - n % 4 - (if 2 ^ 447 ≤ n then 2 ^ 447 else 0) + 2 ^ 447, h.drop 57)

/-- Ed448 public key of a seed. -/
def edPublic (seed : List Byte) : List Byte := edEncode (edMul 448 (edSecret seed).1 edBase)

/-- Ed448 signature of a message. -/
def edSign (seed msg : List Byte) : List Byte :=
  let (s, pre) := edSecret seed
  let a := edPublic seed
  let r := leNat (shake256 114 (edDom ++ pre ++ msg)) % edL
  let rb := edEncode (edMul 448 r edBase)
  let k := leNat (shake256 114 (edDom ++ rb ++ a ++ msg)) % edL
  rb ++ leBytes 57 ((r + k * s) % edL)

/-- Ed448 verification. -/
def edVerify (pub msg sig : List Byte) : Bool :=
  match edDecode pub, edDecode (sig.take 57) with
  | some a, some r =>
    let s := leNat (sig.drop 57)
    let k := leNat (shake256 114 (edDom ++ sig.take 57 ++ pub ++ msg)) % edL
    sig.length == 114 && decide (s < edL) &&
      edEq (edMul 450 (4 * s) edBase) (edAdd (edMul 3 4 r) (edMul 450 (4 * k) a))
  | _, _ => false

end Sys2Proof.Machine
end

