-- ==== Sys2Proof/Machine/Faults.lean ====
section
/-! DEFINITION. The fault coalescer (R424 to R426), the log of device-fatal faults (R439), and reads of the event log
(R427). -/

namespace Sys2Proof.Machine

open Sys2Proof

/-- Change the coalescer and the event log. -/
def modFaults (f : Faults → Faults) (s : State) : State := { s with faults := f s.faults }

/-- The entry holds a key: it is valid, and a clear has not freed it yet (R425). -/
def entryLive (s : State) (e : FltEntry) : Bool := match e.freeFrom with | none => true | some t => decide (s.now < t)

/-- Valid entry i. -/
def fltEntry (s : State) (i : Nat) : Option FltEntry :=
  match s.faults.entries.find? (·.1 == i) with
  | some e => if entryLive s e.2 then some e.2 else none
  | none => none

/-- Set entry i. -/
def setFltEntry (i : Nat) (e : FltEntry) (s : State) : State :=
  modFaults (fun f => { f with entries :=
    (f.entries.filter fun x => decide (x.1 < i)) ++ (i, e) :: f.entries.filter fun x => decide (i < x.1) }) s

/-- The entry that holds a key. -/
def entryOfKey (s : State) (key : Nat) : Option (Nat × FltEntry) :=
  s.faults.entries.find? fun e => e.2.key == key && entryLive s e.2

/-- The detail of events 0x0001 and 0x0003 (Table 16.5). -/
def reportDetail (r : Report) : List Byte :=
  leBytes 4 r.key ++ leBytes 4 r.bit ++ leBytes 4 r.errFirst.toNat

/-- What the coalescer makes of a report (R425): it counts it, gives it the lowest free entry, or drops it. An FLT_CNT that
reaches its largest value raises count_overflow (R428); Table 16.9 gives no detail for it: a free value (log entry 89). -/
def takeReport (r : Report) (s : State) : State :=
  match entryOfKey s r.key with
  | some (i, e) =>
    let s' := setFltEntry i { e with cnt := min (2 ^ 32 - 1) (e.cnt + 1) } s
    if e.cnt + 1 = 2 ^ 32 - 1 then drawFree (recordCause 0x13 0 2 0 (Config.freeNat s.free % 2 ^ 16) s') else s'
  | none =>
    match (List.range 64).find? fun i => (fltEntry s i).isNone with
    | some i =>
      logEvent 0x0001 r.cls r.inst r.fclass (reportDetail r)
        (modFaults (fun f => { f with intPending := true })
          (setFltEntry i ⟨r.key, r.cls, r.inst, r.bit, r.fclass, r.tick, 1, none⟩ s))
    | none => dropReport r.key s

/-- COALESCER_TAKE. It takes one report in each cycle (R425): after a report taken in the present cycle, the next one goes in
the next. -/
def coalescerTake (s : State) : State :=
  match s.faults.queue with
  | [] => s
  | r :: t =>
    let s := passTo s.faults.takeFrom s
    takeReport r (modFaults (fun f => { f with queue := t, takeFrom := s.now + 1 }) s)

/-- The cause asks for power removal (R40). -/
def asksPowerOff (r : Report) : Bool :=
  [(0, 7), (1, 4), (3, 1), (6, 14), (7, 5), (8, 5), (0xA, 1)].contains (r.cls, r.bit)

/-- Log event 0x0003 for each of some reports. -/
def logFatal : List Report → State → State
  | [], s => s
  | r :: t, s => logFatal t (logEvent 0x0003 r.cls r.inst 2 (reportDetail r) s)

/-- Some reports enter the coalescer's queue in the present cycle. -/
def queueReports : List Report → State → State
  | [], s => s
  | r :: t, s => queueReports t (enqueueReport { r with at_ := s.now } s)

/-- FATAL_EVENT_LOG: the reports of the oldest cycle are logged in the cycle after it, and enter the coalescer's queue; a warm
reset is to start unless one of them asks for power removal (R420, R439). -/
def fatalEventLog (s : State) : State :=
  match s.faults.fatal with
  | [] => s
  | r :: t =>
    let mine := (r :: t).takeWhile fun x => x.at_ == r.at_
    let s := queueReports mine
      (logFatal mine (modFaults (fun f => { f with fatal := (r :: t).dropWhile fun x => x.at_ == r.at_, fatalLogged := true })
        (passTo (r.at_ + 1) s)))
    if (reg s 0 0 0x48).getLsbD 0 && s.dev.warm.isNone && !mine.any asksPowerOff then
      { s with dev := { s.dev with warm := some .fatal } }
    else s

/-- FLT_CTL.int_ack (R426). -/
def intAck (s : State) : State := modFaults (fun f => { f with intPending := false }) s

/-- FLT_CTL.clear: the entry that FLT_SEL selects is free from the next cycle (R425). -/
def fltClear (s : State) : State :=
  let i := field (reg s 0x13 0 0x48) 5 0
  match fltEntry s i with
  | some e => setFltEntry i { e with freeFrom := some (match e.freeFrom with | some t => t | none => s.now + 1) } s
  | none => s

/-- FLT_CTL.storm_clear. -/
def stormClear (s : State) : State := modFaults (fun f => { f with storm := false }) s

/-- A write of FLT_CTL. -/
def fltCtl (v : Word) (s : State) : State :=
  let s := if v.getLsbD 0 then intAck s else s
  let s := if v.getLsbD 1 then fltClear s else s
  if v.getLsbD 2 then stormClear s else s

/-- COALESCER_TAKE (R425). -/
def execCoalescerTake (s : State) : Host.Outcome State Fault Refusal :=
  answer (.coalescerTake) s <|
    coalescerTake s

/-- FATAL_EVENT_LOG (R439). -/
def execFatalEventLog (s : State) : Host.Outcome State Fault Refusal :=
  answer (.fatalEventLog) s <|
    fatalEventLog s

/-- INT_ACK (R426). -/
def execIntAck (src : Src) (s : State) : Host.Outcome State Fault Refusal :=
  answer (.intAck src) s <|
    intAck s

/-- FLT_CLEAR (R425). -/
def execFltClear (src : Src) (s : State) : Host.Outcome State Fault Refusal :=
  answer (.fltClear src) s <|
    fltClear s

/-- STORM_CLEAR (R433). -/
def execStormClear (src : Src) (s : State) : Host.Outcome State Fault Refusal :=
  answer (.stormClear src) s <|
    stormClear s

end Sys2Proof.Machine
end

