-- ==== Sys2Proof/Machine/Mover.lean ====
section
/-! DEFINITION. The mover and the vertical port (Table 3.12, R111, R165, R168, R226, R227). -/

namespace Sys2Proof.Machine

open Sys2Proof

/-! ## Queues and landing buffers of a switch -/

/-- Channel code of Table 6.1 (R164). -/
def chanCode : Chan → Nat
  | .v0 => 0
  | .v1 => 1
  | .scalar => 2
  | .control => 3

/-- Input or output code (R164). -/
def portCode : Port → Nat
  | .n => 0
  | .e => 1
  | .s => 2
  | .w => 3
  | .l => 4

/-- Queue code 5·ch + i (R164). -/
def qCode (ch : Chan) (p : Port) : Nat := 5 * chanCode ch + portCode p

/-- An input queue. -/
def queueOf (x : Core) (q : Nat) : List QFlit := sget (fun _ => []) x.queues q

/-- Set an input queue. -/
def setQueue (q : Nat) (l : List QFlit) (x : Core) : Core := { x with queues := sset (fun _ => []) x.queues q l }

/-- A landing buffer. -/
def landingOf (x : Core) (ch : Chan) : List QFlit := sget (fun _ => []) x.landing (chanCode ch)

/-- Set a landing buffer. -/
def setLanding (ch : Chan) (l : List QFlit) (x : Core) : Core :=
  { x with landing := sset (fun _ => []) x.landing (chanCode ch) l }

/-- Vector plane of a MOV as a channel. -/
def planeChan (p : Nat) : Chan := if p = 0 then .v0 else .v1

/-! ## Begun operations -/

/-- Tile descriptor of a MOV. -/
def movDesc (o : QOp) : Dword := opDesc o (movTag o.word)

/-- Lines of a MOV. -/
def movLines (o : QOp) : Nat := dLines (movDesc o)

/-- Replace a begun MOV. -/
def setMov (r r' : MovRun) (x : Core) : Core := { x with movs := x.movs.map fun q => if q == r then r' else q }

/-- Nothing more comes of a begun MOV. -/
def stopMov (c : Nat) (r : MovRun) (s : State) : State := modCore c (setMov r { r with stopped := true }) s

/-- Drop a begun MOV. -/
def dropMov (r : MovRun) (x : Core) : Core := { x with movs := eraseFirst (fun q => q == r) x.movs }

/-- The oldest begun MOV with an opcode, still running. -/
def runningMov (x : Core) (op : Nat) (p : MovRun → Bool) : Option MovRun :=
  x.movs.find? fun r => iOp r.op.word == op && !r.stopped && p r

/-! ## Hub-cache access through the vertical port -/

/-- Cirque of a core. -/
def coreCirque (c : Nat) : Nat := cirqueOfRidge (ridgeOf c)

/-- Index of the core in its cluster (R106). -/
def coreIndex (c : Nat) : Nat := 4 * (c / 96 % 4) + c % 4

/-- Raise a corrected or uncorrectable hub-cache error of a bank (Table 8.10), with the partitions it freezes. -/
def hubCheck (q bank : Nat) (ue : Bool) (ps : List Nat) (s : State) : State :=
  if ue then raise 6 q 1 1 bank (.parts ps) (bump32 6 q 0x64 0 1 (some (15, 3)) s)
  else raiseCe 6 q 0 bank (bump32 6 q 0x60 0 1 (some (15, 2)) s)

/-- Check of the vertical port (Table 3.20): an uncorrectable error freezes every core of the cluster. -/
def portCheck (c : Nat) (ecc : Ecc) (s : State) : State :=
  match ecc with
  | .ok => s
  | .corrected _ => raiseCe 4 (clusterOf c) 0 (coreIndex c) s
  | .uncorrectable _ => raise 4 (clusterOf c) 1 1 (coreIndex c) (.cores (clusterCores (clusterOf c))) s

/-- Checks of the vertical port, line by line. -/
def portChecks (c : Nat) : List Ecc → State → State
  | [], s => s
  | e :: t, s => portChecks c t (portCheck c e s)

/-- The corrected hub lines of an HRD from line h, as far as it got. -/
def hubChecks (q h n : Nat) : List Ecc → State → State
  | [], s => s
  | .corrected i :: t, s => hubChecks q h n t (if i < n then hubCheck q ((h + i) % 256) false [] s else s)
  | _ :: t, s => hubChecks q h n t s

/-! ## The vertical port's requests (Table 3.12, R82, R225, R226) -/

/-- Requests of one port, one for each of n lines from line l on, in given cycles. -/
def portWants (u : BankUser) (l : Nat) (ts : List Nat) : List Want := ts.zipIdx.map fun p => want u (l + p.2) p.1

/-- The cycles in which n lines are requested, one a cycle from cycle b on. -/
def lineCycles (b n : Nat) : List Nat := (List.range n).map (b + ·)

/-- The cycles of the bank accesses of an HRD (R226): its first request comes four cycles after its slot, and a retry delays its
line and every later one. -/
def hrdCycles (c : Nat) (r : MovRun) : List Nat :=
  servedAt (bankFrom (r.begun + 4) 0 [portWants (.hrd (clusterOf c)) (movHub r.op.word) (lineCycles (r.begun + 4) (movLines r.op))] r.chk.hub)
    userOfHub

/-- What the banks of the core make of an HRD's lines, each landing eight cycles after its bank access. -/
def hrdLanding (c : Nat) (r : MovRun) (e : BankEvents) : BankRun :=
  bankFrom (r.begun + 12) 0 [portWants .portIn (dBase (movDesc r.op)) ((hrdCycles c r).map (· + 8))] e

/-- What the banks of the core make of an HWR's reads, one a cycle from its slot. -/
def hwrReads (r : MovRun) : BankRun :=
  bankFrom r.begun 0 [portWants .portOut (dBase (movDesc r.op)) (lineCycles r.begun (movLines r.op))] r.chk.bank

/-- The cycles in which an HWR's lines are read, sent and accepted. -/
def hwrSent (r : MovRun) : List Nat := servedAt (hwrReads r) (· == .portOut)

/-- The cycles in which an HWR's lines reach the hub's banks. -/
def hwrCycles (c : Nat) (r : MovRun) : List Nat :=
  servedAt (bankFrom r.begun 0 [portWants (.hwr (clusterOf c)) (movHub r.op.word) (hwrSent r)] r.chk.hub) userOfHub

/-- The line that a running HWR of core c has put into hub line h before cycle t, and no later change has replaced. -/
def hwrPut (s : State) (q h t c : Nat) : Option Line :=
  match runningMov (core s c) 3 fun r => decide (movHub r.op.word ≤ h) && decide (h < movHub r.op.word + movLines r.op) with
  | none => none
  | some r =>
    let i := h - movHub r.op.word
    let w := (hwrCycles c r).getD i t
    if coreCirque c = q ∧ w < t ∧ !(s.mem.hubPast.any fun p => p.key == 2 ^ 20 * q + h && decide (w ≤ p.at_) && decide (p.at_ < t)) then
      some (tileSeen s c (movDesc r.op) i ((hwrSent r).getD i t))
    else none

/-- A hub line and its state as a bank access in cycle t finds them, with what the HWRs under way have written (R111). -/
def hubAt (s : State) (q h t : Nat) : Line × Nat :=
  match s.cores.findSome? fun e => hwrPut s q h t e.1 with
  | some x => (x, 0)
  | none => hubSeen s q h t

/-- A hub line and its state as they stand, with what the HWRs under way have written. -/
def hubNow (s : State) (q h : Nat) : Line × Nat :=
  match s.cores.findSome? fun e => hwrPut s q h s.now e.1 with
  | some x => (x, 0)
  | none => (hubLine s q h, lineSt s q h)

/-- The lines of an HRD as it reads them, each in the cycle of its bank access. -/
def hrdLines (s : State) (c : Nat) (r : MovRun) : List Line :=
  (hrdCycles c r).zipIdx.map fun p => (hubAt s (coreCirque c) (movHub r.op.word + p.2) p.1).1

/-- The index of the first line that an HRD finds PENDING or VOID in the cycle of its bank access, or that the check finds
uncorrectable, with what stops it: 1 hub_ue, 2 read_early, 3 void_read (Tables 8.2, 8.10). -/
def hrdStop (s : State) (c : Nat) (r : MovRun) : Option (Nat × Nat) :=
  (hrdCycles c r).zipIdx.findSome? fun p =>
    match (hubAt s (coreCirque c) (movHub r.op.word + p.2) p.1).2 with
    | 1 => some (p.2, 2)
    | 2 => some (p.2, 3)
    | _ => if r.chk.eccs.contains (.uncorrectable p.2) then some (p.2, 1) else none

/-- Land lines of a tile from line i on, in natural order. -/
def landLines (c : Nat) (d : Dword) : Nat → List Line → State → State
  | _, [], s => s
  | i, x :: t, s => landLines c d (i + 1) t (setTileLine c d i x s)

/-- A MOV meets nothing on its way. -/
def noChecks : MovChecks := ⟨[], ⟨[]⟩, ⟨[]⟩⟩

/-- MOV_BEGIN. The mover begins the MOV at the head of its queue, from the cycle after its issue on: the port slot of an HRD or
HWR (R111), with what it meets on its way. -/
def movBegin (c : Nat) (chk : MovChecks) (s : State) : State :=
  let x := core s c
  let t := s.now
  match x.movQ with
  | [] => s
  | o :: rest =>
    let op := iOp o.word
    let port := op = 2 ∨ op = 3
    if coreHalted s c || decide (t ≤ o.issuedAt) || (decide port && !(reg s 4 (clusterOf c) 8).getLsbD 0) then s
    else
      let s := setCore c { x with movQ := rest } s
      match op with
      | 2 => modCore c (fun x => { x with movs := x.movs ++ [⟨o, 0, t, chk, false⟩] }) s
      | 3 => modCore c (fun x => { x with movs := x.movs ++ [⟨o, 0, t, chk, false⟩] }) s
      | 4 =>
        addWire ⟨c, .scalar, .l, mkFlit (some (iJob o.word)) (movRoute o.word) x.colour false (BitVec.ofNat 512 o.scalar.toNat), t + 1⟩ s
      | 5 => if o.landed ≥ 1 then s else modCore c (fun x => { x with movs := x.movs ++ [⟨o, 0, t, noChecks, false⟩] }) s
      | 1 =>
        if o.landed > movLines o then s
        else modCore c (fun x => { x with movs := x.movs ++ [⟨o, o.landed, t, noChecks, false⟩] }) s
      | _ => modCore c (fun x => { x with movs := x.movs ++ [⟨o, 0, t, noChecks, false⟩] }) s

/-! ## SEND -/

/-- The begun SEND of a plane. -/
def sendOf (x : Core) (ch : Chan) : Option MovRun :=
  runningMov x 0 fun r => planeChan (movPlane r.op.word) == ch

/-- The flit of line i of a SEND, read in cycle u (R162). -/
def sendFlit (s : State) (c : Nat) (o : QOp) (i u : Nat) : Flit :=
  mkFlit (some (iJob o.word)) (movRoute o.word) (core s c).colour (i + 1 == movLines o) (tileSeen s c (movDesc o) i u)

/-- The mover read a line of the SEND of a plane, other than its last, in the cycle before this one: its flit. -/
def sendNext (c : Nat) (ch : Chan) (s : State) : Option (MovRun × Flit) :=
  match sendOf (core s c) ch with
  | none => none
  | some r =>
    if r.moved + 1 < movLines r.op ∧ r.begun + r.moved < s.now then some (r, sendFlit s c r.op r.moved (s.now - 1)) else none

/-- A line of a SEND has been read: it counts as moved, and is charged. -/
def sendMoved (c : Nat) (r : MovRun) (s : State) : State :=
  charge (iJob r.op.word) 4 1 (modCore c (setMov r { r with moved := r.moved + 1 }) s)

/-- SEND_COMPLETE. The mover reads the last line of the oldest SEND of the plane, if the plane's L queue has an entry
free; the SEND completes, and rel releases the tag in this cycle. -/
def sendComplete (c plane : Nat) (ecc : Ecc) (bank : BankEvents) (s : State) : State :=
  let x := core s c
  let ch := planeChan plane
  let t := s.now
  match sendOf x ch with
  | none => s
  | some r =>
    let room := decide ((queueOf x (qCode ch .l)).length < 8)
    if coreInReset s c || r.moved + 1 != movLines r.op || !room || decide (t < r.begun + r.moved) then s
    else
      let s := countBanks c (bankCount userOfNet bank) s
      if dataWithheld ecc then stopMov c r (sramCheck c ecc s)
      else
        let f := sendFlit s c r.op r.moved t
        let s := charge (iJob r.op.word) 4 1 (sramCheck c ecc (addWire ⟨c, ch, .l, f, t + 1⟩ s))
        sramForget c (modCore c (fun x =>
          retireSlots (clearTags t (if movRel r.op.word then [movTag r.op.word] else []) (dropMov r (noteRing t x)))) s)

/-! ## Landing: RECV and SRECV (R168) -/

/-- The opcode that a channel lands into. -/
def landOp (ch : Chan) : Nat := if ch = .scalar then 5 else 1

/-- Flits that a RECV or SRECV takes. -/
def landCount (o : QOp) : Nat := if iOp o.word = 5 then 1 else movLines o

/-- A RECV or SRECV names the flit's route and channel. -/
def landMatches (ch : Chan) (f : Flit) (o : QOp) : Bool :=
  iOp o.word == landOp ch && movRoute o.word == f.route.toNat && (ch == .scalar || planeChan (movPlane o.word) == ch)

/-- Where a flit lands: the oldest RECV or SRECV, begun or queued. -/
inductive LandInto where
  | begun (r : MovRun)
  | queued (o : QOp)
  deriving DecidableEq, Repr

/-- The oldest RECV or SRECV that takes the flit. -/
def landInto (x : Core) (ch : Chan) (f : Flit) : Option LandInto :=
  match x.movs.find? fun r => landMatches ch f r.op && decide (r.moved < landCount r.op) with
  | some r => some (.begun r)
  | none =>
    match x.movQ.find? fun o => landMatches ch f o && decide (o.landed < landCount o) with
    | some o => some (.queued o)
    | none => none

/-- Replace a queued MOV. -/
def setQueued (o o' : QOp) (x : Core) : Core := { x with movQ := x.movQ.map fun q => if q == o then o' else q }

/-- One flit counted as landed; an SRECV is then complete. -/
def landed (dest : LandInto) (x : Core) : Core :=
  match dest with
  | .begun r => if iOp r.op.word = 5 then dropMov r x else setMov r { r with moved := r.moved + 1 } x
  | .queued o => setQueued o { o with landed := o.landed + 1 } x

/-- The operation a flit lands into, and the flits it has taken. -/
def landState : LandInto → QOp × Nat
  | .begun r => (r.op, r.moved)
  | .queued o => (o, o.landed)

/-- FLIT_LAND. The oldest flit of a landing buffer is written. The last line of a tile must carry last = 1, and no
other line. -/
def flitLand (c : Nat) (ch : Chan) (s : State) : State :=
  let x := core s c
  match landingOf x ch with
  | [] => s
  | f :: rest =>
    if decide (s.now < f.at_) || coreInReset s c then s
    else
      match landInto x ch f.flit with
      | none => s
      | some dest =>
        let (o, i) := landState dest
        if ch = .scalar then
          modCore c (fun x => landed dest (setSreg (movSreg o.word) (BitVec.ofNat 32 f.flit.payload.toNat) (setLanding ch rest x))) s
        else if f.flit.last != (i + 1 == movLines o) then
          raise 5 c 18 1 (qCode ch .l + 32 * f.flit.route.toNat + 2 ^ 11 * 2) (.core c) s
        else
          charge (iJob o.word) 4 1
            (setTileLine c (movDesc o) i f.flit.payload
              (modCore c (fun x => landed dest (setLanding ch rest x)) (noteSram c [dBase (movDesc o) + i] s)))

/-- RECV_COMPLETE. The last flit of the oldest RECV of the plane has landed: the tag's valid bit is set. -/
def recvComplete (c plane : Nat) (bank : BankEvents) (s : State) : State :=
  let x := core s c
  let ch := planeChan plane
  let t := s.now
  let mine := fun (o : QOp) => iOp o.word == 1 && planeChan (movPlane o.word) == ch
  if coreInReset s c then s
  else
    match x.movs.find? fun r => mine r.op && r.moved == movLines r.op with
    | some r => modCore c (fun x => setTag t (movTag r.op.word) (dropMov r x)) (countBanks c (bankCount userOfNet bank) s)
    | none =>
      match x.movQ.find? fun o => mine o && o.landed == movLines o with
      | some o =>
        modCore c (fun x => setTag t (movTag o.word) (setQueued o { o with landed := o.landed + 1 } x))
          (countBanks c (bankCount userOfNet bank) s)
      | none => s

/-! ## HRD and HWR -/

/-- Charges of the lines that pass a vertical port (Table 14.2): port lines, hub accesses, core SRAM accesses. -/
def chargePort (c job n : Nat) (s : State) : State :=
  chargePart (partOf s c) 9 n (charge job 4 n (charge job 9 n (charge job 8 n s)))

/-- The changes of a Cirque's hub lines need not be kept any longer, once no MOV of its cores runs. -/
def hubForget (q : Nat) (s : State) : State :=
  if hubInUse s q then s
  else { s with mem := { s.mem with hubPast := s.mem.hubPast.filter fun p => p.key / 2 ^ 20 != q } }

/-- The first k lines of an HRD land: the reads of the vertical port are counted and charged (R111). -/
def hrdLand (c : Nat) (r : MovRun) (k : Nat) (s : State) : State :=
  let d := movDesc r.op
  let lines := (hrdLines s c r).take k
  chargePort c (iJob r.op.word) k (bump48 4 (clusterOf c) 0x50 0 k none
    (landLines c d 0 lines (noteSram c ((List.range k).map (dBase d + ·)) s)))

/-- An HRD finds line i withheld (R227): it stops in the cycle of that bank access, and the lines that have landed by then are
those of the core (R440). -/
def hrdStopped (c : Nat) (r : MovRun) (b : BankRun) (i why : Nat) (s : State) : State :=
  let q := coreCirque c
  let h := movHub r.op.word
  let t := (hrdCycles c r).getD i s.now
  let s := hubChecks q h i r.chk.eccs (passTo t s)
  let s := hubForget q (stopMov c r (hrdLand c r ((servedAt b (· == .portIn)).filter (decide <| · ≤ t)).length s))
  let p := [partOf s c]
  if why = 1 then hubCheck q ((h + i) % 256) true p s else raise 6 q why 1 (clusterOf c) (.parts p) s

/-- HRD_COMPLETE. The oldest HRD ends: its last line lands, 12 cycles and its lines after its port slot, and the tag's valid
bit is set (R226); or the first line withheld stops it, at the hub's bank or by the check of the vertical port (`eccs`, line by
line): the lines before it land. -/
def hrdComplete (c : Nat) (eccs : List Ecc) (bank : BankEvents) (s : State) : State :=
  match runningMov (core s c) 2 fun _ => true with
  | none => s
  | some r =>
    if coreInReset s c then s
    else
      let q := coreCirque c
      let n := movLines r.op
      let b := hrdLanding c r bank
      let ts := servedAt b (· == .portIn)
      match hrdStop s c r with
      | some (i, why) => hrdStopped c r b i why s
      | none =>
        let k := (eccs.findIdx? dataWithheld).getD n
        let s := hubChecks q (movHub r.op.word) n r.chk.eccs (countBanks c b (passTo (ts.getD (min k (n - 1)) s.now) s))
        if k < n then hubForget q (portChecks c (eccs.take (k + 1)) (stopMov c r (hrdLand c r k s)))
        else
          let s := portChecks c eccs (hrdLand c r n s)
          hubForget q (modCore c (fun x => setTag s.now (movTag r.op.word) (dropMov r x)) s)

/-- Write lines to the hub cache from hub line h on, each READY or VOID before: a VOID line becomes READY. -/
def writeHub (q : Nat) : Nat → List Line → State → State
  | _, [], s => s
  | h, x :: t, s => writeHub q (h + 1) t (setLineSt q 0 [h] (setHubLine q h x s))

/-- A line of an HWR reaches hub line h in cycle w, READY or VOID before: a VOID line becomes READY. What has changed the line
since stands. -/
def hwrPutLine (q h w : Nat) (x : Line) (s : State) : State :=
  if s.mem.hubPast.any fun p => p.key == 2 ^ 20 * q + h && decide (w < p.at_) then s
  else atCycle w (fun s => setLineSt q 0 [h] (setHubLine q h x s)) s

/-- Lines of an HWR, each with its data and the cycle in which it reaches its bank. -/
def hwrPutLines (q : Nat) : Nat → List (Nat × Line) → State → State
  | _, [], s => s
  | h, p :: t, s => hwrPutLines q (h + 1) t (hwrPutLine q h p.1 p.2 s)

/-- The lines of an HWR as they are read, with the cycles in which they reach the hub's banks. -/
def hwrLines (s : State) (c : Nat) (r : MovRun) : List (Nat × Line) :=
  (hwrCycles c r).zip ((hwrSent r).zipIdx.map fun p => tileSeen s c (movDesc r.op) p.2 p.1)

/-- The first k lines of an HWR reach the hub: they are counted and charged (R111). -/
def hwrWrite (c : Nat) (r : MovRun) (k : Nat) (s : State) : State :=
  chargePort c (iJob r.op.word) k (bump48 4 (clusterOf c) 0x58 0 k none
    (hwrPutLines (coreCirque c) (movHub r.op.word) ((hwrLines s c r).take k) s))

/-- A core is about to be reset: the lines that its HWRs have sent so far are in the hub (R111). -/
def hwrFlush (c : Nat) : List MovRun → State → State
  | [], s => s
  | r :: t, s =>
    hwrFlush c t
      (if iOp r.op.word == 3 && !r.stopped then hwrWrite c r ((hwrSent r).filter (decide <| · < s.now)).length s else s)

/-- What stops an HWR. -/
inductive HwrStop where
  /-- The check of core SRAM withholds a line. -/
  | sram
  /-- So does that of the vertical port. -/
  | port
  /-- A line is PENDING. -/
  | pending
  deriving DecidableEq, Repr

/-- The first line that stops an HWR, and what does. -/
def hwrStop (s : State) (c : Nat) (r : MovRun) (eccs port : List Ecc) : Option (Nat × HwrStop) :=
  (hwrCycles c r).zipIdx.findSome? fun p =>
    if eccs.contains (.uncorrectable (dBase (movDesc r.op) + p.2)) then some (p.2, .sram)
    else if dataWithheld (port.getD p.2 .ok) then some (p.2, .port)
    else if (hubSeen s (coreCirque c) (movHub r.op.word + p.2) p.1).2 = 1 then some (p.2, .pending)
    else none

/-- The checks of core SRAM that name line l. -/
def eccOf (l : Nat) (eccs : List Ecc) : List Ecc :=
  eccs.filter fun e => match e with | .corrected i => i == l | .uncorrectable i => i == l | .ok => false

/-- The checks of an HWR's lines, each in the cycle in which it is read and sent (R85, R111). -/
def hwrChecks (c : Nat) (d : Dword) (eccs port : List Ecc) : List (Nat × Nat) → State → State
  | [], s => s
  | (t, i) :: l, s =>
    let line := eccOf (dBase d + i) eccs
    hwrChecks c d eccs port l
      (atCycle t (fun s =>
        if anyWithheld line then sramChecks c line s else portCheck c (port.getD i .ok) (sramChecks c line s)) s)

/-- HWR_COMPLETE. The port accepts the last line of the oldest HWR (R111): each line was read, sent and accepted in a cycle of its
own. The HWR stops at the first line that core SRAM (`eccs`) or the vertical port (`port`, line by line) withholds, or that is
PENDING in the hub, a write conflict: the lines before it are written. -/
def hwrComplete (c : Nat) (eccs port : List Ecc) (s : State) : State :=
  match runningMov (core s c) 3 fun _ => true with
  | none => s
  | some r =>
    if coreInReset s c then s
    else
      let q := coreCirque c
      let d := movDesc r.op
      let n := movLines r.op
      let sent := hwrSent r
      let stop := hwrStop s c r eccs port
      let k := match stop with | some p => p.1 | none => n
      let last := match stop with
        | some (i, .pending) => (hwrCycles c r).getD i s.now
        | some (i, _) => sent.getD i s.now
        | none => sent.getD (n - 1) s.now
      let s := hwrWrite c r k (countBanks c (hwrReads r) (passTo last s))
      let s := hwrChecks c d eccs port (sent.zipIdx.take (k + 1)) s
      match stop with
      | some (_, .pending) => hubForget q (sramForget c (raise 6 q 4 1 (clusterOf c) (.parts [partOf s c]) (stopMov c r s)))
      | some _ => hubForget q (sramForget c (stopMov c r s))
      | none =>
        hubForget q (sramForget c (modCore c (fun x =>
          retireSlots (clearTags last (if movRel r.op.word then [movTag r.op.word] else []) (dropMov r (noteRing last x)))) s))

/-! ## Rows -/

/-- SEND (R165). -/
def execSend (dt core : Nat) (st : Stream) (ecc : Ecc) (s : State) : Host.Outcome State Fault Refusal :=
  answer (.send dt core st ecc) s <|
    issue 3 0 core st ecc (elapse dt s)

/-- RECV (R168). -/
def execRecv (dt core : Nat) (st : Stream) (ecc : Ecc) (s : State) : Host.Outcome State Fault Refusal :=
  answer (.recv dt core st ecc) s <|
    issue 3 1 core st ecc (elapse dt s)

/-- HRD (R226). -/
def execHrd (dt core : Nat) (st : Stream) (ecc : Ecc) (s : State) : Host.Outcome State Fault Refusal :=
  answer (.hrd dt core st ecc) s <|
    issue 3 2 core st ecc (elapse dt s)

/-- HWR (R111). -/
def execHwr (dt core : Nat) (st : Stream) (ecc : Ecc) (s : State) : Host.Outcome State Fault Refusal :=
  answer (.hwr dt core st ecc) s <|
    issue 3 3 core st ecc (elapse dt s)

/-- SSEND (R168). -/
def execSsend (dt core : Nat) (st : Stream) (ecc : Ecc) (s : State) : Host.Outcome State Fault Refusal :=
  answer (.ssend dt core st ecc) s <|
    issue 3 4 core st ecc (elapse dt s)

/-- SRECV (R168). -/
def execSrecv (dt core : Nat) (st : Stream) (ecc : Ecc) (s : State) : Host.Outcome State Fault Refusal :=
  answer (.srecv dt core st ecc) s <|
    issue 3 5 core st ecc (elapse dt s)

/-- MOV_BEGIN (R111). -/
def execMovBegin (dt core : Nat) (chk : MovChecks) (s : State) : Host.Outcome State Fault Refusal :=
  answer (.movBegin dt core chk) s <|
    movBegin core chk (elapse dt s)

/-- SEND_COMPLETE (R165). -/
def execSendComplete (dt core : Nat) (plane : Nat) (ecc : Ecc) (bank : BankEvents) (s : State) : Host.Outcome State Fault Refusal :=
  answer (.sendComplete dt core plane ecc bank) s <|
    sendComplete core plane ecc bank (elapse dt s)

/-- RECV_COMPLETE (R168). -/
def execRecvComplete (dt core : Nat) (plane : Nat) (bank : BankEvents) (s : State) : Host.Outcome State Fault Refusal :=
  answer (.recvComplete dt core plane bank) s <|
    recvComplete core plane bank (elapse dt s)

/-- HRD_COMPLETE (R226). -/
def execHrdComplete (core : Nat) (eccs : List Ecc) (bank : BankEvents) (s : State) : Host.Outcome State Fault Refusal :=
  answer (.hrdComplete core eccs bank) s <|
    hrdComplete core eccs bank s

/-- HWR_COMPLETE (R111). -/
def execHwrComplete (core : Nat) (eccs port : List Ecc) (s : State) : Host.Outcome State Fault Refusal :=
  answer (.hwrComplete core eccs port) s <|
    hwrComplete core eccs port s

/-- FLIT_LAND (R168). -/
def execFlitLand (dt core : Nat) (ch : Chan) (s : State) : Host.Outcome State Fault Refusal :=
  answer (.flitLand dt core ch) s <|
    flitLand core ch (elapse dt s)

end Sys2Proof.Machine
end

