-- ==== Sys2Proof/Machine/Image.lean ====
section
/-! DEFINITION. Schedule images as they lie in their staging window (R55 to R61): header, directory, system description,
job table, move lists and energy declarations. -/

namespace Sys2Proof.Machine

open Sys2Proof

/-- A directory entry (Table 2.4). -/
structure DirEnt where
  type : Nat
  inst : Nat
  job : Nat
  rsvd : Nat
  off : Nat
  len : Nat
  deriving DecidableEq, Repr

/-- Directory entry k of the image at an address. -/
def dirEnt (s : State) (addr k : Nat) : DirEnt :=
  let d := physBytes s (addr + physNat s (addr + 0x18) 4 + 16 * k) 16
  let n := leNat d
  ⟨bitsOf n 15 0, bitsOf n 31 16, bitsOf n 39 32, bitsOf n 63 40, 64 * bitsOf n 95 64, bitsOf n 127 96⟩

/-- The directory of the image at an address. -/
def dirOf (s : State) (addr : Nat) : List DirEnt :=
  (List.range (physNat s (addr + 0x1C) 4)).map (dirEnt s addr)

/-- The section of a type and instance. -/
def sectionOf (s : State) (addr type inst : Nat) : Option DirEnt :=
  (dirOf s addr).find? fun d => d.type == type && d.inst == inst

/-- A move-list entry (Table 2.9). -/
structure MoveEnt where
  hbm : Nat
  job : Nat
  toHbm : Bool
  hub : Nat
  lines : Nat
  issueFrame : Nat
  issueTick : Nat
  deadline : Nat
  consumer : Nat
  /-- The reserved fields together; 0 in a legal entry. -/
  rsvd : Nat
  deriving DecidableEq, Repr

/-- A move-list entry from its 32 bytes. -/
def moveEntOf (b : List Byte) : MoveEnt :=
  let n := leNat b
  ⟨bitsOf n 39 0, bitsOf n 47 40, bitOf n 48, bitsOf n 83 64, bitsOf n 127 96, bitsOf n 143 128, bitsOf n 159 144,
   bitsOf n 191 160, bitsOf n 207 192, bitsOf n 63 49 + bitsOf n 95 84 + bitsOf n 255 208⟩

/-- Entry k of a move list. -/
def moveEnt (s : State) (addr : Nat) (d : DirEnt) (k : Nat) : MoveEnt :=
  moveEntOf (physBytes s (addr + d.off + 32 * k) 32)

/-- The move list that the active image names for a Cirque (R233). -/
def moveList (s : State) (c : Nat) : List MoveEnt :=
  match s.sched.active with
  | none => []
  | some im =>
    match sectionOf s im.addr 0x20 c with
    | none => []
    | some d => (List.range (d.len / 32)).map (moveEnt s im.addr d)

/-- δ of a move (R60): frames from issue to consumer. -/
def moveDelta (period : Nat) (m : MoveEnt) : Nat := (m.consumer + 2 * period - m.issueFrame - 1) % period + 1

/-- Declared energy of a job in a period position, µJ (R61). -/
def declared (s : State) (row job : Nat) : Nat :=
  match s.sched.active with
  | none => 0
  | some im =>
    if im.jobs.any (·.id == job) then
      match sectionOf s im.addr 0x30 0 with
      | none => 0
      | some d => physNat s (im.addr + d.off + 32 * row + 4 * job) 4
    else 0

/-- The image's period in frames; 1 with no image. -/
def periodOf (s : State) : Nat := match s.sched.active with | some im => max 1 im.period | none => 1

/-- The period position at which a job's moves and declarations stand (R392). -/
def jobPos (s : State) (j : Nat) : Nat :=
  match jobOf s j with
  | some b => if b.serving then s.energy.devPos else s.energy.trainPos
  | none => s.energy.devPos

end Sys2Proof.Machine
end

