-- ==== Sys2Proof/Machine/Pairing.lean ====
section
/-! DEFINITION. Cairn slots, the start of a restore, and the comparisons of a pair (12_pairing_and_recovery.md). -/

namespace Sys2Proof.Machine

open Sys2Proof

/-! ## Digests (R343) -/

/-- Line digest of a line with index k. -/
def lineDigest (k : Nat) (d : List Byte) : Dword := BitVec.ofNat 64 (leNat (shake256 8 (leBytes 4 k ++ d)))

/-- XOR of the line digests of n lines from an address, k counted from `k`. -/
def rangeDigest (s : State) (a k n : Nat) : Dword :=
  xorAll ((List.range n).map fun i => lineDigest (k + i) (physLine s (a + 64 * i)))

/-- Tile digests of a move's lines (R343): one for every 64 lines. -/
def tileDigests (s : State) (a n : Nat) : List Dword :=
  (List.range (ceilDiv n 64)).map fun g => rangeDigest s (a + 4096 * g) (64 * g) (min 64 (n - 64 * g))

/-! ## Cairn slots as their headers give them (Table 12.2) -/

/-- Bytes of a Cairn slot. -/
def slotBytes (s : State) : Nat := 4096 * field (reg s 0x17 0 0x48) 27 0

/-- A little-endian header field. -/
def slotField (s : State) (i off n : Nat) : Nat := physNat s (cairnAddr s i + off) n

/-- State of a slot: OPEN while its capture is in progress, otherwise as the header's magic and seal byte give it
(R342, R381): 0 EMPTY, 1 OPEN, 2 SEALED, 3 VOID. -/
def slotSt (s : State) (i : Nat) : Nat :=
  if s.cairn.captures.any (·.slot == i) then 1
  else if slotField s i 0 4 = 0x4E524143 then
    (if slotField s i 6 1 = 1 then 2 else if slotField s i 6 1 = 0 ∨ slotField s i 6 1 = 2 then 3 else 0)
  else 0

/-- First byte of the core part within a slot: after the header and the reinstatement list, in whole lines
(log entry 22). -/
def corePart (entries : Nat) : Nat := 0x2000 + 64 * ceilDiv (32 * entries) 64

/-- Digest of the header and the core part of a slot; the digest field and the seal byte are read as 0. -/
def headDigest (s : State) (i : Nat) : Dword :=
  let a := cairnAddr s i
  let h := physLine s a
  let h0 := h.take 6 ++ [0] ++ (h.drop 7).take 41 ++ List.replicate 8 0 ++ h.drop 56
  let c := corePart (slotField s i 0x24 4)
  lineDigest 0 h0 ^^^ rangeDigest s (a + 64) 1 127 ^^^ rangeDigest s (a + c) (c / 64) (32 * 9216)

/-- A reinstatement entry (Table 12.3). -/
structure Reinst where
  src : Nat
  core : Option (Nat × Nat)
  hbm : Nat
  lines : Nat
  deriving DecidableEq, Repr

/-- Entry k of a slot. -/
def reinst (s : State) (i k : Nat) : Reinst :=
  let n := leNat (physBytes s (cairnAddr s i + 0x2000 + 32 * k) 32)
  ⟨cairnAddr s i + 64 * bitsOf n 39 0, if bitOf n 127 then some (bitsOf n 113 100, bitsOf n 72 64) else none,
   bitsOf n 103 64, bitsOf n 159 128⟩

/-- The reinstatement entries of a slot. -/
def reinsts (s : State) (i : Nat) : List Reinst := (List.range (slotField s i 0x24 4)).map (reinst s i)

/-- What a recomputed Cairn digest covers, as extents (line address, lines): the header, the
reinstatement list and the core part, then the tensor part. A restore is not bound to the image of the capture, so the ranges
that the capture moves wrote are taken from the list, one move for each entry (DESIGN CHOICE, log entry 22). -/
def cairnExtents (s : State) (i : Nat) : List (Nat × Nat) :=
  let a := cairnAddr s i
  [(a, corePart (slotField s i 0x24 4) / 64 + 32 * 9216)] ++ (reinsts s i).map fun e => (e.src, e.lines)

/-- The Cairn digest recomputed from HBM (R346). The reinstatement list is what one capture move wrote, to the lines after the
header (log entry 22). -/
def cairnDigestNow (s : State) (i : Nat) : Dword :=
  headDigest s i ^^^ rangeDigest s (cairnAddr s i + 0x2000) 0 (ceilDiv (32 * slotField s i 0x24 4) 64) ^^^
    xorAll ((reinsts s i).map fun e => rangeDigest s e.src 0 e.lines)

/-! ## Starting a restore (R346, R350) -/

/-- A T7 stream record (Table 12.5). -/
structure T7Rec where
  stream : Nat
  used : Bool
  w : Nat
  dl : Nat
  c : Nat
  key : Nat
  deriving DecidableEq, Repr

/-- Record k of the streams of a slot. Where the records lie is not stated (log entry 23). -/
def t7Rec (s : State) (i k : Nat) : T7Rec :=
  let base := (Config.streamRecords (slotField s i 8 8) (slotField s i 0x990 4)).toNat
  let n := leNat (physBytes s (cairnAddr s i + base + 48 * k) 48)
  ⟨bitsOf n 15 0 % 4096, bitOf n 16, bitsOf n 63 32, bitsOf n 127 64, bitsOf n 255 128, bitsOf n 383 256⟩

/-- The stream records of a slot. -/
def t7Recs (s : State) (i : Nat) : List T7Rec := (List.range (slotField s i 0x990 4)).map (t7Rec s i)

/-- Reason for which a used stream record rejects a restore, 0 for none (R350). -/
def t7Reject (d : Nat) (r : T7Rec) : Nat :=
  if !r.used then 0 else if r.dl < d then 5 else if 65535 < (r.dl - d) * r.w then 6 else 0

/-- Set the streams of a T7 restore, reporting each that is skewed. -/
def t7Set (d : Nat) : List T7Rec → State → State
  | [], s => s
  | r :: t, s =>
    if !r.used then t7Set d t s
    else
      let delta := (r.dl - d) * r.w
      let x := sget (fun _ => RngSt.reset) s.rng r.stream
      let y : RngSt := { x with key := BitVec.ofNat 128 r.key, t7 := true, keySet := true, cur := BitVec.ofNat 64 d,
                                base := BitVec.ofNat 128 (r.c + 2 ^ 128 - delta) }
      let s := { s with rng := sset (fun _ => RngSt.reset) s.rng r.stream y }
      if delta = 0 then t7Set d t s
      else t7Set d t (logEvent 0x0022 0x17 0 0 (leBytes 2 r.stream ++ [0, 0] ++ leBytes 4 delta)
        (raiseCe 0x17 0 3 r.stream { s with cairn := { s.cairn with skew := s.cairn.skew + 1 } }))

/-- A restore is rejected with a reason (R346). -/
def restoreReject (slot reason : Nat) (s : State) : State :=
  raiseCe 0x17 0 1 (reason + 16 * slot) { s with cairn := { s.cairn with reason := reason } }

/-- First failing check of R346, 0 for none. -/
def restoreCheck (s : State) (slot : Nat) (jobs : BitVec 8) : Nat :=
  if slotSt s slot ≠ 2 then 1
  else if (rget64 s (regKey 0x17 0 0x4C 0)).toNat ≠ slotField s slot 8 8 then 2
  else if (partsOfJobs s jobs).any fun p => !partFrozen s p then 3
  else if (cairnDigestNow s slot).toNat ≠ slotField s slot 0x30 8 then 4
  else if slotField s slot 4 1 = 1 then
    (((t7Recs s slot).map (t7Reject (slotField s slot 0x38 8))).find? fun r => r != 0).getD 0
  else 0

/-- CAIRN_CMD RESTORE (R346): reject, or begin reinstating. `errs` gives the errors of the lines that the Crest reads for
the digest (R242); one that it cannot read fails the digest (DEDUCED, log entry 48). -/
def restoreStart (slot : Nat) (jobs : BitVec 8) (errs : List (Nat × SymErrs)) (s : State) : State :=
  let early := restoreCheck s slot jobs
  let whole := if [1, 2, 3].contains early then (true, s) else crestRead (cairnExtents s slot) errs s
  let s := whole.2
  match (if whole.1 then early else 4) with
  | 0 =>
    let t7 := slotField s slot 4 1 == 1
    let s := { s with cairn := { s.cairn with restore := some ⟨slot, jobs, 1, 0, s.now, 0⟩, lastSlot := slot,
                                              accepted := false, t7 := t7, skew := 0 } }
    if t7 then t7Set (slotField s slot 0x38 8) (t7Recs s slot) s else s
  | r => restoreReject slot r s

/-! ## The pair (R354, R355) -/

/-- PAIR_CFG.partner. -/
def partnerOf (s : State) : Nat := field (reg s 0x18 0 0x40) 8 0

/-- The pair links in UP with the partner as peer. -/
def partnerLinks (s : State) : List Nat := (pairLinks s).filter fun l => (link s l).peerDevice == partnerOf s

/-- The partner meets its part of R354, as its links told (log entry 24): it has enable = 1, names this device, and has
the opposite role. -/
def partnerReady (s : State) : Bool :=
  (partnerLinks s).any fun l =>
    match (link s l).peerId with
    | some x => x.pair.enable && x.pair.partner == s.dev.flash.config.deviceIndex && x.pair.role + pairRole s == 3
    | none => false

/-- What this end tells of itself (R273, R354). -/
def ownId (s : State) (l : Nat) (transit : Option Nat) : LinkId :=
  ⟨s.dev.flash.config.deviceIndex, l, field (reg s 9 l 0x44) 11 0, (link s l).passed, transit,
   ⟨(reg s 0x18 0 0x40).getLsbD 9, field (reg s 0x18 0 0x40) 8 0, pairRole s⟩⟩

/-- Its service slot of type 0x02, as the model lays it out (log entry 21). -/
def idSlot (i : LinkId) : Slot :=
  ⟨0, 5, 0, false, BitVec.ofNat 512 (2 + 2 ^ 8 * (i.device % 2 ^ 16) + 2 ^ 24 * (i.link % 2 ^ 8) + 2 ^ 32 * (i.l8 % 2 ^ 16) +
    2 ^ 48 * i.lanes.toNat + 2 ^ 56 * (i.transit.getD 0 % 2 ^ 16) + 2 ^ 72 * bit01 i.pair.enable + 2 ^ 73 * (i.pair.role % 4) +
    2 ^ 80 * (i.pair.partner % 2 ^ 16))⟩

/-- This end's pairing changed: each pair link in UP tells its peer (DESIGN CHOICE, log entry 24). -/
def tellPairing (s : State) : State :=
  ((pairLinks s).filter fun l => (link s l).st == 5).foldl
    (fun s l => sendSlot (idSlot (ownId s l none)) [l] s) s

/-- Form or dissolve the pair as its conditions now stand (R354). -/
def pairCheck (s : State) : State :=
  let cfg := (reg s 0x18 0 0x40).getLsbD 9 && (pairRole s == 1 || pairRole s == 2) && partnerReady s
  let up := (partnerLinks s).length
  if cfg && decide (2 ≤ up) then
    if s.pair.formed ∨ s.pair.st = 4 ∨ s.pair.st = 5 then s
    else { s with pair := { s.pair with formed := true, st := 1 } }
  else if s.pair.formed then
    let s := { s with pair := { s.pair with formed := false, st := if s.pair.st ≥ 4 then s.pair.st else 0,
                                            own := [], peer := [], seeking := none } }
    if up < 2 then raiseCe 0x18 0 2 up s else s
  else s

/-- Content of a pair message as the model lays it out (log entry 21). -/
def pairContent (v : PairVal) : List Byte :=
  leBytes 4 v.place ++ leBytes 8 v.step.toNat ++ leBytes 8 v.value.toNat ++ leBytes 8 v.value2.toNat

/-- The service slots of a longer message: pieces of 62 bytes. -/
def mgmtSlots (code : Nat) : Nat → List Byte → List Slot
  | 0, _ => []
  | n + 1, b => mgmtSlot code (b.take 62) :: (if (b.drop 62).isEmpty then [] else mgmtSlots code n (b.drop 62))

/-- Send a pair message on every pair link in UP. -/
def pairSend (code : Nat) (content : List Byte) (s : State) : State :=
  (mgmtSlots code (content.length + 1) content).foldl (fun s x => sendSlot x (pairLinks s) s) s

/-- PAIR_DIV shows this place and step with this kind. -/
def sameDivergence (s : State) (kind place : Nat) (step : Dword) : Bool :=
  let d := reg s 0x18 0 0x54
  field d 1 0 == kind && field d 31 16 == place % 2 ^ 16 && rget64 s (regKey 0x18 0 0x58 0) == step

/-- PAIR_CFG.max_rollback; 0 acts as 1. -/
def maxRollback (s : State) : Nat := max 1 (field (reg s 0x18 0 0x40) 14 11)

/-- Training partitions held, unresolved (R358, Table 12.7). -/
def pairHeld (kind : Nat) (s : State) : State :=
  raise 0x18 0 4 1 kind (.parts (trainingParts s)) { s with pair := { s.pair with st := 4 } }

/-- The training jobs of a set. -/
def trainingOf (s : State) (jobs : BitVec 8) : List Nat :=
  (List.range 8).filter fun j => jobs.getLsbD j && isTraining s j

/-- The newest SEALED slot that the partner has matched, with its tick (R357). -/
def newestMatched (s : State) : Option (Nat × Nat) :=
  ((List.range 4).filter fun i => slotSt s i == 2 && sget (fun _ => false) s.cairn.matched i).foldl
    (fun b i => match b with
      | some (_, t) => if t < slotField s i 0x18 8 then some (i, slotField s i 0x18 8) else b
      | none => some (i, slotField s i 0x18 8)) none

/-- Restore the older of the two proposals once both are known (R357): the captured training jobs, whose partitions are
frozen. -/
def rollbackIfAgreed (s : State) : State :=
  match s.pair.candidate, s.pair.peerCandidate with
  | some (i, t), some (j, u) =>
    let slot := if t.toNat ≤ u.toNat then i else j
    let s := { s with pair := { s.pair with candidate := none, peerCandidate := none } }
    let jobs := (trainingOf s (BitVec.ofNat 8 (slotField s slot 5 1))).map fun j => 2 ^ j
    restoreStart slot (BitVec.ofNat 8 jobs.sum) [] s
  | _, _ => s

/-- Begin a rollback, or hold after too many in a row (R357, R358). -/
def rollback (kind : Nat) (s : State) : State :=
  if maxRollback s ≤ s.pair.rollbacks then pairHeld kind s
  else
    let s := bump48 0x18 0 0x6C 0 1 (some (7, 0))
      { s with pair := { s.pair with st := 2, rollbacks := s.pair.rollbacks + 1 } }
    match newestMatched s with
    | some (i, t) =>
      let s := { s with pair := { s.pair with candidate := some (i, BitVec.ofNat 64 t) } }
      rollbackIfAgreed (pairSend 0x14 ([1, BitVec.ofNat 8 i] ++ leBytes 8 t) s)
    | none => s

/-- Record a divergence's kind and place (R358). -/
def recordDivergence (kind place : Nat) (step : Dword) (again : Bool) (s : State) : State :=
  rset64 (regKey 0x18 0 0x58 0) step
    (setReg 0x18 0 0x54 (BitVec.ofNat 32 (kind + 4 * bit01 again + 2 ^ 16 * (place % 2 ^ 16))) s)

/-- A divergence (R357): raised, the training partitions frozen. A trace or loss repeat leads to HELD; a shard waits for
its tile digests; anything else rolls back. A device in HELD or FAULT stays in it (R358). -/
def diverge (v : PairVal) (kind place : Nat) (s : State) : State :=
  let same := sameDivergence s kind place v.step
  let again := same && kind != 1
  let s := if kind = 1 ∧ same then s else setReg 0x18 0 0x60 0 (recordDivergence kind place v.step again s)
  let s := raise 0x18 0 0 1 (kind + 4 * bit01 again) (.parts (trainingParts s))
    { s with pair := { s.pair with st := if 4 ≤ s.pair.st then s.pair.st else 2, own := [], peer := [] } }
  if 4 ≤ s.pair.st then s
  else if again then pairHeld kind s
  else if kind = 1 then
    let t := tileDigests s v.addr v.lines
    pairSend 0x14 (2 :: (t.map fun d => leBytes 8 d.toNat).flatten)
      { s with pair := { s.pair with tiles := some t, seeking := some v } }
  else rollback kind s

/-- The partitions in which the serving job runs. -/
def servingParts (s : State) : List Nat :=
  (partsNow s).filter fun p => match s.sched.active with
    | some im => im.jobs.any fun b => b.serving && b.parts.getLsbD p
    | none => false

/-- Partition of a cluster. -/
def partOfCluster (s : State) (k : Nat) : Nat := partOfRidge s (ridgeOf ((clusterCores k).getD 0 0))

/-- Find the first differing cluster of a frame once both devices' cluster traces are known (R357). -/
def traceDiverge (v : PairVal) (mine theirs : List Dword) (s : State) : State :=
  let s := { s with pair := { s.pair with seeking := none, peerTraces := none } }
  match (List.range 576).find? fun k => mine.getD k 0 != theirs.getD k 0 with
  | none => s
  | some k =>
    if (servingParts s).contains (partOfCluster s k) then raiseCe 0x18 0 1 k s
    else diverge v 2 k s

/-- Own cluster traces of a frame. -/
def ownTraces (s : State) (frame : Nat) : List Dword := sget (fun _ => []) s.pair.traces frame

/-- A mismatch (R357). -/
def pairMismatch (v : PairVal) (s : State) : State :=
  match v.code with
  | 0x10 => diverge v 1 v.place s
  | 0x12 => diverge v 3 v.place s
  | 0x11 =>
    let mine := ownTraces s v.step.toNat
    let s := pairSend 0x14 (3 :: leBytes 8 v.step.toNat ++ (mine.map fun d => leBytes 8 d.toNat).flatten) s
    match s.pair.peerTraces with
    | some (f, theirs) =>
      if f = v.step then traceDiverge v mine theirs s
      else { s with pair := { s.pair with seeking := some v } }
    | none => { s with pair := { s.pair with seeking := some v } }
  | _ => s

/-- Compare a pair of values of one key (R355): equal seals set pair_matched, which ends a row of rollbacks. -/
def pairCompare (mine theirs : PairVal) (s : State) : State :=
  let s := bump48 0x18 0 0x74 0 1 (some (7, 1)) s
  if mine.value = theirs.value ∧ mine.value2 = theirs.value2 then
    if mine.code = 0x13 then
      { s with cairn := { s.cairn with matched := sset (fun _ => false) s.cairn.matched mine.place true },
               pair := { s.pair with rollbacks := 0 } }
    else s
  else pairMismatch mine s

/-- Two values have one key (Table 12.6). -/
def sameKey (a b : PairVal) : Bool := a.code == b.code && a.place == b.place && a.step == b.step

/-- The values of the device's own that are kept beside a new one: a value that has been compared is kept for 64 frames. -/
def keptOwn (v : PairVal) (s : State) : List PairVal :=
  s.pair.own.filter fun x => !sameKey v x && (!x.done || decide (frameNo s < x.frame + 64))

/-- A value of the device's own (R355): sent, kept, and compared where the partner's is present. -/
def ownValue (v : PairVal) (s : State) : State :=
  if !s.pair.formed then s
  else
    let s := pairSend v.code (pairContent v) s
    match s.pair.peer.find? (sameKey v) with
    | some w =>
      pairCompare v w { s with pair := { s.pair with own := keptOwn v s ++ [{ v with done := true }],
                                                     peer := eraseFirst (sameKey v) s.pair.peer } }
    | none => { s with pair := { s.pair with own := keptOwn v s ++ [v] } }

/-- A value of the partner's: compared where the device's own is present, else kept. It comes on every pair link; the
copies after the first are dropped. -/
def peerValue (v : PairVal) (s : State) : State :=
  if !s.pair.formed then s
  else
    match s.pair.own.find? (sameKey v) with
    | some w =>
      if w.done then s
      else
        pairCompare w v { s with pair := { s.pair with
          own := s.pair.own.map fun x => if sameKey v x then { x with done := true } else x } }
    | none => if s.pair.peer.any (sameKey v) then s else { s with pair := { s.pair with peer := s.pair.peer ++ [v] } }

end Sys2Proof.Machine
end

