-- ==== Sys2Proof/Machine/Memory.lean ====
section
/-! DEFINITION. The move engines, windows, patrol scrub and key slots of the memory system (08_memory.md). -/

namespace Sys2Proof.Machine

open Sys2Proof

/-! ## Moves (R233 to R237) -/

/-- The list index of a move as causes name it; 0xFFFF for the manual move. -/
def moveDetail (m : Move) : Nat := m.index.getD 0xFFFF

/-- The move of a Cirque that a command names. -/
def moveOf (s : State) (c : Nat) (r : MoveRef) : Option Move :=
  s.mem.moves.find? fun m => m.cirque == c &&
    match r with | .entry i => m.index == some i | .manual => m.index.isNone

/-- Replace a move. -/
def setMove (m m' : Move) (s : State) : State :=
  { s with mem := { s.mem with moves := s.mem.moves.map fun x => if x == m then m' else x } }

/-- Take a move out of its engine. -/
def dropMove (m : Move) (s : State) : State :=
  { s with mem := { s.mem with moves := eraseFirst (fun x => x == m) s.mem.moves } }

/-- A move engine is frozen. -/
def engineFrozen (s : State) (c : Nat) : Bool := sget (fun _ => false) s.mem.engFrozen c

/-- Charge `n` events of a move to its job and to the lowest-numbered partition of its job (Table 14.1). -/
def chargeMove (job ecls n : Nat) (s : State) : State :=
  match jobParts s job with
  | [] => charge job ecls n s
  | p :: _ => chargePart p ecls n (charge job ecls n s)

/-- The HBM side of a move lies in one enabled window that grants its job the right (R232); a staging window is locked
against writes (R65). -/
def hbmSideAllowed (s : State) (job right a n : Nat) : Bool :=
  match windowHolding s a (a + 64 * n - 1) with
  | some w => !w.hub && bitOf w.rights right && w.job == job && jobHas s job w.idx && !(right == 3 && windowLocked s w.idx)
  | none => false

/-- The window check of a move (R232): its HBM range and its hub range, which never wraps. -/
def moveAllowed (s : State) (c job : Nat) (toHbm : Bool) (hbm hub n : Nat) : Bool :=
  decide (0 < n) && decide (hub + n ≤ 2 ^ 20) &&
  hbmSideAllowed s job (if toHbm then 3 else 2) hbm n &&
  jobMayAccess s job (if toHbm then 2 else 3) (hubAddr c hub) (hubAddr c hub + 64 * n - 1)

/-- Record a move abandoned by slip 0x03 in CIRQ_MISS, if none is recorded. -/
def recordMiss (c idx job : Nat) (s : State) : State :=
  noteRecord (regKey 6 c 0x5C 0) 0 [(regKey 6 c 0x5C 0, BitVec.ofNat 32 (2 ^ 31 + 2 ^ 16 * (job % 8) + idx % 2 ^ 16))] s

/-- Slip 0x03 of a move engine (R233, Table 2.12). -/
def moveSlip (c bit idx job : Nat) (s : State) : State :=
  slip 6 c bit idx 3 c (jobParts s job) (recordMiss c idx job s)

/-- An entry of the move list is due in the present tick: its frame position, its tick, its job not deferred, and every
partition of its job running (R233, R235, R397). -/
def moveDue (s : State) (m : MoveEnt) : Bool :=
  s.tick.running && m.issueTick == (tickN s).toNat % ticF s && m.issueFrame == jobPos s m.job &&
  !(s.energy.deferred && isTraining s m.job) &&
  (jobParts s m.job).all fun p => (part s p).st == 1

/-- Entries that this Cirque has issued in the present tick are those below this index. -/
def issuedBelow (s : State) (c : Nat) : Nat :=
  if sget (fun _ => 0) s.mem.issueTick c = (tickN s).toNat + 1 then sget (fun _ => 0) s.mem.issueIdx c else 0

/-- Mark the entries up to an index as issued in the present tick. -/
def markIssued (c idx : Nat) (s : State) : State :=
  { s with mem := { s.mem with issueTick := sset (fun _ => 0) s.mem.issueTick c ((tickN s).toNat + 1),
                               issueIdx := sset (fun _ => 0) s.mem.issueIdx c (idx + 1) } }

/-- The hub lines of a range. -/
def hubRange (hub n : Nat) : List Nat := (List.range n).map (hub + ·)

/-- Change the captures in progress. -/
def mapCaptures (f : Capture → Capture) (s : State) : State :=
  { s with cairn := { s.cairn with captures := s.cairn.captures.map f } }

/-- A capture in this frame that the move writes to waits for it (R342). -/
def captureWaits (c idx hbm : Nat) (s : State) : State :=
  mapCaptures (fun x =>
    if x.frame == frameNo s && decide (cairnAddr s x.slot ≤ hbm) && decide (hbm < cairnAddr s x.slot + slotBytes s)
    then { x with waiting := x.waiting ++ [(c, idx)] } else x) s

/-- Start a move: an issued move from HBM makes its hub lines PENDING; a manual move writes hub lines (Table 8.2). -/
def startMove (m : Move) (s : State) : State :=
  let s := { s with mem := { s.mem with moves := s.mem.moves ++ [m] } }
  if m.toHbm || m.index.isNone then s else setLineSt m.cirque 1 (hubRange m.hub m.lines) s

/-- The engine issues moves and lines: it is enabled and not frozen (R232, R249). -/
def engineRuns (s : State) (c : Nat) : Bool := (reg s 6 c 8).getLsbD 0 && !engineFrozen s c

/-- A move that an entry starts. -/
def entryMove (s : State) (c idx : Nat) (m : MoveEnt) : Move :=
  ⟨c, some idx, m.job, m.toHbm, m.hbm, m.hub, m.lines, [], tickN s + BitVec.ofNat 64 m.deadline, 0⟩

/-- R232: at the end of a tick, the entries that a frozen engine did not issue in it; each still has its deadline. -/
def noteUnissued (s : State) : State :=
  let late := fun (c : Nat) =>
    if engineRuns s c then []
    else
      let l := moveList s c
      (List.range l.length).filterMap fun i =>
        match l[i]? with
        | some m => if issuedBelow s c ≤ i ∧ moveDue s m then some (entryMove s c i m) else none
        | none => none
  if (List.range 8).all (engineRuns s) then s
  else { s with mem := { s.mem with unissued := s.mem.unissued ++ (List.range 8).flatMap late } }

/-- Issue an entry that is due. -/
def issueEntry (c idx : Nat) (m : MoveEnt) (s : State) : State :=
  let s := markIssued c idx s
  if !moveAllowed s c m.job m.toHbm m.hbm m.hub m.lines then raise 6 c 7 1 idx (.engine c) s
  else if 256 ≤ (s.mem.moves.filter fun x => x.cirque == c && x.index.isSome).length then moveSlip c 9 idx m.job s
  else if !m.toHbm && (hubRange m.hub m.lines).any (fun h => lineSt s c h == 1) then
    raise 6 c 5 1 idx (.parts (jobParts s m.job)) s
  else
    let s := startMove (entryMove s c idx m) s
    if m.toHbm then captureWaits c idx m.hbm s else s

/-- MOVE_ISSUE. The engine issues the next entry that is due, if it is enabled and not frozen. -/
def moveIssue (c idx : Nat) (s : State) : State :=
  let l := moveList s c
  match l[idx]? with
  | none => s
  | some m =>
    let next := (List.range idx).all fun k =>
      decide (k < issuedBelow s c) || (match l[k]? with | some e => !moveDue s e | none => true)
    if engineRuns s c && decide (issuedBelow s c ≤ idx) && next && moveDue s m then
      issueEntry c idx m s
    else s

/-- Stop the partitions of a move's job for a cause of the CIRQUE page and abandon the move. -/
def moveFault (bit detail : Nat) (m : Move) (s : State) : State :=
  raise 6 m.cirque bit 1 detail (.parts (jobParts s m.job)) (abandonMove m s)

/-- Count a line moved. -/
def countLine (c : Nat) (s : State) : State := bump48 6 c 0x50 0 1 (some (15, 1)) s

/-- A line of a move from HBM lands (Table 8.2, R242, R243, R245). A manual write onto a PENDING line is withheld; it
names no core (DEDUCED, log entry 47). -/
def landLine (m : Move) (i : Nat) (errs : SymErrs) (s : State) : State :=
  match hbmRead (m.hbm + 64 * i) errs (.parts (jobParts s m.job)) (chargeMove m.job 10 1 s) with
  | (none, s) => abandonMove m s
  | (some d, s) =>
    let s := setMove m { m with landed := m.landed ++ [i] } (returnReads m.cirque m.index [i] s)
    if m.index.isNone && lineSt s m.cirque (m.hub + i) == 1 then raise 6 m.cirque 4 1 0x3FF .none s
    else
      let s := noteHub m.cirque (m.hub + i) s
      let s := setLineSt m.cirque 0 [m.hub + i]
        { s with hub := memPut s.hub (2 ^ 26 * m.cirque + 64 * (m.hub + i)) d }
      countLine m.cirque (chargeMove m.job 9 1 s)

/-- What SEC-DED makes of flipped bits in a line's 64-bit words (R85): 0 none, 1 corrected, 2 uncorrectable. -/
def wordErrors (errs : SymErrs) : Nat :=
  let bits := fun (b : Byte) => ((List.range 8).filter fun k => b.getLsbD k).length
  (List.range 8).foldl (fun a w =>
    max a (min 2 (errs.foldl (fun n e =>
      match e with | .symbol k v => if k / 8 == w then n + bits v else n | .parity => n) 0))) 0

/-- A commit-record line (Table 7.8). -/
def isCommitRecord (m : Move) (d : List Byte) : Bool := m.lines == 1 && leNat (d.take 4) == 0x4E524A46

/-- The line with the move digests of the indices that it names in place of them (R343). -/
def fillCommit (s : State) (m : Move) (d : List Byte) : List Byte :=
  if isCommitRecord m d then
    let dig := fun (o : Nat) =>
      (sget (fun _ => (0 : Dword)) s.cairn.moveDigest (2 ^ 16 * m.cirque + leNat ((d.drop o).take 2))).toNat
    d.take 0x20 ++ leBytes 8 (dig 0x20) ++ leBytes 8 (dig 0x28) ++ d.drop 0x30
  else d

/-- The engine reads a hub line and its write command is accepted (Table 8.2, R235). A PENDING line waits: none. `errs`
gives the bad bits of the hub line and the parity errors of the write command. -/
def writeLine (m : Move) (i : Nat) (errs : SymErrs) (s : State) : Option State :=
  let h := m.hub + i
  match (hubNow s m.cirque h).2 with
  | 1 => none
  | 2 => some (moveFault 3 0x3FF m s)
  | _ =>
    match wordErrors errs with
    | 2 => some (hubCheck m.cirque (h % 256) true (jobParts s m.job) (abandonMove m s))
    | e =>
      let s := if e = 1 then hubCheck m.cirque (h % 256) false [] s else s
      let d := fillCommit s m (leBytes 64 (hubNow s m.cirque h).1.toNat)
      let a := m.hbm + 64 * i
      let s := hbmParity (hbmPlace s a).1 (hbmPlace s a).2 errs s
      let s := countHbmWrite (hbmPlace s a).1 (hbmWrite a d s)
      let s := countLine m.cirque (chargeMove m.job 11 1 (chargeMove m.job 9 1 s))
      some (setMove m { m with landed := m.landed ++ [i], digest := m.digest ^^^ lineDigest i d } s)

/-- The bridges that a line crosses from Cirque `a` to Cirque `b` (R233): first along the column of `a`, then across.
Each is the Cirque that receives over it and the bridge as that Cirque names it (0 N, 1 E, 2 S, 3 W). DESIGN CHOICE (log
entry 74): the receiving Cirque raises the causes of its bridge. -/
def bridgePath (a b : Nat) : List (Nat × Nat) :=
  let ra := a / 2
  let rb := b / 2
  let down := (List.range (rb - ra)).map fun k => (2 * (ra + k + 1) + a % 2, 0)
  let up := (List.range (ra - rb)).map fun k => (2 * (ra - k - 1) + a % 2, 2)
  down ++ up ++ (if a % 2 = b % 2 then [] else [(b, if b % 2 = 1 then 3 else 1)])

/-- The bridges that line i of a move crosses: from the stack's Cirque to the engine's, or back (R233). -/
def movePath (s : State) (m : Move) (i : Nat) : List (Nat × Nat) :=
  let q := (hbmPlace s (m.hbm + 64 * i)).1 / 3
  if m.toHbm then bridgePath m.cirque q else bridgePath q m.cirque

/-- Bridge errors of a line, `at_` counting the bridges of its path: bridge_ce, or bridge_ue with the move abandoned and
its job's partitions frozen (R250). True: the line goes on. -/
def bridgeCheck (m : Move) (i : Nat) (e : Ecc) (s : State) : Bool × State :=
  match e with
  | .ok => (true, s)
  | .corrected k =>
    match (movePath s m i)[k]? with
    | some (q, d) => (true, raiseCe 6 q 10 d s)
    | none => (true, s)
  | .uncorrectable k =>
    match (movePath s m i)[k]? with
    | some (q, d) => (false, raise 6 q 11 1 d (.parts (jobParts s m.job)) (abandonMove m s))
    | none => (true, s)

/-- One move goes before another in its engine (R233): earlier deadline, then lower list index; the manual move last. -/
def goesBefore (a b : Move) : Bool :=
  match a.index, b.index with
  | some i, some j => decide (a.deadline.toNat < b.deadline.toNat) || (a.deadline == b.deadline && decide (i < j))
  | some _, none => true
  | none, _ => false

/-- The move has a line left that does not wait for a PENDING hub line. -/
def hasWork (s : State) (m : Move) : Bool :=
  (List.range m.lines).any fun i => !m.landed.contains i && !(m.toHbm && lineSt s m.cirque (m.hub + i) == 1)

/-- The engine works on this move's lines now (R232, R233). -/
def worksOn (s : State) (m : Move) : Bool :=
  engineRuns s m.cirque && !(s.mem.moves.any fun x => x.cirque == m.cirque && goesBefore x m && hasWork s x)

/-- MOVE_LINE_LAND. A line of a move from HBM lands; for a move to HBM, the write command of a line is accepted. -/
def moveLine (c : Nat) (r : MoveRef) (i : Nat) (errs : SymErrs) (bridge : Ecc) (s : State) : State :=
  match moveOf s c r with
  | none => s
  | some m =>
    if m.lines ≤ i ∨ m.landed.contains i ∨ !worksOn s m then s
    else if m.toHbm && lineSt s m.cirque (m.hub + i) == 1 then s
    else
      match bridgeCheck m i bridge s with
      | (false, s) => s
      | (true, s) => if m.toHbm then (writeLine m i errs s).getD s else landLine m i errs s

/-- Accept the write commands of the lines of a move to HBM that are left, in order. A PENDING line stops it. -/
def writeRest (c : Nat) (r : MoveRef) : List Nat → State → State
  | [], s => s
  | i :: t, s =>
    match moveOf s c r with
    | none => s
    | some m =>
      if !worksOn s m then s
      else
        match writeLine m i [] s with
        | none => s
        | some s' => writeRest c r t s'

/-- Every line of a move has landed or been written. -/
def allLanded (m : Move) : Bool := (List.range m.lines).all m.landed.contains

/-- A capture takes the digest of one of its moves (R342, R343). -/
def captureDone (m : Move) (idx : Nat) (s : State) : State :=
  mapCaptures (fun x =>
    if x.waiting.contains (m.cirque, idx) then
      { x with waiting := eraseFirst (fun w => w == (m.cirque, idx)) x.waiting, digest := x.digest ^^^ m.digest }
    else x) s

/-- A commit record that reached HBM goes to the partner (Table 12.6). -/
def commitSent (m : Move) (s : State) : State :=
  let d := physLine s m.hbm
  let src := physLine s (hubAddr m.cirque m.hub)
  if isCommitRecord m src then
    let f := fun (o n : Nat) => leNat ((d.drop o).take n)
    match (moveList s m.cirque)[leNat ((src.drop 0x20).take 2)]? with
    | some e => ownValue ⟨0x10, f 4 4, BitVec.ofNat 64 (f 8 8), BitVec.ofNat 64 (f 0x20 8), BitVec.ofNat 64 (f 0x28 8),
        frameNo s, e.hbm, e.lines, false⟩ s
    | none => s
  else s

/-- What follows the last line of a move (R233, R342, R343). -/
def finishMove (m : Move) (s : State) : State :=
  let s := bump48 6 m.cirque 0x48 0 1 (some (15, 0)) (dropMove m s)
  match m.index with
  | none => { s with mem := { s.mem with mmDone := sset (fun _ => false) s.mem.mmDone m.cirque true } }
  | some idx =>
    let slack := min 0xFFFE (m.deadline - tickN s).toNat
    let least := sget (fun _ => 0xFFFF) s.mem.slackNow m.cirque
    let s := { s with mem := { s.mem with
      slackNow := sset (fun _ => 0xFFFF) s.mem.slackNow m.cirque (min least slack) } }
    if m.toHbm then
      let s := { s with cairn := { s.cairn with
        moveDigest := sset (fun _ => (0 : Dword)) s.cairn.moveDigest (2 ^ 16 * m.cirque + idx) m.digest } }
      commitSent m (captureDone m idx s)
    else s

/-- A move completes: the lines left of a move to HBM are written first; a move from HBM must have landed. -/
def completeMove (c : Nat) (r : MoveRef) (s : State) : State :=
  match moveOf s c r with
  | none => s
  | some m =>
    let s := if m.toHbm then writeRest c r ((List.range m.lines).filter fun i => !m.landed.contains i) s else s
    match moveOf s c r with
    | none => s
    | some m => if allLanded m then finishMove m s else s

/-- MOVE_COMPLETE. -/
def moveComplete (c idx : Nat) (s : State) : State :=
  match moveOf s c (.entry idx) with
  | none => s
  | some m => if m.deadline.toNat ≤ (tickN s).toNat then s else completeMove c (.entry idx) s

/-- DEADLINE_MISS, of a move in flight or of one that a frozen engine did not issue (R232, R233). -/
def deadlineMiss (c idx : Nat) (s : State) : State :=
  let late := fun (m : Move) => s.tick.running && decide (m.deadline.toNat ≤ (tickN s).toNat)
  match (s.mem.moves.filter fun m => m.cirque == c && m.index == some idx).find? late with
  | some m => moveSlip c 8 idx m.job (abandonMove m s)
  | none =>
    match (s.mem.unissued.filter fun m => m.cirque == c && m.index == some idx).find? late with
    | some m =>
      moveSlip c 8 idx m.job { s with mem := { s.mem with unissued := eraseFirst (fun x => x == m) s.mem.unissued } }
    | none => s

/-- A manual move is rejected (R236). -/
def manualReject (c : Nat) (s : State) : State :=
  raiseCe 6 c 12 (1 + 2 * 64) { s with mem := { s.mem with mmRejected := sset (fun _ => false) s.mem.mmRejected c true } }

/-- No partition that holds either Ridge of the Cirque is running (R236): each is unassigned, frozen or in reset. -/
def ridgesStill (s : State) (c : Nat) : Bool :=
  [2 * c, 2 * c + 1].all fun d =>
    let p := partOfRidge s d
    (part s p).st == 0 || (part s p).st == 3 || partFrozen s p

/-- MANUAL_MOVE: a write of CIRQ_MM_CMD. An engine that is frozen or not enabled issues no move (R421, R249), so it rejects a go
(DESIGN CHOICE, log entry 89). -/
def manualMove (c : Nat) (v : Word) (s : State) : State :=
  if !v.getLsbD 0 then s
  else
    let a := (rget64 s (regKey 6 c 0x70 0)).toNat
    let hub := field (reg s 6 c 0x78) 19 0
    let n := field (reg s 6 c 0x7C) 20 0
    let job := field v 4 2
    let toHbm := v.getLsbD 1
    if !engineRuns s c || !ridgesStill s c || (moveOf s c .manual).isSome || decide (a % 64 ≠ 0) || !moveAllowed s c job toHbm a hub n then
      manualReject c s
    else
      startMove ⟨c, none, job, toHbm, a, hub, n, [], 0, 0⟩
        { s with mem := { s.mem with mmDone := sset (fun _ => false) s.mem.mmDone c false,
                                     mmRejected := sset (fun _ => false) s.mem.mmRejected c false } }

/-- MOVE_ENGINE_RESET (R237): nothing more issues in the present tick; the engine resumes at the next issue tick. -/
def engineReset (c : Nat) (s : State) : State :=
  let s := markIssued c (2 ^ 26) (abandonMoves (s.mem.moves.filter (·.cirque == c)) s)
  { s with mem := { s.mem with engFrozen := sset (fun _ => false) s.mem.engFrozen c false,
                               unissued := s.mem.unissued.filter (·.cirque != c) } }

/-! ## Windows (R230, R231) -/

/-- First and last granule of a group's range. -/
def groupGranules (w : Win) : Nat × Nat := (groupBytes / 4096 * w.c0, groupBytes / 4096 * (w.c0 + w.group))

/-- Granules within a stack that an HBM window takes (R230). -/
def stackGranules (w : Win) : Nat × Nat :=
  ((w.base - (groupGranules w).1) / (3 * w.group), (w.limit - (groupGranules w).1) / (3 * w.group))

/-- The groups of two windows share a stack. -/
def shareStack (a b : Win) : Bool := decide (a.c0 < b.c0 + b.group) && decide (b.c0 < a.c0 + a.group)

/-- Two windows overlap (R230). -/
def winOverlap (a b : Win) : Bool :=
  (decide (a.base ≤ b.limit) && decide (b.base ≤ a.limit)) ||
  (!a.hub && !b.hub && shareStack a b &&
    decide ((stackGranules a).1 ≤ (stackGranules b).2) && decide ((stackGranules b).1 ≤ (stackGranules a).2))

/-- The checks of R230 on the configuration that a write would produce. -/
def winValid (s : State) (w : Win) : Bool :=
  decide (w.base ≤ w.limit) &&
  (if w.hub then decide (0xF000000 ≤ w.base) && decide (w.limit < 0xF020000)
   else decide (w.c0 % w.group = 0) && decide (w.c0 + w.group ≤ 8) &&
     decide ((groupGranules w).1 ≤ w.base) && decide (w.limit < (groupGranules w).2) &&
     (!variantH s || decide (w.c0 + w.group ≤ 4))) &&
  (!w.encrypt || (let k := keySlot s w.slot; (if k.current then k.g1 else k.g0).isSome)) &&
  (List.range 256).all fun i => i == w.idx || (let o := window s i; !o.enable || !winOverlap w o)

/-- The window is in use (R231): a job of the active image names it, or its key slot sweeps or has an erase pending. -/
def winBusy (s : State) (w : Win) : Bool :=
  (match s.sched.active with | some im => im.jobs.any fun b => b.windows.getLsbD w.idx | none => false) ||
  (keySlot s w.slot).sweep.isSome || (keySlot s w.slot).erasePending

/-- WINDOW_WRITE. -/
def windowWrite (w : Nat) (r : WinReg) (v : Word) (s : State) : State :=
  let old := window s w
  let q := w / 32
  if old.enable && winBusy s old then raiseCe 6 q 12 (2 * (w % 32) + 64) s
  else
    let val := if r = .attr then v &&& 0x7FFFFF else v &&& 0xFFFFFFF
    let s' := setReg 6 q (winOff w r) val s
    let new := window s' w
    if new.enable && !winValid s new then raiseCe 6 q 12 (2 * (w % 32)) s else s'

/-! ## Patrol scrub (R244) -/

/-- A stack. -/
def stackOf (s : State) (k : Nat) : Stack := sget (fun _ => Stack.reset) s.mem.stk k

/-- Set a stack. -/
def setStack (k : Nat) (x : Stack) (s : State) : State :=
  { s with mem := { s.mem with stk := sset (fun _ => Stack.reset) s.mem.stk k x } }

/-- Physical address of a stack line under a group of g Cirques from c0. -/
def stackAddr (g c0 stack line : Nat) : Nat :=
  groupBytes * c0 + 4096 * (line / 64 * (3 * g) + (stack - 3 * c0)) + 64 * (line % 64)

/-- The physical address at which a stack line is seen (R229): by the window that holds it, else as under s = 1. -/
def physOf (s : State) (stack line : Nat) : Nat :=
  match ((List.range 256).map (window s)).find? fun w =>
      w.enable && !w.hub && decide (3 * w.c0 ≤ stack) && decide (stack < 3 * (w.c0 + w.group)) &&
      w.holds (stackAddr w.group w.c0 stack line) (stackAddr w.group w.c0 stack line) with
  | some w => stackAddr w.group w.c0 stack line
  | none => stackAddr 1 (stack / 3) stack line

/-- SCRUB_LINE. The controller reads the next line of its stack and writes it back where it was corrected. -/
def scrubLine (k line : Nat) (errs : SymErrs) (s : State) : State :=
  let x := stackOf s k
  if !(reg s 7 k 0x44).getLsbD 2 || !x.trained || x.selfRefresh || decide (line ≠ x.scrubbed) then s
  else
    let s := countHbmRead k (hbmParity k line errs (setStack k { x with scrubbed := (line + 1) % 2 ^ 29 } s))
    match rsDecode (hbmSymbols s k line errs) with
    | .good _ => s
    | .corrected syms => hbmCorrected k line (countHbmWrite k (putSymbols k line syms s))
    | .bad => hbmUncorrectable (physOf s k line) k line true .none s

/-! ## Key slots (R246 to R248) -/

/-- Reject a key command with a reason (Table 8.14). -/
def keyReject (k cmd reason : Nat) (s : State) : State := raiseCe 0x1C k 0 (cmd + 16 * reason) s

/-- A generation is loaded. -/
def genLoaded (x : KeySlot) (g : Bool) : Bool := (if g then x.g1 else x.g0).isSome

/-- Set a generation. -/
def setGen (g : Bool) (v : Option (List Byte)) (x : KeySlot) : KeySlot :=
  if g then { x with g1 := v } else { x with g0 := v }

/-- Label register of a generation. -/
def labelOff (g : Bool) : Nat := if g then 0x50 else 0x4C

/-- The 64 key bytes in KEY_DATA. -/
def keyData (s : State) (k : Nat) : List Byte :=
  ((List.range 16).map fun i => leBytes 4 (reg s 0x1C k (0x80 + 4 * i)).toNat).flatten

/-- Zero KEY_DATA. -/
def zeroKeyData (k : Nat) (s : State) : State :=
  (List.range 16).foldl (fun s i => setReg 0x1C k (0x80 + 4 * i) 0 s) s

/-- The enabled windows that name a slot. -/
def windowsNaming (s : State) (k : Nat) : List Win :=
  ((List.range 256).map (window s)).filter fun w => w.enable && w.slot == k

/-- KEY_CMD LOAD. -/
def keyLoad (k : Nat) (s : State) : State :=
  let x := keySlot s k
  let g := if genLoaded x x.current then !x.current else x.current
  if genLoaded x g then keyReject k 1 1 s
  else if x.sweep.isSome then keyReject k 1 3 s
  else
    zeroKeyData k (setReg 0x1C k (labelOff g) (reg s 0x1C k 0x48) (setKeySlot k (setGen g (some (keyData s k)) x) s))

/-- KEY_CMD SWITCH. -/
def keySwitch (k : Nat) (s : State) : State :=
  let x := keySlot s k
  if !genLoaded x (!x.current) then keyReject k 2 2 s
  else if x.sweep.isSome then keyReject k 2 3 s
  else if x.erasePending then keyReject k 2 5 s
  else setKeySlot k { x with current := !x.current, switched := true } s

/-- KEY_CMD SWEEP. -/
def keySweep (k : Nat) (s : State) : State :=
  let x := keySlot s k
  if !x.switched then keyReject k 3 4 s
  else if !genLoaded x (!x.current) then keyReject k 3 2 s
  else if x.sweep.isSome then keyReject k 3 3 s
  else
    let ws := (windowsNaming s k).filter fun w => !w.hub
    let total := ws.foldl (fun n w => n + (w.limit + 1 - w.base)) 0
    setKeySlot k { x with sweep := some ⟨ws.map (·.idx), []⟩, swept := 0, total := total } s

/-- KEY_CMD CLEAR. -/
def keyClear (k : Nat) (s : State) : State :=
  if !(windowsNaming s k).isEmpty then keyReject k 4 6 s
  else
    setReg 0x1C k 0x4C 0 (setReg 0x1C k 0x50 0
      (setKeySlot k { keySlot s k with g0 := none, g1 := none, current := false, erasePending := false, oldReads := [] } s))

/-- Granules of a window on a stack, as the granules within the stack (R229). -/
def windowShare (w : Win) (stack : Nat) : List Nat :=
  if stack < 3 * w.c0 ∨ 3 * (w.c0 + w.group) ≤ stack then []
  else
    let r := stackGranules w
    ((List.range (r.2 + 1 - r.1)).map (r.1 + ·)).filter fun g =>
      let j := (groupGranules w).1 + g * (3 * w.group) + (stack - 3 * w.c0)
      decide (w.base ≤ j) && decide (j ≤ w.limit)

/-- Insert into a rising list. -/
def insertNat (x : Nat) : List Nat → List Nat
  | [] => [x]
  | y :: t => if x ≤ y then x :: y :: t else y :: insertNat x t

/-- A stack controller's share of a sweep, in ascending offset (R247). -/
def sweepShare (s : State) (w : Sweep) (stack : Nat) : List Nat :=
  ((w.windows.map fun i => windowShare (window s i) stack).flatten).foldr insertNat []

/-- Lines of its share that a controller has passed. -/
def sweepPassed (w : Sweep) (stack : Nat) : Nat := sget (fun _ => 0) w.passed stack

/-- Re-encrypt a line of a sweep (R247). -/
def reencrypt (k stack line : Nat) (syms : List Nat) (s : State) : State :=
  let x := keySlot s k
  let a := physOf s stack line
  let tag := syms.getD 64 0
  match windowHolding s a a with
  | some w =>
    if !w.encrypt || tag == 2 + bit01 x.current then s
    else
      let plain := hbmPlain s a syms
      let data := (xtsEnc (keyBytes x x.current) (a / 64) plain).map BitVec.toNat
      countHbmWrite stack (putSymbols stack line (withCheck data (2 + bit01 x.current)) s)
  | none => s

/-- SWEEP_LINE. A controller passes the next line of its share. -/
def sweepLine (k stack line : Nat) (errs : SymErrs) (s : State) : State :=
  let x := keySlot s k
  match x.sweep with
  | none => s
  | some w =>
    let p := sweepPassed w stack
    match (sweepShare s w stack)[p / 64]? with
    | none => s
    | some g =>
      if line ≠ 64 * g + p % 64 then s
      else
        let swept := if p % 64 = 63 then x.swept + 1 else x.swept
        let s := setKeySlot k { x with swept := swept,
                                       sweep := some { w with passed := sset (fun _ => 0) w.passed stack (p + 1) } } s
        let s := countHbmRead stack (hbmParity stack line errs s)
        match rsDecode (hbmSymbols s stack line errs) with
        | .good syms => reencrypt k stack line syms s
        | .corrected syms => reencrypt k stack line syms (hbmCorrected stack line s)
        | .bad =>
          raiseCe 0x1C k 1 stack (bump32 0x1C k 0x60 0 1 (some (2, 0)) (putSymbols stack line (hbmSymbols s stack line errs) s))

/-- The HBM reads of a slot's windows that are issued and have not returned (R248): the lines still to land of every move
from HBM in flight (log entry 25). -/
def readsOut (s : State) (k : Nat) : List (Nat × Option Nat × Nat) :=
  (s.mem.moves.filter fun m => !m.toHbm).flatMap fun m =>
    (List.range m.lines).filterMap fun i =>
      let a := m.hbm + 64 * i
      let mine := match windowHolding s a a with | some w => w.slot == k && !w.hub | none => false
      if !m.landed.contains i && mine then some (m.cirque, m.index, i) else none

/-- SWEEP_FINISH. Every controller has passed its last granule; the outstanding reads are counted from now on (R248). -/
def sweepFinish (k : Nat) (s : State) : State :=
  let x := keySlot s k
  match x.sweep with
  | none => s
  | some w =>
    if (List.range 24).all (fun st => decide (sweepPassed w st = 64 * (sweepShare s w st).length)) then
      setKeySlot k { x with sweep := none, switched := false, erasePending := true, oldReads := readsOut s k } s
    else s

/-- KEY_ERASE. KEY_OLD_RD reads 0 and the old generation is erased (R248). -/
def keyErase (k : Nat) (s : State) : State :=
  let x := keySlot s k
  if x.erasePending && x.oldReads.isEmpty then
    setReg 0x1C k (labelOff (!x.current)) 0
      (setKeySlot k { setGen (!x.current) none x with erasePending := false } s)
  else s

/-! ## Rows -/

/-- MOVE_ISSUE (R233). -/
def execMoveIssue (cirque index : Nat) (s : State) : Host.Outcome State Fault Refusal :=
  answer (.moveIssue cirque index) s <|
    moveIssue cirque index s

/-- MOVE_LINE_LAND (R227). -/
def execMoveLineLand (dt cirque : Nat) (mv : MoveRef) (line : Nat) (errs : LineErrs) (s : State) : Host.Outcome State Fault Refusal :=
  answer (.moveLineLand dt cirque mv line errs) s <|
    moveLine cirque mv line errs.syms errs.bridge (elapse dt s)

/-- MOVE_COMPLETE (R233). -/
def execMoveComplete (dt cirque : Nat) (mv : Nat) (s : State) : Host.Outcome State Fault Refusal :=
  answer (.moveComplete dt cirque mv) s <|
    moveComplete cirque mv (elapse dt s)

/-- DEADLINE_MISS (R233). -/
def execDeadlineMiss (cirque : Nat) (mv : Nat) (s : State) : Host.Outcome State Fault Refusal :=
  answer (.deadlineMiss cirque mv) s <|
    deadlineMiss cirque mv s

/-- MANUAL_MOVE (R236). -/
def execManualMove (src : Src) (cirque : Nat) (value : Word) (s : State) : Host.Outcome State Fault Refusal :=
  answer (.manualMove src cirque value) s <|
    manualMove cirque value s

/-- MANUAL_MOVE_COMPLETE (R236). -/
def execManualMoveComplete (dt cirque : Nat) (s : State) : Host.Outcome State Fault Refusal :=
  answer (.manualMoveComplete dt cirque) s <|
    completeMove cirque .manual (elapse dt s)

/-- WINDOW_WRITE (R230). -/
def execWindowWrite (src : Src) (window : Nat) (reg : WinReg) (value : Word) (s : State) : Host.Outcome State Fault Refusal :=
  answer (.windowWrite src window reg value) s <|
    windowWrite window reg value s

/-- MOVE_ENGINE_RESET (R237). -/
def execMoveEngineReset (src : Src) (cirque : Nat) (s : State) : Host.Outcome State Fault Refusal :=
  answer (.moveEngineReset src cirque) s <|
    engineReset cirque s

/-- SCRUB_LINE (R244). -/
def execScrubLine (dt stack line : Nat) (errs : SymErrs) (s : State) : Host.Outcome State Fault Refusal :=
  answer (.scrubLine dt stack line errs) s <|
    scrubLine stack line errs (elapse dt s)

/-- KEY_LOAD (R246). -/
def execKeyLoad (src : Src) (slot : Nat) (s : State) : Host.Outcome State Fault Refusal :=
  answer (.keyLoad src slot) s <|
    keyLoad slot s

/-- KEY_SWITCH (R246). -/
def execKeySwitch (src : Src) (slot : Nat) (s : State) : Host.Outcome State Fault Refusal :=
  answer (.keySwitch src slot) s <|
    keySwitch slot s

/-- KEY_SWEEP (R247). -/
def execKeySweep (src : Src) (slot : Nat) (s : State) : Host.Outcome State Fault Refusal :=
  answer (.keySweep src slot) s <|
    keySweep slot s

/-- KEY_CLEAR (R246). -/
def execKeyClear (src : Src) (slot : Nat) (s : State) : Host.Outcome State Fault Refusal :=
  answer (.keyClear src slot) s <|
    keyClear slot s

/-- SWEEP_LINE (R247). -/
def execSweepLine (dt slot stack line : Nat) (errs : SymErrs) (s : State) : Host.Outcome State Fault Refusal :=
  answer (.sweepLine dt slot stack line errs) s <|
    sweepLine slot stack line errs (elapse dt s)

/-- SWEEP_FINISH (R248). -/
def execSweepFinish (dt slot : Nat) (s : State) : Host.Outcome State Fault Refusal :=
  answer (.sweepFinish dt slot) s <|
    sweepFinish slot (elapse dt s)

/-- KEY_ERASE (R248). -/
def execKeyErase (dt slot : Nat) (s : State) : Host.Outcome State Fault Refusal :=
  answer (.keyErase dt slot) s <|
    keyErase slot (elapse dt s)

end Sys2Proof.Machine
end

