-- ==== Sys2Proof/Machine/Fabric.lean ====
section
/-! DEFINITION. The three networks (06_fabric.md): forwarding, arrival, credits, steering, epoch seals, spill mode.
Commands of one cycle act in their order; the claim order of R166 is checked, not assumed. -/

namespace Sys2Proof.Machine

open Sys2Proof

/-! ## The grid (R28, R30, R35) -/

/-- The core that an output leads to. -/
def neighbour (c : Nat) : Port → Option Nat
  | .n => if c < 96 then none else some (c - 96)
  | .s => if c ≥ 9120 then none else some (c + 96)
  | .w => if c % 96 = 0 then none else some (c - 1)
  | .e => if c % 96 = 95 then none else some (c + 1)
  | .l => none

/-- The input at the far end of an output. -/
def opposite : Port → Port
  | .n => .s
  | .s => .n
  | .e => .w
  | .w => .e
  | .l => .l

/-- A column with edge ports (Table 1.2). -/
def edgeColumn (x : Nat) : Bool :=
  decide (x ≤ 55) || (decide (64 ≤ x) && decide (x ≤ 71)) || (decide (80 ≤ x) && decide (x ≤ 87))

/-- The output leads to the edge port of the core (Table 1.2). -/
def edgePort (c : Nat) : Port → Bool
  | .n => decide (c < 96) && edgeColumn (c % 96)
  | .s => decide (c ≥ 9120) && edgeColumn (c % 96)
  | _ => false

/-- A link of an input or output exists. -/
def hasLink (c : Nat) (p : Port) : Bool := (neighbour c p).isSome || edgePort c p

/-- Cycles from a forward to the flit's entry at the far end, and from a freed entry to the credit's return
(Table 6.3, R167). -/
def hopCycles (c : Nat) (p : Port) : Nat × Nat :=
  match neighbour c p with
  | some d => if ridgeOf c = ridgeOf d then (1, 2) else (5, 6)
  | none => (10, 10)

/-- The five ports in claim order (R166). -/
def portOrder : List Port := [.n, .e, .s, .w, .l]

/-- Bit of a port in an out field (Table 6.4). -/
def outBit (mask : Nat) (p : Port) : Bool := bitOf mask (portCode p)

/-! ## Route entries (Tables 6.4, 6.5) -/

def rNet (e : Word) : Nat := field e 2 0
def rOut (e : Word) : Nat := field e 7 3
def rSteer (e : Word) : Bool := e.getLsbD 8
def rUnit (e : Word) : Nat := field e 11 9
def rPhases (e : Word) : Nat := field e 19 12
def rDelay (e : Word) : Nat := field e 23 20
def rBound (e : Word) : Nat := field e 27 24

/-- Network code of a channel (Table 6.4 net). -/
def netCode : Chan → Nat
  | .v0 => 1
  | .v1 => 1
  | .scalar => 2
  | .control => 3

/-- The entry that a flit selects at a switch. -/
def entryOf (x : Core) (f : Flit) : Word := routeOf x f.route.toNat

/-! ## The remap (R175, R177) -/

/-- Ridge of a fill. -/
def Fill.ridge (f : Fill) : Nat := (f.cores.headD ⟨0, 0, 0⟩).ridge

/-- Column of a fill. -/
def Fill.col (f : Fill) : Nat := (f.cores.headD ⟨0, 0, 0⟩).col

/-- The unusable rows of a column. -/
def badRows (s : State) (d k : Nat) : List Nat :=
  (List.range 26).filter fun r => s.dev.bad.any fun (p : PhysCore) => p.ridge == d && p.col == k && p.row == r

/-- Remap a column onto its usable rows (R175). -/
def remapCol (d k : Nat) (s : State) : State :=
  { s with dev := { s.dev with bypass := sset (fun _ => []) s.dev.bypass (24 * d + k) (badRows s d k) } }

/-- The physical rows that present the logical rows of a column under the remap in force (R175, R177). -/
def rowsInForce (s : State) (d k : Nat) : List Nat :=
  ((List.range 26).filter fun r => !(sget (fun _ => []) s.dev.bypass (24 * d + k)).contains r).take 24

/-- A flit on its way into a queue was sent within partition p. -/
def sentWithin (s : State) (p : Nat) (y : Wire) : Bool :=
  partOf s y.core == p && (y.inp == .l || match neighbour y.core y.inp with | some d => partOf s d == p | none => false)

/-- The switches of a partition hold no flit and no token, and none is on its way between them. -/
def partDrained (s : State) (p : Nat) : Bool :=
  (s.cores.all fun e => partOf s e.1 != p || (e.2.queues.all (·.2.isEmpty) && e.2.tokQ.all (·.2.isEmpty))) &&
    !s.fab.wires.any (sentWithin s p) && !s.fab.toks.any fun y => partOf s y.core == p

/-- Step 2 of the running fill (R360): the remap changes only while the partition is drained (R177). -/
def fillRemap (s : State) : State :=
  match s.dev.fills with
  | [] => s
  | f :: t =>
    if !f.remapped && partDrained s (partOfRidge s f.ridge) then
      let s := remapCol f.ridge f.col s
      { s with dev := { s.dev with fills := { f with remapped := true } :: t } }
    else s

/-! ## Resets in progress -/

/-- A core lies in a region. -/
def inRegion (s : State) (r : Region) (c : Nat) : Bool :=
  match r with
  | .core i => i == c
  | .cluster k => k == clusterOf c
  | .partition p => p == partOf s c

/-- The reset in progress whose region holds the core. -/
def resetOf (s : State) (c : Nat) : Option ResetRun := s.resets.find? fun r => inRegion s r.region c

/-! ## Credits (R167) -/

/-- Credits held for an output. -/
def creditsOf (x : Core) (ch : Chan) (p : Port) : Nat := sget (fun _ => 8) x.credits (qCode ch p)

/-- Set the credits of an output. -/
def setCredits (ch : Chan) (p : Port) (n : Nat) (x : Core) : Core :=
  { x with credits := sset (fun _ => 8) x.credits (qCode ch p) n }

/-- The entry of an input queue is freed: the credit goes back to the sender (R167). -/
def returnCredit (c : Nat) (ch : Chan) (p : Port) (s : State) : State :=
  let put := fun (y : CreditWire) => { s with fab := { s.fab with credits := s.fab.credits ++ [y] } }
  match p, neighbour c p with
  | .l, _ => s
  | p, some d => put ⟨d, ch, opposite p, s.now + (hopCycles c p).2⟩
  | p, none => if edgePort c p then put ⟨c, ch, .l, s.now + 10⟩ else s

/-- CREDIT_RETURN. A credit reaches the output it belongs to; for `l`, the bridge die attached to the core. -/
def creditReturn (c : Nat) (ch : Chan) (p : Port) (s : State) : State :=
  match s.fab.credits.find? fun y => y.core == c && y.ch == ch && y.out == p && decide (y.due ≤ s.now) with
  | none => s
  | some y =>
    let s := { s with fab := { s.fab with credits := eraseFirst (fun z => z == y) s.fab.credits } }
    if p = .l then
      let k := 4 * c + chanCode ch
      { s with fab := { s.fab with dieSpent := sset (fun _ => 0) s.fab.dieSpent k (sget (fun _ => 0) s.fab.dieSpent k - 1) } }
    else modCore c (fun x => setCredits ch p (min 8 (creditsOf x ch p + 1)) x) s

/-! ## Steering units (R174) -/

/-- The current token of a unit. -/
def steerTok (x : Core) (u : Nat) : Option SteerTok := x.steer.find? (·.unit == u)

/-- The token queue of a unit. -/
def tokQueue (x : Core) (u : Nat) : List Flit := sget (fun _ => []) x.tokQ u

/-- Token of a control flit. -/
def tokenOf (f : Flit) : Nat := f.payload.toNat % 256

/-- A unit with no current token takes the oldest queued one. -/
def promoteTok (u : Nat) (x : Core) : Core :=
  if (steerTok x u).isSome then x
  else
    match tokQueue x u with
    | [] => x
    | f :: rest =>
      { x with tokQ := sset (fun _ => []) x.tokQ u rest, steer := x.steer ++ [⟨u, f, tokenOf f / 2 + 1⟩] }

/-- A steered flit has been forwarded: one flit fewer of the run. -/
def steerUsed (u : Nat) (x : Core) : Core :=
  match steerTok x u with
  | none => x
  | some k =>
    if k.left ≤ 1 then promoteTok u { x with steer := x.steer.filter (·.unit != u) }
    else { x with steer := x.steer.map fun z => if z.unit == u then { z with left := z.left - 1 } else z }

/-! ## Forwarding (R166) -/

/-- A head that may be forwarded in this cycle: its entry, the outputs it needs, and those it is sent on. -/
structure Ready where
  flit : Flit
  entry : Word
  /-- Steering unit whose run it uses. -/
  unit : Option Nat
  out : Nat
  deriving DecidableEq, Repr

/-- Tick phase (R166 item 2). -/
def tickPhase (s : State) : Nat := 8 * ((s.now - s.tick.boundAt) % ticT s) / ticT s

/-- Spill-mode rules apply to the switch: spill mode, or the drain of a reset (R186, R377). -/
def spillRules (s : State) (c : Nat) : Bool := (core s c).spill || (resetOf s c).isSome

/-- The switch forwards at all: not that of a frozen core (R440) or held in a frozen partition (R423), except in spill
mode (R185), and not past the drain of a reset. -/
def switchRuns (s : State) (c : Nat) : Bool :=
  match resetOf s c with
  | some r => !r.drained
  | none => (core s c).spill || !coreFrozen s c

/-- The ports of an out field that satisfy a test, as an out field. -/
def outWhere (out : Nat) (ok : Port → Bool) : Nat :=
  portOrder.foldl (fun a p => if outBit out p && ok p then a + 2 ^ portCode p else a) 0

/-- An output leads out of a region. -/
def outward (s : State) (r : Region) (c : Nat) (p : Port) : Bool :=
  p != .l && !(match neighbour c p with | some d => inRegion s r d | none => false)

/-- The outputs that an entry names: both masks of a steering word. -/
def outsOf (x : Core) (ch : Chan) (e : Word) : Nat :=
  if rNet e != netCode ch then 0
  else if rSteer e && ch != .control then
    let w := routeOf x (64 + rUnit e)
    field w 6 2 ||| field w 11 7
  else rOut e

/-- A flit of a route that reaches one of some switches of a region is led out of it by their entries (R377); `seen`: switches
already followed. -/
def pathLeaves (s : State) (r : Region) (ch : Chan) (f : Flit) : Nat → List Nat → List Nat → Bool
  | 0, _, _ => false
  | _ + 1, [], _ => false
  | n + 1, c :: t, seen =>
    if seen.contains c then pathLeaves s r ch f n t seen
    else
      let out := outsOf (core s c) ch (entryOf (core s c) f)
      if portOrder.any fun p => outBit out p && outward s r c p then true
      else pathLeaves s r ch f n ((portOrder.filter (outBit out)).filterMap (neighbour c) ++ t) (c :: seen)

/-- Switches that a path may be followed over. -/
def pathFuel : Nat := 50000

/-- The outputs on which a switch in a region under reset sends a flit (R377): those that lead out of the region; with none,
those from which its path leaves the region further on. -/
def maskOutputs (s : State) (c : Nat) (ch : Chan) (f : Flit) (out : Nat) : Nat :=
  match resetOf s c with
  | none => out
  | some r =>
    let outer := outWhere out (outward s r.region c)
    if outer != 0 then outer
    else outWhere out fun p => match neighbour c p with | some d => pathLeaves s r.region ch f pathFuel [d] [c] | none => false

/-- Conditions 1 to 3 of R166 on the head of a queue. -/
def headOutputs (s : State) (c : Nat) (ch : Chan) (p : Port) : Option Ready :=
  let x := core s c
  match queueOf x (qCode ch p) with
  | [] => none
  | f :: _ =>
    let e := entryOf x f.flit
    let loose := spillRules s c
    let eligible := f.at_ + (if p = .l then 0 else 1) + (if loose then 0 else rDelay e)
    let phase := tickPhase s
    let phaseOk := loose || (bitOf (rPhases e) phase && !(ch == .v1 && phase == 7))
    if rNet e != netCode ch || decide (s.now < eligible) || !phaseOk then none
    else if rSteer e && ch != .control then
      match steerTok x (rUnit e) with
      | none => none
      | some k =>
        let w := routeOf x (64 + rUnit e)
        some ⟨f.flit, e, some (rUnit e), maskOutputs s c ch f.flit (if bitOf (tokenOf k.token) 0 then field w 11 7 else field w 6 2)⟩
    else some ⟨f.flit, e, none, maskOutputs s c ch f.flit (rOut e)⟩

/-- The claims that stand in this cycle. -/
def claimsNow (s : State) (x : Core) : List Nat := if x.claimAt = s.now then x.claims else []

/-- Landing buffers have two entries (R83, R168). -/
def landingFull (x : Core) (ch : Chan) : Bool := decide (2 ≤ (landingOf x ch).length)

/-- Condition 4 of R166: outputs unclaimed, credits held, and this input not yet used. Under the spill rules the L
output also waits for landing-buffer space (R186). -/
def outputsFree (s : State) (c : Nat) (ch : Chan) (p : Port) (out : Nat) : Bool :=
  let x := core s c
  let cl := claimsNow s x
  !cl.contains (100 + qCode ch p) &&
  portOrder.all fun o => !outBit out o ||
    (!cl.contains (qCode ch o) && (o == .l || !hasLink c o || decide (0 < creditsOf x ch o)) &&
      !(o == .l && ch != .control && spillRules s c && landingFull x ch))

/-- The head of an input could go in this cycle, were there no other input. -/
def couldGo (s : State) (c : Nat) (ch : Chan) (p : Port) : Option Ready :=
  match headOutputs s c ch p with
  | none => none
  | some r => if outputsFree s c ch p r.out then some r else none

/-- Two heads need one output, or one steering unit's run. -/
def clash (a b : Ready) : Bool :=
  portOrder.any (fun o => outBit a.out o && outBit b.out o) || (a.unit.isSome && a.unit == b.unit)

/-- The inputs of a list that go in this cycle, each claiming its outputs from those after it (R166). -/
def claimers (s : State) (c : Nat) (ch : Chan) : List Port → List (Port × Ready) → List (Port × Ready)
  | [], won => won
  | p :: t, won =>
    match couldGo s c ch p with
    | some r => claimers s c ch t (if won.any (fun z => clash z.2 r) then won else won ++ [(p, r)])
    | none => claimers s c ch t won

/-- An input that goes first claims an output, or uses a steering unit's run, that this one needs (R166, R174). -/
def yields (s : State) (c : Nat) (ch : Chan) (p : Port) (r : Ready) : Bool :=
  (claimers s c ch (portOrder.takeWhile (· != p)) []).any (fun z => clash z.2 r) ||
  (ch == .v1 && r.unit.isSome && (claimers s c .v0 portOrder []).any fun z => z.2.unit == r.unit)

/-- The head of an input leaves its queue in this cycle, if it has not left yet. -/
def departs (s : State) (c : Nat) (ch : Chan) (p : Port) : Bool :=
  switchRuns s c &&
  match couldGo s c ch p with
  | some r => !yields s c ch p r && !(ch != .control && outBit r.out .l && landingFull (core s c) ch)
  | none => false

/-- A steering unit ends its current run in this cycle, and so takes its oldest queued token. -/
def runEnds (s : State) (c u : Nat) : Bool :=
  (match steerTok (core s c) u with | some k => decide (k.left ≤ 1) | none => false) &&
  [Chan.v0, .v1, .scalar].any fun ch => portOrder.any fun p =>
    departs s c ch p && (match couldGo s c ch p with | some r => r.unit == some u | none => false)

/-- A switch once the credits and tokens that reach it by this cycle have reached it. -/
def settled (s : State) (c : Nat) : State :=
  let x := (s.fab.credits.filter fun y => y.core == c && y.out != .l && decide (y.due ≤ s.now)).foldl
    (fun x y => setCredits y.ch y.out (min 8 (creditsOf x y.ch y.out + 1)) x) (core s c)
  setCore c ((s.fab.toks.filter fun y => y.core == c && decide (y.due ≤ s.now)).foldl
    (fun x y => promoteTok y.unit { x with tokQ := sset (fun _ => []) x.tokQ y.unit (tokQueue x y.unit ++ [y.flit]) }) x) s

/-- The head of an input leaves its queue in this cycle (R166, R179): judged with every credit and token of the cycle, whatever
the order in which the commands of the cycle stand (log entry 19). -/
def leavesNow (s : State) (c : Nat) (ch : Chan) (p : Port) : Bool := departs (settled s c) c ch p

/-- Every queue of the switch is empty. -/
def switchEmpty (x : Core) : Bool := x.queues.all (·.2.isEmpty) && x.tokQ.all (·.2.isEmpty)

/-- A pending write of SW_CTL.spill = 0 takes effect once every queue is empty (R185). -/
def spillTry (x : Core) : Core :=
  if x.spillExit && switchEmpty x then { x with spill := false, spillExit := false } else x

/-- E of the image in force (R294): 8 with one serving Ridge, 16 otherwise. -/
def portCores (s : State) : Nat :=
  match s.sched.active with
  | some im => if im.servRidges = 1 then 8 else 16
  | none => 16

/-- The attachment core carries Port traffic: with one serving Ridge only x 16 to 23 do (R34). -/
def usedAttachment (s : State) (c : Nat) : Bool := decide (16 ≤ c) && decide (c < 16 + portCores s)

/-- PORT_INFO: E, or 0 with no serving partition. -/
def portInfo (s : State) : Nat :=
  match s.sched.active with
  | some im => if im.servRidges = 0 then 0 else if im.servRidges = 1 then 8 else 16
  | none => 0

/-- The core's edge port leads to the Crest, or to a Port attachment that is not in use: the attached die takes what leaves
there, 10 cycles on, and makes nothing of it (Table 6.3; DESIGN CHOICE, log entry 83). -/
def idleEdge (s : State) (c : Nat) : Bool :=
  (decide (9136 ≤ c) && decide (c < 9152)) || (decide (16 + portInfo s ≤ c) && decide (c < 32))

/-- Send a flit on one output: a wire to the neighbour, or to the bridge die of an edge port (Table 6.3). -/
def sendOn (c : Nat) (ch : Chan) (f : Flit) (p : Port) (s : State) : State :=
  let t := s.now
  let vec := ch = .v0 ∨ ch = .v1
  let pay := fun (k : Nat) (s : State) =>
    if vec then chargeJob f.job k 1 s else s
  match p with
  | .l =>
    if ch = .control then s
    else modCore c (fun x => setLanding ch (landingOf x ch ++ [⟨f, t + 1⟩]) x) s
  | p =>
    match neighbour c p with
    | some d =>
      pay (if ridgeOf c = ridgeOf d then 6 else 7)
        (addWire ⟨d, ch, opposite p, f, t + (hopCycles c p).1⟩ (modCore c (fun x => setCredits ch p (creditsOf x ch p - 1) x) s))
    | none =>
      if edgePort c p then
        pay 7 { modCore c (fun x => setCredits ch p (creditsOf x ch p - 1) x) s with
          fab := if idleEdge s c then { s.fab with credits := s.fab.credits ++ [⟨c, ch, p, t + 20⟩] }
                 else { s.fab with edge := s.fab.edge ++ [⟨c, ch, f, t + 10⟩] } }
      else s

/-- Send a flit on each of its outputs. -/
def sendAll (c : Nat) (ch : Chan) (f : Flit) (out : Nat) : List Port → State → State
  | [], s => s
  | p :: t, s => sendAll c ch f out t (if outBit out p then sendOn c ch f p s else s)

/-- The head leaves its queue on its outputs. -/
def forwardHead (c : Nat) (ch : Chan) (p : Port) (r : Ready) (s : State) : State :=
  let x := core s c
  let q := qCode ch p
  let claimed := (portOrder.filter (outBit r.out)).map (qCode ch)
  let x := setQueue q ((queueOf x q).drop 1)
    { x with claims := claimsNow s x ++ (100 + q) :: claimed, claimAt := s.now, lastDeq := s.now }
  let x := match r.unit with | some u => steerUsed u x | none => x
  let s := returnCredit c ch p (setCore c x s)
  let s := sendAll c ch r.flit r.out portOrder s
  let s :=
    if ch = .control && rSteer r.entry then
      { s with fab := { s.fab with toks := s.fab.toks ++ [⟨c, rUnit r.entry, r.flit, s.now + 1⟩] } }
    else s
  modCore c spillTry (bump48 5 c 0x128 0 1 none s)

/-- Channel in the landing_full detail (Table 6.10). -/
def landingDetail (ch : Chan) (f : Flit) : Nat := chanCode ch + 4 * f.route.toNat

/-- FLIT_FORWARD. The head of an input queue is forwarded when the conditions of R166 hold; one that would find its
landing buffer full is slip 0x01 and stays (R83), or waits in spill mode (R186). -/
def flitForward (c : Nat) (ch : Chan) (p : Port) (s : State) : State :=
  if !switchRuns s c then s
  else
    match couldGo s c ch p with
    | none => s
    | some r =>
      if yields s c ch p r then s
      else if ch != .control && outBit r.out .l && landingFull (core s c) ch then
        slip 5 c 17 (landingDetail ch r.flit) 1 c [partOf s c] s
      else fillRemap (forwardHead c ch p r s)

/-! ## Arrival (R163, R172, R179, R183, R423) -/

/-- Traffic that comes from outside a frozen partition or a region under reset (R377, R423): which counter counts it. -/
inductive Absorb where
  | no
  | cluster
  | part (p : Nat)
  deriving DecidableEq, Repr

/-- Whether what reaches core c from `src` (none: a bridge die) is dropped at the boundary. -/
def absorbed (s : State) (c : Nat) (src : Option Nat) : Absorb :=
  let outside := fun (r : Region) => match src with | some d => !inRegion s r d | none => true
  match resetOf s c with
  | some r =>
    if outside r.region then (match r.region with | .partition p => .part p | _ => .cluster) else .no
  | none => if partFrozen s (partOf s c) && outside (.partition (partOf s c)) then .part (partOf s c) else .no

/-- Count a drop at a boundary. -/
def countAbsorb (c n : Nat) (a : Absorb) (s : State) : State :=
  match a with
  | .no => s
  | .cluster => bump48 4 (clusterOf c) 0x60 0 n none s
  | .part p => bump48 0x15 p 0x58 0 n (some (5, 1)) s

/-- The oldest flit on its way into a queue, arrived by now. -/
def wireInto (s : State) (c : Nat) (ch : Chan) (p : Port) : Option Wire :=
  s.fab.wires.find? fun y => y.core == c && y.ch == ch && y.inp == p && decide (y.due ≤ s.now)

/-- Take a wire. -/
def takeWire (y : Wire) (s : State) : State :=
  { s with fab := { s.fab with wires := eraseFirst (fun z => z == y) s.fab.wires } }

/-- An input that has a link and has not consumed the current seal (R183, R437). -/
def unsealed (c : Nat) (x : Core) (ch : Chan) (p : Port) : Bool :=
  x.sealing && hasLink c p && !x.sealed.getLsbD (qCode ch p)

/-- Detail of epoch_fault (Table 6.10). -/
def epochDetail (q : Nat) (f : Flit) (early : Bool) : Nat :=
  q + 32 * f.colour.toNat + 128 * bit01 early + 256 * f.route.toNat

/-- Put a flit into a queue and note the highest occupancy (SW_QHIGH); `n`: the occupancy at the end of the cycle. -/
def pushQueue (q n : Nat) (f : QFlit) (x : Core) : Core :=
  let l := queueOf x q ++ [f]
  let x := if switchEmpty x then { x with lastDeq := f.at_ } else x
  { setQueue q l x with high := sset (fun _ => 0) x.high q (max n (sget (fun _ => 0) x.high q)) }

/-- A flit enters a queue: colour, route, and the bound of its entry against the occupancy at the end of the cycle, from
which a departure of the same cycle is subtracted (R179). DESIGN CHOICE (log entry 84): of several causes that one arrival
meets, the first of epoch_fault, route_fault and credit_violation is raised. -/
def enterQueue (c : Nat) (ch : Chan) (p : Port) (f : Flit) (s : State) : State :=
  let x := core s c
  let q := qCode ch p
  let e := entryOf x f
  let n := (queueOf x q).length + 1 - bit01 (leavesNow s c ch p)
  let s' := modCore c (pushQueue q n ⟨f, s.now⟩) s
  let ps := [partOf s c]
  if f.colour ≠ x.colour then raise 5 c 19 1 (epochDetail q f false) (.parts ps) s'
  else if unsealed c x ch p then raise 5 c 19 1 (epochDetail q f true) (.parts ps) s'
  else if rNet e ≠ netCode ch then
    raise 5 c 18 1 (q + 32 * f.route.toNat + 2 ^ 11 * (if rNet e = 0 then 0 else 1)) (.core c) s'
  else if rBound e < n ∧ !spillRules s c then
    slip 5 c 16 (q + 32 * f.route.toNat + 2 ^ 11 * n) 1 c ps s'
  else s'

/-- The flit came over a saddle edge: from another Ridge (R29, R35). -/
def overSaddle (c : Nat) (p : Port) : Bool :=
  match neighbour c p with
  | some d => ridgeOf c != ridgeOf d
  | none => false

/-- What the check bits of a link make of a flit (R163); on a saddle edge, the receiving Ridge raises its cause too
(R44, log entry 75). -/
def linkEcc (c : Nat) (ch : Chan) (p : Port) (ecc : Ecc) (s : State) : State :=
  let q := qCode ch p
  match ecc with
  | .ok => s
  | .corrected _ => (if overSaddle c p then raiseCe 3 (ridgeOf c) 2 (portCode p) else id) (raiseCe 5 c 22 q s)
  | .uncorrectable _ =>
    let ps := [partOf s c]
    (if overSaddle c p then raise 3 (ridgeOf c) 3 1 (portCode p) (.parts ps) else id) (raise 5 c 23 1 q (.parts ps) s)

/-- Code of the die attached to an edge core (Table 1.2, R367). -/
def edgeDie (c : Nat) : Nat :=
  let x := c % 96
  let k := if x ≤ 15 then x / 8 else if x ≤ 31 then 14 else if x ≤ 55 then x / 8 - 2 else if x ≤ 71 then 5 else 6
  if k = 14 then (if c < 96 then 0x26 else 0x27) else 0x18 + k + (if c < 96 then 0 else 7)

/-- Slip 0x05 of a crossing from a die into the grid (R38, Table 2.12): the receiving partition freezes, or every partition for
the Crest. -/
def crossingLate (c die : Nat) (s : State) : State :=
  let ps := if die = 0x27 then partsNow s else [partOf s c]
  recordSlip 5 die ps (.parts ps) s

/-- FLIT_ARRIVE. A flit or token enters an input queue: from a link, from the core's own SSEND or CTOK, or as the line
that the mover read for a SEND in the cycle before. Traffic at the boundary of a frozen partition or of a region under
reset is dropped, and its credit returned. A flit from an edge die later than its cycle is slip 0x05 (R38). For a line read by the mover, `ecc` is the check of core SRAM. -/
def flitArrive (c : Nat) (ch : Chan) (p : Port) (ecc : Ecc) (s : State) : State :=
  match wireInto s c ch p with
  | some y =>
    let s := takeWire y s
    match (if p = .l then (if coreInReset s c then .cluster else Absorb.no) else absorbed s c (neighbour c p)) with
    | .no =>
      let s := if p != .l && (neighbour c p).isNone && decide (y.due < s.now) then crossingLate c (edgeDie c) s else s
      let s := linkEcc c ch p ecc s
      if dataWithheld ecc then fillRemap s else enterQueue c ch p y.flit s
    | a => if p = .l then s else countAbsorb c 1 a (returnCredit c ch p s)
  | none =>
    if p != .l || coreInReset s c || decide (8 ≤ (queueOf (core s c) (qCode ch .l)).length) then s
    else
      match sendNext c ch s with
      | none => s
      | some (r, f) =>
        let s := atCycle (s.now - 1) (sramCheck c ecc) s
        if dataWithheld ecc then stopMov c r s else enterQueue c ch .l f (sendMoved c r s)

/-- TOKEN_ARRIVE. A token enters the queue of a steering unit (R174); a fifth queued token at the end of the cycle is a
credit violation, except under the spill rules (R179, R186). -/
def tokenArrive (c u : Nat) (s : State) : State :=
  match s.fab.toks.find? fun y => y.core == c && y.unit == u && decide (y.due ≤ s.now) with
  | none => s
  | some y =>
    let s := { s with fab := { s.fab with toks := eraseFirst (fun z => z == y) s.fab.toks } }
    if coreInReset s c then s
    else
      let x := core s c
      let x' := promoteTok u { x with tokQ := sset (fun _ => []) x.tokQ u (tokQueue x u ++ [y.flit]) }
      let n := (tokQueue x' u).length - bit01 (runEnds (settled s c) c u)
      let x' := { x' with high := sset (fun _ => 0) x'.high (20 + u) (max n (sget (fun _ => 0) x'.high (20 + u))) }
      let s := setCore c x' s
      if y.flit.colour ≠ x.colour then
        raise 5 c 19 1 (epochDetail (20 + u) y.flit false) (.parts [partOf s c]) s
      else if 4 < n ∧ !spillRules s c then slip 5 c 16 (20 + u + 32 * y.flit.route.toNat + 2 ^ 11 * n) 1 c [partOf s c] s
      else s

/-! ## Epoch seals (R182, R437) -/

/-- The inputs that have no link, and the L inputs, count as sealed from the swap on (R437). -/
def sealedAtSwap (c : Nat) : BitVec 20 :=
  BitVec.ofNat 20 <| (List.range 20).foldl (fun a q =>
    let p := (portOrder.getD (q % 5) .l)
    if p == .l || !hasLink c p then a + 2 ^ q else a) 0

/-- A seal of the current colour is on its way to an input and may arrive in this cycle: from a neighbour that has taken the
colour, or from the bridge die of an edge port, in the cycles of Table 6.7. -/
def sealDue (s : State) (c : Nat) (ch : Chan) (p : Port) : Bool :=
  let x := core s c
  let sent := match neighbour c p with | some d => (core s d).colour == x.colour | none => edgePort c p
  let late := match neighbour c p with | some d => if ridgeOf c = ridgeOf d then 1 else 5 | none => 9
  unsealed c x ch p && sent && !x.lostSeals.getLsbD (qCode ch p) && decide (s.sched.activeAt + late ≤ s.now)

/-- SEAL_ARRIVE. The seal of an input is consumed, unless the check bits of its header withhold it (R163). -/
def sealArrive (c : Nat) (ch : Chan) (a : SealIn) (s : State) : State :=
  let q := qCode ch a.inp
  if !sealDue s c ch a.inp then s
  else
    let s := linkEcc c ch a.inp a.ecc s
    let bit := BitVec.ofNat 20 (2 ^ q)
    if dataWithheld a.ecc then modCore c (fun x => { x with lostSeals := x.lostSeals ||| bit }) s
    else modCore c (fun x => { x with sealed := x.sealed ||| bit, sealing := x.sealed ||| bit != BitVec.allOnes 20 }) s

/-! ## Spill mode (R185 to R190) -/

/-- A write to SW_CTL.spill is permitted: the Ridge is unassigned, or the partition is frozen. -/
def spillAllowed (s : State) (c : Nat) : Bool := !assigned s || partFrozen s (partOf s c)

/-- Write 1 to SW_CTL.spill. -/
def spillRequest (c : Nat) (s : State) : State :=
  if spillAllowed s c then
    setReg 5 c 0x100 (setField (reg s 5 c 0x100) 0 0 1)
      (modCore c (fun x => { x with spill := true, spillExit := false, lastDeq := if x.spill then x.lastDeq else s.now }) s)
  else raiseCe 5 c 12 0 s

/-- Write 0 to SW_CTL.spill: it takes effect in the first cycle in which every queue is empty (R185). -/
def spillLeave (c : Nat) (s : State) : State :=
  setReg 5 c 0x100 (setField (reg s 5 c 0x100) 0 0 0)
    (modCore c (fun x => spillTry { x with spillExit := x.spill }) s)

/-- SW_CTL.area_clear: the spill area is emptied, unless the switch is in spill mode. -/
def areaClear (c : Nat) (s : State) : State := if (core s c).spill then s else setReg 5 c 0x154 0 s

/-- The queued flits and tokens in the order of R188, with their queue codes. -/
def spillList (x : Core) : List (Nat × Flit) :=
  ((List.range 20).flatMap fun q => (queueOf x q).map fun f => (q, f.flit)) ++
    ((List.range 8).flatMap fun u => (tokQueue x u).map fun f => (20 + u, f))

/-- The queue carries vector payloads. -/
def isVector (q : Nat) : Bool := decide (q < 10)

/-- Header record of Table 6.8. -/
def spillRecord (q : Nat) (f : Flit) (slot : Nat) : Nat :=
  f.route.toNat + 2 ^ 6 * f.colour.toNat + 2 ^ 8 * bit01 f.isSeal + 2 ^ 9 * bit01 f.last + 2 ^ 10 * q +
    (if isVector q then 2 ^ 15 + 2 ^ 16 * slot
     else 2 ^ 32 * (f.payload.toNat % (if q < 15 then 2 ^ 32 else 256)))

/-- Write flits into the spill area from the slots and records in use; those that do not fit are counted. -/
def spillInto (c : Nat) : Nat → Nat → Nat → List (Nat × Flit) → State → Nat × Nat × Nat × State
  | slots, recs, lost, [], s => (slots, recs, lost, s)
  | slots, recs, lost, (q, f) :: t, s =>
    if recs ≥ 256 ∨ (isVector q ∧ slots ≥ 224) then spillInto c slots recs (lost + 1) t s
    else
      let a := sramAddr c 7136 + 8 * recs
      let s := { s with sram := memPut s.sram a (leBytes 8 (spillRecord q f slots)) }
      let s := if isVector q then setSramLine c (6912 + slots) f.payload s else s
      spillInto c (if isVector q then slots + 1 else slots) (recs + 1) lost t s

/-- Append the 256 lines of the spill area to the spill window (R189, log entry 21): none of it where it does not fit
or meets a PENDING line, or where a check of the area's lines withholds one (R85). -/
def appendArea (c : Nat) (eccs : List Ecc) (s : State) : State :=
  let used := (reg s 5 c 0x150).toNat
  let h := (reg s 5 c 0x148).toNat + used
  let q := coreCirque c
  if used + 256 > (reg s 5 c 0x14C).toNat ∨ h + 256 > 2 ^ 20 then s
  else if (List.range 256).any fun i => lineSt s q (h + i) == 1 then
    raise 6 q 4 1 (clusterOf c) (.parts [partOf s c]) s
  else if anyWithheld eccs then sramChecks c eccs s
  else
    let s := sramChecks c eccs s
    setReg 5 c 0x154 0 (setReg 5 c 0x150 (BitVec.ofNat 32 (used + 256))
      (writeHub q h ((List.range 256).map fun i => sramLine s c (6912 + i)) s))

/-- Return the credits of n freed entries of an input queue. -/
def returnCredits (c : Nat) (ch : Chan) (p : Port) : Nat → State → State
  | 0, s => s
  | n + 1, s => returnCredits c ch p n (returnCredit c ch p s)

/-- Return the credits of every queued flit of a switch. -/
def returnAll (c : Nat) (x : Core) : List (Chan × Port) → State → State
  | [], s => s
  | (ch, p) :: t, s => returnAll c x t (returnCredits c ch p (queueOf x (qCode ch p)).length s)

/-- Every input of a switch. -/
def allInputs : List (Chan × Port) :=
  [Chan.v0, .v1, .scalar, .control].flatMap fun ch => portOrder.map fun p => (ch, p)

/-- A spill (R188, R189). -/
def spill (c : Nat) (eccs : List Ecc) (bank : BankEvents) (s : State) : State :=
  let x := core s c
  let l := spillList x
  let vec := (l.filter fun e => isVector e.1).length
  let area := fun (s : State) => (field (reg s 5 c 0x154) 7 0, field (reg s 5 c 0x154) 16 8)
  let fits := vec ≤ 224 - (area s).1 ∧ l.length ≤ 256 - (area s).2
  let s := countBanks c (bankCount userOfNet bank) s
  let s := if fits then s else appendArea c eccs s
  let (slots, recs, lost, s) := spillInto c (area s).1 (area s).2 0 l s
  let s := setReg 5 c 0x154 (BitVec.ofNat 32 (slots + 256 * recs)) s
  let s := returnAll c x allInputs s
  let s := modCore c (fun x => spillTry { x with queues := [], tokQ := [], lastDeq := s.now }) s
  let s := bump48 5 c 0x130 0 (l.length - lost) none s
  if lost = 0 then s else raiseCe 5 c 21 (min lost 255) (bump48 5 c 0x140 0 lost none s)

/-- DEADLOCK_DETECT. A switch in spill mode that holds something and has dequeued nothing for 4,096 cycles (R187). -/
def deadlockDetect (c : Nat) (eccs : List Ecc) (bank : BankEvents) (s : State) : State :=
  let x := core s c
  match spillList x with
  | [] => s
  | (q, _) :: _ =>
    if !x.spill then s
    else
      let s := passTo (x.lastDeq + 4096) s
      fillRemap (spill c eccs bank (bump48 5 c 0x138 0 1 none (raiseCe 5 c 20 q s)))

/-! ## Rows -/

/-- FLIT_FORWARD (R166). -/
def execFlitForward (dt core : Nat) (ch : Chan) (inp : Port) (s : State) : Host.Outcome State Fault Refusal :=
  answer (.flitForward dt core ch inp) s <|
    flitForward core ch inp (elapse dt s)

/-- FLIT_ARRIVE (R179). -/
def execFlitArrive (dt core : Nat) (ch : Chan) (inp : Port) (ecc : Ecc) (s : State) : Host.Outcome State Fault Refusal :=
  answer (.flitArrive dt core ch inp ecc) s <|
    flitArrive core ch inp ecc (elapse dt s)

/-- CREDIT_RETURN (R167). -/
def execCreditReturn (dt core : Nat) (ch : Chan) (outp : Port) (s : State) : Host.Outcome State Fault Refusal :=
  answer (.creditReturn dt core ch outp) s <|
    creditReturn core ch outp (elapse dt s)

/-- TOKEN_ARRIVE (R174). -/
def execTokenArrive (dt core : Nat) (unit : Nat) (s : State) : Host.Outcome State Fault Refusal :=
  answer (.tokenArrive dt core unit) s <|
    tokenArrive core unit (elapse dt s)

/-- SEAL_ARRIVE (R182). -/
def execSealArrive (dt core : Nat) (ch : Chan) (a : SealIn) (s : State) : Host.Outcome State Fault Refusal :=
  answer (.sealArrive dt core ch a) s <|
    sealArrive core ch a (elapse dt s)

/-- SPILL_MODE_REQUEST (R185). -/
def execSpillModeRequest (src : Src) (core : Nat) (s : State) : Host.Outcome State Fault Refusal :=
  answer (.spillModeRequest src core) s <|
    if coreOff s core then s else spillRequest core s

/-- SPILL_MODE_EXIT (R185). -/
def execSpillModeExit (src : Src) (core : Nat) (s : State) : Host.Outcome State Fault Refusal :=
  answer (.spillModeExit src core) s <|
    if coreOff s core then s else spillLeave core s

/-- DEADLOCK_DETECT (R187). -/
def execDeadlockDetect (core : SpillCore) (s : State) : Host.Outcome State Fault Refusal :=
  answer (.deadlockDetect core) s <|
    deadlockDetect core.core core.eccs core.bank s

/-- SPILL_AREA_CLEAR (R191). -/
def execSpillAreaClear (src : Src) (core : Nat) (s : State) : Host.Outcome State Fault Refusal :=
  answer (.spillAreaClear src core) s <|
    if coreOff s core then s else areaClear core s

end Sys2Proof.Machine
end

