-- ==== Sys2Proof/Machine/Frames.lean ====
section
/-! DEFINITION. Ethernet, IP and UDP frames as bytes: what the T9 accepts of a received frame (R284), and the headers of
the frames it builds (R304, R438). Frames stand here without their FCS. -/

namespace Sys2Proof.Machine

open Sys2Proof

/-! ## Checksums -/

/-- Sum of the big-endian 16-bit words of some bytes, an odd last byte padded with 0. -/
def wordSum : List Byte → Nat
  | [] => 0
  | [a] => 256 * a.toNat
  | a :: b :: t => 256 * a.toNat + b.toNat + wordSum t

/-- Ones' complement sum folded to 16 bits. -/
def foldSum (n : Nat) : Nat := if n = 0 then 0 else if n % 65535 = 0 then 65535 else n % 65535

/-- The Internet checksum of a word sum. -/
def checksum (n : Nat) : Nat := 65535 - foldSum n

/-- A UDP checksum: 0 is sent as 0xFFFF. -/
def udpChecksum (n : Nat) : Nat := if checksum n = 0 then 65535 else checksum n

/-- `n` bytes from offset `o`. -/
def bytesAt (l : List Byte) (o n : Nat) : List Byte := (l.drop o).take n

/-- Replace the bytes from offset `o`. -/
def putBytes (l : List Byte) (o : Nat) (b : List Byte) : List Byte := l.take o ++ b ++ l.drop (o + b.length)

/-! ## Received frames (R284) -/

/-- The network layer of a received frame, as far as the T9 follows it. -/
inductive Net where
  /-- Uses an option that the T9 does not support. -/
  | unsupported
  /-- An IPv4 header or UDP checksum fails. -/
  | badSum
  /-- Not IP, or IP that carries no UDP: EtherType and payload. -/
  | other (etherType : Nat) (payload : List Byte)
  /-- UDP: addressing, destination address bytes, payload. -/
  | udp (l3 : L3) (dst : List Byte) (payload : List Byte)
  deriving DecidableEq, Repr

/-- UDP over a pseudo-header sum: payload and ports, or what fails. -/
def udpOf (v6 : Bool) (pseudo : Nat) (p : List Byte) : Option (Option (Nat × Nat × List Byte)) :=
  let len := beNat (bytesAt p 4 2)
  let sum := beNat (bytesAt p 6 2)
  if p.length < 8 ∨ len < 8 ∨ p.length < len then none
  else if v6 ∧ sum = 0 then none
  else if sum ≠ 0 ∧ foldSum (pseudo + 17 + len + wordSum (p.take len)) ≠ 65535 then some none
  else some (some (beNat (bytesAt p 0 2), beNat (bytesAt p 2 2), (p.take len).drop 8))

/-- An IPv4 packet. -/
def ipv4Of (p : List Byte) : Net :=
  let ihl := 4 * ((p.getD 0 0).toNat % 16)
  let len := beNat (bytesAt p 2 2)
  if p.length < 20 ∨ (p.getD 0 0).toNat / 16 ≠ 4 ∨ ihl < 20 ∨ len < ihl ∨ p.length < len then .unsupported
  else if foldSum (wordSum (p.take ihl)) ≠ 65535 then .badSum
  else if beNat (bytesAt p 6 2) % 2 ^ 14 ≠ 0 then .unsupported
  else if p.getD 9 0 ≠ 17 then .other 0x0800 p
  else
    match udpOf false (wordSum (bytesAt p 12 8)) ((p.take len).drop ihl) with
    | none => .unsupported
    | some none => .badSum
    | some (some (sp, dp, d)) =>
      .udp (.v4 (BitVec.ofNat 32 (beNat (bytesAt p 12 4))) (BitVec.ofNat 32 (beNat (bytesAt p 16 4)))
        (BitVec.ofNat 6 ((p.getD 1 0).toNat / 4)) (BitVec.ofNat 16 sp) (BitVec.ofNat 16 dp)) (bytesAt p 16 4) d

/-- An IPv6 packet: the next header must be UDP. -/
def ipv6Of (p : List Byte) : Net :=
  let len := beNat (bytesAt p 4 2)
  if p.length < 40 ∨ (p.getD 0 0).toNat / 16 ≠ 6 ∨ p.length < 40 + len ∨ p.getD 6 0 ≠ 17 then .unsupported
  else
    match udpOf true (wordSum (bytesAt p 8 32)) ((p.drop 40).take len) with
    | none => .unsupported
    | some none => .badSum
    | some (some (sp, dp, d)) =>
      .udp (.v6 (BitVec.ofNat 128 (beNat (bytesAt p 8 16))) (BitVec.ofNat 128 (beNat (bytesAt p 24 16)))
        (BitVec.ofNat 6 (beNat (bytesAt p 0 2) / 64 % 64)) (BitVec.ofNat 16 sp) (BitVec.ofNat 16 dp)) (bytesAt p 24 16) d

/-- A frame after its VLAN stage: tag if any, and network layer. A second tag and MAC control frames (PAUSE, priority
flow control) are not supported. -/
def netOf (b : List Byte) : Option (BitVec 16) × Net :=
  let t0 := beNat (bytesAt b 12 2)
  let tagged := t0 == 0x8100
  let et := if tagged then beNat (bytesAt b 16 2) else t0
  let p := b.drop (if tagged then 18 else 14)
  (if tagged then some (BitVec.ofNat 16 (beNat (bytesAt b 14 2))) else none,
   if et = 0x8100 ∨ et = 0x88A8 ∨ et = 0x8808 then .unsupported
   else if et = 0x0800 then ipv4Of p
   else if et = 0x86DD then ipv6Of p
   else .other et p)

/-! ## Frames sent (R438) -/

/-- MAC addresses, tag and EtherType. -/
def macHeader (dst src : BitVec 48) (vlan : Option (BitVec 16)) (et : Nat) : List Byte :=
  beBytes 6 dst.toNat ++ beBytes 6 src.toNat ++
  (match vlan with | some v => beBytes 2 0x8100 ++ beBytes 2 v.toNat | none => []) ++ beBytes 2 et

/-- A UDP datagram over a pseudo-header sum. -/
def udpBytes (pseudo sp dp : Nat) (d : List Byte) : List Byte :=
  let h := beBytes 2 sp ++ beBytes 2 dp ++ beBytes 2 (8 + d.length)
  h ++ beBytes 2 (udpChecksum (pseudo + 17 + 8 + d.length + wordSum (h ++ [0, 0] ++ d))) ++ d

/-- An IPv4 packet with UDP: DF set, TTL 64, identification 0. -/
def ipv4Bytes (src dst : BitVec 32) (dscp : Nat) (sp dp : Nat) (d : List Byte) : List Byte :=
  let a := beBytes 4 src.toNat ++ beBytes 4 dst.toNat
  let h := [0x45, BitVec.ofNat 8 (4 * dscp)] ++ beBytes 2 (28 + d.length) ++ [0, 0, 0x40, 0, 64, 17]
  h ++ beBytes 2 (checksum (wordSum (h ++ [0, 0] ++ a))) ++ a ++ udpBytes (wordSum a) sp dp d

/-- An IPv6 packet with UDP: flow label 0, hop limit 64. -/
def ipv6Bytes (src dst : BitVec 128) (dscp : Nat) (sp dp : Nat) (d : List Byte) : List Byte :=
  let a := beBytes 16 src.toNat ++ beBytes 16 dst.toNat
  beBytes 4 (6 * 2 ^ 28 + 4 * dscp * 2 ^ 20) ++ beBytes 2 (8 + d.length) ++ [17, 64] ++ a ++
  udpBytes (wordSum a) sp dp d

/-! ## The invariant CRC of RoCEv2 (R324; IBTA, log entry 77) -/

/-- One bit of the reflected CRC-32 of polynomial 0x04C11DB7. -/
def crc32Bit (c : BitVec 32) : BitVec 32 := if c.getLsbD 0 then (c >>> 1) ^^^ 0xEDB88320#32 else c >>> 1

/-- One byte of it. -/
def crc32Byte (c : BitVec 32) (b : Byte) : BitVec 32 :=
  crc32Bit (crc32Bit (crc32Bit (crc32Bit (crc32Bit (crc32Bit (crc32Bit (crc32Bit (c ^^^ b.setWidth 32))))))))

/-- CRC-32 of some bytes. -/
def crc32 (l : List Byte) : Nat := (~~~ l.foldl crc32Byte 0xFFFFFFFF#32).toNat

/-- ICRC of an IP packet whose last four bytes are its place: over ones in place of the local header and of the fields that
change on the way. -/
def icrcOf (ip : List Byte) : List Byte :=
  let v6 := (ip.getD 0 0).toNat / 16 == 6
  let hl := if v6 then 40 else 4 * ((ip.getD 0 0).toNat % 16)
  let ones := (if v6 then [1, 2, 3, 7] else [1, 8, 10, 11]) ++ [hl + 6, hl + 7, hl + 12]
  let b := ones.foldl (fun (b : List Byte) i => b.set i 0xFF) (ip.take (ip.length - 4))
  let b := if v6 then b.set 0 (b.getD 0 0 ||| 0x0F) else b
  leBytes 4 (crc32 (List.replicate 8 0xFF ++ b))

/-- A packet with its ICRC; `build` takes the four bytes that end its payload. -/
def withIcrc (build : List Byte → List Byte) : List Byte := build (icrcOf (build [0, 0, 0, 0]))

/-- Pad a frame to 60 bytes before its FCS. -/
def padFrame (b : List Byte) : List Byte := b ++ List.replicate (60 - b.length) 0

end Sys2Proof.Machine
end

