-- ==== Sys2Proof/Machine/Wire.lean ====
section
/-! DEFINITION. The Ethernet interfaces between MAC and frames: which are up, MACsec protection (R330, R331), and frames on
their way out (R306). -/

namespace Sys2Proof.Machine

open Sys2Proof

/-! ## Interfaces (R283, R315) -/

/-- Add to a counter of ETH page p (Table 10.11). -/
def ethCount (p i n : Nat) (s : State) : State :=
  if n = 0 then s else if i ≤ 4 then bump48 0xB p 0x58 i n (some (3, i)) s else bump32 0xB p 0x58 i n (some (3, i)) s

/-- Port mode provides interface i of port p (Table 10.1). -/
def intfProvided (s : State) (intf : Nat) : Bool :=
  decide (intf % 4 < [1, 1, 2, 4].getD (field (reg s 0xB (intf / 4) 0x40) 1 0) 1)

/-- An interface is up: its port enabled, provided by the mode, its link up. -/
def intfUp (s : State) (intf : Nat) : Bool :=
  (reg s 0xB (intf / 4) 0x8).getLsbD 0 && intfProvided s intf && sget (fun _ => false) s.serve.ethUp intf

/-- ETH_MAC of an interface. -/
def intfMac (s : State) (intf : Nat) : BitVec 48 :=
  BitVec.ofNat 48 ((rget s (regKey 0xB (intf / 4) 0x4C (intf % 4))).toNat +
    2 ^ 32 * field (rget s (regKey 0xB (intf / 4) 0x50 (intf % 4))) 15 0)

/-- Change the serving lane. -/
def modServe (f : ServeSt → ServeSt) (s : State) : State := { s with serve := f s.serve }

/-- Change what the Crest keeps for host access. -/
def modHost (f : HostSt → HostSt) (s : State) : State := { s with host := f s.host }

/-! ## MACsec (R330, R331; IEEE 802.1AE, log entry 77) -/

/-- MACsec of an interface. -/
def macsec (s : State) (intf : Nat) : MacsecSt := sget (fun _ => MacsecSt.reset) s.host.macsec intf

/-- Set the MACsec state of an interface. -/
def setMacsec (intf : Nat) (x : MacsecSt) (s : State) : State :=
  modHost (fun h => { h with macsec := sset (fun _ => MacsecSt.reset) h.macsec intf x }) s

/-- HA_MS_CFG of an interface. -/
def macsecCfg (s : State) (intf : Nat) : Word := rget s (regKey 0xF 0 0x90 intf)

/-- HA_MS_CFG.enable of an interface. -/
def macsecOn (s : State) (intf : Nat) : Bool := (macsecCfg s intf).getLsbD 0

/-- An interface is protected: MACsec enabled, with a live MKA session. -/
def protectedIntf (s : State) (intf : Nat) : Bool := macsecOn s intf && (macsec s intf).live

/-- An interface may send frames: it is up, and is not enabled for MACsec without a live session (R331). -/
def intfSends (s : State) (intf : Nat) : Bool :=
  intfUp s intf && (!macsecOn s intf || (macsec s intf).live)

/-- The SAK of an association. -/
def sakOf (x : MacsecSt) (an : Nat) : Option LiveSak := (x.saks.find? fun e => e.1 == an).map (·.2)

/-- Replace the SAK of an association. -/
def putSak (an : Nat) (k : LiveSak) (x : MacsecSt) : MacsecSt :=
  { x with saks := x.saks.map fun e => if e.1 = an then (an, k) else e }

/-- Initialisation vector of a packet number: short SCI and number, XORed with the salt. -/
def xpnIv (salt : List Byte) (ssci : Word) (pn : Nat) : List Byte :=
  List.zipWith (· ^^^ ·) (beBytes 4 ssci.toNat ++ beBytes 8 pn) salt

/-- The security tag of a frame that an interface sends: its own SCI (MAC address, port 1), encrypted. -/
def secTag (mac : BitVec 48) (an n pn : Nat) : List Byte :=
  beBytes 2 0x88E5 ++ [BitVec.ofNat 8 (0x2C + an), BitVec.ofNat 8 (if n < 48 then n else 0)] ++ beBytes 4 (pn % 2 ^ 32) ++
  beBytes 6 mac.toNat ++ beBytes 2 1

/-- A frame as it leaves the interface, and the state after: protected where MACsec runs. -/
def sealFrame (intf : Nat) (b : List Byte) (s : State) : List Byte × State :=
  let x := macsec s intf
  if macsecOn s intf then
    match sakOf x x.txAn with
    | none => (b, s)
    | some k =>
      let data := b.drop 12
      let aad := b.take 12 ++ secTag (intfMac s intf) x.txAn data.length k.txPn
      let iv := xpnIv k.salt k.txSsci k.txPn
      let ct := gcmCrypt k.key iv data
      (aad ++ ct ++ gcmTag k.key iv aad ct, setMacsec intf (putSak x.txAn { k with txPn := k.txPn + 1 } x) s)
  else (b, s)

/-- The packet number whose low 32 bits were received: the next in order after the lowest acceptable one. -/
def xpnOf (lowest lo : Nat) : Nat :=
  let hi := lowest / 2 ^ 32
  if 2 ^ 31 ≤ lowest % 2 ^ 32 ∧ lo < 2 ^ 31 then (hi + 1) * 2 ^ 32 + lo else hi * 2 ^ 32 + lo

/-- What the MACsec stage makes of a received frame (R330, R331): it passes with its clear bytes, fails its integrity check,
or is not accepted. -/
inductive MacsecVerdict where
  | pass (bytes : List Byte)
  | icv
  | refuse
  deriving DecidableEq, Repr

/-- Open a protected frame: what passes, and the association's SAK after it. Integrity-only protection, unknown associations
and channels, and packet numbers behind the replay window are not accepted. -/
def openFrame (s : State) (intf : Nat) (b : List Byte) : MacsecVerdict × State :=
  let tci := (b.getD 14 0).toNat
  let hl := if tci / 32 % 2 = 1 then 28 else 20
  let sl := (b.getD 15 0).toNat
  let n := if sl = 0 then b.length - hl - 16 else sl
  let cfg := macsecCfg s intf
  match sakOf (macsec s intf) (tci % 4) with
  | none => (.refuse, s)
  | some k =>
    let pn := xpnOf k.rxPn (beNat (bytesAt b 16 4))
    if b.length < hl + n + 16 ∨ 128 ≤ tci ∨ tci / 4 % 4 ≠ 3 ∨ 48 ≤ sl ∨ (hl = 28 ∧ beNat (bytesAt b 20 8) ≠ k.rxSci.toNat) ∨
        (cfg.getLsbD 1 ∧ pn + field cfg 31 2 < k.rxPn) then (.refuse, s)
    else
      let iv := xpnIv k.salt k.rxSsci pn
      let ct := bytesAt b hl n
      if gcmTag k.key iv (b.take hl) ct = bytesAt b (hl + n) 16 then
        (.pass (b.take 12 ++ gcmCrypt k.key iv ct),
         setMacsec intf (putSak (tci % 4) { k with rxPn := max k.rxPn (pn + 1) } (macsec s intf)) s)
      else (.icv, s)

/-- Judge a received frame. Without a live session an interface that is enabled for MACsec accepts EAPOL alone. -/
def macsecStage (intf : Nat) (b : List Byte) (s : State) : MacsecVerdict × State :=
  let et := beNat (bytesAt b 12 2)
  if macsecOn s intf then
    if et = 0x888E then (.pass b, s)
    else if (macsec s intf).live ∧ et = 0x88E5 then openFrame s intf b
    else (.refuse, s)
  else if et = 0x88E5 then (.refuse, s)
  else (.pass b, s)

/-! ## Frames out (R306) -/

/-- A frame leaves an interface. -/
def launchFrame (intf : Nat) (b : List Byte) (s : State) : State :=
  let (f, s) := sealFrame intf b s
  ethCount (intf / 4) 1 1 (emit (.frame intf f) s)

/-- Host frames leave an interface in order. -/
def launchHost (intf : Nat) : List (List Byte) → State → State
  | [], s => s
  | b :: t, s => launchHost intf t (launchFrame intf b s)

/-- Bytes waiting in a transmit buffer: decision frames, and host frames behind them. -/
def txBytes (s : State) (intf : Nat) : Nat :=
  ((sget (fun _ => []) s.serve.tx intf ++ sget (fun _ => []) s.serve.txHost intf).map List.length).sum

/-- A host frame goes out at once, or waits behind the decision frames of its interface (R306). -/
def hostFrame (intf : Nat) (b : List Byte) (s : State) : State :=
  if sget (fun _ => []) s.serve.tx intf = [] then launchFrame intf b s
  else
    modServe (fun v => { v with
      txHost := sset (fun _ => []) v.txHost intf (sget (fun _ => []) v.txHost intf ++ [b]) }) s

end Sys2Proof.Machine
end

