-- ==== Sys2Proof/Machine/Serving.lean ====
section
/-! DEFINITION. The serving lane (10_serving_lane.md): ports, ingress, the instrument map, step composition, sequences,
the feed ring, egress templates and decision frames. -/

namespace Sys2Proof.Machine

open Sys2Proof

/-! ## Counters (Table 10.11) -/

/-- Add to an INGRESS counter. -/
def inCount (i n : Nat) (s : State) : State :=
  if n = 0 then s else if i ≤ 3 then bump48 0xC 0 0x74 i n (some (2, i)) s else bump32 0xC 0 0x74 i n (some (2, i)) s

/-- Add to an EGRESS counter. -/
def egCount (i n : Nat) (s : State) : State :=
  if i ≤ 3 then bump48 0xD 0 0x50 i n (some (1, i)) s else bump32 0xD 0 0x50 i n (some (1, i)) s

/-- Add to a SERVE counter. -/
def srvCount (i n : Nat) (s : State) : State :=
  if i = 4 ∨ i = 9 then bump32 0xE 0 0x8C i n (some (5, i)) s else bump48 0xE 0 0x8C i n (some (5, i)) s

/-! ## Interfaces (R283, R315) -/

/-- ETH_LINK_CHANGE. An interface goes up or down (Table 10.13). -/
def linkChange (intf : Nat) (up : Bool) (s : State) : State :=
  if !(reg s 0xB (intf / 4) 0x8).getLsbD 0 || !intfProvided s intf || intfUp s intf == up then s
  else
    raiseCe 0xB (intf / 4) 0 (intf % 4 + 4 * bit01 up)
      { s with serve := { s.serve with ethUp := sset (fun _ => false) s.serve.ethUp intf up } }

/-! ## Tables and the instrument map (R287 to R291) -/

/-- Word w of entry i of an ingress table (Table 10.3). -/
def tabWord (s : State) (t i w : Nat) : Word := sget (fun _ => 0) s.serve.tab (2 ^ 20 * t + 8 * i + w)

/-- Entries of an ingress table. -/
def tabSize (t : Nat) : Nat := [512, 256, 8192, 32768].getD t 0

/-- A map entry. -/
def mapEntry (s : State) (i : Nat) : Option MapEntry := sget (fun _ => none) s.serve.map i

/-- Set or remove a map entry. -/
def setEntry (i : Nat) (e : Option MapEntry) (s : State) : State :=
  modServe (fun v => { v with map := sset (fun _ => none) v.map i e }) s

/-- The valid entries with their indices, rising. -/
def mapEntries (s : State) : List (Nat × MapEntry) :=
  s.serve.map.filterMap fun e => match e.2 with | some x => some (e.1, x) | none => none

/-- Look up a pair (R290). -/
def mapLookup (s : State) (key : Dword) (feed : Nat) : Option (Nat × MapEntry) :=
  (mapEntries s).find? fun e => e.2.key == key && e.2.feed == feed

/-- SRV_MODEL of a slot. -/
def modelOf (s : State) (slot : Nat) : Word := sget (fun _ => 0) s.serve.models slot

/-- SRV_MODEL of a slot as it reads: the value last written, in force or waiting for the gather boundary (R16, R317). -/
def modelWritten (s : State) (slot : Nat) : Word :=
  match s.serve.modelPend.find? (·.1 == slot) with
  | some e => e.2
  | none => modelOf s slot

/-- A model slot is valid. -/
def modelValid (s : State) (slot : Nat) : Bool := (modelOf s slot).getLsbD 0

/-- State pages of a sequence of a model slot (R298). -/
def modelPages (s : State) (slot : Nat) : Nat := field (modelOf s slot) 4 1 + 1

/-- A map entry as IN_DATA words D0 to D3. -/
def entryWords (e : MapEntry) : List Word :=
  [BitVec.ofNat 32 e.key.toNat, BitVec.ofNat 32 (e.key.toNat / 2 ^ 32), BitVec.ofNat 32 (e.feed + 2 ^ 16 * e.row),
   BitVec.ofNat 32 (e.slot + 2 ^ 12 * e.flags + 2 ^ 20 * e.st + 2 ^ 23 * bit01 e.leave), 0, 0, 0, 0]

/-- Write IN_DATA words from word k. -/
def putInData : Nat → List Word → State → State
  | _, [], s => s
  | k, w :: t, s => putInData (k + 1) t (setReg 0xC 0 (0x44 + 4 * k) w s)

/-- IN_DATA as it stands. -/
def inData (s : State) : List Word := (List.range 8).map fun i => reg s 0xC 0 (0x44 + 4 * i)

/-- Set IN_RESULT: ok, reason, index. -/
def setResult (ok : Bool) (reason index : Nat) (s : State) : State :=
  modServe (fun v => { v with result := BitVec.ofNat 32 (2 * bit01 ok + 4 * reason + 2 ^ 8 * index) }) s

/-- Reject an IN_CMD command (Table 10.4). -/
def inReject (code reason : Nat) (s : State) : State :=
  raiseCe 0xC 0 1 (code + 16 * reason) (setResult false reason 0 s)

/-- Pair, row, slot and flags of IN_DATA words. -/
def entryOfData (d : List Word) : MapEntry :=
  { key := BitVec.ofNat 64 ((d.getD 0 0).toNat + 2 ^ 32 * (d.getD 1 0).toNat), feed := field (d.getD 2 0) 15 0,
    row := field (d.getD 2 0) 31 16, slot := field (d.getD 3 0) 11 0, flags := field (d.getD 3 0) 19 12, st := 0,
    leave := false, delete := false, pages := [] }

/-- INSERT at the gather boundary. -/
def applyInsert (c : MapCmd) (s : State) : State :=
  let x := entryOfData c.data
  match mapLookup s x.key x.feed, (List.range 32768).find? fun i => (mapEntry s i).isNone with
  | some _, _ => inReject 3 2 s
  | none, none => inReject 3 3 s
  | none, some i => if modelValid s x.slot then setResult true 0 i (setEntry i (some x) s) else inReject 3 7 s

/-- MODIFY at the gather boundary. -/
def applyModify (c : MapCmd) (s : State) : State :=
  let x := entryOfData c.data
  match mapEntry s c.index with
  | none => inReject 4 4 s
  | some e =>
    if !modelValid s x.slot then inReject 4 7 s
    else if e.st ≠ 0 ∧ modelPages s x.slot ≠ modelPages s e.slot then inReject 4 5 s
    else setResult true 0 c.index (setEntry c.index (some { e with slot := x.slot, row := x.row, flags := x.flags }) s)

/-- DELETE at the gather boundary: an IDLE or QUEUED entry goes, with its queued join; a JOINING or LIVE one leaves. -/
def applyDelete (c : MapCmd) (s : State) : State :=
  match mapEntry s c.index with
  | none => inReject 5 4 s
  | some e =>
    let s := setResult true 0 c.index s
    if e.st ≤ 1 then
      modServe (fun v => { v with joinQ := v.joinQ.filter fun j => j.entry != c.index }) (setEntry c.index none s)
    else setEntry c.index (some { e with leave := true, delete := true }) s

/-- LOOKUP at the gather boundary. -/
def applyLookup (c : MapCmd) (s : State) : State :=
  let x := entryOfData c.data
  match mapLookup s x.key x.feed with
  | none => inReject 6 4 s
  | some (i, e) => putInData 0 (entryWords e) (setResult true 0 i s)

/-- The waiting map command takes effect and busy clears. -/
def applyCmd (s : State) : State :=
  match s.serve.cmd with
  | none => s
  | some c =>
    let s := modServe (fun v => { v with cmd := none }) s
    match c.code with
    | 3 => applyInsert c s
    | 4 => applyModify c s
    | 5 => applyDelete c s
    | 6 => applyLookup c s
    | _ => s

/-- IN_CMD READ (R291). -/
def inRead (s : State) : State :=
  let sel := reg s 0xC 0 0x40
  let t := field sel 1 0
  let i := field sel 18 4
  if tabSize t ≤ i then inReject 1 6 s
  else
    let ws := if t = 3 then (match mapEntry s i with | some e => entryWords e | none => List.replicate 8 0)
      else (List.range 8).map (tabWord s t i)
    putInData 0 ws (setResult true 0 i s)

/-- Bits of an ingress entry word that are no reserved bits (Table 10.3). -/
def tabMask (t w : Nat) : Nat :=
  ((match t with
    | 0 => [0xFFFFFFFF, 0xFFFFFFFF, 0xFFFFFFFF, 0xFFFFFFFF, 0x03FFFFFF, 0xFFFFFFFF, 0xFF, 0]
    | 1 => [0x07FFFFFF, 0x3F, 0, 0, 0, 0, 0, 0]
    | _ => [0x0007FFFF, 0, 0, 0, 0, 0, 0, 0]) : List Nat).getD w 0

/-- Store the words of an ingress entry. -/
def putTab (t i : Nat) : Nat → List Word → State → State
  | _, [], s => s
  | w, x :: rest, s =>
    putTab t i (w + 1) rest (modServe (fun v => { v with
      tab := sset (fun _ => 0) v.tab (2 ^ 20 * t + 8 * i + w) (BitVec.ofNat 32 (x.toNat &&& tabMask t w)) }) s)

/-- The entry may stand in its table: destinations in range, at most 32 descriptors used (Table 10.4). -/
def tabEntryOk (t : Nat) (d : List Word) : Bool :=
  match t with
  | 0 => true
  | 1 => decide (field (d.getD 1 0) 5 0 ≤ 32)
  | 2 => decide (field (d.getD 0 0) 18 13 + 2 ^ field (d.getD 0 0) 11 10 ≤ 64)
  | _ => false

/-- IN_CMD WRITE (R291). -/
def inWrite (s : State) : State :=
  let sel := reg s 0xC 0 0x40
  let t := field sel 1 0
  let i := field sel 18 4
  let d := inData s
  if t = 3 ∨ tabSize t ≤ i ∨ !tabEntryOk t d then inReject 2 6 s
  else setResult true 0 i (putTab t i 0 d s)

/-- A command written to IN_CMD (R291): ignored while busy; READ and WRITE act at once; the others wait. -/
def inCmd (code : Nat) (s : State) : State :=
  if code = 0 ∨ 7 ≤ code then s
  else if s.serve.cmd.isSome then raiseCe 0xC 0 0 code s
  else if code = 1 then inRead s
  else if code = 2 then inWrite s
  else modServe (fun v => { v with cmd := some ⟨code, field (reg s 0xC 0 0x40) 18 4, inData s⟩ }) s

/-! ## Sequences (R298, R299) -/

/-- A Port table read meets an error (Table 10.10): corrected, or the event or result is withheld. -/
def tableEcc (e : Ecc) (s : State) : State :=
  match e with
  | .ok => s
  | .corrected t => raiseCe 0xA 0 5 (t % 8) s
  | .uncorrectable t => raise 0xA 0 6 1 (t % 8) (.parts [0]) s

/-- SRV_CMD JOIN. -/
def srvJoin (s : State) : State :=
  let i := field (reg s 0xE 0 0x5C) 14 0
  let rej := fun (r : Nat) => raiseCe 0xE 0 0 (1 + 16 * r) s
  match mapEntry s i with
  | none => rej 1
  | some e =>
    if e.st ≠ 0 then rej 2
    else if 256 ≤ s.serve.joinQ.length then rej 3
    else if !modelValid s e.slot then rej 4
    else
      modServe (fun v => { v with joinQ := v.joinQ ++
          [⟨i, field (reg s 0xE 0 0x60) 19 0, min 4096 (field (reg s 0xE 0 0x64) 12 0), false⟩], joined := v.joined ++ [i] })
        (setEntry i (some { e with st := 1 }) s)

/-- SRV_CMD LEAVE. -/
def srvLeave (s : State) : State :=
  let i := field (reg s 0xE 0 0x5C) 14 0
  match mapEntry s i with
  | none => raiseCe 0xE 0 0 (2 + 16 * 1) s
  | some e => if e.st = 0 then raiseCe 0xE 0 0 (2 + 16 * 2) s else setEntry i (some { e with leave := true }) s

/-- SRV_CMD: values other than 1 and 2 are ignored. -/
def srvCmd (v : Nat) (s : State) : State := if v = 1 then srvJoin s else if v = 2 then srvLeave s else s

/-- A command to SRV_CMD with what the checks of the tables that it reads find: where they withhold an entry it has no further
effect (Table 10.10). -/
def srvChecked (v : Nat) (table : Ecc) (s : State) : State :=
  let s := tableEcc table s
  if dataWithheld table then s else srvCmd v s

/-- Size of the page pool. -/
def poolSize (s : State) : Nat := field (reg s 0xE 0 0x48) 14 0

/-- The free pages, rising: neither owned nor just freed (R300). -/
def freePages (s : State) : List Nat :=
  let used := ((mapEntries s).map (·.2.pages)).flatten
  (List.range (poolSize s)).filter fun p => !used.contains p && !s.serve.freed.contains p

/-- An entry's sequence ends (R297): IDLE, or removed where a DELETE is pending. -/
def entryEnded (e : Option MapEntry) : Option MapEntry :=
  match e with
  | none => none
  | some x => if x.delete then none else some { x with st := 0, leave := false, pages := [] }

/-- Every sequence ends (R297): the queues empty, the step that is open with its carried instruments goes, and every page returns
to the pool. -/
def endSequences (s : State) : State :=
  modServe (fun v => { v with
    map := smap (fun _ => none) (fun _ e => entryEnded e) v.map,
    joinQ := [], joining := [], carry := [], freed := [], comp := none }) s

/-! ## The gather areas (R294 to R296) -/

/-- Lines of a gather area: A = 1 + 128 ÷ E. -/
def areaLines (e : Nat) : Nat := 1 + 128 / e

/-- SRV_GATHER.line may hold a value (R294). -/
def gatherOk (e line : Nat) : Bool := decide (7168 ≤ line) && decide (line + 8 * areaLines e ≤ 7304)

/-- The active image has a serving job. -/
def hasServing (s : State) : Bool :=
  match s.sched.active with
  | some im => im.jobs.any (·.serving)
  | none => false

/-- Partition 0 is frozen, in reset or unassigned (R297, R309). -/
def part0Still (s : State) : Bool := !assigned s || partFrozen s 0 || partInReset s 0

/-- The Port composes steps (R297, R315). -/
def composing (s : State) : Bool := (reg s 0xE 0 0x8).getLsbD 0 && hasServing s && !part0Still s

/-- The meta line of a slot (Table 10.5). -/
def metaLine (x : Served) : Line :=
  let pages := ((List.range 16).map fun i => leBytes 2 (x.pages.getD i 0xFFFF)).flatten
  BitVec.ofNat 512 (leNat (leBytes 2 (x.entry + 2 ^ 15 * bit01 x.chunk.isSome) ++ leBytes 2 x.slot ++ leBytes 2 x.row ++
    leBytes 1 x.flags ++ leBytes 1 (min 255 x.count) ++ leBytes 4 (x.chunk.getD 0) ++ leBytes 4 (min (2 ^ 32 - 1) x.steps) ++
    leBytes 8 x.ts.toNat ++ pages ++ leBytes 8 x.cursor.toNat))

/-- The first cycle from `t` on that is none of some cycles; `fuel` is their number. -/
def firstFree (busy : List Nat) : Nat → Nat → Nat
  | 0, t => t
  | fuel + 1, t => if busy.contains t then firstFree busy fuel (t + 1) else t

/-- Send the lines of slot j of a step, landing at `t` or in the first cycle after it in which the edge core takes no other
event (R294, R295). -/
def sendLines (r : StepRec) (j : Nat) (x : Served) (t : Nat) (s : State) : State :=
  let c := 16 + j % r.ports
  let busy := (s.serve.landing.filter fun g => g.core == c).map (·.due)
  let due := firstFree busy busy.length (max t (sget (fun _ => 0) s.serve.edgeFree c))
  modServe (fun v => { v with landing := v.landing ++
    [⟨r.step, c, r.base + r.step % 8 * areaLines r.ports + 1 + 2 * (j / r.ports), metaLine x, x.feature, due⟩] }) s

/-- Charge gather lines to the serving job and its partition (Table 14.2). -/
def chargeGather (n : Nat) (s : State) : State :=
  match s.sched.active with
  | none => s
  | some im =>
    match im.jobs.find? (·.serving) with
    | some b => chargePart 0 14 n (charge b.id 14 n s)
    | none => s

/-- EVENT_LAND. The oldest lines due land: meta line and feature line in one cycle (R294). Partition 0 frozen or in
reset drops them at its boundary (R423). A landing later than its cycle is slip 0x05 of the Port's crossing (R38). -/
def eventLand (table : Ecc) (s : State) : State :=
  match s.serve.landing.find? fun g => decide (g.due ≤ s.now) with
  | none => s
  | some g =>
    let s := modServe (fun v => { v with landing := eraseFirst (fun h => h == g) v.landing,
                                          edgeFree := sset (fun _ => 0) v.edgeFree g.core (g.due + 1) }) s
    let s := tableEcc table s
    if dataWithheld table then s
    else
    match absorbed s g.core none with
    | .no =>
      let s := if g.due < s.now then crossingLate g.core 0x26 s else s
      let s := noteSram g.core [g.line, g.line + 1] s
      chargeGather 2 (setGatherLine g.core (g.line + 1) g.feature (setGatherLine g.core g.line g.head s))
    | a => countAbsorb g.core 2 a s

/-- Land a header in each of some edge cores, and set its tag's valid bit (R296). -/
def landHeader (h : HeaderLine) : List Nat → State → State
  | [], s => s
  | c :: t, s =>
    landHeader h t
      (match absorbed s c none with
       | .no => chargeGather 1 (modCore c (setTag s.now h.tag) (setGatherLine c h.line h.head (noteSram c [h.line] s)))
       | a => countAbsorb c 1 a s)

/-- STEP_HEADER_LAND. The header of the oldest step whose lines have all landed goes to line 0 of its area. -/
def stepHeaderLand (s : State) : State :=
  match s.serve.headers.find? fun h => !s.serve.landing.any fun g => g.step == h.step with
  | none => s
  | some h =>
    landHeader h ((List.range h.ports).map (16 + ·))
      (modServe (fun v => { v with headers := eraseFirst (fun x => x == h) v.headers }) s)

/-! ## Gather boundaries (R292, R293, R300) -/

/-- The writes of SRV_MODEL that wait take effect, unless the slot is in use (R317). -/
def applyModels : List (Nat × Word) → State → State
  | [], s => s
  | (slot, w) :: t, s =>
    let old := modelOf s slot
    let used := (mapEntries s).any fun e => e.2.st != 0 && e.2.slot == slot
    let bad := (old.getLsbD 0 && !w.getLsbD 0) || field old 4 1 != field w 4 1
    applyModels t
      (if used && bad then raiseCe 0xE 0 0 (16 * 5) s
       else modServe (fun v => { v with models := sset (fun _ => 0) v.models slot w }) s)

/-- The leaves, in entry index order: their pages are freed for the next boundary (R300). -/
def applyLeaves : List (Nat × MapEntry) → State → State
  | [], s => s
  | (i, e) :: t, s =>
    if e.leave then
      let freed := e.pages
      applyLeaves t
        (setEntry i (entryEnded (some e)) (modServe (fun v => { v with
          freed := v.freed ++ freed, joinQ := v.joinQ.filter (fun j => j.entry != i),
          joining := v.joining.filter (fun j => j.entry != i), carry := v.carry.filter (fun x => x.entry != i) }) s))
    else applyLeaves t s

/-- A join at the head of the queue is deferred, and counted once. -/
def deferJoin (j : JoinReq) (t : List JoinReq) (s : State) : State :=
  if j.deferred then s else srvCount 6 1 (modServe (fun v => { v with joinQ := { j with deferred := true } :: t }) s)

/-- Admissions of step `step`, from the head of the queue; `fuel` bounds them by the queue's length. -/
def admitJoins (step : Nat) : Nat → State → State
  | 0, s => s
  | fuel + 1, s =>
    match s.serve.joinQ with
    | [] => s
    | j :: t =>
      match mapEntry s j.entry with
      | none => admitJoins step fuel (modServe (fun v => { v with joinQ := t }) s)
      | some e =>
        let p := modelPages s e.slot
        let free := freePages s
        if (s.serve.budget = 0 ∧ 0 < j.len) ∨ free.length < p then deferJoin j t s
        else
          admitJoins step fuel (srvCount 5 1 (setEntry j.entry (some { e with st := 2, pages := free.take p })
            (modServe (fun v => { v with joinQ := t, joining := v.joining ++ [⟨j.entry, j.hub, j.len, 0, none, step⟩] }) s)))

/-- A JOINING sequence becomes LIVE at the boundary of `step`. -/
def joinedBy (step : Nat) (j : Joining) : Bool :=
  (match j.last with | some l => decide (l < step) | none => false) || (j.len == 0 && decide (j.admitted < step))

/-- Sequences that have joined become LIVE. -/
def goLive : List Joining → State → State
  | [], s => s
  | j :: t, s =>
    goLive t
      (match mapEntry s j.entry with
       | some e => setEntry j.entry (some { e with st := 3 })
           (modServe (fun v => { v with joining := v.joining.filter fun x => x.entry != j.entry }) s)
       | none => s)

/-- Put the carried instruments into the step, oldest first; those no longer LIVE are dropped (R292). -/
def placeCarried : List Served → StepRec → State → StepRec × State
  | [], r, s => (r, s)
  | x :: t, r, s =>
    let x := { x with steps := x.steps + 1 }
    match mapEntry s x.entry with
    | some e =>
      if e.st ≠ 3 then placeCarried t r s
      else if 64 ≤ r.slots.length then placeCarried t r (modServe (fun v => { v with carry := v.carry ++ [x] }) s)
      else
        placeCarried t { r with slots := r.slots ++ [x], carried := r.carried + 1 }
          (sendLines r r.slots.length x s.now s)
    | none => placeCarried t r s

/-- A chunk as its slot shows it (Table 10.5, R301). -/
def chunkServed (i : Nat) (e : MapEntry) (j : Joining) : Served :=
  let lastChunk := decide (j.len ≤ 64 * (j.chunk + 1))
  { entry := i, slot := e.slot, row := e.row, flags := e.flags,
    chunk := some ((j.hub + 64 * j.chunk) % 2 ^ 20 + 2 ^ 20 * j.chunk + 2 ^ 26 * bit01 lastChunk),
    count := min 64 (j.len - 64 * j.chunk), steps := 0, ts := 0, cursor := BitVec.ofNat 64 (2 ^ 64 - 1), pages := e.pages,
    feature := 0 }

/-- The sequence has taken a chunk in `step`. -/
def chunkTaken (step : Nat) (j : Joining) : Joining :=
  { j with chunk := j.chunk + 1, last := if j.len ≤ 64 * (j.chunk + 1) then some step else j.last }

/-- Give chunks to the first `b` JOINING sequences with history left, in admission order. -/
def placeChunks : Nat → List Joining → StepRec → State → StepRec × State
  | _, [], r, s => (r, s)
  | b, j :: t, r, s =>
    if b = 0 ∨ 64 ≤ r.slots.length then (r, s)
    else if j.len = 0 ∨ j.last.isSome then placeChunks b t r s
    else
      match mapEntry s j.entry with
      | none => placeChunks b t r s
      | some e =>
        let x := chunkServed j.entry e j
        placeChunks (b - 1) t { r with slots := r.slots ++ [x], chunks := r.chunks + 1 }
          (modServe (fun v => { v with joining := v.joining.map fun k => if k == j then chunkTaken r.step j else k })
            (sendLines r r.slots.length x s.now s))

/-- A header leaves the Port. -/
def queueHeader (h : HeaderLine) (start : Bool) (s : State) : State :=
  modServe (fun v => { v with
    headers := v.headers ++ [h], first := false, firstTick := if start then h.step + 1 else v.firstTick }) s

/-- Close the step being composed: its header leaves after its last line (R295, R296). Where the Port composes no step, the
carried instruments that it held go back to the carry queue (R297). -/
def closeStep (s : State) : State :=
  match s.serve.comp with
  | none => s
  | some r =>
    let s := modServe (fun v => { v with comp := none }) s
    if composing s then
      let start := s.serve.first || (s.sched.st == 3 && s.sched.armedTick.toNat == r.step)
      let fl := bit01 start + 2 * bit01 ((reg s 0xE 0 0x74).getLsbD 4)
      let head : Line := BitVec.ofNat 512 (r.step % 2 ^ 64 + 2 ^ 64 * r.slots.length + 2 ^ 72 * r.carried +
        2 ^ 80 * r.chunks + 2 ^ 88 * fl)
      let h : HeaderLine := ⟨r.step, r.ports, r.base + r.step % 8 * areaLines r.ports, head,
        (field (reg s 0xE 0 0x40) 12 4 + r.step % 8) % 512⟩
      srvCount 1 r.slots.length (srvCount 0 1 (queueHeader h start s))
    else modServe (fun v => { v with carry := r.slots.take r.carried ++ v.carry }) s

/-- Open step `step`: carried instruments, then chunks (R293). -/
def openStep (step : Nat) (s : State) : State :=
  if composing s then
    let r0 : StepRec := ⟨step, portCores s, field (reg s 0xE 0 0x44) 12 0, [], 0, 0⟩
    let carried := s.serve.carry
    let (r, s) := placeCarried carried r0 (modServe (fun v => { v with carry := [] }) s)
    let (r, s) := placeChunks s.serve.budget s.serve.joining r s
    modServe (fun v => { v with comp := some r }) s
  else s

/-- The step whose gather spans an image switch (R297): A, for steps A − 4 to A. -/
def switchStep (s : State) (step : Nat) : Option Nat :=
  let a := s.sched.armedTick.toNat
  if s.sched.st = 3 ∧ a ≤ step + 4 ∧ step ≤ a then some a else none

/-- Close and open steps at the boundary of `step`. -/
def nextStep (step : Nat) (s : State) : State :=
  match switchStep s step, s.serve.comp with
  | some a, some r =>
    if r.step = a then s
    else openStep a (closeStep s)
  | some a, none => openStep a s
  | none, some r => if step ≤ r.step then s else openStep step (closeStep s)
  | none, none => openStep step s

/-- The smallest s whose events a lookup in cycle t belongs to (R292). -/
def stepAt (s : State) (t : Nat) : Nat := s.tick.n.toNat + ceilDiv (t + 22 - s.tick.boundAt) (ticT s)

/-- The step to which a lookup in this cycle belongs. -/
def stepOfNow (s : State) : Nat := stepAt s s.now

/-- Everything that the gather boundary of `step` does (R292, R300). -/
def gatherAt (step : Nat) (s : State) : State :=
  let s := modServe (fun v => { v with nextStep := step + 1 }) (applyCmd s)
  let pend := s.serve.modelPend
  let s := applyModels pend (modServe (fun v => { v with modelPend := [], joined := [], budget := min 8 (field (reg s 0xE 0 0x40) 3 0),
                                                          freed := [] }) s)
  let s := admitAfter (applyLeaves (mapEntries s) s)
  let s := goLive (s.serve.joining.filter (joinedBy step)) s
  nextStep step s
where
  /-- The pages freed now serve admissions only from the next boundary on. -/
  admitAfter (s : State) : State := admitJoins step s.serve.joinQ.length s

/-! ## Events (R287 to R293) -/

/-- An event as extracted: key and feature line. -/
structure Extracted where
  key : Dword
  feature : Line
  deriving DecidableEq, Repr

/-- What the parser makes of a payload (R288): events, what INGRESS counter 2 counts (messages ignored,
bytes left unparsed), messages discarded short. -/
structure Parsed where
  events : List Extracted
  ignored : Nat
  short : Nat
  deriving DecidableEq, Repr

/-- A number of `n` bytes at offset `o`. -/
def numAt (b : List Byte) (o n : Nat) (big : Bool) : Nat := if big then beNat (bytesAt b o n) else leNat (bytesAt b o n)

/-- Field descriptors of a message type, in ascending order. -/
def typeFields (s : State) (ty : Nat) : List Word :=
  (List.range (min 32 (field (tabWord s 1 ty 1) 5 0))).map fun k => tabWord s 2 (32 * ty + k) 0

/-- Source offset and width of a field descriptor. -/
def fieldSpan (d : Word) : Nat × Nat := (field d 9 0, 2 ^ field d 11 10)

/-- The feature line that the descriptors make of a message (R289). -/
def featureOf (ds : List Word) (m : List Byte) : Line :=
  BitVec.ofNat 512 (leNat ((ds.foldl (fun (l : List Byte) d =>
    let (o, w) := fieldSpan d
    putBytes l (field d 18 13) (leBytes w (numAt m o w (d.getLsbD 12)))) (List.replicate 64 0)).take 64))

/-- One event more in front. -/
def Parsed.cons (e : Extracted) (p : Parsed) : Parsed := { p with events := e :: p.events }

/-- Parse the messages of a payload from `pos` on; `n` events extracted so far; `fuel` bounds the messages (R288). -/
def parseMsgs (s : State) (typeOff typeBase : Nat) (p : List Byte) : Nat → Nat → Nat → Parsed
  | 0, _, _ => ⟨[], 0, 0⟩
  | fuel + 1, pos, n =>
    if p.length ≤ pos then ⟨[], 0, 0⟩
    else if p.length ≤ pos + typeOff then ⟨[], 0, 1⟩
    else
      let ty := (typeBase + (p.getD (pos + typeOff) 0).toNat) % 256
      let d0 := tabWord s 1 ty 0
      if !d0.getLsbD 0 then ⟨[], p.length - pos, 0⟩
      else
        let off := field d0 13 4
        let lw := if d0.getLsbD 3 then 2 else 1
        if d0.getLsbD 1 ∧ p.length < pos + off + lw then ⟨[], 0, 1⟩
        else
          let len := if d0.getLsbD 1 then numAt p (pos + off) lw (d0.getLsbD 2) else off
          if len = 0 then ⟨[], 0, 0⟩
          else if p.length < pos + len then ⟨[], 0, 1⟩
          else if 8 ≤ n then
            let r := parseMsgs s typeOff typeBase p fuel (pos + len) n
            { r with ignored := r.ignored + 1 }
          else
            let m := bytesAt p pos len
            let kw := field d0 18 15 % 8 + 1
            let ko := field d0 26 19
            let ds := typeFields s ty
            if len < ko + kw ∨ ds.any (fun d => decide (len < (fieldSpan d).1 + (fieldSpan d).2)) then ⟨[], 0, 1⟩
            else
              (parseMsgs s typeOff typeBase p fuel (pos + len) (n + 1)).cons
                ⟨BitVec.ofNat 64 (numAt m ko kw (d0.getLsbD 14)), featureOf ds m⟩

/-- The multicast filter entry that a UDP frame matches (R287). -/
def filterOf (s : State) (intf : Nat) (l3 : L3) (dst : List Byte) : Option Nat :=
  let (v6, port) := match l3 with
    | .v4 _ _ _ _ dp => (false, dp.toNat)
    | .v6 _ _ _ _ dp => (true, dp.toNat)
    | .raw => (false, 0)
  let words := (List.range 4).map fun k => BitVec.ofNat 32 (leNat (bytesAt dst (4 * k) 4))
  (List.range 512).find? fun i =>
    let d4 := tabWord s 0 i 4
    d4.getLsbD 16 && d4.getLsbD 17 == v6 && field d4 15 0 == port && bitOf (field d4 25 18) intf &&
    (List.range 4).all fun k => tabWord s 0 i k == words.getD k 0

/-- SRV_FEED_GEOM: n_b and R_b. -/
def feedGeom (w : Word) : Nat × Nat := (field w 7 0 + 1, field w 22 8)

/-- First hub line of the block of frame f (R307). -/
def feedBlock (s : State) (f : Nat) : Nat :=
  let (nb, rb) := feedGeom (reg s 0xE 0 0x50)
  field (reg s 0xE 0 0x4C) 19 0 + f % nb * (1 + 2 * rb)

/-- Cursor of the next feed record. -/
def feedCursor (s : State) : Dword := rget64 s (regKey 0xE 0 0x80 0)

/-- The frame's block has room for one more record (R308). -/
def feedRoom (s : State) : Bool := decide (s.serve.feedIn < (feedGeom (reg s 0xE 0 0x50)).2)

/-- Append a record to the feed block of the current frame, or drop it (R308, Table 10.8). -/
def feedAppend (i : Nat) (e : MapEntry) (served : Bool) (ts : Dword) (feature : Line) (s : State) : State :=
  if feedRoom s then
    let cur := feedCursor s
    let h := feedBlock s (frameNo s) + 1 + 2 * s.serve.feedIn
    let rec_ := leBytes 8 cur.toNat ++ leBytes 8 e.key.toNat ++ leBytes 2 e.feed ++ leBytes 2 (i + 2 ^ 15 * bit01 served) ++
      leBytes 2 e.slot ++ leBytes 2 e.row ++ leBytes 8 ts.toNat ++ leBytes 8 (tickN s).toNat
    srvCount 8 1 (rset64 (regKey 0xE 0 0x80 0) (cur + 1)
      (setHubLine 0 (h + 1) feature (setHubLine 0 h (BitVec.ofNat 512 (leNat rec_))
        (modServe (fun v => { v with feedIn := v.feedIn + 1, feedCur := if v.feedIn = 0 then cur else v.feedCur }) s))))
  else
    let s := if s.serve.feedDrop = 0 then raiseCe 0xE 0 2 (frameNo s % 2 ^ 16) s else s
    srvCount 9 1 (modServe (fun v => { v with feedDrop := v.feedDrop + 1 }) s)

/-- FEED_BLOCK_CLOSE (R308): the header of the block of frame f is written, and the next block begins. -/
def feedClose (f : Nat) (s : State) : State :=
  let cur := if s.serve.feedIn = 0 then feedCursor s else s.serve.feedCur
  let head := leBytes 8 f ++ leBytes 4 s.serve.feedIn ++ leBytes 4 s.serve.feedDrop ++ leBytes 8 cur.toNat
  let s := setHubLine 0 (feedBlock s f) (BitVec.ofNat 512 (leNat head)) s
  modServe (fun v => { v with feedIn := 0, feedDrop := 0 }) s

/-- Close the block of a frame that has ended: one that holds or dropped a record, or any with a serving job (R308). -/
def feedSettle (s : State) : State :=
  let f := s.serve.feedFrame
  if f = frameNo s then s
  else
    let s := if hasServing s ∨ s.serve.feedIn ≠ 0 ∨ s.serve.feedDrop ≠ 0 then feedClose f s else s
    modServe (fun v => { v with feedFrame := frameNo s }) s

/-- The lines of an event for its slot. -/
def eventServed (i : Nat) (e : MapEntry) (ts cursor : Dword) (feature : Line) : Served :=
  { entry := i, slot := e.slot, row := e.row, flags := e.flags, chunk := none, count := 0, steps := 0, ts := ts,
    cursor := cursor, pages := e.pages, feature := feature }

/-- A newer event replaces the lines of a slot or a carried place (R293). -/
def coalesce (old new : Served) : Served := { new with count := min 255 (old.count + 1), steps := old.steps }

/-- The next lookup of a port takes its cycle: not before the last one's, at most 8 of a port in a cycle, and port 0 before
port 1 (R290, R293; DESIGN CHOICE, log entry 74: a lookup that would break that order falls in the next cycle). -/
def nextLookup (port : Nat) (s : State) : State :=
  let v := s.serve
  let same := decide (s.now ≤ v.lookAt)
  if same && (decide (port < v.lookPort) || (port == v.lookPort && decide (8 ≤ v.looks))) then
    modServe (fun v => { v with lookAt := v.lookAt + 1, lookPort := port, looks := 1 }) s
  else
    modServe (fun v => { v with lookAt := max s.now v.lookAt, lookPort := port,
                                looks := if same && port == v.lookPort then v.looks + 1 else 1 }) s

/-- State of an entry at the gather boundary before, which governs its events (R292). -/
def stAtGather (s : State) (i : Nat) (e : MapEntry) : Nat := if s.serve.joined.contains i then 0 else e.st

/-- Gather an event (R292, R293): whether it is served, and the state after. Its lines land 22 cycles after its lookup. -/
def gatherEvent (x : Served) (st look : Nat) (s : State) : Bool × State :=
  let land := look + 22
  if st ≠ 3 then (false, if st = 0 then s else srvCount 7 1 s)
  else
    match s.serve.comp with
    | none => (false, s)
    | some r =>
      if !composing s then (false, s)
      else
        match r.slots.findIdx? (fun y => y.entry == x.entry && y.chunk.isNone) with
        | some j =>
          let y := coalesce (r.slots.getD j x) x
          (true, srvCount 2 1 (sendLines r j y land
            (modServe (fun v => { v with comp := some { r with slots := r.slots.set j y } }) s)))
        | none =>
          match s.serve.carry.findIdx? (fun y => y.entry == x.entry) with
          | some j =>
            (true, srvCount 2 1 (modServe (fun v => { v with carry := v.carry.set j (coalesce (v.carry.getD j x) x) }) s))
          | none =>
            if r.slots.length < 64 then
              (true, sendLines r r.slots.length x land
                (modServe (fun v => { v with comp := some { r with slots := r.slots ++ [x] } }) s))
            else if s.serve.carry.length < 1024 then
              (true, srvCount 3 1 (modServe (fun v => { v with carry := v.carry ++ [x] }) s))
            else (false, srvCount 4 1 (raiseCe 0xE 0 1 x.entry s))

/-- The lookup of an event (R290, R292, R308). -/
def lookEvent (x : LateLook) (s : State) : State :=
  let s := feedSettle s
  match mapLookup s x.key x.feed with
  | none => inCount 1 1 s
  | some (i, e) =>
    let fed := bitOf e.flags 0
    let cursor := if fed && feedRoom s then feedCursor s else BitVec.ofNat 64 (2 ^ 64 - 1)
    let (served, s) := gatherEvent (eventServed i e x.ts cursor x.feature) (stAtGather s i e) x.at_ s
    if fed then feedAppend i e served x.ts x.feature s else s

/-- The lookup belongs to the step and the frame that are open: its cycle has come, or no gather or frame boundary lies
before it (R292, R308). -/
def lookOpen (s : State) (x : LateLook) : Bool :=
  decide (x.at_ ≤ s.now) || !s.tick.running ||
    (stepAt s x.at_ == stepOfNow s &&
      (s.tick.n.toNat + (x.at_ - s.tick.boundAt) / ticT s) / ticF s == frameNo s)

/-- Make each of some lookups. -/
def lookEach : List LateLook → State → State
  | [], s => s
  | x :: t, s => lookEach t (lookEvent x s)

/-- The lookups that waited for a boundary and wait no longer. -/
def settleLooks (s : State) : State :=
  lookEach (s.serve.lateLooks.filter (lookOpen s))
    (modServe (fun v => { v with lateLooks := v.lateLooks.filter (!lookOpen s ·) }) s)

/-- One event of a port: its lookup takes its cycle, and is made now, or once the boundary before that cycle has passed. -/
def event (port feed : Nat) (ts : Dword) (x : Extracted) (s : State) : State :=
  let s := nextLookup port (inCount 0 1 s)
  let l : LateLook := ⟨s.serve.lookAt, feed, ts, x.key, x.feature⟩
  if lookOpen s l then lookEvent l s else modServe (fun v => { v with lateLooks := v.lateLooks ++ [l] }) s

/-- The events of a frame, in message order, with what the checks of the Port tables find of each. -/
def events (port feed : Nat) (ts : Dword) : List Ecc → List Extracted → State → State
  | _, [], s => s
  | l, x :: t, s =>
    let e := l.headD .ok
    let s := tableEcc e s
    events port feed ts l.tail t (if dataWithheld e then s else event port feed ts x s)

/-- GATHER_BOUNDARY. g_s = b_(s−1) − 21: the boundary of this cycle if it was not yet taken, else the next one of this
tick. -/
def gatherBoundary (s : State) : State :=
  if !s.tick.running then s
  else
    let now := stepOfNow s
    if s.serve.nextStep ≤ now then settleLooks (gatherAt now s)
    else
      let step := s.serve.nextStep
      let g := s.tick.boundAt + (step - 1 - s.tick.n.toNat) * ticT s - 21
      if g < s.tick.boundAt + ticT s then settleLooks (gatherAt step (passTo g s)) else s

/-- A market frame (R287, R288): what the checks of the tables find of the frame and of each event (Table 10.10). -/
def marketFrame (intf entry : Nat) (ts : Dword) (table : Ecc) (looks : List Ecc) (payload : List Byte) (s : State) : State :=
  let d5 := tabWord s 0 entry 5
  let s := settleLooks (tableEcc table (ethCount (intf / 4) 2 1 s))
  if dataWithheld table then s
  else
    let r := parseMsgs s (field d5 23 16) (field d5 31 24) payload (payload.length + 1) (field (tabWord s 0 entry 6) 7 0) 0
    events (intf / 4) (field d5 15 0) ts looks r.events (inCount 3 r.short (inCount 2 r.ignored s))

/-! ## Register writes of the SERVE page -/

/-- A write of SRV_MODEL waits for the gather boundary; SRV_MSEL names the slot (R317). -/
def srvModelWrite (v : Word) (s : State) : State :=
  let slot := field (reg s 0xE 0 0x54) 11 0
  modServe (fun x => { x with modelPend := x.modelPend.filter (fun e => e.1 != slot) ++
    [(slot, BitVec.ofNat 32 (v.toNat % 256))] }) s

/-- A write of SRV_GATHER (R294). -/
def srvGatherWrite (v : Word) (s : State) : State :=
  if gatherOk (portCores s) (field v 12 0) then setReg 0xE 0 0x44 (BitVec.ofNat 32 (field v 12 0)) s
  else raiseCe 0xE 0 0 (16 * 7) s

/-- A write of SRV_FEED_LINE or SRV_FEED_GEOM (R307). -/
def feedGeomWrite (geom : Bool) (v : Word) (s : State) : State :=
  let line := if geom then field (reg s 0xE 0 0x4C) 19 0 else field v 19 0
  let (nb, rb) := feedGeom (if geom then v else reg s 0xE 0 0x50)
  if 1048576 < line + nb * (1 + 2 * rb) then raiseCe 0xE 0 0 (16 * 6) s
  else if geom then setReg 0xE 0 0x50 (BitVec.ofNat 32 (field v 22 0)) s
  else setReg 0xE 0 0x4C (BitVec.ofNat 32 (field v 19 0)) s

/-- A write of SRV_CUR (R309). -/
def srvCurWrite (v : Dword) (s : State) : State :=
  if part0Still s then rset64 (regKey 0xE 0 0x80 0) v s else raiseCe 0xE 0 4 0 s

/-- A write of SRV_PAGES: only with no sequence and an empty join queue, within 64 to 16,384 (Table 10.12). -/
def srvPagesWrite (v : Word) (s : State) : State :=
  let n := field v 14 0
  if n < 64 ∨ 16384 < n ∨ !s.serve.joinQ.isEmpty ∨ (mapEntries s).any (fun e => decide (2 ≤ e.2.st)) then s
  else setReg 0xE 0 0x48 (BitVec.ofNat 32 n) s

/-! ## Time of day (R313) -/

/-- The time of day in units of 1/(47 · 2^40) ns: 50/47 ns a cycle, corrected by PORT_TOD_RATE. -/
def todUnits (s : State) (t : Nat) : Nat :=
  (s.serve.tod + ((t - s.serve.todAt) * 50 * (2 ^ 40 + signed 32 (reg s 0xA 0 0x58).toNat)).toNat) % (2 ^ 64 * 47 * 2 ^ 40)

/-- PORT_TOD at cycle t, ns. -/
def todAtCycle (s : State) (t : Nat) : Nat := todUnits s t / (47 * 2 ^ 40)

/-- PORT_TOD_CTL.set: acts at the next tick boundary. -/
def todCtl (v : Word) (s : State) : State :=
  if v.getLsbD 0 then modServe (fun x => { x with todPend := true }) s else s

/-- Load PORT_TOD_SET (at a tick boundary). -/
def todLoad (s : State) : State :=
  if s.serve.todPend then
    modServe (fun x => { x with todPend := false, tod := (rget64 s (regKey 0xA 0 0x4C 0)).toNat * (47 * 2 ^ 40),
                                todAt := s.now }) s
  else s

/-! ## Decisions and egress (R302 to R306, R310, R311) -/

/-- Committed word of a template. -/
def tplWord (s : State) (t w : Nat) : Word := sget (fun _ => 0) s.serve.tpl (82 * t + w)

/-- Set a committed word. -/
def setTpl (t w : Nat) (v : Word) (s : State) : State :=
  modServe (fun x => { x with tpl := sset (fun _ => 0) x.tpl (82 * t + w) v }) s

/-- Staging word of a template. -/
def tplStageWord (s : State) (t w : Nat) : Word := sget (fun _ => 0) s.serve.tplStage (82 * t + w)

/-- EG_SEL.word advances by 1 after an access of EG_DATA, wrapping to 0. -/
def egAdvance (s : State) : State :=
  let sel := reg s 0xD 0 0x40
  let w := field sel 22 16
  setReg 0xD 0 0x40 (setField sel 22 16 (if 81 ≤ w then 0 else w + 1)) s

/-- A write of EG_DATA (R305): staging, word 81 at once; word 80 commits at the next tick boundary. -/
def egWrite (v : Word) (s : State) : State :=
  let t := field (reg s 0xD 0 0x40) 9 0
  let w := field (reg s 0xD 0 0x40) 22 16
  egAdvance
    (if w = 81 then setTpl t 81 v s
     else if w < 81 then
       modServe (fun x => { x with
         tplStage := sset (fun _ => 0) x.tplStage (82 * t + w) v,
         tplPend := if w = 80 ∧ !x.tplPend.contains t then x.tplPend ++ [t] else x.tplPend }) s
     else s)

/-- Copy the staging words of a template. -/
def commitWords (t : Nat) : List Nat → State → State
  | [], s => s
  | w :: rest, s => commitWords t rest (setTpl t w (tplStageWord s t w) s)

/-- Commit each waiting template (at a tick boundary). -/
def commitTemplates : List Nat → State → State
  | [], s => s
  | t :: rest, s => commitTemplates rest (commitWords t (List.range 81) s)

/-- Valid fill descriptors of a snapshot, in ascending order. -/
def fillDescs (ws : List Word) : List Word := ((ws.drop 64).take 16).filter (·.getLsbD 0)

/-- Uses of the sequence counter by a template (Table 10.7). -/
def seqUses (ws : List Word) : Nat := ((fillDescs ws).filter fun d => field d 3 1 == 2).length

/-- The value a descriptor writes, least significant byte first; none: it is skipped. -/
def fillValue (d : Word) (line : Line) (tod : Nat) (seq : Word) : Option (List Byte) :=
  let w := 2 ^ field d 5 4
  match field d 3 1 with
  | 0 => some (leBytes w (line.toNat / 2 ^ (8 * field d 12 7)))
  | 1 => some (leBytes w tod)
  | 2 => some (leBytes w seq.toNat)
  | _ => none

/-- Apply the descriptors to a frame of `len` bytes. -/
def fillFrame (len : Nat) (line : Line) (tod : Nat) : Word → List Word → List Byte → List Byte
  | _, [], f => f
  | seq, d :: t, f =>
    let seq' := if field d 3 1 = 2 then seq + 1 else seq
    match fillValue d line tod seq with
    | some b =>
      if field d 21 13 + b.length ≤ len then
        fillFrame len line tod seq' t (putBytes f (field d 21 13) (if d.getLsbD 6 then b.reverse else b))
      else fillFrame len line tod seq' t f
    | none => fillFrame len line tod seq' t f

/-- Lengths and checksums (R304); a frame too short for its headers stays as filled. -/
def finishHeaders (ctl : Word) (f : List Byte) : List Byte :=
  let ip := if ctl.getLsbD 11 then 18 else 14
  let hl := if ctl.getLsbD 10 then 40 else 20
  if f.length < ip + hl + 8 then f
  else
    let n := f.length - ip
    let f := if ctl.getLsbD 10 then putBytes f (ip + 4) (beBytes 2 (n - 40)) else putBytes f (ip + 2) (beBytes 2 n)
    let f := putBytes f (ip + hl + 4) (beBytes 2 (n - hl))
    let f := if ctl.getLsbD 10 then f
      else
        let z := putBytes f (ip + 10) [0, 0]
        putBytes z (ip + 10) (beBytes 2 (checksum (wordSum (bytesAt z ip 20))))
    if ctl.getLsbD 10 || ctl.getLsbD 15 then
      let z := putBytes f (ip + hl + 6) [0, 0]
      let addrs := if ctl.getLsbD 10 then bytesAt z (ip + 8) 32 else bytesAt z (ip + 12) 8
      putBytes z (ip + hl + 6) (beBytes 2 (udpChecksum (wordSum addrs + 17 + (n - hl) + wordSum (z.drop (ip + hl)))))
    else f

/-- The decision frame of a fill that enters the MAC at its due cycle. -/
def decisionFrame (s : State) (x : FillRun) : List Byte :=
  let ctl := x.words.getD 80 0
  let len := field ctl 8 0
  let f := (((x.words.take 64).map fun (w : Word) => leBytes 4 w.toNat).flatten ++ List.replicate len 0).take len
  finishHeaders ctl (fillFrame len x.line (todAtCycle s x.due) x.seq (fillDescs x.words) f)

/-- The device sends its decision frames at cycle t (R310, R311). -/
def sendsDecisions (s : State) (t : Nat) : Bool :=
  let p := reg s 0xE 0 0x74
  !(field p 1 0 == 2 && !p.getLsbD 4) && !(p.getLsbD 5 && decide (s.serve.mutedAt ≤ t))

/-- A decision frame enters the MAC: built, and buffered, discarded or dropped (R306, R310). -/
def enterMac (x : FillRun) (s : State) : State :=
  let f := decisionFrame s x
  let intf := field (x.words.getD 80 0) 14 12
  let s := egCount 1 1 s
  if !sendsDecisions s x.due then egCount 3 1 s
  else
    let q := sget (fun _ => []) s.serve.tx intf
    if 65536 < txBytes s intf + f.length then ethCount (intf / 4) 9 1 (raiseCe 0xB (intf / 4) 2 (intf % 4) s)
    else modServe (fun v => { v with tx := sset (fun _ => []) v.tx intf (q ++ [f]) }) s

/-- Each of some fills enters the MAC. -/
def enterAll : List FillRun → State → State
  | [], s => s
  | x :: t, s => enterAll t (enterMac x s)

/-- The fills that have entered the MAC by cycle t. -/
def settleFills (t : Nat) (s : State) : State :=
  let due := s.serve.fills.filter fun x => decide (x.due ≤ t)
  enterAll due (modServe (fun v => { v with fills := v.fills.filter fun x => !decide (x.due ≤ t) }) s)

/-- A write of PORT_TOD_RATE: the time so far stands at the old rate, and so do the frames that have entered the MAC. -/
def todRateWrite (v : Word) (s : State) : State :=
  let s := settleFills s.now s
  setReg 0xA 0 0x58 v (modServe (fun x => { x with tod := todUnits s s.now, todAt := s.now }) s)

/-- A result line whose template builds no frame (R302, R303): kind of Table 10.13. -/
def templateFault (s : State) (t : Nat) : Option Nat :=
  let ctl := tplWord s t 80
  let intf := field ctl 14 12
  if !ctl.getLsbD 9 then some 0
  else if !intfProvided s intf then some 1
  else if !intfUp s intf then some 2
  else if !(reg s 0xB (intf / 4) 0x40).getLsbD 2 then some 3
  else none

/-- A result line enters fill (R302, R305). It reaches the MAC 48 cycles later (Table 2.2). -/
def fillLine (line : Line) (table : Ecc) (s : State) : State :=
  if !(reg s 0xD 0 0x8).getLsbD 0 then s
  else if !bitOf line.toNat 15 then egCount 2 1 s
  else
    let t := line.toNat % 1024
    let s := tableEcc table s
    if dataWithheld table then s
    else
      match templateFault s t with
      | some k => egCount 4 1 (raiseCe 0xD 0 0 (t + 1024 * k) s)
      | none =>
        let ws := (List.range 81).map (tplWord s t)
        let seq := tplWord s t 81
        setTpl t 81 (seq + BitVec.ofNat 32 (seqUses ws))
          (modServe (fun v => { v with fills := v.fills ++ [⟨s.now + 48, ws, seq, line⟩] }) s)

/-- The edge port finds an error in a line (Table 10.10). -/
def edgeEcc (c : Nat) (e : Ecc) (s : State) : State :=
  match e with
  | .ok => s
  | .corrected _ => raiseCe 0xA 0 3 (c - 16) s
  | .uncorrectable _ => raise 0xA 0 4 1 (c - 16) (.parts [0]) s

/-- A primary whose serving partition is frozen takes no result line (R311). -/
def stopsResults (s : State) : Bool := pairRole s == 1 && partFrozen s 0

/-- RESULT_LINE. The Port takes a flit from an attachment core, 10 cycles after the forward, and frees its entry: a line
is a result line; other flits are discarded and counted; a seal is consumed (R302). -/
def resultLine (c : Nat) (ch : Chan) (edge table : Ecc) (s : State) : State :=
  match s.fab.edge.find? fun y => y.core == c && y.ch == ch && decide (y.due ≤ s.now) with
  | none => s
  | some y =>
    if !usedAttachment s c || stopsResults s then s
    else
      let s := settleFills s.now { s with fab := { s.fab with edge := eraseFirst (fun z => z == y) s.fab.edge } }
      if y.flit.isSeal then s
      else
        let s := { s with fab := { s.fab with credits := s.fab.credits ++ [⟨c, ch, .n, s.now + 10⟩] } }
        if ch = .scalar ∨ ch = .control then egCount 5 1 s
        else
          let s := edgeEcc c edge s
          let s := chargePart 0 14 1 (match y.flit.job with | some j => charge j 14 1 s | none => s)
          if dataWithheld edge then s else fillLine y.flit.payload table (egCount 0 1 s)

/-- DECISION_FRAME_TRANSMIT. The oldest decision frame of an interface leaves its buffer, on an interface that may send
(R331); host frames that waited follow the last one (R306). -/
def frameTransmit (intf : Nat) (s : State) : State :=
  let s := settleFills s.now s
  match sget (fun _ => []) s.serve.tx intf with
  | [] => s
  | f :: t =>
    if intfSends s intf then
      let s := ethCount (intf / 4) 4 1 (launchFrame intf f (modServe (fun v => { v with tx := sset (fun _ => []) v.tx intf t }) s))
      if t = [] then
        launchHost intf (sget (fun _ => []) s.serve.txHost intf)
          (modServe (fun v => { v with txHost := sset (fun _ => []) v.txHost intf [] }) s)
      else s
    else s

/-- A write of SRV_PAIR.role (R311): took, muted and the take tick clear. -/
def srvPairWrite (v : Word) (s : State) : State :=
  pairCheck (tellPairing (rset64 (regKey 0xE 0 0x78 0) 0 (setReg 0xE 0 0x74 (BitVec.ofNat 32 (field v 1 0))
    { settleFills s.now s with pair := { s.pair with taken := false, takePending := false } })))

/-! ## Meanings -/

/-- ETH_LINK_CHANGE (R317). -/
def execEthLinkChange (dt intf : Nat) (up : Bool) (s : State) : Host.Outcome State Fault Refusal :=
  answer (.ethLinkChange dt intf up) s <|
    linkChange intf up (elapse dt s)

/-- EVENT_LAND (R295). -/
def execEventLand (e : PortCheck) (s : State) : Host.Outcome State Fault Refusal :=
  answer (.eventLand e) s <|
    eventLand e.table (elapse e.dt s)

/-- GATHER_BOUNDARY (R292). -/
def execGatherBoundary (s : State) : Host.Outcome State Fault Refusal :=
  answer (.gatherBoundary) s <|
    gatherBoundary s

/-- STEP_HEADER_LAND (R296). -/
def execStepHeaderLand (dt : Nat) (s : State) : Host.Outcome State Fault Refusal :=
  answer (.stepHeaderLand dt) s <|
    stepHeaderLand (elapse dt s)

/-- INSERT (R291). -/
def execInsert (src : Src) (s : State) : Host.Outcome State Fault Refusal :=
  answer (.insert src) s <|
    inCmd 3 s

/-- MODIFY (R291). -/
def execModify (src : Src) (s : State) : Host.Outcome State Fault Refusal :=
  answer (.modify src) s <|
    inCmd 4 s

/-- DELETE (R291). -/
def execDelete (src : Src) (s : State) : Host.Outcome State Fault Refusal :=
  answer (.delete src) s <|
    inCmd 5 s

/-- LOOKUP (R291). -/
def execLookup (src : Src) (s : State) : Host.Outcome State Fault Refusal :=
  answer (.lookup src) s <|
    inCmd 6 s

/-- IN_READ (R291). -/
def execInRead (src : Src) (s : State) : Host.Outcome State Fault Refusal :=
  answer (.inRead src) s <|
    inCmd 1 s

/-- IN_WRITE (R291). -/
def execInWrite (src : Src) (s : State) : Host.Outcome State Fault Refusal :=
  answer (.inWrite src) s <|
    inCmd 2 s

/-- JOIN (R299). -/
def execJoin (cmd : SrvCmd) (s : State) : Host.Outcome State Fault Refusal :=
  answer (.join cmd) s <|
    srvChecked 1 cmd.table s

/-- LEAVE (R299). -/
def execLeave (cmd : SrvCmd) (s : State) : Host.Outcome State Fault Refusal :=
  answer (.leave cmd) s <|
    srvChecked 2 cmd.table s

/-- SRV_MODEL_WRITE (R317). -/
def execSrvModelWrite (src : Src) (value : Word) (s : State) : Host.Outcome State Fault Refusal :=
  answer (.srvModelWrite src value) s <|
    srvModelWrite value s

/-- SRV_GATHER_WRITE (R294). -/
def execSrvGatherWrite (src : Src) (value : Word) (s : State) : Host.Outcome State Fault Refusal :=
  answer (.srvGatherWrite src value) s <|
    srvGatherWrite value s

/-- FEED_GEOM_WRITE (R307). -/
def execFeedGeomWrite (src : Src) (geom : Bool) (value : Word) (s : State) : Host.Outcome State Fault Refusal :=
  answer (.feedGeomWrite src geom value) s <|
    feedGeomWrite geom value s

/-- SRV_CUR_WRITE (R309). -/
def execSrvCurWrite (src : Src) (value : Dword) (s : State) : Host.Outcome State Fault Refusal :=
  answer (.srvCurWrite src value) s <|
    srvCurWrite value s

/-- SRV_PAIR_WRITE (R311). -/
def execSrvPairWrite (src : Src) (value : Word) (s : State) : Host.Outcome State Fault Refusal :=
  answer (.srvPairWrite src value) s <|
    srvPairWrite value s

/-- RESULT_LINE (R302). -/
def execResultLine (dt core : Nat) (ch : Chan) (edge table : Ecc) (s : State) : Host.Outcome State Fault Refusal :=
  answer (.resultLine dt core ch edge table) s <|
    resultLine core ch edge table (elapse dt s)

/-- DECISION_FRAME_TRANSMIT (R306). -/
def execDecisionFrameTransmit (dt intf : Nat) (s : State) : Host.Outcome State Fault Refusal :=
  answer (.decisionFrameTransmit dt intf) s <|
    frameTransmit intf (elapse dt s)

/-- EG_DATA_WRITE (R305). -/
def execEgDataWrite (src : Src) (value : Word) (s : State) : Host.Outcome State Fault Refusal :=
  answer (.egDataWrite src value) s <|
    egWrite value s

/-- TOD_SET (R313). -/
def execTodSet (src : Src) (value : Word) (s : State) : Host.Outcome State Fault Refusal :=
  answer (.todSet src value) s <|
    todCtl value s

end Sys2Proof.Machine
end

