-- ==== Sys2Proof/Machine/Host.lean ====
section
/-! DEFINITION. Host access (11_host_ports.md): received Ethernet frames, register-frame sources, the RoCEv2 responder,
event frames, admission and MACsec. -/

namespace Sys2Proof.Machine

open Sys2Proof

/-! ## Counters (Table 11.8) -/

/-- Add to a counter of RDMA instance 0. -/
def haCount (i n : Nat) (s : State) : State :=
  if i = 0 ∨ i = 2 ∨ i = 3 ∨ i = 6 ∨ i = 7 then bump48 0xF 0 0x64 i n (some (6, i)) s
  else bump32 0xF 0 0x64 i n (some (6, i)) s

/-- Add to a counter of queue pair q. -/
def qpCount (q i n : Nat) (s : State) : State :=
  if n = 0 then s
  else if i = 5 ∨ i = 7 then bump32 0xF (1 + q) 0x68 i n (some (3, i)) s
  else bump48 0xF (1 + q) 0x68 i n (some (3, i)) s

/-- R333 refuses what an interface receives unprotected. -/
def unprotectedIntf (s : State) (intf : Nat) : Bool := (reg s 0xF 0 0x40).getLsbD 2 && !protectedIntf s intf

/-! ## Sending (R438) -/

/-- Send a host frame on an interface that may send: behind the decision frames that have entered its buffer (R306). -/
def sendFrame (intf : Nat) (b : List Byte) (s : State) : State :=
  if intfSends s intf then hostFrame intf b (settleFills s.now s) else s

/-- HA_CFG.udp_port. -/
def regPort (s : State) : Nat := field (reg s 0xF 0 0x40) 31 16

/-- The frame that answers a register frame with a body. -/
def answerBytes (s : State) (h : FrameHdr) (body : List Byte) : List Byte :=
  let vlan := h.vlan.map fun (v : BitVec 16) => v &&& 0xEFFF
  let head := macHeader h.mac (intfMac s h.intf) vlan
  padFrame (match h.l3 with
    | .raw => head 0x88B5 ++ body
    | .v4 src dst dscp sp _ => head 0x0800 ++ ipv4Bytes dst src dscp.toNat (regPort s) sp.toNat body
    | .v6 src dst dscp sp _ => head 0x86DD ++ ipv6Bytes dst src dscp.toNat (regPort s) sp.toNat body)

/-! ## Register-frame sources (R320) -/

/-- Source n of the source table. -/
def sourceSt (s : State) (n : Nat) : SourceSt := sget (fun _ => SourceSt.reset) s.host.sources n

/-- Set a source. -/
def setSource (n : Nat) (x : SourceSt) (s : State) : State :=
  modHost (fun h => { h with sources := sset (fun _ => SourceSt.reset) h.sources n x }) s

/-- HA_SRC_CTL of source n. -/
def sourceCtl (s : State) (n : Nat) : Word := rget s (regKey 0xF 0 0x54 n)

/-- MAC address of source n. -/
def sourceMac (s : State) (n : Nat) : BitVec 48 :=
  BitVec.ofNat 48 ((rget s (regKey 0xF 0 0x4C n)).toNat + 2 ^ 32 * field (rget s (regKey 0xF 0 0x50 n)) 15 0)

/-- The source of a frame: the lowest valid entry with its MAC address and interface. -/
def matchSource (s : State) (h : FrameHdr) : Option Nat :=
  (List.range 32).find? fun n =>
    (sourceCtl s n).getLsbD 0 && bitOf (field (sourceCtl s n) 12 5) h.intf && sourceMac s n == h.mac

/-- A frame of no source (R320). -/
def unknownSource (h : FrameHdr) (s : State) : State := raiseCe 0xF 0 1 h.intf (haCount 1 1 s)

/-- HA_SRC_CTL.reset (R322, R323). -/
def sourceReset (n : Nat) (s : State) : State :=
  setSource n { sourceSt s n with frozen := false, synced := false, expected := 0, stored := none } s

/-! ## Receiving frames (R284, R285) -/

/-- A register-frame body as its fields; missing bytes read 0. -/
def regReqOf (h : FrameHdr) (b : List Byte) : RegReq :=
  let f := fun (o n : Nat) => leNat (bytesAt b o n)
  { hdr := h, short := decide (b.length < 24), version := BitVec.ofNat 16 (f 0 2), op := BitVec.ofNat 8 (f 2 1),
    flags := BitVec.ofNat 8 (f 3 1), seq := BitVec.ofNat 32 (f 4 4), addr := BitVec.ofNat 32 (f 8 4),
    value := BitVec.ofNat 32 (f 12 4), mask := BitVec.ofNat 32 (f 16 4), count := BitVec.ofNat 8 (f 20 1),
    rsvd := BitVec.ofNat 24 (f 21 3) }

/-- The header carries register frames that HA_CFG and PAGE_CTL enable (R318, R335). -/
def regFrameOn (s : State) (h : FrameHdr) : Bool :=
  (reg s 0xF 0 0x8).getLsbD 0 &&
  match h.l3 with
  | .raw => (reg s 0xF 0 0x40).getLsbD 0
  | .v4 _ _ _ _ dp => (reg s 0xF 0 0x40).getLsbD 1 && dp.toNat == regPort s
  | .v6 _ _ _ _ dp => (reg s 0xF 0 0x40).getLsbD 1 && dp.toNat == regPort s

/-- Place among the requests of one cycle: interfaces in ascending order, then the sideband (R321). -/
def PathEntry.rank (e : PathEntry) : Nat := if e.sideband then 8 else e.q.hdr.intf

/-- Put a request behind those that came earlier, and behind those of its cycle that go first. -/
def pathInsert (e : PathEntry) : List PathEntry → List PathEntry
  | [] => [e]
  | x :: t => if e.at_ = x.at_ ∧ e.rank < x.rank then e :: x :: t else x :: pathInsert e t

/-- A request waits for the path. -/
def pathQueue (sideband : Bool) (q : RegReq) (s : State) : State :=
  modHost (fun h => { h with path := pathInsert ⟨q, sideband, s.now⟩ h.path }) s

/-- A register frame arrives (R320, R321): it waits for the path, or is dropped. -/
def queueFrame (q : RegReq) (s : State) : State :=
  match matchSource s q.hdr with
  | none => unknownSource q.hdr s
  | some n => if 64 ≤ (s.host.path.filter fun e => !e.sideband).length then raiseCe 0xF 0 2 n (haCount 5 1 s) else pathQueue false q s

/-- Discard a frame, counted (R284, R285). -/
def discard (intf : Nat) (s : State) : State := ethCount (intf / 4) 8 1 s

/-- Destination UDP port of a network layer; 0 for none. -/
def dstPort (l : L3) : Nat :=
  match l with
  | .raw => 0
  | .v4 _ _ _ _ dp => dp.toNat
  | .v6 _ _ _ _ dp => dp.toNat

/-! ## The RoCEv2 responder (R324 to R327) -/

/-- A queue pair outside its registers. -/
def qpSt (s : State) (n : Nat) : QpSt := sget (fun _ => QpSt.reset) s.host.qps n

/-- Set a queue pair. -/
def setQp (n : Nat) (x : QpSt) (s : State) : State :=
  modHost (fun h => { h with qps := sset (fun _ => QpSt.reset) h.qps n x }) s

/-- QP_STATE: 0 RESET, 1 READY, 2 ERROR. -/
def qpState (s : State) (n : Nat) : Nat :=
  let ctl := reg s 0xF (1 + n) 0x8
  if ctl.getLsbD 1 then 2 else if ctl.getLsbD 0 then 1 else 0

/-- Expected PSN. -/
def epsn (s : State) (n : Nat) : BitVec 24 := BitVec.ofNat 24 (reg s 0xF (1 + n) 0x50).toNat

/-- Advance the expected PSN by the packets of a message; a NAK PSN sequence error may be sent again. -/
def advancePsn (n packets : Nat) (s : State) : State :=
  setQp n { qpSt s n with nakHeld := false }
    (setReg 0xF (1 + n) 0x50 (BitVec.ofNat 32 ((epsn s n).toNat + packets) &&& 0xFFFFFF) s)

/-- The frame of a RoCEv2 packet that queue pair n sends in answer to a header (R324, R438): opcode, congestion mark,
destination QPN, PSN, and what follows the transport header. -/
def roceFrame (s : State) (h : FrameHdr) (opcode : Nat) (becn : Bool) (qpn : Nat) (psn : BitVec 24) (body : List Byte) :
    List Byte :=
  let pad := (4 - body.length % 4) % 4
  let d := [BitVec.ofNat 8 opcode, BitVec.ofNat 8 (16 * pad)] ++ beBytes 2 0xFFFF ++ [if becn then 0x40 else 0] ++
    beBytes 3 qpn ++ [0] ++ beBytes 3 psn.toNat ++ body ++ List.replicate pad 0
  let head := macHeader h.mac (intfMac s h.intf) (h.vlan.map fun (v : BitVec 16) => v &&& 0xEFFF)
  padFrame (match h.l3 with
    | .raw => head 0
    | .v4 src dst dscp sp _ => head 0x0800 ++ withIcrc (fun x => ipv4Bytes dst src dscp.toNat sp.toNat 4791 (d ++ x))
    | .v6 src dst dscp sp _ => head 0x86DD ++ withIcrc (fun x => ipv6Bytes dst src dscp.toNat sp.toNat 4791 (d ++ x)))

/-- Send a RoCEv2 packet of queue pair n in answer to a header, to the peer's QPN. -/
def sendRoce (n : Nat) (h : FrameHdr) (opcode : Nat) (becn : Bool) (psn : BitVec 24) (body : List Byte) (s : State) : State :=
  sendFrame h.intf (roceFrame s h opcode becn (field (reg s 0xF (1 + n) 0x44) 23 0) psn body) s

/-- An AETH: syndrome and message sequence number. -/
def aeth (syn : Byte) (msn : BitVec 24) : List Byte := syn :: beBytes 3 msn.toNat

/-- Send an ACK (Table 11.4). -/
def sendAck (n : Nat) (h : FrameHdr) (psn : BitVec 24) (s : State) : State :=
  sendRoce n h 0x11 false psn (aeth 0x1F (qpSt s n).msn) s

/-- Send a NAK (Table 11.4). -/
def sendNak (n : Nat) (h : FrameHdr) (psn : BitVec 24) (syn : Byte) (s : State) : State :=
  qpCount n 3 1 (sendRoce n h 0x11 false psn (aeth syn (qpSt s n).msn) (setQp n { qpSt s n with syndrome := syn } s))

/-- Send packets i to total − 1 of a read response of `total` packets, one for each part of its data. -/
def sendResponses (n : Nat) (h : FrameHdr) (psn : BitVec 24) (total : Nat) : Nat → List (List Byte) → State → State
  | _, [], s => s
  | i, d :: t, s =>
    let opcode := if total = 1 then 0x10 else if i = 0 then 0x0D else if i + 1 = total then 0x0F else 0x0E
    sendResponses n h psn total (i + 1) t
      (sendRoce n h opcode false (psn + BitVec.ofNat 24 i)
        ((if opcode = 0x0E then [] else aeth 0x1F (qpSt s n).msn) ++ d) s)

/-- NAK syndrome of a violation kind of Table 11.9, as the InfiniBand transport codes them (log entry 29). -/
def nakSyndrome (kind : Nat) : Byte := if kind = 7 then 0x63 else if kind = 5 ∨ kind = 6 then 0x61 else 0x62

/-- A violation (R326): one NAK, the queue pair frozen to ERROR. -/
def qpViolation (n kind : Nat) (h : FrameHdr) (psn : BitVec 24) (s : State) : State :=
  let syn := nakSyndrome kind
  raise 0xF (1 + n) 0 1 (kind + 2 ^ 8 * syn.toNat) (.qp n) (sendNak n h psn syn s)

/-- Read requests of a queue pair whose answers have not left. -/
def readsOutstanding (s : State) (n : Nat) : Nat := ((qpSt s n).reads.filter fun t => decide (s.now < t)).length

/-- The first check of R326 that a message fails, as its kind; 0 for none. -/
def rdmaCheck (s : State) (n : Nat) (write : Bool) (m : RdmaMsg) : Nat :=
  let cfg := reg s 0xF (1 + n) 0x4C
  let w := window s (field cfg 7 0)
  let last := m.va.toNat + m.length - 1
  if m.op = .unsupported then 6
  else if !write ∧ 16 ≤ readsOutstanding s n then 5
  else if reg s 0xF (1 + n) 0x48 ≠ m.rkey then 1
  else if 0 < m.length ∧ (!w.holds m.va.toNat last ∨ !bitOf w.rights (if write then 5 else 4)) then 2
  else if !cfg.getLsbD (if write then 9 else 8) then 3
  else if write ∧ windowLocked s w.idx then 4
  else 0

/-- How a packet stands to the expected PSN (R327). -/
inductive PsnPlace where
  | expected | duplicate | ahead
  deriving DecidableEq, Repr

/-- Place of a PSN. -/
def psnPlace (s : State) (n : Nat) (psn : BitVec 24) : PsnPlace :=
  let d := (psn - epsn s n).toNat
  if d = 0 then .expected else if 2 ^ 23 ≤ d then .duplicate else .ahead

/-- A CNP for a packet marked CE, at most one in 50 µs (Table 11.4). -/
def maybeCnp (n : Nat) (m : RdmaMsg) (s : State) : State :=
  let x := qpSt s n
  if m.ce && (x.cnpAt == 0 || decide (x.cnpAt - 1 + 47000 ≤ s.now)) then
    qpCount n 6 1 (sendRoce n m.hdr 0x81 true 0 (List.replicate 16 0) (setQp n { x with cnpAt := s.now + 1 } s))
  else s

/-- A packet ahead of the expected PSN (R327). -/
def psnAhead (n : Nat) (m : RdmaMsg) (s : State) : State :=
  if (qpSt s n).nakHeld then s
  else
    let s := raiseCe 0xF (1 + n) 1 0 (sendNak n m.hdr (epsn s n) 0x60 s)
    setQp n { qpSt s n with nakHeld := true } s

/-- The header carries RoCEv2 that PAGE_CTL enables: UDP port 4791 (R324, R335). -/
def roceOn (s : State) (h : FrameHdr) : Bool := (reg s 0xF 0 0x8).getLsbD 0 && dstPort h.l3 == 4791

/-- What stands before a RoCEv2 packet is looked at (R324, R325, R333): the queue pair that takes it. Packets that fail their
ICRC, and those that the T9 does not support (other transports, answers to a requester, CNPs, other partition keys), are
discarded and counted. -/
def rdmaAdmit (m : RdmaMsg) (s : State) : Option Nat × State :=
  let s := ethCount (m.hdr.intf / 4) 3 1 s
  if unprotectedIntf s m.hdr.intf then (none, haCount 8 1 s)
  else if m.qpn < 2 ∨ 1025 < m.qpn then (none, haCount 10 1 s)
  else
    let n := m.qpn - 2
    let s := qpCount n 0 1 s
    if !m.icrcOk then (none, qpCount n 7 1 s)
    else if qpState s n ≠ 1 ∨ m.op = .discarded ∨ m.pkey ≠ 0xFFFF then (none, qpCount n 5 1 s)
    else (some n, maybeCnp n m s)

/-- Write a line, or part of one, for queue pair n: a hub line that was VOID becomes READY (log entry 28). A part of an HBM line
goes into the line as it is read, since a line reaches HBM whole (R235). `errs` is what the access to HBM meets (R238, R242).
False: the line to be written in part is uncorrectable, and stays as it is (DESIGN CHOICE, log entry 88). -/
def rdmaPut (n : Nat) (errs : SymErrs) (a : Nat) (b : List Byte) (s : State) : Bool × State :=
  let line := a / 64 * 64
  if isHubAddr a then
    let d := putBytes (physLine s line) (a % 64) b
    let q := hubKey a / 2 ^ 26
    let h := hubKey a % 2 ^ 26 / 64
    let s := noteHub q h s
    let s := { s with hub := memPut s.hub (hubKey line) d }
    (true, if lineSt s q h = 2 then setLineSt q 0 [h] s else s)
  else if hbmExists s a then
    let put := fun (d : List Byte) (s : State) => (true, countHbmWrite (hbmPlace s a).1 (hbmWrite line d s))
    if b.length = 64 then put b (hbmParity (hbmPlace s a).1 (hbmPlace s a).2 errs s)
    else
      match hbmRead line errs (.qp n) s with
      | (some d, s) => put (putBytes d (a % 64) b) s
      | (none, s) => (false, s)
  else (true, s)

/-- Write bytes line by line, from line i of the packet; `fuel` bounds the lines. False: a line stopped it. -/
def rdmaPutAll (n : Nat) (errs : List (Nat × SymErrs)) : Nat → Nat → Nat → List Byte → State → Bool × State
  | 0, _, _, _, s => (true, s)
  | fuel + 1, i, a, b, s =>
    if b.isEmpty then (true, s)
    else
      let k := 64 - a % 64
      match rdmaPut n (lineErrs errs i) a (b.take k) s with
      | (true, s) => rdmaPutAll n errs fuel (i + 1) (a + k) (b.drop k) s
      | (false, s) => (false, s)

/-- MTU of a queue pair in bytes; other codes act as 4,096 (R335). -/
def qpMtu (s : State) (n : Nat) : Nat := [1024, 2048].getD (field (reg s 0xF (1 + n) 0x4C) 12 10 - 3) 4096

/-- The packet begins, or ends, a WRITE message. -/
def opBegins (o : RdmaOp) : Bool := o == .writeFirst || o == .writeOnly

/-- The packet ends a WRITE message. -/
def opEnds (o : RdmaOp) : Bool := o == .writeLast || o == .writeOnly

/-- The packet is the one that may come next, with the payload that it must carry (IBTA, log entry 77): a full MTU, or at the
end of the message all that is left. -/
def writeFits (s : State) (n : Nat) (m : RdmaMsg) (w : WriteRun) : Bool :=
  if opEnds m.op then decide (m.data.length = w.left ∧ w.left ≤ qpMtu s n)
  else decide (m.data.length = qpMtu s n ∧ qpMtu s n < w.left)

/-- Write a packet of a checked WRITE message; the last one makes its ACK due. An uncorrectable line that it writes in part ends
it as such a line ends a READ (R326; DESIGN CHOICE, log entry 88). -/
def writePacket (n : Nat) (m : RdmaMsg) (errs : List (Nat × SymErrs)) (w : WriteRun) (s : State) : State :=
  match rdmaPutAll n errs (m.data.length / 64 + 2) 0 w.va m.data (advancePsn n 1 s) with
  | (false, s) => qpViolation n 7 m.hdr m.psn s
  | (true, s) =>
    let x := qpSt s n
    qpCount n 1 m.data.length
      (setQp n (if opEnds m.op then { x with writing := none, acks := x.acks ++ [⟨w.first, m.psn, m.hdr, w.again⟩] }
                else { x with writing := some { w with va := w.va + m.data.length, left := w.left - m.data.length } }) s)

/-- A WRITE packet of the expected PSN (R326): the range of the whole message is checked with its first packet. -/
def writeExpected (n : Nat) (m : RdmaMsg) (errs : List (Nat × SymErrs)) (s : State) : State :=
  match opBegins m.op, (qpSt s n).writing with
  | true, none =>
    let w : WriteRun := ⟨m.psn, m.va.toNat, m.length, []⟩
    match rdmaCheck s n true m with
    | 0 => if writeFits s n m w then writePacket n m errs w s else qpViolation n 6 m.hdr m.psn s
    | k => qpViolation n k m.hdr m.psn s
  | false, some w => if writeFits s n m w then writePacket n m errs w s else qpViolation n 6 m.hdr m.psn s
  | _, _ => qpViolation n 6 m.hdr m.psn s

/-- A PSN lies in the range of a message. -/
def psnWithin (first last psn : BitVec 24) : Bool := decide ((psn - first).toNat ≤ (last - first).toNat)

/-- A duplicate WRITE packet is acknowledged again and not written (R327): after its message, where that is not yet
acknowledged. -/
def writeDuplicate (n : Nat) (m : RdmaMsg) (s : State) : State :=
  let x := qpSt s n
  let s := qpCount n 4 1 s
  match x.writing, x.acks.findIdx? (fun a => psnWithin a.first a.psn m.psn) with
  | some w, none =>
    if psnWithin w.first (epsn s n - 1) m.psn then
      setQp n { x with writing := some { w with again := w.again ++ [(m.hdr, m.psn)] } } s
    else sendAck n m.hdr m.psn s
  | _, some i =>
    setQp n { x with acks := x.acks.modify i fun a => { a with again := a.again ++ [(m.hdr, m.psn)] } } s
  | none, none => sendAck n m.hdr m.psn s

/-- Acknowledge some duplicates. -/
def sendAcks (n : Nat) : List (FrameHdr × BitVec 24) → State → State
  | [], s => s
  | (h, psn) :: t, s => sendAcks n t (sendAck n h psn s)

/-- RDMA_WRITE_ACK. Every stack controller has accepted the oldest WRITE not acknowledged. -/
def rdmaAck (n : Nat) (s : State) : State :=
  let x := qpSt s n
  match x.acks with
  | [] => s
  | a :: t =>
    if qpState s n = 1 then
      sendAcks n a.again (sendAck n a.hdr a.psn (setQp n { x with acks := t, msn := x.msn + 1 } s))
    else s

/-- Read lines for RDMA from line address `a`: the bytes so far, and whether a line was uncorrectable. -/
def rdmaGet (n : Nat) (errs : List (Nat × SymErrs)) : Nat → Nat → Nat → State → List Byte × Bool × State
  | 0, _, _, s => ([], true, s)
  | k + 1, i, a, s =>
    let get := fun (d : List Byte) (s : State) =>
      let r := rdmaGet n errs k (i + 1) (a + 64) s
      (d ++ r.1, r.2.1, r.2.2)
    if isHubAddr a then get (physLine s a) s
    else if hbmExists s a then
      match hbmRead a (lineErrs errs i) (.qp n) s with
      | (some d, s) => get d s
      | (none, s) => ([], false, s)
    else get (List.replicate 64 0) s

/-- Payload of the packets of a read response: the MTU, but at most 1,024 bytes on an interface with ETH_CFG.serve = 1,
whose host frames stay within 1,522 bytes (R286). -/
def responseMtu (s : State) (n intf : Nat) : Nat :=
  if (reg s 0xB (intf / 4) 0x40).getLsbD 2 then min 1024 (qpMtu s n) else qpMtu s n

/-- Some bytes cut to parts of at most `k`; one empty part for none. -/
def cutParts (k : Nat) (d : List Byte) : List (List Byte) :=
  (List.range (max 1 (ceilDiv d.length k))).map fun i => bytesAt d (k * i) k

/-- Perform a checked READ (R326): its response, ended by a NAK at an uncorrectable line. -/
def rdmaDoRead (n : Nat) (m : RdmaMsg) (errs : List (Nat × SymErrs)) (s : State) : State :=
  let a := m.va.toNat
  let r := rdmaGet n errs (if m.length = 0 then 0 else (a + m.length - 1) / 64 + 1 - a / 64) 0 (a / 64 * 64) s
  let d := (r.1.drop (a % 64)).take m.length
  let mtu := responseMtu s n m.hdr.intf
  let s := setQp n { qpSt r.2.2 n with reads := ((qpSt r.2.2 n).reads.filter fun t => decide (s.now < t)) ++ [s.now + m.answer] } r.2.2
  if r.2.1 then
    let s := setQp n { qpSt s n with msn := (qpSt s n).msn + 1 } s
    qpCount n 2 d.length (sendResponses n m.hdr m.psn (max 1 (ceilDiv d.length mtu)) 0 (cutParts mtu d) s)
  else
    let k := d.length / mtu
    let s := qpCount n 2 (k * mtu) (sendResponses n m.hdr m.psn (k + 1) 0 ((cutParts mtu d).take k) s)
    qpViolation n 7 m.hdr (m.psn + BitVec.ofNat 24 k) s

/-- PSNs that a READ request uses: one for each packet of its response. -/
def readPackets (s : State) (n : Nat) (m : RdmaMsg) : Nat := max 1 (ceilDiv m.length (responseMtu s n m.hdr.intf))

/-- A READ request. -/
def rdmaRead (n : Nat) (m : RdmaMsg) (errs : List (Nat × SymErrs)) (s : State) : State :=
  match psnPlace s n m.psn, rdmaCheck s n false m with
  | .ahead, _ => psnAhead n m s
  | .duplicate, 0 => rdmaDoRead n m errs (qpCount n 4 1 s)
  | .expected, 0 =>
    if (qpSt s n).writing.isSome then qpViolation n 6 m.hdr m.psn s
    else rdmaDoRead n m errs (advancePsn n (readPackets s n m) s)
  | _, k => qpViolation n k m.hdr m.psn s

/-- A packet of a WRITE, or one with an opcode that is not supported. -/
def rdmaWrite (n : Nat) (m : RdmaMsg) (errs : List (Nat × SymErrs)) (s : State) : State :=
  match psnPlace s n m.psn with
  | .ahead => psnAhead n m s
  | .duplicate => if m.op = .unsupported then qpViolation n 6 m.hdr m.psn s else writeDuplicate n m s
  | .expected => if m.op = .unsupported then qpViolation n 6 m.hdr m.psn s else writeExpected n m errs s

/-- A RoCEv2 packet that the interface has accepted. -/
def rocePacket (m : RdmaMsg) (errs : List (Nat × SymErrs)) (s : State) : State :=
  match rdmaAdmit m s with
  | (none, s) => s
  | (some n, s) => if m.op = .readRequest then rdmaRead n m errs s else rdmaWrite n m errs s

/-- RDMA_WRITE and RDMA_READ_REQUEST: a packet arrives on an interface, as a frame that passed its stages (R331). -/
def roceArrive (m : RdmaMsg) (errs : List (Nat × SymErrs)) (s : State) : State :=
  if !intfUp s m.hdr.intf then s
  else
    let s := ethCount (m.hdr.intf / 4) 0 1 s
    if !roceOn s m.hdr || !intfSends s m.hdr.intf then discard m.hdr.intf s else rocePacket m errs s

/-- A RoCEv2 packet as its fields (IBTA, log entry 77): `ip` is its IP packet, `p` the UDP payload. -/
def roceOf (h : FrameHdr) (ip p : List Byte) : RdmaMsg :=
  let opcode := (p.getD 0 0).toNat
  let op : RdmaOp := if opcode = 6 then .writeFirst else if opcode = 7 then .writeMiddle else if opcode = 8 then .writeLast
    else if opcode = 10 then .writeOnly else if opcode = 12 then .readRequest
    else if 32 ≤ opcode ∨ (13 ≤ opcode ∧ opcode ≤ 18) then .discarded else .unsupported
  let reth := opBegins op || op == .readRequest
  let v6 := (ip.getD 0 0).toNat / 16 == 6
  let n := if v6 then 40 + beNat (bytesAt ip 4 2) else beNat (bytesAt ip 2 2)
  let ip := ip.take n
  { hdr := h, op := op, qpn := beNat (bytesAt p 5 3), psn := BitVec.ofNat 24 (beNat (bytesAt p 9 3)),
    pkey := BitVec.ofNat 16 (beNat (bytesAt p 2 2)),
    icrcOk := decide (16 ≤ p.length ∧ icrcOf ip = p.drop (p.length - 4)),
    ce := (if v6 then beNat (bytesAt ip 0 2) / 16 else (ip.getD 1 0).toNat) % 4 == 3,
    va := if reth then BitVec.ofNat 64 (beNat (bytesAt p 12 8)) else 0,
    rkey := if reth then BitVec.ofNat 32 (beNat (bytesAt p 20 4)) else 0,
    length := if reth then beNat (bytesAt p 24 4) else 0,
    data := bytesAt p (if reth then 28 else 12) (p.length - 4 - (if reth then 28 else 12) - (p.getD 1 0).toNat / 16 % 4),
    answer := 0 }

/-! ## Frames from the ports (R284, R285) -/

/-- Classify a frame that has passed the MAC, MACsec and VLAN stages (R285). -/
def classify (intf : Nat) (b : List Byte) (st : RxStatus) (s : State) : State :=
  let (vlan, net) := netOf b
  let mac := BitVec.ofNat 48 (beNat (bytesAt b 6 6))
  let ptp := emit (.ptp intf st.timestamp b) s
  match net with
  | .unsupported => discard intf s
  | .badSum => inCount 4 1 s
  | .other et p =>
    let h : FrameHdr := ⟨intf, mac, vlan, .raw⟩
    if et = 0x88F7 then ptp
    else if et = 0x888E ∧ macsecOn s intf then s
    else if et = 0x88B5 ∧ regFrameOn s h then queueFrame (regReqOf h p) (ethCount (intf / 4) 3 1 s)
    else discard intf s
  | .udp l3 dst p =>
    let h : FrameHdr := ⟨intf, mac, vlan, l3⟩
    if dstPort l3 = 319 ∨ dstPort l3 = 320 then ptp
    else if regFrameOn s h then queueFrame (regReqOf h p) (ethCount (intf / 4) 3 1 s)
    else if roceOn s h then rocePacket (roceOf h (b.drop (if vlan.isSome then 18 else 14)) p) st.errs s
    else
      match filterOf s intf l3 dst with
      | some e =>
        if (reg s 0xC 0 0x8).getLsbD 0 then marketFrame intf e st.timestamp st.table st.looks p s else discard intf s
      | none => discard intf s

/-- ETH_FRAME_RECEIVE. The FEC, MAC, MACsec and VLAN stages, and the class (R284, R285, Table 10.13). -/
def ethReceive (intf : Nat) (b : List Byte) (st : RxStatus) (s : State) : State :=
  let p := intf / 4
  if !intfUp s intf then s
  else
    let s := ethCount p 7 st.fecUncorrectable (ethCount p 6 st.fecCorrected (ethCount p 0 1 s))
    if 0 < st.fecUncorrectable then raiseCe 0xB p 1 (intf % 4) s
    else if !st.fcsOk then ethCount p 5 1 s
    else if b.length < 60 ∨ 9212 < b.length then discard intf s
    else
      match macsecStage intf b s with
      | (.refuse, s) => discard intf s
      | (.icv, s) => raiseCe 0xF 0 5 intf (haCount 9 1 s)
      | (.pass c, s) => classify intf c st s

/-! ## Queue-pair reset and EVENT frames -/

/-- QP_RESET (R325). -/
def qpReset (n : Nat) (s : State) : State :=
  setReg 0xF (1 + n) 0x8 0 (setReg 0xF (1 + n) 0x50 0 (setQp n QpSt.reset s))

/-! ## Event frames (R328, R329) -/

/-- A log entry as its 32 bytes (Table 16.4). -/
def logBytes (e : LogEntry) : List Byte :=
  leBytes 4 e.idx.toNat ++ leBytes 2 e.code ++ leBytes 1 e.cls ++ leBytes 1 (if e.code < 0x10 then e.fclass else 0) ++
  leBytes 8 e.tick.toNat ++ leBytes 2 e.inst ++ [0, 0] ++ e.detail

/-- First index of the next event frame: the first unsent, or the oldest present. -/
def evtStart (s : State) : Word :=
  if 4096 < (s.faults.head - s.host.evtNext).toNat then s.faults.head - 4096 else s.host.evtNext

/-- Entries not sent. -/
def evtUnsent (s : State) : Nat := (s.faults.head - evtStart s).toNat

/-- The log entry with an index. -/
def logAt (s : State) (i : Word) : Option LogEntry :=
  match s.faults.log.find? (·.1 == i.toNat % 4096) with
  | some e => if e.2.idx = i then some e.2 else none
  | none => none

/-- The body of an event frame of `n` entries from index `i`. -/
def evtBody (s : State) (i : Word) (n : Nat) : List Byte :=
  [1, 0, 6, 1] ++ leBytes 4 s.host.evtSeq.toNat ++ leBytes 4 i.toNat ++ [0, BitVec.ofNat 8 n] ++ leBytes 2 32 ++
  ((List.range n).map fun k =>
    match logAt s (i + BitVec.ofNat 32 k) with | some e => logBytes e | none => List.replicate 32 0).flatten

/-- An address of four register words, as bytes in network order (Table 10.3). -/
def ipWords (s : State) (off : Nat) : List Byte :=
  ((List.range 4).map fun i => leBytes 4 (reg s 0xF 0 (off + 4 * i)).toNat).flatten

/-- The frame that carries an event-frame body (R328, R438). -/
def evtBytes (s : State) (body : List Byte) : List Byte :=
  let cfg := reg s 0xF 0 0x6C
  let dst : BitVec 48 := BitVec.ofNat 48 ((reg s 0xF 0 0x70).toNat + 2 ^ 32 * field (reg s 0xF 0 0x74) 15 0)
  let head := macHeader dst (intfMac s (field cfg 4 2)) none
  let a := fun (off n : Nat) => beNat ((ipWords s off).take n)
  padFrame
    (if !cfg.getLsbD 1 then head 0x88B5 ++ body
     else if cfg.getLsbD 5 then
       head 0x86DD ++ ipv6Bytes (BitVec.ofNat 128 (a 0x144 16)) (BitVec.ofNat 128 (a 0x78 16)) 0 (regPort s) (field cfg 31 16) body
     else
       head 0x0800 ++ ipv4Bytes (BitVec.ofNat 32 (a 0x144 4)) (BitVec.ofNat 32 (a 0x78 4)) 0 (regPort s) (field cfg 31 16) body)

/-- Event frames may leave now: enabled, not stalled, and on an interface that R331 and R333 let send. -/
def evtMaySend (s : State) : Bool :=
  let cfg := reg s 0xF 0 0x6C
  cfg.getLsbD 0 && !s.host.evtStalled && intfSends s (field cfg 4 2) && !unprotectedIntf s (field cfg 4 2)

/-- EVENT_FRAME_SEND. -/
def eventSend (s : State) : State :=
  let n := min 32 (evtUnsent s)
  let i := evtStart s
  let old := match logAt s i with | some e => decide (e.at_ + 47000 ≤ s.now) | none => false
  if evtMaySend s && s.host.evtFrame.isNone && (decide (32 ≤ n) || (decide (0 < n) && old)) then
    let b := evtBody s i n
    haCount 6 1 (sendFrame (field (reg s 0xF 0 0x6C) 4 2) (evtBytes s b)
      (modHost (fun h => { h with evtNext := i, evtFrame := some ⟨i, n, 1, s.now, b⟩ }) s))
  else s

/-- EVENT_FRAME_RESEND. Every 2 ms; after eight sends the sender stalls. -/
def eventResend (s : State) : State :=
  match s.host.evtFrame with
  | none => s
  | some f =>
    if s.host.evtStalled ∨ s.now < f.at_ + 1880000 then s
    else if 8 ≤ f.sends then raiseCe 0xF 0 3 0 (modHost (fun h => { h with evtStalled := true }) s)
    else if evtMaySend s then
      haCount 7 1 (sendFrame (field (reg s 0xF 0 0x6C) 4 2) (evtBytes s f.body)
        (modHost (fun h => { h with evtFrame := some { f with sends := f.sends + 1, at_ := s.now } }) s))
    else s

/-- The entries of a frame count as read (R427). -/
def markRead (i : Word) (n : Nat) (e : Nat × LogEntry) : Nat × LogEntry :=
  if (e.2.idx - i).toNat < n then (e.1, { e.2 with read := true }) else e

/-- An EVENT_ACK of the pending frame (R329). -/
def eventAcked (seq : Word) (s : State) : State :=
  match s.host.evtFrame with
  | none => s
  | some f =>
    if seq ≠ s.host.evtSeq then s
    else
      modHost (fun h => { h with evtNext := f.first + BitVec.ofNat 32 f.count, evtSeq := h.evtSeq + 1,
                                 evtFrame := none, evtStalled := false })
        { s with faults := { s.faults with log := s.faults.log.map (markRead f.first f.count) } }

/-- A write of HA_EVT_CFG: 1 in enable clears a stall, and the pending frame is sent again up to eight times more (R329). -/
def evtCfgWrite (v : Word) (s : State) : State :=
  let s := setReg 0xF 0 0x6C (v &&& 0xFFFF003F) s
  if v.getLsbD 0 then modHost (fun h => { h with evtStalled := false, evtFrame := h.evtFrame.map fun f => if h.evtStalled then { f with sends := 0 } else f }) s
  else s

/-! ## Admission (R332) -/

/-- `n` random bytes of the Crest's generator. -/
def randomBytes (s : State) (n : Nat) : List Byte := (List.range n).map (Config.randomByte s.free)

/-- PREPARE. -/
def admPrepare (s : State) : State :=
  let k := randomBytes s 56
  drawFree (modHost (fun h => { h with adm := max 1 h.adm, admPriv := some k, admPub := x448Public k }) s)

/-- The admission record in HA_ADM_DATA. -/
def admRecord (s : State) : List Byte :=
  ((List.range 40).map fun i => leBytes 4 (reg s 0xF 0 (0xA0 + 4 * i)).toNat).flatten

/-- Zero HA_ADM_DATA. -/
def zeroAdm (s : State) : State := (List.range 40).foldl (fun s i => setReg 0xF 0 (0xA0 + 4 * i) 0 s) s

/-- Install a CKN and CAK on the interfaces of a mask; MKA begins. -/
def installCak (ckn cak : List Byte) (mask : Byte) : List Nat → State → State
  | [], s => s
  | i :: t, s =>
    installCak ckn cak mask t (if mask.getLsbD i then setMacsec i ⟨some (ckn, cak), false, [], 0⟩ s else s)

/-- INSTALL fails. -/
def admReject (reason : Nat) (s : State) : State :=
  raiseCe 0xF 0 4 reason (modHost (fun h => { h with adm := if h.adm = 2 then 2 else 0 }) s)

/-- INSTALL: HA_ADM_DATA is zeroed and the private key discarded in every case. -/
def admInstall (s : State) : State :=
  let r := admRecord s
  let s' := zeroAdm (modHost (fun h => { h with admPriv := none }) s)
  match s.host.admPriv with
  | none => admReject 1 s'
  | some k =>
    if (r.drop 133).any (fun b => b != 0) then admReject 3 s'
    else
      let z := x448 k (r.take 56)
      let kek := shake256 32 (z ++ s.host.admPub ++ r.take 56)
      let iv := bytesAt r 72 12
      let ct := bytesAt r 84 32
      if gcmTag kek iv (r.take 72 ++ bytesAt r 132 1) ct = bytesAt r 116 16 then
        installCak (bytesAt r 56 16) (gcmCrypt kek iv ct) (r.getD 132 0) (List.range 8)
          (modHost (fun h => { h with adm := 2 }) s')
      else admReject 2 s'

/-- REVOKE: every CAK and SAK erased, MACsec down on every interface. -/
def admRevoke (s : State) : State :=
  modHost (fun h => { h with macsec := [], adm := if h.admPriv.isSome then 1 else 0 }) s

/-- HA_ADM_CMD. -/
def admCmd (v : Nat) (s : State) : State :=
  if v = 1 then admPrepare s else if v = 2 then admInstall s else if v = 3 then admRevoke s else s

/-- SAK_INSTALL (R331): an SAK distributed under the installed CAK; its association transmits. -/
def sakInstall (intf an : Nat) (sak : Sak) (pn : Nat) (s : State) : State :=
  let x := macsec s intf
  if macsecOn s intf && x.cak.isSome then
    setMacsec intf { x with live := true, saks := x.saks.filter (·.1 != an) ++ [(an, ⟨sak, pn⟩)], txAn := an } s
  else s

/-- MKA_SESSION_LOSS (R331). -/
def mkaLoss (intf : Nat) (s : State) : State := setMacsec intf { macsec s intf with live := false } s

/-! ## The power budget (R391) -/

/-- Package limit of Table 0.1, W: of the T9 as fused. -/
def packageLimit (s : State) : Nat := if variantH s then 3800 else 4400

/-- ENG_BUDGET as the sideband sets it: the power clamped. -/
def setBudget (watts frames : Nat) (s : State) : State :=
  setReg 0x12 0 0x40 (BitVec.ofNat 32 (min watts (packageLimit s) + 2 ^ 16 * (min frames 4096))) s

/-! ## Meanings -/

/-- ETH_FRAME_RECEIVE (R285). -/
def execEthFrameReceive (dt intf : Nat) (bytes : List Byte) (st : RxStatus) (s : State) : Host.Outcome State Fault Refusal :=
  answer (.ethFrameReceive dt intf bytes st) s <|
    ethReceive intf bytes st (elapse dt s)

/-- RDMA_WRITE (R326). -/
def execRdmaWrite (dt : Nat) (m : RdmaPut) (s : State) : Host.Outcome State Fault Refusal :=
  answer (.rdmaWrite dt m) s <|
    roceArrive m.msg m.errs (elapse dt s)

/-- RDMA_WRITE_ACK (R327). -/
def execRdmaWriteAck (dt qp : Nat) (s : State) : Host.Outcome State Fault Refusal :=
  answer (.rdmaWriteAck dt qp) s <|
    rdmaAck qp (elapse dt s)

/-- RDMA_READ_REQUEST (R326). -/
def execRdmaReadRequest (dt : Nat) (m : RdmaMsg) (errs : List (Nat × SymErrs)) (s : State) : Host.Outcome State Fault Refusal :=
  answer (.rdmaReadRequest dt m errs) s <|
    roceArrive m errs (elapse dt s)

/-- QP_RESET (R325). -/
def execQpReset (src : Src) (qp : Nat) (s : State) : Host.Outcome State Fault Refusal :=
  answer (.qpReset src qp) s <|
    qpReset qp s

/-- EVENT_FRAME_SEND (R329). -/
def execEventFrameSend (dt : Nat) (s : State) : Host.Outcome State Fault Refusal :=
  answer (.eventFrameSend dt) s <|
    eventSend (elapse dt s)

/-- EVENT_FRAME_RESEND (R329). -/
def execEventFrameResend (dt : Nat) (s : State) : Host.Outcome State Fault Refusal :=
  answer (.eventFrameResend dt) s <|
    eventResend (elapse dt s)

/-- PREPARE (R332). -/
def execPrepare (src : Src) (s : State) : Host.Outcome State Fault Refusal :=
  answer (.prepare src) s <|
    admCmd 1 s

/-- INSTALL (R332). -/
def execInstall (src : Src) (s : State) : Host.Outcome State Fault Refusal :=
  answer (.install src) s <|
    admCmd 2 s

/-- ADM_REVOKE (R332). -/
def execAdmRevoke (src : Src) (s : State) : Host.Outcome State Fault Refusal :=
  answer (.admRevoke src) s <|
    admCmd 3 s

/-- SAK_INSTALL (R331). -/
def execSakInstall (intf an : Nat) (sak : Sak) (pn : Nat) (s : State) : Host.Outcome State Fault Refusal :=
  answer (.sakInstall intf an sak pn) s <|
    sakInstall intf an sak pn s

/-- SOURCE_RESET (R323). -/
def execSourceReset (src : Src) (source : Nat) (s : State) : Host.Outcome State Fault Refusal :=
  answer (.sourceReset src source) s <|
    sourceReset source s

/-- MKA_SESSION_LOSS (R331). -/
def execMkaSessionLoss (dt intf : Nat) (s : State) : Host.Outcome State Fault Refusal :=
  answer (.mkaSessionLoss dt intf) s <|
    mkaLoss intf (elapse dt s)

/-- BUDGET_EFFECTER (R391). -/
def execBudgetEffecter (watts frames : Nat) (s : State) : Host.Outcome State Fault Refusal :=
  answer (.budgetEffecter watts frames) s <|
    setBudget watts frames s

end Sys2Proof.Machine
end

