-- ==== Sys2Proof/Machine/Reduce.lean ====
section
/-! DEFINITION. The reduction engines of the Col dies (R207 to R212). -/

namespace Sys2Proof.Machine

open Sys2Proof

/-! ## Col dies and their edge cores (Table 1.2) -/

/-- Logical x of the first edge core of Col die n. -/
def colX (n : Nat) : Nat := [0, 8, 32, 40, 48, 64, 80].getD (n % 7) 0

/-- Edge core i of Col die n: row 0 for Col 0 to 6, row 95 for Col 7 to 13. -/
def colCore (n i : Nat) : Nat := colX n + i + (if n < 7 then 0 else 9120)

/-- The input of an edge core that its die feeds. -/
def edgeInput (c : Nat) : Port := if c < 96 then .n else .s

/-! ## An engine -/

/-- An engine, its slots those that are active (R209). -/
def engine (s : State) (n k : Nat) : RedEngine :=
  let x := sget (fun _ => RedEngine.reset) s.engines (4 * n + k)
  { x with slots := x.slots.filter fun y => match y.endAt with | some t => decide (s.now ≤ t) | none => true }

/-- Set an engine. -/
def setEngine (n k : Nat) (x : RedEngine) (s : State) : State :=
  { s with engines := sset (fun _ => RedEngine.reset) s.engines (4 * n + k) x }

/-- Key of an input. -/
def inpKey : EngIn → Nat
  | .grid i => i
  | .link k => 8 + k

/-- The input is a link. -/
def isLinkIn : EngIn → Bool
  | .grid _ => false
  | .link _ => true

/-- An input of an engine. -/
def inputOf (x : RedEngine) (k : Nat) : RedInput := sget (fun _ => RedInput.reset) x.inputs k

/-- Set an input. -/
def setInput (k : Nat) (i : RedInput) (x : RedEngine) : RedEngine :=
  { x with inputs := sset (fun _ => RedInput.reset) x.inputs k i }

/-- An active slot. -/
def slotOf (x : RedEngine) (i : Nat) : Option RedSlot := x.slots.find? (·.slot == i)

/-- Replace a slot. -/
def setRedSlot (y : RedSlot) (x : RedEngine) : RedEngine :=
  { x with slots := x.slots.map fun z => if z.slot == y.slot then y else z }

/-- A unit of a slot that is not delivered. -/
def unitOf (x : RedEngine) (slot unit : Nat) : Option RedUnit :=
  x.units.find? fun u => u.slot == slot && u.unit == unit && u.freeAt.isNone

/-- Replace a unit. -/
def setUnit (y : RedUnit) (x : RedEngine) : RedEngine :=
  { x with units := x.units.map fun u => if u.slot == y.slot && u.unit == y.unit && u.freeAt.isNone then y else u }

/-- Drop a unit that is being summed. -/
def dropUnit (slot unit : Nat) (x : RedEngine) : RedEngine :=
  { x with units := eraseFirst (fun u => u.slot == slot && u.unit == unit && u.freeAt.isNone) x.units }

/-- Accumulators in use: one frees in the cycle in which its last line leaves (R211). -/
def unitsInUse (t : Nat) (x : RedEngine) : List RedUnit :=
  x.units.filter fun u => match u.freeAt with | some f => decide (t ≤ f) | none => true

/-- A reduction header (Table 7.5). -/
structure RedHdr where
  slot : Nat
  engine : Nat
  kind : Nat
  device : Nat
  unit : Nat
  route : Nat
  plane : Bool
  rsvd : Nat
  deriving DecidableEq, Repr

/-- The header in a line. -/
def redHdr (x : Line) : RedHdr :=
  let n := x.toNat
  ⟨bitsOf n 3 0, bitsOf n 5 4, bitsOf n 7 6, bitsOf n 17 8, bitsOf n 33 18, bitsOf n 39 34, bitOf n 40, n / 2 ^ 41⟩

/-- Contributors of a mask. -/
def maskCount (m : BitVec 512) : Nat := ((List.range 512).filter fun i => m.getLsbD i).length

/-- Highest device of a mask. -/
def maskTop (m : BitVec 512) : Nat := ((List.range 512).filter fun i => m.getLsbD i).getLastD 0

/-- The next input that the engine serves: the grid first, then the links in ascending number (R207). -/
def mayServe (x : RedEngine) : EngIn → Bool
  | .grid _ => true
  | .link k => x.inputs.all fun e => decide (8 + k ≤ e.1) || e.2.queue.isEmpty

/-- Detail bits of a fault beyond the low ones (Table 7.11): engine, and the slot but for buffer_full. -/
def redDetail (k bit slot : Nat) : Nat := 2 ^ 10 * k + (if bit = 3 then 0 else 2 ^ 12 * slot)

/-- The unit that a header names is discarded; a descriptor names none. The rest of a contribution to it that input `key`
has begun is passed over. -/
def discardUnit (key : Nat) (h : RedHdr) (x : RedEngine) : RedEngine :=
  let x := match slotOf x h.slot with
    | some y => if h.kind = 1 then x else setRedSlot { y with bad := h.unit :: y.bad } (dropUnit h.slot h.unit x)
    | none => x
  let i := inputOf x key
  let g := redHdr i.hdr
  if i.parsed ≠ 0 ∧ g.slot = h.slot ∧ g.unit = h.unit then setInput key { i with skip := true } x else x

/-- A fault of the engine (R212, Table 7.11): the unit is discarded, and the owner partition freezes, or the arrival's
partition where the slot is not active. -/
def redFault (n k key bit low : Nat) (h : RedHdr) (edge : Nat) (s : State) : State :=
  let x := engine s n k
  let p := match slotOf x h.slot with | some y => y.owner | none => partOf s edge
  raise 0x1B n bit 1 (low + redDetail k bit h.slot) (.parts [p]) (setEngine n k (discardUnit key h x) s)

/-- Position of the parse after a line: a contribution has 67 lines, a descriptor 2. -/
def parsedNext (i : RedInput) : RedInput :=
  let total := if (redHdr i.hdr).kind = 1 then 2 else 67
  if i.parsed + 1 ≥ total then { i with parsed := 0, hdr := 0, scales := [], skip := false }
  else { i with parsed := i.parsed + 1 }

/-- Take a line off an input. -/
def popLine (t key : Nat) (x : RedEngine) : RedEngine :=
  let i := inputOf x key
  { setInput key { i with queue := i.queue.drop 1 } x with takenAt := t + 1 }

/-- Advance the parse of an input. -/
def advance (n k key : Nat) (s : State) : State :=
  let x := engine s n k
  setEngine n k (setInput key (parsedNext (inputOf x key)) x) s

/-- Line 0 of a contribution may begin its unit: the fault that it meets, as bit and low detail. -/
def contribFault (t k : Nat) (x : RedEngine) (h : RedHdr) (last : Bool) : Option (Nat × Nat) :=
  if !last || h.rsvd != 0 || h.route != 0 || h.plane || h.engine != k then some (1, 1)
  else
    match slotOf x h.slot with
    | none => some (1, 0)
    | some y =>
      if y.units ≤ h.unit then some (1, 1)
      else if !y.mask.getLsbD h.device || decide (512 ≤ h.device) then some (1, 3)
      else
        match unitOf x h.slot h.unit with
        | some u => if u.busy || u.complete || decide (h.device ≤ u.last.getD 0 ∧ u.last.isSome) then some (0, h.device) else none
        | none =>
          if y.delivered.contains h.unit then some (0, h.device)
          else if 64 ≤ (unitsInUse t x).length then some (3, 0)
          else none

/-- Mark most accumulators in use at once. -/
def noteBuf (n k : Nat) (s : State) : State :=
  let u := (unitsInUse s.now (engine s n k)).length
  if (reg s 0x1B n 0x54).toNat < u then setReg 0x1B n 0x54 (BitVec.ofNat 32 u) s else s

/-- Begin a contribution. -/
def contribBegin (n k key : Nat) (h : RedHdr) (line : RedLine) (s : State) : State :=
  let x := engine s n k
  let i := inputOf x key
  let x := setInput key { i with hdr := line.payload, parsed := 1 } x
  let x := match unitOf x h.slot h.unit with
    | some u => setUnit { u with busy := true } x
    | none => { x with units := unitsInUse s.now x ++ [⟨h.slot, h.unit, none, true, 0, false, 0, [], none⟩] }
  noteBuf n k (setEngine n k x s)

/-- Element j of an element line, in FP32, under its block's scale (R133, R210). -/
def contribElem (i : RedInput) (lineNo : Nat) (x : Line) (j : Nat) : Word :=
  let e := 64 * lineNo + j
  let scale := bitsOf ((i.scales.getD (e / 32 / 64) 0).toNat) (8 * (e / 32 % 64) + 7) (8 * (e / 32 % 64))
  let v := decodeElem 4 (bitsOf x.toNat (8 * j + 7) (8 * j))
  if scale = 255 then roundFp32 .nan else roundFp32 (v.scale ((scale : Int) - 127))

/-- Add an element line to a unit: the first contribution's values become the accumulator (R210). -/
def addElems (u : RedUnit) (i : RedInput) (lineNo : Nat) (x : Line) : RedUnit :=
  (List.range 64).foldl (fun u j =>
    let e := 64 * lineNo + j
    let v := contribElem i lineNo x j
    let w := if u.count = 0 then v else fadd (sget (fun _ => (0 : Word)) u.acc e) v
    { u with acc := sset (fun _ => (0 : Word)) u.acc e w }) u

/-- The last line of a contribution has been added (R210). -/
def contribEnd (n k : Nat) (h : RedHdr) (inp : EngIn) (s : State) : State :=
  let x := engine s n k
  match slotOf x h.slot, unitOf x h.slot h.unit with
  | some y, some u =>
    let done := h.device == maskTop y.mask && u.count + 1 == maskCount y.mask
    let u := { u with busy := false, last := some h.device, count := u.count + 1, complete := done, doneAt := s.now }
    let y := match inp with
      | .link l => { y with links := if y.links.contains l then y.links else l :: y.links }
      | .grid _ => y
    bump48 0x1B n 0x60 0 1 (some (5, 1)) (setEngine n k (setRedSlot y (setUnit u x)) s)
  | _, _ => s

/-- Charge the addition of a line (Table 14.2): to the job of the slot, and to the slot's owner. -/
def chargeRed (y : RedSlot) (s : State) : State := chargePart y.owner 13 1 (chargeJob y.job 13 1 s)

/-- A later line of a contribution, the line taken off its queue. -/
def contribLine (n k key : Nat) (inp : EngIn) (line : RedLine) (s : State) : State :=
  let x := engine s n k
  let i := inputOf x key
  let h := redHdr i.hdr
  if i.skip then advance n k key s
  else
    match slotOf x h.slot, unitOf x h.slot h.unit with
    | some y, some u =>
      if line.last != (i.parsed == 2 || i.parsed == 66) then
        advance n k key (redFault n k key 1 1 h line.core s)
      else if i.parsed ≤ 2 then
        advance n k key (setEngine n k (setInput key { i with scales := i.scales ++ [line.payload] } x) s)
      else
        let s := chargeRed y (setEngine n k (setUnit (addElems u i (i.parsed - 3) line.payload) x) s)
        advance n k key (if i.parsed = 66 then contribEnd n k h inp s else s)
    | none, _ =>
      advance n k key (redFault n k key 1 0 h line.core (setEngine n k (setInput key { i with skip := true } x) s))
    | _, _ => advance n k key (setEngine n k (setInput key { i with skip := true } x) s)

/-- Line 0 of a contribution. A unit that a fault discarded takes no more of them. -/
def contribHead (n k key : Nat) (line : RedLine) (s : State) : State :=
  let x := engine s n k
  let h := redHdr line.payload
  match contribFault s.now k x h line.last with
  | some (bit, low) =>
    redFault n k key bit low h line.core
      (setEngine n k (setInput key { inputOf x key with hdr := line.payload, parsed := 1 } x) s)
  | none =>
    match slotOf x h.slot with
    | some y =>
      if y.dead || y.bad.contains h.unit then
        setEngine n k (setInput key { inputOf x key with hdr := line.payload, parsed := 1, skip := true } x) s
      else contribBegin n k key h line s
    | none => s

/-- The line that the engine takes next from an input: its page is enabled, one line a cycle, the grid first. -/
def nextLine (s : State) (n k : Nat) (inp : EngIn) : Option (RedInput × RedLine) :=
  let x := engine s n k
  let i := inputOf x (inpKey inp)
  if !(reg s 0x1B n 8).getLsbD 0 || decide (s.now < x.takenAt) || !mayServe x inp then none
  else match i.queue with | [] => none | l :: _ => some (i, l)

/-- REDUCE_CONTRIBUTION. The engine takes the next line of a contribution. A header of a reserved kind is malformed. -/
def reduceContribution (n k : Nat) (inp : EngIn) (s : State) : State :=
  let key := inpKey inp
  match nextLine s n k inp with
  | none => s
  | some (i, line) =>
    let h := redHdr (if i.parsed = 0 then line.payload else i.hdr)
    if h.kind = 1 then s
    else
      let s := setEngine n k (popLine s.now key (engine s n k)) s
      if i.parsed ≠ 0 then contribLine n k key inp line s
      else if h.kind ≥ 2 then redFault n k key 1 1 h line.core s
      else contribHead n k key line s

/-- REDUCE_DESCRIPTOR. The engine takes the next line of a descriptor (R209). -/
def reduceDescriptor (n k : Nat) (inp : EngIn) (s : State) : State :=
  let key := inpKey inp
  match nextLine s n k inp with
  | none => s
  | some (i, line) =>
    let h := redHdr (if i.parsed = 0 then line.payload else i.hdr)
    if h.kind ≠ 1 then s
    else
      let x := popLine s.now key (engine s n k)
      let s := setEngine n k x s
      if i.parsed = 0 then
        let s := setEngine n k (setInput key { inputOf x key with hdr := line.payload, parsed := 1 } x) s
        if line.last || h.rsvd != 0 || h.device != 0 || h.engine != k then redFault n k key 1 1 h line.core s
        else if isLinkIn inp then redFault n k key 1 3 h line.core s
        else if (slotOf x h.slot).isSome then redFault n k key 2 0 h line.core s
        else s
      else if i.skip then advance n k key s
      else if !line.last then advance n k key (redFault n k key 1 1 h line.core s)
      else if (slotOf x h.slot).isSome then advance n k key (redFault n k key 2 0 h line.core s)
      else
        let y : RedSlot := ⟨h.slot, partOf s line.core, h.unit + 1, BitVec.ofNat 6 h.route, h.plane, line.payload, [], [], [], false, none, line.job⟩
        advance n k key (setEngine n k { x with slots := x.slots ++ [y] } s)

/-- One line past a parse by position (R208): the header in progress and the lines of it so far, none between two. -/
def parsePast (a : Option (Line × Nat)) (d : Line) : Option (Line × Nat) :=
  match a with
  | none => some (d, 1)
  | some (h, n) => if (if (redHdr h).kind = 1 then 2 else 67) ≤ n + 1 then none else some (h, n + 1)

/-- The header of the contribution or descriptor that a line arriving at an input belongs to. -/
def headerOf (i : RedInput) (d : Line) : Line :=
  let a := if i.parsed = 0 then none else some (i.hdr, i.parsed)
  match (i.queue.map (·.payload)).foldl parsePast a with
  | some (h, _) => h
  | none => d

/-- A line reaches an engine's input queue of 16 lines (R207, R212). One that finds it full is lost. -/
def engineArrive (n k : Nat) (inp : EngIn) (line : RedLine) (s : State) : State :=
  let key := inpKey inp
  let x := engine s n k
  let i := inputOf x key
  if 16 ≤ i.queue.length then redFault n k key 3 1 (redHdr (headerOf i line.payload)) line.core s
  else setEngine n k (setInput key { i with queue := i.queue ++ [line] } x) s

/-! ## Delivery (R211) -/

/-- Line i of a unit. -/
def unitLine (u : RedUnit) (i : Nat) : Line :=
  BitVec.ofNat 512 (((List.range 16).map fun j => (sget (fun _ => (0 : Word)) u.acc (16 * i + j)).toNat * 2 ^ (32 * j)).sum)

/-- The lines of a unit on their way into the delivery edge core. -/
def unitWires (s : State) (n k : Nat) (y : RedSlot) (u : RedUnit) : List Wire :=
  let c := colCore n (2 * k)
  (List.range 256).map fun i =>
    ⟨c, if y.plane then .v1 else .v0, edgeInput c,
     mkFlit y.job y.route.toNat s.sched.colour (i == 255) (unitLine u i), u.doneAt + 24 + i⟩

/-- Elements of a unit that are infinite or NaN. -/
def unitNonfinite (u : RedUnit) : Nat := (u.acc.filter fun e => (num32 e.2).nonFinite).length

/-- The cycle in which the last line of a slot's units leaves. -/
def lastLeaves (x : RedEngine) (slot : Nat) : Nat :=
  (x.units.filter (·.slot == slot)).foldl (fun t u => max t (u.freeAt.getD 0)) 0

/-- The 256 lines of a delivered unit spend the credits of their queue, of key 4·core + ch (R167). -/
def spendUnit (k : Nat) (s : State) : State :=
  { s with fab := { s.fab with dieSpent := sset (fun _ => 0) s.fab.dieSpent k (sget (fun _ => 0) s.fab.dieSpent k + 256) } }

/-- REDUCE_UNIT_DELIVER. A completed unit is delivered as 256 lines; a slot ends once the last line of its units has left
(R209, R211). -/
def unitDeliver (n k slot unit : Nat) (s : State) : State :=
  let x := engine s n k
  match slotOf x slot, unitOf x slot unit with
  | some y, some u =>
    if !u.complete then s
    else
      let y' := { y with delivered := unit :: y.delivered }
      let x := setUnit { u with freeAt := some (u.doneAt + 24 + 255) } x
      let x := setRedSlot { y' with endAt := if y'.delivered.length = y.units then some (lastLeaves x slot) else none } x
      let bad := unitNonfinite u
      let s := setEngine n k x (spendUnit (4 * colCore n (2 * k) + bit01 y.plane)
        (chargeJob y.job 7 256 { s with fab := { s.fab with wires := s.fab.wires ++ unitWires s n k y u } }))
      let s := bump48 0x1B n 0x58 0 1 (some (5, 0)) s
      if bad = 0 then s
      else raiseCe 0x1B n 4 (2 ^ 10 * k + 2 ^ 12 * slot) (bump48 0x1B n 0x68 0 bad (some (5, 2)) s)
  | _, _ => s

/-- A slot's units in progress are discarded, those being delivered among them, and it delivers nothing more. -/
def killSlot (slot : Nat) (x : RedEngine) : RedEngine :=
  { x with slots := x.slots.map (fun y => if y.slot == slot then { y with dead := true } else y),
           units := x.units.filter fun u => u.slot != slot }

/-- The lines of a slot's delivered units that have not left the die are not delivered (R212), and spend no credit. -/
def dropDelivery (n k : Nat) (y : RedSlot) (s : State) : State :=
  let ls := ((engine s n k).units.filter fun u => u.slot == y.slot && u.freeAt.isSome).flatMap (unitWires s n k y)
  let gone := fun (w : Wire) => ls.contains w && decide (s.now + 9 < w.due)
  let key := 4 * colCore n (2 * k) + bit01 y.plane
  let spent := sget (fun _ => 0) s.fab.dieSpent key
  { s with fab := { s.fab with
      wires := s.fab.wires.filter (!gone ·),
      dieSpent := sset (fun _ => 0) s.fab.dieSpent key (spent - (s.fab.wires.filter gone).length) } }

/-- Slots still active at a frame boundary (R212): each is a fault, and its units are discarded. -/
def slotsAtFrame (s : State) : State :=
  (List.range 56).foldl (fun s e =>
    ((engine s (e / 4) (e % 4)).slots).foldl (fun s y =>
      raise 0x1B (e / 4) 1 1 (2 + redDetail (e % 4) 1 y.slot) (.parts [y.owner])
        (setEngine (e / 4) (e % 4) (killSlot y.slot (engine s (e / 4) (e % 4))) (dropDelivery (e / 4) (e % 4) y s))) s) s

/-- Engines without the slots of a partition, its units discarded (a partition reset, R378). -/
def dropOwned (p : Nat) (s : State) : State :=
  { s with engines := smap (fun _ => RedEngine.reset) (fun _ x =>
      let gone := (x.slots.filter (·.owner == p)).map (·.slot)
      { x with slots := x.slots.filter (·.owner != p),
               units := x.units.filter fun u => u.freeAt.isSome || !gone.contains u.slot }) s.engines }

/-! ## Rows -/

/-- REDUCE_DESCRIPTOR (R209). -/
def execReduceDescriptor (dt col engine : Nat) (inp : EngIn) (s : State) : Host.Outcome State Fault Refusal :=
  answer (.reduceDescriptor dt col engine inp) s <|
    reduceDescriptor col engine inp (elapse dt s)

/-- REDUCE_CONTRIBUTION (R210). -/
def execReduceContribution (dt col engine : Nat) (inp : EngIn) (s : State) : Host.Outcome State Fault Refusal :=
  answer (.reduceContribution dt col engine inp) s <|
    reduceContribution col engine inp (elapse dt s)

/-- REDUCE_UNIT_DELIVER (R211). -/
def execReduceUnitDeliver (dt col engine slot unit : Nat) (s : State) : Host.Outcome State Fault Refusal :=
  answer (.reduceUnitDeliver dt col engine slot unit) s <|
    unitDeliver col engine slot unit (elapse dt s)

end Sys2Proof.Machine
end

