-- ==== Sys2Proof/Machine/Resets.lean ====
section
/-! DEFINITION. Placement of image sections (R67, R94, R96, R378), retention (R19, R384), core, cluster and partition
resets (R375 to R380), and the power states of partitions (R382, R383). -/

namespace Sys2Proof.Machine

open Sys2Proof

/-! ## Placement -/

/-- Split bytes into little-endian numbers of `w` bytes; `n` bounds them. -/
def chunksLe (w : Nat) : Nat → List Byte → List Nat
  | 0, _ => []
  | n + 1, b => if b.length < w then [] else leNat (b.take w) :: chunksLe w n (b.drop w)

/-- The bytes of the section of a type and instance; none: the image has no such section. -/
def sectionBytes (s : State) (addr type inst : Nat) : Option (List Byte) :=
  (sectionOf s addr type inst).map fun (d : DirEnt) => physBytes s (addr + d.off) d.len

/-- The sections of a core: its three streams, route entries and steering words, valid bits and descriptors. -/
structure CoreSecs where
  streams : List (List Dword)
  routes : List Word
  valid : BitVec 512
  descs : List Dword
  deriving DecidableEq, Repr

/-- FEND in every word, every table zero. -/
def noSecs : CoreSecs := ⟨[], [], 0, []⟩

/-- The sections of core c in the image at an address (R94, R95, R170). -/
def coreSecs (s : State) (addr c : Nat) : CoreSecs :=
  let get := fun (t : Nat) => (sectionBytes s addr t c).getD []
  let board := get 0x14
  { streams := [0x10, 0x11, 0x12].map fun t => (chunksLe 8 1024 (get t)).map (BitVec.ofNat 64),
    routes := (chunksLe 4 72 (get 0x13)).map (BitVec.ofNat 32),
    valid := BitVec.ofNat 512 (leNat (board.take 64)),
    descs := (chunksLe 8 512 (board.drop 64)).map (BitVec.ofNat 64) }

/-- The sections of core c in an image, if there is one. -/
def secsOf (s : State) (im : Option Image) (c : Nat) : CoreSecs :=
  match im with
  | some i => coreSecs s i.addr c
  | none => noSecs

/-- Store values at keys from k on. -/
def putFrom {α : Type} [DecidableEq α] (dflt : α) : Nat → List α → List (Nat × α) → List (Nat × α)
  | _, [], m => m
  | k, v :: t, m => putFrom dflt (k + 1) t (sset (fun _ => dflt) m k v)

/-- The keys of one half, of `n` keys each. -/
def dropHalf {α : Type} (half : Bool) (n : Nat) (m : List (Nat × α)) : List (Nat × α) :=
  sdrop (fun k => k / n == bit01 half) m

/-- Fill one half of a core's instruction store, tile table and route tables. -/
def placeHalf (half : Bool) (k : CoreSecs) (x : Core) : Core :=
  let base := 3072 * bit01 half
  let str := fun (i : Nat) => k.streams.getD i []
  { x with
    ist := putFrom fendWord base (str 0) (putFrom fendWord (base + 1024) (str 1) (putFrom fendWord (base + 2048) (str 2)
      (dropHalf half 3072 x.ist))),
    tiles := putFrom 0 (512 * bit01 half) k.descs (dropHalf half 512 x.tiles),
    routes := putFrom 0 (72 * bit01 half) k.routes (dropHalf half 72 x.routes) }

/-- Place the shadow half (R67, R94). -/
def placeShadow (k : CoreSecs) (x : Core) : Core := { placeHalf (!x.half) k x with validShadow := k.valid }

/-- An image is ARMED. -/
def armed (s : State) : Bool := s.sched.st == 3

/-- The ARMED image. -/
def armedImage (s : State) : Option Image := if armed s then s.sched.staged else none

/-! ## Retention (R19, R22, R384) -/

/-- Retention class of a header's scope (R22). -/
def scopeOf (cls : Nat) : Nat := if cls = 4 ∨ cls = 5 then 4 else 2

/-- Retention class of a register: 1 K, 2 W, 3 P, 4 L, 5 V. -/
def retClass (cls inst off : Nat) : Nat :=
  if off = 8 ∧ (cls = 4 ∨ cls = 5) then 2
  else
    match regRow? cls inst off with
    | some r => if r.ret = 0 then scopeOf cls else r.ret
    | none => 2

/-- Class, instance and offset of a stored register's key. -/
def keyPage (key : Nat) : Nat × Nat × Nat :=
  let a := key % 2 ^ 32
  (a / 2 ^ 26, a / 2 ^ 12 % 2 ^ 14, a % 2 ^ 12)

/-- Return to their reset values the stored registers that `hit` names by class, instance and offset. -/
def dropRegs (hit : Nat → Nat → Nat → Bool) (s : State) : State :=
  { s with regs := sdrop (fun k => hit (keyPage k).1 (keyPage k).2.1 (keyPage k).2.2) s.regs }

/-- The group of Table 13.8 that logs the loss of a register. -/
def lossGroup (cls inst off : Nat) : Option Nat :=
  let on := fun (p : Bool) (g : Nat) => if p then some g else none
  if off < 0x40 then on (off == 0x10 || off == 0x1C) 0
  else
    match cls with
    | 0x01 => on (off == 0x58) 2
    | 0x04 => on (decide (0x50 ≤ off)) 1
    | 0x05 => some (if off < 0x100 then 1 else 3)
    | 0x06 => on (decide (0x48 ≤ off) && decide (off ≤ 0x64)) 2
    | 0x07 => on (decide (0x4C ≤ off)) 2
    | 0x08 => on (off == 0x48) 3
    | 0x09 => on (decide (0x60 ≤ off)) 2
    | 0x0B => on (decide (0x58 ≤ off)) 2
    | 0x0C => on (decide (0x74 ≤ off)) 2
    | 0x0D => on (decide (0x50 ≤ off)) 2
    | 0x0E => on (off == 0x78 || off == 0x7C || decide (0x8C ≤ off)) 2
    | 0x0F => if inst = 0 then on (off == 0x64 || off == 0x68 || off == 0x140) 3 else on (off == 0x68 || off == 0x6C) 3
    | 0x12 => if inst = 0 then on (decide (0x5C ≤ off)) 2 else some 1
    | 0x13 => on (off == 0x60 || off == 0x64) 2
    | 0x15 => on (decide (0x50 ≤ off)) 2
    | 0x16 => some 1
    | 0x17 => on (decide (0x9C ≤ off)) 2
    | 0x18 => on (decide (0x54 ≤ off)) 2
    | 0x1A => on (decide (0x48 ≤ off)) 2
    | 0x1B => on (decide (0x54 ≤ off)) 2
    | 0x1C => on (off == 0x60) 3
    | _ => none

/-- A group of a page class that lost a value in an instance. -/
structure Loss where
  cls : Nat
  group : Nat
  inst : Nat
  deriving DecidableEq, Repr

/-- The losses among the stored registers that `hit` names: in the store's canonical form every one of them holds a
value other than its reset value. -/
def regLosses (s : State) (hit : Nat → Nat → Nat → Bool) : List Loss :=
  s.regs.filterMap fun e =>
    let p := keyPage e.1
    if hit p.1 p.2.1 p.2.2 then (lossGroup p.1 p.2.1 p.2.2).map fun (g : Nat) => ⟨p.1, g, p.2.1⟩ else none

/-- Log one loss event for a page class and group. -/
def logLoss (level cls group : Nat) (insts : List Nat) (s : State) : State :=
  match insts with
  | [] => s
  | i :: t =>
    let lo := t.foldl min i
    let hi := t.foldl max i
    raiseCe 0 0 8 (cls + 2 ^ 6 * group)
      (logEvent 0x0010 cls lo 0 ([BitVec.ofNat 8 group, BitVec.ofNat 8 level, 0, 0] ++ leBytes 2 lo ++ leBytes 2 hi ++
        leBytes 4 insts.length) s)

/-- Log the losses of a reset or transition, by ascending page class and group (R384). -/
def logLosses (level : Nat) (l : List Loss) (s : State) : State :=
  (List.range (29 * 8)).foldl (fun s k =>
    logLoss level (k / 8) (k % 8) ((l.filter fun x => x.cls == k / 8 && x.group == k % 8).map (·.inst)).eraseDups s) s

/-! ## What a core reset does (R378) -/

/-- A core after its reset: `both` also places the shadow half from the ARMED image. Credits held for its outputs stay:
they stand for entries of other switches. -/
def coreFresh (s : State) (c : Nat) (both : Bool) (x : Core) : Core :=
  let k := secsOf s s.sched.active c
  let y := placeHalf x.half k
    { Core.reset with half := x.half, ist := x.ist, tiles := x.tiles, routes := x.routes, valid := k.valid,
                      validShadow := x.validShadow, f := .reset s.now, b := .reset s.now, u := .reset s.now,
                      issued := s.now, colour := s.sched.colour, credits := x.credits, lastDeq := s.now }
  if both then placeShadow (secsOf s (armedImage s) c) y else y

/-- Traffic within a core that its reset drops: its own injections and its steering tokens on their way. -/
def dropCoreWires (c : Nat) (s : State) : State :=
  { s with fab := { s.fab with wires := s.fab.wires.filter fun y => !(y.core == c && y.inp == .l),
                               toks := s.fab.toks.filter fun y => y.core != c } }

/-- Zero the 7,168 lines of a core's SRAM. -/
def zeroSram (c : Nat) (s : State) : State :=
  { s with sram := sdrop (fun k => k / 2 ^ 19 == c && decide (k % 2 ^ 19 < 7168 * 64)) s.sram }

/-- Reset the state of one core. -/
def freshCore (keep both : Bool) (c : Nat) (s : State) : State :=
  let s := dropCoreWires c (returnAll c (core s c) allInputs s)
  let s := if keep then s else zeroSram c s
  setCore c (coreFresh s c both (core s c)) s

/-- Reset the state of each of some cores. -/
def freshCores (keep both : Bool) : List Nat → State → State
  | [], s => s
  | c :: t, s => freshCores keep both t (freshCore keep both c s)

/-! ## Regions (Table 13.4) -/

/-- The cores of a region. -/
def regionCores (s : State) : Region → List Nat
  | .core c => [c]
  | .cluster k => clusterCores k
  | .partition p => (partRidges s p).flatMap ridgeCores

/-- The partition that a region lies in. -/
def regionPart (s : State) : Region → Nat
  | .core c => partOf s c
  | .cluster k => partOfCluster s k
  | .partition p => p

/-- Level code of a region. -/
def regionLevel : Region → Nat
  | .core _ => 0
  | .cluster _ => 1
  | .partition _ => 2

/-- Drain window, cycles. -/
def drainWindow : Region → Nat
  | .core _ => 64
  | .cluster _ => 4096
  | .partition _ => 65536

/-- The class-L registers of a region: of its cores' and, above a core, its clusters' pages. -/
def regionHit (s : State) (r : Region) (cls inst off : Nat) : Bool :=
  retClass cls inst off == 4 &&
  (match r with
   | .core c => cls == 5 && inst == c
   | .cluster k => (cls == 5 && clusterOf inst == k) || (cls == 4 && inst == k)
   | .partition p => (cls == 5 && partOf s inst == p) || (cls == 4 && partOfCluster s inst == p))

/-- Losses of the switches' high-water marks (SW_QHIGH). -/
def highLosses (s : State) (cs : List Nat) : List Loss :=
  (cs.filter fun c => !(core s c).high.isEmpty).map fun c => ⟨5, 3, c⟩

/-- A flit whose path leads out of the region under reset (R377). -/
def leaves (s : State) (c : Nat) (ch : Chan) (f : Flit) : Bool :=
  match resetOf s c with
  | none => outsOf (core s c) ch (entryOf (core s c) f) != 0
  | some r => pathLeaves s r.region ch f pathFuel [c] []

/-- Keep of a queue the flits that leave, returning the credits of the others. -/
def discardInner (c : Nat) : List (Chan × Port) → State → State
  | [], s => s
  | (ch, p) :: t, s =>
    let q := queueOf (core s c) (qCode ch p)
    let stay := q.filter fun f => !leaves s c ch f.flit
    let s := modCore c (setQueue (qCode ch p) (q.filter fun f => leaves s c ch f.flit)) s
    discardInner c t (returnCredits c ch p stay.length s)

/-- Stop a core (R377 stage 1): the work in its queues and units is discarded. -/
def stopWork (x : Core) : Core :=
  { x with arrayQ := [], array := none, vecQ := [], vecs := [], movQ := [], movs := [], resetHeld := false }

/-- Lines that the core's HRDs still wait for in cycle t: a line lands eight cycles after its bank access (R226). -/
def linesComing (c : Nat) (x : Core) (t : Nat) : Nat :=
  (x.movs.map fun r =>
    if iOp r.op.word = 2 ∧ !r.stopped then ((hrdCycles c r).filter fun w => decide (t ≤ w + 8)).length else 0).sum

/-- Which counter counts what a region under reset absorbs (Table 13.4). -/
def absorbOf : Region → Absorb
  | .partition p => .part p
  | _ => .cluster

/-- Begin the drain of a core of a region: its work is discarded, and vertical-port lines on their way to it are dropped at the
boundary (R111, R377). -/
def drainCore (r : Region) (c : Nat) (s : State) : State :=
  let n := linesComing c (core s c) s.now
  let s := discardInner c allInputs (modCore c stopWork (hwrFlush c (core s c).movs (dropCoreWires c s)))
  if n = 0 then s else countAbsorb c n (absorbOf r) s

/-- Begin the drain of each of some cores. -/
def drainCores (r : Region) : List Nat → State → State
  | [], s => s
  | c :: t, s => drainCores r t (drainCore r c s)

/-- A flit on a wire within the region whose path does not lead out of it. -/
def innerWire (s : State) (r : Region) (y : Wire) : Bool :=
  inRegion s r y.core && y.inp != .l &&
    (match neighbour y.core y.inp with | some d => inRegion s r d | none => false) && !leaves s y.core y.ch y.flit

/-- Discard flits on wires, returning the credits of the queues that they were to enter. -/
def discardWires : List Wire → State → State
  | [], s => s
  | y :: t, s => discardWires t (returnCredit y.core y.ch y.inp (takeWire y s))

/-- A region lies within another. -/
def within (s : State) (a b : Region) : Bool :=
  match a, b with
  | .core c, r => inRegion s r c
  | .cluster k, .cluster j => k == j
  | .cluster k, .partition p => partOfCluster s k == p
  | .partition p, .partition q => p == q
  | _, _ => false

/-- A reset at the same level or above covers the region (Table 13.5). -/
def covered (s : State) (r : Region) : Bool := s.resets.any fun x => within s r x.region

/-- Start a reset (R377 stages 1 to 3); resets within its region end with it (Table 13.5). -/
def startReset (r : Region) (keepP : Bool) (s : State) : State :=
  let s := { s with resets := (s.resets.filter fun x => !within s x.region r) ++ [⟨r, s.now, false, keepP⟩] }
  let s := drainCores r (regionCores s r) s
  discardWires (s.fab.wires.filter (innerWire s r)) s

/-- A core or cluster reset is permitted now (R376). -/
def lowResetOk (s : State) (p : Nat) : Bool :=
  !armed s && ((part s p).st == 0 || (part s p).st == 2 || (part s p).st == 4)

/-- CORE PAGE_CTL.reset. -/
def coreResetReq (c : Nat) (s : State) : State :=
  if covered s (.core c) then s
  else if lowResetOk s (partOf s c) then startReset (.core c) false s
  else raiseCe 5 c 12 0 s

/-- CORE PAGE_CTL.freeze and reset in one write: in a RUNNING partition the request is held (R376). Of a core in reset both
are ignored (Table 13.5). -/
def coreFreezeReset (c : Nat) (s : State) : State :=
  if covered s (.core c) then s
  else
    let s := modCore c (freezeCore s.now) s
    if (part s (partOf s c)).st = 1 then modCore c (fun x => { x with resetHeld := true }) s else coreResetReq c s

/-- A held core reset, at the tick boundary at which the freeze reaches the partition. -/
def heldReset (c : Nat) (s : State) : State :=
  if (core s c).resetHeld then coreResetReq c (modCore c (fun x => { x with resetHeld := false }) s) else s

/-- CLUSTER PAGE_CTL.reset. -/
def clusterResetReq (k : Nat) (s : State) : State :=
  let p := partOfCluster s k
  if covered s (.cluster k) then s
  else if lowResetOk s p then startReset (.cluster k) false s
  else
    let still := (part s p).st == 0 || (part s p).st == 2 || (part s p).st == 4
    raiseCe 0x15 p 0 (k + 2 ^ 15 * bit01 still) s

/-! ## Spare fills abandoned, restores abandoned (Table 13.5) -/

/-- Spill mode for each of some cores. -/
def spillCores : List Nat → State → State
  | [], s => s
  | c :: t, s => spillCores t (spillRequest c s)

/-- Steps 1 and 2 of a fill (R360): its partition's switches enter spill mode, and once they are empty its column is
remapped (R177). -/
def startFill (s : State) : State :=
  match s.dev.fills with
  | [] => s
  | f :: t =>
    fillRemap (spillCores (regionCores s (.partition (partOfRidge s f.ridge)))
      { s with dev := { s.dev with fills := { f with remapped := false } :: t } })

/-- The spare fills of a partition end; where the first in order was one of them, the next one starts. -/
def dropFills (p : Nat) (s : State) : State :=
  let mine := fun (f : Fill) => partOfRidge s f.ridge == p
  let next := match s.dev.fills with | f :: _ => mine f | [] => false
  let s := { s with dev := { s.dev with fills := s.dev.fills.filter fun f => !mine f } }
  if next then startFill s else s

/-- Raise fill_abandoned of partition p for each of some fills. -/
def raiseAbandoned (p : Nat) : List Fill → State → State
  | [], s => s
  | f :: t, s => raiseAbandoned p t (raiseCe 0x15 p 4 (f.col + 2 ^ 8 * f.ridge) s)

/-- Abandon the spare fills of a partition (Table 13.5): the remap is kept. -/
def abandonFills (p : Nat) (s : State) : State :=
  dropFills p (raiseAbandoned p (s.dev.fills.filter fun f => partOfRidge s f.ridge == p) s)

/-- Remap the columns of some Ridges that have spares enough: their switches hold nothing (R177). -/
def remapEmpty : List Nat → State → State
  | [], s => s
  | n :: t, s => remapEmpty t (if (badRows s (n / 24) (n % 24)).length ≤ 2 then remapCol (n / 24) (n % 24) s else s)

/-- Abandon a restore of a job of the partition. -/
def abandonRestore (p : Nat) (s : State) : State :=
  match s.cairn.restore with
  | some r => if jobsRunIn s r.jobs p then { s with cairn := { s.cairn with restore := none } } else s
  | none => s

/-! ## Partition resets (R378) -/

/-- What a partition reset does in its request cycle outside the cores. -/
def partBegin (p : Nat) (s : State) : State :=
  let s := abandonFills p (abandonRestore p (dropOwned p (abandonPartMoves p s)))
  if p = 0 then endSequences s else s

/-- IDLE, or UNASSIGNED with no active image. -/
def idleCode (s : State) : Nat := if assigned s then 4 else 0

/-- The class-P registers of a partition: its energy account. -/
def dropEnergyPart (p : Nat) (s : State) : State :=
  { s with energy := { s.energy with
      part := sset (fun _ => 0) s.energy.part p 0, partMark := sset (fun _ => 0) s.energy.partMark p 0 } }

/-- Losses of a partition's class-P registers. -/
def energyLoss (s : State) (p : Nat) : List Loss :=
  if sget (fun _ => 0) s.energy.part p = 0 then [] else [⟨0x12, 1, 1 + p⟩]

/-- Return the class-L registers of a region to their reset values, logging the losses at a level (R384). -/
def resetRegion (level : Nat) (r : Region) (extra : List Loss) (s : State) : State :=
  let l := regLosses s (regionHit s r) ++ highLosses s (regionCores s r) ++ extra
  logLosses level l (dropRegs (regionHit s r) s)

/-- Return a partition's class-L registers, and its class-P registers unless they are kept, to their reset values. -/
def partRegs (p level : Nat) (keepP : Bool) (s : State) : State :=
  let s := resetRegion level (.partition p) (if keepP then [] else energyLoss s p) s
  if keepP then s else dropEnergyPart p s

/-- Reset every core and cluster of a partition, and its class-P registers unless they are kept. -/
def partFresh (p level : Nat) (keepSram keepP : Bool) (s : State) : State :=
  freshCores keepSram true (regionCores s (.partition p)) (partRegs p level keepP s)

/-- A partition reset completes: counted, its tick recorded, keep_sram cleared. Its switches are empty, and cores that
failed while a fill of theirs was abandoned are now bypassed (R177, Table 13.5). -/
def partDone (p st : Nat) (s : State) : State :=
  let s := remapEmpty ((partRidges s p).flatMap fun d => (List.range 24).map fun k => 24 * d + k) s
  let s := bump48 0x15 p 0x50 0 1 (some (5, 0)) s
  let s := rset64 (regKey 0x15 p 0x68 0) (tickN s) s
  setPart p { part s p with st := st, move := none, wasFrozen := false } (setReg 0x15 p 0x48 0 s)

/-- PART_CTL.keep_sram. -/
def keepSram (s : State) (p : Nat) : Bool := (reg s 0x15 p 0x48).getLsbD 0

/-- Cycles of the exit from a power state (Table 13.7). -/
def exitCycles (st : Nat) : Nat := if st = 6 then 9400 else if st = 7 then 940000 else 11280000

/-- Cycles of the entry into a target (Table 13.7). -/
def entryCycles (target : Nat) : Nat := if target = 1 then 9400 else if target = 2 then 94000 else 940000

/-- The deepest power state among the Ridges of a partition; 0: every one is Active (R382). -/
def partPower (s : State) (p : Nat) : Nat := (partRidges s p).foldl (fun m d => max m (ridgePower s d)) 0

/-- No Ridge of a partition is in a power state other than Active. -/
def powered (s : State) (p : Nat) : Bool := partPower s p == 0

/-- PART PAGE_CTL.reset: in a power state, or on the way into one, the exit comes first (Table 13.5). -/
def partResetReq (p : Nat) (s : State) : State :=
  let x := part s p
  if (partRidges s p).isEmpty || covered s (.partition p) then s
  else if x.move.isSome then setPart p { x with resetAfter := true } s
  else if powered s p then
    startReset (.partition p) false (setPart p { x with st := 3, wasFrozen := false } (partBegin p s))
  else setPart p { x with resetAfter := true, move := some (0, s.now + exitCycles (partPower s p)) } s

/-! ## Drain and completion (R377, R378) -/

/-- The flits still held in a region. -/
def heldFlits (s : State) (cs : List Nat) : Nat :=
  (cs.map fun c => (((core s c).queues.map fun q => q.2.length).sum)).sum

/-- Discard what a region still holds. -/
def dropHeld : List Nat → State → State
  | [], s => s
  | c :: t, s => dropHeld t (modCore c (fun x => { x with queues := [] }) (returnAll c (core s c) allInputs s))

/-- DRAIN_END. No leaving flit remains, or the window has elapsed: what is held then is discarded and counted. -/
def drainEnd (r : Region) (s : State) : State :=
  match s.resets.find? fun x => x.region == r && !x.drained with
  | none => s
  | some x =>
    let cs := regionCores s r
    let n := heldFlits s cs
    let s := { s with resets := s.resets.map fun y => if y == x then { y with drained := true } else y }
    if n = 0 then s
    else
      let s := dropHeld cs (passTo (x.at_ + drainWindow r) s)
      let p := regionPart s r
      raiseCe 0x15 p 2 (regionLevel r + 2 ^ 8 * min 255 n) (bump48 0x15 p 0x60 0 n (some (5, 2)) s)

/-- RESET_COMPLETE, after the drain. -/
def resetComplete (r : Region) (s : State) : State :=
  match s.resets.find? fun x => x.region == r && x.drained with
  | none => s
  | some x =>
    let s := match r with
      | .partition p => partFresh p 2 (keepSram s p) x.keepP s
      | r => freshCores false false (regionCores s r) (resetRegion (regionLevel r) r [] s)
    let s := { s with resets := s.resets.filter fun y => y != x }
    match r with
    | .partition p => partDone p (idleCode s) s
    | _ => fillRemap s

/-! ## Power states (R383) -/

/-- A fill, or a restore of a job, of the partition is in progress. -/
def recovering (s : State) (p : Nat) : Bool :=
  (s.dev.fills.any fun f => partOfRidge s f.ridge == p) ||
  (match s.cairn.restore with | some r => jobsRunIn s r.jobs p | none => false)

/-- A reset of the partition, or of a region in it, is in progress. -/
def resetWithin (s : State) (p : Nat) : Bool := s.resets.any fun x => within s x.region (.partition p)

/-- A write of PART_PWR.target. -/
def powerRequest (p target : Nat) (s : State) : State :=
  let x := part s p
  let quiet := x.move.isNone && !resetWithin s p && !recovering s p && !(partRidges s p).isEmpty
  let accept := setReg 0x15 p 0x4C (BitVec.ofNat 32 target)
  if quiet && target == 0 && !powered s p then
    accept (setPart p { x with move := some (0, s.now + exitCycles (partPower s p)) } s)
  else if quiet && (x.st == 0 || x.st == 2 || x.st == 4) then
    if target = 0 then accept s else accept (setPart p { x with move := some (target, s.now + entryCycles target) } s)
  else raiseCe 0x15 p 1 (target + 16 * x.st) s

/-- The switches' high-water marks return to 0 (SW_QHIGH, class L). -/
def dropHigh : List Nat → State → State
  | [], s => s
  | c :: t, s => dropHigh t (modCore c (fun x => { x with high := [] }) s)

/-- Entry into a power state: of every Ridge of the partition (R382). -/
def powerEntry (p target : Nat) (s : State) : State :=
  let x := part s p
  let s := setPower (target + 5) (partRidges s p) s
  if target = 1 then setPart p { x with st := 6, move := none, wasFrozen := x.st == 2 } s
  else
    let s := if p = 0 then endSequences s else s
    let s := dropHigh (regionCores s (.partition p)) (partRegs p (target + 3) (target != 3) s)
    setPart p { x with st := target + 5, move := none, wasFrozen := false } s

/-- The cores of a list that lie in a Ridge that is Off. -/
def offCores (s : State) (cs : List Nat) : List Nat := cs.filter fun c => coreOff s c

/-- The microcode store of cores that leave Off: the image that is sent to each by unicast (Table 13.9). -/
def reloadMicrocode (cs : List Nat) (s : State) : State :=
  { s with dev := { s.dev with ucodeOdd := s.dev.ucodeOdd.filter fun e => !cs.contains e.1 } }

/-- Exit from a power state (Table 13.7), as a partition reset where a Ridge leaves Retain or Off. DESIGN CHOICE (log
entry 80): an activation may have joined Ridges of several power states into one partition. Then the deepest one decides,
and only the Ridges that are Off lose their SRAM. -/
def powerExit (p : Nat) (s : State) : State :=
  let x := part s p
  let deep := partPower s p
  let cs := regionCores s (.partition p)
  let off := offCores s cs
  let active := setPower 0 (partRidges s p)
  if deep ≤ 6 then
    active (setPart p { x with st := if x.wasFrozen || x.st == 2 then 2 else idleCode s, move := none, wasFrozen := false } s)
  else
    let s := freshCores true true (cs.filter fun c => !off.contains c) (freshCores false true off
      (reloadMicrocode off (partRegs p 2 (deep == 7) (partBegin p s))))
    active (partDone p (idleCode s) s)

/-- POWER_TRANSITION_DONE. A reset asked for meanwhile follows. -/
def powerDone (p : Nat) (s : State) : State :=
  match (part s p).move with
  | none => s
  | some (target, due) =>
    let s := passTo due s
    let s := if target = 0 then powerExit p s else powerEntry p target s
    if (part s p).resetAfter then
      partResetReq p (setPart p { part s p with resetAfter := !powered s p } s)
    else s

/-! ## Rows -/

/-- CORE_RESET (R376). -/
def execCoreReset (src : Src) (core : Nat) (s : State) : Host.Outcome State Fault Refusal :=
  answer (.coreReset src core) s <|
    coreResetReq core s

/-- CLUSTER_RESET (R376). -/
def execClusterReset (src : Src) (cluster : Nat) (s : State) : Host.Outcome State Fault Refusal :=
  answer (.clusterReset src cluster) s <|
    clusterResetReq cluster s

/-- PARTITION_RESET (R378). -/
def execPartitionReset (src : Src) (part : Nat) (s : State) : Host.Outcome State Fault Refusal :=
  answer (.partitionReset src part) s <|
    partResetReq part s

/-- DRAIN_END (R377). -/
def execDrainEnd (dt : Nat) (region : Region) (s : State) : Host.Outcome State Fault Refusal :=
  answer (.drainEnd dt region) s <|
    drainEnd region (elapse dt s)

/-- RESET_COMPLETE (R378). -/
def execResetComplete (dt : Nat) (region : Region) (s : State) : Host.Outcome State Fault Refusal :=
  answer (.resetComplete dt region) s <|
    resetComplete region (elapse dt s)

/-- POWER_STATE_REQUEST (R383). -/
def execPowerStateRequest (src : Src) (part : Nat) (value : Word) (s : State) : Host.Outcome State Fault Refusal :=
  answer (.powerStateRequest src part value) s <|
    powerRequest part (field value 1 0) s

/-- POWER_TRANSITION_DONE (R383). -/
def execPowerTransitionDone (dt part : Nat) (s : State) : Host.Outcome State Fault Refusal :=
  answer (.powerTransitionDone dt part) s <|
    powerDone part (elapse dt s)

end Sys2Proof.Machine
end

