-- ==== Sys2Proof/Machine/Transcend.lean ====
section
/-! DEFINITION. EXP, LOG, RSQRT, RECIP, TANH and SIGMOID (R145, R435). The special inputs are exact. For every other
input the result is a free value within 2 units in the last place: an opaque offset of `Config` from the rounded
result, used where it keeps the bound (log entry 12). The exact result is taken from a series to more than 60 bits. -/

namespace Sys2Proof.Machine

open Sys2Proof

/-- A positive approximation m·2^e. -/
structure Approx where
  m : Nat
  e : Int
  deriving DecidableEq, Repr

/-- Keep 96 bits of the mantissa. -/
def Approx.trim (a : Approx) : Approx :=
  let l := Nat.log2 a.m
  if l ≤ 96 then a else ⟨a.m / 2 ^ (l - 96), a.e + (l - 96 : Nat)⟩

/-- Quotient of two approximations to more than 96 bits. -/
def Approx.div (a b : Approx) : Approx :=
  if b.m = 0 then a
  else
    let k := 192 + Nat.log2 b.m
    Approx.trim ⟨a.m * 2 ^ k / b.m, a.e - b.e - k⟩

/-- Product. -/
def Approx.mul (a b : Approx) : Approx := Approx.trim ⟨a.m * b.m, a.e + b.e⟩

/-- Sum. -/
def Approx.add (a b : Approx) : Approx :=
  let k := min a.e b.e
  let k := max k (max (flog2 a.m a.e) (flog2 b.m b.e) - 200)
  let f := fun (x : Approx) => if k ≤ x.e then x.m * 2 ^ (x.e - k).toNat else x.m / 2 ^ (k - x.e).toNat
  Approx.trim ⟨f a + f b, k⟩

/-- ln 2 in units of 2^-128. -/
def ln2Fix : Nat := 235865763225513294137944142764154484399

/-- The Taylor sum of (e^r − 1) ÷ r for r in units of 2^-128, terms n down to 1 (Horner). -/
def expTail : Nat → Int → Int → Int
  | 0, _, acc => acc
  | n + 1, r, acc => expTail n r (2 ^ 128 + r * acc / (2 ^ 128 * ((n : Int) + 2)))

/-- e^x for x = v·2^-128. -/
def expFix (v : Int) : Approx :=
  let k := v / ln2Fix
  let r := v - k * ln2Fix
  let s := 2 ^ 128 + r * expTail 32 r (2 ^ 128) / 2 ^ 128
  Approx.trim ⟨s.toNat, k - 128⟩

/-- The fixed-point value in units of 2^-128, towards minus infinity. -/
def toFix (neg : Bool) (m : Nat) (e : Int) : Int :=
  let v : Int := if 0 ≤ e + 128 then ((m * 2 ^ (e + 128).toNat : Nat) : Int) else ((m / 2 ^ (-(e + 128)).toNat : Nat) : Int)
  if neg then -v else v

/-- The sum z + z^3/3 + z^5/5 + … in units of 2^-128, terms n down to 0 (Horner in z²). -/
def atanhTail : Nat → Int → Int → Int
  | 0, _, acc => acc
  | n + 1, z2, acc => atanhTail n z2 (2 ^ 128 / (2 * (n : Int) + 1) + z2 * acc / 2 ^ 128)

/-- Signed approximation of ln (m·2^e), m·2^e > 0: sign and magnitude. -/
def lnApprox (m : Nat) (e : Int) : Bool × Approx :=
  let l := Nat.log2 m
  -- f = m / 2^l in [1, 2); halve it above 1.5 so that ln f is small near 1
  let big := decide (2 * m ≥ 3 * 2 ^ l)
  let l' := if big then l + 1 else l
  let den : Int := (m : Int) + 2 ^ l'
  let num : Int := (m : Int) - 2 ^ l'
  -- relative precision of the series is kept by scaling z by its own magnitude
  let z : Int := num * 2 ^ 128 / den
  let t := atanhTail 60 (z * z / 2 ^ 128) 0
  let small := ((e + l' : Int) == 0)
  if small then
    let a := Approx.mul (Approx.div ⟨num.natAbs, 0⟩ ⟨den.toNat, 0⟩) ⟨t.toNat, -127⟩
    (decide (num < 0), a)
  else
    let v : Int := (e + l') * ln2Fix + 2 * (z * t / 2 ^ 128)
    (decide (v < 0), ⟨v.natAbs, -128⟩)

/-- (e^r − 1) for a small r = m·2^e below 1/2, to full relative precision. -/
def expm1Small (m : Nat) (e : Int) : Approx :=
  Approx.mul ⟨m, e⟩ ⟨(expTail 32 (toFix false m e) (2 ^ 128)).toNat, -128⟩

/-- tanh of m·2^e > 0: (e^2x − 1) ÷ (e^2x + 1). -/
def tanhApprox (m : Nat) (e : Int) : Approx :=
  if flog2 m e ≥ 7 then ⟨2 ^ 96 - 1, -96⟩
  else if flog2 m e < -2 then
    let d := expm1Small m (e + 1)
    Approx.div d (Approx.add d ⟨2, 0⟩)
  else
    let p := expFix (toFix false m (e + 1))
    let one := toFix false 1 0
    let v := toFix false p.m p.e
    Approx.div ⟨(v - one).toNat, -128⟩ ⟨(v + one).toNat, -128⟩

/-- Integer square root of m·2^e to 96 bits: 1 ÷ sqrt. -/
def rsqrtApprox (m : Nat) (e : Int) : Approx :=
  let sh : Nat := if e % 2 = 0 then 200 else 201
  let r := Nat.sqrt (m * 2 ^ sh)
  Approx.div ⟨1, 0⟩ ⟨r, (e - sh) / 2⟩

/-- A result within 2 ulp of ±a, `off` units from the rounded result where that keeps the bound, else the rounded
result (R145). A magnitude above the FP32 range gives the infinity of the sign (R435). -/
def nearUlp (neg : Bool) (a : Approx) (off : Int) : Word :=
  let r := roundFp32 (.fin neg a.m a.e)
  if (num32 r).nonFinite then r
  else
    let c : Int := (r.toNat % 2 ^ 31 : Nat) + off
    if c < 0 ∨ c ≥ 0x7F800000 then r
    else
      let w : Word := BitVec.ofNat 32 (c.toNat + if neg then 2 ^ 31 else 0)
      match decodeFloat fp32 c.toNat with
      | .fin _ m e =>
        let d : Int := sgnMant false m e (min e a.e) - sgnMant false a.m a.e (min e a.e)
        if gtMag d.natAbs (min e a.e) 1 (spacing fp32 a.m a.e + 1) then r else w
      | _ => r

/-- e^-256: below half the least FP32 magnitude, as e^x and 1 ÷ (1 + e^-x) are for every x at or below -256. -/
def expTiny : Approx := expFix (toFix true 1 8)

/-- EXP (R435). -/
def fexp (x : Word) : Word :=
  match num32 x with
  | .nan => 0x7FC00000
  | .inf neg => if neg then 0 else 0x7F800000
  | .fin neg m e =>
    if m = 0 then 0x3F800000
    else if flog2 m e ≥ 8 then (if neg then nearUlp false expTiny (Config.expUlp x) else 0x7F800000)
    else nearUlp false (expFix (toFix neg m e)) (Config.expUlp x)

/-- LOG (R435). -/
def flog (x : Word) : Word :=
  match num32 x with
  | .nan => 0x7FC00000
  | .inf neg => if neg then 0x7FC00000 else 0x7F800000
  | .fin neg m e =>
    if m = 0 then 0xFF800000
    else if neg then 0x7FC00000
    else if x = 0x3F800000 then 0
    else
      let (s, a) := lnApprox m e
      nearUlp s a (Config.logUlp x)

/-- RSQRT (R435). -/
def frsqrt (x : Word) : Word :=
  match num32 x with
  | .nan => 0x7FC00000
  | .inf neg => if neg then 0x7FC00000 else 0
  | .fin neg m e =>
    if m = 0 then (if neg then 0xFF800000 else 0x7F800000)
    else if neg then 0x7FC00000
    else nearUlp false (rsqrtApprox m e) (Config.rsqrtUlp x)

/-- RECIP (R435). -/
def frecip (x : Word) : Word :=
  match num32 x with
  | .nan => 0x7FC00000
  | .inf neg => if neg then 0x80000000 else 0
  | .fin neg m e =>
    if m = 0 then (if neg then 0xFF800000 else 0x7F800000)
    else nearUlp neg (Approx.div ⟨1, 0⟩ ⟨m, e⟩) (Config.recipUlp x)

/-- TANH (R435). -/
def ftanh (x : Word) : Word :=
  match num32 x with
  | .nan => 0x7FC00000
  | .inf neg => if neg then 0xBF800000 else 0x3F800000
  | .fin neg m e => if m = 0 then x else nearUlp neg (tanhApprox m e) (Config.tanhUlp x)

/-- SIGMOID (R435): 1 ÷ (1 + e^−x); just below 1 from x = 256 on. -/
def fsigmoid (x : Word) : Word :=
  match num32 x with
  | .nan => 0x7FC00000
  | .inf neg => if neg then 0 else 0x3F800000
  | .fin neg m e =>
    if m = 0 then 0x3F000000
    else if flog2 m e ≥ 8 then nearUlp false (if neg then expTiny else ⟨2 ^ 96 - 1, -96⟩) (Config.sigmoidUlp x)
    else nearUlp false (Approx.div ⟨1, 0⟩ (Approx.add ⟨1, 0⟩ (expFix (toFix (!neg) m e)))) (Config.sigmoidUlp x)

end Sys2Proof.Machine
end

