-- ==== Sys2Proof/Machine/Vector.lean ====
section
/-! DEFINITION. The vector unit (R100, R145, R435), QCRUMB (R204, R205) and the optimiser routines (R214 to R217). An
instruction's results are formed when it begins and written when it completes (log entry 17). -/

namespace Sys2Proof.Machine

open Sys2Proof

/-! ## Results per element -/

/-- FP32 value of an element of a tile (R145). -/
def elem32 (s : State) (c : Nat) (d : Dword) (e : Nat) : Word := widen32 (dFmt d) (elemOf s c d e)

/-- An FP32 result as its tile takes it. -/
def outFp (s : State) (c : Nat) (o : QOp) (d : Dword) (e : Nat) (v : Word) : ElemOut :=
  elemOut (dFmt d) e (narrowTo (dFmt d) (rndOf s c o d e) v)

/-- An FP32 result narrowed to nearest even. -/
def outFpEven (d : Dword) (e : Nat) (v : Word) : ElemOut := elemOut (dFmt d) e (narrowTo (dFmt d) .even v)

/-- ADD, SUB, MAX, MIN in INT32 (R145). -/
def intOp (op : Nat) (a b : Int) : Int × Bool :=
  clampInt 32 (match op with | 0 => a + b | 1 => a - b | 3 => max a b | _ => min a b)

/-- The FP32 operation of an element-wise op (Table 3.11): A, B, dst and s[sreg]. -/
def fpOp (op : Nat) (a b d sv : Word) : Word :=
  match op with
  | 0x00 => fadd a b
  | 0x01 => fsub a b
  | 0x02 => fmul a b
  | 0x03 => fmax a b
  | 0x04 => fmin a b
  | 0x05 => ffma a b d
  | 0x06 => fmul a sv
  | 0x08 => a
  | 0x09 => fexp a
  | 0x0A => flog a
  | 0x0B => frsqrt a
  | 0x0C => frecip a
  | 0x0D => ftanh a
  | 0x0E => fsigmoid a
  | _ => a

/-- One result of an element-wise op. -/
def elementwise (s : State) (c : Nat) (o : QOp) (e : Nat) : ElemOut :=
  let w := o.word
  let op := iOp w
  let da := opDesc o (vecA w)
  let db := opDesc o (vecB w)
  let dd := opDesc o (vecDst w)
  if (op = 0 ∨ op = 1 ∨ op = 3 ∨ op = 4) ∧ dFmt da = 0xA ∧ dFmt db = 0xA ∧ dFmt dd = 0xA then
    let r := intOp op (signed 32 (elemOf s c da e)) (signed 32 (elemOf s c db e))
    elemOut 0xA e ⟨toBits 32 r.1, r.2, false⟩
  else
    outFp s c o dd e (fpOp op (elem32 s c da e) (if vecUsesB op then elem32 s c db e else 0)
      (if op = 5 then elem32 s c dd e else 0) o.scalar)

/-! ## Reductions -/

/-- One level of the fixed tree: adjacent pairs, an odd last member passing up unchanged (R100). -/
def treeLevel (f : Word → Word → Word) : List Word → List Word
  | a :: b :: t => f a b :: treeLevel f t
  | l => l

/-- The tree over up to 64 members: six levels. -/
def treeReduce (f : Word → Word → Word) (l : List Word) : Word :=
  ((List.range 6).foldl (fun l _ => treeLevel f l) l).headD 0

/-- Result g of RSUM or RMAX. -/
def reduceGroup (s : State) (c : Nat) (o : QOp) (g : Nat) : ElemOut :=
  let da := opDesc o (vecA o.word)
  let n := min 64 (dElems da - 64 * g)
  let vs := (List.range n).map fun i => elem32 s c da (64 * g + i)
  outFp s c o (opDesc o (vecDst o.word)) g (treeReduce (if iOp o.word = 0x10 then fadd else fmax) vs)

/-! ## QCRUMB (R204) -/

/-- The results of one block: the elements of dst, the scale byte, the crumbs. -/
def qcrumbBlock (s : State) (c : Nat) (o : QOp) (j : Nat) : List ElemOut × ElemOut × List ElemOut :=
  let w := o.word
  let da := opDesc o (vecA w)
  let db := opDesc o (vecB w)
  let dd := opDesc o (vecDst w)
  let vs := (List.range 32).map fun i => fadd (elem32 s c da (32 * j + i)) (elem32 s c db (32 * j + i))
  let e := blockScale 15 (vs.map num32)
  let q := vs.zipIdx.map fun p =>
    (p.1, 32 * j + p.2, narrowFloat e5m2 (rndOf s c o dd (32 * j + p.2)) (Num.scale (127 - (e : Int)) (num32 p.1)))
  let decoded := fun (n : Narrowed) => Num.scale ((e : Int) - 127) (decodeFloat e5m2 n.bits)
  (q.map fun p => ⟨p.2.1, p.2.2.bits, p.2.2.saturated, p.2.2.nonFinite, if p.2.2.nonFinite then none else (decoded p.2.2).flog2?⟩,
   ⟨j, e, false, false, none⟩,
   q.map fun p =>
     if (num32 p.1).nonFinite || (decodeFloat e5m2 p.2.2.bits).nonFinite then elemOut 1 p.2.1 ⟨0, false, false⟩
     else elemOut 1 p.2.1 (narrowFloat bf16 .even ((num32 p.1).add (decoded p.2.2).neg)))

/-- All results of a QCRUMB. DESIGN CHOICE (log entry 74): the monitor does not count the scale bytes, which R205 does not
list. -/
def qcrumbOuts (s : State) (c : Nat) (o : QOp) : List TileOut :=
  let w := o.word
  let bs := (List.range (dElems (opDesc o (vecA w)) / 32)).map (qcrumbBlock s c o)
  [ ⟨vecDst w, opDesc o (vecDst w), bs.flatMap (·.1), true⟩,
    ⟨vecDst w + 1, opDesc o (vecDst w + 1), bs.map (·.2.1), false⟩,
    ⟨vecB w, opDesc o (vecB w), bs.flatMap (·.2.2), true⟩ ]

/-! ## Optimiser routines (R216) -/

/-- sqrt(x) of R216; −0 and negative values are left open (log entry 18). -/
def fsqrt (x : Word) : Word :=
  if (num32 x).isZero && !x.getLsbD 31 then 0
  else if num32 x = .nan then 0x7FC00000
  else if x.getLsbD 31 then Config.sqrtOther x
  else fmul x (frsqrt x)

/-- a ÷ b of R216. -/
def fdiv (a b : Word) : Word := fmul a (frecip b)

/-- sign(x) of R216. -/
def fsign (x : Word) : Word :=
  if num32 x = .nan ∨ (num32 x).isZero then x else if x.getLsbD 31 then 0xBF800000 else 0x3F800000

/-- FP32 one. -/
def fone : Word := 0x3F800000

/-- The new moments and weight of one element: gradient, weight, first and second moment, hyperparameters h. -/
def optimise (imm : Nat) (ga w m v : Word) (h : Nat → Word) : Word × Word × Word :=
  let g := fmul (h 7) ga
  match imm with
  | 1 =>
    let g := fadd g (fmul (h 4) w)
    let b := fadd (fmul (h 8) m) (fmul (fsub fone (h 9)) g)
    let d := if (num32 (h 10)).isZero then b else fadd g (fmul (h 8) b)
    (b, v, fsub w (fmul (h 0) d))
  | 2 =>
    let m := fadd (fmul (h 1) m) (fmul (fsub fone (h 1)) g)
    let v := fadd (fmul (h 2) v) (fmul (fsub fone (h 2)) (fmul g g))
    let w := fsub w (fmul (fmul (h 0) (h 4)) w)
    (m, v, fsub w (fdiv (fmul (h 0) (fmul (h 5) m)) (fadd (fsqrt (fmul (h 6) v)) (h 3))))
  | _ =>
    let cc := fadd (fmul (h 1) m) (fmul (fsub fone (h 1)) g)
    let w := fsub w (fmul (h 0) (fadd (fsign cc) (fmul (h 4) w)))
    (fadd (fmul (h 2) m) (fmul (fsub fone (h 2)) g), v, w)

/-- All results of a UCALL: master weights, moments, working weights. -/
def ucallOuts (s : State) (c : Nat) (o : QOp) : List TileOut :=
  let w := o.word
  let ms := ucallMoments w o.scalar
  let dm := opDesc o (ms.getD 0 0)
  let dv := opDesc o (ms.getD 1 0)
  let dh := opDesc o (ucallHyper o.scalar)
  let da := opDesc o (vecA w)
  let db := opDesc o (vecB w)
  let dd := opDesc o (vecDst w)
  let rs := (List.range (dElems da)).map fun e =>
    (e, optimise (vecImm w) (elem32 s c da e) (elem32 s c db e) (elem32 s c dm e)
      (if ms.length = 2 then elem32 s c dv e else 0) (elem32 s c dh))
  [ ⟨vecB w, db, rs.map fun r => outFpEven db r.1 r.2.2.2, true⟩,
    ⟨ms.getD 0 0, dm, rs.map fun r => outFpEven dm r.1 r.2.1, true⟩ ] ++
  (if ms.length = 2 then [⟨ms.getD 1 0, dv, rs.map fun r => outFpEven dv r.1 r.2.2.1, true⟩] else []) ++
  [ ⟨vecDst w, dd, rs.map fun r => outFp s c o dd r.1 r.2.2.2, true⟩ ]

/-! ## Begin and completion -/

/-- The results of a vector instruction. -/
def vecOuts (s : State) (c : Nat) (o : QOp) : List TileOut :=
  let w := o.word
  let op := iOp w
  let e := dElems (opDesc o (vecA w))
  if op = 0x21 then qcrumbOuts s c o
  else if op = 0x20 then ucallOuts s c o
  else if op = 0x10 ∨ op = 0x11 then
    [⟨vecDst w, opDesc o (vecDst w), (List.range (ceilDiv e 64)).map (reduceGroup s c o), true⟩]
  else [⟨vecDst w, opDesc o (vecDst w), (List.range e).map (elementwise s c o), true⟩]

/-- Cycles for which the unit is occupied (R100, R205, Table 7.6). -/
def vecOccupancy (o : QOp) : Nat :=
  let w := o.word
  let e := dElems (opDesc o (vecA w))
  if iOp w = 0x21 then e / 32
  else if iOp w = 0x20 then (match vecImm w with | 1 => 6 | 2 => 12 | _ => 7) * ceilDiv e 64
  else ceilDiv e 64

/-- Latency after the last input cycle (Table 3.11, R205, Table 7.6). -/
def vecLatency (w : Dword) : Nat :=
  let op := iOp w
  if op = 0x21 then 10
  else if op = 0x20 then (if vecImm w = 2 then 40 else 24)
  else if op = 0x10 ∨ op = 0x11 then 8
  else if 0x09 ≤ op ∧ op ≤ 0x0E then 14
  else 6

/-- Tiles whose validity a UCALL checks as it begins (R217). -/
def ucallNeeds (o : QOp) : List Nat :=
  if iOp o.word = 0x20 then ucallMoments o.word o.scalar ++ [ucallHyper o.scalar] else []

/-- VEC_BEGIN. The vector unit takes the instruction at the head of its queue, from the cycle after its issue on, once
it has taken the last input of the one before it. -/
def vecBegin (c : Nat) (eccs : List Ecc) (s : State) : State :=
  let x := core s c
  let t := s.now
  match x.vecQ with
  | [] => s
  | o :: rest =>
    if coreHalted s c || decide (t < max (o.issuedAt + 1) x.vecFree) then s
    else if !(ucallNeeds o).all (tagSeen x t) then coreSlip c 5 o.origin 2 s
    else
      let occ := vecOccupancy o
      let run : VecRun := ⟨o, t + occ - 1 + vecLatency o.word, if anyWithheld eccs then [] else vecOuts (coreSees s) c o, anyWithheld eccs⟩
      sramChecks c eccs (setCore c { x with vecQ := rest, vecs := x.vecs ++ [run], vecFree := t + occ } s)

/-- The run that completes next: the least completion cycle, the oldest of those. -/
def nextVec : List VecRun → Option VecRun
  | [] => none
  | r :: t =>
    match nextVec t with
    | none => if r.stopped then none else some r
    | some q => if r.stopped || decide (q.due < r.due) then some q else some r

/-- Lane cycles charged (Table 14.2 class 3): one for each element in each cycle the routine spends on it. -/
def vecLanes (o : QOp) : Nat :=
  let w := o.word
  let e := dElems (opDesc o (vecA w))
  if iOp w = 0x20 then (match vecImm w with | 1 => 6 | 2 => 12 | _ => 7) * e else e

/-- Core SRAM line accesses charged: lines of the tiles read and of those written. -/
def vecAccesses (o : QOp) : Nat :=
  let w := o.word
  let op := iOp w
  let ln := fun tag => dLines (opDesc o tag)
  let src := ((vecSources w) ++ ucallNeeds o).foldl (fun a t => a + ln t) 0
  let dst :=
    if op = 0x10 ∨ op = 0x11 then
      ceilDiv (ceilDiv (dElems (opDesc o (vecA w))) 64 * fmtWidth (dFmt (opDesc o (vecDst w)))) 512
    else (writeTags w o.scalar).foldl (fun a t => a + ln t) 0
  src + dst

/-- Tags that a vector instruction releases. DESIGN CHOICE (log entry 85): relB of an op that uses no srcB releases nothing. -/
def vecReleases (w : Dword) : List Nat :=
  (if vecRelA w then [vecA w] else []) ++ (if vecRelB w && vecUsesB (iOp w) then [vecB w] else [])

/-- VEC_COMPLETE. The results of the instruction that completes next are written, the valid bits of the tiles it wrote
are set, and its sources are released (R93, R100, R205). -/
def vecComplete (c : Nat) (bank : BankEvents) (s : State) : State :=
  let x := core s c
  match nextVec x.vecs with
  | none => s
  | some r =>
    if coreInReset s c then s
    else
      let b := bankCount userOfVec bank
      let t := r.due + b.retries
      let o := r.op
      let s := writeTiles c r.outs (noteTiles c (r.outs.map (·.desc)) (countBanks c b (passTo t s)))
      let s := charge (iJob o.word) 3 (vecLanes o) (charge (iJob o.word) 4 (vecAccesses o) s)
      modCore c (fun x =>
        let x := setTags t (r.outs.map (·.tag)) { noteRing t x with vecs := eraseFirst (fun q => q == r) x.vecs }
        retireSlots (clearTags t (vecReleases o.word) x)) s

/-! ## Rows -/

/-- ADD (R145). -/
def execAdd (dt core : Nat) (st : Stream) (ecc : Ecc) (s : State) : Host.Outcome State Fault Refusal :=
  answer (.add dt core st ecc) s <|
    issue 2 0x00 core st ecc (elapse dt s)

/-- SUB (R145). -/
def execSub (dt core : Nat) (st : Stream) (ecc : Ecc) (s : State) : Host.Outcome State Fault Refusal :=
  answer (.sub dt core st ecc) s <|
    issue 2 0x01 core st ecc (elapse dt s)

/-- MUL (R145). -/
def execMul (dt core : Nat) (st : Stream) (ecc : Ecc) (s : State) : Host.Outcome State Fault Refusal :=
  answer (.mul dt core st ecc) s <|
    issue 2 0x02 core st ecc (elapse dt s)

/-- MAX (R145). -/
def execMax (dt core : Nat) (st : Stream) (ecc : Ecc) (s : State) : Host.Outcome State Fault Refusal :=
  answer (.max dt core st ecc) s <|
    issue 2 0x03 core st ecc (elapse dt s)

/-- MIN (R145). -/
def execMin (dt core : Nat) (st : Stream) (ecc : Ecc) (s : State) : Host.Outcome State Fault Refusal :=
  answer (.min dt core st ecc) s <|
    issue 2 0x04 core st ecc (elapse dt s)

/-- FMA (R145). -/
def execFma (dt core : Nat) (st : Stream) (ecc : Ecc) (s : State) : Host.Outcome State Fault Refusal :=
  answer (.fma dt core st ecc) s <|
    issue 2 0x05 core st ecc (elapse dt s)

/-- SCL (R145). -/
def execScl (dt core : Nat) (st : Stream) (ecc : Ecc) (s : State) : Host.Outcome State Fault Refusal :=
  answer (.scl dt core st ecc) s <|
    issue 2 0x06 core st ecc (elapse dt s)

/-- CVT (R146). -/
def execCvt (dt core : Nat) (st : Stream) (ecc : Ecc) (s : State) : Host.Outcome State Fault Refusal :=
  answer (.cvt dt core st ecc) s <|
    issue 2 0x08 core st ecc (elapse dt s)

/-- EXP (R435). -/
def execExp (dt core : Nat) (st : Stream) (ecc : Ecc) (s : State) : Host.Outcome State Fault Refusal :=
  answer (.exp dt core st ecc) s <|
    issue 2 0x09 core st ecc (elapse dt s)

/-- LOG (R435). -/
def execLog (dt core : Nat) (st : Stream) (ecc : Ecc) (s : State) : Host.Outcome State Fault Refusal :=
  answer (.log dt core st ecc) s <|
    issue 2 0x0A core st ecc (elapse dt s)

/-- RSQRT (R435). -/
def execRsqrt (dt core : Nat) (st : Stream) (ecc : Ecc) (s : State) : Host.Outcome State Fault Refusal :=
  answer (.rsqrt dt core st ecc) s <|
    issue 2 0x0B core st ecc (elapse dt s)

/-- RECIP (R435). -/
def execRecip (dt core : Nat) (st : Stream) (ecc : Ecc) (s : State) : Host.Outcome State Fault Refusal :=
  answer (.recip dt core st ecc) s <|
    issue 2 0x0C core st ecc (elapse dt s)

/-- TANH (R435). -/
def execTanh (dt core : Nat) (st : Stream) (ecc : Ecc) (s : State) : Host.Outcome State Fault Refusal :=
  answer (.tanh dt core st ecc) s <|
    issue 2 0x0D core st ecc (elapse dt s)

/-- SIGMOID (R435). -/
def execSigmoid (dt core : Nat) (st : Stream) (ecc : Ecc) (s : State) : Host.Outcome State Fault Refusal :=
  answer (.sigmoid dt core st ecc) s <|
    issue 2 0x0E core st ecc (elapse dt s)

/-- RSUM (R100). -/
def execRsum (dt core : Nat) (st : Stream) (ecc : Ecc) (s : State) : Host.Outcome State Fault Refusal :=
  answer (.rsum dt core st ecc) s <|
    issue 2 0x10 core st ecc (elapse dt s)

/-- RMAX (R100). -/
def execRmax (dt core : Nat) (st : Stream) (ecc : Ecc) (s : State) : Host.Outcome State Fault Refusal :=
  answer (.rmax dt core st ecc) s <|
    issue 2 0x11 core st ecc (elapse dt s)

/-- UCALL (R216). -/
def execUcall (dt core : Nat) (st : Stream) (ecc : Ecc) (s : State) : Host.Outcome State Fault Refusal :=
  answer (.ucall dt core st ecc) s <|
    issue 2 0x20 core st ecc (elapse dt s)

/-- QCRUMB (R204). -/
def execQcrumb (dt core : Nat) (st : Stream) (ecc : Ecc) (s : State) : Host.Outcome State Fault Refusal :=
  answer (.qcrumb dt core st ecc) s <|
    issue 2 0x21 core st ecc (elapse dt s)

/-- VEC_BEGIN (R100). -/
def execVecBegin (dt core : Nat) (eccs : List Ecc) (s : State) : Host.Outcome State Fault Refusal :=
  answer (.vecBegin dt core eccs) s <|
    vecBegin core eccs (elapse dt s)

/-- VEC_COMPLETE (R100). -/
def execVecComplete (core : Nat) (bank : BankEvents) (s : State) : Host.Outcome State Fault Refusal :=
  answer (.vecComplete core bank) s <|
    vecComplete core bank s

end Sys2Proof.Machine
end

