-- ==== Sys2Proof/Machine/Recovery.lean ====
section
/-! DEFINITION. Capture and sealing of Cairns, restore and replay, pair messages and divergence, spare fills, and stream
keys (12_pairing_and_recovery.md). -/

namespace Sys2Proof.Machine

open Sys2Proof

/-! ## The core latch (R341, Table 12.2); its format is the model's (log entry 22) -/

/-- Code of a ring slot's state. -/
def slotStCode : SlotSt → Nat
  | .free => 0 | .filling => 1 | .current => 2 | .old => 3

/-- State of a ring slot by its code. -/
def slotStOf (n : Nat) : SlotSt := if n = 0 then .free else if n = 1 then .filling else if n = 2 then .current else .old

/-- A ring slot in 4 bytes. -/
def slotWord (y : RingSlot) : Nat :=
  y.tag + 2 ^ 9 * slotStCode y.st + 2 ^ 11 + 2 ^ 16 * y.ver.toNat + 2 ^ 24 * y.readers

/-- A stamp register in 4 bytes. -/
def stampWord (y : Stamp) : Nat := y.ring + 2 ^ 6 * y.tag + 2 ^ 15 * y.ver.toNat + 2 ^ 31

/-- A steering token in 4 bytes. -/
def tokenWord (f : Flit) : Nat :=
  f.route.toNat + 2 ^ 6 * f.colour.toNat + 2 ^ 8 * bit01 f.isSeal + 2 ^ 9 * bit01 f.last +
    2 ^ 10 * (match f.job with | some j => j + 1 | none => 0) + 2 ^ 16 * (f.payload.toNat % 256)

/-- A steering token from its 4 bytes. -/
def tokenOfWord (n : Nat) : Flit :=
  ⟨if bitsOf n 13 10 = 0 then none else some (bitsOf n 13 10 - 1), BitVec.ofNat 6 n, BitVec.ofNat 2 (n / 2 ^ 6), bitOf n 8,
   bitOf n 9, BitVec.ofNat 512 (bitsOf n 23 16)⟩

/-- A steering unit in 24 bytes: flits left, queued tokens, the current token and the queue. -/
def unitBytes (x : Core) (u : Nat) : List Byte :=
  let q := tokQueue x u
  let cur := match steerTok x u with
    | some k => leBytes 2 k.left ++ leBytes 2 q.length ++ leBytes 4 (tokenWord k.token)
    | none => leBytes 2 0 ++ leBytes 2 q.length ++ leBytes 4 0
  (cur ++ (q.map fun f => leBytes 4 (tokenWord f)).flatten ++ List.replicate 16 0).take 24

/-- The member slots of a ring in 16 bytes. -/
def ringBytes (x : Core) (n : Nat) : List Byte :=
  (((x.slots.filter fun (y : RingSlot) => y.ring == n).map fun (y : RingSlot) => leBytes 4 (slotWord y)).flatten ++ List.replicate 16 0).take 16

/-- The 2 KiB that a core latches: rings, their last tags, stamps, steering units. -/
def latchBytes (x : Core) : List Byte :=
  let rings := ((List.range 64).map (ringBytes x)).flatten
  let lasts := (List.range 64).map fun n => sget (fun _ => (0xFF : Byte)) x.ringLast n
  let stamps := ((List.range 16).map fun i =>
    leBytes 4 (match stampOf x i with | some y => stampWord y | none => 0)).flatten
  let units := ((List.range 8).map (unitBytes x)).flatten
  (rings ++ lasts ++ stamps ++ units ++ List.replicate 2048 0).take 2048

/-- A little-endian field of a byte list. -/
def bytesNat (b : List Byte) (o n : Nat) : Nat := leNat ((b.drop o).take n)

/-- The member slot in 4 bytes of ring n. -/
def slotOfWord (ring n : Nat) : Option RingSlot :=
  if bitOf n 11 then some ⟨bitsOf n 8 0, ring, slotStOf (bitsOf n 10 9), BitVec.ofNat 8 (n / 2 ^ 16), bitsOf n 31 24⟩ else none

/-- The stamp register in 4 bytes. -/
def stampOfWord (i n : Nat) : Option Stamp :=
  if bitOf n 31 then some ⟨i, bitsOf n 5 0, bitsOf n 14 6, BitVec.ofNat 8 (n / 2 ^ 15)⟩ else none

/-- The current token of a unit as latched. -/
def steerOfBytes (b : List Byte) (u : Nat) : Option SteerTok :=
  let o := 1152 + 24 * u
  if bytesNat b o 2 = 0 then none else some ⟨u, tokenOfWord (bytesNat b (o + 4) 4), bytesNat b o 2⟩

/-- The token queue of a unit as latched. -/
def queueOfBytes (b : List Byte) (u : Nat) : List Flit :=
  let o := 1152 + 24 * u
  (List.range (min 4 (bytesNat b (o + 2) 2))).map fun k => tokenOfWord (bytesNat b (o + 8 + 4 * k) 4)

/-- Write a latch back into a core. -/
def unlatch (b : List Byte) (x : Core) : Core :=
  { x with
    slots := (List.range 256).filterMap fun k => slotOfWord (k / 4) (bytesNat b (4 * k) 4),
    ringLast := putFrom 0xFF 0 ((b.drop 1024).take 64) [],
    stamps := (List.range 16).filterMap fun i => stampOfWord i (bytesNat b (1088 + 4 * i) 4),
    steer := (List.range 8).filterMap (steerOfBytes b),
    tokQ := putFrom [] 0 ((List.range 8).map (queueOfBytes b)) [] }

/-! ## Capture (R341, R353) -/

/-- Split bytes into lines; `n` bounds them. -/
def linesOf : Nat → List Byte → List (List Byte)
  | 0, _ => []
  | n + 1, b => if b.isEmpty then [] else (b ++ List.replicate 64 0).take 64 :: linesOf n (b.drop 64)

/-- Write bytes from any address; `n` bounds the lines. -/
def putSpan : Nat → Nat → List Byte → State → State
  | 0, _, _, s => s
  | n + 1, a, b, s =>
    if b.isEmpty then s
    else
      let k := 64 - a % 64
      putSpan n (a + k) (b.drop k) (putPhysBytes a (b.take k) s)

/-- J of a job. -/
def jobJ (s : State) (j : Nat) : Dword := sget (fun _ => (0 : Dword)) s.jobFrames j

/-- The last loss record read of a job: step and loss. -/
def lossOf (s : State) (j : Nat) : Dword × Word := sget (fun _ => ((0 : Dword), (0 : Word))) s.cairn.loss j

/-- Streams in T7 mode, rising. -/
def t7Streams (s : State) : List (Nat × RngSt) := s.rng.filter fun e => e.2.t7

/-- The jobs of the active image. -/
def imageJobs (s : State) : BitVec 8 :=
  match s.sched.active with
  | some im => BitVec.ofNat 8 ((im.jobs.map fun (b : Job) => 2 ^ b.id).sum)
  | none => 0

/-- A queued join in 8 bytes. -/
def joinBytes (j : JoinReq) : List Byte := leBytes 8 (j.entry % 2 ^ 15 + 2 ^ 15 * j.len + 2 ^ 28 * j.hub)

/-- The sequence bitmap: entries JOINING or LIVE. -/
def seqBitmap (s : State) : List Byte :=
  let on := ((mapEntries s).filter fun e => e.2.st == 2 || e.2.st == 3).map (·.1)
  (List.range 4096).map fun k =>
    BitVec.ofNat 8 (((on.filter fun e => e / 8 == k).map fun (e : Nat) => 2 ^ (e % 8)).sum)

/-- SERVE counter 6. -/
def joinsDeferred (s : State) : Nat :=
  let k := regKey 0xE 0 0x8C 6
  (rget s k).toNat + 2 ^ 32 * field (rget s (k + 4)) 15 0

/-- The 8 KiB header of Table 12.2 at a capture. -/
def headerBytes (s : State) (slot : Nat) : List Byte :=
  let id := match s.sched.active with | some im => im.id.toNat | none => 0
  let t7 := t7Streams s
  let mode := if t7.isEmpty then 0 else 2
  let jobs := ((List.range 8).map fun j =>
    if (imageJobs s).getLsbD j then leBytes 8 (jobJ s j).toNat ++ leBytes 8 (lossOf s j).1.toNat ++ List.replicate 16 0
    else List.replicate 32 0).flatten
  let joins := ((s.serve.joinQ.take 256).map joinBytes).flatten
  let j0 := ((List.range 8).map fun j =>
    leBytes 8 (if t7.isEmpty then 0 else (sget (fun _ => (0 : Dword)) s.jobBase j).toNat)).flatten
  leBytes 4 0x4E524143 ++ leBytes 1 mode ++ leBytes 1 (imageJobs s).toNat ++ [0, 0] ++
    leBytes 8 (rget64 s (regKey 0x17 0 0x4C 0)).toNat ++ leBytes 8 id ++ leBytes 8 (tickN s).toNat ++
    leBytes 4 s.energy.trainPos ++ leBytes 4 (Config.reinstatements id slot).toNat ++
    leBytes 8 (rget64 s (regKey 0xE 0 0x80 0)).toNat ++ List.replicate 16 0 ++ jobs ++
    leBytes 4 (min 256 s.serve.joinQ.length) ++ leBytes 4 0 ++ leBytes 8 (joinsDeferred s) ++
    (joins ++ List.replicate 2048 0).take 2048 ++ j0 ++ leBytes 4 t7.length ++ List.replicate 1644 0 ++ seqBitmap s

/-- The carried records of R353. -/
def carriedBytes (s : State) : List Byte :=
  ((t7Streams s).map fun e =>
    leBytes 2 e.1 ++ List.replicate 14 0 ++ leBytes 16 e.2.base.toNat ++ leBytes 16 e.2.key.toNat).flatten

/-- The latches of every core; those of an idle core, which holds nothing, are not listed. -/
def allLatches (s : State) : List (Nat × List Byte) :=
  let idle := latchBytes Core.reset
  s.cores.filterMap fun e => let b := latchBytes e.2; if b = idle then none else some (e.1, b)

/-- A slot is the target of a restore in progress. -/
def restoring (s : State) (slot : Nat) : Bool :=
  match s.cairn.restore with | some r => r.slot == slot | none => false

/-- The frame boundary that the device stands at is a capture boundary for a slot (R341). -/
def captureDue (s : State) (i : Nat) : Bool :=
  let pos := reg s 0x17 0 (0x54 + 4 * i)
  (reg s 0x17 0 8).getLsbD 0 && assigned s && !s.energy.deferred && pos.getLsbD 12 &&
    field pos 11 0 == s.energy.trainPos && s.energy.periods % (field pos 31 16 + 1) == 0 && !restoring s i

/-- Capture a Cairn: the slot becomes OPEN (R341). A capture in progress in it ends (R342). -/
def capture (i : Nat) (s : State) : State :=
  let s := voidCaptures 1 (s.cairn.captures.filter (·.slot == i)) s
  let c : Capture := ⟨i, imageJobs s, frameNo s, tickN s, [], 0, allLatches s, 0⟩
  let a := cairnAddr s i
  let carried := carriedBytes s
  let at_ := a + (Config.streamRecords (rget64 s (regKey 0x17 0 0x4C 0)).toNat (t7Streams s).length).toNat
  let s := putSpan (carried.length / 64 + 2) at_ carried (putPhysLines a (linesOf 128 (headerBytes s i)) s)
  { s with cairn := { s.cairn with captures := s.cairn.captures ++ [c],
                                   matched := sset (fun _ => false) s.cairn.matched i false } }

/-- The captures of a frame boundary. -/
def captures (s : State) : State := (List.range 4).foldl (fun s i => if captureDue s i then capture i s else s) s

/-! ## Sealing (R342, R343) -/

/-- Write the core part of a slot from the latches. -/
def writeCorePart (i : Nat) (l : List (Nat × List Byte)) (s : State) : State :=
  let a := cairnAddr s i + corePart (slotField s i 0x24 4)
  let idle := latchBytes Core.reset
  (List.range 9216).foldl (fun s c => putPhysLines (a + 2048 * c) (linesOf 32 (sget (fun _ => idle) l c)) s) s

/-- Everything that sealing waits for has come about. -/
def sealReady (s : State) (c : Capture) : Bool :=
  c.waiting.isEmpty && (trainingOf s c.jobs).all fun j => c.stamped.getLsbD j

/-- CAIRN_SEAL. -/
def cairnSeal (i : Nat) (s : State) : State :=
  match s.cairn.captures.find? (·.slot == i) with
  | none => s
  | some c =>
    if !sealReady s c then s
    else
      let a := cairnAddr s i
      let s := writeCorePart i c.latches s
      let d := headDigest s i ^^^ c.digest
      let s := putPhysBytes (a + 6) [1] (putPhysBytes (a + 0x30) (leBytes 8 d.toNat) s)
      let s := { s with cairn := { s.cairn with captures := s.cairn.captures.filter (·.slot != i) } }
      let s := bump48 0x17 0 0x9C 0 1 (some (4, 0)) s
      let s := logEvent 0x0020 0x17 0 0 ([BitVec.ofNat 8 i, 0, 0, 0] ++ leBytes 8 d.toNat) s
      ownValue ⟨0x13, i, c.tick, d, 0, frameNo s, 0, 0, false⟩ s

/-! ## CAIRN_CMD (R345, R346) -/

/-- CAIRN_CMD VOID. The header line of a SEALED slot is read with the errors `errs` and written with its seal byte at 2; one that
is uncorrectable stays as it is (DESIGN CHOICE, log entry 88). -/
def cairnVoid (i : Nat) (errs : List (Nat × SymErrs)) (s : State) : State :=
  if restoring s i then restoreReject i 8 s
  else
    match s.cairn.captures.find? (·.slot == i) with
    | some c => voidCapture 3 c s
    | none =>
      if slotSt s i = 2 then
        match crestRead [(cairnAddr s i, 1)] errs s with
        | (true, s) => raiseCe 0x17 0 0 (i + 12) (putPhysBytes (cairnAddr s i + 6) [2] s)
        | (false, s) => s
      else s

/-- CAIRN_CMD RESTORE. -/
def cairnRestore (v : Word) (errs : List (Nat × SymErrs)) (s : State) : State :=
  restoreStart (field v 3 2) (BitVec.ofNat 8 (field v 11 4)) errs s

/-- A write of CAIRN_CMD. -/
def cairnCmd (v : Word) (s : State) : State :=
  if field v 1 0 = 1 then cairnRestore v [] s else if field v 1 0 = 2 then cairnVoid (field v 3 2) [] s else s

/-! ## Reinstating (R347, Table 12.3) -/

/-- Place one line of an entry. -/
def reinstPut (e : Reinst) (i : Nat) (d : List Byte) (s : State) : State :=
  match e.core with
  | some (c, tag) => setTileLine c (tileOf (core s c) tag) i (BitVec.ofNat 512 (leNat d)) s
  | none => putPhysLine (e.hbm + 64 * i) d s

/-- Charge one reinstated line to a job (Table 14.1): its HBM read and its bank access on landing, then the bank access that takes
it on, and the write to HBM, or the vertical-port line and the core SRAM line. -/
def chargeReinst (job : Nat) (e : Reinst) (s : State) : State :=
  let s := chargeMove job 9 2 (chargeMove job 10 1 s)
  match e.core with
  | some _ => charge job 4 1 (chargeMove job 8 1 s)
  | none => chargeMove job 11 1 s

/-- The lowest-numbered job of a set, to which what is done for the set is charged (DESIGN CHOICE, log entry 20). -/
def firstJob (jobs : BitVec 8) : Nat := ((List.range 8).find? fun j => jobs.getLsbD j).getD 0

/-- Copy the lines of an entry from line i on; `k` numbers the lines of the whole list, and `errs` gives the errors of
line k. None: a line is uncorrectable. -/
def reinstLines (ps : List Nat) (job : Nat) (errs : List (Nat × SymErrs)) (e : Reinst) : Nat → Nat → Nat → State → Bool × State
  | 0, _, _, s => (true, s)
  | n + 1, i, k, s =>
    match hbmRead (e.src + 64 * i) (lineErrs errs k) (.parts ps) s with
    | (some d, s) => reinstLines ps job errs e n (i + 1) (k + 1) (reinstPut e i d (chargeReinst job e s))
    | (none, s) => (false, s)

/-- Copy every entry. -/
def reinstAll (ps : List Nat) (job : Nat) (errs : List (Nat × SymErrs)) : Nat → List Reinst → State → Bool × State
  | _, [], s => (true, s)
  | k, e :: t, s =>
    match reinstLines ps job errs e e.lines 0 k s with
    | (true, s) => reinstAll ps job errs (k + e.lines) t s
    | (false, s) => (false, s)

/-- The lines of a slot that a restore reads beside those of its entries: the header, the list and the core part. -/
def cairnParts (s : State) (i : Nat) : List (Nat × Nat) :=
  [(cairnAddr s i, corePart (slotField s i 0x24 4) / 64 + 32 * 9216)]

/-- Errors numbered from line k on. -/
def errsFrom (k : Nat) (errs : List (Nat × SymErrs)) : List (Nat × SymErrs) :=
  (errs.filter fun e => decide (k ≤ e.1)).map fun e => (e.1 - k, e.2)

/-- Every line that a restore reads is sound: the entries are copied, and the other parts read (R347). `errs` numbers the lines
of the entries, then those of the other parts. -/
def reinstRead (i : Nat) (ps : List Nat) (job : Nat) (errs : List (Nat × SymErrs)) (s : State) : Bool × State :=
  match crestRead (cairnParts s i) (errsFrom ((reinsts s i).map (·.lines)).sum errs) s with
  | (true, s) => reinstAll ps job errs 0 (reinsts s i) s
  | (false, s) => (false, s)

/-- Write the core part back into each of some cores. -/
def restoreCores (i : Nat) : List Nat → State → State
  | [], s => s
  | c :: t, s =>
    let b := physBytes s (cairnAddr s i + corePart (slotField s i 0x24 4) + 2048 * c) 2048
    restoreCores i t (modCore c (unlatch b) s)

/-- Reset each of some partitions as stage 2 does: core SRAM kept, cores held at their reset exit. -/
def restoreParts : List Nat → State → State
  | [], s => s
  | p :: t, s =>
    restoreParts t (partDone p 5 (partFresh p 2 true false
      (partBegin p (setReg 0x15 p 0x48 (setField (reg s 0x15 p 0x48) 0 0 1) s))))

/-- Set J, and J_0 in modes 1 and 2, of each named job (R347, R353). -/
def restoreJobs (i mode : Nat) : List Nat → State → State
  | [], s => s
  | j :: t, s =>
    let v := BitVec.ofNat 64 (slotField s i (0x40 + 32 * j) 8 + 1)
    let j0 := if mode = 1 then v else BitVec.ofNat 64 (slotField s i (0x950 + 8 * j) 8)
    restoreJobs i mode t
      { s with jobFrames := sset (fun _ => 0) s.jobFrames j v,
               jobBase := if mode = 0 then s.jobBase else sset (fun _ => 0) s.jobBase j j0 }

/-- Set the streams that a mode-2 Cairn carries (R353). -/
def restoreStreams (i : Nat) : List Nat → State → State
  | [], s => s
  | k :: t, s =>
    let base := (Config.streamRecords (slotField s i 8 8) (slotField s i 0x990 4)).toNat
    let n := leNat (physBytes s (cairnAddr s i + base + 48 * k) 48)
    let x := rngOf s (bitsOf n 15 0 % 4096)
    restoreStreams i t
      (setRng (bitsOf n 15 0 % 4096) { x with key := BitVec.ofNat 128 (n / 2 ^ 256), base := BitVec.ofNat 128 (n / 2 ^ 128),
                                              t7 := true, keySet := true } s)

/-- Enqueue a join with no history, or one of the Cairn's join queue, where its entry exists (R348). -/
def enqueueJoin (entry len hub : Nat) (s : State) : State :=
  match mapEntry s entry with
  | none => s
  | some e =>
    modServe (fun v => { v with joinQ := v.joinQ ++ [⟨entry, hub, len, false⟩], joined := v.joined ++ [entry] }) (setEntry entry (some { e with st := 1 }) s)

/-- The serving lane returns to the Cairn's state (R348). -/
def restoreServing (i : Nat) (s : State) : State :=
  let s := endSequences (rset64 (regKey 0xE 0 0x80 0) (BitVec.ofNat 64 (slotField s i 0x28 8)) s)
  let map := physBytes s (cairnAddr s i + 0x1000) 4096
  let s := ((List.range 32768).filter fun e => (map.getD (e / 8) 0).getLsbD (e % 8)).foldl (fun s e => enqueueJoin e 0 0 s) s
  let s := (List.range (min 256 (slotField s i 0x140 4))).foldl (fun s k =>
    let n := slotField s i (0x150 + 8 * k) 8
    enqueueJoin (bitsOf n 14 0) (bitsOf n 27 15) (bitsOf n 47 28) s) s
  let k := regKey 0xE 0 0x8C 6
  let n := slotField s i 0x148 8
  rset (k + 4) (BitVec.ofNat 32 (bitsOf n 47 32)) (rset k (BitVec.ofNat 32 n) s)

/-! ## Shards after reinstating (R218, R221) -/

/-- What commit records and shard heads share (Table 7.8): the address of the line, the shard, step, seq and slot. -/
structure ShardLine where
  at_ : Nat
  shard : Nat
  step : Nat
  seq : Nat
  slot : Nat
  deriving DecidableEq, Repr

/-- A line that begins with a magic of Table 7.8, at an address. -/
def shardLine (s : State) (magic a : Nat) : Option ShardLine :=
  let n := leNat (physLine s a)
  if bitsOf n 31 0 = magic then some ⟨a, bitsOf n 63 32, bitsOf n 127 64, bitsOf n 191 128, bitsOf n 199 192⟩ else none

/-- The HBM lines that a reinstatement list wrote. -/
def reinstatedLines (l : List Reinst) : List Nat :=
  (l.filter (·.core.isNone)).flatMap fun e => (List.range e.lines).map fun i => e.hbm + 64 * i

/-- The record of a shard with the highest seq. -/
def newestRecord (l : List ShardLine) (shard : Nat) : Option ShardLine :=
  (l.filter (·.shard == shard)).foldl
    (fun b x => match b with | some y => if y.seq < x.seq then some x else b | none => some x) none

/-- A head that disagrees with its shard's newest record is rewritten (R221). -/
def fixHead (records : List ShardLine) (h : ShardLine) (s : State) : State :=
  match newestRecord records h.shard with
  | none => s
  | some r =>
    if r.step = h.step ∧ r.seq = h.seq ∧ r.slot = h.slot then s
    else
      putPhysLine h.at_ (leBytes 4 0x44485346 ++ leBytes 4 h.shard ++ leBytes 8 r.step ++ leBytes 8 r.seq ++
        leBytes 1 r.slot ++ List.replicate 39 0) s

/-- The Cairn's journal and heads, now reinstated, decide each shard (R221, R347). A record or a head is known by its magic
(DEDUCED, log entry 22): the spec gives no register that names the journal. -/
def decideShards (l : List Reinst) (s : State) : State :=
  let lines := reinstatedLines l
  let records := lines.filterMap (shardLine s 0x4E524A46)
  (lines.filterMap (shardLine s 0x44485346)).foldl (fun s h => fixHead records h s) s

/-- REINSTATE_DONE: stage 1 ends; stage 2 runs (R347). -/
def reinstateDone (errs : List (Nat × SymErrs)) (s : State) : State :=
  match s.cairn.restore with
  | none => s
  | some r =>
    if r.phase ≠ 1 then s
    else
      let ps := partsOfJobs s r.jobs
      let i := r.slot
      match reinstRead i ps (firstJob r.jobs) errs s with
      | (false, s) => restoreReject i 7 { s with cairn := { s.cairn with restore := none } }
      | (true, s) =>
        let mode := slotField s i 4 1
        let named := (List.range 8).filter fun j => r.jobs.getLsbD j
        let s := restoreParts ps { s with cairn := { s.cairn with restore := none } }
        let s := restoreJobs i mode named (restoreCores i (ps.flatMap fun p => regionCores s (.partition p)) s)
        let s := if mode = 2 then restoreStreams i (List.range (slotField s i 0x990 4)) s else s
        let s := if named.any fun j => (jobOf s j).isSome && !isTraining s j then restoreServing i s else s
        let s := decideShards (reinsts s i) s
        { s with cairn := { s.cairn with restore := some { r with phase := 2, readyAt := s.now } } }

/-! ## Restart and replay (R347, R349, R351) -/

/-- The device stands at a frame boundary whose frame work is done. -/
def atFrame (s : State) : Bool := s.tick.running && s.tick.frameDone && s.now == s.tick.frameAt

/-- The frame boundary is the restart boundary R. -/
def restartHere (s : State) (r : Restore) : Bool :=
  let at_ := rget64 s (regKey 0x17 0 0x70 0)
  if at_ ≠ 0 then tickN s == at_
  else decide (r.readyAt + 940000 ≤ s.now) && s.energy.trainPos == (slotField s r.slot 0x20 4 + 1) % periodOf s

/-- The boundary is the restart boundary R, and its frame work is done. -/
def restartDue (s : State) (r : Restore) : Bool := atFrame s && restartHere s r

/-- A stream that starts at a frame boundary. -/
def StreamSt.start (t : Nat) : StreamSt := ⟨0, t, none, some t, some t⟩

/-- The core's streams start. -/
def startStreams (t : Nat) (x : Core) : Core := { x with f := .start t, b := .start t, u := .start t }

/-- Change each of some cores. -/
def modCores (f : Core → Core) : List Nat → State → State
  | [], s => s
  | c :: t, s => modCores f t (modCore c f s)

/-- The held partitions run. -/
def runParts : List Nat → State → State
  | [], s => s
  | p :: t, s =>
    runParts t (modCores (startStreams s.now) (regionCores s (.partition p)) (setPart p { part s p with st := 1 } s))

/-- A restore is accepted: recorded, counted and logged (R349). -/
def restoreAccepted (r : Restore) (s : State) : State :=
  logEvent 0x0021 0x17 0 0 [BitVec.ofNat 8 r.slot, r.jobs]
    (bump48 0x17 0 0xA4 0 1 (some (4, 1)) { s with cairn := { s.cairn with restore := none, accepted := true } })

/-- RESTORE_RESTART. -/
def restoreRestart (s : State) : State :=
  match s.cairn.restore with
  | none => s
  | some r =>
    if r.phase = 2 ∧ restartDue s r then
      let s := runParts (partsOfJobs s r.jobs)
        { s with cairn := { s.cairn with restore := some { r with phase := 3, restart := tickN s } },
                 pair := { s.pair with own := [], peer := [], st := if s.pair.st = 2 then 1 else s.pair.st } }
      if (trainingOf s r.jobs).isEmpty then restoreAccepted { r with phase := 3 } s else s
    else s

/-- An FP32 value without NaN: an infinity by its sign, or a finite value times 2^149. -/
inductive Real32 where
  | inf (neg : Bool)
  | fin (x : Int)
  deriving DecidableEq, Repr

/-- It; none for a NaN. -/
def real32 (x : Word) : Option Real32 :=
  let e := field x 30 23
  if e = 255 then (if field x 22 0 = 0 then some (.inf (x.getLsbD 31)) else none)
  else
    let m := if e = 0 then field x 22 0 else (2 ^ 23 + field x 22 0) * 2 ^ (e - 1)
    some (.fin (if x.getLsbD 31 then -(m : Int) else m))

/-- Round a magnitude to 53 significant bits, to nearest even (FP64). -/
def round53 (m : Nat) : Nat :=
  let k := if m = 0 then 0 else Nat.log2 m - 52
  let q := m / 2 ^ k
  let r := m % 2 ^ k
  (if 2 * r > 2 ^ k ∨ (2 * r = 2 ^ k ∧ q % 2 = 1) then q + 1 else q) * 2 ^ k

/-- |loss - stamp| in FP64: none for NaN, infinite, or a magnitude times 2^149 (R351). -/
def lossGap : Real32 → Real32 → Option Real32
  | .fin a, .fin b => some (.fin (round53 (a - b).natAbs))
  | .inf x, .inf y => if x = y then none else some (.inf false)
  | _, _ => some (.inf false)

/-- Tolerance × |stamp|: none for NaN, infinite, or a value times 2^298. A product of two FP32 values is exact in FP64. -/
def lossBound : Real32 → Real32 → Option Real32
  | .fin t, .fin b => some (.fin (t * b.natAbs))
  | .inf n, .fin b => if b = 0 then none else some (.inf n)
  | .fin t, .inf _ => if t = 0 then none else some (.inf (decide (t < 0)))
  | .inf n, .inf _ => some (.inf n)

/-- R351: the replayed loss lies within the tolerance of the stamp, in FP64. No comparison with a NaN holds. -/
def withinTol (tol loss stamp : Word) : Bool :=
  match real32 tol, real32 loss, real32 stamp with
  | some t, some a, some b =>
    match lossGap a b, lossBound t b with
    | some (.fin g), some (.fin m) => decide (g * 2 ^ 149 ≤ m)
    | some (.fin _), some (.inf n) => !n
    | some (.inf _), some (.inf n) => !n
    | _, _ => false
  | _, _, _ => false

/-- The replayed loss of a job is the Cairn's. -/
def replayEqual (s : State) (slot job : Nat) (loss : Word) : Bool :=
  let stamp := BitVec.ofNat 32 (slotField s slot (0x58 + 32 * job) 4)
  if slotField s slot 4 1 = 1 then withinTol (reg s 0x17 0 0x94) loss stamp else loss == stamp

/-- Compare the replayed loss of a job whose loss record shows step s_c + 1 (R347 stage 4, R349). -/
def replayCompare (job : Nat) (step : Dword) (loss : Word) (s : State) : State :=
  match s.cairn.restore with
  | none => s
  | some r =>
    if r.phase ≠ 3 ∨ !r.jobs.getLsbD job ∨ r.compared.getLsbD job ∨
        step.toNat ≠ slotField s r.slot (0x48 + 32 * job) 8 + 1 then s
    else if replayEqual s r.slot job loss then
      let done := r.compared ||| BitVec.ofNat 8 (2 ^ job)
      if (trainingOf s r.jobs).all fun j => done.getLsbD j then restoreAccepted { r with compared := done } s
      else { s with cairn := { s.cairn with restore := some { r with compared := done } } }
    else
      raise 0x17 0 2 1 job (.parts (partsOfJobs s r.jobs)) { s with cairn := { s.cairn with restore := none } }

/-- Write the loss stamp of a job into the OPEN slots whose next step it completes (R342 item 3). -/
def stampLoss (job : Nat) (step : Dword) (loss : Word) : List Capture → State → State
  | [], s => s
  | c :: t, s =>
    if c.jobs.getLsbD job && !c.stamped.getLsbD job && step.toNat == slotField s c.slot (0x48 + 32 * job) 8 + 1 then
      let s := putSpan 3 (cairnAddr s c.slot + 0x50 + 32 * job) (leBytes 8 step.toNat ++ leBytes 4 loss.toNat ++ [1, 0, 0, 0]) s
      let mark := fun (x : Capture) =>
        if x.slot == c.slot then { x with stamped := x.stamped ||| BitVec.ofNat 8 (2 ^ job) } else x
      stampLoss job step loss t { s with cairn := { s.cairn with captures := s.cairn.captures.map mark } }
    else stampLoss job step loss t s

/-- Read the loss record of a training job at a frame boundary (R340). -/
def readLoss (job : Nat) (s : State) : State :=
  let d := (hubLine s 0 (field (reg s 0x17 0 0x64) 19 0 + job)).toNat
  let step : Dword := BitVec.ofNat 64 d
  let loss : Word := BitVec.ofNat 32 (d / 2 ^ 64)
  if !bitOf d 96 then s
  else
    let was := (lossOf s job).1
    let s := { s with cairn := { s.cairn with loss := sset (fun _ => ((0 : Dword), (0 : Word))) s.cairn.loss job (step, loss) } }
    let s := stampLoss job step loss s.cairn.captures s
    let s := if was.toNat < step.toNat then
        ownValue ⟨0x12, job, step, BitVec.ofNat 64 loss.toNat, 0, frameNo s, 0, 0, false⟩ s
      else s
    replayCompare job step loss s

/-- Read every training job's loss record. -/
def readLosses (s : State) : State :=
  ((List.range 8).filter fun j => isTraining s j).foldl (fun s j => readLoss j s) s

/-! ## Pair messages (R355 to R359) -/

/-- A pair message arrives on a pair link in UP whose peer is the partner. -/
def onPairLink (s : State) (l : Nat) : Bool := s.pair.formed && (partnerLinks s).contains l

/-- A comparison message of a code. -/
def pairMsg (code l : Nat) (m : PairMsg) (s : State) : State :=
  if onPairLink s l then peerValue ⟨code, m.place, m.step, m.value, m.value2, frameNo s, 0, 0, false⟩ s else s

/-- A column holds a spare: a usable core that no logical position uses (R359). -/
def spareExists (s : State) : Bool :=
  (List.range 16).any fun d => (List.range 24).any fun k => decide ((badRows s d k).length < 2)

/-- Lowest granule in which two lists of tile digests differ. -/
def firstGranule (a b : List Dword) : Option Nat := (List.range (max a.length b.length)).find? fun g => a[g]? != b[g]?

/-- Both devices' tile digests are known (R357, R358): the granule is recorded and a rollback follows; a repeat leads to
a recompute, or to HELD where no spare core is left (Table 12.7). -/
def tilesKnown (s : State) : State :=
  match s.pair.seeking, s.pair.tiles, s.pair.peerTiles, s.pair.st with
  | some v, some a, some b, 2 =>
    let s := { s with pair := { s.pair with seeking := none, tiles := none, peerTiles := none } }
    let g := (firstGranule a b).getD 0
    let old := reg s 0x18 0 0x60
    if old.getLsbD 31 && field old 27 0 == g % 2 ^ 28 && sameDivergence s 1 v.place v.step then
      let s := recordDivergence 1 v.place v.step true s
      if spareExists s then
        { s with pair := { s.pair with st := 3, disputed := some v, verdict := none, peerVerdict := none } }
      else pairHeld 1 (pairSend 0x14 [4, 2] s)
    else
      rollback 1 (setReg 0x18 0 0x60 (BitVec.ofNat 32 (2 ^ 31 + g % 2 ^ 28)) (recordDivergence 1 v.place v.step false s))
  | _, _, _, _ => s

/-- This device finds itself faulty (R359). -/
def selfFault (s : State) : State :=
  raise 0x18 0 5 2 (field (reg s 0x18 0 0x60) 15 0) (.fatal false) { s with pair := { s.pair with st := 5 } }

/-- Table 12.7, once the verdicts that decide are known; a verdict of none: no spare core, or the witness unreadable. A
device that finds itself faulty does not wait for its partner (R359). -/
def verdictsKnown (s : State) : State :=
  if s.pair.st ≠ 3 then s
  else
    match s.pair.verdict, s.pair.peerVerdict with
    | some (some false), _ => selfFault s
    | some none, _ => pairHeld 1 s
    | some _, some none => pairHeld 1 s
    | some (some true), some (some true) => pairHeld 1 s
    | some (some true), some (some false) =>
      { s with pair := { s.pair with st := 4, formed := false, own := [], peer := [], seeking := none } }
    | _, _ => s

/-- Two messages of divergence handling are of one kind. -/
def sameKind : DivMsg → DivMsg → Bool
  | .tileDigests _, .tileDigests _ => true
  | .candidate _ _, .candidate _ _ => true
  | .clusterTraces _ _, .clusterTraces _ _ => true
  | .verdict _, .verdict _ => true
  | _, _ => false

/-- A message comes on every pair link (R355): it is a copy where the last of its kind says the same and has not come on this
link yet. -/
def isCopy (s : State) (l : Nat) (m : DivMsg) : Bool := s.pair.heard.any fun e => e.1 == m && !e.2.contains l

/-- Note the link on which a message came. -/
def hear (l : Nat) (m : DivMsg) (s : State) : State :=
  let ls := if isCopy s l m then ((s.pair.heard.find? fun e => e.1 == m).map (·.2)).getD [] else []
  { s with pair := { s.pair with heard := (s.pair.heard.filter fun e => !sameKind e.1 m) ++ [(m, ls ++ [l])] } }

/-- PAIR_DIVERGENCE_MSG. The copies after the first are dropped. -/
def divergenceMsg (l : Nat) (m : DivMsg) (s : State) : State :=
  if !onPairLink s l then s
  else if isCopy s l m then hear l m s
  else
    let s := hear l m s
    match m with
    | .tileDigests d => tilesKnown { s with pair := { s.pair with peerTiles := some d } }
    | .candidate i t => rollbackIfAgreed { s with pair := { s.pair with peerCandidate := some (i, t) } }
    | .clusterTraces f t =>
      let s := { s with pair := { s.pair with peerTraces := some (f, t) } }
      match s.pair.seeking with
      | some v => if v.code = 0x11 ∧ v.step = f then traceDiverge v (ownTraces s f.toNat) t s else s
      | none => s
    | .verdict e => verdictsKnown { s with pair := { s.pair with peerVerdict := some e } }

/-- PAIR_TIMEOUT of an own value that waits. -/
def pairTimeout (k : Nat) (s : State) : State :=
  match s.pair.own[k]? with
  | none => s
  | some v =>
    if v.done ∨ frameNo s < v.frame + 64 then s
    else raiseCe 0x18 0 3 v.code { s with pair := { s.pair with own := eraseFirst (fun x => x == v) s.pair.own } }

/-- The takeover signal reaches a secondary (R310, R356): it acts once. -/
def takeoverSignal (s : State) : State :=
  if pairRole s = 2 ∧ (reg s 0x18 0 0x40).getLsbD 9 ∧ !s.pair.taken then
    { s with pair := { s.pair with taken := true, takePending := true } }
  else s

/-- PAIR_SILENCE (R356): with PAIR_CFG.silence = 1, no marker has come on any pair link for two ticks. -/
def pairSilence (s : State) : State :=
  if (reg s 0x18 0 0x40).getLsbD 10 && (pairLinks s).all fun l => decide ((link s l).markAt + 2 * ticT s ≤ s.now) then
    takeoverSignal s
  else s

/-- The disputed granule as it is stored: line address and lines (R343, R357). -/
def disputedGranule (s : State) : Nat × Nat :=
  match s.pair.disputed with
  | some v =>
    let g := field (reg s 0x18 0 0x60) 27 0
    (v.addr + 4096 * g, min 64 (v.lines - 64 * g))
  | none => (0, 0)

/-- Word k of a line. -/
def lineWord (d : List Byte) (k : Nat) : Word := BitVec.ofNat 32 (leNat (bytesAt d (4 * k) 4))

/-- The extents that a recompute reads: previous weights and moments, the witness, and the stored granule. -/
def recomputeExtents (s : State) (q : Recompute) : List (Nat × Nat) :=
  let n := (disputedGranule s).2
  [(q.weights, n), (q.first, n)] ++ (if q.routine = 2 then [(q.second, n)] else []) ++
    [(q.gradient, n), (q.hyper, 1), disputedGranule s]

/-- The new master weights of line i of the granule, as the optimiser routine gives them (R216). -/
def recomputedLine (s : State) (q : Recompute) (i : Nat) : List Word :=
  let row := fun (a : Nat) => physLine s (a + 64 * i)
  let h := physLine s q.hyper
  (List.range 16).map fun k =>
    (optimise q.routine (lineWord (row q.gradient) k) (lineWord (row q.weights) k) (lineWord (row q.first) k)
      (if q.routine = 2 then lineWord (row q.second) k else 0) (lineWord h)).2.2

/-- The recomputed granule equals the stored one. -/
def recomputeEquals (s : State) (q : Recompute) : Bool :=
  (List.range (disputedGranule s).2).all fun i =>
    recomputedLine s q i == (List.range 16).map (lineWord (physLine s ((disputedGranule s).1 + 64 * i)))

/-- RECOMPUTE_DONE: Trotos reads the step's inputs and the witness, runs the routine and compares (R359); the verdict is sent to
the partner. None: a line that it reads is unreadable. Where the lines lie and which routine the update ran are the program's, so
they are operands (log entry 24). -/
def recomputeDone (q : Recompute) (s : State) : State :=
  if s.pair.st = 3 ∧ s.pair.verdict.isNone then
    let r := crestRead (recomputeExtents s q) q.errs s
    let equal := if r.1 then some (recomputeEquals s q) else none
    let code : Byte := match equal with | some true => 1 | some false => 0 | none => 2
    verdictsKnown (pairSend 0x14 [4, code] { r.2 with pair := { r.2.pair with verdict := some equal } })
  else s

/-- PAIR_CTL.release: the device leaves HELD. -/
def pairRelease (s : State) : State :=
  if s.pair.st = 4 then pairCheck { s with pair := { s.pair with st := if s.pair.formed then 1 else 0 } } else s

/-- A write of PAIR_CTL. -/
def pairCtl (v : Word) (s : State) : State :=
  let s := if v.getLsbD 0 then primaryFault 3 s else s
  if v.getLsbD 1 then pairRelease s else s

/-! ## Spare fills (R360 to R362) -/

/-- The physical row of logical row j of a column: its (j + 1)-th usable row (R175). -/
def usableRows (s : State) (d k : Nat) : List Nat := (List.range 26).filter fun r => !(badRows s d k).contains r

/-- A physical core that has not failed serves a logical position, or is the spare being filled. -/
def inService (s : State) (p : PhysCore) : Bool :=
  ((usableRows s p.ridge p.col).take 24).contains p.row

/-- The logical core whose position a physical core holds under the remap in force (R177). -/
def spotOf (s : State) (p : PhysCore) : List Nat :=
  let rows := rowsInForce s p.ridge p.col
  if rows.contains p.row then
    [96 * (24 * (p.ridge / 4) + (rows.takeWhile fun r => r != p.row).length) + 24 * (p.ridge % 4) + p.col]
  else []

/-- Column of a fill. -/
def fillsColumn (p : PhysCore) (f : Fill) : Bool := f.ridge == p.ridge && f.col == p.col

/-- Add a failed core, and the position that it held, to the fill of its column. -/
def extendFill (p : PhysCore) (spot : List Nat) : List Fill → List Fill
  | [] => []
  | f :: t =>
    if fillsColumn p f then { f with cores := f.cores ++ [p], spots := f.spots ++ spot } :: t
    else f :: extendFill p spot t

/-- CORE_FAIL (R360 to R362, Table 12.8). After grid_loss the T9 takes no further step for the partition: a restore of a job
of it ends. -/
def coreFail (p : PhysCore) (s : State) : State :=
  if !s.dev.up || !inService s p then s
  else
    let q := partOfRidge s p.ridge
    let same := s.dev.fills.any (fillsColumn p)
    let s := { s with dev := { s.dev with
      bad := s.dev.bad ++ [p], toLog := s.dev.toLog ++ [(p, BitVec.ofNat 32 (tickN s).toNat)] } }
    if 3 ≤ (badRows s p.ridge p.col).length || (!same && decide (5 ≤ s.dev.fills.length)) then
      raise 3 p.ridge 5 1 p.col (.parts [q]) (abandonRestore q (dropFills q s))
    else
      let s := raise 3 p.ridge 4 1 (p.col + 2 ^ 8 * p.row) (.parts [q]) s
      let first := match s.dev.fills with | [] => true | f :: _ => fillsColumn p f
      let fills := if same then extendFill p (spotOf s p) s.dev.fills else s.dev.fills ++ [⟨[p], spotOf s p, false⟩]
      let s := { s with dev := { s.dev with fills := fills } }
      if first then startFill s else s

/-- The newest SEALED slot that captured every one of some jobs. -/
def lastSealed (s : State) (jobs : BitVec 8) : Option Nat :=
  ((List.range 4).filter fun i =>
      slotSt s i == 2 && BitVec.ofNat 8 (slotField s i 5 1) &&& jobs == jobs).foldl
    (fun b i => match b with
      | some k => if slotField s k 0x18 8 < slotField s i 0x18 8 then some i else b
      | none => some i) none

/-- Place `n` lines of an entry from line i on; `k` numbers the lines placed. A line that is uncorrectable does not land
(R243). -/
def placeLines (q : Nat) (job : Nat) (errs : List (Nat × SymErrs)) (e : Reinst) : Nat → Nat → Nat → State → State
  | 0, _, _, s => s
  | n + 1, i, k, s =>
    match hbmRead (e.src + 64 * i) (lineErrs errs k) (.parts [q]) s with
    | (some d, s) => placeLines q job errs e n (i + 1) (k + 1) (reinstPut e i d (chargeReinst job e s))
    | (none, s) => placeLines q job errs e n (i + 1) (k + 1) s

/-- Place some entries. -/
def placeAll (q : Nat) (job : Nat) (errs : List (Nat × SymErrs)) : Nat → List Reinst → State → State
  | _, [], s => s
  | k, e :: t, s => placeAll q job errs (k + e.lines) t (placeLines q job errs e e.lines 0 k s)

/-- The entries of a slot that lie in one of some cores. -/
def entriesOf (cores : List Nat) (l : List Reinst) : List Reinst :=
  l.filter fun e => match e.core with | some (k, _) => cores.contains k | none => false

/-- The new cores of failed positions: zero, with their part of the Cairn (R360). -/
def fillCores (q : Nat) (slot : Option Nat) (cores : List Nat) (errs : List (Nat × SymErrs)) (s : State) : State :=
  let s := cores.foldl (fun s c => setCore c (coreFresh s c true (core s c)) (zeroSram c s)) s
  match slot with
  | none => s
  | some i => placeAll q ((jobOfPart s q).getD 0) errs 0 (entriesOf cores (reinsts s i)) s

/-- Spill mode off for each of some cores. -/
def leaveSpill : List Nat → State → State
  | [], s => s
  | c :: t, s => leaveSpill t (spillLeave c s)

/-- SPARE_FILL_DONE, of a fill that has passed step 2: the fill completes; every job of the partition is restored from its last sealed Cairn. -/
def fillDone (e : FillEnd) (s : State) : State :=
  match s.dev.fills with
  | [] => s
  | f :: t =>
    if f.ridge ≠ e.ridge ∨ !f.remapped then s
    else
      let q := partOfRidge s e.ridge
      let jobs := BitVec.ofNat 8 (((List.range 8).filter fun j => (jobParts s j).contains q).map fun j => 2 ^ j).sum
      let slot := if jobs = 0 then none else lastSealed s jobs
      let s := fillCores q slot f.spots.eraseDups e.placed s
      let s := leaveSpill (regionCores s (.partition q)) s
      let s := startFill { s with dev := { s.dev with fills := t } }
      match slot with
      | some i => restoreStart i jobs e.errs s
      | none => s

/-! ## Stream keys (R339, R365) -/

/-- A write of RNG_KEY word i of the stream that RNG page g shows: word 3 commits the key. -/
def rngKeyWrite (g i : Nat) (v : Word) (s : State) : State :=
  let k := 64 * g + field (reg s 0x19 g 0x40) 5 0
  let x := rngOf s k
  let n := x.words.toNat
  let w : BitVec 128 := BitVec.ofNat 128 (n - bitsOf n (32 * i + 31) (32 * i) * 2 ^ (32 * i) + v.toNat * 2 ^ (32 * i))
  setRng k { x with words := w, commit := if i = 3 then some w else x.commit } s

/-- A committed key takes effect, in native mode. -/
def rngTake (x : RngSt) : RngSt :=
  match x.commit with
  | some k => { x with key := k, commit := none, keySet := true, t7 := false, base := 0 }
  | none => x

/-- The committed keys of every stream take effect at a frame boundary. -/
def rngCommits (s : State) : State := { s with rng := smap (fun _ => RngSt.reset) (fun _ x => rngTake x) s.rng }

/-! ## Rows -/

/-- CAIRN_SEAL (R342). -/
def execCairnSeal (dt slot : Nat) (s : State) : Host.Outcome State Fault Refusal :=
  answer (.cairnSeal dt slot) s <|
    cairnSeal slot (elapse dt s)

/-- RESTORE (R346). -/
def execRestore (src : CrestCmd) (value : Word) (s : State) : Host.Outcome State Fault Refusal :=
  answer (.restore src value) s <|
    cairnRestore value src.errs s

/-- VOID (R345). -/
def execVoid (src : CrestCmd) (value : Word) (s : State) : Host.Outcome State Fault Refusal :=
  answer (.void src value) s <|
    cairnVoid (field value 3 2) src.errs s

/-- REINSTATE_DONE (R347). -/
def execReinstateDone (dt : Nat) (errs : List (Nat × SymErrs)) (s : State) : Host.Outcome State Fault Refusal :=
  answer (.reinstateDone dt errs) s <|
    reinstateDone errs (elapse dt s)

/-- RESTORE_RESTART (R347). -/
def execRestoreRestart (s : State) : Host.Outcome State Fault Refusal :=
  answer (.restoreRestart) s <|
    restoreRestart s

/-- PAIR_COMMIT_MSG (R355). -/
def execPairCommitMsg (dt link : Nat) (m : PairMsg) (s : State) : Host.Outcome State Fault Refusal :=
  answer (.pairCommitMsg dt link m) s <|
    pairMsg 0x10 link m (elapse dt s)

/-- PAIR_TRACE_MSG (R355). -/
def execPairTraceMsg (dt link : Nat) (m : PairMsg) (s : State) : Host.Outcome State Fault Refusal :=
  answer (.pairTraceMsg dt link m) s <|
    pairMsg 0x11 link m (elapse dt s)

/-- PAIR_LOSS_MSG (R355). -/
def execPairLossMsg (dt link : Nat) (m : PairMsg) (s : State) : Host.Outcome State Fault Refusal :=
  answer (.pairLossMsg dt link m) s <|
    pairMsg 0x12 link m (elapse dt s)

/-- PAIR_SEAL_MSG (R355). -/
def execPairSealMsg (dt link : Nat) (m : PairMsg) (s : State) : Host.Outcome State Fault Refusal :=
  answer (.pairSealMsg dt link m) s <|
    pairMsg 0x13 link m (elapse dt s)

/-- PAIR_DIVERGENCE_MSG (R357). -/
def execPairDivergenceMsg (dt link : Nat) (m : DivMsg) (s : State) : Host.Outcome State Fault Refusal :=
  answer (.pairDivergenceMsg dt link m) s <|
    divergenceMsg link m (elapse dt s)

/-- PAIR_TIMEOUT (R355). -/
def execPairTimeout (key : Nat) (s : State) : Host.Outcome State Fault Refusal :=
  answer (.pairTimeout key) s <|
    pairTimeout key s

/-- PRIMARY_FAULT_MSG (R356). -/
def execPrimaryFaultMsg (dt link : Nat) (cause : Word) (s : State) : Host.Outcome State Fault Refusal :=
  answer (.primaryFaultMsg dt link cause) s <|
    onlyIf ((pairLinks s).contains link) (takeoverSignal (elapse dt s)) (elapse dt s)

/-- PAIR_SILENCE (R356). -/
def execPairSilence (dt : Nat) (s : State) : Host.Outcome State Fault Refusal :=
  answer (.pairSilence dt) s <|
    pairSilence (elapse dt s)

/-- HANDOVER (R356). -/
def execHandover (src : Src) (s : State) : Host.Outcome State Fault Refusal :=
  answer (.handover src) s <|
    primaryFault 3 s

/-- RELEASE (R358). -/
def execRelease (src : Src) (s : State) : Host.Outcome State Fault Refusal :=
  answer (.release src) s <|
    pairRelease s

/-- RECOMPUTE_DONE (R359). -/
def execRecomputeDone (dt : Nat) (q : Recompute) (s : State) : Host.Outcome State Fault Refusal :=
  answer (.recomputeDone dt q) s <|
    recomputeDone q (elapse dt s)

/-- CORE_FAIL (R360). -/
def execCoreFail (dt : Nat) (core : PhysCore) (s : State) : Host.Outcome State Fault Refusal :=
  answer (.coreFail dt core) s <|
    coreFail core (elapse dt s)

/-- SPARE_FILL_DONE (R360). -/
def execSpareFillDone (dt : Nat) (fill : FillEnd) (s : State) : Host.Outcome State Fault Refusal :=
  answer (.spareFillDone dt fill) s <|
    fillDone fill (elapse dt s)

/-- RNG_KEY_COMMIT (R365). -/
def execRngKeyCommit (src : Src) (stream : Nat) (value : Word) (s : State) : Host.Outcome State Fault Refusal :=
  answer (.rngKeyCommit src stream value) s <|
    onlyIf (field (reg s 0x19 (stream / 64) 0x40) 5 0 == stream % 64) (rngKeyWrite (stream / 64) 3 value s) s

end Sys2Proof.Machine
end

