-- ==== Sys2Proof/Machine/Energy.lean ====
section
/-! DEFINITION. The energy ledger (14_energy.md): accounts, the frame's close, projection and votes, and deferral. Accounts
are held in femtojoules (log entry 30). -/

namespace Sys2Proof.Machine

open Sys2Proof

/-- Change the ledger. -/
def modEnergy (f : Energy → Energy) (s : State) : State := { s with energy := f s.energy }

/-! ## Accounts (R389, R390) -/

/-- The largest value of an account: 2^64 − 1 µJ. -/
def energyMax : Nat := (2 ^ 64 - 1) * 10 ^ 9

/-- Add to an account, saturating. -/
def energyAdd (a x : Nat) : Nat := min energyMax (a + x)

/-- An addition makes an account reach its largest value. -/
def energyFills (a x : Nat) : Bool := decide (a < energyMax) && decide (energyMax ≤ a + x)

/-- Add to the account of partition p. -/
def addPart (p x : Nat) (s : State) : State :=
  let a := sget (fun _ => 0) s.energy.part p
  let s := modEnergy (fun e => { e with part := sset (fun _ => 0) e.part p (energyAdd a x) }) s
  if energyFills a x then raiseCe 0x12 (1 + p) 0 0 s else s

/-- Add to the account of job j. -/
def addJob (j x : Nat) (s : State) : State :=
  let a := sget (fun _ => 0) s.energy.job j
  let s := modEnergy (fun e => { e with job := sset (fun _ => 0) e.job j (energyAdd a x) }) s
  if energyFills a x then raiseCe 0x12 0 3 0 s else s

/-- Add to the shared account. -/
def addShared (x : Nat) (s : State) : State :=
  let a := s.energy.shared
  let s := modEnergy (fun e => { e with shared := energyAdd a x }) s
  if energyFills a x then raiseCe 0x12 0 3 1 s else s

/-- Add to the package account. -/
def addPkg (x : Nat) (s : State) : State :=
  let a := s.energy.pkg
  let s := modEnergy (fun e => { e with pkg := energyAdd a x }) s
  if energyFills a x then raiseCe 0x12 0 3 2 s else s

/-- Measured energy of some Ridges over the tick, fJ. -/
def ridgeEnergy (m : Measured) (ds : List Nat) : Nat := 1000 * (ds.map fun d => m.ridges.getD d 0).sum

/-- The increments of a tick boundary (Table 14.1). -/
def accountTick (m : Measured) (s : State) : State :=
  let e := s.energy
  let ps := if assigned s then partsNow s else []
  let free := if assigned s then [] else List.range 16
  let charged := (e.tickPart.map (·.2)).sum
  let others := 1000 * m.others
  let s := modEnergy (fun e => { e with tickJob := [], tickPart := [] }) s
  let s := ps.foldl (fun s p => addPart p (ridgeEnergy m (partRidges s p) + sget (fun _ => 0) e.tickPart p) s) s
  let s := (List.range 8).foldl (fun s j => addJob j (sget (fun _ => 0) e.tickJob j) s) s
  addPkg (ridgeEnergy m (List.range 16) + others) (addShared (ridgeEnergy m free + others - charged) s)

/-! ## The close of a frame -/

/-- Declared energy of the jobs of a kind in a period position, µJ (R61). -/
def declaredOf (s : State) (serving : Bool) (row : Nat) : Nat :=
  match s.sched.active with
  | none => 0
  | some im => ((im.jobs.filter fun b => b.serving == serving).map fun (b : Job) => declared s row b.id).sum

/-- Completed frames that the ledger still needs: the window of 4,096, and 16 that were not deferred. -/
def keepFrames (l : List FrameEnergy) : List FrameEnergy :=
  l.take 4096 ++ ((l.drop 4096).filter (!·.deferred)).take 16

/-- Mean power in 0.1 W of an energy in fJ over a number of cycles at 940 MHz. -/
def tenthWatts (fj cycles : Nat) : Nat := min 65535 (fj * 94 / (cycles * 10 ^ 7))

/-- A frame begins: the accounts as they stand. -/
def markEnergy (s : State) : State :=
  modEnergy (fun e => { e with inFrame := true, pkgMark := e.pkg, partMark := e.part }) s

/-- The frame that ends: its package energy, its declarations, and the partitions' mean power. The first frame boundary once
ticks are counted ends none. -/
def closeEnergy (s : State) : State :=
  let e := s.energy
  if !e.inFrame then markEnergy s
  else
  let row : FrameEnergy := ⟨e.pkg / 10 ^ 9 - e.pkgMark / 10 ^ 9,
    declaredOf s true e.devPos + declaredOf s false e.trainPos, e.deferred⟩
  let pwr := (partsNow s).foldl (fun m p =>
    sset (fun _ => 0) m p (tenthWatts (sget (fun _ => 0) e.part p - sget (fun _ => 0) e.partMark p) (ticT s * ticF s))) []
  markEnergy (modEnergy (fun e => { e with hist := keepFrames (row :: e.hist), partPwr := pwr }) s)

/-- Positions advance at a frame boundary (R392): P_t only where the frame that ends was not deferred. -/
def advancePositions (s : State) : State :=
  let n := periodOf s
  modEnergy (fun e =>
    if e.deferred then { e with devPos := (e.devPos + 1) % n }
    else { e with devPos := (e.devPos + 1) % n, trainPos := (e.trainPos + 1) % n,
                  periods := if e.trainPos + 1 = n then e.periods + 1 else e.periods }) s

/-! ## Projection and votes (R391, R393, R394) -/

/-- D. -/
def leadD (s : State) : Nat := field (reg s 0x12 0 0x44) 3 0 + 1

/-- w. -/
def windowW (s : State) : Nat := max 1 (field (reg s 0x12 0 0x40) 28 16)

/-- B_f, µJ. -/
def frameBudget (s : State) : Nat := field (reg s 0x12 0 0x40) 12 0 * (ticT s * ticF s) / 940

/-- ENG_BASE, µJ. -/
def baseEnergy (s : State) : Nat := (reg s 0x12 0 0x4C).toNat

/-- k as a fraction: over the last 16 completed frames that were not deferred, never below 1. -/
def kRatio (s : State) : Nat × Nat :=
  let l := (s.energy.hist.filter (!·.deferred)).take 16
  let num := (l.map (·.pkg)).sum - l.length * baseEnergy s
  let den := (l.map (·.declared)).sum
  if den = 0 ∨ num < den then (1, 1) else (num, den)

/-- Projection of a frame with an energy declared for it. -/
def projected (s : State) (decl : Nat) : Nat :=
  let k := kRatio s
  baseEnergy s + k.1 * decl / k.2

/-- max_debt. -/
def maxDebt (s : State) : Nat := field (reg s 0x12 0 0x44) 31 16

/-- ENG_DEBT. -/
def debt (s : State) : Nat := field (reg s 0x12 0 0x84) 15 0

/-- The vote of frame f is held, and f is not among the first D frames from an activation. -/
def voteCounts (s : State) (f : Nat) : Bool := s.energy.votes.contains f && decide (s.energy.actFrame + leadD s ≤ f)

/-- Frame x, i frames after the present one and with P_t = pos, begins at the restart boundary of a restore (R347, R395). -/
def restartAt (s : State) (x i pos : Nat) : Bool :=
  match s.cairn.restore with
  | none => false
  | some r =>
    let at_ := rget64 s (regKey 0x17 0 0x70 0)
    r.phase == 2 &&
      (if at_ ≠ 0 then at_.toNat == x * ticF s
       else decide (r.readyAt + 940000 ≤ s.now + i * (ticT s * ticF s)) && pos == (slotField s r.slot 0x20 4 + 1) % periodOf s)

/-- Projections of `n` frames from frame `x`, which stands `i` frames after the present one, with P_t and the debt that it
will have; and the P_t after them. -/
def projectRun (s : State) : Nat → Nat → Nat → Nat → Nat → List Nat × Nat
  | 0, _, _, pos, _ => ([], pos)
  | n + 1, x, i, pos, d =>
    let off := if i = 0 then s.energy.deferred else voteCounts s x && !restartAt s x i pos && decide (d < maxDebt s)
    let serving := declaredOf s true ((s.energy.devPos + i) % periodOf s)
    let (t, p) := projectRun s n (x + 1) (i + 1) (if off then pos else (pos + 1) % periodOf s)
      (if off && i != 0 then d + 1 else d)
    (projected s (if off then serving else serving + declaredOf s false pos) :: t, p)

/-- The projection of frame g + D, and the sum that is held against the window budget. -/
def windowSum (s : State) : Nat × Nat :=
  let d := leadD s
  let w := windowW s
  let g := frameNo s
  let (runs, pos) := projectRun s d g 0 s.energy.trainPos (debt s)
  let own := projected s (declaredOf s true ((s.energy.devPos + d) % periodOf s) + declaredOf s false pos)
  (own, ((s.energy.hist.take (w - 1 - d)).map (·.pkg)).sum + (runs.drop (d + 1 - w)).sum + own)

/-- The own vote for frame g + D at frame boundary g. -/
def castVote (s : State) : State :=
  let (own, sum) := windowSum s
  let spent := decide (windowW s * frameBudget s < sum)
  let f := frameNo s + leadD s
  let vote := (spent || s.energy.thermalVote) && (reg s 0x12 0 0x44).getLsbD 4
  modEnergy (fun e => { e with proj := own, budgetVote := spent,
                               votes := if vote && !e.votes.contains f then e.votes ++ [f] else e.votes }) s

/-! ## Deferral (R395, R399) -/

/-- The frame that begins is the first of a restart (R395). -/
def restartFrame (s : State) : Bool :=
  match s.cairn.restore with
  | some r => r.phase == 2 && restartHere s r
  | none => false

/-- Decide whether the frame that begins is deferred. -/
def decideFrame (s : State) : State :=
  let g := frameNo s
  let due := voteCounts s g && !restartFrame s
  let off := due && decide (debt s < maxDebt s)
  let s := modEnergy (fun e => { e with deferred := off, votes := e.votes.filter fun f => decide (g < f) }) s
  if off then
    bump48 0x12 0 0x74 0 1 (some (3, 3)) (setReg 0x12 0 0x84 (BitVec.ofNat 32 (debt s + 1)) s)
  else if due then bump48 0x12 0 0x7C 0 1 (some (3, 4)) (raiseCe 0x12 0 0 (g % 2 ^ 16) s)
  else s

/-- Votes received for the frames from `f` on, bit by bit (R395). -/
def takeVotes (f : Nat) (bits : BitVec 16) (s : State) : State :=
  let new := ((List.range 16).filter fun k => bits.getLsbD k).map (f + ·)
  modEnergy (fun e => { e with votes := e.votes ++ new.filter fun x => !e.votes.contains x }) s

end Sys2Proof.Machine
end

