-- ==== Sys2Proof/Machine/Measure.lean ====
section
/-! DEFINITION. The measurement registers M0 to M7 (R409, R410). -/

namespace Sys2Proof.Machine

open Sys2Proof

/-- 64 zero bytes. -/
def zero64 : List Byte := List.replicate 64 0

/-- Change what the Crest keeps of security. -/
def modSec (f : SecSt → SecSt) (s : State) : State := { s with sec := f s.sec }

/-- Measurement register Mm. -/
def meas (s : State) (m : Nat) : List Byte := sget (fun _ => zero64) s.sec.meas m

/-- An extension: M ← SHAKE256(M ‖ d) (R409). -/
def measure (m : Nat) (d : List Byte) (s : State) : State :=
  modSec (fun x => { x with meas := sset (fun _ => zero64) x.meas m (shake256 64 (meas s m ++ d)) }) s

/-- An extension of M5, M6 or M7, which the measurement epoch counts (R410). -/
def measureCounted (m : Nat) (d : List Byte) (s : State) : State :=
  modSec (fun x => { x with extensions := x.extensions + 1 }) (measure m d s)

end Sys2Proof.Machine
end

