-- ==== Sys2Proof/Machine/Schedule.lean ====
section
/-! DEFINITION. Readiness of the device (R370), and the staged image (R62 to R68): load checks, arming, placement, and
activation with its epoch seal (R180 to R184, R312). -/

namespace Sys2Proof.Machine

open Sys2Proof

/-! ## Readiness (R370) -/

/-- Edges N, E, S, W (bits 0 to 3) at which another element of a grid of `w` columns and `h` rows lies. -/
def edgesOf (w h i : Nat) : Nat :=
  bit01 (decide (w ≤ i)) + 2 * bit01 (decide (i % w + 1 < w)) + 4 * bit01 (decide (i / w + 1 < h)) +
    8 * bit01 (decide (0 < i % w))

/-- Every logical column of the Ridge has 24 usable rows, and the remap is applied (step 7 of Table 13.2). -/
def gridOk (s : State) (d : Nat) : Bool :=
  s.dev.trotos && (List.range 24).all fun k => decide ((badRows s d k).length ≤ 2)

/-- The stack is enabled: 12 to 23 are fused off on a ZGT9-H (R2). -/
def stackEnabled (s : State) (k : Nat) : Bool := decide (k < 12) || !variantH s

/-- Every enabled stack has trained at 10.0 Gb/s. -/
def stacksOk (s : State) : Bool :=
  (List.range 24).all fun k => !stackEnabled s k || ((stackOf s k).trained && (stackOf s k).rate == 0)

/-- Every present bridge has trained and every present saddle edge is calibrated. -/
def edgesOk (s : State) : Bool :=
  ((List.range 8).all fun c => sget (fun _ => 0) s.mem.bridges c % 16 &&& edgesOf 2 4 c == edgesOf 2 4 c) &&
  ((List.range 16).all fun d => sget (fun _ => 0) s.dev.saddles d % 16 &&& edgesOf 4 4 d == edgesOf 4 4 d)

/-- The tick condition: master, or follower and locked. -/
def tickOk (s : State) : Bool :=
  let role := field (reg s 2 0 0x44) 1 0
  role == 1 || (role == 2 && s.tick.locked)

/-- The lowest-numbered failing reason, given the tick condition; 5 where no firmware could be booted (R406). -/
def reasonWith (tick : Bool) (s : State) : Nat :=
  if s.dev.fwFail then 5
  else if !(List.range 16).all (gridOk s) then 1
  else if !stacksOk s then 2
  else if !tick then 3
  else if !s.dev.micro.isEmpty then 4
  else if !s.dev.trotos then 5
  else if !s.dev.dieBad.isEmpty then 6
  else if s.faults.fatalRecorded then 7
  else if !edgesOk s then 8
  else 0

/-- DEV_STAT.reason: the lowest-numbered failing reason, 0 for none. -/
def readyReason (s : State) : Nat := reasonWith (tickOk s) s

/-- What a firmware trial asks (R412): ready, or only tick lock fails. -/
def trialOk (s : State) : Bool := s.dev.up && reasonWith true s == 0

/-- DEV_STAT.ready, which READY mirrors. -/
def devReady (s : State) : Bool := s.dev.up && readyReason s == 0

/-! ## Load checks (R56 to R60, R63, R64, R171, R312) -/

/-- The first failure of a list of checks, each with its code and link; 0 for none. -/
def firstCode : List (Bool × Nat) → Nat
  | [] => 0
  | (ok, code) :: t => if ok then firstCode t else code

/-- Bytes are all 0. -/
def zeroBytes (b : List Byte) : Bool := b.all (· == 0)

/-- Step 1: address and header fields, before the digest. -/
def headerOk (s : State) (a : Nat) : Bool :=
  let len := physNat s (a + 0x10) 8
  a % 4096 == 0 && physNat s a 4 == 0x53395446 && physNat s (a + 4) 2 == 0x0100 && physNat s (a + 6) 2 == 128 &&
    physNat s (a + 8) 8 != 0 && decide (128 ≤ len) && decide (len ≤ 2 ^ 34) && (windowHolding s a (a + len - 1)).isSome

/-- Step 1: the digest, taken with its own field zero. -/
def digestOk (s : State) (a : Nat) : Bool :=
  let len := physNat s (a + 0x10) 8
  let img := physBytes s a 0x40 ++ List.replicate 64 0 ++ physBytes s (a + 0x80) (len - 0x80)
  shake256 64 img == physBytes s (a + 0x40) 64

/-- Entry bytes of a table-block record (R312): words of a target. -/
def targetWords (t : Nat) : Nat := [0, 8, 8, 8, 8, 1, 82].getD t 0

/-- Entries of a target. -/
def targetSize (t : Nat) : Nat := [0, 512, 256, 8192, 32768, 4096, 1024].getD t 0

/-- The length of a section meets the size rule of its type (R56, which gives the partition table none: R58 does). -/
def lengthOk (period : Nat) (d : DirEnt) : Bool :=
  let n := d.len
  match d.type with
  | 0x01 => n == 512
  | 0x03 => n % 48 == 0 && decide (48 ≤ n) && decide (n ≤ 384)
  | 0x10 | 0x11 | 0x12 => n % 8 == 0 && decide (n ≤ 8192)
  | 0x13 => n == 288
  | 0x14 => n == 4160
  | 0x20 => n % 32 == 0
  | 0x30 => n == 32 * period
  | 0x40 => n % (4 + 4 * targetWords d.inst) == 0
  | _ => true

/-- The instance of a section is in range. -/
def instanceOk (d : DirEnt) : Bool :=
  match d.type with
  | 0x10 | 0x11 | 0x12 | 0x13 | 0x14 => decide (d.inst < 9216)
  | 0x20 => decide (d.inst < 8)
  | 0x40 => decide (1 ≤ d.inst) && decide (d.inst ≤ 6)
  | _ => d.inst == 0

/-- The section type is one of Table 2.5. -/
def typeKnown (t : Nat) : Bool := [1, 2, 3, 0x10, 0x11, 0x12, 0x13, 0x14, 0x20, 0x30, 0x40].contains t

/-- Two spans of bytes overlap. -/
def spansMeet (a b : Nat × Nat) : Bool := decide (a.1 < b.1 + b.2) && decide (b.1 < a.1 + a.2) && a.2 != 0 && b.2 != 0

/-- No two spans of a list overlap. -/
def spansApart : List (Nat × Nat) → Bool
  | [] => true
  | a :: t => (t.all fun b => !spansMeet a b) && spansApart t

/-- No entry of a list occurs twice. -/
def noRepeat : List (Nat × Nat) → Bool
  | [] => true
  | a :: t => !t.contains a && noRepeat t

/-- Step 2 against code 0x03 (R56). DESIGN CHOICE (log entry 74): a dir_offset that is no multiple of 64, for which no code
is stated, is 0x03 too. -/
def directoryOk (s : State) (a : Nat) : Bool :=
  let len := physNat s (a + 0x10) 8
  let off := physNat s (a + 0x18) 4
  let n := physNat s (a + 0x1C) 4
  let ds := dirOf s a
  let period := match sectionOf s a 1 0 with | some d => physNat s (a + d.off + 0x16) 2 | none => 0
  off % 64 == 0 && decide (off + 16 * n ≤ len) &&
    (ds.all fun d => decide (d.off + d.len ≤ len) && lengthOk period d && instanceOk d) &&
    spansApart ((0, 128) :: (off, 16 * n) :: ds.map fun (d : DirEnt) => (d.off, d.len)) &&
    noRepeat (ds.map fun (d : DirEnt) => (d.type, d.inst)) &&
    ([1, 2, 3, 0x30].all fun t => (sectionOf s a t 0).isSome) &&
    (ds.filter fun (d : DirEnt) => d.type == 0x13).length == 9216

/-- Records of a table block: index and words. -/
def blockRecords (s : State) (addr t : Nat) : List (Nat × List Word) :=
  match sectionOf s addr 0x40 t with
  | none => []
  | some d =>
    let w := targetWords t
    (List.range (d.len / (4 + 4 * w))).map fun k =>
      let b := physBytes s (addr + d.off + k * (4 + 4 * w)) (4 + 4 * w)
      (leNat (b.take 4), (chunksLe 4 w (b.drop 4)).map (BitVec.ofNat 32))

/-- Indices rise and lie within a target's table. -/
def indicesOk (n : Nat) : List (Nat × List Word) → Bool
  | [] => true
  | [a] => decide (a.1 < n)
  | a :: b :: t => decide (a.1 < b.1) && indicesOk n (b :: t)

/-- Table blocks against code 0x03: indices, and map pairs held once. -/
def blocksPlaced (s : State) (a : Nat) : Bool :=
  ((List.range 6).all fun k => indicesOk (targetSize (k + 1)) (blockRecords s a (k + 1))) &&
    noRepeat ((blockRecords s a 4).map fun r => let e := entryOfData r.2; (e.key.toNat, e.feed))

/-- An ingress record keeps its reserved bits 0 and meets Table 10.4. -/
def ingressOk (t : Nat) (r : Nat × List Word) : Bool :=
  tabEntryOk t r.2 && (t != 0 || (r.2.getD 4 0).getLsbD 17 || ((r.2.drop 1).take 3).all (· == 0)) &&
  (List.range 8).all fun w =>
    let v := (r.2.getD w 0).toNat
    v &&& tabMask t w == v

/-- A map record: reserved bits 0, and its model slot valid where a model-slot block comes with it (R312). -/
def mapRecordOk (models : List (Nat × List Word)) (hasModels : Bool) (r : Nat × List Word) : Bool :=
  (r.2.drop 4).all (· == 0) && field (r.2.getD 3 0) 31 24 == 0 &&
    (!hasModels || models.any fun m => m.1 == field (r.2.getD 3 0) 11 0 && (m.2.getD 0 0).getLsbD 0)

/-- Table blocks against code 0x04. -/
def blocksValid (s : State) (a : Nat) : Bool :=
  ((List.range 3).all fun t => (blockRecords s a (t + 1)).all (ingressOk t)) &&
    (blockRecords s a 4).all (mapRecordOk (blockRecords s a 5) (sectionOf s a 0x40 5).isSome)

/-- Reserved section types and reserved fields of the header, the directory and the descriptors (code 0x04). DESIGN CHOICE (log
entry 86): no section of Table 2.5 is one of a job, so that the job field of a directory entry counts as a reserved field. -/
def reservedOk (s : State) (a : Nat) : Bool :=
  zeroBytes (physBytes s (a + 0x20) 32) &&
    ((dirOf s a).all fun d => typeKnown d.type && d.job == 0 && d.rsvd == 0) && blocksValid s a &&
    (dirOf s a).all fun d => d.type != 0x14 ||
      (chunksLe 8 512 (physBytes s (a + d.off + 64) 4096)).all fun x => decide (x < 2 ^ 57)

/-- Bytes of the system description. -/
def sysDesc (s : State) (a : Nat) : List Byte := (sectionBytes s a 1 0).getD []

/-- Lowest link whose word does not match its live word (R64). -/
def linkMismatch (s : State) (sd : List Byte) : Option Nat :=
  (List.range 56).find? fun l =>
    let w : Word := BitVec.ofNat 32 (bytesNat sd (0x20 + 4 * l) 4)
    field w 3 0 != 0 && w != (link s l).word

/-- Step 3: ranges, then the live descriptor (R63, R64). -/
def systemCode (s : State) (a : Nat) : Nat :=
  let sd := sysDesc s a
  let f := bytesNat sd
  let cfg := s.dev.flash.config
  firstCode
    [ (zeroBytes ((sd.drop 0x18).take 8) && zeroBytes (sd.drop 0x106), 4),
      (f 0 4 == 1 && decide (f 4 1 ≤ 4) && decide (f 5 1 ≤ 12) && decide (1 ≤ f 0x16 2) && decide (f 0x16 2 ≤ 4096) &&
        [0, 1, 2, 4].contains (f 7 1) && decide (f 0x10 2 < f 0x12 2) && decide (f 0x14 2 < f 0x12 2), 7),
      (f 6 1 == 1 || (f 6 1 == 0 && !variantH s), 5),
      (f 0x10 2 == cfg.deviceIndex && f 0x12 2 == cfg.deviceCount && f 0x14 2 == cfg.tickMaster &&
        (sd.drop 0x100).take 4 == [2, 6, 12, 10] && f 0x104 2 == 940, 7),
      ((linkMismatch s sd).isNone, 6) ]

/-- The partition table. -/
def partTable (s : State) (a : Nat) : List Nat := ((sectionBytes s a 2 0).getD []).map fun (b : Byte) => b.toNat

/-- R33, R34, R58. -/
def partsOk (parts : List Nat) (servRidges : Nat) : Bool :=
  parts.length == 16 && (parts.all fun p =>
    let rs := (List.range 16).filter fun d => parts.getD d 16 == p
    let n := rs.length
    [1, 2, 4, 8, 16].contains n && p % n == 0 && rs == (List.range n).map (p + ·)) &&
    (servRidges == 0 || (parts.filter (· == 0)).length == servRidges)

/-- A job-table entry. -/
structure JobEnt where
  id : Nat
  kind : Nat
  parts : Nat
  rsvd : List Byte
  windows : Nat
  deriving DecidableEq, Repr

/-- The job table. -/
def jobTable (s : State) (a : Nat) : List JobEnt :=
  let b := (sectionBytes s a 3 0).getD []
  (List.range (b.length / 48)).map fun k =>
    let e := (b.drop (48 * k)).take 48
    ⟨bytesNat e 0 1, bytesNat e 1 1, bytesNat e 2 2, (e.drop 4).take 12, bytesNat e 16 32⟩

/-- R59, R70: job IDs, kinds, partitions of the table, and the placement of the serving job. DESIGN CHOICE (log entry 86): a
partitions bit that names no partition of the table is rejected with 0x09. -/
def jobsOk (js : List JobEnt) (parts : List Nat) (servRidges : Nat) : Bool :=
  let serving := js.filter (·.kind == 1)
  (js.all fun j => decide (j.id < 8) && decide (j.kind ≤ 1) &&
      (List.range 16).all fun p => !bitOf j.parts p || parts.contains p) &&
    noRepeat (js.map fun (j : JobEnt) => (j.id, 0)) && serving.length == (if servRidges = 0 then 0 else 1) &&
    (servRidges == 0 || (serving.all (·.parts == 1) && js.all fun j => j.kind == 1 || !bitOf j.parts 0))

/-- Every instruction of a stream section names a job admitted to the core's partition. -/
def streamJobsOk (s : State) (a : Nat) (js : List JobEnt) (parts : List Nat) (d : DirEnt) : Bool :=
  let p := parts.getD (ridgeOf d.inst) 0
  (chunksLe 8 1024 (physBytes s (a + d.off) d.len)).all fun w =>
    js.any fun j => j.id == bitsOf w 59 57 && bitOf j.parts p

/-- A section of the three streams. -/
def isStream (d : DirEnt) : Bool := d.type == 0x10 || d.type == 0x11 || d.type == 0x12

/-- An output mask keeps to the grid and the edge ports (R31). -/
def outputsOk (c out : Nat) : Bool := portOrder.all fun p => !outBit out p || p == .l || hasLink c p

/-- A route entry of core c with its steering words (R171): only bound and phases are looked at in an entry in use alone. -/
def routeOk (c : Nat) (words : List Word) (e : Word) : Bool :=
  let su := words.getD (64 + rUnit e) 0
  decide (rNet e ≤ 3) && field e 31 28 == 0 && outputsOk c (rOut e) && !(rNet e == 3 && outBit (rOut e) .l) &&
    (rNet e == 0 || (decide (1 ≤ rBound e) && decide (rBound e ≤ 8) && rPhases e != 0)) &&
    (!rSteer e || (field su 1 0 != 0 && (rNet e == 0 || rNet e == 3 || field su 1 0 == rNet e)))

/-- A steering word of core c. -/
def steerOk (c : Nat) (w : Word) : Bool :=
  field w 1 0 != 3 && field w 31 12 == 0 && outputsOk c (field w 6 2) && outputsOk c (field w 11 7)

/-- Step 5: a route-table section. -/
def routesOk (s : State) (a : Nat) (d : DirEnt) : Bool :=
  let ws := (chunksLe 4 72 (physBytes s (a + d.off) d.len)).map (BitVec.ofNat 32)
  (ws.take 64).all (routeOk d.inst ws) && (ws.drop 64).all (steerOk d.inst)

/-- Step 6: a move-list entry (R60). -/
def moveOk (js : List JobEnt) (period f : Nat) (m : MoveEnt) : Bool :=
  js.any (·.id == m.job) && m.hbm % 64 == 0 && decide (1 ≤ m.lines) && decide (m.issueFrame < period) &&
    decide (m.consumer < period) && decide (m.issueTick < f) && decide (m.issueTick + m.deadline ≤ moveDelta period m * f)

/-- The move-list entries of an image. -/
def allMoves (s : State) (a : Nat) : List MoveEnt :=
  ((dirOf s a).filter fun (d : DirEnt) => d.type == 0x20).flatMap fun d => (List.range (d.len / 32)).map (moveEnt s a d)

/-- Steps 4 to 6, the directory and the description being in order. DESIGN CHOICE (log entry 86): the reserved bytes of job entries
and of moves give 0x04 before the checks of their table. -/
def tablesCode (s : State) (a : Nat) : Nat :=
  let sd := sysDesc s a
  let parts := partTable s a
  let js := jobTable s a
  let serv := bytesNat sd 7 1
  firstCode
    [ (((sectionOf s a 2 0).map fun (d : DirEnt) => d.len) == some 16 && partsOk parts serv, 8),
      (js.all fun j => zeroBytes j.rsvd, 4),
      (jobsOk js parts serv, 9),
      ((dirOf s a).all fun d => !isStream d || streamJobsOk s a js parts d, 9),
      ((dirOf s a).all fun d => d.type != 0x13 || routesOk s a d, 10),
      ((allMoves s a).all fun m => m.rsvd == 0, 4),
      ((allMoves s a).all (moveOk js (bytesNat sd 0x16 2) (2 ^ (bytesNat sd 5 1 + 4))), 11) ]

/-- The first failure of verification (R63), 0 for none. DESIGN CHOICE (log entry 74): code 0x04, to which R63 gives no place,
comes after 0x03 in step 2, and the reserved fields of the system description before its ranges. -/
def loadCode (s : State) (a : Nat) : Nat :=
  if !headerOk s a then 1
  else if !digestOk s a then 2
  else if !(directoryOk s a && blocksPlaced s a) then 3
  else if !reservedOk s a then 4
  else if systemCode s a ≠ 0 then systemCode s a
  else tablesCode s a

/-- The image at an address, once verified. -/
def imageAt (s : State) (a : Nat) : Image :=
  let sd := sysDesc s a
  let len := physNat s (a + 0x10) 8
  { addr := a, len := len, id := BitVec.ofNat 64 (physNat s (a + 8) 8),
    window := match windowHolding s a (a + len - 1) with | some w => w.idx | none => 0,
    tickCode := bytesNat sd 4 1, frameCode := bytesNat sd 5 1, period := bytesNat sd 0x16 2, servRidges := bytesNat sd 7 1,
    parts := partTable s a,
    jobs := (jobTable s a).map fun (j : JobEnt) => ⟨j.id, j.kind == 1, BitVec.ofNat 16 j.parts, BitVec.ofNat 256 j.windows⟩ }

/-! ## SCHED_CMD (R62 to R66) -/

/-- Change the schedule. -/
def modSched (f : Sched → Sched) (s : State) : State := { s with sched := f s.sched }

/-- A command that the state ignores. -/
def cmdIgnored (cmd : Nat) (s : State) : State := raiseCe 0x16 0 3 cmd s

/-- Discard the staged image. DESIGN CHOICE (log entry 74): SCHED_ARMED_TICK then reads 0; R66 only says what it holds
once ARM is accepted. -/
def unstage (st : Nat) (x : Sched) : Sched := { x with st := st, lockWin := none, staged := none, shadowReady := false, armedTick := 0 }

/-- LOAD: the window that holds the image is locked from now on; `errs` are the errors of the lines that its verification
reads (R242). -/
def schedLoad (errs : List (Nat × SymErrs)) (s : State) : State :=
  if s.sched.st = 1 ∨ s.sched.st = 3 ∨ !devReady s then cmdIgnored 1 s
  else
    let a := (rget64 s (regKey 0x16 0 0x40 0)).toNat
    let win := (windowHolding s a (a + physNat s (a + 0x10) 8 - 1)).map (·.idx)
    modSched (fun x => { unstage 1 x with loadAddr := a, lockWin := win, loadErrs := errs }) s

/-- VERIFY_DONE. The Crest has read the image, meeting the errors that LOAD gave (R242); a line that it cannot read fails
the digest (DEDUCED, log entry 48). -/
def verifyDone (s : State) : State :=
  if s.sched.st ≠ 1 then s
  else
    let a := s.sched.loadAddr
    let lines := if headerOk s a then ceilDiv (physNat s (a + 0x10) 8) 64 else 2
    let whole := crestRead [(a / 64 * 64, lines)] s.sched.loadErrs s
    let code := if headerOk s a && !whole.1 then 2 else loadCode s a
    let s := whole.2
    match code with
    | 0 =>
      let im := imageAt s a
      modSched (fun x => { x with st := 2, staged := some im, lockWin := some im.window }) s
    | code =>
      let l := if code = 6 then (linkMismatch s (sysDesc s a)).getD 0 else s.sched.link
      raiseCe 0x16 0 0 code (modSched (fun x => { unstage 4 x with reject := code, link := l }) s)

/-- An arm reject: the code is kept, the state stays. -/
def armReject (code : Nat) (s : State) : State := raiseCe 0x16 0 1 code (modSched (fun x => { x with reject := code }) s)

/-- The larger of the old and the new frame length, in ticks of the old tick length (R66). -/
def armStep (s : State) (im : Image) : Nat :=
  max (ticF s) (2 ^ (im.frameCode + 4) * tickLen im.tickCode / ticT s)

/-- The earliest tick that ARM may choose now. -/
def armEarliest (s : State) (im : Image) : Nat :=
  let m := armStep s im
  ceilDiv ((tickN s).toNat + ceilDiv 37600000 (ticT s)) m * m

/-- ARM. -/
def schedArm (s : State) : State :=
  if s.sched.st = 1 ∨ s.sched.st = 3 ∨ !devReady s then cmdIgnored 2 s
  else
    match s.sched.staged with
    | none => armReject 0x10 s
    | some im =>
      let want := (rget64 s (regKey 0x16 0 0x58 0)).toNat
      let a := if want = 0 then armEarliest s im else want
      if rget64 s (regKey 0x16 0 0x50 0) ≠ im.id then armReject 0xC s
      else if a % armStep s im ≠ 0 ∨ a < armEarliest s im then armReject 0xD s
      else if (partsNow s).any (partFrozen s) then armReject 0xE s
      else modSched (fun x => { x with st := 3, armedTick := BitVec.ofNat 64 a, shadowReady := false }) s

/-- ABORT. -/
def schedAbort (s : State) : State :=
  match s.sched.st with
  | 0 => s
  | 3 =>
    if s.tick.running && decide (s.sched.armedTick.toNat ≤ (tickN s).toNat) then cmdIgnored 3 s
    else modSched (fun x => { x with st := 2, armedTick := 0, shadowReady := false }) s
  | _ => modSched (unstage 0) s

/-- A write of SCHED_CMD. -/
def schedCmd (v : Word) (s : State) : State :=
  match field v 3 0 with
  | 1 => schedLoad [] s
  | 2 => schedArm s
  | 3 => schedAbort s
  | _ => s

/-! ## Placement and activation (R67, R68, R180 to R184) -/

/-- Place the shadow half of each of some cores. -/
def placeCores (im : Option Image) : List Nat → State → State
  | [], s => s
  | c :: t, s => placeCores im t (modCore c (placeShadow (secsOf s im c)) s)

/-- SHADOW_READY. -/
def shadowDone (s : State) : State :=
  if s.sched.st = 3 ∧ !s.sched.shadowReady then
    modSched (fun x => { x with shadowReady := true }) (placeCores s.sched.staged (List.range 9216) s)
  else s

/-- A stream waits at its head for a sync release that has not come (R180). -/
def atWait (x : Core) (t : Nat) (st : Stream) : Bool :=
  let y := streamOf x st
  match headCycle (headWord x st) y with
  | some h => decide (t < h)
  | none => true

/-- The units of a core are idle (R104). -/
def unitsIdle (x : Core) : Bool :=
  x.arrayQ.isEmpty && x.array.isNone && x.vecQ.isEmpty && x.vecs.isEmpty && x.movQ.isEmpty && x.movs.isEmpty

/-- R104 and R181: a core with work left at a frame boundary slips with frame overrun. `waits` admits a stream that
waits for its sync release, as the last waits of a serving job at an activation do. -/
def overrunCheck (waits : Bool) (c : Nat) (s : State) : State :=
  let x := core s c
  let still := fun (st : Stream) => (streamOf x st).parked.isSome || (waits && atWait x s.now st)
  if unitsIdle x && [Stream.f, .b, .u].all still then s
  else
    coreSlip c 6 (bit01 (!still .f) + 2 * bit01 (!still .b) + 4 * bit01 (!still .u) + 8 * bit01 (!unitsIdle x)) 8 s

/-- Check each of some cores. -/
def overrunChecks (waits : Bool) : List Nat → State → State
  | [], s => s
  | c :: t, s => overrunChecks waits t (overrunCheck waits c s)

/-- A core swaps its halves and tables at cycle a (R95, R182), and its accumulator slots become zero (R129). The new heads stand at the heads from cycle a on, which is
both a tick and a frame boundary, so that the first step launches at A (R180); none issues in cycle a. -/
def swapCore (colour : BitVec 2) (t c : Nat) (x : Core) : Core :=
  let z := sealedAtSwap c
  { x with half := !x.half, valid := x.validShadow, validShadow := x.valid, tagAt := [], acc := [], accSat := [], lastMma := none, f := .start t, b := .start t,
           u := .start t, issued := t + 1, sregs := [], mask := 0xFFFF, colour := colour, sealed := z,
           sealing := z != BitVec.allOnes 20, lostSeals := 0, spill := false, spillExit := false }

/-- The first flit or token that a switch holds (queues, token queues, landing buffers), with its queue code. DESIGN CHOICE
(log entry 84): of several, the first in the order of the queue codes, then the landing buffers, gives the cause's detail.
A steering unit's current token is no longer in a queue, and is neither a fault nor dropped. -/
def heldFlit (x : Core) : Option (Nat × Flit) :=
  (spillList x ++ [Chan.v0, .v1, .scalar].flatMap fun ch => (landingOf x ch).map fun (f : QFlit) => (5 * chanCode ch + 4, f.flit)).head?

/-- Swap one core; old traffic that it still holds is a stale epoch fault (R183). -/
def swapOne (c : Nat) (s : State) : State :=
  let s := setReg 5 c 0x100 (setField (reg s 5 c 0x100) 0 0 0) (modCore c (swapCore s.sched.colour s.now c) s)
  match heldFlit (core s c) with
  | some (q, f) => raise 5 c 19 1 (epochDetail q f false) (.parts [partOf s c]) s
  | none => s

/-- Swap each of some cores. -/
def swapCores : List Nat → State → State
  | [], s => s
  | c :: t, s => swapCores t (swapOne c s)

/-- The seal that an edge core sends into its bridge die on a channel (Table 6.7). -/
def edgeSeal (colour : BitVec 2) (t c : Nat) (ch : Chan) : EdgeWire :=
  ⟨c, ch, ⟨none, 0, colour, true, true, 0⟩, t + 10⟩

/-- The seals of the edge cores among some cores, but those that an attached die takes without a command. -/
def edgeSeals (cs : List Nat) (s : State) : State :=
  let edge := cs.filter fun c => (edgePort c .n || edgePort c .s) && !idleEdge s c
  let new := edge.flatMap fun c => [Chan.v0, .v1, .scalar, .control].map (edgeSeal s.sched.colour s.now c)
  { s with fab := { s.fab with edge := s.fab.edge ++ new } }

/-- Of the partitions that its Ridges leave, the one in the deepest power state. -/
def deepest (l : List Part) : Option Part :=
  l.foldl (fun b x => if x.st < 6 then b else match b with
    | some y => if y.st < x.st then some x else b
    | none => some x) none

/-- What a new partition takes over from the Ridges it holds: their partitions' states before the activation. One that
holds a Ridge of a partition frozen at A is FROZEN (R68). DESIGN CHOICE (log entry 80): of Ridges in several power states
the deepest gives PART_STAT.state; each Ridge keeps its own power state (R382). -/
def newPart (old : List Part) (parts : List Nat) (p : Nat) : Part :=
  let mine := ((List.range 16).filter fun d => parts.getD d 16 == p).map fun d => old.getD d Part.reset
  if mine.any fun (x : Part) => x.st == 2 then { Part.reset with st := 2 }
  else
    match deepest mine with
    | some x => x
    | none =>
      match mine.find? fun (x : Part) => x.st == 3 || x.st == 5 || x.move.isSome with
      | some x => x
      | none => { Part.reset with st := 1 }

/-- A partition that does not switch: frozen or in a power state. -/
def staysOut (x : Part) : Bool := x.st == 2 || decide (6 ≤ x.st)

/-- Report of a partition that does not run the new image (R68, Table 13.5): its lowest Ridge of a partition frozen at A,
or else its lowest Ridge in a power state. -/
def skipReport (old : List Part) (p : Nat) (s : State) : State :=
  let mine := partRidges s p
  match mine.find? fun d => (old.getD d Part.reset).st == 2 with
  | some d => raiseCe 0x15 p 3 (d + 16) s
  | none =>
    match mine.find? fun d => decide (6 ≤ (old.getD d Part.reset).st) with
    | some d => raiseCe 0x15 p 3 d s
    | none => s

/-- The records of a table block in place of a target's whole table (R312). -/
def replaceTarget (t : Nat) (rs : List (Nat × List Word)) (v : ServeSt) : ServeSt :=
  match t with
  | 4 => { v with map := rs.foldl (fun m r => sset (fun _ => none) m r.1 (some (entryOfData r.2))) [] }
  | 5 => { v with models := rs.foldl (fun m r => sset (fun _ => 0) m r.1 (BitVec.ofNat 32 ((r.2.getD 0 0).toNat % 256))) [],
                  modelPend := [] }
  | 6 =>
    let words := rs.foldl (fun m r => putFrom 0 (82 * r.1) r.2 m) []
    { v with tpl := words, tplStage := words }
  | _ =>
    let lo := 2 ^ 20 * (t - 1)
    { v with tab := rs.foldl (fun m r => putFrom 0 (lo + 8 * r.1) r.2 m) (sdrop (fun k => k / 2 ^ 20 == t - 1) v.tab) }

/-- Replace each target for which the image carries a block. -/
def replaceTargets (s : State) (addr : Nat) : List Nat → ServeSt → ServeSt
  | [], v => v
  | t :: rest, v =>
    let v := if (sectionOf s addr 0x40 t).isSome then replaceTarget t (blockRecords s addr t) v else v
    replaceTargets s addr rest v

/-- The serving lane at an activation (R312, Table 10.5): the feed block of the frame that begins is open, under the number that
the new image gives the frame (R308). -/
def activateServing (im : Image) (s : State) : State :=
  let s := if (sectionOf s im.addr 0x40 4).isSome then endSequences s else s
  let s := modServe (fun v => { replaceTargets s im.addr [1, 2, 3, 4, 5, 6] v with
    first := v.firstTick != (tickN s).toNat + 1, feedFrame := frameNo s }) s
  if gatherOk (portCores s) (field (reg s 0xE 0 0x44) 12 0) then s else setReg 0xE 0 0x44 (BitVec.ofNat 32 7168) s

/-- JOB_ISSUED of every job returns to 0. -/
def zeroIssued (s : State) : State :=
  (List.range 8).foldl (fun s j => setReg 0x16 (1 + j) 0x48 0 (setReg 0x16 (1 + j) 0x4C 0 s)) s

/-- The ledger at an activation (R392, R395). -/
def activateEnergy (s : State) : State :=
  setReg 0x12 0 0x84 0 { s with energy := { s.energy with
    trainPos := 0, devPos := 0, periods := 0, deferred := false, votes := [], actFrame := frameNo s } }

/-- The device stands at the armed activation tick. -/
def activationTick (s : State) : Bool := s.sched.st == 3 && s.tick.running && tickN s == s.sched.armedTick

/-- The image becomes active. M5 is extended by its digest field (Table 15.2). -/
def activate (im : Image) (s : State) : State :=
  let old := (List.range 16).map fun d => part s (partOfRidge s d)
  let stays := (List.range 16).filter fun d => staysOut (old.getD d Part.reset) || ridgePower s d != 0
  let cores := ((List.range 16).filter fun d => !stays.contains d).flatMap ridgeCores
  let serving := (cores.filter fun c => (servingParts s).contains (partOf s c))
  let s := overrunChecks true serving s
  let s := modSched (fun x => { unstage 0 x with active := some im, activeTick := tickN s, activeAt := s.now,
                                                 colour := x.colour + 1 }) s
  let s := { s with parts := [] }
  let ps := (List.range 16).filter im.parts.contains
  let s := ps.foldl (fun s p => setPart p (newPart old im.parts p) s) s
  let s := edgeSeals cores (swapCores cores s)
  let s := measureCounted 5 (physBytes s (im.addr + 0x40) 64) s
  let s := activateServing im (zeroIssued (castVote (activateEnergy s)))
  captures (ps.foldl (fun s p => skipReport old p s) s)

/-- IMAGE_ACTIVATION, in the first cycle of tick A, after the frame boundary that it is. -/
def imageActivation (s : State) : State :=
  if activationTick s && s.sched.shadowReady && s.tick.frameDone && s.now == s.tick.boundAt then
    match s.sched.staged with
    | some im => activate im s
    | none => s
  else s

/-! ## Rows -/

/-- LOAD (R63). -/
def execLoad (src : CrestCmd) (s : State) : Host.Outcome State Fault Refusal :=
  answer (.load src) s <|
    schedLoad src.errs s

/-- VERIFY_DONE (R63). -/
def execVerifyDone (s : State) : Host.Outcome State Fault Refusal :=
  answer (.verifyDone) s <|
    verifyDone s

/-- ARM (R66). -/
def execArm (src : Src) (s : State) : Host.Outcome State Fault Refusal :=
  answer (.arm src) s <|
    schedArm s

/-- ABORT (R62). -/
def execAbort (src : Src) (s : State) : Host.Outcome State Fault Refusal :=
  answer (.abort src) s <|
    schedAbort s

/-- SHADOW_READY (R67). -/
def execShadowReady (s : State) : Host.Outcome State Fault Refusal :=
  answer (.shadowReady) s <|
    shadowDone s

/-- IMAGE_ACTIVATION (R67). -/
def execImageActivation (s : State) : Host.Outcome State Fault Refusal :=
  answer (.imageActivation) s <|
    imageActivation s

end Sys2Proof.Machine
end

