-- ==== Sys2Proof/Machine/Device.lean ====
section
/-! DEFINITION. What the Crest watches: rails and thermal sensors (R40, R41, R394), its management cores and watchdog
(R388), HBM training in service (R251), the field defect log (R371 to R373), and CORE_SRAM_DATA (R109). -/

namespace Sys2Proof.Machine

open Sys2Proof

/-- Change what the Crest keeps of the device. -/
def modDev (f : DevSt → DevSt) (s : State) : State := { s with dev := f s.dev }

/-! ## Thermal sensors (R41, R44) -/

/-- The die codes of R367 that carry thermal sensors. -/
def dieCodes : List Nat := List.range 0x28

/-- Page class and instance of a die, and its cause bits: temp_warn, temp_crit, sensor_fault. -/
structure DieCauses where
  cls : Nat
  inst : Nat
  warn : Nat
  crit : Nat
  fault : Option Nat
  deriving DecidableEq, Repr

/-- The thermal causes of a die. The Cirque page names none for a faulty sensor. -/
def dieCauses (die : Nat) : DieCauses :=
  if die < 0x10 then ⟨3, die, 0, 1, some 6⟩
  else if die < 0x18 then ⟨6, die - 0x10, 13, 14, none⟩
  else if die < 0x26 then ⟨8, die - 0x18, 4, 5, some 6⟩
  else if die = 0x26 then ⟨0xA, 0, 0, 1, some 2⟩
  else ⟨1, 0, 3, 4, some 5⟩

/-- A sensor's last reading, 1/16 °C. -/
def sensorAt (s : State) (die i : Nat) : Int := sget (fun _ => 0) s.dev.sensors (16 * die + i)

/-- The sensors of a die that are not excluded. -/
def goodSensors (s : State) (die : Nat) : List Nat := (List.range 16).filter fun i => !s.dev.sensorBad.contains (16 * die + i)

/-- The hottest sensor of a die, the lowest index among equals, and its reading. DESIGN CHOICE (log entry 74): with all
sixteen sensors excluded, which R44 leaves open, RIDGE_TEMP reads index 0 and 0 °C. -/
def hottest (s : State) (die : Nat) : Nat × Int :=
  match goodSensors s die with
  | [] => (0, 0)
  | i :: t => t.foldl (fun b k => if b.2 < sensorAt s die k then (k, sensorAt s die k) else b) (i, sensorAt s die i)

/-- A reading rises through a threshold. -/
def risesTo (t old new : Int) : Bool := decide (old < t) && decide (t ≤ new)

/-- Exclude sensors that read out of range, with sensor_fault. -/
def excludeSensors : List (Nat × Nat) → State → State
  | [], s => s
  | (die, i) :: t, s =>
    excludeSensors t
      (if s.dev.sensorBad.contains (16 * die + i) then s
       else
         let s := modDev (fun d => { d with sensorBad := d.sensorBad ++ [16 * die + i] }) s
         match (dieCauses die).fault with
         | some b => raiseCe (dieCauses die).cls (dieCauses die).inst b i s
         | none => s)

/-- Exclude the current sensors of some Ridges, which read out of range. DESIGN CHOICE (log entry 82): the detail of
sensor_fault names no index for a current sensor, so it is a free value. -/
def excludeCurrents : List Nat → State → State
  | [], s => s
  | d :: t, s =>
    excludeCurrents t
      (if s.dev.currentBad.contains d || decide (16 ≤ d) then s
       else raiseCe 3 d 6 (Config.freeNat s.free) (drawFree (modDev (fun x => { x with currentBad := x.currentBad ++ [d] }) s)))

/-- THERM_TRIP_N goes low and a temp_crit cause asks for power removal. -/
def tempCrit (cls inst bit detail : Nat) (s : State) : State :=
  raise cls inst bit 2 detail (.fatal true) (modDev (fun d => { d with tripped := true }) s)

/-- The threshold causes of a die whose hottest sensor read `old` before. -/
def dieThreshold (die : Nat) (old : Int) (s : State) : State :=
  let c := dieCauses die
  let h := hottest s die
  let s := if risesTo (105 * 16) old h.2 then raiseCe c.cls c.inst c.warn h.1 s else s
  if risesTo (115 * 16) old h.2 then tempCrit c.cls c.inst c.crit h.1 s else s

/-- The threshold causes of each of some dies. -/
def dieThresholds : List (Nat × Int) → State → State
  | [], s => s
  | (die, old) :: t, s => dieThresholds t (dieThreshold die old s)

/-- A stack reads a temperature (Table 8.12, R239). -/
def stackTemp (k temp : Nat) (s : State) : State :=
  let x := stackOf s k
  let s := setStack k { x with temp := temp, doubleRefresh := decide (85 ≤ temp) } s
  let s := if risesTo 95 x.temp temp then raiseCe 7 k 4 temp s else s
  if risesTo 105 x.temp temp then tempCrit 7 k 5 temp s else s

/-- The temperatures of some stacks. -/
def stackTemps : List (Nat × Nat) → State → State
  | [], s => s
  | (k, temp) :: t, s => stackTemps t (if stackEnabled s k then stackTemp k temp s else s)

/-- The thermal vote of R394. -/
def thermalVote (s : State) : State :=
  let th := reg s 0x12 0 0x48
  let hys := (field th 19 16 : Int)
  let die := (field th 7 0 : Int)
  let hbm := (field th 15 8 : Int)
  let dies := dieCodes.filter fun d => !(goodSensors s d).isEmpty
  let ks := (List.range 24).filter (stackEnabled s)
  let set := (dies.any fun d => decide (die * 16 ≤ (hottest s d).2)) ||
    ks.any fun k => decide (hbm ≤ ((stackOf s k).temp : Int))
  let clear := (dies.all fun d => decide ((hottest s d).2 < (die - hys) * 16)) &&
    ks.all fun k => decide (((stackOf s k).temp : Int) < hbm - hys)
  if set then { s with energy := { s.energy with thermalVote := true } }
  else if clear then { s with energy := { s.energy with thermalVote := false } }
  else s

/-- Store the readings of sensors and die currents. -/
def storeReadings (t : Thermal) (d : DevSt) : DevSt :=
  { d with
    sensors := t.sensors.foldl (fun m e => sset (fun _ => 0) m (16 * e.1 + e.2.1) e.2.2) d.sensors,
    currents := t.currents.foldl (fun m e => sset (fun _ => 0) m e.1 (min e.2 (2 ^ 20 - 1))) d.currents }

/-- THERMAL_SAMPLE. -/
def thermalSample (t : Thermal) (s : State) : State :=
  if !s.dev.up then s
  else
    let old := dieCodes.map fun d => (d, (hottest s d).2)
    let s := excludeCurrents t.badCurrents (excludeSensors t.bad (modDev (storeReadings t) s))
    thermalVote (stackTemps t.hbmTemps (dieThresholds old s))

/-! ## Rails, management cores, watchdog, HBM training -/

/-- RAIL_FAULT (R40), while the device runs. -/
def railFault (rail : Nat) (s : State) : State := if s.dev.up then raise 0 0 7 2 rail (.fatal true) s else s

/-- MANAGEMENT_MEMORY_ERROR (R388). -/
def managementError (m : Nat) (corrected : Bool) (s : State) : State :=
  if corrected then raiseCe 1 0 0 m (bump32 1 0 0x58 0 1 (some (6, 0)) s)
  else
    raise 1 0 1 2 m (.fatal false)
      (modDev (fun d => { d with halted := d.halted ||| BitVec.ofNat 4 (2 ^ m),
                                 running := d.running &&& ~~~BitVec.ofNat 4 (2 ^ m) }) s)

/-- CREST_HEART has kept one value for CREST_WDOG.timeout ms, of 940,000 cycles each; 0 acts as 1 (R388). -/
def heartLost (s : State) : Bool :=
  let w := reg s 1 0 0x4C
  w.getLsbD 16 && decide (s.dev.heartAt + 940000 * max 1 (field w 15 0) ≤ s.now)

/-- CREST_HEART takes a value that Trotos writes. -/
def heartWrite (v : Word) (s : State) : State :=
  if v = s.dev.heart then s else modDev (fun d => { d with heart := v, heartAt := s.now }) s

/-- WATCHDOG_EXPIRY (R388): a warm reset is to start, whatever DEV_CFG.fatal_reset holds. -/
def watchdogExpiry (s : State) : State :=
  if s.dev.up && heartLost s then
    modDev (fun d => { d with warm := some .watchdog }) (raise 1 0 2 2 0 (.fatal false) s)
  else s

/-- LOSS_OF_HBM_TRAINING (R251). -/
def trainingLoss (k pseudo : Nat) (s : State) : State :=
  if (stackOf s k).trained then
    raise 7 k 3 2 pseudo (.fatal false) (setStack k { stackOf s k with trained := false } s)
  else s

/-- BRINGUP_BOUND (Table 13.11), of the step in progress. -/
def boundPassed (step : Nat) (s : State) : State :=
  if s.dev.up && step == s.dev.step && !devReady s then raiseCe 0 0 9 step s else s

/-! ## The field defect log (R371 to R373) -/

/-- An entry's 16 bytes (Table 13.3). -/
def defectBytes (e : DefectEntry) : List Byte :=
  leBytes 2 (e.core.ridge % 16 + 2 ^ 4 * (e.core.col % 32) + 2 ^ 9 * (e.core.row % 32) + 2 ^ 14 * (e.kind % 4)) ++
  leBytes 2 0 ++ leBytes 8 e.boot ++ leBytes 4 e.tick.toNat

/-- The log's bytes 0 to 0x03F + 16n. -/
def logBody (l : DefectLog) : List Byte :=
  leBytes 4 l.magic.toNat ++ leBytes 2 l.version ++ leBytes 2 l.entries.length ++ leBytes 8 l.boot ++ List.replicate 48 0 ++
  (l.entries.map defectBytes).flatten

/-- The log's digest, which DEV_DLOG_DIGEST shows. -/
def logDigest (l : DefectLog) : List Byte := shake256 64 (logBody l)

/-- The private seed of the identity key (R405). -/
def identitySeed (s : State) : List Byte := shake256 57 (asciiBytes "FT9-IDENTITY" ++ s.dev.fuses.secret)

/-- The identity public key. -/
def identityPublic (s : State) : List Byte := edPublic (identitySeed s)

/-- Sign a log. -/
def signLog (s : State) (l : DefectLog) : DefectLog := { l with signature := edSign (identitySeed s) (logDigest l) }

/-- A log found in flash is valid (R372). -/
def logValid (s : State) (l : DefectLog) : Bool :=
  l.magic == 0x474F4C44 && l.version == 1 && decide (l.entries.length ≤ 1024) &&
    edVerify (identityPublic s) (logDigest l) l.signature

/-- The log names a core. -/
def logNames (l : DefectLog) (p : PhysCore) : Bool := l.entries.any fun e => e.core == p

/-- The log in force; an empty one where none is kept. -/
def defectLog (s : State) : DefectLog :=
  match s.dev.log with
  | some l => l
  | none => ⟨0x474F4C44, 1, 1, [], []⟩

/-- Sign the log that Trotos keeps and write it to flash; a failed write raises defect_log_write. -/
def writeLog (l : DefectLog) (flashOk : Bool) (s : State) : State :=
  let l := signLog s l
  let s := modDev (fun d => { d with log := some l, logFailed := !flashOk }) s
  if flashOk then modDev (fun d => { d with flash := { d.flash with log := some l } }) s else raiseCe 0 0 6 0 s

/-- A full log takes no entry; defect_log_full is raised once. -/
def logIsFull (s : State) : State :=
  if s.dev.logFull then s else raiseCe 0 0 5 0 (modDev (fun d => { d with logFull := true }) s)

/-- DEFECT_LOG_WRITE (R373): for a core that failed in service. -/
def defectLogWrite (p : PhysCore) (flashOk : Bool) (s : State) : State :=
  match s.dev.toLog.find? (·.1 == p) with
  | none => s
  | some (_, tick) =>
    if !s.dev.trotos then s
    else
      let l := defectLog s
      let s := modDev (fun d => { d with toLog := d.toLog.filter (·.1 != p) }) s
      if logNames l p then s
      else if 1024 ≤ l.entries.length then logIsFull s
      else writeLog { l with entries := l.entries ++ [⟨p, 2, l.boot, tick⟩] } flashOk s

/-! ## CORE_SRAM_DATA (R109) -/

/-- The access is permitted: the core is frozen, or the active image does not assign its Ridge. -/
def sramDataOk (s : State) (c : Nat) : Bool := coreFrozen s c || !assigned s

/-- Byte address that CORE_SRAM_ADDR names, in core c's store. -/
def sramDataAddr (s : State) (c : Nat) : Nat := 2 ^ 19 * c + (field (reg s 5 c 0x80) 18 2 * 4) % 458752

/-- CORE_SRAM_ADDR advances by 4, modulo 448 KiB. -/
def sramAdvance (c : Nat) (s : State) : State :=
  setReg 5 c 0x80 (BitVec.ofNat 32 ((field (reg s 5 c 0x80) 18 2 * 4 + 4) % 458752)) s

/-- CORE_SRAM_DATA_READ: the word and the state after. Data withheld by an uncorrectable error reads as a free value. -/
def sramDataRead (c : Nat) (ecc : Ecc) (s : State) : Word × State :=
  if sramDataOk s c then
    let v : Word := BitVec.ofNat 32 (leNat (memBytes s.sram (sramDataAddr s c) 4))
    let s' := sramAdvance c (sramCheck c ecc s)
    if dataWithheld ecc then (BitVec.ofNat 32 (Config.freeNat s.free), drawFree s') else (v, s')
  else (0, raiseCe 5 c 12 0 s)

/-- CORE_SRAM_DATA_WRITE. -/
def sramDataWrite (c : Nat) (v : Word) (s : State) : State :=
  if sramDataOk s c then
    let s := noteSram c [sramDataAddr s c / 64 % 2 ^ 13] s
    sramAdvance c { s with sram := memPut s.sram (sramDataAddr s c) (leBytes 4 v.toNat) }
  else raiseCe 5 c 12 0 s

/-! ## Rows -/

/-- RAIL_FAULT (R40). -/
def execRailFault (rail : Nat) (s : State) : Host.Outcome State Fault Refusal :=
  answer (.railFault rail) s <|
    railFault rail s

/-- WATCHDOG_EXPIRY (R388). -/
def execWatchdogExpiry (s : State) : Host.Outcome State Fault Refusal :=
  answer (.watchdogExpiry) s <|
    watchdogExpiry s

/-- THERMAL_SAMPLE (R41). -/
def execThermalSample (t : Thermal) (s : State) : Host.Outcome State Fault Refusal :=
  answer (.thermalSample t) s <|
    thermalSample t s

/-- DEFECT_LOG_WRITE (R373). -/
def execDefectLogWrite (core : PhysCore) (flashOk : Bool) (s : State) : Host.Outcome State Fault Refusal :=
  answer (.defectLogWrite core flashOk) s <|
    defectLogWrite core flashOk s

/-- LOSS_OF_HBM_TRAINING (R251). -/
def execLossOfHbmTraining (dt stack pseudo : Nat) (s : State) : Host.Outcome State Fault Refusal :=
  answer (.lossOfHbmTraining dt stack pseudo) s <|
    trainingLoss stack pseudo (elapse dt s)

/-- MANAGEMENT_MEMORY_ERROR (R388). -/
def execManagementMemoryError (core : Nat) (corrected : Bool) (s : State) : Host.Outcome State Fault Refusal :=
  answer (.managementMemoryError core corrected) s <|
    managementError core corrected s

/-- BRINGUP_BOUND (R386). -/
def execBringupBound (step : Nat) (s : State) : Host.Outcome State Fault Refusal :=
  answer (.bringupBound step) s <|
    boundPassed step s

/-- CORE_SRAM_DATA_READ (R109). -/
def execCoreSramDataRead (src : Src) (core : Nat) (ecc : Ecc) (s : State) : Host.Outcome State Fault Refusal :=
  answer (.coreSramDataRead src core ecc) s <|
    (sramDataRead core ecc s).2

/-- CORE_SRAM_DATA_WRITE (R109). -/
def execCoreSramDataWrite (src : Src) (core : Nat) (value : Word) (s : State) : Host.Outcome State Fault Refusal :=
  answer (.coreSramDataWrite src core value) s <|
    if coreOff s core then s else sramDataWrite core value s

end Sys2Proof.Machine
end

