-- ==== Sys2Proof/Machine/Firmware.lean ====
section
/-! DEFINITION. Firmware packages and their verification (R401 to R406), SEC_CMD (R411 to R415), and the attestation
report (R416, R417). -/

namespace Sys2Proof.Machine

open Sys2Proof

/-! ## Packages (R401) -/

/-- A field of bytes as a number. -/
def leField (b : List Byte) (o n : Nat) : Nat := leNat ((b.drop o).take n)

/-- Body length that a component's header gives. -/
def bodyLen (c : Component) : Nat := leField c.header 0xC 4

/-- The component at the head of some bytes. -/
def componentAt (b : List Byte) : Component :=
  ⟨b.take 320, (b.drop 320).take (leField b 0xC 4)⟩

/-- The component's header and body lie within the package. -/
def complete (c : Component) : Bool := c.header.length == 320 && c.body.length == bodyLen c

/-- Where a header with the magic and kind 3 of Table 15.1 begins in some bytes, the first of which is byte `k`. -/
def microHeaders (k : Nat) : List Byte → List Nat
  | [] => []
  | x :: l => if leNat ((x :: l).take 5) = 0x34D495746 then k :: microHeaders (k + 1) l else microHeaders (k + 1) l

/-- The place of the microcode in the body of stage 2: one at which such a header begins (log entry 58). -/
def microPlace (body : List Byte) : Nat :=
  (microHeaders 0 body).getD (Config.microcodeAt body % (microHeaders 0 body).length) 0

/-- Stage 1 and stage 2, with the microcode and the event charges in the body of stage 2 (R401, R390; log entry 58). -/
def packageOf (b : List Byte) : Package :=
  let s1 := componentAt b
  let s2 := componentAt (b.drop (320 + bodyLen s1))
  ⟨s1, s2, componentAt (s2.body.drop (microPlace s2.body)), Config.eventCharges s2.body⟩

/-- Component digest. -/
def componentDigest (c : Component) : List Byte := shake256 64 (c.header.take 0xC0)

/-- Package digest. -/
def packageDigest (p : Package) : List Byte :=
  shake256 64 (componentDigest p.stage1 ++ componentDigest p.stage2 ++ componentDigest p.microcode)

/-- Vendor key slot of a component. -/
def keySlotOf (c : Component) : Nat := leField c.header 5 1

/-- Security version of a component. -/
def svnOf (c : Component) : Nat := leField c.header 6 1

/-- The component of a kind. -/
def componentOf (p : Package) (kind : Nat) : Component :=
  if kind = 1 then p.stage1 else if kind = 2 then p.stage2 else p.microcode

/-! ## Verification (R402) -/

/-- Bytes a to b - 1 are 0. -/
def zeroRange (b : List Byte) (lo hi : Nat) : Bool := ((b.take hi).drop lo).all (· == 0)

/-- A key slot is 0 to 2, programmed and not revoked. -/
def slotUsable (s : State) (k : Nat) : Bool :=
  decide (k ≤ 2) && s.dev.fuses.programmed.getLsbD k && !s.dev.fuses.revoked.getLsbD k

/-- The digest of a public key is the one fused for a slot. -/
def keyFused (s : State) (k : Nat) (pub : List Byte) : Bool := shake256 64 pub == s.dev.fuses.keyDigests.getD k []

/-- The reason for which a component of a package does not verify; 0: it verifies. -/
def verifyCode (s : State) (p : Package) (kind : Nat) : Nat :=
  let c := componentOf p kind
  let h := c.header
  let pub := (h.drop 0x80).take 57
  let formed := complete c && leField h 0 4 == 0x4D495746 && leField h 4 1 == kind && zeroRange h 7 8 && zeroRange h 0x10 0x40 &&
    zeroRange h 0xB9 0xC0 && zeroRange h 0x132 0x140
  let sameSvn := svnOf p.stage1 == svnOf p.stage2 && svnOf p.stage1 == svnOf p.microcode
  firstCode
    [ (formed, 2),
      (slotUsable s (keySlotOf c), 3),
      (keyFused s (keySlotOf c) pub, 4),
      (decide (s.dev.fuses.rollback ≤ svnOf c) && sameSvn, 5),
      (shake256 64 c.body == (h.drop 0x40).take 64, 6),
      (edVerify pub (componentDigest c) ((h.drop 0xC0).take 114), 7) ]

/-- The first reason among the three components. -/
def packageCode (s : State) (p : Package) : Nat :=
  firstCode ([1, 2, 3].map fun k => (verifyCode s p k == 0, verifyCode s p k))

/-! ## The update state (R412, R413) -/

/-- SEC_UPD.state: 0 NONE, 1 STAGED, 2 TRIAL, 3 FALLBACK. -/
def updState (s : State) : Nat := field (reg s 0x10 0 0x48) 1 0

/-- Set SEC_UPD.state. -/
def setUpd (st : Nat) (s : State) : State := setReg 0x10 0 0x48 (setField (reg s 0x10 0 0x48) 1 0 st) s

/-- Set SEC_UPD.reason. -/
def setUpdReason (r : Nat) (s : State) : State := setReg 0x10 0 0x48 (setField (reg s 0x10 0 0x48) 15 12 r) s

/-- Change the boot record. -/
def modRecord (f : BootRecord → BootRecord) (s : State) : State :=
  modDev (fun d => { d with flash := { d.flash with record := f d.flash.record } }) s

/-- The package in slot A (false) or B (true). -/
def flashSlot (s : State) (b : Bool) : Option Package := if b then s.dev.flash.slotB else s.dev.flash.slotA

/-- Write a slot. -/
def setFlashSlot (b : Bool) (p : Option Package) (s : State) : State :=
  modDev (fun d => { d with flash := if b then { d.flash with slotB := p } else { d.flash with slotA := p } }) s

/-- The slot that the boot record does not name active. -/
def inactiveSlot (s : State) : Bool := !s.dev.flash.record.activeB

/-- SEC_STAGED_DIG. -/
def setStagedDigest (b : List Byte) (s : State) : State :=
  (List.range 16).foldl (fun s i => setReg 0x10 0 (0xA0 + 4 * i) (BitVec.ofNat 32 (leField b (4 * i) 4)) s) s

/-- The state STAGED, with the slot, svn and digest of its package. -/
def setStaged (p : Package) (s : State) : State :=
  let r := setField (setField (setField (reg s 0x10 0 0x48) 1 0 1) 2 2 (bit01 (inactiveSlot s))) 10 4 (svnOf p.stage1)
  setStagedDigest (packageDigest p) (setReg 0x10 0 0x48 r s)

/-- A trial succeeds: its slot becomes the active one. -/
def trialSuccess (s : State) : State :=
  setUpd 0 (modDev (fun d => { d with trial := none })
    (modRecord (fun r => { r with activeB := !r.activeB, trial := false, staged := false, fallback := false }) s))

/-- A trial fails: a second warm reset, from the active slot, is to start. -/
def trialFail (reason : Nat) (s : State) : State :=
  setUpdReason reason (setUpd 3 (modDev (fun d => { d with trial := none, warm := some .firmware })
    (modRecord (fun r => { r with trial := false, staged := false, fallback := true }) s)))

/-- TRIAL_TIMEOUT: 1.3 s, 1,222,000,000 cycles, after the start of the warm reset. A device that became ready later has failed
the trial. -/
def trialTimeout (s : State) : State :=
  match s.dev.trial with
  | none => s
  | some t =>
    let late := decide (t + 1222000000 < s.now)
    let s := passTo (t + 1222000000) s
    if trialOk s && !late then trialSuccess s else raiseCe 0 0 9 s.dev.step (trialFail 0 s)

/-! ## SEC_CMD (R411) -/

/-- SEC_BLOB. -/
def secBlob (s : State) : List Byte :=
  ((List.range 64).map fun i => leBytes 4 (reg s 0x10 0 (0x100 + 4 * i)).toNat).flatten

/-- A command ends with a result; one other than 0 raises cmd_reject. -/
def secEnd (cmd result : Nat) (s : State) : State :=
  let s := modSec (fun x => { x with result := result, last := cmd }) s
  if result = 0 then s else raiseCe 0x10 0 1 (cmd + 16 * result) s

/-- No flash slots are in use (R408). -/
def noSlots (s : State) : Bool := field (reg s 0 0 0x40) 20 19 == 1

/-- STAGE: on acceptance the package is on its way into the inactive slot. `errs` gives the errors of the lines read (R242);
a package that cannot be read fails its body digest (DEDUCED, log entry 48). -/
def secStage (errs : List (Nat × SymErrs)) (s : State) : State :=
  let a := (rget64 s (regKey 0x10 0 0x4C 0)).toNat % 2 ^ 40
  let n := field (reg s 0x10 0 0x54) 25 0
  if noSlots s then secEnd 1 10 (setUpdReason 10 s)
  else
    let p := packageOf (physBytes s a n)
    let fits := decide (a % 64 = 0) && decide (n ≤ 2 ^ 25)
    let whole := if fits then crestRead [(a, ceilDiv n 64)] errs s else (true, s)
    let code := if !fits then 2 else if !whole.1 then 6 else packageCode s p
    let s := whole.2
    if code = 0 then
      let s := setFlashSlot (inactiveSlot s) none (modRecord (fun r => { r with staged := false, fallback := false }) (setUpd 0 s))
      modSec (fun x => { x with staging := some p, last := 1 }) s
    else secEnd 1 code (setUpdReason code s)

/-- STAGE_DONE: the package is written and read back, or the write failed. -/
def stageDone (ok : Bool) (s : State) : State :=
  match s.sec.staging with
  | none => s
  | some p =>
    let s := modSec (fun x => { x with staging := none }) s
    if ok then
      secEnd 1 0 (setStaged p (modRecord (fun r => { r with staged := true }) (setFlashSlot (inactiveSlot s) (some p) s)))
    else secEnd 1 9 (setUpdReason 9 s)

/-- ABORT. -/
def secAbort (s : State) : State :=
  if noSlots s then secEnd 2 10 s
  else if updState s = 1 ∨ updState s = 3 then
    secEnd 2 0 (setUpd 0 (modRecord (fun r => { r with staged := false, fallback := false }) s))
  else secEnd 2 8 s

/-- ACTIVATE. -/
def secActivate (s : State) : State :=
  if noSlots s then secEnd 3 10 s
  else if updState s = 1 then
    secEnd 3 0 (setUpd 2 (modDev (fun d => { d with warm := some .firmware })
      (modRecord (fun r => { r with trial := true, staged := false }) s)))
  else secEnd 3 8 s

/-- Change the fuses. -/
def modFuses (f : Fuses → Fuses) (s : State) : State := modDev (fun d => { d with fuses := f d.fuses }) s

/-- COMMIT_SVN. The fuses read back a count up to the running svn, which alone is success; the row has 64 fuses (R404). -/
def secCommit (s : State) : State :=
  let now := s.dev.fuses.rollback
  let staged := field (reg s 0x10 0 0x48) 10 4
  if now < s.sec.svn ∧ (updState s ≠ 1 ∨ s.sec.svn ≤ staged) then
    let blown := now + Config.freeNat s.free % (min 64 s.sec.svn - now + 1)
    let s := drawFree (modFuses (fun f => { f with rollback := blown }) s)
    if blown = s.sec.svn then secEnd 4 0 s else secEnd 4 9 (raiseCe 0x10 0 3 0 s)
  else secEnd 4 8 s

/-- The check of R414 that a signed blob fails; 0: it is accepted. -/
def blobCode (s : State) (cmd : Nat) : Nat :=
  let b := secBlob s
  let slot := leField b 5 1
  let pub := (b.drop 0x28).take 57
  firstCode
    [ (s.sec.chal == some ((b.drop 8).take 32), 11),
      (slotUsable s slot, 3),
      (keyFused s slot pub, 4),
      (edVerify pub (shake256 64 (b.take 0x64 ++ identityPublic s)) ((b.drop 0x64).take 114), 7),
      (leField b 4 1 == cmd, 2) ]

/-- The challenge is used up. -/
def useChallenge (s : State) : State := modSec (fun x => { x with chal := none }) s

/-- Key slot of the active flash package. -/
def activeKeySlot (s : State) : Option Nat := (flashSlot s s.dev.flash.record.activeB).map fun p => keySlotOf p.stage1

/-- REVOKE. -/
def secRevoke (s : State) : State :=
  let slot := leField (secBlob s) 6 1
  let code := blobCode s 5
  let s' := useChallenge s
  if code ≠ 0 then secEnd 5 code s'
  else if 2 < slot then secEnd 5 2 s'
  else if slot = leField (secBlob s) 5 1 ∨ activeKeySlot s = some slot then secEnd 5 13 s'
  else if Config.freeNat s.free % 2 = 0 then
    secEnd 5 0 (drawFree (modFuses (fun f => { f with revoked := f.revoked ||| BitVec.ofNat 3 (2 ^ slot) }) s'))
  else secEnd 5 9 (raiseCe 0x10 0 3 1 (drawFree s'))

/-- CHALLENGE. -/
def secChallenge (s : State) : State :=
  secEnd 6 0 (drawFree (modSec (fun x => { x with chal := some (randomBytes s 32) }) s))

/-- Secrets are present: a key generation is loaded, or the admission is installed. -/
def secretsPresent (s : State) : Bool :=
  (s.mem.keys.any fun e => e.2.g0.isSome || e.2.g1.isSome) || s.host.adm == 2

/-- JTAG_UNLOCK. -/
def secJtag (s : State) : State :=
  let code := blobCode s 7
  let slot := leField (secBlob s) 5 1
  let s' := useChallenge s
  if code ≠ 0 then secEnd 7 code s'
  else if secretsPresent s then secEnd 7 12 s'
  else
    secEnd 7 0 (raiseCe 0x10 0 2 slot
      (measureCounted 7 (shake256 64 ((secBlob s).take 0x64)) (modSec (fun x => { x with jtag := true }) s')))

/-- EXTEND. -/
def secExtend (s : State) : State := secEnd 8 0 (measureCounted 6 ((secBlob s).take 64) s)

/-- A write of SEC_CMD. While a STAGE is in progress every command is rejected with reason 1, and one that names the
challenge uses it up all the same (R411, R414). -/
def secCmd (cmd : Nat) (s : State) : State :=
  if cmd = 0 ∨ 8 < cmd then s
  else if s.sec.staging.isSome then secEnd cmd 1 (if cmd = 5 ∨ cmd = 7 then useChallenge s else s)
  else
    match cmd with
    | 1 => secStage [] s
    | 2 => secAbort s
    | 3 => secActivate s
    | 4 => secCommit s
    | 5 => secRevoke s
    | 6 => secChallenge s
    | 7 => secJtag s
    | _ => secExtend s

/-! ## The attestation report (R416, R417) -/

/-- ATTEST_NONCE as written. -/
def nonceBytes (s : State) : List Byte :=
  ((List.range 16).map fun i => leBytes 4 (reg s 0x11 0 (0x80 + 4 * i)).toNat).flatten

/-- A write of ATTEST_NONCE word i. Word 15 starts a report; while Trotos does not run, the write is dropped. -/
def nonceWrite (i : Nat) (v : Word) (s : State) : State :=
  if !s.dev.trotos then s
  else if i = 15 then
    if s.sec.nonce.isSome then raiseCe 0x11 0 0 0 s
    else
      let s := setReg 0x11 0 0xBC v s
      modSec (fun x => { x with nonce := some (nonceBytes s) }) s
  else setReg 0x11 0 (0x80 + 4 * i) v s

/-- Report byte 0x026. -/
def reportFlags (s : State) : Nat :=
  s.dev.fuses.revoked.toNat + 8 * bit01 s.sec.jtag + 16 * bit01 (!s.host.admPub.isEmpty) + 32 * bit01 s.sec.slotB +
    64 * bit01 s.sec.net

/-- A buffer of n bytes. -/
def padTo (n : Nat) (b : List Byte) : List Byte := (b ++ List.replicate n 0).take n

/-- Report bytes 0x000 to 0x33F, for a nonce. -/
def reportBody (s : State) (nonce : List Byte) : List Byte :=
  let staged := if updState s = 1 then
      ((List.range 16).map fun i => leBytes 4 (reg s 0x10 0 (0xA0 + 4 * i)).toNat).flatten else zero64
  leBytes 4 0x52413954 ++ leBytes 2 1 ++ leBytes 1 (bit01 (variantH s)) ++ leBytes 1 (updState s) ++
  leBytes 4 s.sec.extensions ++ leBytes 4 (reg s 0 0 0x54).toNat ++ leBytes 8 s.dig.dev.toNat ++ leBytes 8 (tickN s).toNat ++
  leBytes 4 s.sec.version.toNat ++ leBytes 1 s.sec.svn ++ leBytes 1 s.dev.fuses.rollback ++ leBytes 1 (reportFlags s) ++ [0] ++
  leBytes 8 s.sec.reports ++ List.replicate 16 0 ++ padTo 64 nonce ++ ((List.range 8).map (meas s)).flatten ++
  logDigest (defectLog s) ++ staged ++ padTo 56 s.host.admPub ++ List.replicate 8 0

/-- ATTEST_REPORT_DONE. -/
def reportDone (s : State) : State :=
  match s.sec.nonce with
  | none => s
  | some n =>
    let b := reportBody s n
    modSec (fun x => { x with nonce := none, report := some (b ++ edSign (identitySeed s) (shake256 64 b)),
                              reports := x.reports + 1 }) s

/-! ## Rows -/

/-- STAGE (R411). -/
def execStage (src : CrestCmd) (s : State) : Host.Outcome State Fault Refusal :=
  answer (.stage src) s <|
    if s.sec.staging.isSome then secCmd 1 s else secStage src.errs s

/-- STAGE_DONE (R411). -/
def execStageDone (dt : Nat) (ok : Bool) (s : State) : Host.Outcome State Fault Refusal :=
  answer (.stageDone dt ok) s <|
    stageDone ok (elapse dt s)

/-- UPDATE_ABORT (R411). -/
def execUpdateAbort (src : Src) (s : State) : Host.Outcome State Fault Refusal :=
  answer (.updateAbort src) s <|
    secCmd 2 s

/-- ACTIVATE (R412). -/
def execActivate (src : Src) (s : State) : Host.Outcome State Fault Refusal :=
  answer (.activate src) s <|
    secCmd 3 s

/-- COMMIT_SVN (R411). -/
def execCommitSvn (src : Src) (s : State) : Host.Outcome State Fault Refusal :=
  answer (.commitSvn src) s <|
    secCmd 4 s

/-- REVOKE (R414). -/
def execRevoke (src : Src) (s : State) : Host.Outcome State Fault Refusal :=
  answer (.revoke src) s <|
    secCmd 5 s

/-- CHALLENGE (R411). -/
def execChallenge (src : Src) (s : State) : Host.Outcome State Fault Refusal :=
  answer (.challenge src) s <|
    secCmd 6 s

/-- JTAG_UNLOCK (R414). -/
def execJtagUnlock (src : Src) (s : State) : Host.Outcome State Fault Refusal :=
  answer (.jtagUnlock src) s <|
    secCmd 7 s

/-- EXTEND (R409). -/
def execExtend (src : Src) (s : State) : Host.Outcome State Fault Refusal :=
  answer (.extend src) s <|
    secCmd 8 s

/-- TRIAL_TIMEOUT (R412). -/
def execTrialTimeout (dt : Nat) (s : State) : Host.Outcome State Fault Refusal :=
  answer (.trialTimeout dt) s <|
    trialTimeout (elapse dt s)

/-- ATTEST_REQUEST (R416). -/
def execAttestRequest (src : Src) (value : Word) (s : State) : Host.Outcome State Fault Refusal :=
  answer (.attestRequest src value) s <|
    nonceWrite 15 value s

/-- ATTEST_REPORT_DONE (R417). -/
def execAttestReportDone (dt : Nat) (s : State) : Host.Outcome State Fault Refusal :=
  answer (.attestReportDone dt) s <|
    reportDone (elapse dt s)

end Sys2Proof.Machine
end

