-- ==== Sys2Proof/Machine/Links.lean ====
section
/-! DEFINITION. The chip-to-chip links (09_links.md): slots through the Col dies, frames, verdicts, replay, delivery and
training. -/

namespace Sys2Proof.Machine

open Sys2Proof

/-! ## Places and times -/

/-- The device's cycle count T·N + position in tick, which every device shares (R257). -/
def sharedCycle (s : State) : Nat := ticT s * (tickN s).toNat + (s.now - s.tick.boundAt)

/-- Col die and index in its group of an edge core, where it belongs to one. -/
def colOf (c : Nat) : Option (Nat × Nat) :=
  ((List.range 14).findSome? fun n => (List.range 8).findSome? fun i => if colCore n i = c then some (n, i) else none)

/-- The two edge cores of a link (R30). -/
def linkCores (l : Nat) : Nat × Nat := (colCore (l / 4) (2 * (l % 4)), colCore (l / 4) (2 * (l % 4) + 1))

/-- A list of numbers without repeats, rising. -/
def rising (l : List Nat) : List Nat := (List.range 16).filter l.contains

/-- The partitions that consume a link's flits (R268). -/
def linkConsumers (s : State) (l : Nat) : List Nat :=
  let e := linkCores l
  let own := ((List.range 4).map fun k => ((engine s (l / 4) k).slots.filter fun y => y.links.contains (l % 4)).map (·.owner)).flatten
  rising (partOf s e.1 :: partOf s e.2 :: own)

/-- Latency of a link in its live word (R274). -/
def wordLatency (w : Word) : Nat := field w 15 4

/-- Raise a link slip (Table 2.12): code 0x04 with the link as unit. -/
def linkSlip (l bit detail : Nat) (s : State) : State := slip 9 l bit detail 4 l (linkConsumers s l) s

/-- Raise slip 0x05 on the COL page of a link (R266). -/
def colSlip (l bit detail : Nat) (ps : List Nat) (s : State) : State := slip 8 (l / 4) bit detail 5 (0x100 + l) ps s

/-- Change a link. -/
def modLink (l : Nat) (f : Link → Link) (s : State) : State := setLink l (f (link s l)) s

/-! ## Into the link (R260, R261, R266) -/

/-- Slot kind of a channel (Table 9.4). -/
def slotKind : Chan → BitVec 3
  | .v0 => 1
  | .v1 => 2
  | .scalar => 3
  | .control => 4

/-- Bits [9:0] of a flit header (Table 6.2). -/
def netHeader (ch : Chan) (f : Flit) : BitVec 10 :=
  let last := f.last && (ch == .v0 || ch == .v1)
  BitVec.ofNat 10 (f.route.toNat + 2 ^ 6 * f.colour.toNat + 2 ^ 8 * bit01 f.isSeal + 2 ^ 9 * bit01 last)

/-- Payload of a slot: a line, a word in bytes 0-3, or a token in byte 0. -/
def slotPayload (ch : Chan) (f : Flit) : Line :=
  match ch with
  | .scalar => BitVec.ofNat 512 (f.payload.toNat % 2 ^ 32)
  | .control => BitVec.ofNat 512 (f.payload.toNat % 2 ^ 8)
  | _ => f.payload

/-- Order of waiting flits (R260): take cycle, kind, then edge core. -/
def txBefore (a b : TxSlot) : Bool :=
  decide (a.take < b.take) || (a.take == b.take && (decide (a.slot.kind.toNat < b.slot.kind.toNat) ||
    (a.slot.kind == b.slot.kind && decide (a.core < b.core))))

/-- Insert into an outbound queue. -/
def txInsert (x : TxSlot) : List TxSlot → List TxSlot
  | [] => [x]
  | y :: t => if txBefore x y then x :: y :: t else y :: txInsert x t

/-- Note the highest outbound occupancy of a Col die (COL_QHIGH). -/
def noteQHigh (l : Nat) (s : State) : State :=
  let n := (link s l).outQ.length
  if field (reg s 8 (l / 4) 0x48) 6 0 < n then setReg 8 (l / 4) 0x48 (BitVec.ofNat 32 (n + 2 ^ 8 * (l % 4))) s else s

/-- Count scheduled slots that a frozen link discards (R270). -/
def linkDrop (l n : Nat) (s : State) : State := if n = 0 then s else bump32 9 l 0x8C 0 n (some (8, 7)) s

/-- A flit taken for a link: queued, dropped where the link is frozen, or tx_overflow. -/
def takeForLink (c l : Nat) (ch : Chan) (f : Flit) (s : State) : State :=
  let x := link s l
  if x.frozen then linkDrop l 1 s
  else if 64 ≤ x.outQ.length then colSlip l 1 (l % 4 + 4 * f.route.toNat) [partOf s c] s
  else
    let t : TxSlot := ⟨⟨netHeader ch f, slotKind ch, 0, false, slotPayload ch f⟩, s.now, c, f.job⟩
    noteQHigh l (setLink l { x with outQ := txInsert t x.outQ } s)

/-- COL_TAKE. A Col die takes a flit that an edge core forwarded, 10 cycles after the forward: to the link of the core's
pair, or to a reduction engine (Table 9.5). The freed entry's credit returns 10 cycles later. A seal ends here. -/
def colTake (c : Nat) (ch : Chan) (s : State) : State :=
  match s.fab.edge.find? fun y => y.core == c && y.ch == ch && decide (y.due ≤ s.now), colOf c with
  | some y, some (n, i) =>
    let s := { s with fab := { s.fab with edge := eraseFirst (fun z => z == y) s.fab.edge } }
    if y.flit.isSeal then s
    else
      let s := { s with fab := { s.fab with credits := s.fab.credits ++ [⟨c, ch, edgeInput c, s.now + 10⟩] } }
      let r := y.flit.route.toNat
      if r < 48 then takeForLink c (4 * n + i / 2) ch y.flit s
      else engineArrive n (r % 4) (.grid i) ⟨y.flit.job, y.flit.payload, y.flit.last, c⟩ s
  | _, _ => s

/-! ## Frames out (R257 to R260, R265, R277) -/

/-- An empty slot. -/
def emptySlot : Slot := ⟨0, 0, 0, false, 0⟩

/-- A 16-bit slot header (Table 9.4). -/
def slotHdr (x : Slot) : Nat :=
  x.net.toNat + 2 ^ 10 * x.kind.toNat + 2 ^ 13 * x.offset.toNat + 2 ^ 15 * bit01 x.reserved

/-- Bits [95:0] of a trailer (Table 9.3). -/
def trailer96 (f : LinkFrame) : Nat :=
  ((List.range 4).map fun j => slotHdr (f.slots.getD j emptySlot) * 2 ^ (16 * j)).sum +
  2 ^ 64 * f.base.toNat + 2 ^ 73 * f.seq.toNat + 2 ^ 83 * bit01 f.req + 2 ^ 84 * f.reqSeq.toNat +
  2 ^ 94 * bit01 f.mark + 2 ^ 95 * bit01 f.markOff

/-- One bit into the CRC of Table 9.3, most significant bit of a byte first (log entry 26). -/
def crcBit (r : Nat) (b : Bool) : Nat :=
  let top := bitOf r 15 != b
  ((2 * r) % 2 ^ 16) ^^^ (if top then 0x1021 else 0)

/-- CRC-16 of bytes. -/
def crc16 (l : List Byte) : Nat :=
  l.foldl (fun r x => (List.range 8).foldl (fun r i => crcBit r (x.getLsbD (7 - i))) r) 0xFFFF

/-- The CRC of a frame. -/
def frameCrc (f : LinkFrame) : BitVec 16 :=
  BitVec.ofNat 16 (crc16 ((((List.range 4).map fun j => leBytes 64 (f.slots.getD j emptySlot).payload.toNat).flatten) ++
    leBytes 12 (trailer96 f)))

/-- The vote field of a frame-boundary marker (R395): bit k is the vote held for frame g + 1 + k. -/
def voteBits (s : State) : Nat :=
  ((List.range 16).map fun k => bit01 (s.energy.votes.contains (frameNo s + 1 + k)) * 2 ^ k).sum

/-- The tick-number service slot (R258, R277, R395). -/
def tickSlot (s : State) : Slot :=
  let b := [(1 : Byte)] ++ List.replicate 7 0 ++ leBytes 8 (tickN s).toNat ++ leBytes 2 (voteBits s) ++
    leBytes 2 (field (reg s 0x12 0 0x84) 15 0)
  ⟨0, 5, 0, false, BitVec.ofNat 512 (leNat b)⟩

/-- Cycles of fclk that separate two frames of a width, at least (R257). -/
def frameGap (width : Nat) : Nat := if width = 8 then 1 else if width = 4 then 2 else 4

/-- The flits that the next frame takes: the oldest, within base to base + 3 (R260). -/
def packFlits (room : Nat) (q : List TxSlot) : List TxSlot :=
  match q with
  | [] => []
  | x :: _ => (q.filter fun y => decide (y.take ≤ x.take + 3)).take room

/-- Charge the slots of a frame (Table 14.2): scalar and control traffic is not charged (R390). -/
def chargeSlots : List TxSlot → State → State
  | [], s => s
  | x :: t, s =>
    chargeSlots t
      (if x.slot.kind = 1 ∨ x.slot.kind = 2 then chargePart (partOf s x.core) 12 1 (chargeJob x.job 12 1 s) else s)

/-- The marker goes into this frame: the first launched at or after a tick boundary. -/
def marksNow (s : State) (x : Link) : Bool := s.tick.running && x.markSent != (tickN s).toNat + 1

/-- The request that a frame carries: the oldest, from two cycles after its verdict (R267). -/
def requestOf (t : Nat) (x : Link) : Option (BitVec 10) :=
  match x.await with
  | (q, v) :: _ => if v + 2 ≤ t then some q else none
  | [] => none

/-- The frame that a link launches now, with the flits it takes. A service slot, the tick number among them, takes only the
room that the flits leave (R258); but a primary-fault message goes in the first frame launched, and a fourth flit that is ready
then waits for the next frame (R356; DESIGN CHOICE, log entry 90). -/
def nextFrame (s : State) (x : Link) : LinkFrame × List TxSlot × List Slot :=
  let mark := marksNow s x
  let number := mark && decide ((tickN s).toNat % ticF s = 0)
  let kept := if x.faultFirst then 1 else 0
  let fl := if x.frozen then [] else packFlits (4 - kept) x.outQ
  let tick := if number ∧ fl.length + kept < 4 then [tickSlot s] else []
  let sv := x.svcQ.take (4 - fl.length - tick.length)
  let base := match fl with | y :: _ => sharedCycle s - (s.now - y.take) | [] => sharedCycle s
  let first := match fl with | y :: _ => y.take | [] => s.now
  let slots := tick ++
    (fl.map fun y => { y.slot with offset := BitVec.ofNat 2 (y.take - first) }) ++ sv
  let slots := slots ++ List.replicate (4 - slots.length) emptySlot
  let req := requestOf s.now x
  let f : LinkFrame := ⟨slots, BitVec.ofNat 9 base, x.txSeq, req.isSome, req.getD 0, mark,
    mark && decide (1 ≤ s.now - s.tick.boundAt), 0⟩
  ({ f with crc := frameCrc f }, fl, sv)

/-- Frames that the replay buffer still holds: 256, for 160 cycles after launch (R267). -/
def keepSent (t : Nat) (l : List Sent) : List Sent := (l.filter fun x => decide (t ≤ x.at_ + 160)).take 256

/-- A link may launch a frame: in UP, at its width's rate. -/
def mayLaunch (s : State) (x : Link) : Bool :=
  x.st == 5 && (x.lastLaunch == 0 || decide (x.lastLaunch + frameGap x.width ≤ s.now))

/-- LINK_FRAME_LAUNCH. A relaunch that is due goes first. -/
def frameLaunch (l : Nat) (s : State) : State :=
  let x := link s l
  let due := match x.relaunch with | some (_, t) => decide (t ≤ s.now) | none => false
  if !mayLaunch s x || due then s
  else
    let (f, fl, sv) := nextFrame s x
    let x := { x with outQ := x.outQ.filter fun y => !fl.contains y, svcQ := x.svcQ.drop sv.length, faultFirst := false, txSeq := x.txSeq + 1,
                      lastLaunch := s.now, markSent := if f.mark then (tickN s).toNat + 1 else x.markSent,
                      sent := ⟨f, s.now, false⟩ :: keepSent s.now x.sent }
    chargeSlots fl (bump48 9 l 0x60 0 1 (some (8, 0)) (emit (.linkFrame l f) (setLink l x s)))

/-- A frame as a frozen link sends it again: no scheduled slot goes out (R270; DESIGN CHOICE, log entry 74: the others go). -/
def strippedFrame (f : LinkFrame) : LinkFrame :=
  let f : LinkFrame := { f with slots := f.slots.map fun (y : Slot) => if 1 ≤ y.kind.toNat ∧ y.kind.toNat ≤ 4 then emptySlot else y }
  { f with crc := frameCrc f }

/-- REPLAY_RELAUNCH. The requested frame goes out again unchanged, once; one that has left the buffer does not. -/
def relaunch (l : Nat) (s : State) : State :=
  let x := link s l
  match x.relaunch with
  | none => s
  | some (q, t) =>
    if !mayLaunch s x || decide (s.now < t) then s
    else
      match (keepSent s.now x.sent).find? fun y => y.frame.seq == q && !y.replayed with
      | none => setLink l { x with relaunch := none } s
      | some y =>
        let x := { x with relaunch := none, lastLaunch := s.now,
                          sent := x.sent.map fun z => if z == y then { z with replayed := true } else z }
        bump48 9 l 0x70 0 1 (some (8, 2)) (bump48 9 l 0x60 0 1 (some (8, 0)) 
          (emit (.linkFrame l (if x.frozen then strippedFrame y.frame else y.frame)) (setLink l x s)))

/-! ## Training (R271 to R275) -/

/-- Set the state, width, lanes and live word of a link; a change of the live word raises state_change (R274), and the
pair is formed or dissolved as its links now stand (R354). -/
def setLinkState (l st width : Nat) (lanes : BitVec 8) (word : Word) (s : State) : State :=
  let x := link s l
  let s := setLink l { x with st := st, width := width, lanes := lanes, word := word, since := s.now } s
  pairCheck (if x.word ≠ word then raiseCe 9 l 5 width s else s)

/-- LINK_DOWN (R269). -/
def linkDown (l lane : Nat) (s : State) : State :=
  if (link s l).st ≠ 5 then s
  else setLinkState l 7 0 0 0 (raise 9 l 3 1 (lane % 8) .none (modLink l (fun x => { x with missed := false }) s))

/-- The link word that the active image's system description gives (Table 2.6). -/
def imageLinkWord (s : State) (l : Nat) : Word :=
  match s.sched.active with
  | none => 0
  | some im =>
    match sectionOf s im.addr 1 0 with
    | some d => BitVec.ofNat 32 (physNat s (im.addr + d.off + 0x20 + 4 * l) 4)
    | none => 0

/-- The device is a follower on this upstream link (R275). -/
def isUpstream (s : State) (l : Nat) : Bool := field (reg s 2 0 0x44) 1 0 == 2 && field (reg s 2 0 0x44) 13 8 == l

/-- Why a retrain is refused: 0 in use, 1 upstream (R275). -/
def retrainBusy (s : State) (l : Nat) : Option Nat :=
  if field (imageLinkWord s l) 3 0 ≠ 0 ∧ (linkConsumers s l).any (fun p => (part s p).st == 1) then some 0
  else if isUpstream s l then some 1
  else none

/-- A link as it begins training: nothing queued, nothing awaited. -/
def Link.fresh (x : Link) : Link :=
  { x with outQ := [], svcQ := [], txSeq := 0, lastLaunch := 0, sent := [], relaunch := none, served := none, rxSeq := none,
           await := [], elastic := [], missed := false, passed := 0, fail := 0, mIn := 0, mOut := 0, peerDevice := 0,
           peerLink := 0, peerId := none }

/-- Take a link to OFF and train it again. -/
def startTraining (l : Nat) (s : State) : State :=
  setLinkState l 1 0 0 0 (modLink l (fun x => { x.fresh with trainFrom := s.now }) s)

/-- LINK_RETRAIN (R275). -/
def retrain (l : Nat) (s : State) : State :=
  match retrainBusy s l with
  | some d => raiseCe 9 l 7 d s
  | none => startTraining l s

/-- LINK_PAGE_RESET (R281): a retrain that is not refused also clears the freeze. -/
def linkPageReset (l : Nat) (s : State) : State :=
  match retrainBusy s l with
  | some d => raiseCe 9 l 7 d s
  | none => startTraining l (modLink l (fun x => { x with frozen := false }) s)

/-- Milliseconds of the training that ends (LINK_TRAIN_MS). -/
def timeTraining (l : Nat) (s : State) : State :=
  modLink l (fun x => { x with trainMs := (s.now - x.trainFrom) / 940000 }) s

/-- Training ends in FAILED with a reason (R271, Table 9.12); within 1.1 s of the bring-up's training Trotos trains the link
again (R276). -/
def trainFail (l reason : Nat) (s : State) : State :=
  let s := timeTraining l (modLink l (fun x => { x with fail := reason }) s)
  let s := raiseCe 9 l 4 reason (setLinkState l 6 0 0 0 s)
  if s.now < (link s l).retryTill then startTraining l s else s

/-- The lanes and width that the passing lanes give (R272). -/
def widthOf (pass : BitVec 8) (degrade : Bool) : Option (Nat × BitVec 8) :=
  if pass = 0xFF then some (8, 0xFF)
  else if !degrade then none
  else
    let try4 := [(0x0F : BitVec 8), 0xF0].find? fun m => pass &&& m == m
    let try2 := [(0x03 : BitVec 8), 0x0C, 0x30, 0xC0].find? fun m => pass &&& m == m
    match try4, try2 with
    | some m, _ => some (4, m)
    | none, some m => some (2, m)
    | none, none => none

/-- A training state is over. -/
def toState (l now next : Nat) (s : State) : State :=
  if (link s l).st = now then setLinkState l next 0 0 0 s else s

/-- Send this end's identity while the link negotiates: one frame that holds its slot (R258, R273). -/
def sendId (l : Nat) (transit : Option Nat) (s : State) : State :=
  let x := link s l
  let f : LinkFrame := ⟨[idSlot (ownId s l transit), emptySlot, emptySlot, emptySlot], BitVec.ofNat 9 (sharedCycle s), x.txSeq,
    false, 0, false, false, 0⟩
  let f := { f with crc := frameCrc f }
  bump48 9 l 0x60 0 1 (some (8, 0)) (emit (.linkFrame l f) (setLink l { x with txSeq := x.txSeq + 1 } s))

/-- LINK_CHECK_DONE (R272): the passing lanes are known, and NEGOTIATE begins with this end's identity, unless the lanes give no
width whatever the peer's are. -/
def checkDone (l : Nat) (pass : BitVec 8) (s : State) : State :=
  if (link s l).st ≠ 3 then s
  else
    let ok := pass &&& BitVec.ofNat 8 (field (reg s 9 l 0x44) 23 16)
    let s := modLink l (fun x => { x with passed := ok }) s
    if (widthOf ok ((reg s 9 l 0x44).getLsbD 24)).isNone then trainFail l 2 s else sendId l none (setLinkState l 4 0 0 0 s)

/-- Added latency of a width (R263). -/
def widthDelta (w : Nat) : Nat := if w = 8 then 0 else if w = 4 then 16 else 48

/-- Both ends' values are known: width, L8 and fit (R272, R273), then UP with its live word (R274). -/
def negotiated (l m transit : Nat) (p : LinkId) (s : State) : State :=
  let cfg := reg s 9 l 0x44
  let l8 := field cfg 11 0
  let s := modLink l (fun x => { x with mIn := m, mOut := transit, peerDevice := p.device, peerLink := p.link }) s
  match widthOf ((link s l).passed &&& p.lanes) (cfg.getLsbD 24) with
  | none => trainFail l 2 s
  | some (w, lanes) =>
    let lat := l8 + widthDelta w
    if p.l8 ≠ l8 then trainFail l 3 s
    else if lat + 44 < 2 * m + transit ∨ lat + 44 < 2 * transit + m then trainFail l 4 s
    else
      setLinkState l 5 w lanes
        (BitVec.ofNat 32 (w + 2 ^ 4 * (lat % 2 ^ 12) + 2 ^ 16 * (p.device % 2 ^ 10) + 2 ^ 26 * (p.link % 2 ^ 6)))
        (timeTraining l (modLink l (fun x => { x with lastRx := s.now }) s))

/-- What the peer tells ends the negotiation: as soon as it leaves no width or another L8 (R272, R273), or once this end's M and
the peer's are known. -/
def negotiateEnd (l : Nat) (s : State) : State :=
  let x := link s l
  let cfg := reg s 9 l 0x44
  match x.peerId with
  | none => s
  | some p =>
    if (widthOf (x.passed &&& p.lanes) (cfg.getLsbD 24)).isNone then trainFail l 2 s
    else if p.l8 ≠ field cfg 11 0 then trainFail l 3 s
    else
      match p.transit with
      | some t => if x.mIn = 0 then s else negotiated l x.mIn t p s
      | none => s

/-- LINK_NEGOTIATE_DONE. The round trip is measured, and this end's M is sent (R273). -/
def negotiateDone (l : Nat) (n : Negotiation) (s : State) : State :=
  if (link s l).st ≠ 4 then s
  else
    let m := ceilDiv n.roundTrip 2 + 2
    negotiateEnd l (sendId l (some m) (modLink l (fun x => { x with mIn := m }) s))

/-- Bound of a training state in ms (Table 9.8). -/
def trainBound (st : Nat) : Nat := [0, 10, 50, 20, 5].getD st 0

/-- LINK_TRAIN_TIMEOUT (R271). -/
def trainTimeout (l : Nat) (s : State) : State :=
  let x := link s l
  if 1 ≤ x.st ∧ x.st ≤ 4 ∧ x.since + 940000 * trainBound x.st < s.now then trainFail l (if x.st = 1 then 1 else 5) s
  else s

/-- A write of LINK PAGE_CTL.enable (R271). -/
def linkEnable (l : Nat) (on : Bool) (s : State) : State :=
  if on then (if (link s l).st = 0 then startTraining l s else s)
  else if (link s l).st = 0 then s
  else setLinkState l 0 0 0 0 (modLink l Link.fresh s)

/-! ## Frames in (R259, R262, R267, R268, R270) -/

/-- A reserved field or kind of a slot (R282). -/
def slotIllegal (x : Slot) : Bool := x.reserved || decide (6 ≤ x.kind.toNat)

/-- A scheduled slot: a flit, scalar or token. -/
def slotScheduled (x : Slot) : Bool := decide (1 ≤ x.kind.toNat) && decide (x.kind.toNat ≤ 4)

/-- A service slot, which is bound to the Crest (R258). -/
def slotService (x : Slot) : Bool := x.kind == 5

/-- The cycle in which a slot was taken, in the receiver's own cycles (R262). -/
def takeCycle (s : State) (f : LinkFrame) (x : Slot) : Nat :=
  let a := sharedCycle s
  s.now - (a + 512 - (f.base.toNat + x.offset.toNat) % 512) % 512

/-- A slot of a good frame in the elastic buffer: available 40 cycles after the verdict, due at t + L (R262). -/
def rxSlot (s : State) (x : Link) (f : LinkFrame) (y : Slot) : RxSlot :=
  ⟨y, takeCycle s f y + wordLatency x.word, s.now + 40⟩

/-- Put the slots of a good frame into the elastic buffer; a frozen link discards the scheduled ones (R270). -/
def acceptSlots (l : Nat) (f : LinkFrame) (s : State) : State :=
  let x := link s l
  let sched := f.slots.filter slotScheduled
  let serv := (f.slots.filter slotService).map (rxSlot s x f)
  if x.frozen then linkDrop l sched.length (setLink l { x with elastic := x.elastic ++ serv } s)
  else setLink l { x with elastic := x.elastic ++ serv ++ sched.map (rxSlot s x f) } s

/-- A replay whose slots become available after their delivery cycle (R268). -/
def replayLate (s : State) (l : Nat) (f : LinkFrame) : Bool :=
  (f.slots.filter fun y => slotScheduled y || slotService y).any fun y => let z := rxSlot s (link s l) f y; decide (z.due < z.avail)

/-- The identity in a service slot of type 0x02, as the model lays it out (log entry 21). -/
def linkIdOf (x : Slot) : Option LinkId :=
  let n := x.payload.toNat
  if x.kind = 5 ∧ n % 256 = 2 then
    let m := bitsOf n 71 56
    some ⟨bitsOf n 23 8, bitsOf n 31 24, bitsOf n 47 32, BitVec.ofNat 8 (bitsOf n 55 48), if m = 0 then none else some m,
      ⟨bitOf n 72, bitsOf n 95 80, bitsOf n 74 73⟩⟩
  else none

/-- The identities in a frame. -/
def frameIds (f : LinkFrame) : List LinkId := f.slots.filterMap linkIdOf

/-- A slot that breaks the protocol of a link in UP (R282): a reserved kind or field, or another identity. -/
def slotFaulty (x : Link) (y : Slot) : Bool :=
  slotIllegal y || (match linkIdOf y with | some i => i.device != x.peerDevice || i.link != x.peerLink | none => false)

/-- A reserved kind or field, or a change of the peer's identity, freezes the link (R270, R282). -/
def checkSlots (l : Nat) (f : LinkFrame) (s : State) : State :=
  match (List.range 4).find? fun j => slotFaulty (link s l) (f.slots.getD j emptySlot) with
  | some j => raise 9 l 6 1 (j + 4 * (f.slots.getD j emptySlot).kind.toNat) (.link l) s
  | none => s

/-- Take what a frame tells of the peer (R273): a later message adds to an earlier one. -/
def takeIds (l : Nat) (f : LinkFrame) (s : State) : State :=
  let note := fun (x : Link) (i : LinkId) => { x with peerId := some i }
  modLink l (fun x => (frameIds f).foldl note x) s

/-- A request carried by a good frame is served once (R267). -/
def takeRequest (l : Nat) (f : LinkFrame) (s : State) : State :=
  let x := link s l
  if !f.req then setLink l { x with served := none } s
  else if x.served = some f.reqSeq then s
  else setLink l { x with served := some f.reqSeq, relaunch := some (f.reqSeq, s.now + 2) } s

/-- What FEC found, counted (Table 9.12). -/
def countFec (l : Nat) (fec : Fec) (s : State) : State :=
  let s := fec.corrected.foldl (fun s lane => raiseCe 9 l 0 (lane % 8) (bump32 9 l 0x80 0 1 (some (8, 4)) s)) s
  if fec.bad = 0 then s else bump32 9 l 0x84 0 fec.bad (some (8, 5)) s

/-- The last good frame's seq once a frame is judged bad: a frame whose bits are wrong stands at the next place; one that is
whole but out of order stands at none (R259, log entry 27). -/
def seqAfterBad (whole : Bool) (q : BitVec 10) (x : Link) : Option (BitVec 10) := if whole then x.rxSeq else some q

/-- A frame is judged bad: its replay is requested (R267), or it was the replay and fails (R268). `whole`: only its place is
wrong. -/
def frameBad (l : Nat) (q : BitVec 10) (whole : Bool) (s : State) : State :=
  let x := link s l
  if x.await.any (·.1 == q) then
    linkSlip l 2 q.toNat (setLink l { x with await := x.await.filter (·.1 != q) } s)
  else
    raiseCe 9 l 1 q.toNat (bump48 9 l 0x78 0 1 (some (8, 3))
      (setLink l { x with await := x.await ++ [(q, s.now)], rxSeq := seqAfterBad whole q x } s))

/-- A frame judged while the link negotiates: what it tells of the peer is kept (R271, R273). -/
def negotiateFrame (l : Nat) (f : LinkFrame) (good : Bool) (s : State) : State :=
  if good then
    negotiateEnd l (takeIds l f (bump48 9 l 0x68 0 1 (some (8, 1)) (modLink l (fun x => { x with rxSeq := some f.seq }) s)))
  else s

/-- A good frame in service: a replay that comes too late fails (R268); otherwise its slots, its request and what it tells
of the peer are taken, by a frozen link as by another (R270). A frame awaited that is in order after all is the last good one
from then on (R259). -/
def frameGood (l : Nat) (f : LinkFrame) (replay : Bool) (s : State) : State :=
  let s := bump48 9 l 0x68 0 1 (some (8, 1)) s
  let s := modLink l (fun x =>
    { x with await := x.await.filter (·.1 != f.seq),
             rxSeq := if replay && x.rxSeq != some (f.seq - 1) then x.rxSeq else some f.seq }) s
  if replay && replayLate s l f then takeRequest l f (linkSlip l 2 f.seq.toNat s)
  else
    let known := (f.slots.all fun y => !slotFaulty (link s l) y) && !(frameIds f).isEmpty
    let s := checkSlots l f s
    let s := if known then pairCheck (takeIds l f s) else s
    takeRequest l f (acceptSlots l f s)

/-- LINK_FRAME_VERDICT (R259). A frame in order follows the last good one, past the places of frames whose bits were wrong;
a replay is the frame awaited (log entry 27). -/
def frameVerdict (l : Nat) (f : LinkFrame) (fec : Fec) (s : State) : State :=
  let x := link s l
  let fecBad := fec.overlap || decide (0 < fec.bad)
  let crcOk := f.crc == frameCrc f
  if x.st = 4 then negotiateFrame l f (crcOk && !fecBad) (countFec l fec s)
  else if x.st ≠ 5 then s
  else
    let s := countFec l fec (setLink l { x with lastRx := s.now } s)
    let replay := x.await.any (·.1 == f.seq)
    let order := match x.rxSeq with | some q => f.seq == q + 1 | none => true
    let whole := crcOk && !fecBad
    let q := if whole || replay then f.seq else match x.rxSeq with | some q => q + 1 | none => f.seq
    let s := if !fecBad && (!crcOk || (!order && !replay)) then bump32 9 l 0x88 0 1 (some (8, 6)) s else s
    if !whole || (!order && !replay) then frameBad l q whole s
    else frameGood l f replay s

/-! ## Delivery (R261, R262, R266, R269) -/

/-- The channel of a slot kind. -/
def kindChan (k : BitVec 3) : Chan :=
  match k.toNat with
  | 1 => .v0
  | 2 => .v1
  | 3 => .scalar
  | _ => .control

/-- The flit of a slot. -/
def slotFlit (x : Slot) : Flit :=
  ⟨none, BitVec.ofNat 6 x.net.toNat, BitVec.ofNat 2 (x.net.toNat / 2 ^ 6), x.net.getLsbD 8, x.net.getLsbD 9, x.payload⟩

/-- Lines of delivered reduction units that have not left their die yet (R211): each leaves 9 cycles before it enters its
queue (Table 6.3). -/
def linesToCome (s : State) (c : Nat) (ch : Chan) : Nat :=
  (s.fab.wires.filter fun y => y.core == c && y.ch == ch && y.inp == edgeInput c && decide (s.now + 9 < y.due)).length

/-- Credits that the edge die holds for a queue of its edge core, of 8 (R167). -/
def dieCredit (s : State) (c : Nat) (ch : Chan) : Nat :=
  8 - (sget (fun _ => 0) s.fab.dieSpent (4 * c + chanCode ch) - linesToCome s c ch)

/-- The slot of a link that is due, the earliest first. -/
def dueSlot (t : Nat) (x : Link) : Option RxSlot :=
  (x.elastic.filter fun y => decide (y.due ≤ t)).foldl
    (fun b y => match b with | some z => if y.due < z.due then some y else b | none => some y) none

/-- The partitions that a late slot freezes (R266): every one for a slot bound to the Crest, the owner of its engine slot,
or that of its delivery edge core. -/
def lateParts (s : State) (l : Nat) (y : Slot) : List Nat :=
  let e := linkCores l
  let r := y.net.toNat % 64
  if y.kind = 5 then partsNow s
  else if r < 16 then [partOf s e.1]
  else if r < 32 then [partOf s e.2]
  else
    let x := engine s (l / 4) (r % 4)
    let i := inputOf x (8 + l % 4)
    match slotOf x (redHdr (headerOf i y.payload)).slot with
    | some z => [z.owner]
    | none => [partOf s e.1]

/-- Forward a slot onto the edge link, or into an engine (Table 9.5). -/
def deliverSlot (l : Nat) (y : RxSlot) (s : State) : State :=
  let f := slotFlit y.slot
  let r := f.route.toNat
  let ch := kindChan y.slot.kind
  let detail := l % 4 + 4 * r
  if 48 ≤ r then raise 8 (l / 4) 0 1 detail (.link l) s
  else if y.due < y.avail then colSlip l 3 detail (lateParts s l y.slot) s
  else if 32 ≤ r then
    engineArrive (l / 4) (r % 4) (.link (l % 4)) ⟨none, f.payload, f.last, (linkCores l).1⟩ s
  else
    let c := if r < 16 then (linkCores l).1 else (linkCores l).2
    let k := 4 * c + chanCode ch
    if dieCredit s c ch = 0 then colSlip l 3 (detail + 2 ^ 8) (lateParts s l y.slot) s
    else
      let j := jobOfPart s (partOf s c)
      let s := if ch = .v0 ∨ ch = .v1 then chargeJob j 7 1 s else s
      addWire ⟨c, ch, edgeInput c, { f with job := j }, y.due + 9⟩
        { s with fab := { s.fab with dieSpent := sset (fun _ => 0) s.fab.dieSpent k (sget (fun _ => 0) s.fab.dieSpent k + 1) } }

/-- The service slots that are due reach the Crest; one that is not available by then is late (R266). What they say comes as
commands of their own (log entry 74). -/
def serviceDue (l : Nat) (s : State) : State :=
  let mine := fun (y : RxSlot) => slotService y.slot && decide (y.due ≤ s.now)
  let x := link s l
  (x.elastic.filter mine).foldl
    (fun s y => if y.due < y.avail then colSlip l 3 (l % 4) (lateParts s l y.slot) s else s)
    (setLink l { x with elastic := x.elastic.filter fun y => !mine y } s)

/-- LINK_SLOT_DELIVER. The service slots and the earliest other slot that are due are delivered. With none, the delivery cycle of a frame whose replay
is awaited passes (R268), or the first of a link that went down (R269). -/
def slotDeliver (l : Nat) (s : State) : State :=
  let told := (link s l).elastic.any fun y => slotService y.slot && decide (y.due ≤ s.now)
  let s := serviceDue l s
  let x := link s l
  match dueSlot s.now x with
  | some y =>
    let s := setLink l { x with elastic := eraseFirst (fun z => z == y) x.elastic } s
    if x.frozen then linkDrop l 1 s else deliverSlot l y s
  | none =>
    if told then s
    else
    match x.await with
    | (q, _) :: t => linkSlip l 2 q.toNat (setLink l { x with await := t } s)
    | [] =>
      if x.st = 7 ∧ !x.missed then
        linkSlip l 2 (match x.rxSeq with | some q => (q + 1).toNat | none => 0) (setLink l { x with missed := true } s)
      else s

/-- TX_LATE. The oldest flit still waiting 32 cycles after its take. -/
def txLate (l : Nat) (s : State) : State :=
  let x := link s l
  match x.outQ.find? fun y => decide (y.take + 32 ≤ s.now) with
  | none => s
  | some y =>
    colSlip l 2 (l % 4 + 4 * (y.slot.net.toNat % 64)) [partOf s y.core]
      (setLink l { x with outQ := eraseFirst (fun z => z == y) x.outQ } s)

/-! ## Rows -/

/-- COL_TAKE (R260). -/
def execColTake (dt core : Nat) (ch : Chan) (s : State) : Host.Outcome State Fault Refusal :=
  answer (.colTake dt core ch) s <|
    colTake core ch (elapse dt s)

/-- LINK_FRAME_LAUNCH (R257). -/
def execLinkFrameLaunch (dt link : Nat) (s : State) : Host.Outcome State Fault Refusal :=
  answer (.linkFrameLaunch dt link) s <|
    frameLaunch link (elapse dt s)

/-- LINK_FRAME_VERDICT (R259). -/
def execLinkFrameVerdict (dt link : Nat) (frame : LinkFrame) (fec : Fec) (s : State) : Host.Outcome State Fault Refusal :=
  answer (.linkFrameVerdict dt link frame fec) s <|
    frameVerdict link frame fec (elapse dt s)

/-- REPLAY_RELAUNCH (R267). -/
def execReplayRelaunch (dt link : Nat) (s : State) : Host.Outcome State Fault Refusal :=
  answer (.replayRelaunch dt link) s <|
    relaunch link (elapse dt s)

/-- LINK_SLOT_DELIVER (R262). -/
def execLinkSlotDeliver (dt link : Nat) (s : State) : Host.Outcome State Fault Refusal :=
  answer (.linkSlotDeliver dt link) s <|
    slotDeliver link (elapse dt s)

/-- TX_LATE (R266). -/
def execTxLate (dt link : Nat) (s : State) : Host.Outcome State Fault Refusal :=
  answer (.txLate dt link) s <|
    txLate link (elapse dt s)

/-- LINK_DOWN (R269). -/
def execLinkDown (dt link lane : Nat) (s : State) : Host.Outcome State Fault Refusal :=
  answer (.linkDown dt link lane) s <|
    linkDown link lane (elapse dt s)

/-- LINK_RETRAIN (R275). -/
def execLinkRetrain (src : Src) (link : Nat) (s : State) : Host.Outcome State Fault Refusal :=
  answer (.linkRetrain src link) s <|
    retrain link s

/-- LINK_PAGE_RESET (R281). -/
def execLinkPageReset (src : Src) (link : Nat) (s : State) : Host.Outcome State Fault Refusal :=
  answer (.linkPageReset src link) s <|
    linkPageReset link s

/-- LINK_DETECT_DONE (R271). -/
def execLinkDetectDone (dt link : Nat) (s : State) : Host.Outcome State Fault Refusal :=
  answer (.linkDetectDone dt link) s <|
    toState link 1 2 (elapse dt s)

/-- LINK_EQUALISE_DONE (R271). -/
def execLinkEqualiseDone (dt link : Nat) (s : State) : Host.Outcome State Fault Refusal :=
  answer (.linkEqualiseDone dt link) s <|
    toState link 2 3 (elapse dt s)

/-- LINK_CHECK_DONE (R272). -/
def execLinkCheckDone (dt link : Nat) (lanesPass : BitVec 8) (s : State) : Host.Outcome State Fault Refusal :=
  answer (.linkCheckDone dt link lanesPass) s <|
    checkDone link lanesPass (elapse dt s)

/-- LINK_NEGOTIATE_DONE (R273). -/
def execLinkNegotiateDone (dt link : Nat) (n : Negotiation) (s : State) : Host.Outcome State Fault Refusal :=
  answer (.linkNegotiateDone dt link n) s <|
    negotiateDone link n (elapse dt s)

/-- LINK_TRAIN_TIMEOUT (R271). -/
def execLinkTrainTimeout (dt link : Nat) (s : State) : Host.Outcome State Fault Refusal :=
  answer (.linkTrainTimeout dt link) s <|
    trainTimeout link (elapse dt s)

end Sys2Proof.Machine
end

