-- ==== Sys2Proof/Machine/Bringup.lean ====
section
/-! DEFINITION. Cold reset and cold bring-up (R368 to R374), firmware boot from flash and network (R406 to R413), and warm
reset (R381). -/

namespace Sys2Proof.Machine

open Sys2Proof

/-! ## Fuses, log and BIST (steps 2, 5 and 6 of Table 13.2) -/

/-- The fuses as read at a bring-up: a fuse once blown is never cleared (R404). -/
def mergeFuses (old new : Fuses) : Fuses :=
  { new with
    variantH := old.variantH || new.variantH,
    keyDigests := (List.range 3).map fun k => (if old.programmed.getLsbD k then old else new).keyDigests.getD k [],
    programmed := old.programmed ||| new.programmed, revoked := old.revoked ||| new.revoked,
    rollback := max old.rollback (min 64 new.rollback), secret := if old.secretProgrammed then old.secret else new.secret,
    secretProgrammed := old.secretProgrammed || new.secretProgrammed,
    badCores := old.badCores ++ new.badCores.filter fun p => !old.badCores.contains p }

/-- DEV_INFO. -/
def devInfo (f : Fuses) (b : Bringup) : Word :=
  BitVec.ofNat 32 (bit01 f.variantH + 2 ^ 8 * f.pkgStepping.toNat + 2 ^ 16 * (b.boardPos % 8) + 2 ^ 19 * (b.bootSrc % 4) +
    2 ^ 21 * bit01 b.sbSel)

/-- Add cores to the log, as many as it holds, and write it. A bring-up that adds an entry counts once in the boot count;
`counted`: this one has. The state, and whether an entry was added. -/
def logCores (counted flashOk : Bool) (news : List (PhysCore × Nat)) (s : State) : Bool × State :=
  let l := defectLog s
  let fresh := news.filter fun e => !logNames l e.1
  let fit := fresh.take (1024 - l.entries.length)
  let s := if fit.length < fresh.length then logIsFull s else s
  if fit.isEmpty then (counted, s)
  else
    let boot := if counted then l.boot else l.boot + 1
    let es : List DefectEntry := fit.map fun e => ⟨e.1, e.2, boot, 0⟩
    (true, writeLog { l with boot := boot, entries := l.entries ++ es } flashOk s)

/-- bist_fail for each of some cores. -/
def bistCauses : List PhysCore → State → State
  | [], s => s
  | p :: t, s => bistCauses t (raiseCe 0 0 1 (p.ridge + 2 ^ 4 * p.col + 2 ^ 9 * p.row) s)

/-- die_bist for each of some dies. -/
def bistDies : List Nat → State → State
  | [], s => s
  | d :: t, s => bistDies t (raise 0 0 2 2 d (.fatal false) s)

/-- The columns that cannot present 24 rows, as 24 · Ridge + column. -/
def shortColumns (s : State) : List Nat := (List.range 384).filter fun n => decide (2 < (badRows s (n / 24) (n % 24)).length)

/-- yield_shortfall for each of some columns. -/
def yieldCauses : List Nat → State → State
  | [], s => s
  | n :: t, s => yieldCauses t (raiseCe 0 0 0 (n / 24 + 2 ^ 4 * (n % 24)) s)

/-- No core is named twice. -/
def onceEach (l : List (PhysCore × Nat)) : List (PhysCore × Nat) :=
  l.foldl (fun m e => if m.any fun x => x.1 == e.1 then m else m ++ [e]) []

/-- Steps 5 and 6. Whether the bring-up has counted in the log, and the state. -/
def bistAndLog (b : Bringup) (s : State) : Bool × State :=
  let found := s.dev.flash.log.filter (logValid s)
  let s := bistDies b.dieBistFail (modDev (fun d => { d with dieBad := b.dieBistFail, logFound := found.isSome, log := found }) s)
  let (counted, s) :=
    match found with
    | some _ => (false, s)
    | none => (true, writeLog (defectLog s) b.flashWriteOk (raiseCe 0 0 4 0 s))
  let fuses := s.dev.fuses.badCores
  let old := defectLog s
  let news := (onceEach b.bistFail).filter fun e => !fuses.contains e.1 && !logNames old e.1
  let (counted, s) := logCores counted b.flashWriteOk news s
  let added := (news.map (·.1)).filter (logNames (defectLog s))
  let bad := fuses ++ (old.entries.map (·.core)).filter (fun p => !fuses.contains p) ++ news.map (·.1)
  let s := bistCauses added (modDev (fun d => { d with bad := bad }) s)
  (counted, yieldCauses (shortColumns s) s)

/-! ## Remap, HBM, links, microcode (steps 7 to 9) -/

/-- After step 7 every switch is in spill mode and runs the flood configuration (R374). -/
def floodSwitches (s : State) : State := modDev (fun d => { d with flood := true }) s

/-- Compute and apply the remap of every column (R175). -/
def remapAll (s : State) : State :=
  (List.range 384).foldl (fun s n => remapCol (n / 24) (n % 24) s) s

/-- HBM_INFO of a stack. -/
def hbmInfo (t : StackTraining) : Word :=
  BitVec.ofNat 32 (t.stack + 2 ^ 8 * bit01 t.high16 + 2 ^ 9 * bit01 t.dense32 + 2 ^ 16 * t.manuf.toNat)

/-- Train one enabled stack (R239, R251); one that fails raises train_fail. -/
def trainStack (b : Bringup) (k : Nat) (s : State) : State :=
  match b.training.find? fun t => t.stack == k with
  | some t =>
    if t.pass then
      setReg 7 k 8 1 (setReg 7 k 0x40 (hbmInfo t)
        (setStack k { Stack.reset with trained := true, rate := field (reg s 7 k 0x44) 1 0, repaired := t.lanesRepaired.toNat } s))
    else raiseCe 7 k 3 t.pseudo (setStack k Stack.reset s)
  | none => raiseCe 7 k 3 0 (setStack k Stack.reset s)

/-- Train each of some stacks. -/
def trainStacks (b : Bringup) : List Nat → State → State
  | [], s => s
  | k :: t, s => trainStacks b t (trainStack b k s)

/-- Bridges and saddle edges as trained and calibrated. -/
def trainEdges (b : Bringup) (s : State) : State :=
  let put := fun (l : List (Nat × BitVec 4)) => l.foldl (fun m e => sset (fun _ => 0) m e.1 e.2.toNat) []
  modDev (fun d => { d with saddles := put b.saddles }) { s with mem := { s.mem with bridges := put b.bridges } }

/-- Trotos writes LINK_CFG as the board configuration gives it, enables each link named there and trains it (R276). -/
def trainLinks : List (Nat × Word) → State → State
  | [], s => s
  | (l, w) :: t, s =>
    trainLinks t (if l < 56 then
        startTraining l (modLink l (fun x => { x with retryTill := s.now + 1034000000 })
          (setReg 9 l 8 1 (setReg 9 l 0x44 (w &&& 0x01FF0FFF) s)))
      else s)

/-- The physical core of a logical one, under the remap in force (R177). -/
def physCoreOf (s : State) (c : Nat) : PhysCore :=
  let d := ridgeOf c
  let k := c % 96 % 24
  ⟨d, k, (rowsInForce s d k).getD (c / 96 % 24) 0⟩

/-- microcode_fail for each of some logical cores (R374). -/
def microCauses : List Nat → State → State
  | [], s => s
  | c :: t, s => microCauses t (raiseCe 0 0 3 c s)

/-- The value that a core computes over the lines that it stored differs from the check line: the bits that arrived wrong
change line digests, or the check line's bytes 0 to 7 (index 256) (R343, R374). -/
def ucodeDiffers (image : List Byte) (wrong : List (Nat × Line)) : Bool :=
  xorAll (wrong.map fun e =>
    if e.1 < 256 then
      let d := bytesAt image (64 * e.1) 64
      lineDigest e.1 d ^^^ lineDigest e.1 (List.zipWith (· ^^^ ·) d (leBytes 64 e.2.toNat))
    else e.2.setWidth 64) != 0

/-- What a core's store holds after the broadcast and at most three resends: the bits of lines in which it differs from the
image; none: every one of them failed (R374). -/
def ucodeReceived (image : List Byte) (tries : List (List (Nat × Line))) : Option (List (Nat × Line)) :=
  (((List.range 4).map fun k => tries.getD k []).find? fun w => !ucodeDiffers image w).map
    (·.filter fun e => decide (e.1 < 256) && e.2 != 0)

/-- Logical cores that fail the broadcast and every resend. -/
def microFails (b : Bringup) (s : State) : List Nat :=
  (b.microErrs.filter fun e => (ucodeReceived s.dev.ucode e.2).isNone).map (·.1)

/-- The stores that differ from the image though their check passed. -/
def microOdd (b : Bringup) (s : State) : List (Nat × List (Nat × Line)) :=
  b.microErrs.filterMap fun e =>
    match ucodeReceived s.dev.ucode e.2 with
    | some (x :: t) => some (e.1, x :: t)
    | _ => none

/-- The microcode store of a logical core (R97); lost while its Ridge is Off (Table 13.9). -/
def ucodeStore (s : State) (c : Nat) : List Byte :=
  if s.dev.micro.contains c || coreOff s c then []
  else
    match s.dev.ucodeOdd.find? (·.1 == c) with
    | some e => e.2.foldl (fun b x => putBytes b (64 * x.1)
        (List.zipWith (· ^^^ ·) (bytesAt b (64 * x.1) 64) (leBytes 64 x.2.toNat))) s.dev.ucode
    | none => s.dev.ucode

/-- FAULT_N is low: a device-fatal fault is recorded, or the fuses could not be read (Tables 13.1, 13.2). -/
def faultLow (s : State) : Bool := s.faults.fatalRecorded || s.dev.fuseError

/-- Outputs of a switch under the flood configuration (R374), by port code (0 N, 1 E, 2 S, 3 W, 4 L), for a plane 0 line
that enters by a port: from the Crest attachment (row 95, x 16 to 31) east and west along row 95, and from that row north up
every column. Every core stores the lines that pass (L). -/
def floodOutputs (c : Nat) (inp : Port) : List Nat :=
  let x := c % 96
  let row95 := c / 96 == 95
  match inp with
  | .s => if row95 then (if 16 ≤ x ∧ x < 32 then [0, 1, 3, 4] else []) else [0, 4]
  | .w => if row95 then [0, 1, 4] else []
  | .e => if row95 then [0, 3, 4] else []
  | _ => []

/-- Step 9: cores that fail the broadcast become unusable, are logged and remapped, and moved cores receive the image; a core
is left without microcode only where its column has no spare. The flood configuration ends with it. -/
def microcode (counted cold : Bool) (b : Bringup) (s : State) : State :=
  let failed := microFails b s
  let ps := (failed.map (physCoreOf s)).eraseDups
  let bad := ps.filter fun p => !s.dev.bad.contains p
  let short := shortColumns s
  let s := microCauses failed (modDev (fun d => { d with ucodeOdd := microOdd b s }) s)
  let s := (logCores (counted || !cold) b.flashWriteOk (bad.map fun p => (p, 3)) s).2
  let t := remapAll (modDev (fun d => { d with bad := d.bad ++ bad }) s)
  let moved := s.dev.ucodeOdd.filter fun e => physCoreOf t e.1 != physCoreOf s e.1
  let s := modDev (fun d => { d with flood := false, ucodeOdd := d.ucodeOdd.filter fun e => !moved.contains e }) t
  let now := shortColumns s
  let s := modDev (fun d => { d with micro := failed.filter fun c => now.contains (24 * ridgeOf c + c % 96 % 24) }) s
  yieldCauses (now.filter fun n => !short.contains n) s

/-! ## Enables -/

/-- Set PAGE_CTL.enable of pages of a class, the highest instance first. -/
def enablePages (cls : Nat) (insts : List Nat) (s : State) : State := insts.reverse.foldl (fun s i => setReg cls i 8 1 s) s

/-- The pages that Trotos enables at bring-up (R43, R107, R110, R156, R222, R249, R279). -/
def enableAll (s : State) : State :=
  let s := enablePages 0x1B (List.range 14) (enablePages 0x1A (List.range 4096) s)
  let s := enablePages 0xB [0, 1] (enablePages 0xF [0] s)
  let s := enablePages 6 (List.range 8) (enablePages 8 (List.range 14) s)
  enablePages 3 ((List.range 16).filter (gridOk s)) (enablePages 4 (List.range 576) (enablePages 5 (List.range 9216) s))

/-! ## Firmware (steps 3 and 4) -/

/-- BOOT_SRC as sampled. -/
def bootSrc (s : State) : Nat := field (reg s 0 0 0x40) 20 19

/-- Verify a package's components in order, extending each one's measurement register before it runs (R403); a failure
raises verify_fail. The reason, and the state. -/
def bootComponents (p : Package) (slot : Bool) : List Nat → State → Nat × State
  | [], s => (0, s)
  | k :: t, s =>
    match verifyCode s p k with
    | 0 => bootComponents p slot t (measure k (componentDigest (componentOf p k)) s)
    | r => (r, raiseCe 0x10 0 0 (k + 4 * bit01 slot + 16 * r) s)

/-- Trotos loads ENG_EVT from the stage 2 image that runs (R390). -/
def loadCharges : Nat → List Word → State → State
  | _, [], s => s
  | k, w :: t, s => loadCharges (k + 1) t (if k < 16 then rset (regKey 0x12 0 0x54 k) w s else s)

/-- The firmware of a package runs. -/
def running (slot net : Bool) (p : Package) (s : State) : State :=
  modSec (fun x => { x with slotB := slot, net := net, keySlot := keySlotOf p.stage1, svn := svnOf p.stage1,
                            version := BitVec.ofNat 32 (leField p.stage2.header 8 4) })
    (loadCharges 0 p.events (modDev (fun d => { d with ucode := p.microcode.body }) s))

/-- Boot a flash slot. -/
def bootSlot (slot : Bool) (s : State) : Nat × State :=
  match flashSlot s slot with
  | none => (2, raiseCe 0x10 0 0 (1 + 4 * bit01 slot + 16 * 2) s)
  | some p =>
    match bootComponents p slot [1, 2, 3] s with
    | (0, s) => (0, running slot false p s)
    | r => r

/-- Boot the active slot, or else the other one (R406). Whether one runs, and the state. -/
def bootFlash (s : State) : Bool × State :=
  let slot := s.dev.flash.record.activeB
  match bootSlot slot s with
  | (0, s) => (true, s)
  | (_, s) =>
    match bootSlot (!slot) (modSec (fun x => { x with fallback := true }) s) with
    | (0, s) => (true, s)
    | (_, s) => (false, s)

/-- Trotos starts (step 4): M4, the board configuration, the certificate. -/
def startTrotos (s : State) : State :=
  let c := s.dev.flash.config
  let s := measure 4 (shake256 64 c.bytes) s
  let s := modDev (fun d => { d with trotos := true, running := 0xF, halted := 0, step := 10 }) s
  let s := modSec (fun x => { x with cert := s.dev.flash.cert.take 1024 }) s
  let s := setReg 2 0 0x44 (BitVec.ofNat 32 (c.tickRole % 4 + 2 ^ 8 * (c.upstream % 64))) s
  let s := setReg 0xF 0 0x50 (BitVec.ofNat 32 (c.source0Mac.toNat / 2 ^ 32)) (setReg 0xF 0 0x4C (BitVec.ofNat 32 c.source0Mac.toNat) s)
  setReg 0xF 0 0x54 (BitVec.ofNat 32 (1 + 2 * c.source0Rights.toNat + 2 ^ 5 * c.source0Mask.toNat)) s

/-- Trotos logs the losses of each of some warm resets (R384). -/
def logResets : List (List (Nat × Nat × Nat)) → State → State
  | [], s => s
  | l :: t, s => logResets t (logLosses 3 (l.map fun e => ⟨e.1, e.2.1, e.2.2⟩) s)

/-- Trotos logs the losses that the always-on domain recorded. -/
def logDue (s : State) : State := logResets s.dev.lossDue (modDev (fun d => { d with lossDue := [] }) s)

/-- Bound of the path to ready, ms. -/
def bootBound (cold : Bool) : Nat := if cold then 4600 else 1300

/-- The ready check (step 10), after the time the bring-up took. DESIGN CHOICE (log entry 79): the watchdog counts from
here, as Trotos writes its first CREST_HEART no later. -/
def readyCheck (cold : Bool) (b : Bringup) (s : State) : State :=
  let s := elapse (b.ms * 940000) s
  let s := modDev (fun d => { d with heartAt := s.now }) s
  let s := setReg 0 0 0x50 (if devReady s then BitVec.ofNat 32 (min 0xFFFE ((s.now - s.dev.bootAt) / 940000)) else 0xFFFF) s
  if devReady s ∧ bootBound cold < b.ms then raiseCe 0 0 9 10 s else s

/-- A trial that has booted succeeds or waits for its bound (R412). -/
def trialCheck (b : Bringup) (s : State) : State :=
  if !s.dev.flash.record.trial then s
  else if trialOk s ∧ b.ms ≤ 1300 then trialSuccess s
  else modDev (fun d => { d with trial := some d.bootAt }) s

/-- Steps 4 to 10, once the firmware runs. DESIGN CHOICE (log entry 87): the links' training is counted from the end of the
bring-up's command, behind which the commands of its states come. -/
def finishBoot (cold : Bool) (b : Bringup) (s : State) : State :=
  let s := startTrotos s
  let (counted, s) := if cold then bistAndLog b s else (true, s)
  let s := trainEdges b (trainStacks b ((List.range 24).filter (stackEnabled s)) (enableAll (floodSwitches (remapAll s))))
  let s := logDue (microcode counted cold b (atCycle (s.now + b.ms * 940000) (trainLinks s.dev.flash.config.linkCfg) s))
  trialCheck b (readyCheck cold b s)

/-- The boot ROM goes to the network, over interface 0 of port 0 in mode 0, without MACsec (R407). -/
def toNetwork (cold : Bool) (b : Bringup) (s : State) : State :=
  let s := setReg 0xB 0 0x40 (setField (reg s 0xB 0 0x40) 1 0 0) (setReg 0xB 0 8 (setField (reg s 0xB 0 8) 0 0 1) s)
  modSec (fun x => { x with netWait := some (b, !cold), netNext := 0, netData := [] })
    { s with serve := { s.serve with ethUp := sset (fun _ => false) s.serve.ethUp 0 true } }

/-- What M0's extension is the digest of (Table 15.2). -/
def m0Input (s : State) : List Byte :=
  let f := s.dev.fuses
  Config.m0Bytes f.keyDigests f.programmed f.revoked f.rollback f.variantH (bootSrc s)

/-- No firmware runs: DEV_STAT.reason 5. -/
def noFirmware (s : State) : State := modDev (fun d => { d with fwFail := true }) s

/-- Step 3: M0, then the firmware as BOOT_SRC selects (R406 to R413). -/
def bootFirmware (cold : Bool) (b : Bringup) (s : State) : State :=
  let s := modDev (fun d => { d with step := 3 }) (measure 0 (shake256 64 (m0Input s)) s)
  let fromFlash := fun (s : State) =>
    match bootFlash s with
    | (true, s) => finishBoot cold b s
    | (false, s) => if bootSrc s = 2 then toNetwork cold b s else noFirmware s
  match bootSrc s with
  | 1 => toNetwork cold b s
  | 3 => s
  | _ =>
    if !s.dev.flash.record.trial then fromFlash s
    else if cold then
      fromFlash (setUpd 3 (modRecord (fun r => { r with trial := false, staged := false, fallback := true }) s))
    else
      match bootSlot (inactiveSlot s) s with
      | (0, s) => finishBoot cold b s
      | (r, s) => trialFail r s

/-! ## Cold (R368, R375) -/

/-- SEC_UPD as the boot record gives it (R413). -/
def restoreUpd (s : State) : State :=
  let r := s.dev.flash.record
  if r.staged then
    match flashSlot s (inactiveSlot s) with
    | some p => setStaged p s
    | none => s
  else if r.fallback then setUpd 3 s
  else s

/-- Reset values that follow the fuses and the reset itself: ENG_BUDGET holds the package limit (Table 14.4), and
DEV_BOOT_MS reads 0xFFFF until the device is ready (Table 13.10). -/
def resetLimits (s : State) : State := setReg 0 0 0x50 0xFFFF (setBudget (packageLimit s) 16 s)

/-- COLD_BRINGUP: COLD_RST_N rises. -/
def coldBringup (b : Bringup) (s : State) : State :=
  if s.dev.up then s
  else
    let f := mergeFuses s.dev.fuses b.fuses
    let flash := match b.flash with | some x => x | none => s.dev.flash
    let dev := { DevSt.reset with up := true, fuses := f, flash := flash, step := 2, fuseError := b.fuseError, bootAt := s.now }
    let s := { State.reset with pending := s.pending, now := s.now, free := s.free, out := s.out, dev := dev }
    let s := resetLimits (setReg 0 0 0x40 (devInfo f b) s)
    if b.fuseError then s else bootFirmware true b (restoreUpd s)

/-- COLD_RESET: COLD_RST_N goes low, or PWR_GOOD falls. Fuses and flash stay; HBM is lost. -/
def coldReset (s : State) : State :=
  let t := { State.reset with
    pending := s.pending, now := s.now, free := s.free, out := s.out,
    dev := { DevSt.reset with fuses := s.dev.fuses, flash := s.dev.flash } }
  setBudget (packageLimit t) 16 t

/-! ## Warm (R381) -/

/-- DEV_RESET code of a cause (Table 13.10). -/
def causeCode : WarmCause → Nat
  | .pin => 1
  | .register => 2
  | .sideband => 3
  | .watchdog => 4
  | .fatal => 5
  | .firmware => 6

/-- A warm reset that a cause of its own must have asked for is due; a pin, a register write or the sideband start one
at once. -/
def warmDue (s : State) (cause : WarmCause) : Bool :=
  match cause with
  | .pin | .register | .sideband => true
  | c => s.dev.warm == some c

/-- A register that a warm reset returns to its reset value (Table 0.7). -/
def warmHit (cls inst off : Nat) : Bool := retClass cls inst off != 1

/-- What a warm reset loses that R384 logs. -/
def warmLosses (s : State) : List Loss :=
  let e := s.energy
  regLosses s warmHit ++ highLosses s (s.cores.map (·.1)) ++ (List.range 16).flatMap (energyLoss s) ++
    (if e.shared = 0 ∧ e.pkg = 0 ∧ e.job.isEmpty then [] else [⟨0x12, 2, 0⟩]) ++
    (if s.faults.entries.any fun x => entryLive s x.2 then [⟨0x13, 2, 0⟩] else [])

/-- A key slot keeps its generations; its sweep ends with its windows. -/
def warmKey (k : KeySlot) : KeySlot := { k with sweep := none, oldReads := [], swept := 0, total := 0 }

/-- A latch keeps a held _LO write of a register of class K (R18). -/
def warmLatch (x : Latch) : Latch :=
  match x.wr with
  | some w => if retClass (keyPage w.1).1 (keyPage w.1).2.1 (keyPage w.1).2.2 = 1 then ⟨none, some w⟩ else .reset
  | none => .reset

/-- The always-on domain and the memories through a warm reset; everything else returns to its reset value. -/
def warmKeep (s : State) : State :=
  let d := s.dev
  { State.reset with
    pending := s.pending, now := s.now, free := s.free, out := s.out,
    regs := sdrop (fun k => warmHit (keyPage k).1 (keyPage k).2.1 (keyPage k).2.2) s.regs,
    hub := s.hub, hbm := s.hbm,
    host := { HostSt.reset with eid := s.host.eid, tid := s.host.tid, latches := smap (fun _ => Latch.reset) (fun _ => warmLatch) s.host.latches },
    faults := { Faults.reset with log := s.faults.log, head := s.faults.head, lost := s.faults.lost },
    mem := { Mem.reset with keys := smap (fun _ => KeySlot.reset) (fun _ => warmKey) s.mem.keys,
                            stk := smap (fun _ => Stack.reset) (fun _ x => { Stack.reset with selfRefresh := x.trained }) s.mem.stk },
    dev := { DevSt.reset with
      up := true, fuseError := d.fuseError, fuses := d.fuses, flash := d.flash, bad := d.bad, bypass := d.bypass,
      dieBad := d.dieBad, log := d.log, toLog := d.toLog, logFound := d.logFound, logFailed := d.logFailed,
      logFull := d.logFull, tripped := d.tripped, bootAt := s.now,
      heartAt := s.now,
      lossDue := d.lossDue ++ [(warmLosses s).map fun x => (x.cls, x.group, x.inst)] } }

/-- The primary-fault message leaves on every pair link that can send it. -/
def launchAll : List Nat → State → State
  | [], s => s
  | l :: t, s => launchAll t (frameLaunch l s)

/-- WARM_RESET. -/
def warmReset (cause : WarmCause) (b : Bringup) (s : State) : State :=
  if !s.dev.up || !warmDue s cause then s
  else
    let s := if s.faults.fatal.isEmpty then s else fatalEventLog s
    let s := primaryFault 2 s
    let s := warmKeep (launchAll (pairLinks s) s)
    let s := bump48 0 0 0x54 0 1 none (setReg 0 0 0x4C (BitVec.ofNat 32 (causeCode cause)) (resetLimits s))
    if s.dev.fuseError then s else bootFirmware false b s

/-! ## Network boot (R407) -/

/-- The body of a BOOT_REQ frame. -/
def bootReqBody : List Byte := [1, 0, 8, 0]

/-- BOOT_REQ, until a host has answered with a block. The spec gives no destination address: it is a free value. -/
def bootReq (s : State) : State :=
  match s.sec.netWait with
  | none => s
  | some _ =>
    if !s.sec.netData.isEmpty then s
    else
    let dst : BitVec 48 := BitVec.ofNat 48 (Config.freeNat s.free)
    drawFree (emit (.frame 0 (padFrame (macHeader dst (intfMac s 0) none 0x88B5 ++ bootReqBody))) s)

/-- The bytes received so far hold a whole package. -/
def packageWhole (b : List Byte) : Bool := complete (packageOf b).stage1 && complete (packageOf b).stage2

/-- BOOT_DATA: the block of the next index; any other is ignored. A whole package is verified and booted. -/
def bootData (block : Nat) (bytes : List Byte) (s : State) : State :=
  match s.sec.netWait with
  | none => s
  | some (b, warm) =>
    if block ≠ s.sec.netNext then s
    else
      let data := s.sec.netData ++ padTo 1024 bytes
      let s := modSec (fun x => { x with netNext := x.netNext + 1, netData := data }) s
      if !packageWhole data then s
      else
        let p := packageOf data
        let s := modSec (fun x => { x with netWait := none, netNext := 0, netData := [] }) s
        match bootComponents p false [1, 2, 3] s with
        | (0, s) => finishBoot (!warm) b (running false true p s)
        | (_, s) => noFirmware s

/-! ## Rows -/

/-- COLD_BRINGUP (R368). -/
def execColdBringup (b : Bringup) (s : State) : Host.Outcome State Fault Refusal :=
  answer (.coldBringup b) s <|
    coldBringup b s

/-- COLD_RESET (R375). -/
def execColdReset (powerFell : Bool) (s : State) : Host.Outcome State Fault Refusal :=
  answer (.coldReset powerFell) s <|
    coldReset s

/-- WARM_RESET (R381). -/
def execWarmReset (cause : WarmCause) (b : Bringup) (s : State) : Host.Outcome State Fault Refusal :=
  answer (.warmReset cause b) s <|
    warmReset cause b s

/-- BOOT_REQ (R407). -/
def execBootReq (dt : Nat) (s : State) : Host.Outcome State Fault Refusal :=
  answer (.bootReq dt) s <|
    bootReq (elapse dt s)

/-- BOOT_DATA (R407). -/
def execBootData (block : Nat) (bytes : List Byte) (s : State) : Host.Outcome State Fault Refusal :=
  answer (.bootData block bytes) s <|
    bootData block bytes s

end Sys2Proof.Machine
end

