-- ==== Sys2Proof/Machine/Digest.lean ====
section
/-! DEFINITION. The configuration digest (R26, R429 to R432): contributions, page and device digests, publication, and the
comparison with peers. -/

namespace Sys2Proof.Machine

open Sys2Proof

/-! ## Contributions (R429, Table 16.7) -/

/-- What a configuration register or table entry word adds: its page, whether it is shared, and the contribution. -/
structure Contrib where
  cls : Nat
  inst : Nat
  shared : Bool
  value : Dword
  deriving DecidableEq, Repr

/-- Bytes 0-7 of SHAKE256(a ‖ i ‖ v ‖ k). -/
def contribution (a i v k : Nat) : Dword :=
  BitVec.ofNat 64 (leNat (shake256 8 (leBytes 4 a ++ leBytes 4 i ++ leBytes 4 v ++ leBytes 1 k)))

/-- Offset `o` is one of some registers. -/
def isAt (l : List Nat) (o : Nat) : Bool := l.contains o

/-- A stored configuration register: whether it is shared, and its index. -/
def configIndex (cls inst off bank : Nat) : Option (Bool × Nat) :=
  match cls with
  | 6 => if 0x200 ≤ off ∧ off < 0x400 then some (true, 0) else none
  | 7 => if off = 0x44 then some (true, 0) else none
  | 9 => if off = 0x44 then some (false, 0) else none
  | 0xB =>
    if off = 0x40 then some (true, 0) else if off = 0x4C ∨ off = 0x50 then some (false, bank) else none
  | 0xE =>
    if isAt [0x40, 0x44, 0x48, 0x4C, 0x50] off then some (true, 0) else if off = 0x74 then some (false, 0) else none
  | 0xF =>
    if inst = 0 then
      if off = 0x40 then some (true, 0)
      else if off = 0x90 then some (true, bank)
      else if isAt [0x4C, 0x50, 0x54] off then some (false, bank)
      else if isAt [0x6C, 0x70, 0x74, 0x78, 0x7C, 0x80, 0x84, 0x144, 0x148, 0x14C, 0x150] off then some (false, 0)
      else none
    else if isAt [0x44, 0x48, 0x4C] off then some (false, 0)
    else if isAt [0x54, 0x58, 0x5C, 0x60] off then some (false, (off - 0x54) / 4)
    else none
  | 0x12 =>
    if inst = 0 then
      if isAt [0x44, 0x48, 0x4C] off then some (true, 0) else if off = 0x54 then some (true, bank) else none
    else none
  | 0x17 =>
    if isAt [0x40, 0x44, 0x48, 0x4C, 0x50, 0x64, 0x94] off then some (true, 0)
    else if isAt [0x54, 0x58, 0x5C, 0x60] off then some (true, (off - 0x54) / 4)
    else none
  | 0x18 => if isAt [0x40, 0x44, 0x48] off then some (false, 0) else none
  | 0x1A => if off = 0x40 then some (true, 0) else none
  | _ => none

/-- The value that a configuration register holds for the digest: its RW and WO fields; SRV_CFG with the budget in force. -/
def configValue (s : State) (cls inst off : Nat) (v : Word) : Nat :=
  let v := if cls = 0xE ∧ off = 0x40 then setField v 3 0 s.serve.budget else v
  match regRow? cls inst off with
  | some r => v.toNat &&& (r.rw ||| r.wo)
  | none => 0

/-- Contribution of a stored register; none where it is no configuration register or holds its reset value. -/
def regContrib (s : State) (e : Nat × Word) : Option Contrib :=
  let (cls, inst, off) := keyPage e.1
  match configIndex cls inst off (e.1 / 2 ^ 32), regRow? cls inst off with
  | some (sh, i), some r =>
    let v := configValue s cls inst off e.2
    if v = (regReset e.1).toNat &&& (r.rw ||| r.wo) then none
    else some ⟨cls, inst, sh, contribution (e.1 % 2 ^ 32) i v (retClass cls inst off)⟩
  | _, _ => none

/-- Contribution of a table entry word, shown in a register of the page; an entry word's reset value is 0. -/
def wordContrib (cls inst off i v : Nat) : Option Contrib :=
  if v = 0 then none else some ⟨cls, inst, true, contribution (regAddr cls inst off) i v (retClass cls inst off)⟩

/-- Words of the filter, message-type and field-descriptor tables. -/
def tabContribs (s : State) : List Contrib :=
  s.serve.tab.filterMap fun e =>
    let w := e.1 % 8
    wordContrib 0xC 0 (0x44 + 4 * w) (e.1 / 2 ^ 20 * 2 ^ 24 + e.1 % 2 ^ 20 / 8 * 2 ^ 8 + w) e.2.toNat

/-- Words of the instrument map, without state and leave-pending bits. -/
def mapContribs (s : State) : List Contrib :=
  (mapEntries s).flatMap fun e =>
    let ws := entryWords { e.2 with st := 0, leave := false }
    (List.range 4).filterMap fun w =>
      wordContrib 0xC 0 (0x44 + 4 * w) (3 * 2 ^ 24 + e.1 * 2 ^ 8 + w) (ws.getD w 0).toNat

/-- Template words 0 to 80, as committed. -/
def tplContribs (s : State) : List Contrib :=
  s.serve.tpl.filterMap fun e =>
    if e.1 % 82 < 81 then wordContrib 0xD 0 0x44 (e.1 / 82 * 2 ^ 8 + e.1 % 82) e.2.toNat else none

/-- Model slots. -/
def modelContribs (s : State) : List Contrib :=
  s.serve.models.filterMap fun e => wordContrib 0xE 0 0x58 e.1 e.2.toNat

/-- Random keys in effect. -/
def keyContribs (s : State) : List Contrib :=
  s.rng.flatMap fun e => (List.range 4).filterMap fun w =>
    wordContrib 0x19 (e.1 / 64) (0x48 + 4 * w) (4 * e.1 + w) (bitsOf e.2.key.toNat (32 * w + 31) (32 * w))

/-- The stored registers that count, SRV_CFG among them whatever it holds: its budget counts from the gather boundary at which it
takes effect (Table 16.7). -/
def configRegs (s : State) : List (Nat × Word) :=
  (regKey 0xE 0 0x40 0, reg s 0xE 0 0x40) :: s.regs.filter fun e => e.1 != regKey 0xE 0 0x40 0

/-- Every contribution. -/
def contribs (s : State) : List Contrib :=
  (configRegs s).filterMap (regContrib s) ++ tabContribs s ++ mapContribs s ++ tplContribs s ++ modelContribs s ++ keyContribs s

/-- The digest of a page. -/
def pageDigest (s : State) (cls inst : Nat) : Dword :=
  xorAll (((contribs s).filter fun c => c.cls == cls && c.inst == inst).map fun (c : Contrib) => c.value)

/-! ## Device and shared digests (R430) -/

/-- "FT9-TIMING". -/
def timingLabel : List Byte := [0x46, 0x54, 0x39, 0x2D, 0x54, 0x49, 0x4D, 0x49, 0x4E, 0x47]

/-- The timing contribution. -/
def timingContribution (s : State) : Dword :=
  let (t, f) := match s.sched.active with | some im => (im.tickCode, im.frameCode) | none => (1, 4)
  BitVec.ofNat 64 (leNat (shake256 8 (timingLabel ++ ((List.range 56).map fun l => leBytes 4 (link s l).word.toNat).flatten ++
    [2, 6, 12, 10] ++ leBytes 2 940 ++ leBytes 1 t ++ leBytes 1 f)))

/-- The device digest. -/
def deviceDigest (s : State) : Dword := xorAll ((contribs s).map fun (c : Contrib) => c.value) ^^^ timingContribution s

/-- The shared digest. -/
def sharedDigest (s : State) : Dword :=
  xorAll (((contribs s).filter fun c => c.shared).map fun (c : Contrib) => c.value)

/-! ## Comparison with peers (R431, R432) -/

/-- Change what the DIGEST page keeps. -/
def modDig (f : DigSt → DigSt) (s : State) : State := { s with dig := f s.dig }

/-- CAIRN_LAYOUT. -/
def cairnLayout (s : State) : Dword := rget64 s (regKey 0x17 0 0x4C 0)

/-- The peer's last comparisons. -/
def peerRow (s : State) (d : Nat) : DigPeer := (s.dig.peers.find? (·.device == d)).getD ⟨d, 0, 0, false, 0⟩

/-- Keep a peer's row. -/
def setPeerRow (x : DigPeer) (s : State) : State :=
  modDig (fun d => { d with peers := d.peers.filter (·.device != x.device) ++ [x] }) s

/-- The fourth frame in a row that differs: config_diverge, its event, and DIG_CMP. -/
def configDiverge (d l frame : Nat) (s : State) : State :=
  let s := modDig (fun x => { x with lastPeer := d, lastLink := l }) (setPeerRow ⟨d, l, 4, true, frame + 1⟩ s)
  logEvent 0x0030 0x14 0 0 (leBytes 2 d ++ leBytes 1 l ++ [0] ++ leBytes 8 frame) (raiseCe 0x14 0 0 (d + 2 ^ 9 * l) s)

/-- Compare a peer's shared digest of a frame, each frame once and in order. -/
def compareDigest (d l frame : Nat) (mine theirs : Dword) (s : State) : State :=
  let r := peerRow s d
  if frame < r.last then s
  else
    let s := modDig (fun x => { x with compared := if x.compared.contains d then x.compared else x.compared ++ [d] }) s
    if mine = theirs then setPeerRow ⟨d, l, 0, false, frame + 1⟩ s
    else if r.raised then setPeerRow { r with last := frame + 1 } s
    else if r.run + 1 < 4 then setPeerRow ⟨d, l, r.run + 1, false, frame + 1⟩ s
    else configDiverge d l frame s

/-- The message is one to compare: both layouts equal and not zero, or from the formed pair partner. -/
def comparable (s : State) (l : Nat) (layout : Dword) : Bool :=
  (layout == cairnLayout s && layout != 0) || (s.pair.formed && (partnerLinks s).contains l)

/-- DIGEST_MSG: compared with the own digest of its frame, or kept until that is published. -/
def digestMessage (l : Nat) (frame : Word) (layout digest : Dword) (s : State) : State :=
  if (link s l).st ≠ 5 ∨ !comparable s l layout then s
  else
    let d := (link s l).peerDevice
    match s.dig.own.find? fun o => BitVec.ofNat 32 o.1 == frame with
    | some o => compareDigest d l o.1 o.2 digest s
    | none => modDig (fun x => { x with waiting := (x.waiting ++ [(frame, layout, digest, d, l)]).take 4096 }) s

/-- Compare the waiting messages of a frame. -/
def compareWaiting (frame : Nat) (mine : Dword) : List (Word × Dword × Dword × Nat × Nat) → State → State
  | [], s => s
  | (f, _, digest, d, l) :: t, s =>
    compareWaiting frame mine t (if f = BitVec.ofNat 32 frame then compareDigest d l frame mine digest s else s)

/-- The links in UP. -/
def linksUp (s : State) : List Nat := (List.range 56).filter fun l => (link s l).st == 5

/-- Before the tick boundary that begins a frame: what the frame boundary will publish, without the changes of its cycle. -/
def holdDigest (s : State) : State :=
  if s.tick.running && (s.tick.n.toNat + 1) % ticF s == 0 then
    modDig (fun d => { d with held := some (deviceDigest s, sharedDigest s, timingContribution s) }) s
  else s

/-- Publication at a frame boundary (R430, R431): the page, the message on every link in UP, and what waited. -/
def publishDigest (s : State) : State :=
  let g := frameNo s
  let (device, shared, timing) := s.dig.held.getD (deviceDigest s, sharedDigest s, timingContribution s)
  let msg := mgmtSlot 0x20 (leBytes 4 g ++ leBytes 8 (cairnLayout s).toNat ++ leBytes 8 shared.toNat)
  let wait := s.dig.waiting
  let d := s.dig
  let s := { s with dig := { d with
    dev := device, shared := shared, timing := timing, frame := BitVec.ofNat 64 g, held := none,
    own := (g, shared) :: d.own.take 63, waiting := [], shown := d.compared.length, compared := [] } }
  compareWaiting g shared wait (sendSlot msg (linksUp s) s)

/-! ## Rows -/

/-- DIGEST_MSG (R431). -/
def execDigestMsg (dt link : Nat) (frame : Word) (layout : Dword) (digest : Dword) (replayed : Bool) (s : State) : Host.Outcome State Fault Refusal :=
  answer (.digestMsg dt link frame layout digest replayed) s <|
    onlyIf (!replayed) (digestMessage link frame layout digest (elapse dt s)) (elapse dt s)

end Sys2Proof.Machine
end

