-- ==== Sys2Proof/Machine/Flags.lean ====
section
/-! DEFINITION. The common page header (R12, R15, R21, R22, R25): which pages exist, what their identity, capability,
control, status, digest and retention registers read, and which bank of a selected register is shown. -/

namespace Sys2Proof.Machine

open Sys2Proof

/-- Instances of a page class (Table 0.5). -/
def pageCount (cls : Nat) : Nat :=
  [1, 1, 1, 16, 576, 9216, 8, 24, 14, 56, 1, 2, 1, 1, 1, 1025, 1, 1, 17, 1, 1, 16, 9, 1, 1, 64, 4096, 14, 64].getD cls 0

/-- The page exists (R13). -/
def pageExists (cls inst : Nat) : Bool := decide (inst < pageCount cls)

/-- The page's unit is fused off (R15). -/
def pageFused (s : State) (cls inst : Nat) : Bool := cls == 7 && !stackEnabled s inst

/-! ## Capabilities (Table 0.8, and each page's own rule) -/

/-- PAGE_CAP.digest. -/
def capDigest (cls inst : Nat) : Bool :=
  [6, 7, 9, 0xB, 0xC, 0xD, 0xE, 0xF, 0x17, 0x18, 0x19, 0x1A].contains cls || (cls == 0x12 && inst == 0)

/-- PAGE_CAP.freezable. -/
def capFreeze (cls inst : Nat) : Bool := [5, 6, 9, 0x15].contains cls || (cls == 0xF && inst != 0)

/-- PAGE_CAP[15:0]. -/
def capLow (cls inst : Nat) : Nat :=
  match cls with
  | 0 => 16 | 1 => 4 | 4 => 16 | 5 => 14 + 2 ^ 8 * 3 | 6 => 32 | 7 => 32 | 8 => 4 | 9 => 8 | 0xB => 4 | 0xC => 512
  | 0xD => 1024 | 0xE => 64 | 0xF => if inst = 0 then 1024 else 0
  | 0x10 => 3 | 0x11 => 8 | 0x12 => if inst = 0 then 16 else 0
  | 0x13 => 64 | 0x15 => 16 | 0x16 => 8 | 0x17 => 4 | 0x19 => 64 | 0x1A => 32 | 0x1B => 4 + 2 ^ 8 * 16 | 0x1C => 2
  | _ => 0

/-- The retention classes of the page's groups, group 0 first (PAGE_RETAIN). -/
def retainGroups (cls inst : Nat) : List Nat :=
  match cls with
  | 0 => [2, 2, 1, 5] | 1 => [2, 1, 2, 5] | 2 => [2, 2, 5] | 3 => [2, 1, 5, 2] | 4 => [4, 4, 5] | 5 => [4, 4, 5, 4]
  | 6 => [2, 2, 2, 5, 2] | 7 => [2, 2, 2, 1, 5] | 8 => [2, 1, 5, 2] | 9 => [2, 2, 2, 5] | 0xA => [2, 2, 5]
  | 0xB => [2, 2, 2, 5] | 0xC => [2, 2, 2, 5] | 0xD => [2, 2, 2, 5] | 0xE => [2, 2, 2, 5] | 0xF => [2, 2, 5, 2]
  | 0x10 => [2, 1, 5] | 0x11 => [2, 2, 5] | 0x12 => if inst = 0 then [2, 2, 2, 5] else [2, 3, 5]
  | 0x13 => [2, 2, 2, 5, 1] | 0x14 => [2, 5] | 0x15 => [2, 2, 2, 5] | 0x16 => [2, 2, 5] | 0x17 => [2, 2, 2, 5]
  | 0x18 => [2, 2, 2, 5] | 0x19 => [2, 2, 2] | 0x1A => [2, 2, 2, 5] | 0x1B => [2, 2, 2, 5] | 0x1C => [2, 1, 5, 2]
  | _ => []

/-- PAGE_CAP. -/
def pageCap (s : State) (cls inst : Nat) : Word :=
  BitVec.ofNat 32 (2 ^ 31 * bit01 (!pageFused s cls inst) + 2 ^ 30 * bit01 (capDigest cls inst) +
    2 ^ 29 * bit01 (capFreeze cls inst) + 2 ^ 16 * (retainGroups cls inst).length + capLow cls inst)

/-- PAGE_RETAIN. -/
def pageRetain (cls inst : Nat) : Word :=
  BitVec.ofNat 32 ((retainGroups cls inst).foldr (fun c n => c + 16 * n) 0)

/-- PAGE_ID. -/
def pageId (cls inst : Nat) : Word := BitVec.ofNat 32 (2 ^ 26 * cls + 2 ^ 12 * inst + 1)

/-! ## Control and status -/

/-- The page's unit is enabled, as PAGE_CTL.enable reads: always 1 for some pages, always 0 for PAIR and RNG. -/
def pageEnabled (s : State) (cls inst : Nat) : Bool :=
  if [0, 1, 0x10, 0x11, 0x12, 0x13, 0x14, 0x15].contains cls then true
  else if cls = 0x18 ∨ cls = 0x19 then false
  else (reg s cls inst 8).getLsbD 0

/-- The page's master is frozen (R25). -/
def pageFrozen (s : State) (cls inst : Nat) : Bool :=
  match cls with
  | 5 => coreFrozen s inst
  | 6 => engineFrozen s inst
  | 9 => (link s inst).frozen
  | 0xF => inst != 0 && (reg s 0xF inst 8).getLsbD 1
  | 0x15 => partFrozen s inst
  | _ => false

/-- The page's unit is in reset. -/
def pageResetting (s : State) (cls inst : Nat) : Bool :=
  pageInReset s cls inst || (cls == 0x15 && partInReset s inst)

/-- PAGE_CTL. -/
def pageCtl (s : State) (cls inst : Nat) : Word :=
  BitVec.ofNat 32 (bit01 (pageEnabled s cls inst) + 2 * bit01 (pageFrozen s cls inst))

/-- The _HI register of a 48-bit counter, with its sticky overflow bit (Table 16.6). -/
def isCounterHi (cls inst off : Nat) : Bool :=
  match cls with
  | 0 => off == 0x58
  | 4 => [0x54, 0x5C, 0x64].contains off
  | 5 => [0x54, 0x64, 0x6C, 0x12C, 0x134, 0x13C, 0x144].contains off
  | 6 => [0x4C, 0x54].contains off
  | 7 => [0x64, 0x6C].contains off
  | 9 => [0x64, 0x6C, 0x74, 0x7C].contains off
  | 0xB => off == 0x5C
  | 0xC => off == 0x78
  | 0xD => off == 0x54
  | 0xE => off == 0x90
  | 0xF => if inst = 0 then off == 0x68 else off == 0x6C
  | 0x12 => inst == 0 && [0x78, 0x80].contains off
  | 0x13 => [0x64, 0x74].contains off
  | 0x15 => [0x54, 0x5C, 0x64].contains off
  | 0x16 => if inst = 0 then off == 0x8C else off == 0x4C
  | 0x17 => [0xA0, 0xA8].contains off
  | 0x18 => [0x70, 0x78].contains off
  | 0x1A => [0x54, 0x5C, 0x64, 0x6C, 0x184, 0x18C].contains off || (decide (0x84 ≤ off) && decide (off < 0x184) && off % 8 == 4)
  | 0x1B => [0x5C, 0x64, 0x6C].contains off
  | _ => false

/-- A counter of the page has its sticky overflow bit set. -/
def pageOverflow (s : State) (cls inst : Nat) : Bool :=
  s.regs.any fun e => (keyPage e.1).1 == cls && (keyPage e.1).2.1 == inst && isCounterHi cls inst (keyPage e.1).2.2 &&
    e.2.getLsbD 31

/-- A core or cluster whose registers of class V read their reset values: in reset (R20), or its partition in Retain or Off
(Table 13.7). -/
def unitDark (s : State) (cls inst : Nat) : Bool :=
  if cls = 5 then coreInReset s inst || decide (7 ≤ ridgePower s (ridgeOf inst))
  else if cls = 4 then
    pageInReset s 4 inst || decide (7 ≤ ridgePower s (ridgeOf ((clusterCores inst).getD 0 0)))
  else false

/-- All three streams of a core are parked. -/
def allParked (x : Core) : Bool := x.f.parked.isSome && x.b.parked.isSome && x.u.parked.isSome

/-- PAGE_STAT[31:16]. -/
def classStat (s : State) (cls inst : Nat) : Nat :=
  match cls with
  | 0 => bit01 (devReady s)
  | 2 => bit01 (if field (reg s 2 0 0x44) 1 0 = 1 then s.tick.running else s.tick.locked)
  | 3 => bit01 (gridOk s inst) + 2 * bit01 (assigned s)
  | 5 =>
    if unitDark s 5 inst then 0
    else bit01 ((core s inst).spill || s.dev.flood) + 2 * bit01 (allParked (core s inst)) + 4 * bit01 (core s inst).half
  | 6 => bit01 ((reg s 6 inst 0x5C).getLsbD 31)
  | 9 => (link s inst).st
  | 0x14 => bit01 (s.dig.peers.any (·.raised))
  | 0x15 => (part s inst).st
  | 0x16 => if inst = 0 then s.sched.st else 0
  | 0x1A => bit01 (sget (fun _ => false) s.monClear inst)
  | 0x1B => ((List.range 4).map fun k => 2 ^ k * bit01 (!(engine s inst k).slots.isEmpty)).sum
  | _ => 0

/-- The page's unit is enabled and running. -/
def pageActive (s : State) (cls inst : Nat) : Bool :=
  (if cls = 0x18 then (reg s 0x18 0 0x40).getLsbD 9 else pageEnabled s cls inst) && !pageFrozen s cls inst &&
    !pageResetting s cls inst && !unitDark s cls inst

/-- PAGE_STAT. A page whose unit is powered down reads 0 (R383); one whose core or cluster is in reset shows in_reset
alone (R20). -/
def pageStat (s : State) (cls inst : Nat) : Word :=
  if unitDark s cls inst then (if pageResetting s cls inst then 4 else 0)
  else BitVec.ofNat 32 (bit01 (pageActive s cls inst) + 2 * bit01 (pageFrozen s cls inst) + 4 * bit01 (pageResetting s cls inst) +
    8 * bit01 (reg s cls inst 0x10 != 0) + 16 * bit01 (pageOverflow s cls inst) + 2 ^ 16 * classStat s cls inst)

/-- One half of a 64-bit quantity. -/
def halfOf (hi : Bool) (d : Dword) : Word := BitVec.ofNat 32 (if hi then d.toNat / 2 ^ 32 else d.toNat)

/-- A header register that is not stored. ERR_CNT reads as it was before the causes of the present cycle (R17). -/
def headerView (s : State) (cls inst off : Nat) : Option Word :=
  if off = 0 then some (pageId cls inst)
  else if off = 4 then some (pageCap s cls inst)
  else if off = 8 then some (pageCtl s cls inst)
  else if off = 0xC then some (pageStat s cls inst)
  else if off = 0x1C then
    (if (freshPage s cls inst).count = 0 then none else some (freshPage s cls inst).before)
  else if off = 0x28 ∨ off = 0x2C then
    some (if capDigest cls inst then halfOf (off == 0x2C) (pageDigest s cls inst) else 0)
  else if off = 0x30 then some (pageRetain cls inst)
  else none

/-! ## Banks -/

/-- The item that a register shows, by the page's select register; 0 where it has none. -/
def bankOf (s : State) (cls inst off : Nat) : Nat :=
  let sel := fun (o hi : Nat) => field (reg s cls inst o) hi 0
  match cls with
  | 0xB => if off = 0x4C ∨ off = 0x50 then sel 0x48 1 else if off = 0x58 ∨ off = 0x5C then sel 0x54 3 else 0
  | 0xC => if off = 0x74 ∨ off = 0x78 then sel 0x70 3 else 0
  | 0xD => if off = 0x50 ∨ off = 0x54 then sel 0x4C 3 else 0
  | 0xE => if off = 0x8C ∨ off = 0x90 then sel 0x88 3 else 0
  | 0xF =>
    if inst = 0 then
      if [0x4C, 0x50, 0x54, 0x140].contains off then sel 0x48 4
      else if off = 0x64 ∨ off = 0x68 then sel 0x60 3
      else if off = 0x90 then sel 0x8C 2
      else 0
    else if off = 0x68 ∨ off = 0x6C then sel 0x64 2
    else 0
  | 0x12 => if inst = 0 ∧ off = 0x54 then sel 0x50 3 else 0
  | _ => 0

/-- Key of the stored register that an address shows. Every NUMMON page shows the one NUMMON_FRAME (R153, R156). -/
def shownKey (s : State) (cls inst off : Nat) : Nat :=
  if cls = 0x1A ∧ (off = 0x48 ∨ off = 0x4C) then regKey 0x1A 0 off 0 else regKey cls inst off (bankOf s cls inst off)

end Sys2Proof.Machine
end

