-- ==== Sys2Proof/Machine/Ticks.lean ====
section
/-! DEFINITION. Tick and frame boundaries (R45 to R52, R436), markers and lock (R277, R278), and everything that happens at
a boundary. -/

namespace Sys2Proof.Machine

open Sys2Proof

/-- Change the tick logic. -/
def modTick (f : Tick → Tick) (s : State) : State := { s with tick := f s.tick }

/-- TICK_ROLE.role. -/
def tickRole (s : State) : Nat := field (reg s 2 0 0x44) 1 0

/-- TICK_ROLE.upstream as written. -/
def upstreamReg (s : State) : Nat := field (reg s 2 0 0x44) 13 8

/-- The upstream link in force: once ticks run, a write takes effect at the next frame boundary (R52). DESIGN CHOICE (log
entry 74): while no tick is counted there is no boundary to wait for, and TICK_ROLE is taken at once. -/
def upstream (s : State) : Nat := if s.tick.running then s.tick.upstream else upstreamReg s

/-- A tick slip (R51): it freezes every partition. -/
def tickSlip (bit detail : Nat) (s : State) : State := slip 2 0 bit detail 6 (upstream s) (partsNow s) s

/-! ## The tick boundary -/

/-- N, running and the frame position at the boundary in cycle t (R46, R49, R436). DESIGN CHOICE (log entry 74): a device
that receives no upstream marker, the tick master too, shows holdover = 1. -/
def advanceTick (t base : Nat) (frameLen tickLen : Nat) (up : Nat) (k : Tick) : Tick :=
  let starts := !k.running && k.startPending
  let run := k.running || starts
  let n : Dword := if starts then BitVec.ofNat 64 base else if run then k.n + 1 else k.n
  let pos := n.toNat % frameLen
  { k with running := run, n := n, boundAt := t, startPending := k.startPending && k.running,
           frameAt := if run && pos == 0 then t else if starts then t - tickLen * pos else k.frameAt,
           frameDone := !(run && pos == 0), holdover := decide (k.lastMarker < k.boundAt),
           upstream := if k.running then k.upstream else up }

/-- Partitions that a frozen core freezes at this boundary: it froze in an earlier cycle (R422). -/
def freezeReached (s : State) : List Nat :=
  (partsNow s).filter fun p => !partFrozen s p &&
    s.cores.any fun e => e.2.frozen && decide (e.2.frozenAt < s.tick.boundAt) && partOf s e.1 == p

/-- Reset requests held until the freeze (R376) reached the partition. -/
def heldResets : List Nat → State → State
  | [], s => s
  | c :: t, s => heldResets t (heldReset c s)

/-- The takeover signal takes effect (R310): took, and the tick. -/
def takeover (s : State) : State :=
  if s.pair.takePending then
    let s := setReg 0xE 0 0x74 (setField (reg s 0xE 0 0x74) 4 4 1) { s with pair := { s.pair with takePending := false } }
    raiseCe 0xE 0 3 0 (rset64 (regKey 0xE 0 0x78 0) (tickN s) s)
  else s

/-- The primary-fault message goes out again, every tick for 64 ticks (R356). -/
def resendFault (s : State) : State :=
  match s.pair.fault with
  | some (c, n + 1) =>
    sendFirst (mgmtSlot 0x7F [BitVec.ofNat 8 c]) (pairLinks s) { s with pair := { s.pair with fault := some (c, n) } }
  | some (_, 0) => { s with pair := { s.pair with fault := none } }
  | none => s

/-- The tick stands in the last four before the armed activation (R180). -/
def lastTicks (s : State) : Bool :=
  let a := s.sched.armedTick.toNat
  s.sched.st == 3 && decide (a ≤ s.tick.n.toNat + 4) && decide (s.tick.n.toNat < a)

/-- The head's sync 01 wait is not released: it is the serving job's, in those ticks (R180). -/
def withheld (s : State) (x : Core) (st : Stream) : Bool :=
  lastTicks s && match jobOf s (iJob (headWord x st)) with | some b => b.serving | none => false

/-- Note the tick boundary of cycle t for a stream whose head waits (R101). -/
def noteTick (t : Nat) (held : Bool) (y : StreamSt) : StreamSt :=
  if y.parked.isNone && y.tickRel.isNone && decide (y.head ≤ t) && !held then { y with tickRel := some t } else y

/-- Release the sync 01 waits of a core. At an activation tick nothing of a core that switches issues (R182). -/
def releaseTick (s : State) (c : Nat) (x : Core) : Core :=
  let t := s.tick.boundAt
  if activationTick s && !staysOut (part s (partOf s c)) then { x with issued := max x.issued (t + 1) }
  else
    { x with f := noteTick t (withheld s x .f) x.f, b := noteTick t (withheld s x .b) x.b,
             u := noteTick t (withheld s x .u) x.u }

/-- Change every core that holds something. -/
def mapCores (f : Nat → Core → Core) (s : State) : State := { s with cores := smap (fun _ => Core.reset) f s.cores }

/-- TICK_BOUNDARY. DESIGN CHOICE (log entry 74): TICK_BASE is read at the boundary at which counting starts. It comes once the frame work of the boundary before is done (log entry 19). -/
def tickBoundary (m : Measured) (s : State) : State :=
  if !s.dev.up || (s.tick.running && !s.tick.frameDone) then s
  else
    let t := s.tick.boundAt + ticT s
    let s := passTo t (holdDigest (noteUnissued (settleFills (t - 1) s)))
    let s := modTick (advanceTick t (rget64 s (regKey 2 0 0x58 0)).toNat (ticF s) (ticT s) (upstreamReg s)) s
    let s := commitTemplates s.serve.tplPend (modServe (fun v => { v with tplPend := [] }) s)
    let s := takeover (todLoad s)
    let s := heldResets (s.cores.map (·.1)) (freezeParts (freezeReached s) s)
    let s := resendFault (accountTick m s)
    if s.tick.running then mapCores (releaseTick s) s else s

/-! ## The frame boundary -/

/-- The link's last marker came in the tick that ends (with the window of R51 on both sides) and met the window. -/
def markerMeets (s : State) (l : Nat) : Bool :=
  let x := link s l
  x.st == 5 && decide (s.tick.boundAt ≤ x.markAt + ticT s + 4) && decide (-2 ≤ x.mark) && decide (x.mark ≤ 2)

/-- R52: a new upstream link comes into force; its markers must already meet the window. -/
def switchUpstream (s : State) : State :=
  let l := upstreamReg s
  if tickRole s ≠ 2 ∨ l = s.tick.upstream then s
  else
    let s := modTick (fun k => { k with upstream := l }) s
    if markerMeets s l then s else tickSlip 0 (toBits 16 (link s l).mark) s

/-- The core holds instructions in its active half, or work. -/
def coreWorks (x : Core) : Bool :=
  !unitsIdle x || x.ist.any fun e => decide (e.1 / 3072 = bit01 x.half)

/-- The cores that make the check of R104: those of training partitions that ran the frame that ends. A core with no
instructions has no stream to park. -/
def overrunCores (s : State) : List Nat :=
  if s.energy.deferred then []
  else
    (s.cores.map (·.1)).filter fun c =>
      let p := partOf s c
      (trainingParts s).contains p && (part s p).st == 1 && !coreInReset s c && !coreFrozen s c && coreWorks (core s c)

/-- Publish the pick trace; a frozen core publishes nothing (R105, R106). -/
def publishTrace (frozen : Bool) (x : Core) : Core := if frozen then x else { x with traceOut := x.trace, trace := 0 }

/-- CLUSTER_TRACE. -/
def clusterTrace (s : State) (k : Nat) : Dword :=
  xorAll ((List.range 16).map fun i => rotl64 (core s ((clusterCores k).getD i 0)).traceOut i)

/-- Offset of live counter k on its NUMMON page. -/
def liveOff (k : Nat) : Nat :=
  if 16 ≤ k then 0x80 + 8 * (k - 16) else if k = 4 then 0x180 else if k = 5 then 0x188 else 0x50 + 8 * k

/-- A published counter shows its sticky bit. -/
def publishedSticky (s : State) (key : Nat) : Bool :=
  (reg s 0x1A (key / 64) (liveOff (key % 64) + 4)).getLsbD 31

/-- Publish live counters over emptied pages; `was` is the state before (R153, R155). -/
def publishLive (was : State) : List (Nat × Nat) → State → State
  | [], s => s
  | (key, v) :: t, s =>
    let m := key / 64
    let k := regKey 0x1A m (liveOff (key % 64)) 0
    let full := decide (max48 ≤ v)
    let hi := v / 2 ^ 32 % 2 ^ 16 + (if full then 2 ^ 31 else 0)
    let s := rset (k + 4) (BitVec.ofNat 32 hi) (rset k (BitVec.ofNat 32 v) s)
    publishLive was t (if full && !publishedSticky was key then raiseCe 0x1A m 0 (key % 64) s else s)

/-- The monitor at a frame boundary (R153): publication, then the pending clears, then the enables. What the boundary's own
cycle counts stays for the new frame. NUMMON_FRAME is one number for every slot, held in slot 0 and shown by all. -/
def monitorFrame (s : State) : State :=
  let fresh := dropRegs (fun cls _ off => cls == 0x1A && decide (0x50 ≤ off)) s
  let s := rset64 (regKey 0x1A 0 0x48 0) (BitVec.ofNat 64 (frameNo s)) (publishLive s (liveOf s).past fresh)
  let clear := fun (k : Nat) => sget (fun _ => false) s.monClear (k / 64)
  { s with live := { liveOf s with past := sdrop clear (liveOf s).past }, monClear := [],
           monOn := s.regs.filterMap fun e =>
             let (cls, inst, off) := keyPage e.1
             if cls = 0x1A ∧ off = 8 ∧ e.2.getLsbD 0 then some (inst, true) else none }

/-- Job j's work ran in the frame that ends (R338, R397). -/
def jobRan (s : State) (j : Nat) : Bool :=
  (jobOf s j).isSome && (!isTraining s j || !s.energy.deferred) && (jobParts s j).any fun p => (part s p).st == 1

/-- J of each job whose work ran advances. -/
def countJobs (s : State) : State :=
  ((List.range 8).filter (jobRan s)).foldl (fun s j =>
    { s with jobFrames := sset (fun _ => (0 : Dword)) s.jobFrames j (jobJ s j + 1) }) s

/-- CIRQ_SLACK shows the frame that ends. -/
def closeSlack (s : State) : State := { s with mem := { s.mem with slack := s.mem.slackNow, slackNow := [] } }

/-- A stream at the frame boundary of cycle t: parked ones resume, sync 10 waits are released (R96, R101). -/
def noteFrame (t : Nat) (y : StreamSt) : StreamSt :=
  match y.parked with
  | some _ => { y with parked := none, head := t, tickRel := some t, frameRel := some t }
  | none => if y.frameRel.isNone && decide (y.head ≤ t) then { y with frameRel := some t } else y

/-- The core's streams go on at this boundary: its partition runs, and its work is not deferred. -/
def streamsResume (s : State) (c : Nat) : Bool :=
  let p := partOf s c
  (part s p).st == 1 && !coreFrozen s c && !coreInReset s c &&
    !(s.energy.deferred && (trainingParts s).contains p)

/-- Streams at a frame boundary. -/
def resumeCores (s : State) : State :=
  let t := s.tick.frameAt
  let go := fun (c : Nat) (x : Core) =>
    if streamsResume s c then { x with f := noteFrame t x.f, b := noteFrame t x.b, u := noteFrame t x.u } else x
  mapCores go s

/-- The device trace of the frame that ended, kept with its cluster traces and sent to the partner (R355). -/
def pairTrace (frame : Nat) (s : State) : State :=
  let ts := (List.range 576).map (clusterTrace s)
  let d := xorAll ((List.range 576).map fun k => rotl64 (ts.getD k 0) (k % 64))
  let keep := (sset (fun _ => []) s.pair.traces frame ts).filter fun e => decide (frame < e.1 + 64)
  let s := { s with pair := { s.pair with trace := d, traces := if s.pair.formed then keep else [] } }
  ownValue ⟨0x11, 0, BitVec.ofNat 64 frame, d, 0, frameNo s, 0, 0, false⟩ s

/-- FRAME_BOUNDARY, in the first cycle of a frame. -/
def frameBoundary (s : State) : State :=
  if !s.tick.running || s.tick.frameDone then s
  else
    let ended := frameNo s - 1
    let s := modTick (fun k => { k with frameDone := true }) s
    let s := overrunChecks false (overrunCores s) (switchUpstream s)
    let s := mapCores (fun c => publishTrace (coreFrozen s c)) s
    let s := slotsAtFrame (closeSlack (rngCommits (monitorFrame s)))
    let s := advancePositions (closeEnergy (countJobs s))
    let s := settleLooks (feedSettle s)
    let s := pairTrace ended (publishDigest (readLosses s))
    if activationTick s then s else captures (resumeCores (castVote (decideFrame s)))

/-! ## Start, markers and lock (R49 to R52, R75, R277, R278) -/

/-- A write of TICK_START (R75): any write is ignored while ticks are counted, or where the role is not 1. -/
def tickStart (v : Word) (s : State) : State :=
  if s.tick.running ∨ tickRole s ≠ 1 then raiseCe 2 0 3 0 s
  else if v.getLsbD 0 then modTick (fun k => { k with startPending := true }) s
  else s

/-- Arrival of a marker now, minus its expected cycle b + mark_off + M_in, b being the boundary of this device whose
marker is expected nearest to now (R277). -/
def markOffset (s : State) (m : Marker) : Int :=
  let t : Int := ticT s
  let d := ((s.now : Int) - (link s m.link).mIn - m.off - s.tick.boundAt) % t
  if 2 * d ≥ t then d - t else d

/-- Tick boundaries of this device since the boundary of a marker that arrives now. -/
def ticksSince (s : State) (m : Marker) : Nat :=
  let sent := (s.now : Int) - (link s m.link).mIn - m.off - markOffset s m
  (((s.tick.boundAt : Int) - sent) / (ticT s : Int)).toNat

/-- A device that locks late becomes ready once it locks: DEV_BOOT_MS then gives the time to ready (R370). -/
def noteReady (s : State) : State :=
  if devReady s ∧ reg s 0 0 0x50 = 0xFFFF then
    setReg 0 0 0x50 (BitVec.ofNat 32 (min 0xFFFE ((s.now - s.dev.bootAt) / 940000))) s
  else s

/-- R278 step 3: the follower takes N from the marker of a frame boundary. -/
def takeNumber (m : Marker) (v : Dword) (s : State) : State :=
  let j := ticksSince s m
  let b := s.tick.boundAt - j * ticT s
  noteReady (modTick (fun k =>
    { k with
      running := true, n := v + BitVec.ofNat 64 j, frameAt := b, frameDone := true, locked := true, numberOk := true,
      upstream := m.link }) (markEnergy s))

/-- Check N of a frame-boundary marker, or take it. -/
def markNumber (m : Marker) (v : Dword) (s : State) : State :=
  if !s.tick.running then if s.tick.freqLocked then takeNumber m v s else s
  else
    let own := s.tick.n - BitVec.ofNat 64 (ticksSince s m)
    if own = v then noteReady (modTick (fun k => { k with numberOk := true, locked := k.locked || k.freqLocked }) s)
    else tickSlip 1 (v.toNat % 2 ^ 16) (modTick (fun k => { k with numberOk := false }) s)

/-- Votes and debt of the service slot of a frame boundary, from any link in UP (R395, R396). -/
def markVotes (m : Marker) (v : Dword) (s : State) : State :=
  if !s.tick.running then s
  else
    let s := takeVotes (v.toNat / ticF s + 1) m.votes s
    if v.toNat / ticF s = frameNo s ∧ m.debt.toNat ≠ debt s then
      raise 0x12 0 1 1 m.link (.parts (trainingParts s)) s
    else s

/-- A marker of the upstream link: its window (R51), then its number. -/
def upstreamMark (m : Marker) (s : State) : State :=
  let d := markOffset s m
  let s := modTick (fun k => { k with lastMarker := s.now, lastOff := m.off, offset := d }) s
  let s := if s.tick.running && !(decide (-2 ≤ d) && decide (d ≤ 2)) then tickSlip 0 (toBits 16 d) s else s
  match m.number with
  | some v => markNumber m v s
  | none => s

/-- TICK_MARKER. A replayed one is not used. -/
def tickMarker (m : Marker) (s : State) : State :=
  if m.replayed ∨ (link s m.link).st ≠ 5 then s
  else
    let s := modLink m.link (fun x => { x with mark := markOffset s m, markAt := s.now }) s
    let s := if tickRole s = 2 ∧ m.link = upstream s then upstreamMark m s else s
    match m.number with
    | some v => markVotes m v s
    | none => s

/-- HOLDOVER_EXCEEDED: 1 ms without a marker. -/
def holdoverExceeded (s : State) : State :=
  if tickRole s = 2 ∧ s.tick.running ∧ s.tick.locked then
    let s := passTo (s.tick.lastMarker + 940000) s
    tickSlip 2 (upstream s) (modTick (fun k => { k with locked := false, freqLocked := false }) s)
  else s

/-- FCLK_LOCK, steps 1 and 2 of R278: the cycle count is set so that the next marker, a multiple of T after the last one,
meets its expected cycle exactly. -/
def fclkLock (s : State) : State :=
  if tickRole s ≠ 2 ∨ (link s (upstream s)).st ≠ 5 then s
  else if s.tick.running then modTick (fun k => { k with freqLocked := true }) s
  else
    let b : Int := (s.tick.lastMarker : Int) - s.tick.lastOff - (link s (upstream s)).mIn
    let past := (((s.now : Int) - b) % (ticT s : Int)).toNat
    modTick (fun k => { k with freqLocked := true, boundAt := s.now - past }) s

/-- A write of NUMMON_CTL. -/
def nummonCtl (slot : Nat) (v : Word) (s : State) : State :=
  if v.getLsbD 0 then { s with monClear := sset (fun _ => false) s.monClear slot true } else s

/-! ## Rows -/

/-- TICK_BOUNDARY (R46). -/
def execTickBoundary (m : Measured) (s : State) : Host.Outcome State Fault Refusal :=
  answer (.tickBoundary m) s <|
    tickBoundary m s

/-- FRAME_BOUNDARY (R46). -/
def execFrameBoundary (s : State) : Host.Outcome State Fault Refusal :=
  answer (.frameBoundary) s <|
    frameBoundary s

/-- TICK_START (R49). -/
def execTickStart (src : Src) (value : Word) (s : State) : Host.Outcome State Fault Refusal :=
  answer (.tickStart src value) s <|
    tickStart value s

/-- TICK_MARKER (R51). -/
def execTickMarker (dt : Nat) (m : Marker) (s : State) : Host.Outcome State Fault Refusal :=
  answer (.tickMarker dt m) s <|
    tickMarker m (elapse dt s)

/-- HOLDOVER_EXCEEDED (R51). -/
def execHoldoverExceeded (s : State) : Host.Outcome State Fault Refusal :=
  answer (.holdoverExceeded) s <|
    holdoverExceeded s

/-- FCLK_LOCK (R278). -/
def execFclkLock (dt : Nat) (s : State) : Host.Outcome State Fault Refusal :=
  answer (.fclkLock dt) s <|
    fclkLock (elapse dt s)

/-- NUMMON_CLEAR (R153). -/
def execNummonClear (src : Src) (slot : Nat) (s : State) : Host.Outcome State Fault Refusal :=
  answer (.nummonClear src slot) s <|
    nummonCtl slot 1 s

end Sys2Proof.Machine
end

