-- ==== Sys2Proof/Machine/Views.lean ====
section
/-! DEFINITION. The registers that hold no stored state (class V, R20, and views of records kept elsewhere): what each
reads, page by page. -/

namespace Sys2Proof.Machine

open Sys2Proof

/-- A word. -/
def word (n : Nat) : Option Word := some (BitVec.ofNat 32 n)

/-- Word i of a byte string; missing bytes read 0. -/
def wordOf (b : List Byte) (i : Nat) : Option Word := word (leNat ((b.drop (4 * i)).take 4))

/-- Half of a pair whose _LO lies at `lo`. -/
def pairOf (lo off : Nat) (d : Dword) : Option Word := some (halfOf (off != lo) d)

/-- Offset `off` lies in `n` words from `lo`. -/
def inWords (off lo n : Nat) : Bool := decide (lo ≤ off) && decide (off < lo + 4 * n)

/-- Hottest sensor of a die: value, and its index in [19:16]. -/
def tempWord (s : State) (die : Nat) : Option Word :=
  word (toBits 16 (hottest s die).2 + 2 ^ 16 * (hottest s die).1)

/-- log2 of the number of Ridges of a partition. -/
def partLog (s : State) (p : Nat) : Nat := Nat.log2 (partRidges s p).length

/-! ## Device, Crest and tick -/

/-- The DEVICE page. -/
def viewDevice (s : State) (off : Nat) : Option Word :=
  if off = 0x44 then
    word (if devReady s then 1 else 2 ^ 4 * s.dev.step + 2 ^ 8 * (if s.dev.up then readyReason s else 0))
  else if off = 0x5C then
    word (s.dev.bad.length + 2 ^ 16 * (match s.dev.log with | some l => l.entries.length | none => 0))
  else if inWords off 0x60 16 then wordOf (match s.dev.log with | some l => logDigest l | none => []) ((off - 0x60) / 4)
  else if off = 0xA0 then
    word (bit01 s.dev.logFound +
      2 * bit01 (match s.dev.log with | some l => decide (1024 ≤ l.entries.length) | none => false) +
      4 * bit01 s.dev.logFailed)
  else none

/-- The CREST page. -/
def viewCrest (s : State) (off : Nat) : Option Word :=
  if off = 0x40 then word (4 + 2 ^ 8 * s.dev.fuses.crestStepping.toNat)
  else if off = 0x44 then some s.sec.version
  else if off = 0x48 then some s.dev.heart
  else if off = 0x50 then word (s.dev.running.toNat + 2 ^ 4 * s.dev.halted.toNat)
  else if off = 0x54 then tempWord s 0x27
  else none

/-- The TICK page. -/
def viewTick (s : State) (off : Nat) : Option Word :=
  if off = 0x40 then word (match s.sched.active with | some im => im.tickCode + 2 ^ 8 * im.frameCode | none => 0x401)
  else if off = 0x48 then
    word (bit01 s.tick.running + 2 * classStat s 2 0 + 4 * bit01 s.tick.holdover + 8 * bit01 s.tick.numberOk +
      2 ^ 8 * toBits 8 s.tick.offset)
  else if off = 0x50 ∨ off = 0x54 then pairOf 0x50 off (tickN s)
  else if off = 0x60 then
    word (if s.tick.running then (tickN s).toNat % ticF s + 2 ^ 16 * ((s.now - s.tick.boundAt) % ticT s) else 0)
  else none

/-! ## Dies, clusters and cores -/

/-- Rows bypassed in a column by the remap in force. -/
def bypassed (s : State) (d k : Nat) : List Nat := sget (fun _ => []) s.dev.bypass (24 * d + k)

/-- Column code of RIDGE_BYPASS. -/
def bypassCode (s : State) (d k : Nat) : Nat := if 2 < (badRows s d k).length then 3 else min 2 (bypassed s d k).length

/-- The fill that runs. -/
def runningFill (s : State) : Option Fill := s.dev.fills.head?

/-- A RIDGE page. -/
def viewRidge (s : State) (d off : Nat) : Option Word :=
  let cols := List.range 24
  if off = 0x40 then
    word (d % 4 + 2 ^ 2 * (d / 4) + 2 ^ 4 * cirqueOfRidge d + 2 ^ 8 * (s.dev.fuses.ridgeStepping.getD d 0).toNat +
      2 ^ 16 * 0x18 + 2 ^ 24 * 0x1A)
  else if off = 0x44 then word (24 * (d % 4) + 2 ^ 16 * (24 * (d / 4)))
  else if off = 0x48 then
    let p := partOfRidge s d
    word (if assigned s then p + 2 ^ 4 * partLog s p + 2 ^ 8 * bit01 ((servingParts s).contains p) + 2 ^ 9 else 0)
  else if off = 0x4C then
    word (bit01 (gridOk s d) + 2 ^ 8 * (cols.filter fun k => decide (2 ≤ (badRows s d k).length)).length +
      2 ^ 16 * (cols.map fun k => min 2 (bypassed s d k).length).sum +
      2 ^ 24 * bit01 (match runningFill s with | some f => f.ridge == d | none => false))
  else if off = 0x50 then word ((List.range 16).map fun k => 4 ^ k * bypassCode s d k).sum
  else if off = 0x54 then word ((List.range 8).map fun j => 4 ^ j * bypassCode s d (16 + j)).sum
  else if off = 0x5C then
    let k := field (reg s 3 d 0x58) 4 0
    if 24 ≤ k then word 0
    else
      let r := if bypassCode s d k = 3 then badRows s d k else bypassed s d k
      word (r.getD 0 0 + 2 ^ 5 * bit01 (decide (1 ≤ r.length)) + 2 ^ 8 * r.getD 1 0 +
        2 ^ 13 * bit01 (decide (2 ≤ r.length)) + 2 ^ 16 * (badRows s d k).length +
        2 ^ 24 * bit01 (match runningFill s with | some f => f.ridge == d && f.col == k | none => false))
  else if off = 0x60 then tempWord s d
  else if off = 0x64 then word (sget (fun _ => 0) s.dev.currents d)
  else if off = 0x68 then word (edgesOf 4 4 d + 2 ^ 4 * (sget (fun _ => 0) s.dev.saddles d % 16))
  else none

/-- A CLUSTER page. -/
def viewCluster (s : State) (k off : Nat) : Option Word :=
  let cs := clusterCores k
  if off = 0x40 then
    let d := ridgeOf (cs.getD 0 0)
    word (k % 24 + 2 ^ 8 * (k / 24) + 2 ^ 16 * d + 2 ^ 24 * cirqueOfRidge d)
  else if off = 0x44 then
    if unitDark s 4 k then word 0
    else word ((List.range 16).map fun i =>
      2 ^ i * bit01 (coreFrozen s (cs.getD i 0)) + 2 ^ (16 + i) * bit01 (coreInReset s (cs.getD i 0))).sum
  else if off = 0x48 ∨ off = 0x4C then
    if unitDark s 4 k then word 0 else pairOf 0x48 off (clusterTrace s k)
  else none

/-- State of a stream: 0 running, 1 sync wait, 2 parked, 3 stopped (Table 3.17). -/
def streamCodeOf (s : State) (c : Nat) (st : Stream) : Nat :=
  let x := core s c
  if !coreRuns s c then 3
  else if (streamOf x st).parked.isSome then 2
  else if (streamOf x st).head ≤ s.now ∧ atWait x s.now st then 1
  else 0

/-- Selected half: the active one, or the shadow. -/
def selHalf (x : Core) (shadow : Bool) : Bool := x.half != shadow

/-- Valid bits of the selected tile table. -/
def selValid (x : Core) (shadow : Bool) : BitVec 512 := if shadow then x.validShadow else x.valid

/-- The core's own views (Table 3.17). -/
def viewCoreOwn (s : State) (c off : Nat) : Option Word :=
  let x := core s c
  let sb := reg s 5 c 0x70
  let tag := field sb 8 0
  if off = 0x44 then
    word (streamCodeOf s c .f + 2 ^ 2 * streamCodeOf s c .b + 2 ^ 4 * streamCodeOf s c .u + 2 ^ 6 * bit01 x.half +
      2 ^ 8 * x.arrayQ.length + 2 ^ 10 * x.vecQ.length + 2 ^ 12 * x.movQ.length + 2 ^ 16 * bit01 x.spill)
  else if off = 0x48 then word (x.f.pc.toNat + 2 ^ 10 * x.b.pc.toNat + 2 ^ 20 * x.u.pc.toNat)
  else if off = 0x4C then word x.mask.toNat
  else if off = 0x58 ∨ off = 0x5C then pairOf 0x58 off x.traceOut
  else if off = 0x74 ∨ off = 0x78 then
    pairOf 0x74 off (sget (fun _ => (0 : Dword)) x.tiles (512 * bit01 (selHalf x (sb.getLsbD 9)) + tag))
  else if off = 0x7C then
    word (bit01 ((selValid x (sb.getLsbD 9)).getLsbD tag) +
      2 ^ 16 * ((List.range 512).filter fun t => x.valid.getLsbD t).length)
  else if off = 0x8C ∨ off = 0x90 then
    let sel := reg s 5 c 0x88
    let st := field sel 11 10
    pairOf 0x8C off (if st = 0 then 0 else istWord x (selHalf x (sel.getLsbD 12)) st (field sel 9 0))
  else none

/-- Entries of the queue that a queue code names: an input queue 0-19, or a token queue 20-27 (Table 6.9). -/
def codeQueue (x : Core) (q : Nat) : List Flit := if q < 20 then (queueOf x q).map (·.flit) else tokQueue x (q - 20)

/-- The switch's views (Table 6.9). -/
def viewSwitch (s : State) (c off : Nat) : Option Word :=
  let x := core s c
  let q := field (reg s 5 c 0x10C) 4 0
  let sel := reg s 5 c 0x118
  let base := 72 * bit01 (selHalf x (sel.getLsbD 9))
  let u := field sel 8 6
  if off = 0x104 then
    word (x.colour.toNat + 4 * bit01 (x.spill || s.dev.flood) + 8 * bit01 x.sealing + 2 ^ 8 * (x.queues.map (·.2.length)).sum)
  else if off = 0x108 then word x.sealed.toNat
  else if off = 0x110 then
    let l := codeQueue x q
    word (l.length + match l with | f :: _ => 2 ^ 8 * f.route.toNat + 2 ^ 14 + 2 ^ 15 * f.colour.toNat | [] => 0)
  else if off = 0x114 then word (sget (fun _ => 0) x.high q)
  else if off = 0x11C then some (sget (fun _ => (0 : Word)) x.routes (base + field sel 5 0))
  else if off = 0x120 then some (sget (fun _ => (0 : Word)) x.routes (base + 64 + u))
  else if off = 0x124 then
    let n := (tokQueue x u).length
    word (2 ^ 9 * n + match steerTok x u with | some t => tokenOf t.token + 2 ^ 8 + 2 ^ 12 * t.left | none => 0)
  else none

/-- A CORE page. -/
def viewCore (s : State) (c off : Nat) : Option Word :=
  if off = 0x40 then
    word (c % 96 + 2 ^ 8 * (c / 96) + 2 ^ 16 * ridgeOf c + 2 ^ 24 * (physCoreOf s c).row)
  else if unitDark s 5 c ∧ retClass 5 c off = 5 then some (regReset (regKey 5 c off 0))
  else if off < 0x100 then viewCoreOwn s c off
  else viewSwitch s c off

/-! ## Reduction, memory and keys -/

/-- A REDUCE page. -/
def viewReduce (s : State) (n off : Nat) : Option Word :=
  let sel := reg s 0x1B n 0x40
  let x := engine s n (field sel 1 0)
  let y := slotOf x (field sel 11 8)
  if off = 0x44 then
    word (match y with
      | some r => 1 + 2 ^ 4 * r.owner + 2 ^ 8 * maskCount r.mask + 2 ^ 18 * r.route.toNat + 2 ^ 24 * bit01 r.plane
      | none => 0)
  else if off = 0x48 then word (match y with | some r => r.units | none => 0)
  else if off = 0x4C then word (match y with | some r => r.delivered.length | none => 0)
  else if off = 0x50 then word (unitsInUse s.now x).length
  else none

/-- A CIRQUE page. -/
def viewCirque (s : State) (c off : Nat) : Option Word :=
  let mine := s.mem.moves.filter (·.cirque == c)
  let manual := mine.any (·.index.isNone)
  if off = 0x40 then word (c + 2 ^ 3 * (c % 2) + 2 ^ 4 * (if stackEnabled s (3 * c) then 3 else 0))
  else if off = 0x44 then
    word ((mine.filter (·.index.isSome)).length + 2 ^ 9 * bit01 manual + 2 ^ 10 * edgesOf 2 4 c +
      2 ^ 14 * (sget (fun _ => 0) s.mem.bridges c % 16))
  else if off = 0x58 then word (sget (fun _ => 0xFFFF) s.mem.slack c)
  else if off = 0x68 then word (s.mem.lineSt.filter fun e => e.1 / 2 ^ 20 == c && e.2 == 2).length
  else if off = 0x6C then tempWord s (0x10 + c)
  else if off = 0x84 then
    word (bit01 manual + 2 * bit01 (sget (fun _ => false) s.mem.mmDone c) +
      4 * bit01 (sget (fun _ => false) s.mem.mmRejected c))
  else if 0x200 ≤ off ∧ off < 0x400 ∧ off % 16 = 8 then
    word ((reg s 6 c off).toNat + 2 ^ 23 * bit01 (windowLocked s (32 * c + (off - 0x200) / 16)))
  else none

/-- An HBM page. -/
def viewHbm (s : State) (k off : Nat) : Option Word :=
  let x := stackOf s k
  if off = 0x48 then
    word (bit01 x.trained + 2 * bit01 x.selfRefresh + 4 * x.rate + 16 * bit01 x.doubleRefresh + 2 ^ 8 * x.repaired +
      2 ^ 16 * x.temp)
  else none

/-- A KEYS page. No register returns key material (R252). -/
def viewKeys (s : State) (k off : Nat) : Option Word :=
  let x := keySlot s k
  if off = 0x40 then
    word (bit01 x.g0.isSome + 2 * bit01 x.g1.isSome + 4 * bit01 x.current + 8 * bit01 x.sweep.isSome +
      16 * bit01 x.erasePending + 2 ^ 8 * (windowsNaming s k).length)
  else if off = 0x54 then word x.swept
  else if off = 0x58 then word x.total
  else if off = 0x5C then word x.oldReads.length
  else if inWords off 0x80 16 then word 0
  else none

/-! ## Links -/

/-- A COL page. -/
def viewCol (s : State) (n off : Nat) : Option Word :=
  let each := fun (f : Link → Bool) => ((List.range 4).map fun k => 2 ^ k * bit01 (f (link s (4 * n + k)))).sum
  if off = 0x40 then
    word (n + 2 ^ 4 * bit01 (decide (7 ≤ n)) + 2 ^ 8 * (4 * n) + 2 ^ 16 * colX n + 2 ^ 24 * ridgeOf (colCore n 0))
  else if off = 0x44 then
    word (each (fun x => x.st == 5) + 2 ^ 4 * each (·.frozen) +
      2 ^ 8 * each (fun x => decide (1 ≤ x.st) && decide (x.st ≤ 4)))
  else if off = 0x4C then tempWord s (0x18 + n)
  else none

/-- A LINK page. -/
def viewLink (s : State) (l off : Nat) : Option Word :=
  let x := link s l
  if off = 0x40 then word (l + 2 ^ 6 * (l / 4) + 2 ^ 10 * (l % 4))
  else if off = 0x4C then
    word (x.st + 2 ^ 4 * x.width + 2 ^ 8 * x.lanes.toNat + 2 ^ 16 * x.passed.toNat + 2 ^ 24 * x.fail)
  else if off = 0x50 then some x.word
  else if off = 0x54 then word (x.mIn % 2 ^ 10 + 2 ^ 16 * (x.mOut % 2 ^ 10))
  else if off = 0x58 then word (toBits 8 x.mark)
  else if off = 0x5C then word (min 127 x.trainMs)
  else none

/-! ## The serving lane -/

/-- Lanes of a port that are locked: those of its interfaces that are up (Table 10.1). -/
def lanesLocked (s : State) (p : Nat) : Nat :=
  let mode := field (reg s 0xB p 0x40) 1 0
  let lanes := fun (i : Nat) => if mode = 0 then 15 else if mode = 1 then 3 else if mode = 2 then 3 * 4 ^ i else 2 ^ i
  ((List.range 4).map fun i => if intfUp s (4 * p + i) then lanes i else 0).foldl (· ||| ·) 0 % 16

/-- The PORT page. -/
def viewPort (s : State) (off : Nat) : Option Word :=
  if off = 0x40 then word (portInfo s)
  else if off = 0x44 ∨ off = 0x48 then pairOf 0x44 off (BitVec.ofNat 64 (todAtCycle s s.now))
  else if off = 0x5C then tempWord s 0x26
  else none

/-- An ETH page. -/
def viewEth (s : State) (p off : Nat) : Option Word :=
  if off = 0x44 then
    word (((List.range 4).map fun i => 2 ^ i * bit01 (intfUp s (4 * p + i))).sum + 2 ^ 4 * lanesLocked s p)
  else none

/-- The INGRESS page. -/
def viewIngress (s : State) (off : Nat) : Option Word :=
  if off = 0x68 then word (s.serve.result.toNat + bit01 s.serve.cmd.isSome)
  else if off = 0x6C then word (mapEntries s).length
  else none

/-- The EGRESS page: EG_DATA shows the staging copy; word 81 has none. -/
def viewEgress (s : State) (off : Nat) : Option Word :=
  let t := field (reg s 0xD 0 0x40) 9 0
  let w := field (reg s 0xD 0 0x40) 22 16
  if off = 0x44 then some (if w = 81 then tplWord s t 81 else if w < 81 then tplStageWord s t w else 0)
  else if off = 0x48 then
    word (s.serve.tpl.filter fun e => e.1 % 82 == 80 && e.2.getLsbD 9).length
  else none

/-- The SERVE page. -/
def viewServe (s : State) (off : Nat) : Option Word :=
  if off = 0x58 then some (modelWritten s (field (reg s 0xE 0 0x54) 11 0))
  else if off = 0x6C then word ((freePages s).length + 2 ^ 16 * s.serve.joinQ.length)
  else if off = 0x70 then
    word (((mapEntries s).filter fun e => decide (2 ≤ e.2.st)).length + 2 ^ 16 * s.serve.carry.length)
  else none

/-! ## Host access -/

/-- RDMA instance 0. -/
def viewRdma (s : State) (off : Nat) : Option Word :=
  let src := sourceSt s (field (reg s 0xF 0 0x48) 4 0)
  let ms := macsec s (field (reg s 0xF 0 0x8C) 2 0)
  if off = 0x44 then
    word ((s.host.sources.filter (·.2.frozen)).length +
      2 ^ 8 * ((List.range 1024).filter fun n => qpState s n == 2).length + 2 ^ 19 * bit01 s.host.evtStalled +
      2 ^ 20 * s.host.adm)
  else if off = 0x58 then word (bit01 src.frozen + 2 * bit01 src.synced + 2 ^ 8 * src.status.toNat)
  else if off = 0x5C then some src.expected
  else if off = 0x88 then some s.host.evtSeq
  else if off = 0x94 then word (bit01 ms.live + 2 * bit01 (!ms.saks.isEmpty) + 4 * (ms.txAn % 4))
  else if inWords off 0xA0 40 then word 0
  else none

/-- A queue pair: no read request stays outstanding between commands. -/
def viewQp (s : State) (n off : Nat) : Option Word :=
  if off = 0x40 then word (qpState s n + 2 ^ 8 * (qpSt s n).syndrome.toNat + 2 ^ 16 * readsOutstanding s n) else none

/-! ## Cairns, pairs and random streams -/

/-- The CAIRN page. -/
def viewCairn (s : State) (off : Nat) : Option Word :=
  let c := s.cairn
  let i := field (reg s 0x17 0 0x78) 1 0
  let j := field (reg s 0x17 0 0x88) 2 0
  if off = 0x6C then
    word ((match c.restore with | some r => r.phase | none => 0) + 2 ^ 2 * c.lastSlot + 2 ^ 4 * c.reason +
      2 ^ 8 * bit01 c.accepted + 2 ^ 9 * bit01 c.t7)
  else if off = 0x7C then
    let st := slotSt s i
    word (st + 4 * bit01 (sget (fun _ => false) c.matched i) +
      (if st = 0 then 0 else 8 * bit01 (slotField s i 4 1 == 1) + 2 ^ 8 * slotField s i 5 1))
  else if off = 0x80 ∨ off = 0x84 then
    pairOf 0x80 off (if slotSt s i = 0 then 0 else BitVec.ofNat 64 (slotField s i 0x18 8))
  else if off = 0x8C ∨ off = 0x90 then pairOf 0x8C off (jobJ s j)
  else if off = 0x98 then word c.skew
  else none

/-- The PAIR page. -/
def viewPair (s : State) (off : Nat) : Option Word :=
  let p := s.pair
  if off = 0x4C then
    word (bit01 p.formed + 2 * (pairLinks s).length + 2 ^ 8 * p.st + 2 ^ 12 * min 15 p.rollbacks)
  else if off = 0x64 ∨ off = 0x68 then pairOf 0x64 off p.trace
  else none

/-- An RNG page. -/
def viewRng (s : State) (g off : Nat) : Option Word :=
  let x := rngOf s (64 * g + field (reg s 0x19 g 0x40) 5 0)
  if off = 0x44 then word (bit01 x.t7 + 2 * bit01 x.keySet)
  else if inWords off 0x48 4 then word 0
  else if inWords off 0x58 4 then
    let i := (off - 0x58) / 4
    word (bitsOf x.base.toNat (32 * i + 31) (32 * i))
  else if off = 0x68 ∨ off = 0x6C then pairOf 0x68 off x.cur
  else none

/-! ## Energy -/

/-- The ratio a/b as FP32, rounded to nearest even. -/
def ratioFp32 (a b : Nat) : Word :=
  if b = 0 then 0
  else roundFp32 (.fin false (2 * (a * 2 ^ 64 / b) + bit01 (a * 2 ^ 64 % b != 0)) (-65))

/-- An account in µJ. -/
def microJoules (fj : Nat) : Dword := BitVec.ofNat 64 (fj / 10 ^ 9)

/-- ENERGY instance 0. -/
def viewEnergy (s : State) (off : Nat) : Option Word :=
  let e := s.energy
  if off = 0x5C ∨ off = 0x60 then
    pairOf 0x5C off (microJoules (sget (fun _ => 0) e.job (field (reg s 0x12 0 0x58) 2 0)))
  else if off = 0x64 ∨ off = 0x68 then pairOf 0x64 off (microJoules e.shared)
  else if off = 0x6C ∨ off = 0x70 then pairOf 0x6C off (microJoules e.pkg)
  else if off = 0x88 then
    word (bit01 e.deferred + 2 * bit01 e.budgetVote + 4 * bit01 e.thermalVote + 8 * bit01 (debt s == maxDebt s))
  else if off = 0x8C then some (ratioFp32 (kRatio s).1 (kRatio s).2)
  else if off = 0x90 then word (min (2 ^ 32 - 1) e.proj)
  else none

/-- ENERGY instance 1 + n. -/
def viewEnergyPart (s : State) (p off : Nat) : Option Word :=
  if off = 0x40 ∨ off = 0x44 then pairOf 0x40 off (microJoules (sget (fun _ => 0) s.energy.part p))
  else if off = 0x48 then word (sget (fun _ => 0) s.energy.partPwr p)
  else none

/-! ## Security -/

/-- The SEC page. -/
def viewSec (s : State) (off : Nat) : Option Word :=
  let f := s.dev.fuses
  let x := s.sec
  if off = 0x40 then
    word (f.rollback + 2 ^ 8 * f.revoked.toNat + 2 ^ 12 * f.programmed.toNat + 2 ^ 16 * bit01 f.secretProgrammed)
  else if off = 0x44 then
    word (bit01 x.slotB + 2 * bit01 x.net + 4 * bit01 x.fallback + 8 * bit01 x.jtag + 2 ^ 4 * (x.keySlot % 4) +
      2 ^ 8 * (x.svn % 2 ^ 7))
  else if off = 0x5C then
    word (bit01 x.staging.isSome + 2 * x.result + 2 ^ 8 * x.last + 2 ^ 12 * bit01 x.chal.isSome)
  else if inWords off 0x60 15 then wordOf (identityPublic s) ((off - 0x60) / 4)
  else if inWords off 0xE0 8 then wordOf (match x.chal with | some b => b | none => []) ((off - 0xE0) / 4)
  else if inWords off 0x100 64 then word 0
  else if inWords off 0x200 128 then wordOf (meas s ((off - 0x200) / 64)) ((off - 0x200) % 64 / 4)
  else none

/-- The ATTEST page. -/
def viewAttest (s : State) (off : Nat) : Option Word :=
  let x := s.sec
  if off = 0x40 then
    word (bit01 s.dev.trotos + 2 * bit01 x.nonce.isSome + 4 * bit01 x.report.isSome + 2 ^ 16 * (x.reports % 2 ^ 16))
  else if off = 0x44 then word (946 + 2 ^ 16 * x.cert.length)
  else if inWords off 0x400 237 then wordOf (match x.report with | some b => b | none => []) ((off - 0x400) / 4)
  else if inWords off 0x800 256 then wordOf x.cert ((off - 0x800) / 4)
  else none

/-! ## Faults, digests, partitions and the schedule -/

/-- The event-log entry that FLT_LOG_SEL names. -/
def selectedEvent (s : State) : Option LogEntry := logAt s (reg s 0x13 0 0x6C)

/-- The FAULT page. -/
def viewFault (s : State) (off : Nat) : Option Word :=
  let f := s.faults
  let e := fltEntry s (field (reg s 0x13 0 0x48) 5 0)
  let show_ := fun (g : FltEntry → Nat) => word (match e with | some x => g x | none => 0)
  if off = 0x40 then
    word (((List.range 64).filter fun i => (fltEntry s i).isSome).length + 2 ^ 7 * bit01 f.storm +
      2 ^ 8 * bit01 f.intPending + 2 ^ 9 * bit01 f.fatalLogged + 2 ^ 10 * bit01 (selectedEvent s).isSome)
  else if off = 0x4C then show_ fun x => x.key + 2 ^ 31
  else if off = 0x50 then show_ fun x => x.bit + 2 ^ 5 * x.fclass + 2 ^ 7 * x.cls + 2 ^ 13 * x.inst
  else if off = 0x54 then show_ fun x => x.tick.toNat % 2 ^ 32
  else if off = 0x58 then show_ fun x => x.tick.toNat / 2 ^ 32
  else if off = 0x5C then show_ fun x => x.cnt
  else if off = 0x68 then some f.head
  else if inWords off 0x80 8 then
    wordOf (match selectedEvent s with | some x => logBytes x | none => []) ((off - 0x80) / 4)
  else none

/-- The DIGEST page. -/
def viewDigest (s : State) (off : Nat) : Option Word :=
  let x := s.dig
  if off = 0x40 ∨ off = 0x44 then pairOf 0x40 off x.dev
  else if off = 0x48 ∨ off = 0x4C then pairOf 0x48 off x.shared
  else if off = 0x50 ∨ off = 0x54 then pairOf 0x50 off x.timing
  else if off = 0x58 ∨ off = 0x5C then pairOf 0x58 off x.frame
  else if off = 0x60 then
    word (bit01 (x.peers.any (·.raised)) + 2 * x.lastPeer + 2 ^ 10 * x.lastLink + 2 ^ 16 * x.shown)
  else none

/-- Jobs that run in a partition. -/
def jobsHere (s : State) (p : Nat) : Nat := ((List.range 8).map fun j => 2 ^ j * bit01 ((jobParts s j).contains p)).sum

/-- A PART page. -/
def viewPart (s : State) (p off : Nat) : Option Word :=
  if off = 0x40 then
    let valid := (partsNow s).contains p
    word (p + (if valid then
      2 ^ 4 * partLog s p + 2 ^ 7 + 2 ^ 8 * bit01 ((servingParts s).contains p) + 2 ^ 16 * jobsHere s p else 0))
  else if off = 0x44 then
    let here := fun (f : Fill) => partOfRidge s f.ridge == p
    word ((part s p).st + 2 ^ 4 * bit01 (partInReset s p || (part s p).move.isSome) +
      2 ^ 8 * min 4 ((s.dev.fills.drop 1).filter here).length +
      2 ^ 11 * bit01 (match runningFill s with | some f => here f | none => false))
  else none

/-- SCHED instance 0. -/
def viewSched (s : State) (off : Nat) : Option Word :=
  let x := s.sched
  if off = 0x4C then
    word (x.st + 2 ^ 4 * bit01 x.shadowReady + 2 ^ 8 * x.reject + 2 ^ 16 * x.link + 2 ^ 24 * bit01 x.active.isSome)
  else if off = 0x60 ∨ off = 0x64 then pairOf 0x60 off x.armedTick
  else if off = 0x68 ∨ off = 0x6C then pairOf 0x68 off (match x.active with | some im => im.id | none => 0)
  else if off = 0x70 ∨ off = 0x74 then pairOf 0x70 off x.activeTick
  else if off = 0x78 then word (match x.active with | some im => im.period | none => 0)
  else none

/-- SCHED instance 1 + n. -/
def viewJob (s : State) (j off : Nat) : Option Word :=
  let job := jobOf s j
  if off = 0x40 then word (match job with | some b => 1 + 2 * bit01 b.serving + 2 ^ 16 * b.parts.toNat | none => 0)
  else if off = 0x44 then
    word (match job with | some b => ((List.range 256).filter fun w => b.windows.getLsbD w).length | none => 0)
  else if off = 0x50 then
    word (match job with | some b => declared s (if b.serving then s.energy.devPos else s.energy.trainPos) j | none => 0)
  else none

/-! ## Every page -/

/-- What a register reads that is not stored; none: it reads as stored. -/
def view (s : State) (cls inst off : Nat) : Option Word :=
  if off < 0x40 then headerView s cls inst off
  else
    match cls with
    | 0 => viewDevice s off
    | 1 => viewCrest s off
    | 2 => viewTick s off
    | 3 => viewRidge s inst off
    | 4 => viewCluster s inst off
    | 5 => viewCore s inst off
    | 6 => viewCirque s inst off
    | 7 => viewHbm s inst off
    | 8 => viewCol s inst off
    | 9 => viewLink s inst off
    | 0xA => viewPort s off
    | 0xB => viewEth s inst off
    | 0xC => viewIngress s off
    | 0xD => viewEgress s off
    | 0xE => viewServe s off
    | 0xF => if inst = 0 then viewRdma s off else viewQp s (inst - 1) off
    | 0x10 => viewSec s off
    | 0x11 => viewAttest s off
    | 0x12 => if inst = 0 then viewEnergy s off else viewEnergyPart s (inst - 1) off
    | 0x13 => viewFault s off
    | 0x14 => viewDigest s off
    | 0x15 => viewPart s inst off
    | 0x16 => if inst = 0 then viewSched s off else viewJob s (inst - 1) off
    | 0x17 => viewCairn s off
    | 0x18 => viewPair s off
    | 0x19 => viewRng s inst off
    | 0x1B => viewReduce s inst off
    | 0x1C => viewKeys s inst off
    | _ => none

/-- What a class-V register reads while the device is held in cold reset (R20): its reset column, which for the identity
fields of Tables 1.6, 3.17, 9.10 and 13.12 is the unit's own number or place. -/
def heldValue (s : State) (cls inst off : Nat) : Word :=
  if cls = 3 ∧ off = 0x68 then BitVec.ofNat 32 (edgesOf 4 4 inst)
  else if cls = 5 ∧ off = 0x40 ∨ cls = 9 ∧ off = 0x40 then (view s cls inst off).getD 0
  else if cls = 0x15 ∧ off = 0x40 then BitVec.ofNat 32 inst
  else regReset (regKey cls inst off 0)

/-- The value of a register of an existing page, without what a read does: an offset that holds no register reads 0 (R14),
and a fused page reads 0 but for PAGE_ID and PAGE_CAP (R15). A NUMMON page other than instance 0 has no device-wide
counters. -/
def readValue (s : State) (cls inst off : Nat) : Word :=
  if pageFused s cls inst ∧ 4 < off then 0
  else if !s.dev.up ∧ retClass cls inst off = 5 then heldValue s cls inst off
  else if (regRow? cls inst off).isNone ∨ (cls = 0x1A ∧ inst ≠ 0 ∧ 0x180 ≤ off) then 0
  else
    match view s cls inst off with
    | some v => v
    | none => rget s (shownKey s cls inst off)

end Sys2Proof.Machine
end

