-- ==== Sys2Proof/Machine/Registers.lean ====
section
/-! DEFINITION. Register accesses: alignment and pages (R11, R13), the access types (R16, R17), 64-bit pairs (R18), the
page header's own rules (R21 to R25), and the effect of a write to each register that has one of its own. -/

namespace Sys2Proof.Machine

open Sys2Proof

/-! ## Sources (R13, R18) -/

/-- Key of an access source's latch. -/
def latchKey : Src → Nat
  | .frame n => n
  | .sideband => 32
  | .trotos => 33

/-- The latch of a source. -/
def latchOf (s : State) (src : Src) : Latch := sget (fun _ => Latch.reset) s.host.latches (latchKey src)

/-- Set the latch of a source. -/
def setLatch (src : Src) (x : Latch) (s : State) : State :=
  modHost (fun h => { h with latches := sset (fun _ => Latch.reset) h.latches (latchKey src) x }) s

/-- A no-page error is counted in the counter of its source. -/
def noPage (src : Src) (s : State) : State :=
  match src with
  | .frame n => bump32 0xF 0 0x140 n 1 (some (6, 0x20 + n)) s
  | .sideband => haCount 11 1 s
  | .trotos => haCount 12 1 s

/-- Page class, instance and offset of an address (Table 0.4). -/
def addrPage (a : Word) : Nat × Nat × Nat := (field a 31 26, field a 25 12, field a 11 0)

/-- Which half of a pair a register is: 1 its _LO, 2 its _HI, 0 neither. -/
def pairHalf (cls inst off : Nat) : Nat :=
  match regRow? cls inst off with
  | some r => r.pair
  | none => 0

/-! ## Reads -/

/-- What a read of a register does beside returning its value: ERR_CNT clears but for the causes of this cycle (R17), EG_DATA advances EG_SEL.word, and a
word of FLT_LOG_DATA marks its entry read (R427). -/
def readEffect (cls inst off : Nat) (s : State) : State :=
  if off = 0x1C then
    let fr := freshPage s cls inst
    setReg cls inst 0x1C (BitVec.ofNat 32 fr.count) (if fr.count = 0 then s else setFreshPage { fr with before := 0 } s)
  else if cls = 0xD ∧ off = 0x44 then egAdvance s
  else if cls = 0x13 ∧ inWords off 0x80 8 then
    match selectedEvent s with
    | some e => modFaults (fun f => { f with log := f.log.map (markRead e.idx 1) }) s
    | none => s
  else s

/-- The value that a source reads, and its latch afterwards (R18): a _LO read latches its _HI; a _HI read returns the
latched value where the source's last _LO read was of the same pair. -/
def latchedRead (src : Src) (cls inst off : Nat) (s : State) : Word × State :=
  let v := readValue s cls inst off
  match pairHalf cls inst off with
  | 1 => (v, setLatch src { latchOf s src with rd := some (regAddr cls inst off, readValue s cls inst (off + 4)) } s)
  | 2 =>
    match (latchOf s src).rd with
    | some (a, h) => (if a + 4 = regAddr cls inst off then h else v, s)
    | none => (v, s)
  | _ => (v, s)

/-- Read a register of an existing page. -/
def readReg (src : Src) (cls inst off : Nat) (s : State) : Word × State :=
  if pageFused s cls inst then (readValue s cls inst off, s)
  else if cls = 5 ∧ off = 0x84 then sramDataRead inst (Config.sramEcc s.free) (drawFree s)
  else
    let (v, s) := latchedRead src cls inst off s
    (v, readEffect cls inst off s)

/-- A register read by a source: status of Table 11.3 (0 done, 1 alignment error, 2 no page), value, state after. -/
def regRead (src : Src) (a : Word) (s : State) : Nat × Word × State :=
  let (cls, inst, off) := addrPage a
  if a.toNat % 4 ≠ 0 then (1, 0, s)
  else if pageExists cls inst then (0, readReg src cls inst off s)
  else (2, 0, noPage src s)

/-! ## PAGE_CTL (R21, R22, R25) -/

/-- Freeze the master of a page. A unit in reset is not frozen (Table 13.6). -/
def freezeMaster (cls inst : Nat) (s : State) : State :=
  if pageResetting s cls inst then s
  else
    match cls with
    | 5 => respond (.core inst) s
    | 6 => respond (.engine inst) s
    | 9 => respond (.link inst) s
    | 0x15 => respond (.parts [inst]) s
    | 0xF => if inst = 0 then s else respond (.qp (inst - 1)) s
    | _ => s

/-- A slot of the Col die's engines is active. -/
def slotsActive (s : State) (n : Nat) : Bool := (List.range 4).any fun k => !(engine s n k).slots.isEmpty

/-- A write of PAGE_CTL.enable is ignored: on pages where it reads a constant; where a write of 0 would take away a die,
core or cluster that the active image assigns, or engines with an active slot. -/
def enableIgnored (s : State) (cls inst : Nat) (on : Bool) : Bool :=
  [0, 1, 0x10, 0x11, 0x12, 0x13, 0x14, 0x15, 0x18, 0x19].contains cls ||
    (!on && (([3, 4, 5].contains cls && assigned s) || (cls == 0x1B && slotsActive s inst)))

/-- A write of PAGE_CTL.enable. A link trains or goes OFF with it (R271). -/
def enableWrite (cls inst : Nat) (on : Bool) (s : State) : State :=
  if enableIgnored s cls inst on then s
  else
    let s := setReg cls inst 8 (setField (reg s cls inst 8) 0 0 (bit01 on)) s
    if cls = 9 then linkEnable inst on s else s

/-- A write of 1 to PAGE_CTL.reset: a reset at the page's level. `both`: the write sets freeze too. -/
def resetWrite (cls inst : Nat) (both : Bool) (s : State) : State :=
  match cls with
  | 0 => modDev (fun d => { d with warm := some .register }) s
  | 4 => clusterResetReq inst s
  | 5 => if both then coreFreezeReset inst s else coreResetReq inst s
  | 6 => engineReset inst s
  | 9 => linkPageReset inst s
  | 0x15 => partResetReq inst s
  | 0xF => if inst = 0 then s else qpReset (inst - 1) s
  | _ => s

/-- A write of PAGE_CTL: freeze first, then enable unless the master is frozen, then reset. -/
def pageCtlWrite (cls inst : Nat) (v : Word) (s : State) : State :=
  let s := if v.getLsbD 1 then freezeMaster cls inst s else s
  let s := if pageFrozen s cls inst then s else enableWrite cls inst (v.getLsbD 0) s
  if v.getLsbD 2 then resetWrite cls inst (v.getLsbD 1) s else s

/-! ## W1C bits and records (R17) -/

/-- A write of ERR_SUM; one that leaves it zero clears ERR_FIRST.valid (R23). A bit that was set in the cycle of the write
stays set (R17). -/
def errSumWrite (cls inst : Nat) (v : Word) (s : State) : State :=
  let x := reg s cls inst 0x10 &&& ~~~(v &&& ~~~(freshPage s cls inst).bits)
  let s := setReg cls inst 0x10 x s
  if x = 0 ∧ (reg s cls inst 0x18).getLsbD 31 then
    setReg cls inst 0x18 (setField (reg s cls inst 0x18) 31 31 0) (setFreshPage { freshPage s cls inst with wiped := true } s)
  else s

/-- The registers of the record whose W1C valid bit lies in bit 31 of a register. -/
def recordOf (cls inst off : Nat) : Option (List Nat) :=
  if cls = 0x16 ∧ inst = 0 ∧ off = 0x7C then some [0x7C, 0x80, 0x84]
  else if cls = 6 ∧ off = 0x5C then some [0x5C]
  else if cls = 7 ∧ off = 0x5C then some [0x58, 0x5C]
  else none

/-! ## Writes -/

/-- Store the writable fields of a register. -/
def plainWrite (cls inst off : Nat) (v : Word) (s : State) : State :=
  match regRow? cls inst off with
  | some r =>
    let m := BitVec.ofNat 32 (r.rw ||| r.wo)
    let k := shownKey s cls inst off
    rset k ((rget s k &&& ~~~m) ||| (v &&& m)) s
  | none => s

/-- A write of a configuration register of a queue pair that is not in RESET is ignored (R325). -/
def qpWrite (n off : Nat) (v : Word) (s : State) : State :=
  if qpState s n ≠ 0 ∧ 0x44 ≤ off ∧ off < 0x64 then raiseCe 0xF (1 + n) 2 0 s else plainWrite 0xF (1 + n) off v s

/-- A write of RDMA instance 0. -/
def rdmaRegWrite (off : Nat) (v : Word) (s : State) : State :=
  if off = 0x54 then
    let s' := plainWrite 0xF 0 0x54 (v &&& 0x1FFF) s
    if v.getLsbD 13 then sourceReset (bankOf s 0xF 0 0x54) s' else s'
  else if off = 0x6C then evtCfgWrite v s
  else if off = 0x98 then admCmd (field v 1 0) s
  else plainWrite 0xF 0 off v s

/-- A write of SW_CTL (R185). -/
def swCtlWrite (c : Nat) (v : Word) (s : State) : State :=
  let s := if v.getLsbD 1 then areaClear c s else s
  if v.getLsbD 0 then spillRequest c s
  else if (reg s 5 c 0x100).getLsbD 0 then spillLeave c s
  else s

/-- A write of KEY_CMD (Table 8.7). -/
def keyCmd (k v : Nat) (s : State) : State :=
  match v with
  | 1 => keyLoad k s
  | 2 => keySwitch k s
  | 3 => keySweep k s
  | 4 => keyClear k s
  | _ => s

/-- Register of a window that an offset from its WIN_BASE names. -/
def winRegOf (o : Nat) : Option WinReg :=
  if o = 0 then some .base else if o = 4 then some .limit else if o = 8 then some .attr else none

/-- A write of a CIRQUE page. -/
def cirqueWrite (c off : Nat) (v : Word) (s : State) : State :=
  if off = 0x80 then manualMove c v s
  else if 0x200 ≤ off ∧ off < 0x400 then
    match winRegOf (off % 16) with
    | some r => windowWrite (32 * c + (off - 0x200) / 16) r v s
    | none => s
  else plainWrite 6 c off v s

/-- A write of the SERVE page. -/
def serveWrite (off : Nat) (v : Word) (s : State) : State :=
  if off = 0x44 then srvGatherWrite v s
  else if off = 0x48 then srvPagesWrite v s
  else if off = 0x4C then feedGeomWrite false v s
  else if off = 0x50 then feedGeomWrite true v s
  else if off = 0x58 then srvModelWrite v s
  else if off = 0x68 then srvCmd (field v 1 0) s
  else if off = 0x74 then srvPairWrite v s
  else plainWrite 0xE 0 off v s

/-- A write of ENG_BUDGET: only the sideband's is accepted (R391). -/
def budgetWrite (src : Src) (v : Word) (s : State) : State :=
  if src = .sideband then setBudget (field v 12 0) (field v 28 16) s else raiseCe 0x12 0 2 0 s

/-- A write of the class-specific part of a page. -/
def classWrite (src : Src) (cls inst off : Nat) (v : Word) (s : State) : State :=
  match cls with
  | 1 => if off = 0x48 ∧ src = .trotos then heartWrite v s else plainWrite 1 inst off v s
  | 2 => if off = 0x4C then tickStart v s else plainWrite 2 inst off v s
  | 5 =>
    if off = 0x84 then sramDataWrite inst v s
    else if off = 0x100 then swCtlWrite inst v s
    else plainWrite 5 inst off v s
  | 6 => cirqueWrite inst off v s
  | 9 => if off = 0x48 then (if v.getLsbD 0 then retrain inst s else s) else plainWrite 9 inst off v s
  | 0xA => if off = 0x54 then todCtl v s else if off = 0x58 then todRateWrite v s else plainWrite 0xA inst off v s
  | 0xC => if off = 0x64 then inCmd (field v 2 0) s else plainWrite 0xC inst off v s
  | 0xD => if off = 0x44 then egWrite v s else plainWrite 0xD inst off v s
  | 0xE => serveWrite off v s
  | 0xF => if inst = 0 then rdmaRegWrite off v s else qpWrite (inst - 1) off v s
  | 0x10 => if off = 0x58 then secCmd (field v 3 0) s else plainWrite 0x10 inst off v s
  | 0x11 => if inWords off 0x80 16 then nonceWrite ((off - 0x80) / 4) v s else plainWrite 0x11 inst off v s
  | 0x12 => if inst = 0 ∧ off = 0x40 then budgetWrite src v s else plainWrite 0x12 inst off v s
  | 0x13 => if off = 0x44 then fltCtl v s else plainWrite 0x13 inst off v s
  | 0x15 => if off = 0x4C then powerRequest inst (field v 1 0) s else plainWrite 0x15 inst off v s
  | 0x16 => if inst = 0 ∧ off = 0x48 then schedCmd v s else plainWrite 0x16 inst off v s
  | 0x17 => if off = 0x68 then cairnCmd v s else plainWrite 0x17 inst off v s
  | 0x18 =>
    if off = 0x40 then pairCheck (tellPairing (plainWrite 0x18 inst off v s))
    else if off = 0x50 then pairCtl v s
    else plainWrite 0x18 inst off v s
  | 0x19 => if inWords off 0x48 4 then rngKeyWrite inst ((off - 0x48) / 4) v s else plainWrite 0x19 inst off v s
  | 0x1A => if off = 0x44 then nummonCtl inst v s else plainWrite 0x1A inst off v s
  | 0x1C => if off = 0x44 then keyCmd inst (field v 2 0) s else plainWrite 0x1C inst off v s
  | _ => plainWrite cls inst off v s

/-- A write of a register that is no half of a pair. -/
def singleWrite (src : Src) (cls inst off : Nat) (v : Word) (s : State) : State :=
  if off = 8 then pageCtlWrite cls inst v s
  else if off = 0x10 then errSumWrite cls inst v s
  else
    match recordOf cls inst off with
    | some l =>
      if v.getLsbD 31 then clearRecord (regKey cls inst off 0) (l.map fun o => regKey cls inst o 0) s else s
    | none => if off < 0x40 then plainWrite cls inst off v s else classWrite src cls inst off v s

/-! ## Pairs (R18) -/

/-- CAIRN_J of the selected job: accepted only while every partition of the job is frozen (R363). -/
def cairnJWrite (v : Dword) (s : State) : State :=
  let j := field (reg s 0x17 0 0x88) 2 0
  if (jobParts s j).all (partFrozen s) then
    { s with jobFrames := sset (fun _ => (0 : Dword)) s.jobFrames j v }
  else s

/-- Both halves of a writable pair are set in one cycle; `lo` is the offset of its _LO. -/
def pairWrite (cls inst lo : Nat) (v : Dword) (s : State) : State :=
  if cls = 0xE ∧ lo = 0x80 then srvCurWrite v s
  else if cls = 0x17 ∧ lo = 0x8C then cairnJWrite v s
  else
    let s := plainWrite cls inst (lo + 4) (halfOf true v) (plainWrite cls inst lo (halfOf false v) s)
    if cls = 0x18 ∧ lo = 0x44 then pairCheck (tellPairing s) else s

/-- A register of a pair is writable. -/
def writable (cls inst off : Nat) : Bool :=
  match regRow? cls inst off with
  | some r => r.rw != 0
  | none => false

/-- A write of a _LO: held in the source's latch where it is writable; it discards any other that the source holds. -/
def loWriteReg (src : Src) (cls inst off : Nat) (v : Word) (s : State) : State :=
  setLatch src { latchOf s src with wr := if writable cls inst off then some (regAddr cls inst off, v) else none } s

/-- A write of a _HI: it commits both halves where the source holds the pair's _LO, else it sets the _HI alone. -/
def hiWriteReg (src : Src) (cls inst off : Nat) (v : Word) (s : State) : State :=
  if writable cls inst off then
    let lo := off - 4
    match (latchOf s src).wr with
    | some (a, w) =>
      if a = regAddr cls inst lo then
        pairWrite cls inst lo (v ++ w : BitVec 64) (setLatch src { latchOf s src with wr := none } s)
      else pairWrite cls inst lo (v ++ readValue s cls inst lo : BitVec 64) s
    | none => pairWrite cls inst lo (v ++ readValue s cls inst lo : BitVec 64) s
  else singleWrite src cls inst off v s

/-- The page takes no write: its unit is fused off (R15), or it is a CORE or CLUSTER page of an OFF partition (R383). -/
def writesIgnored (s : State) (cls inst : Nat) : Bool :=
  pageFused s cls inst ||
  (cls == 5 && coreOff s inst) ||
  (cls == 4 && coreOff s ((clusterCores inst).getD 0 0))

/-- Write a register of an existing page. -/
def writeReg (src : Src) (cls inst off : Nat) (v : Word) (s : State) : State :=
  if writesIgnored s cls inst then s
  else
    match pairHalf cls inst off with
    | 1 => loWriteReg src cls inst off v s
    | 2 => hiWriteReg src cls inst off v s
    | _ => singleWrite src cls inst off v s

/-- A register write by a source: status of Table 11.3, and the state after. -/
def regWrite (src : Src) (a v : Word) (s : State) : Nat × State :=
  let (cls, inst, off) := addrPage a
  if a.toNat % 4 ≠ 0 then (1, s)
  else if pageExists cls inst then (0, writeReg src cls inst off v s)
  else (2, noPage src s)

/-- A write of PAGE_CTL of a page. -/
def pageWrite (src : Src) (p : Page) (v : Word) (s : State) : State :=
  if pageExists p.cls p.inst then writeReg src p.cls p.inst 8 v s else noPage src s

/-! ## Rows -/

/-- REGISTER_WRITE (R16). -/
def execRegisterWrite (src : Src) (addr value : Word) (s : State) : Host.Outcome State Fault Refusal :=
  answer (.registerWrite src addr value) s <|
    (regWrite src addr value s).2

/-- W1C_CLEAR (R17). -/
def execW1cClear (src : Src) (addr value : Word) (s : State) : Host.Outcome State Fault Refusal :=
  answer (.w1cClear src addr value) s <|
    (regWrite src addr value s).2

/-- READ_CLEAR (R17). -/
def execReadClear (src : Src) (addr : Word) (s : State) : Host.Outcome State Fault Refusal :=
  answer (.readClear src addr) s <|
    (regRead src addr s).2.2

/-- LO_READ (R18). -/
def execLoRead (src : Src) (addr : Word) (s : State) : Host.Outcome State Fault Refusal :=
  answer (.loRead src addr) s <|
    (regRead src addr s).2.2

/-- LO_WRITE (R18). -/
def execLoWrite (src : Src) (addr value : Word) (s : State) : Host.Outcome State Fault Refusal :=
  answer (.loWrite src addr value) s <|
    (regWrite src addr value s).2

/-- HI_WRITE (R18). -/
def execHiWrite (src : Src) (addr value : Word) (s : State) : Host.Outcome State Fault Refusal :=
  answer (.hiWrite src addr value) s <|
    (regWrite src addr value s).2

/-- PAGE_FREEZE (R25). -/
def execPageFreeze (src : Src) (page : Page) (value : Word) (s : State) : Host.Outcome State Fault Refusal :=
  answer (.pageFreeze src page value) s <|
    pageWrite src page value s

/-- PAGE_ENABLE (R21). -/
def execPageEnable (src : Src) (page : Page) (value : Word) (s : State) : Host.Outcome State Fault Refusal :=
  answer (.pageEnable src page value) s <|
    pageWrite src page value s

/-- FLT_LOG_READ (R427). -/
def execFltLogRead (src : Src) (word : Nat) (s : State) : Host.Outcome State Fault Refusal :=
  answer (.fltLogRead src word) s <|
    (readReg src 0x13 0 (0x80 + 4 * word) s).2

end Sys2Proof.Machine
end

