-- ==== Sys2Proof/Machine/RegFrames.lean ====
section
/-! DEFINITION. Register frames (R318 to R323, R333, R438, Tables 11.1 to 11.3) and register frames over the sideband
(R334). -/

namespace Sys2Proof.Machine

open Sys2Proof

/-! ## Requests -/

/-- Status and data words of a response (Tables 11.1, 11.3). -/
structure Reply where
  status : Nat
  words : List Word
  deriving DecidableEq, Repr

/-- The response body of a request. -/
def replyBody (q : RegReq) (r : Reply) : List Byte :=
  [1, 0, q.op, 1] ++ leBytes 4 q.seq.toNat ++ leBytes 4 q.addr.toNat ++ leBytes 1 r.status ++ leBytes 1 r.words.length ++
  [0, 0] ++ (r.words.map fun w => leBytes 4 w.toNat).flatten

/-- The request is malformed (status 0x05): short, wrong version, reserved op, a field that must be 0 is not, or a count out
of range. -/
def malformed (q : RegReq) : Bool :=
  q.short || q.version != 1 || !([1, 2, 3, 4, 5, 7].contains q.op.toNat) || q.flags != 0 || q.rsvd != 0 ||
  (q.value != 0 && q.op != 2 && q.op != 3) || (q.mask != 0 && q.op != 3) ||
  (if q.op = 4 then q.count.toNat == 0 || decide (64 < q.count.toNat) else q.count != 0)

/-- The request writes: WRITE or RMW. -/
def isWrite (q : RegReq) : Bool := q.op == 2 || q.op == 3

/-- The request reads: READ or BLOCK_READ. -/
def isRead (q : RegReq) : Bool := q.op == 1 || q.op == 4

/-- An ATTEST_NONCE register. -/
def isNonce (a : Word) : Bool := (addrPage a).1 == 0x11 && inWords (addrPage a).2.2 0x80 16

/-- HA_ADM_CMD or HA_ADM_DATA. -/
def isAdmission (a : Word) : Bool :=
  (addrPage a).1 == 0xF && (addrPage a).2.1 == 0 && ((addrPage a).2.2 == 0x98 || inWords (addrPage a).2.2 0xA0 40)

/-- What R333 leaves open on an interface without a live MKA session. -/
def openUnprotected (q : RegReq) : Bool :=
  !malformed q &&
  (q.op == 5 || q.op == 7 || (isRead q && (addrPage q.addr).1 == 0x11) ||
    (isWrite q && (isNonce q.addr || isAdmission q.addr)))

/-! ## Rights (R323) -/

/-- rd, wr, key and admin. -/
structure Rights where
  rd : Bool
  wr : Bool
  key : Bool
  admin : Bool
  deriving DecidableEq, Repr

/-- The rights of source n. -/
def sourceRights (s : State) (n : Nat) : Rights :=
  let c := sourceCtl s n
  ⟨c.getLsbD 1, c.getLsbD 2, c.getLsbD 3, c.getLsbD 4⟩

/-- The sideband's rights (R334). -/
def sidebandRights : Rights := ⟨true, true, false, true⟩

/-- The rights suffice for the request. -/
def allowed (r : Rights) (q : RegReq) : Bool :=
  let (cls, inst, _) := addrPage q.addr
  if isRead q then r.rd
  else if isWrite q then
    isNonce q.addr ||
      (r.wr && (r.key || !(cls == 0x10 || cls == 0x1C || cls == 0x11)) && (r.admin || !(cls == 0xF && inst == 0)))
  else true

/-! ## Performing a request -/

/-- Read `n` consecutive registers; the reads end at the first that fails. -/
def readBlock (src : Src) : Nat → Word → State → Reply × State
  | 0, _, s => (⟨0, []⟩, s)
  | n + 1, a, s =>
    match regRead src a s with
    | (0, v, s) =>
      let r := readBlock src n (a + 4) s
      (⟨r.1.status, v :: r.1.words⟩, r.2)
    | (st, _, s) => (⟨st, []⟩, s)

/-- READ. -/
def doRead (src : Src) (q : RegReq) (s : State) : Reply × State := readBlock src 1 q.addr s

/-- WRITE. -/
def doWrite (src : Src) (q : RegReq) (s : State) : Reply × State :=
  let r := regWrite src q.addr q.value s
  (⟨r.1, []⟩, r.2)

/-- The value that an RMW writes. -/
def rmwValue (old value mask : Word) : Word := (old &&& ~~~mask) ||| (value &&& mask)

/-- RMW. -/
def doRmw (src : Src) (q : RegReq) (s : State) : Reply × State :=
  match regRead src q.addr s with
  | (0, old, s) =>
    let r := regWrite src q.addr (rmwValue old q.value q.mask) s
    (⟨r.1, [old]⟩, r.2)
  | (st, _, s) => (⟨st, []⟩, s)

/-- BLOCK_READ. -/
def doBlock (src : Src) (q : RegReq) (s : State) : Reply × State := readBlock src q.count.toNat q.addr s

/-- Perform the operation of a request. -/
def doOp (src : Src) (q : RegReq) (s : State) : Reply × State :=
  if q.op = 1 then doRead src q s
  else if q.op = 2 then doWrite src q s
  else if q.op = 3 then doRmw src q s
  else if q.op = 4 then doBlock src q s
  else (⟨0, []⟩, s)

/-! ## Register-frame sources (R322, R323) -/

/-- Note the status of a source's last response. -/
def noteStatus (n st : Nat) (s : State) : State :=
  setSource n { sourceSt s n with status := BitVec.ofNat 8 st } s

/-- Send a response. -/
def reply (n : Nat) (q : RegReq) (r : Reply) (s : State) : State :=
  sendFrame q.hdr.intf (answerBytes s q.hdr (replyBody q r)) (noteStatus n r.status s)

/-- SYNC, of any seq. -/
def syncSource (n : Nat) (q : RegReq) (s : State) : State :=
  reply n q ⟨0, []⟩ (setSource n { sourceSt s n with synced := true, expected := q.seq + 1, stored := none } s)

/-- Store the last response, unless the request reset its own source. -/
def storeReply (n : Nat) (q : RegReq) (r : Reply) (s : State) : State :=
  if (sourceSt s n).synced then setSource n { sourceSt s n with stored := some (replyBody q r) } s else s

/-- The expected request: it uses its seq; without its rights it is not performed, and the source freezes. -/
def performSource (n : Nat) (q : RegReq) (s : State) : State :=
  let s := setSource n { sourceSt s n with expected := q.seq + 1 } s
  if unprotectedIntf s q.hdr.intf || allowed (sourceRights s n) q then
    let (r, s) := doOp (.frame n) q (haCount 0 1 s)
    reply n q r (storeReply n q r s)
  else
    let r : Reply := ⟨3, []⟩
    reply n q r (storeReply n q r (raise 0xF 0 0 1 n (.source n) s))

/-- A request against the expected seq (R322). Of a source that is not synced, only SYNC is performed. -/
def sequenced (n : Nat) (q : RegReq) (s : State) : State :=
  let x := sourceSt s n
  let d := (q.seq - x.expected).toNat
  if x.synced ∧ d = 0 then performSource n q s
  else if x.synced ∧ d = 2 ^ 32 - 1 then
    match x.stored with
    | some b => sendFrame q.hdr.intf (answerBytes s q.hdr b) (haCount 3 1 s)
    | none => s
  else if d < 2 ^ 31 then reply n q ⟨4, [x.expected]⟩ (haCount 2 1 s)
  else haCount 2 1 s

/-- A request of source n that the interface accepts. -/
def acceptedFrame (n : Nat) (q : RegReq) (s : State) : State :=
  if (sourceSt s n).frozen then
    let s := haCount 4 1 s
    if q.op = 7 then s else reply n q ⟨6, []⟩ s
  else if malformed q then (if q.op = 7 then s else reply n q ⟨5, []⟩ s)
  else if q.op = 7 then eventAcked q.seq s
  else if q.op = 5 then syncSource n q s
  else sequenced n q s

/-- A request that the register path takes. -/
def takeFrame (q : RegReq) (s : State) : State :=
  match matchSource s q.hdr with
  | none => unknownSource q.hdr s
  | some n =>
    if unprotectedIntf s q.hdr.intf && !openUnprotected q then reply n q ⟨7, []⟩ (haCount 8 1 s)
    else acceptedFrame n q s

/-- The request has come to the path: it is the oldest that waits there (R321), or none waits and it arrives now, on an
interface that is up, enabled for register frames and not waiting for MKA (R331). -/
def pathTake (q : RegReq) (s : State) : Option State :=
  match s.host.path with
  | p :: t => if p.q = q ∧ p.sideband = false then some (modHost (fun h => { h with path := t }) s) else none
  | [] =>
    if intfSends s q.hdr.intf && regFrameOn s q.hdr then
      some (ethCount (q.hdr.intf / 4) 3 1 (ethCount (q.hdr.intf / 4) 0 1 s))
    else none

/-- The register path takes a request of one of some ops, or a malformed one where `other` holds. -/
def frameOp (ops : List Nat) (other : Bool) (q : RegReq) (s : State) : State :=
  if ops.contains q.op.toNat || (other && !([1, 2, 3, 4, 5, 7].contains q.op.toNat)) then
    match pathTake q s with
    | some t => takeFrame q t
    | none => s
  else s

/-! ## The sideband (R334) -/

/-- What a sensor reads: sixteenths of a degree of a die's hottest sensor, 0.1 W, microjoules. DESIGN CHOICE (log entry 74):
package power is the mean over the last completed frame, as ENG_PART_PWR is. -/
def sensorReading (s : State) (x : Sensor) : Int :=
  match x with
  | .temperature die => (hottest s die).2
  | .packagePower => tenthWatts (10 ^ 9 * (s.energy.hist.headD ⟨0, 0, false⟩).pkg) (ticT s * ticF s)
  | .partitionEnergy p => (microJoules (sget (fun _ => 0) s.energy.part p)).toNat

/-- A register frame of PLDM type 63, on the path: no source entry and no seq check; EVENT_ACK has no source and so no
effect. -/
def sidebandTaken (q : RegReq) (s : State) : State :=
  let answer := fun (r : Reply) (s : State) => emit (.sideband (replyBody q r)) s
  if malformed q then answer ⟨5, []⟩ s
  else if q.op = 7 then s
  else if allowed sidebandRights q then
    let (r, s) := doOp .sideband q s
    answer r s
  else answer ⟨3, []⟩ s

/-- SIDEBAND_REGISTER_FRAME. It is performed if it is the oldest request that waits for the path or none waits; else it waits
there in its turn (R321). -/
def sidebandFrame (q : RegReq) (s : State) : State :=
  if !s.dev.up then s
  else
    match s.host.path with
    | [] => sidebandTaken q s
    | p :: t =>
      if p.q = q ∧ p.sideband = true then sidebandTaken q (modHost (fun h => { h with path := t }) s)
      else if s.host.path.any fun e => e.q == q && e.sideband then s
      else pathQueue true q s

/-- The PLDM types that the Crest supports, as a mask: base, monitoring and control, and type 63 (R334). -/
def pldmTypes : Nat := 2 ^ 0 + 2 ^ 2 + 2 ^ 63

/-- SIDEBAND_REGISTER_FRAME, and the other messages that come over the sideband (R334): a register frame goes to the path; a
sensor is read; MCTP control and PLDM base set and read their identifiers (log entry 91). -/
def sidebandMsg (m : SidebandMsg) (s : State) : State :=
  match m with
  | .registerFrame q => sidebandFrame q s
  | .readSensor x => if s.dev.up then emit (.sidebandValue (sensorReading s x)) s else s
  | .setEndpointId e => modHost (fun h => { h with eid := e }) s
  | .getEndpointId => emit (.sidebandValue s.host.eid.toNat) s
  | .setTid t => modHost (fun h => { h with tid := t }) s
  | .getTid => emit (.sidebandValue s.host.tid.toNat) s
  | .getTypes => emit (.sidebandValue pldmTypes) s

/-! ## Rows -/

/-- READ (R319). -/
def execRead (dt : Nat) (q : RegReq) (s : State) : Host.Outcome State Fault Refusal :=
  answer (.read dt q) s <|
    frameOp [1] true q (elapse dt s)

/-- WRITE (R319). -/
def execWrite (dt : Nat) (q : RegReq) (s : State) : Host.Outcome State Fault Refusal :=
  answer (.write dt q) s <|
    frameOp [2] false q (elapse dt s)

/-- RMW (R319). -/
def execRmw (dt : Nat) (q : RegReq) (s : State) : Host.Outcome State Fault Refusal :=
  answer (.rmw dt q) s <|
    frameOp [3] false q (elapse dt s)

/-- BLOCK_READ (R321). -/
def execBlockRead (dt : Nat) (q : RegReq) (s : State) : Host.Outcome State Fault Refusal :=
  answer (.blockRead dt q) s <|
    frameOp [4] false q (elapse dt s)

/-- SYNC (R322). -/
def execSync (dt : Nat) (q : RegReq) (s : State) : Host.Outcome State Fault Refusal :=
  answer (.sync dt q) s <|
    frameOp [5] false q (elapse dt s)

/-- EVENT_ACK (R329). -/
def execEventAck (dt : Nat) (q : RegReq) (s : State) : Host.Outcome State Fault Refusal :=
  answer (.eventAck dt q) s <|
    frameOp [7] false q (elapse dt s)

/-- SIDEBAND_REGISTER_FRAME (R334). -/
def execSidebandRegisterFrame (dt : Nat) (m : SidebandMsg) (s : State) : Host.Outcome State Fault Refusal :=
  answer (.sidebandRegisterFrame dt m) s <|
    sidebandMsg m (elapse dt s)

end Sys2Proof.Machine
end

