-- ==== Sys2Proof/Machine/Dispatch.lean ====
section
/-! DEFINITION. The dispatch of every command to its meaning, one arm per constructor of `Instr`. -/

namespace Sys2Proof.Machine

open Sys2Proof

/-- The effect of a command on everything but the queue. -/
def exec (i : Instr) (s : State) : Host.Outcome State Fault Refusal :=
  match i with
  | .registerWrite src addr value => Sys2Proof.Machine.execRegisterWrite src addr value s
  | .w1cClear src addr value => Sys2Proof.Machine.execW1cClear src addr value s
  | .readClear src addr => Sys2Proof.Machine.execReadClear src addr s
  | .loRead src addr => Sys2Proof.Machine.execLoRead src addr s
  | .loWrite src addr value => Sys2Proof.Machine.execLoWrite src addr value s
  | .hiWrite src addr value => Sys2Proof.Machine.execHiWrite src addr value s
  | .pageFreeze src page value => Sys2Proof.Machine.execPageFreeze src page value s
  | .pageEnable src page value => Sys2Proof.Machine.execPageEnable src page value s
  | .coldBringup b => Sys2Proof.Machine.execColdBringup b s
  | .coldReset powerFell => Sys2Proof.Machine.execColdReset powerFell s
  | .railFault rail => Sys2Proof.Machine.execRailFault rail s
  | .warmReset cause b => Sys2Proof.Machine.execWarmReset cause b s
  | .watchdogExpiry => Sys2Proof.Machine.execWatchdogExpiry s
  | .thermalSample t => Sys2Proof.Machine.execThermalSample t s
  | .defectLogWrite core flashOk => Sys2Proof.Machine.execDefectLogWrite core flashOk s
  | .tickBoundary m => Sys2Proof.Machine.execTickBoundary m s
  | .frameBoundary => Sys2Proof.Machine.execFrameBoundary s
  | .tickStart src value => Sys2Proof.Machine.execTickStart src value s
  | .tickMarker dt m => Sys2Proof.Machine.execTickMarker dt m s
  | .holdoverExceeded => Sys2Proof.Machine.execHoldoverExceeded s
  | .fclkLock dt => Sys2Proof.Machine.execFclkLock dt s
  | .load src => Sys2Proof.Machine.execLoad src s
  | .verifyDone => Sys2Proof.Machine.execVerifyDone s
  | .arm src => Sys2Proof.Machine.execArm src s
  | .abort src => Sys2Proof.Machine.execAbort src s
  | .shadowReady => Sys2Proof.Machine.execShadowReady s
  | .imageActivation => Sys2Proof.Machine.execImageActivation s
  | .nop dt core st ecc => Sys2Proof.Machine.execNop dt core st ecc s
  | .fend dt core st ecc => Sys2Proof.Machine.execFend dt core st ecc s
  | .jump dt core st ecc => Sys2Proof.Machine.execJump dt core st ecc s
  | .loop dt core st ecc => Sys2Proof.Machine.execLoop dt core st ecc s
  | .mask dt core st ecc => Sys2Proof.Machine.execMask dt core st ecc s
  | .ctok dt core st ecc => Sys2Proof.Machine.execCtok dt core st ecc s
  | .mma dt core st ecc => Sys2Proof.Machine.execMma dt core st ecc s
  | .mmaBegin dt core eccs => Sys2Proof.Machine.execMmaBegin dt core eccs s
  | .mmaComplete core bank => Sys2Proof.Machine.execMmaComplete core bank s
  | .add dt core st ecc => Sys2Proof.Machine.execAdd dt core st ecc s
  | .sub dt core st ecc => Sys2Proof.Machine.execSub dt core st ecc s
  | .mul dt core st ecc => Sys2Proof.Machine.execMul dt core st ecc s
  | .max dt core st ecc => Sys2Proof.Machine.execMax dt core st ecc s
  | .min dt core st ecc => Sys2Proof.Machine.execMin dt core st ecc s
  | .fma dt core st ecc => Sys2Proof.Machine.execFma dt core st ecc s
  | .scl dt core st ecc => Sys2Proof.Machine.execScl dt core st ecc s
  | .cvt dt core st ecc => Sys2Proof.Machine.execCvt dt core st ecc s
  | .exp dt core st ecc => Sys2Proof.Machine.execExp dt core st ecc s
  | .log dt core st ecc => Sys2Proof.Machine.execLog dt core st ecc s
  | .rsqrt dt core st ecc => Sys2Proof.Machine.execRsqrt dt core st ecc s
  | .recip dt core st ecc => Sys2Proof.Machine.execRecip dt core st ecc s
  | .tanh dt core st ecc => Sys2Proof.Machine.execTanh dt core st ecc s
  | .sigmoid dt core st ecc => Sys2Proof.Machine.execSigmoid dt core st ecc s
  | .rsum dt core st ecc => Sys2Proof.Machine.execRsum dt core st ecc s
  | .rmax dt core st ecc => Sys2Proof.Machine.execRmax dt core st ecc s
  | .ucall dt core st ecc => Sys2Proof.Machine.execUcall dt core st ecc s
  | .qcrumb dt core st ecc => Sys2Proof.Machine.execQcrumb dt core st ecc s
  | .vecBegin dt core eccs => Sys2Proof.Machine.execVecBegin dt core eccs s
  | .vecComplete core bank => Sys2Proof.Machine.execVecComplete core bank s
  | .send dt core st ecc => Sys2Proof.Machine.execSend dt core st ecc s
  | .recv dt core st ecc => Sys2Proof.Machine.execRecv dt core st ecc s
  | .hrd dt core st ecc => Sys2Proof.Machine.execHrd dt core st ecc s
  | .hwr dt core st ecc => Sys2Proof.Machine.execHwr dt core st ecc s
  | .ssend dt core st ecc => Sys2Proof.Machine.execSsend dt core st ecc s
  | .srecv dt core st ecc => Sys2Proof.Machine.execSrecv dt core st ecc s
  | .movBegin dt core chk => Sys2Proof.Machine.execMovBegin dt core chk s
  | .sendComplete dt core plane ecc bank => Sys2Proof.Machine.execSendComplete dt core plane ecc bank s
  | .recvComplete dt core plane bank => Sys2Proof.Machine.execRecvComplete dt core plane bank s
  | .hrdComplete core eccs bank => Sys2Proof.Machine.execHrdComplete core eccs bank s
  | .hwrComplete core eccs port => Sys2Proof.Machine.execHwrComplete core eccs port s
  | .li dt core st ecc => Sys2Proof.Machine.execLi dt core st ecc s
  | .addi dt core st ecc => Sys2Proof.Machine.execAddi dt core st ecc s
  | .tdb dt core st ecc => Sys2Proof.Machine.execTdb dt core st ecc s
  | .tagSet dt core st ecc => Sys2Proof.Machine.execTagSet dt core st ecc s
  | .tagClr dt core st ecc => Sys2Proof.Machine.execTagClr dt core st ecc s
  | .vread dt core st ecc => Sys2Proof.Machine.execVread dt core st ecc s
  | .vdone dt core st ecc => Sys2Proof.Machine.execVdone dt core st ecc s
  | .vpub dt core st ecc => Sys2Proof.Machine.execVpub dt core st ecc s
  | .notReady core st => Sys2Proof.Machine.execNotReady core st s
  | .coreSramDataRead src core ecc => Sys2Proof.Machine.execCoreSramDataRead src core ecc s
  | .coreSramDataWrite src core value => Sys2Proof.Machine.execCoreSramDataWrite src core value s
  | .nummonClear src slot => Sys2Proof.Machine.execNummonClear src slot s
  | .flitForward dt core ch inp => Sys2Proof.Machine.execFlitForward dt core ch inp s
  | .flitArrive dt core ch inp ecc => Sys2Proof.Machine.execFlitArrive dt core ch inp ecc s
  | .creditReturn dt core ch outp => Sys2Proof.Machine.execCreditReturn dt core ch outp s
  | .flitLand dt core ch => Sys2Proof.Machine.execFlitLand dt core ch s
  | .tokenArrive dt core unit => Sys2Proof.Machine.execTokenArrive dt core unit s
  | .sealArrive dt core ch a => Sys2Proof.Machine.execSealArrive dt core ch a s
  | .spillModeRequest src core => Sys2Proof.Machine.execSpillModeRequest src core s
  | .spillModeExit src core => Sys2Proof.Machine.execSpillModeExit src core s
  | .deadlockDetect core => Sys2Proof.Machine.execDeadlockDetect core s
  | .spillAreaClear src core => Sys2Proof.Machine.execSpillAreaClear src core s
  | .reduceDescriptor dt col engine inp => Sys2Proof.Machine.execReduceDescriptor dt col engine inp s
  | .reduceContribution dt col engine inp => Sys2Proof.Machine.execReduceContribution dt col engine inp s
  | .reduceUnitDeliver dt col engine slot unit => Sys2Proof.Machine.execReduceUnitDeliver dt col engine slot unit s
  | .moveIssue cirque index => Sys2Proof.Machine.execMoveIssue cirque index s
  | .moveLineLand dt cirque mv line errs => Sys2Proof.Machine.execMoveLineLand dt cirque mv line errs s
  | .moveComplete dt cirque mv => Sys2Proof.Machine.execMoveComplete dt cirque mv s
  | .deadlineMiss cirque mv => Sys2Proof.Machine.execDeadlineMiss cirque mv s
  | .manualMove src cirque value => Sys2Proof.Machine.execManualMove src cirque value s
  | .manualMoveComplete dt cirque => Sys2Proof.Machine.execManualMoveComplete dt cirque s
  | .windowWrite src window reg value => Sys2Proof.Machine.execWindowWrite src window reg value s
  | .moveEngineReset src cirque => Sys2Proof.Machine.execMoveEngineReset src cirque s
  | .scrubLine dt stack line errs => Sys2Proof.Machine.execScrubLine dt stack line errs s
  | .keyLoad src slot => Sys2Proof.Machine.execKeyLoad src slot s
  | .keySwitch src slot => Sys2Proof.Machine.execKeySwitch src slot s
  | .keySweep src slot => Sys2Proof.Machine.execKeySweep src slot s
  | .keyClear src slot => Sys2Proof.Machine.execKeyClear src slot s
  | .sweepLine dt slot stack line errs => Sys2Proof.Machine.execSweepLine dt slot stack line errs s
  | .sweepFinish dt slot => Sys2Proof.Machine.execSweepFinish dt slot s
  | .keyErase dt slot => Sys2Proof.Machine.execKeyErase dt slot s
  | .colTake dt core ch => Sys2Proof.Machine.execColTake dt core ch s
  | .linkFrameLaunch dt link => Sys2Proof.Machine.execLinkFrameLaunch dt link s
  | .linkFrameVerdict dt link frame fec => Sys2Proof.Machine.execLinkFrameVerdict dt link frame fec s
  | .replayRelaunch dt link => Sys2Proof.Machine.execReplayRelaunch dt link s
  | .linkSlotDeliver dt link => Sys2Proof.Machine.execLinkSlotDeliver dt link s
  | .txLate dt link => Sys2Proof.Machine.execTxLate dt link s
  | .linkDown dt link lane => Sys2Proof.Machine.execLinkDown dt link lane s
  | .linkRetrain src link => Sys2Proof.Machine.execLinkRetrain src link s
  | .linkPageReset src link => Sys2Proof.Machine.execLinkPageReset src link s
  | .linkDetectDone dt link => Sys2Proof.Machine.execLinkDetectDone dt link s
  | .linkEqualiseDone dt link => Sys2Proof.Machine.execLinkEqualiseDone dt link s
  | .linkCheckDone dt link lanesPass => Sys2Proof.Machine.execLinkCheckDone dt link lanesPass s
  | .linkNegotiateDone dt link n => Sys2Proof.Machine.execLinkNegotiateDone dt link n s
  | .linkTrainTimeout dt link => Sys2Proof.Machine.execLinkTrainTimeout dt link s
  | .ethFrameReceive dt intf bytes st => Sys2Proof.Machine.execEthFrameReceive dt intf bytes st s
  | .ethLinkChange dt intf up => Sys2Proof.Machine.execEthLinkChange dt intf up s
  | .eventLand e => Sys2Proof.Machine.execEventLand e s
  | .gatherBoundary => Sys2Proof.Machine.execGatherBoundary s
  | .stepHeaderLand dt => Sys2Proof.Machine.execStepHeaderLand dt s
  | .insert src => Sys2Proof.Machine.execInsert src s
  | .modify src => Sys2Proof.Machine.execModify src s
  | .delete src => Sys2Proof.Machine.execDelete src s
  | .lookup src => Sys2Proof.Machine.execLookup src s
  | .inRead src => Sys2Proof.Machine.execInRead src s
  | .inWrite src => Sys2Proof.Machine.execInWrite src s
  | .join cmd => Sys2Proof.Machine.execJoin cmd s
  | .leave cmd => Sys2Proof.Machine.execLeave cmd s
  | .srvModelWrite src value => Sys2Proof.Machine.execSrvModelWrite src value s
  | .srvGatherWrite src value => Sys2Proof.Machine.execSrvGatherWrite src value s
  | .feedGeomWrite src geom value => Sys2Proof.Machine.execFeedGeomWrite src geom value s
  | .srvCurWrite src value => Sys2Proof.Machine.execSrvCurWrite src value s
  | .srvPairWrite src value => Sys2Proof.Machine.execSrvPairWrite src value s
  | .resultLine dt core ch edge table => Sys2Proof.Machine.execResultLine dt core ch edge table s
  | .decisionFrameTransmit dt intf => Sys2Proof.Machine.execDecisionFrameTransmit dt intf s
  | .egDataWrite src value => Sys2Proof.Machine.execEgDataWrite src value s
  | .todSet src value => Sys2Proof.Machine.execTodSet src value s
  | .read dt q => Sys2Proof.Machine.execRead dt q s
  | .write dt q => Sys2Proof.Machine.execWrite dt q s
  | .rmw dt q => Sys2Proof.Machine.execRmw dt q s
  | .blockRead dt q => Sys2Proof.Machine.execBlockRead dt q s
  | .sync dt q => Sys2Proof.Machine.execSync dt q s
  | .eventAck dt q => Sys2Proof.Machine.execEventAck dt q s
  | .sidebandRegisterFrame dt m => Sys2Proof.Machine.execSidebandRegisterFrame dt m s
  | .budgetEffecter watts frames => Sys2Proof.Machine.execBudgetEffecter watts frames s
  | .rdmaWrite dt m => Sys2Proof.Machine.execRdmaWrite dt m s
  | .rdmaWriteAck dt qp => Sys2Proof.Machine.execRdmaWriteAck dt qp s
  | .rdmaReadRequest dt m errs => Sys2Proof.Machine.execRdmaReadRequest dt m errs s
  | .qpReset src qp => Sys2Proof.Machine.execQpReset src qp s
  | .eventFrameSend dt => Sys2Proof.Machine.execEventFrameSend dt s
  | .eventFrameResend dt => Sys2Proof.Machine.execEventFrameResend dt s
  | .prepare src => Sys2Proof.Machine.execPrepare src s
  | .install src => Sys2Proof.Machine.execInstall src s
  | .admRevoke src => Sys2Proof.Machine.execAdmRevoke src s
  | .sakInstall intf an sak pn => Sys2Proof.Machine.execSakInstall intf an sak pn s
  | .sourceReset src source => Sys2Proof.Machine.execSourceReset src source s
  | .cairnSeal dt slot => Sys2Proof.Machine.execCairnSeal dt slot s
  | .restore src value => Sys2Proof.Machine.execRestore src value s
  | .void src value => Sys2Proof.Machine.execVoid src value s
  | .reinstateDone dt errs => Sys2Proof.Machine.execReinstateDone dt errs s
  | .restoreRestart => Sys2Proof.Machine.execRestoreRestart s
  | .pairCommitMsg dt link m => Sys2Proof.Machine.execPairCommitMsg dt link m s
  | .pairTraceMsg dt link m => Sys2Proof.Machine.execPairTraceMsg dt link m s
  | .pairLossMsg dt link m => Sys2Proof.Machine.execPairLossMsg dt link m s
  | .pairSealMsg dt link m => Sys2Proof.Machine.execPairSealMsg dt link m s
  | .pairDivergenceMsg dt link m => Sys2Proof.Machine.execPairDivergenceMsg dt link m s
  | .pairTimeout key => Sys2Proof.Machine.execPairTimeout key s
  | .primaryFaultMsg dt link cause => Sys2Proof.Machine.execPrimaryFaultMsg dt link cause s
  | .pairSilence dt => Sys2Proof.Machine.execPairSilence dt s
  | .handover src => Sys2Proof.Machine.execHandover src s
  | .release src => Sys2Proof.Machine.execRelease src s
  | .recomputeDone dt q => Sys2Proof.Machine.execRecomputeDone dt q s
  | .coreFail dt core => Sys2Proof.Machine.execCoreFail dt core s
  | .spareFillDone dt fill => Sys2Proof.Machine.execSpareFillDone dt fill s
  | .rngKeyCommit src stream value => Sys2Proof.Machine.execRngKeyCommit src stream value s
  | .coreReset src core => Sys2Proof.Machine.execCoreReset src core s
  | .clusterReset src cluster => Sys2Proof.Machine.execClusterReset src cluster s
  | .partitionReset src part => Sys2Proof.Machine.execPartitionReset src part s
  | .drainEnd dt region => Sys2Proof.Machine.execDrainEnd dt region s
  | .resetComplete dt region => Sys2Proof.Machine.execResetComplete dt region s
  | .powerStateRequest src part value => Sys2Proof.Machine.execPowerStateRequest src part value s
  | .powerTransitionDone dt part => Sys2Proof.Machine.execPowerTransitionDone dt part s
  | .stage src => Sys2Proof.Machine.execStage src s
  | .stageDone dt ok => Sys2Proof.Machine.execStageDone dt ok s
  | .updateAbort src => Sys2Proof.Machine.execUpdateAbort src s
  | .activate src => Sys2Proof.Machine.execActivate src s
  | .commitSvn src => Sys2Proof.Machine.execCommitSvn src s
  | .revoke src => Sys2Proof.Machine.execRevoke src s
  | .challenge src => Sys2Proof.Machine.execChallenge src s
  | .jtagUnlock src => Sys2Proof.Machine.execJtagUnlock src s
  | .extend src => Sys2Proof.Machine.execExtend src s
  | .trialTimeout dt => Sys2Proof.Machine.execTrialTimeout dt s
  | .attestRequest src value => Sys2Proof.Machine.execAttestRequest src value s
  | .attestReportDone dt => Sys2Proof.Machine.execAttestReportDone dt s
  | .bootReq dt => Sys2Proof.Machine.execBootReq dt s
  | .bootData block bytes => Sys2Proof.Machine.execBootData block bytes s
  | .coalescerTake => Sys2Proof.Machine.execCoalescerTake s
  | .fatalEventLog => Sys2Proof.Machine.execFatalEventLog s
  | .intAck src => Sys2Proof.Machine.execIntAck src s
  | .fltClear src => Sys2Proof.Machine.execFltClear src s
  | .stormClear src => Sys2Proof.Machine.execStormClear src s
  | .fltLogRead src word => Sys2Proof.Machine.execFltLogRead src word s
  | .digestMsg dt link frame layout digest replayed => Sys2Proof.Machine.execDigestMsg dt link frame layout digest replayed s
  | .lossOfHbmTraining dt stack pseudo => Sys2Proof.Machine.execLossOfHbmTraining dt stack pseudo s
  | .managementMemoryError core corrected => Sys2Proof.Machine.execManagementMemoryError core corrected s
  | .bringupBound step => Sys2Proof.Machine.execBringupBound step s
  | .mkaSessionLoss dt intf => Sys2Proof.Machine.execMkaSessionLoss dt intf s

end Sys2Proof.Machine
end

