-- ==== Sys2Proof/Safety.lean ====
section
/-! DEFINITION. What counts as a sound state and as a sound step: the canonical form of the memories and the stored
registers, the well-formed queue, and which pieces of state each command may change. -/

namespace Sys2Proof.Machine

open Sys2Proof

/-- Byte memories, stored registers, and the cores, partitions, links, reduction engines and random streams are in canonical
form: keys strictly rising, and no entry equal to what an unlisted key reads as. -/
structure State.Canonical (s : State) : Prop where
  regs : swf regReset s.regs = true
  sram : swf memZero s.sram = true
  hub : swf memZero s.hub = true
  hbm : swf memZero s.hbm = true
  cores : swf (fun _ => Core.reset) s.cores = true
  parts : swf (fun _ => Part.reset) s.parts = true
  links : swf (fun _ => Link.reset) s.links = true
  engines : swf (fun _ => RedEngine.reset) s.engines = true
  rng : swf (fun _ => RngSt.reset) s.rng = true

/-- Every command that waits names units that the T9 has. -/
def State.QueueWf (s : State) : Prop := ∀ c ∈ s.pending, c.wf = true

/-! ## Pieces of state -/

/-- The pieces of state other than the queue. -/
inductive Fld where
  | now | free | out | regs | sram | hub | hbm | cores | fab | tick | sched | parts | resets | faults | jobFrames | jobBase
  | live | monOn | monClear | mem | energy | links | engines | rng | serve | host | dev | sec | dig | cairn | pair
  deriving DecidableEq, Repr

/-- Two states agree in a piece of state. -/
def Fld.same (f : Fld) (s t : State) : Prop :=
  match f with
  | .now => t.now = s.now
  | .free => t.free = s.free
  | .out => t.out = s.out
  | .regs => t.regs = s.regs
  | .sram => t.sram = s.sram
  | .hub => t.hub = s.hub
  | .hbm => t.hbm = s.hbm
  | .cores => t.cores = s.cores
  | .fab => t.fab = s.fab
  | .tick => t.tick = s.tick
  | .sched => t.sched = s.sched
  | .parts => t.parts = s.parts
  | .resets => t.resets = s.resets
  | .faults => t.faults = s.faults
  | .jobFrames => t.jobFrames = s.jobFrames
  | .jobBase => t.jobBase = s.jobBase
  | .live => t.live = s.live
  | .monOn => t.monOn = s.monOn
  | .monClear => t.monClear = s.monClear
  | .mem => t.mem = s.mem
  | .energy => t.energy = s.energy
  | .links => t.links = s.links
  | .engines => t.engines = s.engines
  | .rng => t.rng = s.rng
  | .serve => t.serve = s.serve
  | .host => t.host = s.host
  | .dev => t.dev = s.dev
  | .sec => t.sec = s.sec
  | .dig => t.dig = s.dig
  | .cairn => t.cairn = s.cairn
  | .pair => t.pair = s.pair

/-- Every piece of state. -/
def Fld.all : List Fld :=
  [.now, .free, .out, .regs, .sram, .hub, .hbm, .cores, .fab, .tick, .sched, .parts, .resets, .faults, .jobFrames, .jobBase,
   .live, .monOn, .monClear, .mem, .energy, .links, .engines, .rng, .serve, .host, .dev, .sec, .dig, .cairn, .pair]

/-- What recording a cause and its response can change: the page's registers, the report queue and the log; frozen cores,
partitions, links and sources; abandoned moves and the hub lines they leave VOID; open Cairn captures, whose slots in HBM are
marked VOID; the egress of partition 0; the pair and its messages (R23, R235, R311, R342, R356, R421 to R427). -/
def reportFields : List Fld :=
  [.out, .regs, .hub, .hbm, .cores, .parts, .faults, .mem, .links, .serve, .host, .cairn, .pair]

/-- The pieces of state that a command may change. -/
def writes : Instr → List Fld
  | .registerWrite .. | .w1cClear .. | .loWrite .. | .hiWrite .. | .pageFreeze .. | .pageEnable .. | .read ..
  | .write .. | .rmw .. | .blockRead .. | .sync .. | .eventAck .. | .sidebandRegisterFrame .. =>
    reportFields ++ [.now, .free, .sram, .fab, .tick, .sched, .resets, .jobFrames, .monClear, .energy, .engines, .rng, .dev, .sec]
  | .readClear .. | .loRead .. | .coreSramDataRead .. | .prepare .. | .install .. | .admRevoke .. | .fltLogRead .. =>
    reportFields ++ [.free]
  | .coldBringup .. | .coldReset .. | .warmReset .. => Fld.all
  | .railFault .. | .moveIssue .. | .deadlineMiss .. | .manualMove .. | .windowWrite .. | .keyLoad ..
  | .keySwitch .. | .keySweep .. | .keyClear .. | .linkRetrain .. | .linkPageReset .. | .insert .. | .modify ..
  | .delete .. | .lookup .. | .inRead .. | .inWrite .. | .join .. | .leave .. | .srvGatherWrite ..
  | .feedGeomWrite .. | .srvCurWrite .. | .srvPairWrite .. | .void .. | .restoreRestart | .pairTimeout ..
  | .release .. | .powerStateRequest .. | .bringupBound .. => reportFields
  | .watchdogExpiry | .defectLogWrite .. => reportFields ++ [.dev]
  | .thermalSample .. => reportFields ++ [.free, .energy, .dev]
  | .tickBoundary .. => reportFields ++ [.now, .fab, .tick, .resets, .energy, .dig]
  | .frameBoundary =>
    reportFields ++ [.fab, .tick, .jobFrames, .live, .monOn, .monClear, .energy, .engines, .rng, .dig]
  | .tickStart .. => reportFields ++ [.tick]
  | .tickMarker .. => reportFields ++ [.now, .tick, .energy, .dev, .sec]
  | .holdoverExceeded => reportFields ++ [.now, .tick]
  | .fclkLock .. => [.now, .tick]
  | .load .. | .verifyDone | .arm .. | .abort .. => reportFields ++ [.sched]
  | .shadowReady => [.cores, .sched]
  | .imageActivation => reportFields ++ [.fab, .sched, .energy, .sec]
  | .nop .. | .fend .. | .jump .. | .loop .. | .mask .. | .ctok .. | .mma .. | .add .. | .sub .. | .mul ..
  | .max .. | .min .. | .fma .. | .scl .. | .cvt .. | .exp .. | .log .. | .rsqrt .. | .recip .. | .tanh ..
  | .sigmoid .. | .rsum .. | .rmax .. | .ucall .. | .qcrumb .. | .send .. | .recv .. | .hrd .. | .hwr ..
  | .ssend .. | .srecv .. | .sendComplete .. | .li .. | .addi .. | .tdb .. | .tagSet .. | .tagClr .. | .vread ..
  | .vdone .. | .vpub .. | .resultLine .. => reportFields ++ [.now, .fab, .energy]
  | .mmaBegin .. | .vecBegin .. => reportFields ++ [.now, .sram]
  | .mmaComplete .. | .vecComplete .. => reportFields ++ [.now, .sram, .live, .energy]
  | .movBegin .. | .creditReturn .. => [.now, .cores, .fab]
  | .recvComplete .. | .notReady .. | .sealArrive .. | .scrubLine .. | .sweepLine .. | .linkFrameVerdict ..
  | .replayRelaunch .. | .txLate .. | .linkDown .. | .linkDetectDone .. | .linkEqualiseDone .. | .linkCheckDone ..
  | .linkNegotiateDone .. | .linkTrainTimeout .. | .ethFrameReceive .. | .ethLinkChange .. | .gatherBoundary
  | .decisionFrameTransmit .. | .rdmaWrite .. | .rdmaWriteAck .. | .rdmaReadRequest .. | .eventFrameSend ..
  | .eventFrameResend .. | .recomputeDone .. | .lossOfHbmTraining .. => reportFields ++ [.now]
  | .hrdComplete .. | .flitLand .. | .eventLand .. | .stepHeaderLand .. => reportFields ++ [.now, .sram, .energy]
  | .hwrComplete .. | .moveLineLand .. | .linkFrameLaunch .. => reportFields ++ [.now, .energy]
  | .coreSramDataWrite .. => reportFields ++ [.sram]
  | .nummonClear .. => [.monClear]
  | .flitForward .. | .flitArrive .. => reportFields ++ [.now, .fab, .energy, .dev]
  | .tokenArrive .. => reportFields ++ [.now, .fab]
  | .spillModeRequest .. => reportFields ++ [.sram, .fab]
  | .spillModeExit .. => [.regs, .cores]
  | .deadlockDetect .. | .coreFail .. => reportFields ++ [.now, .sram, .fab, .dev]
  | .spillAreaClear .. | .budgetEffecter .. => [.regs]
  | .reduceDescriptor .. => reportFields ++ [.now, .engines]
  | .reduceContribution .. => reportFields ++ [.now, .energy, .engines]
  | .reduceUnitDeliver .. | .linkSlotDeliver .. => reportFields ++ [.now, .fab, .energy, .engines]
  | .moveComplete .. | .manualMoveComplete .. => reportFields ++ [.now, .energy, .rng]
  | .moveEngineReset .. => [.regs, .hub, .hbm, .faults, .mem, .cairn]
  | .sweepFinish .. => [.now, .mem]
  | .keyErase .. => [.now, .regs, .mem]
  | .colTake .. => reportFields ++ [.now, .fab, .engines]
  | .srvModelWrite .. | .todSet .. => [.serve]
  | .egDataWrite .. => [.regs, .serve]
  | .qpReset .. => [.regs, .host]
  | .sakInstall .. | .sourceReset .. => [.host]
  | .cairnSeal .. | .pairCommitMsg .. | .pairTraceMsg .. | .pairLossMsg .. | .pairSealMsg ..
  | .pairDivergenceMsg .. => reportFields ++ [.now, .rng]
  | .restore .. => reportFields ++ [.rng]
  | .reinstateDone .. => reportFields ++ [.now, .sram, .fab, .jobFrames, .jobBase, .energy, .engines, .rng, .dev]
  | .primaryFaultMsg .. | .pairSilence .. => [.now, .pair]
  | .handover .. => [.regs, .faults, .links, .pair]
  | .spareFillDone .. => reportFields ++ [.now, .sram, .fab, .energy, .rng, .dev]
  | .rngKeyCommit .. => [.rng]
  | .coreReset .. | .clusterReset .. => reportFields ++ [.now, .fab, .resets, .energy]
  | .partitionReset .. | .powerTransitionDone .. =>
    reportFields ++ [.now, .sram, .fab, .resets, .energy, .engines, .dev]
  | .drainEnd .. => reportFields ++ [.now, .fab, .resets]
  | .resetComplete .. => reportFields ++ [.now, .sram, .fab, .resets, .energy, .dev]
  | .stage .. | .updateAbort .. | .activate .. | .commitSvn .. | .revoke .. | .challenge .. | .jtagUnlock ..
  | .extend .. => reportFields ++ [.free, .rng, .dev, .sec]
  | .stageDone .. | .bootData .. => reportFields ++ [.now, .dev, .sec]
  | .trialTimeout .. => reportFields ++ [.now, .dev]
  | .attestRequest .. => reportFields ++ [.sec]
  | .attestReportDone .. => [.now, .sec]
  | .bootReq .. => [.now, .free, .out]
  | .coalescerTake => [.now, .free, .regs, .faults]
  | .fatalEventLog => [.now, .regs, .faults, .dev]
  | .intAck .. | .fltClear .. | .stormClear .. => [.faults]
  | .digestMsg .. => reportFields ++ [.now, .dig]
  | .managementMemoryError .. => reportFields ++ [.dev, .sec]
  | .mkaSessionLoss .. => [.now, .host]

/-! ## The issue of a core instruction -/

/-- The word at the head of the stream, of class `cls` and opcode `op`, issues `dt` cycles from now: the core runs, the word
is the pick of that cycle, and every issue check passes (R92, R101, R102, R232). -/
def HeadIssues (cls op dt c : Nat) (st : Stream) (w : Dword) (s : State) : Prop :=
  c < 9216 ∧ headWord (core s c) st = w ∧ iClass w = cls ∧ iOp w = op ∧ coreRuns s c = true ∧
  mayIssue (elapse dt s) c (s.now + dt) st w = true ∧ issueChecks c (core s c) (s.now + dt) w = none ∧ hubAllowed s c (core s c) w = true

/-- The core once an instruction has issued from a stream in cycle t, before what the instruction itself does: the pick trace
takes the pick record (R105), the core has issued in this cycle (R102), and the next word is at the head (R96). -/
def issuedCore (s : State) (t c : Nat) (st : Stream) (w : Dword) : Core :=
  let x := core s c
  let y := streamOf x st
  setStream st { y with pc := y.pc + 1, head := t + 1, tickRel := none, frameRel := none }
    { x with trace := rotl64 x.trace 11 ^^^ pickRecord (t - s.tick.frameAt) st (iJob w) y.pc.toNat, issued := t + 1 }

/-- The state once an instruction has issued, before what the instruction itself does: the core's count of issues and the
job's, and the charge of class 5, go up by one (R96, R390). -/
def issuedState (s : State) (dt c : Nat) (st : Stream) (w : Dword) : State :=
  charge (iJob w) 5 1 (bump48 0x16 (1 + iJob w) 0x48 0 1 none (bump48 5 c 0x50 0 1 none
    (setCore c (issuedCore s (s.now + dt) c st w) (elapse dt s))))

end Sys2Proof.Machine
end

