-- ==== Sys2Proof/Certificates/Slice0/Obligations.lean ====
section
/-! DEFINITION. The statements for the provers. Each says of some commands what they leave, as an equation of the next
state wherever the rules fix it, so that its frame is part of it; `writes` (Sys2Proof/Safety.lean) gives the frame of every
command on every path. -/

open Sys2Proof Sys2Proof.Machine

/-! ## The block -/

/-- A step takes the command at the front of the queue and runs it with the rest of the queue. The queue is the
model's own (log entry 8). With no command waiting the block idles: the model's choice (log entry 8). -/
def Obligations.StepTakesTheFrontCommand : Prop :=
  (∀ (c : Instr) (rest : List Instr) (s : State), s.pending = c :: rest → step s = exec c { s with pending := rest }) ∧
  (∀ s : State, s.pending = [] → step s = .next s)

/-- From any state, a command that names only units that the T9 has completes and leaves the queue alone; one that
names another stops with the fault that names that unit (R12, R27). The spec gives a command on an absent unit no effect; that
the block stops is the model's choice (log entry 92). No step turns the clock back or reuses the number of a
free value (log entries 2 and 3: both counters are the model's). -/
def Obligations.CommandsStopOnlyOnAbsentUnits : Prop :=
  (∀ (i : Instr) (s : State),
    (i.wf = true → ∃ t, exec i s = .next t ∧ t.pending = s.pending) ∧
    (i.wf = false → ∃ u ∈ i.units, u.count ≤ u.number ∧ exec i s = .fault (.noSuchUnit u.kind u.number))) ∧
  (∀ s t : State, step s = .next t → s.now ≤ t.now ∧ s.free ≤ t.free)

/-- Every step keeps the canonical form of the memories, the registers and the per-unit states. -/
def Obligations.EveryStepKeepsTheCanonicalForm : Prop :=
  ∀ s t : State, s.Canonical → step s = .next t → t.Canonical

/-- A command changes no piece of state but those that `writes` lists for it: the frame of every command, on every path. -/
def Obligations.CommandsChangeOnlyWhatTheyWrite : Prop :=
  ∀ (i : Instr) (s t : State) (f : Fld), exec i s = .next t → f ∉ writes i → f.same s t

/-- A step takes exactly one command from a queue of well-formed commands, and the queue stays well formed. -/
def Obligations.WellFormedQueuesDrain : Prop :=
  ∀ s : State, s.QueueWf → ∃ t, step s = .next t ∧ t.QueueWf ∧ t.pending = s.pending.tail

/-- What reset leaves, where the spec states it (R375). Each register listed, by page class, instance and offset, reads the value
of its table's reset column: TICK_CFG (Table 2.13), CORE_MASK and CORE_IST_SEL (3.17), NUMMON_CFG (5.4), CIRQ_INFO and CIRQ_SLACK
of Cirque 3 (8.8), HBM_CFG (8.11), LINK_CFG (9.11), SRV_CFG, SRV_GATHER, SRV_PAGES and SRV_FEED_GEOM (10.12), HA_CFG, HA_MS_CFG
and QP_CFG (11.6, 11.7), CAIRN_T7_TOL (12.9), PAIR_CFG (12.11), DEV_CFG (13.10), CREST_WDOG (13.14), ENG_CFG, ENG_THERM and ENG_K
(14.4), ATTEST_LEN (15.10) and RIDGE_INFO (1.6). The error registers of every page read 0 (Table 0.8); the event charges are those
of Table 14.2; no tick, no image, no staged schedule, unassigned partitions, empty memories and queues. Registers that the fuses
give, which a cold bring-up sets, are left out (log entry 6). The state after reset has the canonical form. -/
def Obligations.ResetStateIsTheSpecs : Prop :=
  ((∀ r ∈ [(0x2, 0, 0x40, 0x401), (0x5, 100, 0x4C, 0xFFFF), (0x5, 100, 0x88, 0x400), (0x1A, 0, 0x40, 0xF0), (0x6, 3, 0x40, 0x3B),
      (0x6, 3, 0x58, 0xFFFF), (0x7, 23, 0x44, 0x1804), (0x9, 5, 0x44, 0x1FF00F0), (0xE, 0, 0x40, 2), (0xE, 0, 0x44, 0x1C00),
      (0xE, 0, 0x48, 0x4000), (0xE, 0, 0x50, 0x101), (0xF, 0, 0x40, 0xC6DE0003), (0xF, 0, 0x90, 2), (0xF, 1, 0x4C, 0x1400),
      (0x17, 0, 0x94, 0x3A83126F), (0x18, 0, 0x40, 0x1800), (0x0, 0, 0x48, 1), (0x1, 0, 0x4C, 0x107D0), (0x12, 0, 0x44, 0xFFFF0010),
      (0x12, 0, 0x48, 0x25A64), (0x12, 0, 0x8C, 0x3F800000), (0x11, 0, 0x44, 0x3B2), (0x3, 5, 0x40, 0x1A180005)],
    readValue State.reset r.1 r.2.1 r.2.2.1 = BitVec.ofNat 32 r.2.2.2) ∧
  (∀ cls inst off, cls < 64 → inst < 2 ^ 14 → off ∈ [0x10, 0x14, 0x18, 0x1C, 0x20, 0x24] → reg State.reset cls inst off = 0) ∧
  (∀ k < 16, rget State.reset (regKey 0x12 0 0x54 k) = BitVec.ofNat 32 ([400, 520, 610, 650, 8200, 3000, 6100, 15500, 10300, 6400,
    1790000, 1880000, 2600000, 41000, 9000, 0].getD k 0)) ∧
  tickN State.reset = 0 ∧ State.reset.sched.active = none ∧ State.reset.sched.st = 0 ∧
  (∀ p, (part State.reset p).st = 0) ∧ State.reset.dev.up = false ∧ State.reset.sram = [] ∧ State.reset.hub = [] ∧
  State.reset.hbm = [] ∧ State.reset.faults.queue = [] ∧ State.reset.faults.head = 0 ∧ State.reset.pending = []) ∧
  (State.reset.Canonical)

/-! ## The device -/

/-- COLD_RESET (R375): everything but fuses and flash returns to its reset value, ENG_BUDGET to the package limit of the part
(R391) with 16 frames; fuses and flash stay. COLD_BRINGUP (R368, R375) of a device in cold reset. On every path no tick is counted,
no image is active or staged, no job frame is counted and core SRAM reads 0. With a fuse error the boot ROM stops after step 2,
with DEV_INFO written and the fuses merged so that none clears; that the fused values come with the bring-up and a blank device has
none is the model's choice (log entry 6). A device that is up ignores COLD_BRINGUP (DESIGN CHOICE, log entry 7). That HBM reads 0
after a cold reset is the model's choice (log entry 31). -/
def Obligations.ColdResetStartsAnew : Prop :=
  (∀ (p : Bool) (s t : State),
    t = { State.reset with pending := s.pending, now := s.now, free := s.free, out := s.out,
                           dev := { DevSt.reset with fuses := s.dev.fuses, flash := s.dev.flash } } →
    exec (.coldReset p) s = .next
      (setReg 0x12 0 0x40 (BitVec.ofNat 32 ((if s.dev.fuses.variantH then 3800 else 4400) + 2 ^ 16 * 16)) t)) ∧
  (∀ (b : Bringup) (s : State),
    (s.dev.up = true → exec (.coldBringup b) s = .next s) ∧
    (s.dev.up = false → ∃ t, exec (.coldBringup b) s = .next t ∧
      t.tick = Tick.reset ∧ t.sched = Sched.reset ∧ t.jobFrames = [] ∧ t.sram = [] ∧ t.resets = [] ∧ t.engines = []) ∧
    (s.dev.up = false → b.fuseError = true → exec (.coldBringup b) s = .next
      (resetLimits (setReg 0 0 0x40 (devInfo (mergeFuses s.dev.fuses b.fuses) b)
        { State.reset with
          pending := s.pending, now := s.now, free := s.free, out := s.out,
          dev := { DevSt.reset with up := true, fuses := mergeFuses s.dev.fuses b.fuses,
                                    flash := b.flash.getD s.dev.flash,
                                    step := 2, fuseError := true, bootAt := s.now } }))))

/-- WARM_RESET (R381, R384): one that the pin, a register or the sideband starts always completes, and one by the watchdog, a
device-fatal fault or firmware where that cause is due (R388, R420, R412; that it waits for its cause is the model's, log entry 7).
No tick is counted after it, no image is active, core SRAM reads 0, no job frame, partition reset or engine slot is left. -/
def Obligations.WarmResetClearsTheDevice : Prop :=
  ∀ (b : Bringup) (s : State) (c : WarmCause), s.dev.up = true →
    ((c = .pin ∨ c = .register ∨ c = .sideband ∨ s.dev.warm = some c) →
      ∃ t, exec (.warmReset c b) s = .next t ∧ t.tick = Tick.reset ∧ t.sched = Sched.reset ∧ t.sram = [] ∧ t.jobFrames = [] ∧
        t.resets = [] ∧ t.engines = []) ∧
    ((c = .watchdog ∨ c = .fatal ∨ c = .firmware) → s.dev.warm ≠ some c → exec (.warmReset c b) s = .next s)

/-- RAIL_FAULT raises rail_fault, device-fatal (R40); LOSS_OF_HBM_TRAINING marks the stack untrained and raises
train_fail, device-fatal (R251); MANAGEMENT_MEMORY_ERROR counts and reports a corrected error, and halts the
management core on an uncorrectable one (R388); WATCHDOG_EXPIRY asks for a warm reset and raises watchdog where CREST_HEART has
not been written for the timeout (R388); BRINGUP_BOUND raises bringup_bound on a device not ready in that step (R386).
THERMAL_SAMPLE (R41, R42, R394), with `u` the state that has its readings: with no die at 105 °C or above after it, no sensor out of
range and no stack temperature, it sets or clears the thermal vote, and changes nothing else; a die that rises to 105 °C raises its
warning with the hottest sensor, and one that rises to 115 °C raises its critical cause too, device-fatal, with THERM_TRIP_N; a
sensor out of range is taken out and raises its die's fault, where the die has one; a stack's temperature is stored, with the
double refresh rate from 85 °C, its warning at 95 °C and its critical cause at 105 °C. DEFECT_LOG_WRITE (R373): a core that failed
in service is entered with kind 2, the boot count and the tick of its failure, and leaves the list of those to be logged. -/
def Obligations.DeviceReportsAreTaken : Prop :=
  ((∀ (rail : Nat) (s : State), rail < 9 → s.dev.up = true →
    exec (.railFault rail) s = .next (raise 0 0 7 2 rail (.fatal true) s)) ∧
  (∀ (dt k pseudo : Nat) (s : State), k < 24 → (stackOf s k).trained = true →
    exec (.lossOfHbmTraining dt k pseudo) s = .next
      (raise 7 k 3 2 pseudo (.fatal false) (setStack k { stackOf s k with trained := false } (elapse dt s)))) ∧
  (∀ (m : Nat) (s : State), m < 4 →
    exec (.managementMemoryError m true) s = .next (raiseCe 1 0 0 m (bump32 1 0 0x58 0 1 (some (6, 0)) s)) ∧
    exec (.managementMemoryError m false) s = .next (raise 1 0 1 2 m (.fatal false) { s with
      dev := { s.dev with halted := s.dev.halted ||| BitVec.ofNat 4 (2 ^ m),
                          running := s.dev.running &&& ~~~BitVec.ofNat 4 (2 ^ m) } })) ∧
  (∀ s : State, s.dev.up = true → (reg s 1 0 0x4C).getLsbD 16 = true →
    s.dev.heartAt + 940000 * max 1 (field (reg s 1 0 0x4C) 15 0) ≤ s.now →
    exec .watchdogExpiry s = .next
      (modDev (fun d => { d with warm := some .watchdog }) (raise 1 0 2 2 0 (.fatal false) s))) ∧
  (∀ (s : State), s.dev.up = true → devReady s = false →
    exec (.bringupBound s.dev.step) s = .next (raiseCe 0 0 9 s.dev.step s))) ∧
  ((∀ (t : Thermal) (s u : State), s.dev.up = true → u = modDev (storeReadings t) s → t.badCurrents = [] →
    (t.bad = [] → t.hbmTemps = [] → (∀ d ∈ dieCodes, (hottest u d).2 < 105 * 16) →
      exec (.thermalSample t) s = .next (thermalVote u)) ∧
    (∀ d c, d ∈ dieCodes → c = dieCauses d → t.bad = [] → t.hbmTemps = [] →
      (∀ e ∈ dieCodes, e ≠ d → (hottest u e).2 < 105 * 16) → (hottest s d).2 < 105 * 16 → 105 * 16 ≤ (hottest u d).2 →
      exec (.thermalSample t) s = .next (thermalVote
        (if (hottest u d).2 < 115 * 16 then raiseCe c.cls c.inst c.warn (hottest u d).1 u
         else raise c.cls c.inst c.crit 2 (hottest u d).1 (.fatal true)
           (modDev (fun x => { x with tripped := true }) (raiseCe c.cls c.inst c.warn (hottest u d).1 u))))) ∧
    (∀ d i v, v = modDev (fun x => { x with sensorBad := x.sensorBad ++ [16 * d + i] }) u → t.bad = [(d, i)] → t.hbmTemps = [] →
      s.dev.sensorBad.contains (16 * d + i) = false → (∀ e ∈ dieCodes, (hottest v e).2 < 105 * 16) →
      exec (.thermalSample t) s = .next (thermalVote (match (dieCauses d).fault with
        | some b => raiseCe (dieCauses d).cls (dieCauses d).inst b i v
        | none => v))) ∧
    (∀ k temp v, t.bad = [] → t.hbmTemps = [(k, temp)] → stackEnabled s k = true → (∀ e ∈ dieCodes, (hottest u e).2 < 105 * 16) →
      v = setStack k { stackOf s k with temp := temp, doubleRefresh := decide (85 ≤ temp) } u →
      (temp < 95 → exec (.thermalSample t) s = .next (thermalVote v)) ∧
      ((stackOf s k).temp < 95 → 95 ≤ temp → temp < 105 → exec (.thermalSample t) s = .next (thermalVote (raiseCe 7 k 4 temp v))) ∧
      ((stackOf s k).temp < 95 → 105 ≤ temp → exec (.thermalSample t) s = .next (thermalVote
        (raise 7 k 5 2 temp (.fatal true) (modDev (fun x => { x with tripped := true }) (raiseCe 7 k 4 temp v))))))) ∧
  (∀ (p : PhysCore) (s : State) (tick : Word), (Instr.defectLogWrite p true).wf = true → s.dev.trotos = true →
    s.dev.toLog.find? (·.1 == p) = some (p, tick) → logNames (defectLog s) p = false → (defectLog s).entries.length < 1024 →
    exec (.defectLogWrite p true) s = .next
      (writeLog { defectLog s with entries := (defectLog s).entries ++ [⟨p, 2, (defectLog s).boot, tick⟩] } true
        (modDev (fun d => { d with toLog := d.toLog.filter (·.1 != p) }) s))))

/-! ## Security -/

/-- SEC_CMD EXTEND, CHALLENGE, ABORT, ACTIVATE and STAGE, while no STAGE is in progress (R409, R411, R412): EXTEND
extends M6 by the first 64 bytes of SEC_BLOB; CHALLENGE stores a fresh challenge of free bytes (log entry 3); ABORT
drops the staged state; ACTIVATE starts a trial; STAGE of a package that reads without an uncorrectable line and verifies
empties the inactive slot (at once: DEDUCED, log entry 57) and starts the copy. SEC_CMD COMMIT_SVN, REVOKE and JTAG_UNLOCK (R411, R414, R415). COMMIT_SVN
raises the fused rollback version to a value between the old one and the running svn, which alone is success, and ends with
result 8 where that is no rise or a package of a lower svn is STAGED; REVOKE of an accepted blob either
revokes its slot or ends with result 9; JTAG_UNLOCK of an accepted blob with no secret present opens the port and
extends M7. REVOKE and JTAG_UNLOCK use the challenge up. How far a fuse blow gets is a free value (log entry 3). -/
def Obligations.SecurityCommandsTakeEffect : Prop :=
  (∀ (src : Src) (s : State), fit (.extend src) s = true → s.sec.staging = none →
    (exec (.extend src) s = .next
      (modSec (fun x => { x with result := 0, last := 8 }) (measureCounted 6 ((secBlob s).take 64) s))) ∧
    (exec (.challenge src) s = .next
      (modSec (fun x => { x with chal := some (randomBytes s 32), result := 0, last := 6 }) (drawFree s))) ∧
    (noSlots s = false → (updState s = 1 ∨ updState s = 3) → exec (.updateAbort src) s = .next
      (modSec (fun x => { x with result := 0, last := 2 })
        (setUpd 0 (modRecord (fun r => { r with staged := false, fallback := false }) s)))) ∧
    (noSlots s = false → updState s = 1 → exec (.activate src) s = .next
      (modSec (fun x => { x with result := 0, last := 3 }) (setUpd 2 (modDev (fun d => { d with warm := some .firmware })
        (modRecord (fun r => { r with trial := true, staged := false }) s))))) ∧
    (∀ errs a n p u, noSlots s = false → a = (rget64 s (regKey 0x10 0 0x4C 0)).toNat % 2 ^ 40 → a % 64 = 0 →
      n = field (reg s 0x10 0 0x54) 25 0 → n ≤ 2 ^ 25 → p = packageOf (physBytes s a n) → packageCode s p = 0 →
      crestRead [(a, ceilDiv n 64)] errs s = (true, u) → exec (.stage ⟨src, errs⟩) s = .next
        (modSec (fun x => { x with staging := some p, last := 1 })
          (setFlashSlot (inactiveSlot u) none (modRecord (fun r => { r with staged := false, fallback := false }) (setUpd 0 u)))))) ∧
  (∀ (src : Src) (s : State), fit (.commitSvn src) s = true → s.sec.staging = none →
    ((s.sec.svn ≤ s.dev.fuses.rollback ∨ updState s = 1 ∧ field (reg s 0x10 0 0x48) 10 4 < s.sec.svn) →
      exec (.commitSvn src) s = .next (secEnd 4 8 s)) ∧
    (s.dev.fuses.rollback < s.sec.svn → (updState s ≠ 1 ∨ s.sec.svn ≤ field (reg s 0x10 0 0x48) 10 4) → ∃ n t, s.dev.fuses.rollback ≤ n ∧ n ≤ s.sec.svn ∧
      t = drawFree (modFuses (fun f => { f with rollback := n }) s) ∧
      exec (.commitSvn src) s = .next (if n = s.sec.svn then modSec (fun x => { x with result := 0, last := 4 }) t
        else secEnd 4 9 (raiseCe 0x10 0 3 0 t))) ∧
    (∀ slot, slot = leField (secBlob s) 6 1 → blobCode s 5 = 0 → slot ≤ 2 → slot ≠ leField (secBlob s) 5 1 →
      activeKeySlot s ≠ some slot →
      (exec (.revoke src) s = .next (modSec (fun x => { x with chal := none, result := 0, last := 5 })
          (drawFree (modFuses (fun f => { f with revoked := f.revoked ||| BitVec.ofNat 3 (2 ^ slot) }) s))) ∨
        exec (.revoke src) s = .next (secEnd 5 9 (raiseCe 0x10 0 3 1 (drawFree (useChallenge s)))))) ∧
    (blobCode s 7 = 0 → secretsPresent s = false → exec (.jtagUnlock src) s = .next
      (modSec (fun x => { x with result := 0, last := 7 }) (raiseCe 0x10 0 2 (leField (secBlob s) 5 1)
        (measureCounted 7 (shake256 64 ((secBlob s).take 0x64)) (modSec (fun x => { x with chal := none, jtag := true }) s))))))

/-- STAGE_DONE stores the package and the state STAGED, or ends with result 9 (R411); TRIAL_TIMEOUT decides a trial at 1.3 s, and
one that is still open later has failed (R412); word 15 of ATTEST_NONCE starts a report, and ATTEST_REPORT_DONE signs it and counts
it (R416, R417; that the report leaves itself out of the count that it shows is the model's choice, log entry 74); BOOT_REQ sends the
request frame, to a free destination address (R407, log entry 3), until a host has answered, and BOOT_DATA adds the block that is
due. -/
def Obligations.UpdateReportAndNetworkBootProceed : Prop :=
  (∀ dt p (s : State), s.sec.staging = some p →
    exec (.stageDone dt true) s = .next (modSec (fun x => { x with result := 0, last := 1 })
      (setStaged p (modRecord (fun r => { r with staged := true }) (setFlashSlot (inactiveSlot s) (some p)
        (modSec (fun x => { x with staging := none }) (elapse dt s)))))) ∧
    exec (.stageDone dt false) s = .next
      (secEnd 1 9 (setUpdReason 9 (modSec (fun x => { x with staging := none }) (elapse dt s))))) ∧
  (∀ dt t (s : State), s.dev.trial = some t →
    exec (.trialTimeout dt) s = .next
      (if trialOk (passTo (t + 1222000000) (elapse dt s)) ∧ s.now + dt ≤ t + 1222000000 then trialSuccess (passTo (t + 1222000000) (elapse dt s))
       else raiseCe 0 0 9 s.dev.step (trialFail 0 (passTo (t + 1222000000) (elapse dt s))))) ∧
  (∀ src v (s : State), fit (.attestRequest src v) s = true → s.dev.trotos = true → s.sec.nonce = none →
    exec (.attestRequest src v) s = .next
      (modSec (fun x => { x with nonce := some (nonceBytes (setReg 0x11 0 0xBC v s)) }) (setReg 0x11 0 0xBC v s))) ∧
  (∀ dt n (s : State), s.sec.nonce = some n →
    exec (.attestReportDone dt) s = .next (modSec (fun x => { x with
      nonce := none, reports := x.reports + 1,
      report := some (reportBody (elapse dt s) n ++ edSign (identitySeed s) (shake256 64 (reportBody (elapse dt s) n))) })
      (elapse dt s))) ∧
  (∀ dt w (s : State), s.sec.netWait = some w →
    (s.sec.netData = [] → ∃ dst : BitVec 48, exec (.bootReq dt) s = .next
      (drawFree (emit (.frame 0 (padFrame (macHeader dst (intfMac s 0) none 0x88B5 ++ bootReqBody))) (elapse dt s)))) ∧
    (s.sec.netData ≠ [] → exec (.bootReq dt) s = .next (elapse dt s))) ∧
  (∀ bytes w (s : State), s.sec.netWait = some w → packageWhole (s.sec.netData ++ padTo 1024 bytes) = false →
    exec (.bootData s.sec.netNext bytes) s = .next
      (modSec (fun x => { x with netNext := x.netNext + 1, netData := x.netData ++ padTo 1024 bytes }) s))

/-! ## Ticks and frames -/

/-- TICK_BOUNDARY (R46, R49, R436): the boundary falls one tick length after the last; N advances by one, or starts at
TICK_BASE; the frame starts where N is a multiple of F. That TICK_BASE is read at the boundary itself is the model's choice
(log entry 74). FRAME_BOUNDARY marks the frame's work done and counts no tick. -/
def Obligations.BoundariesAdvanceTheTick : Prop :=
  (∀ (m : Measured) (s u : State), s.dev.up = true → (s.tick.running = true → s.tick.frameDone = true) →
    u = noteUnissued (settleFills (s.tick.boundAt + ticT s - 1) s) →
    ∃ t, exec (.tickBoundary m) s = .next t ∧ t.now = max s.now (s.tick.boundAt + ticT s) ∧
      t.tick = advanceTick (s.tick.boundAt + ticT s) (rget64 u (regKey 2 0 0x58 0)).toNat (ticF u) (ticT u) (upstreamReg u)
        s.tick ∧
      (s.tick.running = true → t.tick.n = s.tick.n + 1 ∧ t.tick.running = true)) ∧
  (∀ s : State, s.tick.running = true → s.tick.frameDone = false →
    ∃ t, exec .frameBoundary s = .next t ∧ t.tick.frameDone = true ∧ t.tick.n = s.tick.n ∧ t.tick.running = true ∧
      t.now = s.now)

/-- TICK_START on the tick master asks for the count to start at the next boundary, and any write of it while counting or
with another role is ignored with start_ignored (R49, R75); FCLK_LOCK of a device that does not count puts the boundary
M_in and the marker's mark_off before the last marker, in whole ticks, and of one that counts only locks the frequency
(R278; the alignment in cycles is DEDUCED, log entry 50); HOLDOVER_EXCEEDED unlocks and raises the slip (R51);
NUMMON_CLEAR marks the slot's counters to be cleared at the next frame boundary (R153). TICK_MARKER of a link in UP that is
not replayed (R51, R277): its distance from the expected cycle, a boundary plus mark_off plus M_in, is kept (the nearest boundary:
DEDUCED, log entry 50); on the upstream
link of a follower, with a distance within ±2 cycles and no number, it is the last marker and no slip follows; with a
greater distance on a device that counts, slip 0x06 is raised with it; a number that it carries is then taken, with its votes
(R277, R395). A replayed marker changes nothing. -/
def Obligations.TickControlAndMarkersAct : Prop :=
  ((∀ src (v : Word) (s : State), fit (.tickStart src v) s = true → v.getLsbD 0 = true → s.tick.running = false →
    tickRole s = 1 → exec (.tickStart src v) s = .next (modTick (fun k => { k with startPending := true }) s)) ∧
  (∀ src (v : Word) (s : State), fit (.tickStart src v) s = true → (s.tick.running = true ∨ tickRole s ≠ 1) →
    exec (.tickStart src v) s = .next (raiseCe 2 0 3 0 s)) ∧
  (∀ dt (s : State), tickRole s = 2 → (link s (upstream s)).st = 5 →
    (s.tick.running = true → exec (.fclkLock dt) s = .next (modTick (fun k => { k with freqLocked := true }) (elapse dt s))) ∧
    (∀ b : Int, s.tick.running = false → b = (s.tick.lastMarker : Int) - s.tick.lastOff - (link s (upstream s)).mIn →
      0 ≤ b → b ≤ s.now + dt →
      ∃ n, exec (.fclkLock dt) s = .next (modTick (fun k => { k with freqLocked := true, boundAt := n }) (elapse dt s)) ∧
        n ≤ s.now + dt ∧ s.now + dt < n + ticT s ∧ ((n : Int) - b) % (ticT s : Int) = 0)) ∧
  (∀ s : State, tickRole s = 2 → s.tick.running = true → s.tick.locked = true → exec .holdoverExceeded s = .next
    (tickSlip 2 (upstream s) (modTick (fun k => { k with locked := false, freqLocked := false })
      (passTo (s.tick.lastMarker + 940000) s)))) ∧
  (∀ src slot (s : State), fit (.nummonClear src slot) s = true → exec (.nummonClear src slot) s = .next
    { s with monClear := sset (fun _ => false) s.monClear slot true })) ∧
  (∀ dt (m : Marker) (d : Int) (s u : State), (Instr.tickMarker dt m).wf = true → s.Canonical → d = markOffset (elapse dt s) m →
    u = setLink m.link { link s m.link with mark := d, markAt := s.now + dt } (elapse dt s) →
    (m.replayed = true → exec (.tickMarker dt m) s = .next (elapse dt s)) ∧
    (m.replayed = false → m.number = none → (link s m.link).st = 5 → m.link ≠ upstream s →
      exec (.tickMarker dt m) s = .next u) ∧
    (∀ v, m.replayed = false → m.number = some v → (link s m.link).st = 5 → m.link ≠ upstream s →
      exec (.tickMarker dt m) s = .next (markVotes m v u)) ∧
    (m.replayed = false → m.number = none → (link s m.link).st = 5 → m.link = upstream s → tickRole s = 2 →
      (-2 ≤ d ∧ d ≤ 2 → exec (.tickMarker dt m) s = .next
        (modTick (fun k => { k with lastMarker := s.now + dt, lastOff := m.off, offset := d }) u)) ∧
      ((d < -2 ∨ 2 < d) → s.tick.running = true → exec (.tickMarker dt m) s = .next
        (tickSlip 0 (toBits 16 d)
          (modTick (fun k => { k with lastMarker := s.now + dt, lastOff := m.off, offset := d }) u)))) ∧
    (0 < ticT s → ((s.now + dt : Int) - ((s.tick.boundAt : Int) + m.off + (link s m.link).mIn) - d) % (ticT s : Int) = 0 ∧
      -(ticT s : Int) ≤ 2 * d ∧ 2 * d < ticT s))

/-! ## The schedule -/

/-- LOAD names the image and locks its window; VERIFY_DONE reads the image, and stages one that reads without an
uncorrectable line and passes every check, or rejects it with code 2 (of a line that cannot be read: DEDUCED, log entry 48) or
that of the first check that fails; ARM of a legal tick arms it, and with SCHED_ACT_TICK 0 the earliest eligible tick is taken; ABORT of an armed image before its tick goes back to VERIFIED, and from LOADING or VERIFIED to EMPTY; SHADOW_READY places every core's shadow half (R62 to R68).
IMAGE_ACTIVATION in the first cycle of the armed tick (R67, R68, R184): the staged image is the active one from this
tick on, nothing is staged, and the epoch colour of the device advances. That SCHED_ARMED_TICK reads 0 after LOAD, ABORT and the
activation is the model's choice (log entry 74). -/
def Obligations.ImagesAreLoadedAndSwitched : Prop :=
  ((∀ src errs (s : State), fit (.load ⟨src, errs⟩) s = true → s.sched.st ≠ 1 → s.sched.st ≠ 3 → devReady s = true →
    exec (.load ⟨src, errs⟩) s = .next (modSched (fun x => { x with
      st := 1, staged := none, shadowReady := false, armedTick := 0, loadErrs := errs, loadAddr := (rget64 s (regKey 0x16 0 0x40 0)).toNat,
      lockWin := (windowHolding s (rget64 s (regKey 0x16 0 0x40 0)).toNat ((rget64 s (regKey 0x16 0 0x40 0)).toNat +
        physNat s ((rget64 s (regKey 0x16 0 0x40 0)).toNat + 0x10) 8 - 1)).map (·.idx) }) s)) ∧
  (∀ a ok code (s u : State), s.sched.st = 1 → a = s.sched.loadAddr →
    crestRead [(a / 64 * 64, if headerOk s a then ceilDiv (physNat s (a + 0x10) 8) 64 else 2)] s.sched.loadErrs s = (ok, u) →
    code = (if headerOk s a = true ∧ ok = false then 2 else loadCode s a) →
    exec .verifyDone s = .next
      (if code = 0 then
        modSched (fun x => { x with st := 2, staged := some (imageAt u a), lockWin := some (imageAt u a).window }) u
      else raiseCe 0x16 0 0 code (modSched (fun x => { x with
        st := 4, lockWin := none, staged := none, shadowReady := false, armedTick := 0, reject := code,
        link := if code = 6 then (linkMismatch u (sysDesc u a)).getD 0 else u.sched.link }) u))) ∧
  (∀ src im (s : State), fit (.arm src) s = true → s.sched.st ≠ 1 → s.sched.st ≠ 3 → devReady s = true →
    s.sched.staged = some im → rget64 s (regKey 0x16 0 0x50 0) = im.id →
    (rget64 s (regKey 0x16 0 0x58 0)).toNat % armStep s im = 0 → armEarliest s im ≤ (rget64 s (regKey 0x16 0 0x58 0)).toNat →
    (rget64 s (regKey 0x16 0 0x58 0)).toNat ≠ 0 → (partsNow s).any (partFrozen s) = false →
    exec (.arm src) s = .next (modSched (fun x => { x with
      st := 3, armedTick := rget64 s (regKey 0x16 0 0x58 0), shadowReady := false }) s)) ∧
  (∀ src im a (s : State), fit (.arm src) s = true → s.sched.st ≠ 1 → s.sched.st ≠ 3 → devReady s = true →
    s.sched.staged = some im → rget64 s (regKey 0x16 0 0x50 0) = im.id → rget64 s (regKey 0x16 0 0x58 0) = 0 →
    0 < armStep s im → (partsNow s).any (partFrozen s) = false → a % armStep s im = 0 →
    (tickN s).toNat + ceilDiv 37600000 (ticT s) ≤ a →
    (∀ b, b % armStep s im = 0 → (tickN s).toNat + ceilDiv 37600000 (ticT s) ≤ b → a ≤ b) →
    exec (.arm src) s = .next (modSched (fun x => { x with st := 3, armedTick := BitVec.ofNat 64 a, shadowReady := false }) s)) ∧
  (∀ src (s : State), fit (.abort src) s = true → s.sched.st = 3 →
    (s.tick.running = false ∨ (tickN s).toNat < s.sched.armedTick.toNat) →
    exec (.abort src) s = .next (modSched (fun x => { x with st := 2, armedTick := 0, shadowReady := false }) s)) ∧
  (∀ src (s : State), fit (.abort src) s = true → s.sched.st ≠ 0 → s.sched.st ≠ 3 →
    exec (.abort src) s = .next (modSched (fun x => { x with
      st := 0, lockWin := none, staged := none, shadowReady := false, armedTick := 0 }) s)) ∧
  (∀ s : State, s.sched.st = 3 → s.sched.shadowReady = false → exec .shadowReady s = .next
    (modSched (fun x => { x with shadowReady := true }) (placeCores s.sched.staged (List.range 9216) s)))) ∧
  (∀ (im : Image) (s : State), s.sched.st = 3 → s.tick.running = true → tickN s = s.sched.armedTick →
    s.sched.shadowReady = true → s.tick.frameDone = true → s.now = s.tick.boundAt → s.sched.staged = some im →
    ∃ t, exec .imageActivation s = .next t ∧ t.sched = { s.sched with
      st := 0, lockWin := none, staged := none, shadowReady := false, armedTick := 0, active := some im,
      activeTick := tickN s, activeAt := s.now, colour := s.sched.colour + 1 } ∧
      t.tick = s.tick ∧ t.now = s.now ∧ t.sram = s.sram)

/-! ## Faults and events -/

/-- COALESCER_TAKE counts a report of a key that has an entry, gives another the lowest free entry with event 0x0001, and
drops it with none free (R425), one report in each cycle; a count that reaches its largest value raises count_overflow, with a free
detail (R428, log entry 89); FATAL_EVENT_LOG logs the oldest cycle's device-fatal reports one cycle later and only then enters them
in the coalescer's queue (R439); FLT_CTL int_ack, clear and storm_clear do what R425, R426 and R433 say; a read of FLT_LOG_DATA marks its entry read (R427). -/
def Obligations.CoalescerAndLogTakeEffect : Prop :=
  (∀ (r : Report) t (s u : State), s.faults.queue = r :: t →
    u = modFaults (fun f => { f with queue := t, takeFrom := max s.now s.faults.takeFrom + 1 }) (passTo s.faults.takeFrom s) →
    (∀ i e, entryOfKey u r.key = some (i, e) → e.cnt + 1 = 2 ^ 32 - 1 → ∃ d < 2 ^ 16, exec .coalescerTake s = .next
      (drawFree (recordCause 0x13 0 2 0 d (setFltEntry i { e with cnt := 2 ^ 32 - 1 } u)))) ∧
    (∀ i e, entryOfKey u r.key = some (i, e) → e.cnt + 1 ≠ 2 ^ 32 - 1 → exec .coalescerTake s = .next
      (setFltEntry i { e with cnt := min (2 ^ 32 - 1) (e.cnt + 1) } u)) ∧
    (∀ i, entryOfKey u r.key = none → ((List.range 64).find? fun i => (fltEntry u i).isNone) = some i →
      exec .coalescerTake s = .next (logEvent 0x0001 r.cls r.inst r.fclass (reportDetail r)
        (modFaults (fun f => { f with intPending := true })
          (setFltEntry i ⟨r.key, r.cls, r.inst, r.bit, r.fclass, r.tick, 1, none⟩ u)))) ∧
    (entryOfKey u r.key = none → ((List.range 64).find? fun i => (fltEntry u i).isNone) = none →
      exec .coalescerTake s = .next (dropReport r.key u))) ∧
  (∀ (r : Report) (s : State), s.faults.fatal = [r] → s.dev.warm = some .fatal → exec .fatalEventLog s = .next
    (enqueueReport { r with at_ := max s.now (r.at_ + 1) } (logEvent 0x0003 r.cls r.inst 2 (reportDetail r)
      (modFaults (fun f => { f with fatal := [], fatalLogged := true }) (passTo (r.at_ + 1) s))))) ∧
  (∀ src (s : State), fit (.intAck src) s = true →
    exec (.intAck src) s = .next { s with faults := { s.faults with intPending := false } } ∧
    exec (.stormClear src) s = .next { s with faults := { s.faults with storm := false } } ∧
    (∀ e, fltEntry s (field (reg s 0x13 0 0x48) 5 0) = some e → e.freeFrom = none → exec (.fltClear src) s = .next
      (setFltEntry (field (reg s 0x13 0 0x48) 5 0) { e with freeFrom := some (s.now + 1) } s))) ∧
  (∀ src word e (s : State), fit (.fltLogRead src word) s = true → selectedEvent s = some e →
    exec (.fltLogRead src word) s = .next (modFaults (fun f => { f with log := f.log.map (markRead e.idx 1) }) s))

/-- R23: a cause of class `f` sets its ERR_SUM bit, adds one to ERR_CNT up to its largest value, and, where ERR_FIRST is not
valid, is the one that ERR_FIRST and ERR_TICK record. A cause recorded in the same cycle as the valid one, both new in that
cycle, takes its place where its bit index is lower; any other leaves it. One that a write has cleared in the same cycle is valid
again with what it recorded, since its ERR_SUM bit stays set. -/
def Obligations.CausesAreRecorded : Prop :=
  ∀ (cls inst bit f detail : Nat) (s t : State), s.Canonical → t = recordCause cls inst bit f detail s →
    (reg t cls inst 0x10 = (reg s cls inst 0x10 ||| BitVec.ofNat 32 (2 ^ bit)) ∧
    reg t cls inst 0x1C = (if reg s cls inst 0x1C = 0xFFFFFFFF then 0xFFFFFFFF else reg s cls inst 0x1C + 1) ∧
    ((reg s cls inst 0x18).getLsbD 31 = true →
      (freshPage s cls inst).latched = false ∨ field (reg s cls inst 0x18) 4 0 ≤ bit →
      reg t cls inst 0x18 = reg s cls inst 0x18 ∧ rget64 t (regKey cls inst 0x20 0) = rget64 s (regKey cls inst 0x20 0)) ∧
    ((freshPage s cls inst).wiped = true →
      (freshPage s cls inst).latched = false ∨ field (reg s cls inst 0x18) 4 0 ≤ bit →
      reg t cls inst 0x18 = setField (reg s cls inst 0x18) 31 31 1 ∧
      rget64 t (regKey cls inst 0x20 0) = rget64 s (regKey cls inst 0x20 0)) ∧
    ((reg s cls inst 0x18).getLsbD 31 = false ∧ (freshPage s cls inst).wiped = false ∨ (freshPage s cls inst).latched = true ∧ bit < field (reg s cls inst 0x18) 4 0 →
      reg t cls inst 0x18 = BitVec.ofNat 32 (2 ^ 31 + 2 ^ 29 * f + 2 ^ 8 * (detail % 2 ^ 16) + bit) ∧
      rget64 t (regKey cls inst 0x20 0) = tickN s) ∧
    (∀ k, k ∉ [regKey cls inst 0x10 0, regKey cls inst 0x18 0, regKey cls inst 0x1C 0, regKey cls inst 0x20 0,
      regKey cls inst 0x24 0] → rget t k = rget s k))

/-! ## The cores -/

/-- A row that issues a core instruction, with the class and the opcode of its word (Tables 3.6, 3.8 to 3.15). -/
def coreRows : List ((Nat → Nat → Stream → Ecc → Instr) × Nat × Nat) :=
  [(.nop, 0, 0), (.fend, 0, 1), (.jump, 0, 2), (.loop, 0, 3), (.mask, 0, 4), (.ctok, 0, 5),
   (.mma, 1, 0),
   (.add, 2, 0x00), (.sub, 2, 0x01), (.mul, 2, 0x02), (.max, 2, 0x03), (.min, 2, 0x04), (.fma, 2, 0x05), (.scl, 2, 0x06),
   (.cvt, 2, 0x08), (.exp, 2, 0x09), (.log, 2, 0x0A), (.rsqrt, 2, 0x0B), (.recip, 2, 0x0C), (.tanh, 2, 0x0D),
   (.sigmoid, 2, 0x0E), (.rsum, 2, 0x10), (.rmax, 2, 0x11), (.ucall, 2, 0x20), (.qcrumb, 2, 0x21),
   (.send, 3, 0), (.recv, 3, 1), (.hrd, 3, 2), (.hwr, 3, 3), (.ssend, 3, 4), (.srecv, 3, 5),
   (.li, 4, 0), (.addi, 4, 1), (.tdb, 4, 2), (.tagSet, 5, 0), (.tagClr, 5, 1), (.vread, 6, 0), (.vdone, 6, 1), (.vpub, 6, 2)]

/-- Every core instruction that is picked and passes its checks issues: its stream moves on, the issue is traced, counted and
charged, and then its own effect happens in the issue cycle (R96, R101, R105, R390). -/
def Obligations.CoreInstructionsIssue : Prop :=
  ∀ k ∈ coreRows, ∀ (dt c : Nat) (st : Stream) (w : Dword) (s : State), HeadIssues k.2.1 k.2.2 dt c st w s →
    exec (k.1 dt c st .ok) s = .next
      (issueEffect c (s.now + dt) (pcDetail (streamOf (core s c) st) st) st w (issuedState s dt c st w))

/-- CTL instructions (Table 3.8): NOP does nothing more; FEND parks its stream; JUMP goes to its target; LOOP counts
its register down and goes to its target unless it reaches 0; MASK sets the row mask; CTOK sends a token on the
control channel into the core's own switch. LI writes its immediate to its register, ADDI the sum of a register and
the immediate modulo 2^32, and TDB puts such a sum into the base line of a tile descriptor and leaves its other fields
(Table 3.13); a ring slot of that tile becomes FILLING (Table 7.3). TAG_SET and TAG_CLR change the tag's valid bit (R93), where
a set of the same cycle goes before a clear. -/
def Obligations.ControlAndScalarInstructionsAct : Prop :=
  (∀ (dt c : Nat) (st : Stream) (w : Dword) (s : State) (x : Core), s.Canonical → x = issuedCore s (s.now + dt) c st w →
    (HeadIssues 0 0 dt c st w s → ∃ t, exec (.nop dt c st .ok) s = .next t ∧ core t c = x) ∧
    (HeadIssues 0 1 dt c st w s → ∃ t, exec (.fend dt c st .ok) s = .next t ∧
      core t c = setStream st { streamOf x st with parked := some (s.now + dt) } x) ∧
    (HeadIssues 0 2 dt c st w s → ∃ t, exec (.jump dt c st .ok) s = .next t ∧
      core t c = setStream st { streamOf x st with pc := BitVec.ofNat 10 (wbits w 9 0) } x) ∧
    (HeadIssues 0 3 dt c st w s → ∃ t, exec (.loop dt c st .ok) s = .next t ∧
      (sregOf x (wbits w 13 10) = 1 → core t c = setSreg (wbits w 13 10) 0 x) ∧
      (sregOf x (wbits w 13 10) ≠ 1 → core t c = setStream st
        { streamOf x st with pc := BitVec.ofNat 10 (wbits w 9 0) } (setSreg (wbits w 13 10) (sregOf x (wbits w 13 10) - 1) x))) ∧
    (HeadIssues 0 4 dt c st w s → ∃ t, exec (.mask dt c st .ok) s = .next t ∧
      core t c = { x with mask := BitVec.ofNat 16 (wbits w 15 0) }) ∧
    (HeadIssues 0 5 dt c st w s → ∃ t, exec (.ctok dt c st .ok) s = .next t ∧ core t c = x ∧
      t.fab.wires = s.fab.wires ++ [⟨c, .control, .l,
        mkFlit (some (iJob w)) (wbits w 13 8) x.colour false (BitVec.ofNat 512 (wbits w 7 0)), s.now + dt + 1⟩])) ∧
  (∀ (dt c : Nat) (st : Stream) (w : Dword) (s : State) (x : Core), s.Canonical → x = issuedCore s (s.now + dt) c st w →
    (HeadIssues 4 0 dt c st w s → ∃ t, exec (.li dt c st .ok) s = .next t ∧ core t c = setSreg (scalD w) (scalImm w) x) ∧
    (HeadIssues 4 1 dt c st w s → ∃ t, exec (.addi dt c st .ok) s = .next t ∧
      core t c = setSreg (scalD w) (sregOf x (scalA w) + scalImm w) x) ∧
    (HeadIssues 4 2 dt c st w s → ∃ t d, exec (.tdb dt c st .ok) s = .next t ∧
      core t c = { ringWrite x (scalTag w) with tiles := sset (fun _ => (0 : Dword)) x.tiles (512 * bit01 x.half + scalTag w) d } ∧
      dBase d = (sregOf x (scalA w) + scalImm w).toNat % 2 ^ 13 ∧
      ∀ i, 13 ≤ i → d.getLsbD i = (tileOf x (scalTag w)).getLsbD i) ∧
    (HeadIssues 5 0 dt c st w s → ∃ t, exec (.tagSet dt c st .ok) s = .next t ∧
      (core t c).valid = x.valid ||| BitVec.ofNat 512 (2 ^ tagTag w)) ∧
    (HeadIssues 5 1 dt c st w s → (sget (fun _ => TagTime.zero) x.tagAt (tagTag w)).setAt ≠ s.now + dt + 1 →
      ∃ t, exec (.tagClr dt c st .ok) s = .next t ∧
      (core t c).valid = x.valid &&& ~~~BitVec.ofNat 512 (2 ^ tagTag w)) ∧
    (HeadIssues 5 1 dt c st w s → (sget (fun _ => TagTime.zero) x.tagAt (tagTag w)).setAt = s.now + dt + 1 →
      ∃ t, exec (.tagClr dt c st .ok) s = .next t ∧ (core t c).valid = x.valid))

/-- VER instructions on a tag that has a ring slot (R197 to R200, Table 7.3): VREAD adds a reader and stamps the version it
sees; VDONE takes the reader and the stamp away; VPUB makes its slot CURRENT, whether or not the tag was a member of the ring, with
the ring's next version tag, and the slot that was CURRENT becomes OLD, or FREE where nothing reads it any more (R199). -/
def Obligations.VersionInstructionsMoveTheRing : Prop :=
  (∀ (dt c : Nat) (st : Stream) (w : Dword) (y : RingSlot) (s : State) (x : Core), s.Canonical →
    x = issuedCore s (s.now + dt) c st w → ringSlot x (tagTag w) = some y →
    (HeadIssues 6 0 dt c st w s → ∃ t, exec (.vread dt c st .ok) s = .next t ∧
      ringSlot (core t c) (tagTag w) = some { y with readers := y.readers + 1 } ∧
      (core t c).stamps = x.stamps ++ [⟨verStamp w, verRing w, tagTag w, y.ver⟩]) ∧
    (HeadIssues 6 1 dt c st w s → ∃ t z, exec (.vdone dt c st .ok) s = .next t ∧
      ringSlot (core t c) (tagTag w) = some z ∧ z.readers = y.readers - 1 ∧ z.ver = y.ver ∧
      (core t c).stamps = x.stamps.filter (·.idx != verStamp w)) ∧
    (HeadIssues 6 2 dt c st w s → ∃ t, exec (.vpub dt c st .ok) s = .next t ∧
      ringSlot (core t c) (tagTag w) =
        some ⟨tagTag w, verRing w, .current, sget (fun _ => (0xFF : Byte)) x.ringLast (verRing w) + 1, 0⟩ ∧
      sget (fun _ => (0xFF : Byte)) (core t c).ringLast (verRing w) =
        sget (fun _ => (0xFF : Byte)) x.ringLast (verRing w) + 1)) ∧
  (∀ (dt c : Nat) (st : Stream) (w : Dword) (s : State) (x : Core), s.Canonical → x = issuedCore s (s.now + dt) c st w →
    HeadIssues 6 2 dt c st w s → ∃ t, exec (.vpub dt c st .ok) s = .next t ∧
      ringSlot (core t c) (tagTag w) =
        some ⟨tagTag w, verRing w, .current, sget (fun _ => (0xFF : Byte)) x.ringLast (verRing w) + 1, 0⟩ ∧
      (∀ u z, u ≠ tagTag w → ringSlot x u = some z → z.ring = verRing w → z.st = .current →
        ringSlot (core t c) u = some { z with st := if z.readers = 0 ∧ readInFlight x u = false then .free else .old }))

/-- MMA, every vector instruction, and SEND, RECV, HRD, HWR, SSEND and SRECV join the tail of their unit's queue in their
issue cycle, with the row mask, the scalar register, the tile descriptors and the job's frame count of that cycle (R98, R101). -/
def Obligations.UnitInstructionsAreQueued : Prop :=
  ∀ k ∈ coreRows, ∀ (dt c : Nat) (st : Stream) (w : Dword) (s : State), s.Canonical → HeadIssues k.2.1 k.2.2 dt c st w s →
    ∀ (x : Core) (o : QOp), x = core s c →
      o = { word := w, mask := x.mask, scalar := sregOf x (if k.2.1 = 3 then movSreg w else vecSreg w),
            descs := (tilesChecked x w (sregOf x (vecSreg w))).map fun p => ⟨p.1, tileOf x p.1⟩,
            jobFrames := sget (fun _ => (0 : Dword)) s.jobFrames (iJob w), pos := s.now + dt - s.tick.frameAt,
            issuedAt := s.now + dt, origin := pcDetail (streamOf x st) st, landed := 0 } →
      (k.2.1 = 1 → ∃ t, exec (k.1 dt c st .ok) s = .next t ∧ (core t c).arrayQ = (core s c).arrayQ ++ [o] ∧
        (core t c).vecQ = (core s c).vecQ ∧ (core t c).movQ = (core s c).movQ ∧ t.sram = s.sram) ∧
      (k.2.1 = 2 → ∃ t, exec (k.1 dt c st .ok) s = .next t ∧ (core t c).vecQ = (core s c).vecQ ++ [o] ∧
        (core t c).arrayQ = (core s c).arrayQ ∧ (core t c).movQ = (core s c).movQ ∧ t.sram = s.sram) ∧
      (k.2.1 = 3 → ∃ t, exec (k.1 dt c st .ok) s = .next t ∧ (core t c).movQ = (core s c).movQ ++ [o] ∧
        (core t c).arrayQ = (core s c).arrayQ ∧ (core t c).vecQ = (core s c).vecQ ∧ t.sram = s.sram)

/-- Whatever the row, an illegal word at the head raises illegal_instr, and an uncorrectable instruction-store error raises
ist_ue; each freezes the core (R97, R98). A head whose sources are not seen in time slips (R103), and a head that may not
issue in the command's cycle waits. -/
def Obligations.HeadsFaultSlipOrWait : Prop :=
  ∀ k ∈ coreRows, ∀ (dt c : Nat) (st : Stream) (s : State), c < 9216 →
    (coreRuns s c = true → atHead (s.now + dt) (streamOf (core s c) st) = true →
      (∀ l, exec (k.1 dt c st (.uncorrectable l)) s = .next
        (raise 5 c 3 1 (pcDetail (streamOf (core s c) st) st + 4096 * bit01 (core s c).half) (.core c) (elapse dt s))) ∧
      (iLegal (headWord (core s c) st) = false → exec (k.1 dt c st .ok) s = .next
        (raise 5 c 4 1 (pcDetail (streamOf (core s c) st) st) (.core c) (elapse dt s)))) ∧
    (iLegal (headWord (core s c) st) = true → mayIssue (elapse dt s) c (s.now + dt) st (headWord (core s c) st) = false →
      exec (k.1 dt c st .ok) s = .next (elapse dt s)) ∧
    (∀ u, coreRuns s c = true → heldByDeferral s c (iJob (headWord (core s c) st)) = false →
      notReadyAt (core s c) st = some u → exec (.notReady c st) s = .next
        (coreSlip c 5 (pcDetail (streamOf (core s c) st) st) 2 (passTo u s)))

/-! ## Registers -/

/-- REGISTER_WRITE of a register with no effect of its own stores the writable fields and keeps the others (R16): the
registers below 0x40 but PAGE_CTL and ERR_SUM, and every register of the pages named, where it is no half of a pair
and no record. A write that the page ignores changes nothing. A register access at a misaligned address changes
nothing, and one at an address of no page is only counted, whatever row makes it (R11, R13). -/
def Obligations.RegistersAreAccessed : Prop :=
  (∀ (src : Src) (a v : Word) (s : State) (cls inst off : Nat), fit (.registerWrite src a v) s = true →
    addrPage a = (cls, inst, off) → a.toNat % 4 = 0 → pageExists cls inst = true →
    (writesIgnored s cls inst = true → exec (.registerWrite src a v) s = .next s) ∧
    (∀ r, writesIgnored s cls inst = false → regRow? cls inst off = some r → r.pair = 0 → recordOf cls inst off = none →
      off ≠ 8 → off ≠ 0x10 → (off < 0x40 ∨ cls ∈ [0, 1, 3, 4, 7, 8, 0xB, 0x14, 0x1B]) →
      exec (.registerWrite src a v) s = .next (rset (shownKey s cls inst off)
        ((rget s (shownKey s cls inst off) &&& ~~~BitVec.ofNat 32 (r.rw ||| r.wo)) ||| (v &&& BitVec.ofNat 32 (r.rw ||| r.wo)))
        s))) ∧
  (∀ (src : Src) (a v : Word) (s : State), fit (.registerWrite src a v) s = true →
    ∀ i ∈ [Instr.registerWrite src a v, .w1cClear src a v, .loWrite src a v, .hiWrite src a v, .readClear src a, .loRead src a],
      (a.toNat % 4 ≠ 0 → exec i s = .next s) ∧
      (a.toNat % 4 = 0 → pageExists (addrPage a).1 (addrPage a).2.1 = false → exec i s = .next (noPage src s)))

/-- W1C_CLEAR of ERR_SUM clears the bits written 1 that were not set in its own cycle, and ERR_FIRST.valid once none is left;
READ_CLEAR of ERR_CNT leaves what was counted in its own cycle (R17, R23). R18, for each source by itself: a read of a _LO latches the _HI, which the next read of that _HI
returns; a write of a writable _LO is held, and the write of its _HI sets both halves. -/
def Obligations.ErrorAndPairRegistersAct : Prop :=
  (∀ (src : Src) (a v x : Word) (s : State) (cls inst off : Nat) (fr : FreshPage), fit (.registerWrite src a v) s = true →
    addrPage a = (cls, inst, off) → a.toNat % 4 = 0 → pageExists cls inst = true → fr = freshPage s cls inst →
    x = reg s cls inst 0x10 &&& ~~~(v &&& ~~~fr.bits) →
    (off = 0x10 → writesIgnored s cls inst = false → x ≠ 0 →
      exec (.w1cClear src a v) s = .next (setReg cls inst 0x10 x s)) ∧
    (off = 0x10 → writesIgnored s cls inst = false → x = 0 → s.Canonical →
      ∃ t, exec (.w1cClear src a v) s = .next t ∧ reg t cls inst 0x10 = 0 ∧ (reg t cls inst 0x18).getLsbD 31 = false) ∧
    (off = 0x1C → pageFused s cls inst = false →
      (fr.count = 0 → exec (.readClear src a) s = .next (setReg cls inst 0x1C 0 s)) ∧
      (fr.count ≠ 0 → exec (.readClear src a) s = .next (setReg cls inst 0x1C (BitVec.ofNat 32 fr.count)
        (setFreshPage { fr with before := 0 } s))))) ∧
  (∀ (src : Src) (a b v w : Word) (s : State) (cls inst off : Nat), fit (.registerWrite src a v) s = true →
    addrPage a = (cls, inst, off) → a.toNat % 4 = 0 → b.toNat % 4 = 0 → addrPage b = (cls, inst, off + 4) →
    pageExists cls inst = true → pairHalf cls inst off = 1 → pairHalf cls inst (off + 4) = 2 →
    (pageFused s cls inst = false →
      exec (.loRead src a) s = .next (setLatch src { latchOf s src with
        rd := some (regAddr cls inst off, readValue s cls inst (off + 4)) } s)) ∧
    (∀ h, pageFused s cls inst = false → (latchOf s src).rd = some (regAddr cls inst off, h) →
      regRead src b s = (0, h, s)) ∧
    (writesIgnored s cls inst = false → writable cls inst off = true →
      exec (.loWrite src a v) s = .next (setLatch src { latchOf s src with wr := some (regAddr cls inst off, v) } s)) ∧
    (writesIgnored s cls inst = false → writable cls inst (off + 4) = true →
      (latchOf s src).wr = some (regAddr cls inst off, w) → cls ∉ [0xE, 0x17, 0x18] →
      exec (.hiWrite src b v) s = .next (plainWrite cls inst (off + 4) v (plainWrite cls inst off w
        (setLatch src { latchOf s src with wr := none } s)))))

/-- A write of PAGE_CTL, as PAGE_FREEZE or PAGE_ENABLE names it (R21, R25, R271). Its freeze comes first, and freezes the page's
master, unless the unit is in reset (R380, Table 13.5): a core, from that cycle on, an engine, a link, a partition or a queue
pair, and on other pages nothing. Then its enable is stored where the master is not frozen and the page takes it, and a link trains or goes OFF with it.
Then a 1 in its reset asks for the page's reset. A page that takes no write takes this one neither. -/
def Obligations.PagesFreezeAndEnable : Prop :=
  ∀ (src : Src) (v : Word) (cls inst : Nat) (i : Instr) (s : State),
    i ∈ [Instr.pageFreeze src ⟨cls, inst⟩ v, .pageEnable src ⟨cls, inst⟩ v] → fit i s = true → pageExists cls inst = true →
    (writesIgnored s cls inst = true → exec i s = .next s) ∧
    (∀ u t, writesIgnored s cls inst = false → s.Canonical →
      t = (if v.getLsbD 2 then resetWrite cls inst (v.getLsbD 1) u else u) →
      (v.getLsbD 1 = true → pageResetting s cls inst = false →
        (cls = 5 → u = setCore inst (freezeCore s.now (core s inst)) s → exec i s = .next t) ∧
        (cls = 6 → u = { s with mem := { s.mem with engFrozen := sset (fun _ => false) s.mem.engFrozen inst true } } →
          exec i s = .next t) ∧
        (cls = 9 → u = setLink inst { link s inst with frozen := true } s → exec i s = .next t) ∧
        (cls = 0x15 → u = freezeParts [inst] s → exec i s = .next t) ∧
        (cls = 0xF → inst ≠ 0 → u = setReg 0xF inst 8 (setField (reg s 0xF inst 8) 1 1 1) s → exec i s = .next t)) ∧
      ((v.getLsbD 1 = false ∨ pageResetting s cls inst = true ∨ cls ∉ [5, 6, 9, 0xF, 0x15] ∨ (cls = 0xF ∧ inst = 0)) →
        ((pageFrozen s cls inst = true ∨ enableIgnored s cls inst (v.getLsbD 0) = true) → u = s → exec i s = .next t) ∧
        (pageFrozen s cls inst = false → enableIgnored s cls inst (v.getLsbD 0) = false →
          (cls ≠ 9 → u = setReg cls inst 8 (setField (reg s cls inst 8) 0 0 (bit01 (v.getLsbD 0))) s → exec i s = .next t) ∧
          (cls = 9 → u = linkEnable inst (v.getLsbD 0)
            (setReg 9 inst 8 (setField (reg s 9 inst 8) 0 0 (bit01 (v.getLsbD 0))) s) → exec i s = .next t))))

/-- CORE_SRAM_DATA of a frozen core, or with no image (R109): a read gives the four bytes at CORE_SRAM_ADDR and a write stores
four bytes there, no other byte of any memory changing; the address then advances by 4. An address at or above 448 KiB is taken
modulo 448 KiB (log entry 44: the model's reading). Otherwise a read gives 0, a write is ignored, the address does not advance,
and access_ignored is raised. A write to a core of a partition that is off changes nothing. -/
def Obligations.CoreSramDataIsAccessed : Prop :=
  ∀ (src : Src) (c : Nat) (v : Word) (s : State), fit (.coreSramDataWrite src c v) s = true → s.Canonical →
    (sramDataOk s c = true →
      (sramDataRead c .ok s).1 = BitVec.ofNat 32 (leNat (memBytes s.sram (sramDataAddr s c) 4)) ∧
      exec (.coreSramDataRead src c .ok) s = .next (sramAdvance c s) ∧
      (coreOff s c = false → ∃ t, exec (.coreSramDataWrite src c v) s = .next t ∧
        memBytes t.sram (sramDataAddr s c) 4 = leBytes 4 v.toNat ∧
        reg t 5 c 0x80 = BitVec.ofNat 32 ((field (reg s 5 c 0x80) 18 2 * 4 + 4) % 458752) ∧
        (∀ a, ¬ (sramDataAddr s c ≤ a ∧ a < sramDataAddr s c + 4) → sget memZero t.sram a = sget memZero s.sram a) ∧
        t.hub = s.hub ∧ t.hbm = s.hbm)) ∧
    (sramDataOk s c = false →
      (sramDataRead c .ok s).1 = 0 ∧ exec (.coreSramDataRead src c .ok) s = .next (raiseCe 5 c 12 0 s) ∧
      (coreOff s c = false → exec (.coreSramDataWrite src c v) s = .next (raiseCe 5 c 12 0 s))) ∧
    (coreOff s c = true → exec (.coreSramDataWrite src c v) s = .next s)

/-! ## The units of a core -/

/-- S[m][kk] of a K step of problem q as the operand in core SRAM gives it, under its block scale in a block-scaled format
(R117, R137, R138). -/
def stationary (s : State) (k : MmaCtx) (q step m kk : Nat) : Machine.Num :=
  if fmtMx (dFmt k.db) then scaled (dFmt k.db) (mmaS s k q step m kk) (mmaScaleByte s k k.sb true q m (step * k.shape.k + kk))
  else decodeElem (dFmt k.db) (mmaS s k q step m kk)

/-- The FP32 value of an output after one K step: each update adds its exact sum of products with one rounding (R115, R143). -/
def stepValue (s : State) (k : MmaCtx) (q m n : Nat) (v : Word) (step : Nat) : Word :=
  (List.range (k.shape.k / perUpdate k.w)).foldl (fun v u => roundFp32 ((num32 v).add
    ((List.range (perUpdate k.w - 1)).foldl
      (fun a i => a.add ((stationary s k q step m (perUpdate k.w * u + (i + 1))).mul
        (mmaTnum s k q step (perUpdate k.w * u + (i + 1)) n)))
      ((stationary s k q step m (perUpdate k.w * u + 0)).mul (mmaTnum s k q step (perUpdate k.w * u + 0) n))))) v

/-- MMA_BEGIN takes the head of the array's queue in the cycle b after its issue or after the MMA before it: the stationary
slices are filled, broadcast and fed in turn, from 0 unless the MMA accumulates, and the run is due as R121 counts, with L_B 0
where its fill is done behind the MMA before it, else the fill of slice 0 (R115, R120, R121, R122). A withheld operand line stops
it before it feeds anything, and the checks of its lines are reported (R85). MMA_COMPLETE, when its last result is written or at
its due cycle and the waits that empty read buffers add (R119, R123), ends the run; where fin is set it writes the narrowed
outputs of the unmasked rows to dst and sets its valid bit, and no other byte of core SRAM changes; without fin none does (R121,
R125, R126). That operands are read at the begin and results written at the completion is log entry 17, and which requests
compete with the array's is an operand by log entry 76 (the model's readings). After MMA_BEGIN of an MMA that starts from 0 in FP32, the slot of every output of an
unmasked row holds its updates over all K steps in order, and every other slot 0 (R115, R125, R143). -/
def Obligations.MatrixMultipliesRun : Prop :=
  (∀ dt c eccs (o : QOp) rest b (s : State) (x : Core), c < 9216 → x = core s c → x.arrayQ = o :: rest → x.array = none →
    coreHalted s c = false → b = max (o.issuedAt + 1) (x.arrayLast.2 + 1) → b ≤ s.now + dt →
    ∀ lB, lB = (if x.arrayLast.2 + 1 = b ∧ o.issuedAt ≤ x.arrayLast.1 ∧ x.arrayLast.1 ≠ 0 then 0 else fillCycles (mmaCtx c o)) →
      (anyWithheld eccs = false → exec (.mmaBegin dt c eccs) s = .next (sramChecks c eccs (setCore c
        { feedSteps (coreSees (elapse dt s)) (mmaCtx c o) o.mask (List.range (mmaSteps o.word))
            (if mmaAcc o.word then x else { x with acc := [], accSat := [] }) with
          arrayQ := rest, array := some (mmaRun (mmaCtx c o) o b lB) } (elapse dt s)))) ∧
      (anyWithheld eccs = true → exec (.mmaBegin dt c eccs) s = .next (sramChecks c eccs (setCore c
        { x with arrayQ := rest, array := some { mmaRun (mmaCtx c o) o b lB with stopped := true } } (elapse dt s))))) ∧
  (∀ c (b : BankEvents) (r : MmaRun) at_ (s : State) outs, c < 9216 → s.Canonical → (core s c).array = some r →
    r.stopped = false → coreInReset s c = false → at_ = mmaDone r.op r (mmaBanks (mmaCtx c r.op) r.op r
      (((core s c).arrayQ.find? fun n => decide (n.issuedAt ≤ r.lastStep)).map (mmaCtx c)) b) →
    outs = (fedOutputs (mmaCtx c r.op).code r.op.mask).map (mmaOut s c r.op (core s c) (fmtInt (dFmt (mmaCtx c r.op).db))) →
    ∃ t, exec (.mmaComplete c b) s = .next t ∧ (core t c).array = none ∧ t.now = max s.now at_ ∧
      (mmaFin r.op.word = false → t.sram = s.sram) ∧
      (mmaFin r.op.word = true → (core t c).valid.getLsbD (mmaDst r.op.word) = true ∧
        t.sram = (writeElems c (opDesc r.op (mmaDst r.op.word)) true outs s).sram ∧
        ∀ a, (∀ e ∈ outs, ∀ k,
            k = 2 ^ 19 * c + elemBit (opDesc r.op (mmaDst r.op.word)) (fmtWidth (dFmt (opDesc r.op (mmaDst r.op.word)))) e.idx / 8 →
            ¬ (k ≤ a ∧ a < k + ceilDiv (fmtWidth (dFmt (opDesc r.op (mmaDst r.op.word)))) 8)) →
          sget memZero t.sram a = sget memZero s.sram a)) ∧
  (∀ dt c eccs (o : QOp) rest (s u : State), c < 9216 → s.Canonical → (core s c).arrayQ = o :: rest →
    (core s c).array = none → coreHalted s c = false → max (o.issuedAt + 1) ((core s c).arrayLast.2 + 1) ≤ s.now + dt →
    anyWithheld eccs = false → mmaAcc o.word = false → fmtInt (dFmt (mmaCtx c o).db) = false → u = coreSees (elapse dt s) →
    ∃ t, exec (.mmaBegin dt c eccs) s = .next t ∧
      (∀ p ∈ fedOutputs (mmaCtx c o).code o.mask,
        sget (fun _ => (0 : Word)) (core t c).acc (accKey (mmaCtx c o).shape p.1 p.2.1 p.2.2) =
          (List.range (mmaSteps o.word)).foldl (stepValue u (mmaCtx c o) p.1 p.2.1 p.2.2) 0) ∧
      (∀ k, (∀ p ∈ fedOutputs (mmaCtx c o).code o.mask, accKey (mmaCtx c o).shape p.1 p.2.1 p.2.2 ≠ k) →
        sget (fun _ => (0 : Word)) (core t c).acc k = 0))

/-- VEC_BEGIN takes the head of the vector queue once its inputs are free, and its results are due after its occupancy and
latency (Table 3.11, R100); a withheld operand line leaves it without results, and the checks of its lines are reported (R85).
VEC_COMPLETE writes the results of the run that is due next, at its due cycle and the retries of its accesses, ends the run
and sets the tags' valid bits. No byte of core SRAM changes but those of the elements written, and none of the hub cache or
HBM. That operands are read at the begin and results written at the completion is log entry 17, and that the unit's requests at
the banks come as an operand is log entry 76 (the model's readings). -/
def Obligations.VectorInstructionsRun : Prop :=
  (∀ dt c eccs (o : QOp) rest (s : State) (x : Core), c < 9216 → x = core s c → x.vecQ = o :: rest → coreHalted s c = false →
    max (o.issuedAt + 1) x.vecFree ≤ s.now + dt → (ucallNeeds o).all (tagSeen x (s.now + dt)) = true →
    exec (.vecBegin dt c eccs) s = .next (sramChecks c eccs (setCore c { x with
      vecQ := rest, vecFree := s.now + dt + vecOccupancy o,
      vecs := x.vecs ++ [⟨o, s.now + dt + vecOccupancy o - 1 + vecLatency o.word,
        if anyWithheld eccs then [] else vecOuts (coreSees (elapse dt s)) c o, anyWithheld eccs⟩] } (elapse dt s)))) ∧
  (∀ c (b : BankEvents) (r : VecRun) (s : State), c < 9216 → s.Canonical → nextVec (core s c).vecs = some r →
    coreInReset s c = false →
    ∃ t, exec (.vecComplete c b) s = .next t ∧ (core t c).vecs = eraseFirst (fun q => q == r) (core s c).vecs ∧
      t.now = max s.now (r.due + (bankCount userOfVec b).retries) ∧ t.sram = (writeTiles c r.outs s).sram ∧
      (∀ o ∈ r.outs, o.tag < 512 → (core t c).valid.getLsbD o.tag = true) ∧
      (∀ a, (∀ o ∈ r.outs, ∀ e ∈ o.elems, ∀ k, k = 2 ^ 19 * c + elemBit o.desc (fmtWidth (dFmt o.desc)) e.idx / 8 →
          ¬ (k ≤ a ∧ a < k + ceilDiv (fmtWidth (dFmt o.desc)) 8)) →
        sget memZero t.sram a = sget memZero s.sram a) ∧ t.hub = s.hub ∧ t.hbm = s.hbm)

/-- MOV_BEGIN takes the head of the mover's queue (Table 3.12): a SEND, RECV or SRECV begins; an HRD or HWR begins in its port
slot; an SSEND puts its register on the scalar channel and is done.
SEND_COMPLETE of a last line that its check passes or corrects puts it on its plane, ends the SEND and releases its tag where
rel is set; RECV_COMPLETE ends a RECV all of whose lines have landed and sets its tag's valid bit (R111, R165, R168). -/
def Obligations.TransfersComplete : Prop :=
  (∀ dt c (chk : MovChecks) (o : QOp) rest (s u : State) (x : Core), c < 9216 → s.Canonical → x = core s c → x.movQ = o :: rest →
    coreHalted s c = false → o.issuedAt < s.now + dt →
    (∀ n k, u = setCore c { x with movQ := rest, movs := x.movs ++ [⟨o, n, s.now + dt, k, false⟩] }
        (setCore c { x with movQ := rest } (elapse dt s)) →
      ((iOp o.word = 0 ∨ iOp o.word = 5 ∧ o.landed = 0) → n = 0 → k = noChecks → exec (.movBegin dt c chk) s = .next u) ∧
      (iOp o.word = 1 → o.landed ≤ movLines o → n = o.landed → k = noChecks → exec (.movBegin dt c chk) s = .next u) ∧
      ((iOp o.word = 2 ∨ iOp o.word = 3) → (reg s 4 (clusterOf c) 8).getLsbD 0 = true → n = 0 → k = chk →
        exec (.movBegin dt c chk) s = .next u)) ∧
    (iOp o.word = 4 → exec (.movBegin dt c chk) s = .next (addWire ⟨c, .scalar, .l, mkFlit (some (iJob o.word))
      (movRoute o.word) x.colour false (BitVec.ofNat 512 o.scalar.toNat), s.now + dt + 1⟩
      (setCore c { x with movQ := rest } (elapse dt s))))) ∧
  ((∀ dt c plane ecc (b : BankEvents) (r : MovRun) (s : State), c < 9216 → plane < 2 → s.Canonical →
    sendOf (core s c) (planeChan plane) = some r → coreInReset s c = false → r.moved + 1 = movLines r.op →
    (queueOf (core s c) (qCode (planeChan plane) .l)).length < 8 → r.begun + r.moved ≤ s.now + dt →
    dataWithheld ecc = false →
    ∃ t, exec (.sendComplete dt c plane ecc b) s = .next t ∧
      (core t c).movs = eraseFirst (fun q => q == r) (core s c).movs ∧
      t.fab.wires = s.fab.wires ++ [⟨c, planeChan plane, .l, sendFlit (elapse dt s) c r.op r.moved (s.now + dt), s.now + dt + 1⟩] ∧
      (movRel r.op.word = true → (sget (fun _ => TagTime.zero) (core s c).tagAt (movTag r.op.word)).setAt ≠ s.now + dt + 1 →
        (core t c).valid.getLsbD (movTag r.op.word) = false) ∧
      t.sram = s.sram) ∧
  (∀ dt c plane (b : BankEvents) (r : MovRun) (s : State), c < 9216 → plane < 2 → s.Canonical →
    coreInReset s c = false →
    ((core s c).movs.find? fun r => (iOp r.op.word == 1 && planeChan (movPlane r.op.word) == planeChan plane) &&
      r.moved == movLines r.op) = some r →
    ∃ t, exec (.recvComplete dt c plane b) s = .next t ∧
      (core t c).movs = eraseFirst (fun q => q == r) (core s c).movs ∧
      ((core t c).valid.getLsbD (movTag r.op.word) = true) ∧ t.sram = s.sram))

/-- HRD_COMPLETE lands the lines that the HRD read in the cycles of their bank accesses in its tile, the last 8 cycles after its
access where no port request waits, and sets the tag's valid bit; a line that it found PENDING or VOID, or uncorrectable, stops
it there with the cause of Table 8.2, and one that the vertical port withholds stops it with the lines before it landed and
none after. HWR_COMPLETE writes the tile's lines, each as it stood in the cycle it was sent, to consecutive hub lines; a line
that a check withholds, or a hub line that is PENDING, stops it with the lines before it written and none after (R111, R225,
R226, R227). The HRD writes no hub line and the HWR no byte of core SRAM, and neither writes HBM. That the lines land, or are
written, with the completion is log entry 40; the requests that compete at the banks are operands by log entry 76 (the model's
readings). -/
def Obligations.HubTransfersComplete : Prop :=
  (∀ c eccs (b : BankEvents) (r : MovRun) (s : State), c < 9216 → s.Canonical →
    runningMov (core s c) 2 (fun _ => true) = some r → coreInReset s c = false →
    (hrdStop s c r = none → anyWithheld eccs = false →
      ∃ t, exec (.hrdComplete c eccs b) s = .next t ∧
        t.now = max s.now (((servedAt (hrdLanding c r b) (· == .portIn))).getD (movLines r.op - 1) s.now) ∧
        (core t c).valid.getLsbD (movTag r.op.word) = true ∧
        (core t c).movs = eraseFirst (fun q => q == r) (core s c).movs ∧
        t.sram = (landLines c (movDesc r.op) 0 ((hrdLines s c r).take (movLines r.op)) s).sram ∧
        (∀ a, (∀ i < movLines r.op, ¬ (sramAddr c (dBase (movDesc r.op) + i) ≤ a ∧ a < sramAddr c (dBase (movDesc r.op) + i) + 64)) →
          sget memZero t.sram a = sget memZero s.sram a) ∧
        t.hub = s.hub ∧ t.hbm = s.hbm) ∧
    (∀ k, hrdStop s c r = none → eccs.findIdx? dataWithheld = some k → k < movLines r.op →
      ∃ t, exec (.hrdComplete c eccs b) s = .next t ∧ t.sram = (landLines c (movDesc r.op) 0 ((hrdLines s c r).take k) s).sram ∧
        (core t c).valid = (core s c).valid ∧ t.hub = s.hub ∧ t.hbm = s.hbm) ∧
    (∀ i why, hrdStop s c r = some (i, why) →
      exec (.hrdComplete c eccs b) s = .next (hrdStopped c r (hrdLanding c r b) i why s))) ∧
  (∀ c eccs port (r : MovRun) (s : State) n, c < 9216 → s.Canonical →
    runningMov (core s c) 3 (fun _ => true) = some r → coreInReset s c = false →
    n = ((hwrStop s c r eccs port).map (·.1)).getD (movLines r.op) →
    ∃ t, exec (.hwrComplete c eccs port) s = .next t ∧
      t.hub = (hwrPutLines (coreCirque c) (movHub r.op.word) ((hwrLines s c r).take n) s).hub ∧
      (∀ a, ¬ (2 ^ 26 * coreCirque c + 64 * movHub r.op.word ≤ a ∧ a < 2 ^ 26 * coreCirque c + 64 * (movHub r.op.word + n)) →
        sget memZero t.hub a = sget memZero s.hub a) ∧
      t.sram = s.sram ∧ t.hbm = s.hbm ∧
      (hwrStop s c r eccs port = none →
        t.now = max s.now ((hwrSent r).getD (movLines r.op - 1) s.now) ∧
        (core t c).movs = eraseFirst (fun q => q == r) (core s c).movs))

/-! ## The fabric -/

/-- FLIT_FORWARD of a head that meets R166 and finds room: it leaves its queue on every output at once, onto a wire to each
neighbour and onto the edge wire of an edge port. With the landing buffer full it is slip 0x01 or, under the spill rules,
waits (R83, R186); a head that may not go stays; and the one that leaves its switch empty ends a spill mode that was asked to
end (R185). FLIT_ARRIVE takes the wire, or into an L queue the line that a SEND read in the cycle before, and puts the flit at
the tail of its queue where link check, colour, seal, route and bound pass; another colour is an epoch fault of the partition
(R163, R165, R179, R183). The bound counts the queue as the cycle leaves it, without a head that departs in this cycle (log
entry 19: the model's reading); of several causes at one arrival the first is raised (log entry 84: the model's choice). Traffic into a frozen partition from outside it is dropped
and counted, and its credit returned (R423). -/
def Obligations.FlitsMove : Prop :=
  (∀ dt c ch p (s : State), (Instr.flitForward dt c ch p).wf = true → s.Canonical → switchRuns (elapse dt s) c = true →
    (couldGo (elapse dt s) c ch p = none → exec (.flitForward dt c ch p) s = .next (elapse dt s)) ∧
    (∀ r, ch ≠ .control → headOutputs (elapse dt s) c ch p = some r → outBit r.out .l = true →
      landingFull (core s c) ch = true → spillRules s c = true →
      exec (.flitForward dt c ch p) s = .next (elapse dt s)) ∧
    (∀ r, couldGo (elapse dt s) c ch p = some r → yields (elapse dt s) c ch p r = false →
      (ch ≠ .control → outBit r.out .l = true → landingFull (core s c) ch = true → spillRules s c = false →
        exec (.flitForward dt c ch p) s = .next
          (slip 5 c 17 (landingDetail ch r.flit) 1 c [partOf s c] (elapse dt s))) ∧
      ((ch = .control ∨ outBit r.out .l = false ∨ landingFull (core s c) ch = false) →
        ∃ t, exec (.flitForward dt c ch p) s = .next t ∧
          queueOf (core t c) (qCode ch p) = (queueOf (core s c) (qCode ch p)).drop 1 ∧
          t.fab.wires = s.fab.wires ++ ((portOrder.filter (outBit r.out)).filterMap fun o =>
            (neighbour c o).map fun d => ⟨d, ch, opposite o, r.flit, s.now + dt + (hopCycles c o).1⟩) ∧
          t.fab.edge = s.fab.edge ++ ((portOrder.filter (outBit r.out)).filterMap fun o =>
            if (neighbour c o).isNone && edgePort c o then some ⟨c, ch, r.flit, s.now + dt + 10⟩ else none) ∧
          ((core s c).spillExit = true → switchEmpty (core t c) = true → (core t c).spill = false) ∧
          t.sram = s.sram ∧ t.links = s.links))) ∧
  (∀ dt c ch p (y : Wire) (s u : State) n, (Instr.flitArrive dt c ch p .ok).wf = true → wireInto (elapse dt s) c ch p = some y →
    u = takeWire y (elapse dt s) → n = (queueOf (core s c) (qCode ch p)).length + 1 - bit01 (leavesNow u c ch p) →
    (((p = .l ∧ coreInReset s c = false) ∨ (p ≠ .l ∧ absorbed s c (neighbour c p) = .no)) →
      ((neighbour c p).isSome = true ∨ p = .l ∨ s.now + dt ≤ y.due) →
      (y.flit.colour = (core s c).colour → unsealed c (core s c) ch p = false → rNet (entryOf (core s c) y.flit) = netCode ch →
        (n ≤ rBound (entryOf (core s c) y.flit) ∨ spillRules s c = true) →
        exec (.flitArrive dt c ch p .ok) s = .next (setCore c (pushQueue (qCode ch p) n ⟨y.flit, s.now + dt⟩ (core s c)) u)) ∧
      (y.flit.colour ≠ (core s c).colour → exec (.flitArrive dt c ch p .ok) s = .next
        (raise 5 c 19 1 (epochDetail (qCode ch p) y.flit false) (.parts [partOf s c])
          (setCore c (pushQueue (qCode ch p) n ⟨y.flit, s.now + dt⟩ (core s c)) u)))) ∧
    (∀ q, p ≠ .l → absorbed s c (neighbour c p) = .part q → exec (.flitArrive dt c ch p .ok) s = .next
      (bump48 0x15 q 0x58 0 1 (some (5, 1)) (returnCredit c ch p u)))) ∧
  (∀ dt c ch (r : MovRun) (f : Flit) (s : State), (Instr.flitArrive dt c ch .l .ok).wf = true → s.Canonical →
    wireInto (elapse dt s) c ch .l = none → coreInReset s c = false → sendNext c ch (elapse dt s) = some (r, f) →
    (queueOf (core s c) (qCode ch .l)).length < 8 → (queueOf (core s c) (qCode ch .l)).length < rBound (entryOf (core s c) f) →
    rNet (entryOf (core s c) f) = netCode ch →
    ∃ t, exec (.flitArrive dt c ch .l .ok) s = .next t ∧
      queueOf (core t c) (qCode ch .l) = queueOf (core s c) (qCode ch .l) ++ [⟨f, s.now + dt⟩] ∧
      (core t c).movs = (core s c).movs.map (fun q => if q == r then { r with moved := r.moved + 1 } else q) ∧ t.sram = s.sram)

/-- CREDIT_RETURN adds one credit to its output, of 8 at most, or gives one back to the die at an edge attachment (R167);
TOKEN_ARRIVE makes the token current where the unit has none, or queues it (R174); SEAL_ARRIVE consumes the seal of an input, of
a neighbour or, 9 cycles after the swap, of a die at the edge (R182, R437); FLIT_LAND writes the oldest flit of a landing buffer
where its RECV or SRECV puts it (R168). Spill mode (R185 to R191): a request sets SW_CTL.spill and the mode, and is refused
where the partition runs; a write of 0 is always taken, and ends the mode in the first cycle in which every queue is empty. Of a
partition that is off none changes anything. SPILL_AREA_CLEAR empties the area. DEADLOCK_DETECT 4,096 cycles after the last dequeue counts the
deadlock and spills, which leaves the switch's queues empty. -/
def Obligations.CreditsTokensSealsAndSpills : Prop :=
  ((∀ dt c ch p y (s : State), (Instr.creditReturn dt c ch p).wf = true →
    (s.fab.credits.find? fun y => y.core == c && y.ch == ch && y.out == p && decide (y.due ≤ s.now + dt)) = some y →
    (p ≠ .l → exec (.creditReturn dt c ch p) s = .next (setCore c
      (setCredits ch p (min 8 (creditsOf (core s c) ch p + 1)) (core s c))
      { elapse dt s with fab := { s.fab with credits := eraseFirst (fun z => z == y) s.fab.credits } })) ∧
    (p = .l → exec (.creditReturn dt c ch p) s = .next { elapse dt s with fab := { s.fab with
      credits := eraseFirst (fun z => z == y) s.fab.credits,
      dieSpent := sset (fun _ => 0) s.fab.dieSpent (4 * c + chanCode ch)
        (sget (fun _ => 0) s.fab.dieSpent (4 * c + chanCode ch) - 1) } })) ∧
  (∀ dt c k y (s : State), (Instr.tokenArrive dt c k).wf = true → s.Canonical → coreInReset s c = false →
    (s.fab.toks.find? fun y => y.core == c && y.unit == k && decide (y.due ≤ s.now + dt)) = some y →
    y.flit.colour = (core s c).colour →
    (steerTok (core s c) k = none → (core s c).tokQ = [] → ∃ t, exec (.tokenArrive dt c k) s = .next t ∧
      (core t c).steer = (core s c).steer ++ [⟨k, y.flit, tokenOf y.flit / 2 + 1⟩] ∧ (core t c).tokQ = []) ∧
    ((steerTok (core s c) k).isSome = true → (tokQueue (core s c) k).length < 4 → ∃ t, exec (.tokenArrive dt c k) s = .next t ∧
      (core t c).steer = (core s c).steer ∧ tokQueue (core t c) k = tokQueue (core s c) k ++ [y.flit])) ∧
  (∀ dt c ch p late (s : State), (Instr.sealArrive dt c ch ⟨p, .ok⟩).wf = true → unsealed c (core s c) ch p = true →
    (core s c).lostSeals.getLsbD (qCode ch p) = false →
    ((neighbour c p = none ∧ edgePort c p = true ∧ late = 9) ∨ (∃ d, neighbour c p = some d ∧
      (core s d).colour = (core s c).colour ∧ late = if ridgeOf c = ridgeOf d then 1 else 5)) →
    s.sched.activeAt + late ≤ s.now + dt →
    exec (.sealArrive dt c ch ⟨p, .ok⟩) s = .next (setCore c { core s c with
      sealed := (core s c).sealed ||| BitVec.ofNat 20 (2 ^ qCode ch p),
      sealing := ((core s c).sealed ||| BitVec.ofNat 20 (2 ^ qCode ch p)) != BitVec.allOnes 20 } (elapse dt s))) ∧
  (∀ dt c ch f rest dest (s : State), (Instr.flitLand dt c ch).wf = true → landingOf (core s c) ch = f :: rest →
    f.at_ ≤ s.now + dt → coreInReset s c = false → landInto (core s c) ch f.flit = some dest →
    (ch = .scalar → exec (.flitLand dt c ch) s = .next (setCore c (landed dest (setSreg (movSreg (landState dest).1.word)
      (BitVec.ofNat 32 f.flit.payload.toNat) (setLanding ch rest (core s c)))) (elapse dt s))) ∧
    (ch ≠ .scalar → f.flit.last = ((landState dest).2 + 1 == movLines (landState dest).1) →
      exec (.flitLand dt c ch) s = .next (charge (iJob (landState dest).1.word) 4 1
        (setTileLine c (movDesc (landState dest).1) (landState dest).2 f.flit.payload
          (setCore c (landed dest (setLanding ch rest (core s c)))
            (noteSram c [dBase (movDesc (landState dest).1) + (landState dest).2] (elapse dt s)))))))) ∧
  (∀ src c eccs bank (s : State), fit (.spillModeRequest src c) s = true →
    (coreOff s c = false →
      (spillAllowed s c = true → exec (.spillModeRequest src c) s = .next (setReg 5 c 0x100 (setField (reg s 5 c 0x100) 0 0 1)
        (setCore c { core s c with
          spill := true, spillExit := false, lastDeq := if (core s c).spill then (core s c).lastDeq else s.now } s))) ∧
      (spillAllowed s c = false → exec (.spillModeRequest src c) s = .next (raiseCe 5 c 12 0 s)) ∧
      exec (.spillModeExit src c) s = .next (setReg 5 c 0x100 (setField (reg s 5 c 0x100) 0 0 0)
        (setCore c (if (core s c).spill && switchEmpty (core s c) then { core s c with spill := false, spillExit := false }
          else { core s c with spillExit := (core s c).spill }) s)) ∧
      ((core s c).spill = false → exec (.spillAreaClear src c) s = .next (setReg 5 c 0x154 0 s))) ∧
    (coreOff s c = true → ∀ i ∈ [Instr.spillModeRequest src c, .spillModeExit src c, .spillAreaClear src c],
      exec i s = .next s) ∧
    (∀ q f l, (core s c).spill = true → spillList (core s c) = (q, f) :: l → exec (.deadlockDetect ⟨c, eccs, bank⟩) s = .next
      (fillRemap (spill c eccs bank
        (bump48 5 c 0x138 0 1 none (raiseCe 5 c 20 q (passTo ((core s c).lastDeq + 4096) s)))))) ∧
    (∀ t : State, t.Canonical → (core (spill c eccs bank t) c).queues = [] ∧ (core (spill c eccs bank t) c).tokQ = []))

/-! ## Reduction -/

/-- REDUCE_DESCRIPTOR (R209): line 0 of a legal descriptor is kept, and line 1 opens its slot for the partition of the
core that sent it, for its job; a slot that another descriptor has opened between the two is busy (R212). REDUCE_CONTRIBUTION (R210): line 0 begins a unit, lines 1 and 2 are its scales, each of lines 3 to
65 is added and charged, and line 66 ends the contribution; a line whose slot is no longer active is a slot fault (R212). REDUCE_UNIT_DELIVER of a complete unit sends its 256 lines
to the delivery core, on the die's own credits (R167), and counts the unit, and a slot whose last unit it is ends once its last line has left (R209, R211). An element line adds, element
by element, in the order in which contributions arrive: the first contribution's values are the accumulator (R210). -/
def Obligations.ReductionUnitsAreSummed : Prop :=
  (∀ dt n k inp (i : RedInput) (line : RedLine) (s u : State) (x : RedEngine), (Instr.reduceDescriptor dt n k inp).wf = true →
    s.Canonical → nextLine (elapse dt s) n k inp = some (i, line) → x = popLine (s.now + dt) (inpKey inp) (engine (elapse dt s) n k) →
    u = setEngine n k x (elapse dt s) →
    (∀ h, i.parsed = 0 → h = redHdr line.payload → h.kind = 1 → line.last = false → h.rsvd = 0 → h.device = 0 →
      h.engine = k → isLinkIn inp = false → slotOf x h.slot = none → exec (.reduceDescriptor dt n k inp) s = .next
        (setEngine n k (setInput (inpKey inp) { inputOf x (inpKey inp) with hdr := line.payload, parsed := 1 } x) u)) ∧
    (∀ h, i.parsed ≠ 0 → h = redHdr i.hdr → h.kind = 1 → i.skip = false → line.last = true → (slotOf x h.slot).isSome = true →
      exec (.reduceDescriptor dt n k inp) s = .next (advance n k (inpKey inp) (redFault n k (inpKey inp) 2 0 h line.core u))) ∧
    (∀ h, i.parsed ≠ 0 → h = redHdr i.hdr → h.kind = 1 → i.skip = false → line.last = true → slotOf x h.slot = none →
      exec (.reduceDescriptor dt n k inp) s = .next (advance n k (inpKey inp) (setEngine n k { x with
        slots := x.slots ++ [⟨h.slot, partOf s line.core, h.unit + 1, BitVec.ofNat 6 h.route, h.plane, line.payload, [], [], [],
            false, none, line.job⟩] }
        u))) ∧
    (∀ h y, i.parsed = 0 → h = redHdr line.payload → h.kind = 0 → contribFault (s.now + dt) k x h line.last = none →
      slotOf x h.slot = some y → y.dead = false → y.bad.contains h.unit = false →
      exec (.reduceContribution dt n k inp) s = .next (contribBegin n k (inpKey inp) h line u)) ∧
    (∀ h, i.parsed ≠ 0 → h = redHdr i.hdr → h.kind = 0 → i.skip = false → slotOf x h.slot = none →
      exec (.reduceContribution dt n k inp) s = .next (advance n k (inpKey inp) (redFault n k (inpKey inp) 1 0 h line.core
        (setEngine n k (setInput (inpKey inp) { i with queue := i.queue.drop 1, skip := true } x) u)))) ∧
    (∀ h y z j, j = { i with queue := i.queue.drop 1 } → i.parsed ≠ 0 → h = redHdr i.hdr → h.kind = 0 → i.skip = false →
      slotOf x h.slot = some y → unitOf x h.slot h.unit = some z → line.last = (i.parsed == 2 || i.parsed == 66) →
      (i.parsed ≤ 2 → exec (.reduceContribution dt n k inp) s = .next (advance n k (inpKey inp)
        (setEngine n k (setInput (inpKey inp) { j with scales := j.scales ++ [line.payload] } x) u))) ∧
      (2 < i.parsed → i.parsed ≠ 66 → exec (.reduceContribution dt n k inp) s = .next (advance n k (inpKey inp)
        (chargeRed y (setEngine n k (setUnit (addElems z j (i.parsed - 3) line.payload) x) u)))) ∧
      (i.parsed = 66 → exec (.reduceContribution dt n k inp) s = .next (advance n k (inpKey inp) (contribEnd n k h inp
        (chargeRed y (setEngine n k (setUnit (addElems z j (i.parsed - 3) line.payload) x) u))))))) ∧
  ((∀ dt n k slot unit (y : RedSlot) (z : RedUnit) (s : State), (Instr.reduceUnitDeliver dt n k slot unit).wf = true →
    s.Canonical → slotOf (engine (elapse dt s) n k) slot = some y → unitOf (engine (elapse dt s) n k) slot unit = some z →
    z.complete = true →
    ∃ t, exec (.reduceUnitDeliver dt n k slot unit) s = .next t ∧ t.fab.wires = s.fab.wires ++ unitWires s n k y z ∧
      t.fab.dieSpent = sset (fun _ => 0) s.fab.dieSpent (4 * colCore n (2 * k) + bit01 y.plane)
        (sget (fun _ => 0) s.fab.dieSpent (4 * colCore n (2 * k) + bit01 y.plane) + 256) ∧
      (unitWires s n k y z).length = 256 ∧ t.sram = s.sram ∧
      (∀ q, slotOf (engine t n k) slot = some q → q.delivered = unit :: y.delivered ∧
        (y.delivered.length + 1 = y.units → ∃ e, q.endAt = some e ∧ z.doneAt + 279 ≤ e)) ∧
      (s.now + dt ≤ z.doneAt + 279 → (slotOf (engine t n k) slot).isSome = true)) ∧
  (∀ (u : RedUnit) (i : RedInput) (n : Nat) (l : Line) (j : Nat), j < 64 → swf (fun _ => (0 : Word)) u.acc = true →
    sget (fun _ => (0 : Word)) (addElems u i n l).acc (64 * n + j) =
      (if u.count = 0 then contribElem i n l j
       else fadd (sget (fun _ => (0 : Word)) u.acc (64 * n + j)) (contribElem i n l j))))

/-! ## Moves -/

/-- MOVE_ISSUE starts the next due entry that its engine may issue: the move is the engine's last, with its deadline,
and the hub lines of a move from HBM are PENDING (R233, Table 8.2). A move outside the windows of its job is refused
and freezes the engine (R232). MOVE_LINE_LAND of a line that is its engine's next work: a line of a move from HBM lands in its
hub line, which is READY again, and is charged and counted, and its read is no longer outstanding; a line of a move to HBM is
read from its READY hub line and written, unless its check finds it uncorrectable, which abandons the move (R227, R242, R245,
R248, Table 8.2). A line that HBM cannot correct, or a bridge on its path, abandons the move (R243, R250). A move whose lines
have all landed or been written completes: it leaves its engine and is counted (R233). DEADLINE_MISS at the move's last tick
abandons it as slip 0x03. A manual move starts only while no partition of its Ridges runs and its window check passes, makes
no line PENDING (Table 8.2), and completes alike (R236); a frozen or disabled engine issues none (Table 16.2), and the model
rejects it (log entry 89: the model's choice); a reset of the engine abandons its moves and releases its freeze (R237). The
digest of a commit record covers it as filled (log entry 62), a bridge's cause is raised by the Cirque that receives the line
(log entry 74), and a read that has landed is outstanding no more (log entry 25): the model's readings. -/
def Obligations.MovesRun : Prop :=
  (∀ c idx (m : MoveEnt) (s : State), (Instr.moveIssue c idx).wf = true → (moveList s c)[idx]? = some m →
    (reg s 6 c 8).getLsbD 0 = true → engineFrozen s c = false → issuedBelow s c ≤ idx →
    (∀ k < idx, issuedBelow s c ≤ k → ∀ e, (moveList s c)[k]? = some e → moveDue s e = false) → moveDue s m = true →
    (moveAllowed s c m.job m.toHbm m.hbm m.hub m.lines = true →
      (s.mem.moves.filter fun x => x.cirque == c && x.index.isSome).length < 256 →
      (m.toHbm = true ∨ ∀ i < m.lines, lineSt s c (m.hub + i) ≠ 1) →
      ∃ t, exec (.moveIssue c idx) s = .next t ∧ t.mem.moves = s.mem.moves ++
          [⟨c, some idx, m.job, m.toHbm, m.hbm, m.hub, m.lines, [], tickN s + BitVec.ofNat 64 m.deadline, 0⟩] ∧
        (m.toHbm = false → ∀ i < m.lines, lineSt t c (m.hub + i) = 1) ∧
        (m.toHbm = true → t.mem.lineSt = s.mem.lineSt) ∧ t.hub = s.hub ∧ t.hbm = s.hbm ∧ t.regs = s.regs) ∧
    (moveAllowed s c m.job m.toHbm m.hbm m.hub m.lines = false → exec (.moveIssue c idx) s = .next
      (raise 6 c 7 1 idx (.engine c) (markIssued c idx s)))) ∧
  (∀ dt c r i errs (m : Move) (s : State), (Instr.moveLineLand dt c r i ⟨errs, .ok⟩).wf = true → moveOf s c r = some m →
    i < m.lines → m.landed.contains i = false → worksOn s m = true →
    (∀ d u v, m.toHbm = false →
      hbmRead (m.hbm + 64 * i) errs (.parts (jobParts s m.job)) (chargeMove m.job 10 1 (elapse dt s)) = (some d, u) →
      (m.index.isSome = true ∨ lineSt u m.cirque (m.hub + i) ≠ 1) →
      v = noteHub m.cirque (m.hub + i)
        (setMove m { m with landed := m.landed ++ [i] } (returnReads m.cirque m.index [i] u)) →
      exec (.moveLineLand dt c r i ⟨errs, .ok⟩) s = .next (countLine m.cirque (chargeMove m.job 9 1
        (setLineSt m.cirque 0 [m.hub + i] { v with hub := memPut v.hub (2 ^ 26 * m.cirque + 64 * (m.hub + i)) d })))) ∧
    (∀ u, m.toHbm = false →
      hbmRead (m.hbm + 64 * i) errs (.parts (jobParts s m.job)) (chargeMove m.job 10 1 (elapse dt s)) = (none, u) →
      exec (.moveLineLand dt c r i ⟨errs, .ok⟩) s = .next (abandonMove m u)) ∧
    (∀ a d u v, m.toHbm = true → lineSt s m.cirque (m.hub + i) = 0 → wordErrors errs ≠ 2 →
      u = (if wordErrors errs = 1 then hubCheck m.cirque ((m.hub + i) % 256) false [] (elapse dt s) else elapse dt s) →
      d = fillCommit u m (memBytes u.hub (2 ^ 26 * m.cirque + 64 * (m.hub + i)) 64) → a = m.hbm + 64 * i →
      v = hbmParity (hbmPlace u a).1 (hbmPlace u a).2 errs u →
      exec (.moveLineLand dt c r i ⟨errs, .ok⟩) s = .next
        (setMove m { m with landed := m.landed ++ [i], digest := m.digest ^^^ lineDigest i d }
          (countLine m.cirque (chargeMove m.job 11 1 (chargeMove m.job 9 1
            (countHbmWrite (hbmPlace v a).1 (hbmWrite a d v))))))) ∧
    (m.toHbm = true → lineSt s m.cirque (m.hub + i) = 0 → wordErrors errs = 2 →
      exec (.moveLineLand dt c r i ⟨errs, .ok⟩) s = .next
        (hubCheck m.cirque ((m.hub + i) % 256) true (jobParts (elapse dt s) m.job) (abandonMove m (elapse dt s)))) ∧
    (m.toHbm = true → lineSt s m.cirque (m.hub + i) = 1 → exec (.moveLineLand dt c r i ⟨errs, .ok⟩) s = .next (elapse dt s)) ∧
    (∀ k q d, (movePath s m i)[k]? = some (q, d) → (m.toHbm = false ∨ lineSt s m.cirque (m.hub + i) ≠ 1) →
      exec (.moveLineLand dt c r i ⟨errs, .uncorrectable k⟩) s = .next
        (raise 6 q 11 1 d (.parts (jobParts s m.job)) (abandonMove m (elapse dt s))))) ∧
  ((∀ dt c idx (m : Move) (s : State), (Instr.moveComplete dt c idx).wf = true → moveOf s c (.entry idx) = some m →
    (tickN s).toNat < m.deadline.toNat → allLanded m = true →
    ∃ t, exec (.moveComplete dt c idx) s = .next t ∧ t.mem.moves = eraseFirst (fun x => x == m) s.mem.moves ∧
      t.hub = s.hub ∧ t.hbm = s.hbm ∧ t.sram = s.sram) ∧
  (∀ c idx (m : Move) (s : State), (Instr.deadlineMiss c idx).wf = true → moveOf s c (.entry idx) = some m →
    s.tick.running = true → m.deadline.toNat ≤ (tickN s).toNat →
    exec (.deadlineMiss c idx) s = .next (moveSlip c 8 idx m.job (abandonMove m s))) ∧
  (∀ src c (v : Word) a h n (s : State), fit (.manualMove src c v) s = true → v.getLsbD 0 = true →
    a = (rget64 s (regKey 6 c 0x70 0)).toNat → h = field (reg s 6 c 0x78) 19 0 → n = field (reg s 6 c 0x7C) 20 0 →
    (engineRuns s c = true → ridgesStill s c = true → moveOf s c .manual = none → a % 64 = 0 →
      moveAllowed s c (field v 4 2) (v.getLsbD 1) a h n = true →
      ∃ t, exec (.manualMove src c v) s = .next t ∧
        t.mem.moves = s.mem.moves ++ [⟨c, none, field v 4 2, v.getLsbD 1, a, h, n, [], 0, 0⟩] ∧
        t.mem.lineSt = s.mem.lineSt ∧ t.hub = s.hub ∧ t.hbm = s.hbm) ∧
    ((ridgesStill s c = false ∨ engineRuns s c = false) → exec (.manualMove src c v) s = .next (manualReject c s))) ∧
  (∀ dt c (m : Move) (s : State), (Instr.manualMoveComplete dt c).wf = true → moveOf s c .manual = some m →
    allLanded m = true →
    ∃ t, exec (.manualMoveComplete dt c) s = .next t ∧ t.mem.moves = eraseFirst (fun x => x == m) s.mem.moves ∧
      t.mem.mmDone = sset (fun _ => false) s.mem.mmDone c true ∧ t.hub = s.hub ∧ t.hbm = s.hbm) ∧
  (∀ src c (s : State), fit (.moveEngineReset src c) s = true →
    ∃ t, exec (.moveEngineReset src c) s = .next t ∧ (∀ m ∈ t.mem.moves, m.cirque ≠ c ∧ m ∈ s.mem.moves) ∧
      (∀ m ∈ s.mem.moves, m.cirque ≠ c → m ∈ t.mem.moves) ∧
      t.mem.engFrozen = sset (fun _ => false) s.mem.engFrozen c false))

/-! ## Windows, scrub and keys -/

/-- WINDOW_WRITE stores the register unless its window is enabled and in use, or the configuration it would produce breaks
R230; then nothing is stored and window_reject is raised (R230, R231). -/
def Obligations.WindowsAreChecked : Prop :=
  ∀ src w r (v : Word) (s t : State), fit (.windowWrite src w r v) s = true →
    t = setReg 6 (w / 32) (winOff w r) (if r = .attr then v &&& 0x7FFFFF else v &&& 0xFFFFFFF) s →
    ((window s w).enable = true → winBusy s (window s w) = true →
      exec (.windowWrite src w r v) s = .next (raiseCe 6 (w / 32) 12 (2 * (w % 32) + 64) s)) ∧
    (((window s w).enable = false ∨ winBusy s (window s w) = false) →
      ((window t w).enable = true → winValid s (window t w) = false →
        exec (.windowWrite src w r v) s = .next (raiseCe 6 (w / 32) 12 (2 * (w % 32)) s)) ∧
      (((window t w).enable = false ∨ winValid s (window t w) = true) → exec (.windowWrite src w r v) s = .next t))

/-- SCRUB_LINE reads the next line of its stack: a good line stays, a corrected one is written back and reported, and
an uncorrectable one is reported and stays (R242 to R244). SWEEP_LINE passes the next line of a controller's share: it
is re-encrypted under the current generation, or counted as skipped and left uncorrectable where HBM cannot correct it (R247).
SWEEP_FINISH, with every share passed, leaves the erase pending, with the reads then outstanding; KEY_ERASE erases the old
generation once none of them is left, and waits before (R248). Which reads are outstanding is log entry 25 (the model's
choice). -/
def Obligations.ScrubsAndSweepsRun : Prop :=
  (∀ dt k line errs (s u : State), (Instr.scrubLine dt k line errs).wf = true → (reg s 7 k 0x44).getLsbD 2 = true →
    (stackOf s k).trained = true → (stackOf s k).selfRefresh = false → (stackOf s k).scrubbed = line →
    u = countHbmRead k (hbmParity k line errs
      (setStack k { stackOf s k with scrubbed := (line + 1) % 2 ^ 29 } (elapse dt s))) →
    (∀ y, rsDecode (hbmSymbols u k line errs) = .good y → exec (.scrubLine dt k line errs) s = .next u) ∧
    (∀ y, rsDecode (hbmSymbols u k line errs) = .corrected y → exec (.scrubLine dt k line errs) s = .next
      (hbmCorrected k line (countHbmWrite k (putSymbols k line y u)))) ∧
    (rsDecode (hbmSymbols u k line errs) = .bad → exec (.scrubLine dt k line errs) s = .next
      (hbmUncorrectable (physOf u k line) k line true .none u))) ∧
  ((∀ dt k st errs (w : Sweep) g p (s u : State), (Instr.sweepLine dt k st (64 * g + p % 64) errs).wf = true →
    (keySlot s k).sweep = some w → p = sweepPassed w st → (sweepShare s w st)[p / 64]? = some g →
    u = countHbmRead st (hbmParity st (64 * g + p % 64) errs (setKeySlot k { keySlot s k with
      swept := if p % 64 = 63 then (keySlot s k).swept + 1 else (keySlot s k).swept,
      sweep := some { w with passed := sset (fun _ => 0) w.passed st (p + 1) } } (elapse dt s))) →
    (∀ y, rsDecode (hbmSymbols u st (64 * g + p % 64) errs) = .good y → exec (.sweepLine dt k st (64 * g + p % 64) errs) s =
      .next (reencrypt k st (64 * g + p % 64) y u)) ∧
    (∀ y, rsDecode (hbmSymbols u st (64 * g + p % 64) errs) = .corrected y →
      exec (.sweepLine dt k st (64 * g + p % 64) errs) s =
        .next (reencrypt k st (64 * g + p % 64) y (hbmCorrected st (64 * g + p % 64) u))) ∧
    (rsDecode (hbmSymbols u st (64 * g + p % 64) errs) = .bad → exec (.sweepLine dt k st (64 * g + p % 64) errs) s =
      .next (raiseCe 0x1C k 1 st (bump32 0x1C k 0x60 0 1 (some (2, 0))
        (putSymbols st (64 * g + p % 64) (hbmSymbols u st (64 * g + p % 64) errs) u))))) ∧
  (∀ dt k (w : Sweep) (s : State), (Instr.sweepFinish dt k).wf = true → (keySlot s k).sweep = some w →
    (∀ st < 24, sweepPassed w st = 64 * (sweepShare s w st).length) →
    exec (.sweepFinish dt k) s = .next (setKeySlot k { keySlot s k with
      sweep := none, switched := false, erasePending := true, oldReads := readsOut s k } (elapse dt s))) ∧
  (∀ dt k (s : State), (Instr.keyErase dt k).wf = true → (keySlot s k).erasePending = true →
    ((keySlot s k).oldReads = [] → exec (.keyErase dt k) s = .next (setReg 0x1C k (labelOff (!(keySlot s k).current)) 0
      (setKeySlot k { setGen (!(keySlot s k).current) none (keySlot s k) with erasePending := false } (elapse dt s)))) ∧
    ((keySlot s k).oldReads ≠ [] → exec (.keyErase dt k) s = .next (elapse dt s))))

/-- A line written to HBM is read with no error (R241, R242): the symbol code's check symbols make every syndrome 0. In no
encrypted window it reads back as it was written. In an encrypted one what is stored is its XTS-AES ciphertext under the current
generation of the window's slot, with that generation in its tag, and a read decrypts it with the generation that the tag
records, whichever is current by then (R245, R246). -/
def Obligations.HbmLinesReadBack : Prop :=
  ∀ (a : Nat) (d : List Byte) (s : State), s.Canonical → d.length = 64 →
    ((∀ w, windowHolding s a a = some w → w.encrypt = false) → ∀ t, t = hbmWrite a d s →
      rsDecode (hbmSymbols t (hbmPlace s a).1 (hbmPlace s a).2 []) = .good (withCheck (d.map BitVec.toNat) 0) ∧
      hbmPlain t a (withCheck (d.map BitVec.toNat) 0) = d) ∧
    (∀ w g e y, windowHolding s a a = some w → w.encrypt = true → g = (keySlot s w.slot).current →
      e = xtsEnc (keyBytes (keySlot s w.slot) g) (a / 64) d → y = withCheck (e.map BitVec.toNat) (2 + bit01 g) →
      rsDecode (hbmSymbols (hbmWrite a d s) (hbmPlace s a).1 (hbmPlace s a).2 []) = .good y ∧
      ∀ t, windowHolding t a a = some w → hbmPlain t a y = xtsDec (keyBytes (keySlot t w.slot) g) (a / 64) e)

/-- KEY_CMD (R246, R247, Table 8.14): LOAD fills the generation that holds no key and zeroes KEY_DATA; SWITCH makes the other
generation current; SWEEP starts over every HBM window of the slot; CLEAR erases both generations once no enabled window names
the slot. Each is rejected with its reason where the slot's state forbids it: LOAD with 1 where both generations are loaded and 3
during a sweep; SWITCH with 2 where the other generation is empty, 3 during a sweep and 5 with an erase pending; SWEEP with 4
where nothing was switched, 2 where the old generation is empty and 3 during a sweep; CLEAR with 6. Where several hold the first
of these is given (log entry 93: the model's choice). -/
def Obligations.KeyCommandsTakeEffect : Prop :=
  ∀ src k (s : State) (x : KeySlot), fit (.keyLoad src k) s = true → x = keySlot s k →
    (∀ g, g = (if genLoaded x x.current then !x.current else x.current) →
      (genLoaded x g = false → x.sweep = none → exec (.keyLoad src k) s = .next (zeroKeyData k
        (setReg 0x1C k (labelOff g) (reg s 0x1C k 0x48) (setKeySlot k (setGen g (some (keyData s k)) x) s)))) ∧
      (genLoaded x g = true → exec (.keyLoad src k) s = .next (keyReject k 1 1 s)) ∧
      (genLoaded x g = false → x.sweep.isSome = true → exec (.keyLoad src k) s = .next (keyReject k 1 3 s))) ∧
    (genLoaded x (!x.current) = true → x.sweep = none → x.erasePending = false → exec (.keySwitch src k) s = .next
      (setKeySlot k { x with current := !x.current, switched := true } s)) ∧
    (genLoaded x (!x.current) = false → exec (.keySwitch src k) s = .next (keyReject k 2 2 s)) ∧
    (genLoaded x (!x.current) = true → x.sweep.isSome = true → exec (.keySwitch src k) s = .next (keyReject k 2 3 s)) ∧
    (genLoaded x (!x.current) = true → x.sweep = none → x.erasePending = true →
      exec (.keySwitch src k) s = .next (keyReject k 2 5 s)) ∧
    (x.switched = true → genLoaded x (!x.current) = true → x.sweep = none → exec (.keySweep src k) s = .next
      (setKeySlot k { x with
        sweep := some ⟨((windowsNaming s k).filter fun w => !w.hub).map (·.idx), []⟩, swept := 0,
        total := ((windowsNaming s k).filter fun w => !w.hub).foldl (fun n w => n + (w.limit + 1 - w.base)) 0 } s)) ∧
    (x.switched = false → exec (.keySweep src k) s = .next (keyReject k 3 4 s)) ∧
    (x.switched = true → genLoaded x (!x.current) = false → exec (.keySweep src k) s = .next (keyReject k 3 2 s)) ∧
    (x.switched = true → genLoaded x (!x.current) = true → x.sweep.isSome = true →
      exec (.keySweep src k) s = .next (keyReject k 3 3 s)) ∧
    ((windowsNaming s k).isEmpty = true → exec (.keyClear src k) s = .next (setReg 0x1C k 0x4C 0 (setReg 0x1C k 0x50 0
      (setKeySlot k { x with g0 := none, g1 := none, current := false, erasePending := false, oldReads := [] } s)))) ∧
    ((windowsNaming s k).isEmpty = false → exec (.keyClear src k) s = .next (keyReject k 4 6 s))

/-! ## Links -/

/-- COL_TAKE takes the flit off its edge wire, returns the freed credit 10 cycles later, and queues the flit for its
link, to which the outbound queue keeps the order of R260; a frozen link drops it (R270). A flit for an engine reaches
its input queue (R207). TX_LATE takes the oldest flit that has waited 32 cycles out as slip 0x05 (R266).
LINK_FRAME_LAUNCH of a link in UP at its rate sends the next frame, keeps it for replay and charges each vector flit in it to its
job and to the partition of the core it came from (R257, R260, R267, Table 14.1); REPLAY_RELAUNCH sends the requested frame
again, once: unchanged, or without its scheduled slots where the link is frozen (R270), and charges nothing. Neither touches any
other link. That a frozen link also drops what its die would queue is log entry 45, how the relaunched frame is stripped is log
entry 74, and which job a flit counts for is log entry 20 (the model's readings). -/
def Obligations.FramesAreLaunched : Prop :=
  ((∀ dt c ch (y : EdgeWire) n i (s u : State), (Instr.colTake dt c ch).wf = true →
    (s.fab.edge.find? fun y => y.core == c && y.ch == ch && decide (y.due ≤ s.now + dt)) = some y → colOf c = some (n, i) →
    y.flit.isSeal = false →
    u = { elapse dt s with fab := { s.fab with
      edge := eraseFirst (fun z => z == y) s.fab.edge, credits := s.fab.credits ++ [⟨c, ch, edgeInput c, s.now + dt + 10⟩] } } →
    (y.flit.route.toNat < 48 → (link s (4 * n + i / 2)).frozen = false → (link s (4 * n + i / 2)).outQ.length < 64 →
      exec (.colTake dt c ch) s = .next (noteQHigh (4 * n + i / 2) (setLink (4 * n + i / 2) { link s (4 * n + i / 2) with
        outQ := txInsert ⟨⟨netHeader ch y.flit, slotKind ch, 0, false, slotPayload ch y.flit⟩, s.now + dt, c, y.flit.job⟩
          (link s (4 * n + i / 2)).outQ } u))) ∧
    (y.flit.route.toNat < 48 → (link s (4 * n + i / 2)).frozen = true → exec (.colTake dt c ch) s = .next
      (linkDrop (4 * n + i / 2) 1 u)) ∧
    (48 ≤ y.flit.route.toNat → exec (.colTake dt c ch) s = .next (engineArrive n (y.flit.route.toNat % 4) (.grid i)
      ⟨y.flit.job, y.flit.payload, y.flit.last, c⟩ u))) ∧
  (∀ dt l (y : TxSlot) (s : State), (Instr.txLate dt l).wf = true →
    ((link s l).outQ.find? fun y => decide (y.take + 32 ≤ s.now + dt)) = some y → exec (.txLate dt l) s = .next
      (colSlip l 2 (l % 4 + 4 * (y.slot.net.toNat % 64)) [partOf s y.core]
        (setLink l { link s l with outQ := eraseFirst (fun z => z == y) (link s l).outQ } (elapse dt s))))) ∧
  (∀ dt l (x : Link) (s : State), (Instr.linkFrameLaunch dt l).wf = true → s.Canonical → x = link s l →
    mayLaunch (elapse dt s) x = true →
    (∀ f fl sv, x.relaunch = none → (f, fl, sv) = nextFrame (elapse dt s) x →
      ∃ t, exec (.linkFrameLaunch dt l) s = .next t ∧ t.out = s.out ++ [.linkFrame l f] ∧
        link t l = { x with
          outQ := x.outQ.filter fun y => !fl.contains y, svcQ := x.svcQ.drop sv.length, faultFirst := false, txSeq := x.txSeq + 1,
          lastLaunch := s.now + dt, markSent := if f.mark then (tickN s).toNat + 1 else x.markSent,
          sent := ⟨f, s.now + dt, false⟩ :: keepSent (s.now + dt) x.sent } ∧
        t.energy = (chargeSlots fl s).energy ∧ ∀ k, k ≠ l → link t k = link s k) ∧
    (∀ q d y, x.relaunch = some (q, d) → d ≤ s.now + dt →
      ((keepSent (s.now + dt) x.sent).find? fun y => y.frame.seq == q && !y.replayed) = some y →
      ∃ t, exec (.replayRelaunch dt l) s = .next t ∧ 
        t.out = s.out ++ [.linkFrame l (if x.frozen then strippedFrame y.frame else y.frame)] ∧
        link t l = { x with
          relaunch := none, lastLaunch := s.now + dt,
          sent := x.sent.map fun z => if z == y then { z with replayed := true } else z } ∧
        t.energy = s.energy ∧ ∀ k, k ≠ l → link t k = link s k))

/-- LINK_FRAME_VERDICT on a link in UP (R259, R267, R268, R270): a frame that FEC leaves clean, with a right CRC and
in order, is judged good: its slots are checked, what the peer tells of itself is taken, on a frozen link too (R258, R270), and
its slots are accepted; one with a wrong CRC, or out of order, is counted and its replay requested, and a stray one leaves the
sequence where it was; the replay of an awaited frame is judged like any other, and is a slip where it is bad or comes too late
for a slot. That a bad frame has the place after the last good one, and what a stray one does, is log entry 27; the credits of a
die's inputs are log entry 45, and the job a delivered flit counts for log entry 20 (the model's readings). LINK_SLOT_DELIVER
(R261, R262): the earliest slot that is due leaves the elastic buffer and reaches its edge core nine cycles after it was due,
taking a credit, or its engine; a frozen link counts it as dropped (R270). -/
def Obligations.FramesAreJudged : Prop :=
  (∀ dt l (f : LinkFrame) (x : Link) (s u : State), (Instr.linkFrameVerdict dt l f .clean).wf = true → s.Canonical →
    x = link s l → x.st = 5 → u = setLink l { x with lastRx := s.now + dt } (elapse dt s) →
    (x.await.any (·.1 == f.seq) = false → f.crc = frameCrc f → (∀ q, x.rxSeq = some q → f.seq = q + 1) →
      ∃ v w, v = bump48 9 l 0x68 0 1 (some (8, 1)) u ∧
        w = setLink l { x with lastRx := s.now + dt, rxSeq := some f.seq } v ∧
        exec (.linkFrameVerdict dt l f .clean) s = .next (takeRequest l f (acceptSlots l f
          (if (f.slots.all fun y => !slotFaulty (link w l) y) = true ∧ frameIds f ≠ [] then
            pairCheck (takeIds l f (checkSlots l f w)) else checkSlots l f w)))) ∧
    (∀ p, x.await.any (·.1 == f.seq) = false → f.crc = frameCrc f → x.rxSeq = some p → f.seq ≠ p + 1 →
      ∃ v, v = bump32 9 l 0x88 0 1 (some (8, 6)) u ∧ exec (.linkFrameVerdict dt l f .clean) s = .next
        (raiseCe 9 l 1 f.seq.toNat (bump48 9 l 0x78 0 1 (some (8, 3))
          (setLink l { x with lastRx := s.now + dt, await := x.await ++ [(f.seq, s.now + dt)] } v)))) ∧
    (∀ q, x.await.any (·.1 == f.seq) = false → x.await.any (·.1 == q) = false → f.crc ≠ frameCrc f →
      q = (match x.rxSeq with | some p => p + 1 | none => f.seq) →
      ∃ v, v = bump32 9 l 0x88 0 1 (some (8, 6)) u ∧ exec (.linkFrameVerdict dt l f .clean) s = .next
        (raiseCe 9 l 1 q.toNat (bump48 9 l 0x78 0 1 (some (8, 3))
          (setLink l { x with lastRx := s.now + dt, await := x.await ++ [(q, s.now + dt)], rxSeq := some q } v)))) ∧
    (x.await.any (·.1 == f.seq) = true → f.crc ≠ frameCrc f →
      ∃ v, v = bump32 9 l 0x88 0 1 (some (8, 6)) u ∧ exec (.linkFrameVerdict dt l f .clean) s = .next
        (linkSlip l 2 f.seq.toNat
          (setLink l { x with lastRx := s.now + dt, await := x.await.filter (·.1 != f.seq) } v))) ∧
    (∀ w, x.await.any (·.1 == f.seq) = true → f.crc = frameCrc f →
      w = setLink l { x with
        lastRx := s.now + dt, await := x.await.filter (·.1 != f.seq),
        rxSeq := if x.rxSeq = some (f.seq - 1) then some f.seq else x.rxSeq } (bump48 9 l 0x68 0 1 (some (8, 1)) u) →
      (replayLate u l f = true →
        exec (.linkFrameVerdict dt l f .clean) s = .next (takeRequest l f (linkSlip l 2 f.seq.toNat w))) ∧
      (replayLate u l f = false → frameIds f = [] →
        exec (.linkFrameVerdict dt l f .clean) s = .next (takeRequest l f (acceptSlots l f (checkSlots l f w)))))) ∧
  (∀ dt l (y : RxSlot) (s u w : State) c r, (Instr.linkSlotDeliver dt l).wf = true → w = serviceDue l (elapse dt s) →
    dueSlot (s.now + dt) (link w l) = some y → r = (slotFlit y.slot).route.toNat →
    u = setLink l { link w l with elastic := eraseFirst (fun z => z == y) (link w l).elastic } w →
    ((link w l).frozen = true → exec (.linkSlotDeliver dt l) s = .next (linkDrop l 1 u)) ∧
    ((link w l).frozen = false → r < 32 → y.avail ≤ y.due → c = (if r < 16 then (linkCores l).1 else (linkCores l).2) →
      0 < dieCredit u c (kindChan y.slot.kind) → ∀ j v, j = jobOfPart u (partOf u c) →
      v = (if kindChan y.slot.kind = .v0 ∨ kindChan y.slot.kind = .v1 then chargeJob j 7 1 u else u) →
      exec (.linkSlotDeliver dt l) s = .next
        (addWire ⟨c, kindChan y.slot.kind, edgeInput c, { slotFlit y.slot with job := j }, y.due + 9⟩ { v with fab := { v.fab with
          dieSpent := sset (fun _ => 0) v.fab.dieSpent (4 * c + chanCode (kindChan y.slot.kind))
            (sget (fun _ => 0) v.fab.dieSpent (4 * c + chanCode (kindChan y.slot.kind)) + 1) } })) ∧
    ((link w l).frozen = false → r < 32 → y.avail ≤ y.due → c = (if r < 16 then (linkCores l).1 else (linkCores l).2) →
      dieCredit u c (kindChan y.slot.kind) = 0 → exec (.linkSlotDeliver dt l) s = .next
        (colSlip l 3 (l % 4 + 4 * r + 2 ^ 8) (lateParts u l y.slot) u)) ∧
    ((link w l).frozen = false → 32 ≤ r → r < 48 → y.avail ≤ y.due → exec (.linkSlotDeliver dt l) s = .next
      (engineArrive (l / 4) (r % 4) (.link (l % 4))
        ⟨none, (slotFlit y.slot).payload, (slotFlit y.slot).last, (linkCores l).1⟩ u)) ∧
    ((link w l).frozen = false → r < 48 → y.due < y.avail → exec (.linkSlotDeliver dt l) s = .next
      (colSlip l 3 (l % 4 + 4 * r) (lateParts u l y.slot) u)) ∧
    ((link w l).frozen = false → 48 ≤ r → exec (.linkSlotDeliver dt l) s = .next
      (raise 8 (l / 4) 0 1 (l % 4 + 4 * r) (.link l) u)))

/-- Training (R269, R271 to R275, R281): detect leads to EQUALISE and equalise to CHECK; the lane check notes the lanes that
pass, tells the peer and leads to NEGOTIATE, or fails where they give no width; negotiation measures this end's latency and tells
it too; what the peer told fails it at once where no width passes at both ends or its L8 differs, and with the peer's latency it
takes the widest width of the lanes that pass at both ends, and goes UP where both latencies meet R273, else fails; LINK_DOWN
takes the link down; a timeout fails it; a retrain, and a page reset, which also ends a freeze, start it afresh unless the link
is in use, when either raises retrain_busy and the freeze stays (log entry 49: the model's reading, as is the order in which the
failure reasons are judged). -/
def Obligations.LinksTrain : Prop :=
  (∀ dt l (s : State), (Instr.linkDetectDone dt l).wf = true → (link s l).st = 1 → exec (.linkDetectDone dt l) s = .next
    (setLinkState l 2 0 0 0 (elapse dt s))) ∧
  (∀ dt l (s : State), (Instr.linkEqualiseDone dt l).wf = true → (link s l).st = 2 → exec (.linkEqualiseDone dt l) s = .next
    (setLinkState l 3 0 0 0 (elapse dt s))) ∧
  (∀ dt l pass ok (s u : State), (Instr.linkCheckDone dt l pass).wf = true → (link s l).st = 3 →
    ok = pass &&& BitVec.ofNat 8 (field (reg s 9 l 0x44) 23 16) → u = setLink l { link s l with passed := ok } (elapse dt s) →
    ((widthOf ok ((reg s 9 l 0x44).getLsbD 24)).isSome = true →
      exec (.linkCheckDone dt l pass) s = .next (sendId l none (setLinkState l 4 0 0 0 u))) ∧
    (widthOf ok ((reg s 9 l 0x44).getLsbD 24) = none → exec (.linkCheckDone dt l pass) s = .next (trainFail l 2 u))) ∧
  (∀ dt l (n : Negotiation) m (s u v : State), (Instr.linkNegotiateDone dt l n).wf = true → s.Canonical →
    (link s l).st = 4 → m = ceilDiv n.roundTrip 2 + 2 →
    u = sendId l (some m) (setLink l { link s l with mIn := m } (elapse dt s)) →
    ((link s l).peerId = none → exec (.linkNegotiateDone dt l n) s = .next u) ∧
    (∀ (p : LinkId) ok, (link s l).peerId = some p → ok = (link s l).passed &&& p.lanes →
      (widthOf ok ((reg s 9 l 0x44).getLsbD 24) = none → exec (.linkNegotiateDone dt l n) s = .next (trainFail l 2 u)) ∧
      ((widthOf ok ((reg s 9 l 0x44).getLsbD 24)).isSome = true → p.l8 ≠ field (reg s 9 l 0x44) 11 0 →
        exec (.linkNegotiateDone dt l n) s = .next (trainFail l 3 u)) ∧
      ((widthOf ok ((reg s 9 l 0x44).getLsbD 24)).isSome = true → p.l8 = field (reg s 9 l 0x44) 11 0 → p.transit = none →
        exec (.linkNegotiateDone dt l n) s = .next u)) ∧
    (∀ (p : LinkId) tr ok, (link s l).peerId = some p → p.transit = some tr → ok = (link s l).passed &&& p.lanes →
      v = setLink l { link u l with mIn := m, mOut := tr, peerDevice := p.device, peerLink := p.link } u →
      (∀ w lanes lat, widthOf ok ((reg s 9 l 0x44).getLsbD 24) = some (w, lanes) →
        lat = field (reg s 9 l 0x44) 11 0 + widthDelta w →
        (p.l8 = field (reg s 9 l 0x44) 11 0 → lat + 44 < 2 * m + tr ∨ lat + 44 < 2 * tr + m →
          exec (.linkNegotiateDone dt l n) s = .next (trainFail l 4 v)) ∧
        (p.l8 = field (reg s 9 l 0x44) 11 0 → 2 * m + tr ≤ lat + 44 → 2 * tr + m ≤ lat + 44 →
          ∃ t, exec (.linkNegotiateDone dt l n) s = .next t ∧ (link t l).st = 5 ∧ (link t l).mIn = m ∧
            (link t l).mOut = tr ∧ (link t l).width = w ∧ (link t l).lanes = lanes ∧
            field (link t l).word 15 4 = lat % 2 ^ 12 ∧ ∀ k, k ≠ l → link t k = link s k)))) ∧
  (∀ dt l lane (s : State), (Instr.linkDown dt l lane).wf = true → (link s l).st = 5 → exec (.linkDown dt l lane) s = .next
    (setLinkState l 7 0 0 0 (raise 9 l 3 1 (lane % 8) .none (setLink l { link s l with missed := false } (elapse dt s))))) ∧
  (∀ dt l (s : State), (Instr.linkTrainTimeout dt l).wf = true → 1 ≤ (link s l).st → (link s l).st ≤ 4 →
    (link s l).since + 940000 * trainBound (link s l).st < s.now + dt → exec (.linkTrainTimeout dt l) s = .next
      (trainFail l (if (link s l).st = 1 then 1 else 5) (elapse dt s))) ∧
  (∀ src l (s : State), fit (.linkRetrain src l) s = true →
    (retrainBusy s l = none → exec (.linkRetrain src l) s = .next (startTraining l s) ∧
      exec (.linkPageReset src l) s = .next (startTraining l (setLink l { link s l with frozen := false } s))) ∧
    (∀ d, retrainBusy s l = some d → exec (.linkRetrain src l) s = .next (raiseCe 9 l 7 d s) ∧
      exec (.linkPageReset src l) s = .next (raiseCe 9 l 7 d s))) ∧
  (∀ l st w lanes word (s : State), s.Canonical → link (setLinkState l st w lanes word s) l =
    { link s l with st := st, width := w, lanes := lanes, word := word, since := s.now }) ∧
  (∀ l (s : State), s.Canonical → link (startTraining l s) l = { (link s l).fresh with
    st := 1, width := 0, lanes := 0, word := 0, since := s.now, trainFrom := s.now })

/-! ## The serving lane -/

/-- ETH_LINK_CHANGE of a provided interface of an enabled port changes the interface and is recorded (Table 10.13); where
nothing changes there is no effect. ETH_FRAME_RECEIVE (R284, R285): a frame on an interface that is down is not seen; an
uncorrectable code word, a wrong FCS and what MACsec refuses discard the frame, counted; a PTP event message goes to
Trotos with its timestamp, a register frame to the path, and a market frame that the filter takes to the parser. A frame shorter
than 60 bytes or longer than 9,212 is discarded too, and it and what MACsec refuses count in counter 8 (log entry 70: the
model's readings). -/
def Obligations.FramesAndLinkChangesArrive : Prop :=
  (∀ dt intf up (s : State), (Instr.ethLinkChange dt intf up).wf = true →
    ((reg s 0xB (intf / 4) 0x8).getLsbD 0 = true → intfProvided s intf = true → intfUp s intf ≠ up →
      exec (.ethLinkChange dt intf up) s = .next (raiseCe 0xB (intf / 4) 0 (intf % 4 + 4 * bit01 up)
        { elapse dt s with serve := { s.serve with ethUp := sset (fun _ => false) s.serve.ethUp intf up } })) ∧
    (intfUp s intf = up → exec (.ethLinkChange dt intf up) s = .next (elapse dt s))) ∧
  ∀ dt intf b st (s u : State), (Instr.ethFrameReceive dt intf b st).wf = true →
    u = ethCount (intf / 4) 6 st.fecCorrected (ethCount (intf / 4) 0 1 (elapse dt s)) →
    (intfUp s intf = false → exec (.ethFrameReceive dt intf b st) s = .next (elapse dt s)) ∧
    (intfUp s intf = true → 0 < st.fecUncorrectable → exec (.ethFrameReceive dt intf b st) s = .next
      (raiseCe 0xB (intf / 4) 1 (intf % 4) (ethCount (intf / 4) 7 st.fecUncorrectable u))) ∧
    (intfUp s intf = true → st.fecUncorrectable = 0 →
      (st.fcsOk = false → exec (.ethFrameReceive dt intf b st) s = .next (ethCount (intf / 4) 5 1 u)) ∧
      (st.fcsOk = true → (b.length < 60 ∨ 9212 < b.length) →
        exec (.ethFrameReceive dt intf b st) s = .next (ethCount (intf / 4) 8 1 u)) ∧
      (∀ c v h vlan l3 dst p, st.fcsOk = true → 60 ≤ b.length → b.length ≤ 9212 → macsecStage intf b u = (.pass c, v) →
        netOf c = (vlan, .udp l3 dst p) → h = ⟨intf, BitVec.ofNat 48 (beNat (bytesAt c 6 6)), vlan, l3⟩ →
        ((dstPort l3 = 319 ∨ dstPort l3 = 320) → exec (.ethFrameReceive dt intf b st) s = .next
          (emit (.ptp intf st.timestamp c) v)) ∧
        (¬(dstPort l3 = 319 ∨ dstPort l3 = 320) →
          (regFrameOn v h = true → exec (.ethFrameReceive dt intf b st) s = .next
            (queueFrame (regReqOf h p) (ethCount (intf / 4) 3 1 v))) ∧
          (∀ e, regFrameOn v h = false → roceOn v h = false → filterOf v intf l3 dst = some e →
            (reg v 0xC 0 0x8).getLsbD 0 = true →
            exec (.ethFrameReceive dt intf b st) s = .next (marketFrame intf e st.timestamp st.table st.looks p v)))) ∧
      (∀ v, st.fcsOk = true → 60 ≤ b.length → b.length ≤ 9212 →
        (macsecStage intf b u = (.refuse, v) → exec (.ethFrameReceive dt intf b st) s = .next (ethCount (intf / 4) 8 1 v)) ∧
        (macsecStage intf b u = (.icv, v) → exec (.ethFrameReceive dt intf b st) s = .next
          (raiseCe 0xF 0 5 intf (haCount 9 1 v)))))

/-- INSERT, MODIFY, DELETE and LOOKUP wait for the gather boundary with IN_SEL and IN_DATA as they stand, and a command while
busy is ignored and recorded; IN_READ and IN_WRITE act at once (R291, Table 10.4). JOIN queues an IDLE entry of a valid model
slot, and LEAVE marks one that is not IDLE (R298, R299); where error checking withholds the entry, neither does more than raise
table_ue (Table 10.10). The largest history of a join is log entry 68 (the model's choice). -/
def Obligations.ServingCommandsAct : Prop :=
  ∀ src (s : State),
    (∀ i n, (i, n) ∈ [(Instr.insert src, 3), (.modify src, 4), (.delete src, 5), (.lookup src, 6)] → fit i s = true →
      (s.serve.cmd = none → exec i s = .next { s with serve := { s.serve with
        cmd := some ⟨n, field (reg s 0xC 0 0x40) 18 4, inData s⟩ } }) ∧
      (s.serve.cmd ≠ none → exec i s = .next (raiseCe 0xC 0 0 n s))) ∧
    (∀ i t, i = field (reg s 0xC 0 0x40) 18 4 → t = field (reg s 0xC 0 0x40) 1 0 → s.serve.cmd = none →
      (fit (.inRead src) s = true →
        (∀ e, t = 3 → i < 32768 → mapEntry s i = some e → exec (.inRead src) s = .next
          (putInData 0 (entryWords e) (setResult true 0 i s))) ∧
        (t < 3 → i < tabSize t → exec (.inRead src) s = .next
          (putInData 0 ((List.range 8).map (tabWord s t i)) (setResult true 0 i s))) ∧
        (tabSize t ≤ i → exec (.inRead src) s = .next (inReject 1 6 s))) ∧
      (fit (.inWrite src) s = true →
        (t < 3 → i < tabSize t → tabEntryOk t (inData s) = true →
          exec (.inWrite src) s = .next (setResult true 0 i (putTab t i 0 (inData s) s))) ∧
        ((t = 3 ∨ tabSize t ≤ i ∨ tabEntryOk t (inData s) = false) →
          exec (.inWrite src) s = .next (inReject 2 6 s)))) ∧
    (∀ i e, i = field (reg s 0xE 0 0x5C) 14 0 → mapEntry s i = some e →
      (fit (.join ⟨src, .ok⟩) s = true → e.st = 0 → s.serve.joinQ.length < 256 → modelValid s e.slot = true →
        exec (.join ⟨src, .ok⟩) s = .next { s with serve := { s.serve with
          map := sset (fun _ => none) s.serve.map i (some { e with st := 1 }),
          joinQ := s.serve.joinQ ++ [⟨i, field (reg s 0xE 0 0x60) 19 0, min 4096 (field (reg s 0xE 0 0x64) 12 0), false⟩],
          joined := s.serve.joined ++ [i] } }) ∧
      (fit (.join ⟨src, .ok⟩) s = true → e.st ≠ 0 → exec (.join ⟨src, .ok⟩) s = .next (raiseCe 0xE 0 0 (1 + 16 * 2) s)) ∧
      (fit (.leave ⟨src, .ok⟩) s = true → e.st ≠ 0 → exec (.leave ⟨src, .ok⟩) s = .next { s with serve := { s.serve with
        map := sset (fun _ => none) s.serve.map i (some { e with leave := true }) } }) ∧
      (fit (.leave ⟨src, .ok⟩) s = true → e.st = 0 → exec (.leave ⟨src, .ok⟩) s = .next (raiseCe 0xE 0 0 (2 + 16 * 2) s))) ∧
    (∀ t, ∀ i ∈ [Instr.join ⟨src, .uncorrectable t⟩, .leave ⟨src, .uncorrectable t⟩], fit i s = true →
      exec i s = .next (raise 0xA 0 6 1 (t % 8) (.parts [0]) s))

/-- GATHER_BOUNDARY carries out the command that waits: an INSERT of a new pair takes the lowest free index, and a DELETE of
an IDLE or QUEUED entry removes it with its queued join (R291). With nothing else waiting it closes the step that is being
composed, whose header leaves, and opens the next one, empty (R292, R293, R296). The bound of 8 on the budget is log entry 68, and
that a step opens where part 0 is served and runs is log entry 67 (the model's readings). -/
def Obligations.GatherBoundariesAct : Prop :=
  ∀ s : State, (Instr.gatherBoundary).wf = true → s.tick.running = true → s.serve.nextStep ≤ stepOfNow s →
    (∀ c i x, s.serve.cmd = some c → c.code = 3 → x = entryOfData c.data → mapLookup s x.key x.feed = none →
      (List.range 32768).find? (fun i => (mapEntry s i).isNone) = some i → modelValid s x.slot = true →
      exec .gatherBoundary s = exec .gatherBoundary (setResult true 0 i { s with serve := { s.serve with
        cmd := none, map := sset (fun _ => none) s.serve.map i (some x) } })) ∧
    (∀ c e, s.serve.cmd = some c → c.code = 5 → mapEntry s c.index = some e → e.st ≤ 1 →
      exec .gatherBoundary s = exec .gatherBoundary (setResult true 0 c.index { s with serve := { s.serve with
        cmd := none, map := sset (fun _ => none) s.serve.map c.index none,
        joinQ := s.serve.joinQ.filter fun j => j.entry != c.index } })) ∧
    (∀ r0 sv, s.serve.cmd = none → s.serve.lateLooks = [] → s.serve.modelPend = [] → s.serve.joinQ = [] → s.serve.joining = [] →
      s.serve.carry = [] → (∀ e ∈ mapEntries s, e.2.leave = false) → s.sched.st ≠ 3 → composing s = true →
      r0 = ⟨stepOfNow s, portCores s, field (reg s 0xE 0 0x44) 12 0, [], 0, 0⟩ →
      sv = { s.serve with
        nextStep := stepOfNow s + 1, joined := [], budget := min 8 (field (reg s 0xE 0 0x40) 3 0), freed := [] } →
      (s.serve.comp = none → exec .gatherBoundary s = .next { s with serve := { sv with comp := some r0 } }) ∧
      (∀ r, s.serve.comp = some r → r.step < stepOfNow s →
        ∃ t, exec .gatherBoundary s = .next t ∧ t.serve = { sv with
          comp := some r0, first := false, firstTick := if s.serve.first then r.step + 1 else s.serve.firstTick,
          headers := s.serve.headers ++ [⟨r.step, r.ports, r.base + r.step % 8 * areaLines r.ports,
            BitVec.ofNat 512 (r.step % 2 ^ 64 + 2 ^ 64 * r.slots.length + 2 ^ 72 * r.carried + 2 ^ 80 * r.chunks +
              2 ^ 88 * (bit01 s.serve.first + 2 * bit01 ((reg s 0xE 0 0x74).getLsbD 4))),
            (field (reg s 0xE 0 0x40) 12 4 + r.step % 8) % 512⟩] }))

/-- The writes of the SERVE, EGRESS and PORT pages (R294, R305, R307, R311, R313, R317): SRV_MODEL waits for the gather
boundary (log entry 68: the model's choice); SRV_GATHER and the feed area stand where they lie within bounds, else they are refused and recorded; SRV_PAIR clears the take; EG_DATA writes the staging word, at word 80 marks the template for
the next tick boundary, and advances EG_SEL; PORT_TOD_CTL.set waits for the tick boundary. -/
def Obligations.ServingRegistersAreWritten : Prop :=
  ∀ src (s : State),
    (∀ v slot, fit (.srvModelWrite src v) s = true → slot = field (reg s 0xE 0 0x54) 11 0 →
      exec (.srvModelWrite src v) s = .next { s with serve := { s.serve with
        modelPend := s.serve.modelPend.filter (fun e => e.1 != slot) ++ [(slot, BitVec.ofNat 32 (v.toNat % 256))] } }) ∧
    (∀ v, fit (.srvGatherWrite src v) s = true → exec (.srvGatherWrite src v) s = .next
      (if 7168 ≤ field v 12 0 ∧ field v 12 0 + 8 * areaLines (portCores s) ≤ 7304
       then setReg 0xE 0 0x44 (BitVec.ofNat 32 (field v 12 0)) s else raiseCe 0xE 0 0 (16 * 7) s)) ∧
    (∀ v, fit (.feedGeomWrite src true v) s = true → exec (.feedGeomWrite src true v) s = .next
      (if field (reg s 0xE 0 0x4C) 19 0 + (field v 7 0 + 1) * (1 + 2 * field v 22 8) ≤ 1048576
       then setReg 0xE 0 0x50 (BitVec.ofNat 32 (field v 22 0)) s else raiseCe 0xE 0 0 (16 * 6) s)) ∧
    (∀ v nb rb, fit (.feedGeomWrite src false v) s = true → (nb, rb) = feedGeom (reg s 0xE 0 0x50) →
      exec (.feedGeomWrite src false v) s = .next
        (if field v 19 0 + nb * (1 + 2 * rb) ≤ 1048576 then setReg 0xE 0 0x4C (BitVec.ofNat 32 (field v 19 0)) s
         else raiseCe 0xE 0 0 (16 * 6) s)) ∧
    (∀ v, fit (.srvPairWrite src v) s = true → (∀ x ∈ s.serve.fills, s.now < x.due) →
      exec (.srvPairWrite src v) s = .next (pairCheck (tellPairing (rset64 (regKey 0xE 0 0x78 0) 0
        (setReg 0xE 0 0x74 (BitVec.ofNat 32 (field v 1 0))
          { s with pair := { s.pair with taken := false, takePending := false } }))))) ∧
    (∀ v t w, fit (.egDataWrite src v) s = true → t = field (reg s 0xD 0 0x40) 9 0 → w = field (reg s 0xD 0 0x40) 22 16 →
      (w < 80 → exec (.egDataWrite src v) s = .next (setReg 0xD 0 0x40 (setField (reg s 0xD 0 0x40) 22 16 (w + 1))
        { s with serve := { s.serve with tplStage := sset (fun _ => 0) s.serve.tplStage (82 * t + w) v } })) ∧
      (w = 80 → t ∉ s.serve.tplPend →
        exec (.egDataWrite src v) s = .next (setReg 0xD 0 0x40 (setField (reg s 0xD 0 0x40) 22 16 81)
          { s with serve := { s.serve with
            tplStage := sset (fun _ => 0) s.serve.tplStage (82 * t + 80) v, tplPend := s.serve.tplPend ++ [t] } })) ∧
      (w = 81 → exec (.egDataWrite src v) s = .next (setReg 0xD 0 0x40 (setField (reg s 0xD 0 0x40) 22 16 0)
        { s with serve := { s.serve with tpl := sset (fun _ => 0) s.serve.tpl (82 * t + 81) v } }))) ∧
    (∀ v, fit (.todSet src v) s = true → exec (.todSet src v) s = .next
      { s with serve := { s.serve with todPend := if v.getLsbD 0 then true else s.serve.todPend } })

/-- SRV_CUR_WRITE (R309): the cursor takes the value only while partition 0 is frozen, in reset or unassigned; otherwise the
write is ignored and raises cmd_ignored. -/
def Obligations.CursorIsWrittenOnlyWhileStill : Prop :=
  ∀ src v (s : State), fit (.srvCurWrite src v) s = true →
    ((assigned s = false ∨ partFrozen s 0 = true ∨ partInReset s 0 = true) →
      exec (.srvCurWrite src v) s = .next (rset64 (regKey 0xE 0 0x80 0) v s)) ∧
    (assigned s = true → partFrozen s 0 = false → partInReset s 0 = false →
      exec (.srvCurWrite src v) s = .next (raiseCe 0xE 0 4 0 s))

/-- EVENT_LAND puts the meta line and the feature line of the oldest lines due into their edge core (R294), and is a slip
of the crossing where it comes later than their cycle (R38); lines that error checking withholds raise table_ue and do not land
(Table 10.10); STEP_HEADER_LAND
lands the header of the oldest step whose lines have all landed (R296). RESULT_LINE takes a flit from an attachment core and
returns its credit 10 cycles later; a decision line of a template that builds a frame enters fill with the template as it
stands, and reaches the MAC 48 cycles later; one whose decision bit is 0 builds none (R302, R305). DECISION_FRAME_TRANSMIT
sends the oldest frame of its interface, and host frames that waited follow the last one (R306); without MACsec a frame
leaves as it is, counted. The 48 cycles, and which frame the host frames follow, are log entry 69 (the model's choices). -/
def Obligations.LinesLandAndDecisionsLeave : Prop :=
  (∀ dt (g : GatherLine) (s u : State), (Instr.eventLand ⟨dt, .ok⟩).wf = true →
    (s.serve.landing.find? fun g => decide (g.due ≤ s.now + dt)) = some g →
    u = { elapse dt s with serve := { s.serve with
      landing := eraseFirst (fun h => h == g) s.serve.landing,
      edgeFree := (sset (fun _ => 0) s.serve.edgeFree g.core (g.due + 1)) } } →
    (absorbed (elapse dt s) g.core none = .no → exec (.eventLand ⟨dt, .ok⟩) s = .next (chargeGather 2
      (setGatherLine g.core (g.line + 1) g.feature (setGatherLine g.core g.line g.head
        (noteSram g.core [g.line, g.line + 1] (if g.due < s.now + dt then crossingLate g.core 0x26 u else u)))))) ∧
    (∀ t, exec (.eventLand ⟨dt, .uncorrectable t⟩) s = .next (raise 0xA 0 6 1 (t % 8) (.parts [0]) u))) ∧
  (∀ dt (h : HeaderLine) (s : State), (Instr.stepHeaderLand dt).wf = true →
    (s.serve.headers.find? fun h => !s.serve.landing.any fun g => g.step == h.step) = some h →
    exec (.stepHeaderLand dt) s = .next (landHeader h ((List.range h.ports).map (16 + ·))
      { elapse dt s with serve := { s.serve with headers := eraseFirst (fun x => x == h) s.serve.headers } })) ∧
  (∀ dt c ch (y : EdgeWire) (s u v : State), (Instr.resultLine dt c ch .ok .ok).wf = true →
    (s.fab.edge.find? fun y => y.core == c && y.ch == ch && decide (y.due ≤ s.now + dt)) = some y →
    usedAttachment s c = true → stopsResults s = false → (∀ x ∈ s.serve.fills, s.now + dt < x.due) → y.flit.isSeal = false →
    u = { elapse dt s with fab := { s.fab with
      edge := eraseFirst (fun z => z == y) s.fab.edge, credits := s.fab.credits ++ [⟨c, ch, .n, s.now + dt + 10⟩] } } →
    v = egCount 0 1 (chargePart 0 14 1 (match y.flit.job with | some j => charge j 14 1 u | none => u)) →
    ((ch = .scalar ∨ ch = .control) → exec (.resultLine dt c ch .ok .ok) s = .next (egCount 5 1 u)) ∧
    (ch ≠ .scalar → ch ≠ .control → (reg v 0xD 0 0x8).getLsbD 0 = true →
      (bitOf y.flit.payload.toNat 15 = false → exec (.resultLine dt c ch .ok .ok) s = .next (egCount 2 1 v)) ∧
      (∀ t, t = y.flit.payload.toNat % 1024 → bitOf y.flit.payload.toNat 15 = true → templateFault v t = none →
        exec (.resultLine dt c ch .ok .ok) s = .next
          (setTpl t 81 (tplWord v t 81 + BitVec.ofNat 32 (seqUses ((List.range 81).map (tplWord v t))))
            { v with serve := { v.serve with fills := v.serve.fills ++
              [⟨v.now + 48, (List.range 81).map (tplWord v t), tplWord v t 81, y.flit.payload⟩] } })))) ∧
  (∀ dt intf f rest (s u : State), (Instr.decisionFrameTransmit dt intf).wf = true → intfSends s intf = true →
    (∀ x ∈ s.serve.fills, s.now + dt < x.due) → sget (fun _ => []) s.serve.tx intf = f :: rest →
    u = ethCount (intf / 4) 4 1 (launchFrame intf f
      { elapse dt s with serve := { s.serve with tx := sset (fun _ => []) s.serve.tx intf rest } }) →
    (rest ≠ [] → exec (.decisionFrameTransmit dt intf) s = .next u) ∧
    (rest = [] → exec (.decisionFrameTransmit dt intf) s = .next (launchHost intf (sget (fun _ => []) u.serve.txHost intf)
      { u with serve := { u.serve with txHost := sset (fun _ => []) u.serve.txHost intf [] } }))) ∧
  (∀ intf f (s : State), macsecOn s intf = false →
    launchFrame intf f s = ethCount (intf / 4) 1 1 { s with out := s.out ++ [.frame intf f] })

/-! ## Host access -/

/-- READ, WRITE, RMW, BLOCK_READ, SYNC and EVENT_ACK of the request at the head of the register path, or of one that arrives
while none waits on an interface that takes register frames, from a source that is accepted, not frozen and has its rights
(R319 to R323, R329): a request of the expected seq is performed and answered with the status and the words it gives, and uses
its seq; SYNC synchronizes the source at any seq; EVENT_ACK of the pending event frame marks its entries read and advances
event_seq, unanswered. A row sent with an empty path counts the Ethernet frame it would have come in (log entry 32), a block or an
RMW is performed within its command (log entry 36), and which requests use a seq and count is log entry 37: the model's
readings. -/
def Obligations.RegisterFramesArePerformed : Prop :=
  ∀ dt (q : RegReq) n (s u v : State),
    ((∃ e rest, s.host.path = e :: rest ∧ e.q = q ∧ e.sideband = false ∧
        u = { elapse dt s with host := { s.host with path := rest } }) ∨
      (s.host.path = [] ∧ intfSends s q.hdr.intf = true ∧ regFrameOn s q.hdr = true ∧
        u = ethCount (q.hdr.intf / 4) 3 1 (ethCount (q.hdr.intf / 4) 0 1 (elapse dt s)))) →
    matchSource u q.hdr = some n → unprotectedIntf u q.hdr.intf = false → (sourceSt u n).frozen = false →
    malformed q = false → v = haCount 0 1 (setSource n { sourceSt u n with expected := q.seq + 1 } u) →
    ((sourceSt u n).synced = true → (sourceSt u n).expected = q.seq → allowed (sourceRights u n) q = true →
      (q.op = 1 → (Instr.read dt q).wf = true →
        (∀ x w, regRead (.frame n) q.addr v = (0, x, w) →
          exec (.read dt q) s = .next (reply n q ⟨0, [x]⟩ (storeReply n q ⟨0, [x]⟩ w))) ∧
        (∀ st x w, st ≠ 0 → regRead (.frame n) q.addr v = (st, x, w) →
          exec (.read dt q) s = .next (reply n q ⟨st, []⟩ (storeReply n q ⟨st, []⟩ w)))) ∧
      (q.op = 2 → (Instr.write dt q).wf = true → ∀ st w, regWrite (.frame n) q.addr q.value v = (st, w) →
        exec (.write dt q) s = .next (reply n q ⟨st, []⟩ (storeReply n q ⟨st, []⟩ w))) ∧
      (q.op = 3 → (Instr.rmw dt q).wf = true → ∀ old w st x, regRead (.frame n) q.addr v = (0, old, w) →
        regWrite (.frame n) q.addr ((old &&& ~~~q.mask) ||| (q.value &&& q.mask)) w = (st, x) →
        exec (.rmw dt q) s = .next (reply n q ⟨st, [old]⟩ (storeReply n q ⟨st, [old]⟩ x))) ∧
      (q.op = 4 → (Instr.blockRead dt q).wf = true → ∀ r w, readBlock (.frame n) q.count.toNat q.addr v = (r, w) →
        exec (.blockRead dt q) s = .next (reply n q r (storeReply n q r w)))) ∧
    (q.op = 5 → (Instr.sync dt q).wf = true → exec (.sync dt q) s = .next (reply n q ⟨0, []⟩
      (setSource n { sourceSt u n with synced := true, expected := q.seq + 1, stored := none } u))) ∧
    (∀ f, q.op = 7 → (Instr.eventAck dt q).wf = true → u.host.evtFrame = some f → q.seq = u.host.evtSeq →
      exec (.eventAck dt q) s = .next { u with
        host := { u.host with
          evtNext := f.first + BitVec.ofNat 32 f.count, evtSeq := u.host.evtSeq + 1, evtFrame := none, evtStalled := false },
        faults := { u.faults with log := u.faults.log.map (markRead f.first f.count) } })

/-- What answers a request that is not performed (R320, R322, R323, R333): a frame of no source is dropped, counted and
recorded; an unprotected interface gets 0x07; a frozen source 0x06; a malformed request 0x05; one before SYNC, or ahead of the
expected seq, 0x04 with the expected seq; an older one nothing; the last request again gets its stored response; one without
its rights gets 0x03 and freezes the source. None performs an access. The seq and the counter of each refusal are log entry 37 (the
model's choices). -/
def Obligations.RegisterFramesAreRefused : Prop :=
  ∀ i op dt (q : RegReq) e rest (s u : State),
    (i, op) ∈ [(Instr.read dt q, 1), (.write dt q, 2), (.rmw dt q, 3), (.blockRead dt q, 4)] →
    q.op = op → i.wf = true → s.host.path = e :: rest → e.q = q → e.sideband = false →
    u = { elapse dt s with host := { s.host with path := rest } } →
    (matchSource s q.hdr = none → exec i s = .next (raiseCe 0xF 0 1 q.hdr.intf (haCount 1 1 u))) ∧
    (∀ n, matchSource s q.hdr = some n →
      (unprotectedIntf s q.hdr.intf = true → openUnprotected q = false →
        exec i s = .next (reply n q ⟨7, []⟩ (haCount 8 1 u))) ∧
      (unprotectedIntf s q.hdr.intf = false →
        ((sourceSt s n).frozen = true → exec i s = .next (reply n q ⟨6, []⟩ (haCount 4 1 u))) ∧
        ((sourceSt s n).frozen = false → malformed q = true → exec i s = .next (reply n q ⟨5, []⟩ u)) ∧
        (∀ x, x = sourceSt s n → x.frozen = false → malformed q = false →
          (x.synced = false → (q.seq - x.expected).toNat < 2 ^ 31 →
            exec i s = .next (reply n q ⟨4, [x.expected]⟩ (haCount 2 1 u))) ∧
          (x.synced = true → 0 < (q.seq - x.expected).toNat → (q.seq - x.expected).toNat < 2 ^ 31 →
            exec i s = .next (reply n q ⟨4, [x.expected]⟩ (haCount 2 1 u))) ∧
          (2 ^ 31 ≤ (q.seq - x.expected).toNat → (x.synced = false ∨ q.seq + 1 ≠ x.expected) →
            exec i s = .next (haCount 2 1 u)) ∧
          (∀ b, x.synced = true → q.seq + 1 = x.expected → x.stored = some b →
            exec i s = .next (sendFrame q.hdr.intf (answerBytes u q.hdr b) (haCount 3 1 u))) ∧
          (x.synced = true → q.seq = x.expected → allowed (sourceRights s n) q = false →
            exec i s = .next (reply n q ⟨3, []⟩ (storeReply n q ⟨3, []⟩
              (raise 0xF 0 0 1 n (.source n) (setSource n { x with expected := q.seq + 1 } u))))))))

/-- SIDEBAND_REGISTER_FRAME, in its turn on the register path (R321), is performed with the sideband's rights, without a
source and without a seq check, and answered over the sideband; a malformed one gets 0x05 (R334); behind other requests it
waits. The other messages of R334 come by the same row (log entry 91: the model's choice): a numeric sensor is read once the
device is up, and the endpoint ID and terminus ID are set and told. That nothing but rights is checked, and that SYNC is answered
there, is log entry 39 (the model's choice). BUDGET_EFFECTER sets ENG_BUDGET, its power clamped to the package limit (R391). SOURCE_RESET clears the source's freeze,
seq and stored response (R323). -/
def Obligations.SidebandAndSourceCommandsAct : Prop :=
  (∀ dt (q : RegReq) (s : State), (Instr.sidebandRegisterFrame dt (.registerFrame q)).wf = true → s.dev.up = true →
    (∀ u, ((s.host.path = [] ∧ u = elapse dt s) ∨ (∃ e rest, s.host.path = e :: rest ∧ e.q = q ∧ e.sideband = true ∧
        u = { elapse dt s with host := { s.host with path := rest } })) →
      (malformed q = true → exec (.sidebandRegisterFrame dt (.registerFrame q)) s = .next (emit (.sideband (replyBody q ⟨5, []⟩)) u)) ∧
      (∀ r w, malformed q = false → q.op ≠ 7 → allowed ⟨true, true, false, true⟩ q = true → doOp .sideband q u = (r, w) →
        exec (.sidebandRegisterFrame dt (.registerFrame q)) s = .next (emit (.sideband (replyBody q r)) w)) ∧
      (malformed q = false → q.op ≠ 7 → allowed ⟨true, true, false, true⟩ q = false →
        exec (.sidebandRegisterFrame dt (.registerFrame q)) s = .next (emit (.sideband (replyBody q ⟨3, []⟩)) u))) ∧
    (s.host.path ≠ [] → (∀ e ∈ s.host.path, ¬(e.q = q ∧ e.sideband = true)) →
      exec (.sidebandRegisterFrame dt (.registerFrame q)) s = .next
        { elapse dt s with host := { s.host with path := pathInsert ⟨q, true, s.now + dt⟩ s.host.path } })) ∧
  (∀ dt b (x : Sensor) (s : State), (Instr.sidebandRegisterFrame dt (.readSensor x)).wf = true →
    (s.dev.up = true → exec (.sidebandRegisterFrame dt (.readSensor x)) s = .next
      { elapse dt s with out := s.out ++ [.sidebandValue (sensorReading s x)] }) ∧
    exec (.sidebandRegisterFrame dt (.setEndpointId b)) s = .next { elapse dt s with host := { s.host with eid := b } } ∧
    exec (.sidebandRegisterFrame dt .getEndpointId) s = .next
      { elapse dt s with out := s.out ++ [.sidebandValue s.host.eid.toNat] } ∧
    exec (.sidebandRegisterFrame dt (.setTid b)) s = .next { elapse dt s with host := { s.host with tid := b } } ∧
    exec (.sidebandRegisterFrame dt .getTid) s = .next
      { elapse dt s with out := s.out ++ [.sidebandValue s.host.tid.toNat] }) ∧
  (∀ w f (s : State), (Instr.budgetEffecter w f).wf = true → exec (.budgetEffecter w f) s = .next
    (setReg 0x12 0 0x40 (BitVec.ofNat 32 (min w (if variantH s then 3800 else 4400) + 2 ^ 16 * min f 4096)) s)) ∧
  ∀ src n (s : State), fit (.sourceReset src n) s = true → exec (.sourceReset src n) s = .next
    { s with host := { s.host with sources := (sset (fun _ => SourceSt.reset) s.host.sources n
      { sourceSt s n with frozen := false, synced := false, expected := 0, stored := none }) } }

/-- RDMA (R324 to R327): a packet of a WRITE or a READ request on an interface that takes RoCEv2, of the expected PSN and
passing every check of R326, is performed, and one that fails a check gets one NAK and freezes its queue pair; a duplicate
WRITE packet is acknowledged and not written, and one of an unsupported operation fails its check even so; packets of another
kind or ICRC are discarded, counted. RDMA_WRITE_ACK acknowledges the oldest WRITE, and duplicates that waited for it, and advances
the MSN; QP_RESET returns the queue pair to RESET. When acknowledgements leave and what a duplicate is told is log entry 71, and
what the packets hold is log entry 77 (the model's readings). -/
def Obligations.RdmaMessagesArePerformed : Prop :=
  (∀ dt m n errs (s a u : State), intfSends s m.hdr.intf = true → roceOn s m.hdr = true →
    a = ethCount (m.hdr.intf / 4) 3 1 (ethCount (m.hdr.intf / 4) 0 1 (elapse dt s)) →
    unprotectedIntf a m.hdr.intf = false → m.qpn = n + 2 → n < 1024 → u = qpCount n 0 1 a →
    (m.icrcOk = false → (Instr.rdmaWrite dt ⟨m, errs⟩).wf = true → exec (.rdmaWrite dt ⟨m, errs⟩) s = .next (qpCount n 7 1 u)) ∧
    (m.icrcOk = true → (Instr.rdmaWrite dt ⟨m, errs⟩).wf = true → (qpState u n ≠ 1 ∨ m.op = .discarded ∨ m.pkey ≠ 0xFFFF) →
      exec (.rdmaWrite dt ⟨m, errs⟩) s = .next (qpCount n 5 1 u)) ∧
    (m.icrcOk = true → m.ce = false → m.pkey = 0xFFFF → qpState u n = 1 →
      ((Instr.rdmaWrite dt ⟨m, errs⟩).wf = true → opBegins m.op = true ∨ m.op = .writeMiddle ∨ m.op = .writeLast →
        (∀ w, psnPlace u n m.psn = .expected → opBegins m.op = true → (qpSt u n).writing = none →
          w = ⟨m.psn, m.va.toNat, m.length, []⟩ →
          (rdmaCheck u n true m = 0 → writeFits u n m w = true → exec (.rdmaWrite dt ⟨m, errs⟩) s = .next (writePacket n m errs w u)) ∧
          (∀ k, rdmaCheck u n true m = k → k ≠ 0 →
            exec (.rdmaWrite dt ⟨m, errs⟩) s = .next (qpViolation n k m.hdr m.psn u))) ∧
        (∀ w, psnPlace u n m.psn = .expected → opBegins m.op = false → (qpSt u n).writing = some w →
          exec (.rdmaWrite dt ⟨m, errs⟩) s = .next
            (if writeFits u n m w then writePacket n m errs w u else qpViolation n 6 m.hdr m.psn u)) ∧
        (psnPlace u n m.psn = .duplicate → (qpSt u n).writing = none → (qpSt u n).acks = [] →
          exec (.rdmaWrite dt ⟨m, errs⟩) s = .next (sendAck n m.hdr m.psn (qpCount n 4 1 u))) ∧
        (psnPlace u n m.psn = .ahead → (qpSt u n).nakHeld = true → exec (.rdmaWrite dt ⟨m, errs⟩) s = .next u)) ∧
      ((Instr.rdmaWrite dt ⟨m, errs⟩).wf = true → m.op = .unsupported →
        (psnPlace u n m.psn = .expected ∨ psnPlace u n m.psn = .duplicate) →
        exec (.rdmaWrite dt ⟨m, errs⟩) s = .next (qpViolation n 6 m.hdr m.psn u)) ∧
      ((Instr.rdmaReadRequest dt m errs).wf = true → m.op = .readRequest →
        (psnPlace u n m.psn = .expected → rdmaCheck u n false m = 0 → (qpSt u n).writing = none →
          exec (.rdmaReadRequest dt m errs) s = .next (rdmaDoRead n m errs (advancePsn n (readPackets u n m) u))) ∧
        (psnPlace u n m.psn = .duplicate → rdmaCheck u n false m = 0 →
          exec (.rdmaReadRequest dt m errs) s = .next (rdmaDoRead n m errs (qpCount n 4 1 u)))))) ∧
  (∀ dt n a rest (s : State), (Instr.rdmaWriteAck dt n).wf = true → (qpSt s n).acks = a :: rest → qpState s n = 1 →
    exec (.rdmaWriteAck dt n) s = .next (sendAcks n a.again (sendAck n a.hdr a.psn
      (setQp n { qpSt s n with acks := rest, msn := (qpSt s n).msn + 1 } (elapse dt s))))) ∧
  ∀ src n (s : State), fit (.qpReset src n) s = true → exec (.qpReset src n) s = .next
    (setReg 0xF (1 + n) 0x8 0 (setReg 0xF (1 + n) 0x50 0 (setQp n QpSt.reset s)))

/-- EVENT_FRAME_SEND sends the oldest unsent entries once there are 32 of them, or once the oldest has waited 50 µs, 32 at most,
and holds the frame until it is acknowledged; nothing is sent before, or while one is pending. EVENT_FRAME_RESEND repeats it unchanged 2 ms after the last send, and after eight sends the
sender stalls (R328, R329). -/
def Obligations.EventFramesAreSent : Prop :=
  (∀ dt n i b (s : State), (Instr.eventFrameSend dt).wf = true → n = min 32 (evtUnsent s) → i = evtStart s →
    b = evtBody s i n →
    (evtMaySend s = true → s.host.evtFrame = none →
      (32 ≤ n ∨ (0 < n ∧ ∃ e, logAt s i = some e ∧ e.at_ + 47000 ≤ s.now + dt)) → exec (.eventFrameSend dt) s = .next
      (haCount 6 1 (sendFrame (field (reg s 0xF 0 0x6C) 4 2) (evtBytes s b)
        { elapse dt s with host := { s.host with evtNext := i, evtFrame := some ⟨i, n, 1, s.now + dt, b⟩ } }))) ∧
    (n < 32 → (∀ e, logAt s i = some e → s.now + dt < e.at_ + 47000) →
      exec (.eventFrameSend dt) s = .next (elapse dt s)) ∧
    (s.host.evtFrame ≠ none → exec (.eventFrameSend dt) s = .next (elapse dt s))) ∧
  ∀ dt f (s : State), (Instr.eventFrameResend dt).wf = true → s.host.evtFrame = some f → s.host.evtStalled = false →
    (s.now + dt < f.at_ + 1880000 → exec (.eventFrameResend dt) s = .next (elapse dt s)) ∧
    (f.at_ + 1880000 ≤ s.now + dt →
      (f.sends < 8 → evtMaySend s = true → exec (.eventFrameResend dt) s = .next
        (haCount 7 1 (sendFrame (field (reg s 0xF 0 0x6C) 4 2) (evtBytes s f.body) { elapse dt s with
          host := { s.host with evtFrame := some { f with sends := f.sends + 1, at_ := s.now + dt } } }))) ∧
      (8 ≤ f.sends → exec (.eventFrameResend dt) s = .next
        (raiseCe 0xF 0 3 0 { elapse dt s with host := { s.host with evtStalled := true } })))

/-- PREPARE draws a key pair; INSTALL discards its private half and zeroes HA_ADM_DATA in every case, installs the CKN and
CAK where the record's tag verifies, and is otherwise rejected by reason; ADM_REVOKE erases every key (R332). SAK_INSTALL
takes an SAK of the installed CAK, and its association transmits; MKA_SESSION_LOSS ends the session of its interface alone
(R331). The random bytes of the key pair are free values (log entry 3), and what INSTALL, a lost session and
ADM_REVOKE keep is log entry 72 (the model's reading). -/
def Obligations.AdmissionAndMacsecAct : Prop :=
  ∀ src (s : State),
    (fit (.prepare src) s = true → exec (.prepare src) s = .next { s with
      free := s.free + 1,
      host := { s.host with
        adm := max 1 s.host.adm, admPriv := some (randomBytes s 56), admPub := x448Public (randomBytes s 56) } }) ∧
    (fit (.install src) s = true → ∀ r u, r = admRecord s → u = zeroAdm { s with host := { s.host with admPriv := none } } →
      (s.host.admPriv = none → exec (.install src) s = .next (admReject 1 u)) ∧
      (∀ k, s.host.admPriv = some k →
        ((∃ b ∈ r.drop 133, b ≠ 0) → exec (.install src) s = .next (admReject 3 u)) ∧
        (∀ kek iv ct, (∀ b ∈ r.drop 133, b = 0) → kek = shake256 32 (x448 k (r.take 56) ++ s.host.admPub ++ r.take 56) →
          iv = bytesAt r 72 12 → ct = bytesAt r 84 32 →
          exec (.install src) s = .next
            (if gcmTag kek iv (r.take 72 ++ bytesAt r 132 1) ct = bytesAt r 116 16 then
              installCak (bytesAt r 56 16) (gcmCrypt kek iv ct) (r.getD 132 0) (List.range 8)
                { u with host := { u.host with adm := 2 } }
            else admReject 2 u)))) ∧
    (fit (.admRevoke src) s = true → exec (.admRevoke src) s = .next { s with host := { s.host with
      macsec := [], adm := if s.host.admPriv.isSome then 1 else 0 } }) ∧
    (∀ intf an sak pn, (Instr.sakInstall intf an sak pn).wf = true → macsecOn s intf = true → (macsec s intf).cak ≠ none →
      exec (.sakInstall intf an sak pn) s = .next { s with host := { s.host with
        macsec := sset (fun _ => MacsecSt.reset) s.host.macsec intf ⟨(macsec s intf).cak, true,
          (macsec s intf).saks.filter (·.1 != an) ++ [(an, ⟨sak, pn⟩)], an⟩ } }) ∧
    ∀ dt intf, (Instr.mkaSessionLoss dt intf).wf = true → exec (.mkaSessionLoss dt intf) s = .next
      { elapse dt s with host := { s.host with
        macsec := sset (fun _ => MacsecSt.reset) s.host.macsec intf { macsec s intf with live := false } } }

/-! ## Cairns, pairs and spares -/

/-- A capture whose copies have completed and whose loss stamps are written is sealed: the core part, the digest and
then the seal byte are written, counted and logged, and a formed pair gets the seal (R342, R343). VOID of an OPEN or
SEALED slot voids it; of a slot being restored it is rejected (R345). RESTORE that passes the checks of R346 begins
reinstating, and sets the streams of a T7 Cairn; otherwise it is rejected by the first check that fails, and a line that the
Crest cannot read for the digest fails the digest (log entry 48). REINSTATE_DONE (R347): once every entry is copied and charged,
the partitions of the named jobs are reset with core SRAM kept, the core part returns, each named job's J is set, and the
reinstated journal decides each shard (R221); an uncorrectable line rejects the restore with reason 7. RESTORE_RESTART at the
restart boundary lets the held partitions run. The place and format of the core part are log entry 22, when a capture is sealed
log entry 62, what a restore takes back log entry 63, the job that reinstated lines are charged to log entry 20, and a slot whose
header line cannot be read log entry 88 (the model's readings). -/
def Obligations.CairnsAreSealedAndRestored : Prop :=
  ((∀ dt i c (s u : State) (d : Dword), (Instr.cairnSeal dt i).wf = true →
    (s.cairn.captures.find? (·.slot == i)) = some c → u = writeCorePart i c.latches (elapse dt s) →
    d = headDigest u i ^^^ c.digest →
    (sealReady s c = false → exec (.cairnSeal dt i) s = .next (elapse dt s)) ∧
    (sealReady s c = true → exec (.cairnSeal dt i) s = .next
      (ownValue ⟨0x13, i, c.tick, d, 0, frameNo s, 0, 0, false⟩
        (logEvent 0x0020 0x17 0 0 ([BitVec.ofNat 8 i, 0, 0, 0] ++ leBytes 8 d.toNat) (bump48 0x17 0 0x9C 0 1 (some (4, 0))
          { putPhysBytes (cairnAddr s i + 6) [1] (putPhysBytes (cairnAddr s i + 0x30) (leBytes 8 d.toNat) u) with
            cairn := { s.cairn with captures := s.cairn.captures.filter (·.slot != i) } }))))) ∧
  (∀ src errs w (s : State), fit (.void ⟨src, errs⟩ w) s = true →
    (restoring s (field w 3 2) = true → exec (.void ⟨src, errs⟩ w) s = .next (raiseCe 0x17 0 1 (8 + 16 * field w 3 2)
      { s with cairn := { s.cairn with reason := 8 } })) ∧
    (∀ c, restoring s (field w 3 2) = false → (s.cairn.captures.find? (·.slot == field w 3 2)) = some c →
      exec (.void ⟨src, errs⟩ w) s = .next (voidCapture 3 c s)) ∧
    (restoring s (field w 3 2) = false → (s.cairn.captures.find? (·.slot == field w 3 2)) = none →
      (∀ ok u, slotSt s (field w 3 2) = 2 → crestRead [(cairnAddr s (field w 3 2), 1)] errs s = (ok, u) →
        exec (.void ⟨src, errs⟩ w) s = .next (if ok then
          raiseCe 0x17 0 0 (field w 3 2 + 12) (putPhysBytes (cairnAddr u (field w 3 2) + 6) [2] u) else u)) ∧
      (slotSt s (field w 3 2) ≠ 2 → exec (.void ⟨src, errs⟩ w) s = .next s))) ∧
  ∀ src w errs i jobs r (s : State), fit (.restore ⟨src, errs⟩ w) s = true → i = field w 3 2 →
    jobs = BitVec.ofNat 8 (field w 11 4) → r = restoreCheck s i jobs →
    (r ∈ [1, 2, 3] → exec (.restore ⟨src, errs⟩ w) s = .next (raiseCe 0x17 0 1 (r + 16 * i)
      { s with cairn := { s.cairn with reason := r } })) ∧
    (∀ ok u v, r ∉ [1, 2, 3] → crestRead (cairnExtents s i) errs s = (ok, u) →
      v = { u with cairn := { u.cairn with
        restore := some ⟨i, jobs, 1, 0, u.now, 0⟩, lastSlot := i, accepted := false, t7 := slotField u i 4 1 == 1,
        skew := 0 } } →
      exec (.restore ⟨src, errs⟩ w) s = .next
        (if ok = false then raiseCe 0x17 0 1 (4 + 16 * i) { u with cairn := { u.cairn with reason := 4 } }
         else if r ≠ 0 then raiseCe 0x17 0 1 (r + 16 * i) { u with cairn := { u.cairn with reason := r } }
         else if slotField u i 4 1 = 1 then t7Set (slotField v i 0x38 8) (t7Recs v i) v else v))) ∧
  ((∀ dt errs r (s u : State) ps, (Instr.reinstateDone dt errs).wf = true → s.cairn.restore = some r → r.phase = 1 →
    ps = partsOfJobs s r.jobs →
    (reinstRead r.slot ps (firstJob r.jobs) errs (elapse dt s) = (false, u) → exec (.reinstateDone dt errs) s = .next
      (raiseCe 0x17 0 1 (7 + 16 * r.slot) { u with cairn := { u.cairn with restore := none, reason := 7 } })) ∧
    (∀ v t w named, reinstRead r.slot ps (firstJob r.jobs) errs (elapse dt s) = (true, u) → slotField u r.slot 4 1 = 0 →
      named = ((List.range 8).filter fun j => r.jobs.getLsbD j) →
      v = restoreParts ps { u with cairn := { u.cairn with restore := none } } →
      t = restoreJobs r.slot 0 named (restoreCores r.slot (ps.flatMap fun p => regionCores v (.partition p)) v) →
      (∀ j ∈ named, (jobOf t j).isSome = true → isTraining t j = true) → w = decideShards (reinsts t r.slot) t →
      exec (.reinstateDone dt errs) s = .next
        { w with cairn := { w.cairn with restore := some { r with phase := 2, readyAt := w.now } } })) ∧
  ∀ r (s : State), (Instr.restoreRestart).wf = true → s.cairn.restore = some r → r.phase = 2 →
    (restartDue s r = false → exec .restoreRestart s = .next s) ∧
    (restartDue s r = true → trainingOf s r.jobs ≠ [] → exec .restoreRestart s = .next (runParts (partsOfJobs s r.jobs)
      { s with
        cairn := { s.cairn with restore := some { r with phase := 3, restart := tickN s } },
        pair := { s.pair with own := [], peer := [], st := if s.pair.st = 2 then 1 else s.pair.st } })))

/-- PAIR_COMMIT_MSG, PAIR_TRACE_MSG, PAIR_LOSS_MSG and PAIR_SEAL_MSG (R355): a value whose own counterpart is not yet known is
kept; one whose counterpart waits is compared and counted; equal seals mark the slot matched and end a row of rollbacks; a
message on another link has no effect. A loss that differs is a divergence of its job and step (R357): it is recorded and raised,
freezes the training partitions, and rolls back to the newest SEALED slot that both hold, which is proposed to the partner; a
repeat, or one after too many rollbacks in a row, ends in HELD (R358). A commit that differs is one of its shard, whose tile
digests are exchanged first. PAIR_DIVERGENCE_MSG keeps what the partner reports, once for all its copies, and the older of two
proposals is restored (R357). PAIR_TIMEOUT of a value that waited 64 frames drops it and is recorded. What a message holds is log
entry 21, and what becomes of a device without a candidate log entry 64 (the model's readings). -/
def Obligations.PairMessagesAreCompared : Prop :=
  (∀ dt l m i code (v : PairVal) (s : State),
    (i, code) ∈ [(Instr.pairCommitMsg dt l m, 0x10), (.pairTraceMsg dt l m, 0x11), (.pairLossMsg dt l m, 0x12),
      (.pairSealMsg dt l m, 0x13)] → i.wf = true → v = ⟨code, m.place, m.step, m.value, m.value2, frameNo s, 0, 0, false⟩ →
    (onPairLink s l = false → exec i s = .next (elapse dt s)) ∧
    (onPairLink s l = true →
      (s.pair.own.find? (sameKey v) = none → s.pair.peer.any (sameKey v) = false → exec i s = .next
        { elapse dt s with pair := { s.pair with peer := s.pair.peer ++ [v] } }) ∧
      (∀ w u, s.pair.own.find? (sameKey v) = some w → w.done = false →
        u = bump48 0x18 0 0x74 0 1 (some (7, 1)) { elapse dt s with pair := { s.pair with
          own := s.pair.own.map fun x => if sameKey v x then { x with done := true } else x } } →
        (w.value = v.value → w.value2 = v.value2 →
          (code ≠ 0x13 → exec i s = .next u) ∧
          (code = 0x13 → exec i s = .next { u with
            cairn := { u.cairn with matched := sset (fun _ => false) u.cairn.matched w.place true },
            pair := { u.pair with rollbacks := 0 } })) ∧
        ((w.value ≠ v.value ∨ w.value2 ≠ v.value2) → s.pair.st < 4 →
          (code = 0x10 → exec i s = .next (diverge w 1 w.place u)) ∧
          (code = 0x13 → exec i s = .next u) ∧
          (∀ again x d f, code = 0x12 → again = sameDivergence u 3 w.place w.step →
            x = setReg 0x18 0 0x60 0 (recordDivergence 3 w.place w.step again u) →
            d = raise 0x18 0 0 1 (3 + 4 * bit01 again) (.parts (trainingParts u))
              { x with pair := { x.pair with st := 2, own := [], peer := [] } } →
            f = bump48 0x18 0 0x6C 0 1 (some (7, 0)) { d with pair := { d.pair with st := 2, rollbacks := d.pair.rollbacks + 1 } } →
            ((again = true ∨ maxRollback s ≤ s.pair.rollbacks) → exec i s = .next (pairHeld 3 d)) ∧
            (again = false → s.pair.rollbacks < maxRollback s →
              (newestMatched f = none → exec i s = .next f) ∧
              (∀ k t, newestMatched f = some (k, t) → exec i s = .next (rollbackIfAgreed
                (pairSend 0x14 ([1, BitVec.ofNat 8 k] ++ leBytes 8 t)
                  { f with pair := { f.pair with candidate := some (k, BitVec.ofNat 64 t) } }))))))))) ∧
  (∀ dt l m (s u : State), (Instr.pairDivergenceMsg dt l m).wf = true → onPairLink s l = true → u = hear l m (elapse dt s) →
    (isCopy s l m = true → exec (.pairDivergenceMsg dt l m) s = .next u) ∧
    (isCopy s l m = false →
      (∀ e, m = .verdict e → s.pair.st ≠ 3 → exec (.pairDivergenceMsg dt l m) s = .next
        { u with pair := { u.pair with peerVerdict := some e } }) ∧
      (∀ c t, m = .candidate c t → s.pair.candidate = none → exec (.pairDivergenceMsg dt l m) s = .next
        { u with pair := { u.pair with peerCandidate := some (c, t) } }) ∧
      (∀ c t k t' slot, m = .candidate c t → s.pair.candidate = some (k, t') →
        slot = (if t'.toNat ≤ t.toNat then k else c) → exec (.pairDivergenceMsg dt l m) s = .next
          (restoreStart slot (BitVec.ofNat 8 ((trainingOf s (BitVec.ofNat 8 (slotField s slot 5 1))).map fun j => 2 ^ j).sum) []
            { u with pair := { u.pair with candidate := none, peerCandidate := none } })) ∧
      (∀ d, m = .tileDigests d → s.pair.tiles = none → exec (.pairDivergenceMsg dt l m) s = .next
        { u with pair := { u.pair with peerTiles := some d } }))) ∧
  ∀ k v (s : State), (Instr.pairTimeout k).wf = true → s.pair.own[k]? = some v → v.done = false →
    (v.frame + 64 ≤ frameNo s → exec (.pairTimeout k) s = .next (raiseCe 0x18 0 3 v.code
      { s with pair := { s.pair with own := eraseFirst (fun x => x == v) s.pair.own } })) ∧
    (frameNo s < v.frame + 64 → exec (.pairTimeout k) s = .next s)

/-- The takeover signal reaches a secondary, by the primary's message on a pair link or by silence where PAIR_CFG enables
that and no marker has come on any pair link for two ticks, and acts once (R310, R356); HANDOVER makes a primary send the
message. RELEASE ends HELD (R358). RECOMPUTE_DONE reads the step's weights, moments and witness from HBM, runs the update's
routine over the disputed granule, compares with what is stored and sends the verdict; a device that finds itself wrong is
faulty, two equal verdicts hold the pair, and so does a device that cannot read its witness; a wrong partner leaves the pair (R359,
Table 12.7). Where the witness lies is an operand by log entry 24; what messages hold is log entry 21, and when a verdict acts
log entry 64 (the model's readings). -/
def Obligations.TakeoversAndVerdictsAct : Prop :=
  (∀ dt l cause i (s : State),
    ((i = .primaryFaultMsg dt l cause ∧ (pairLinks s).contains l = true) ∨
     (i = .pairSilence dt ∧ (reg s 0x18 0 0x40).getLsbD 10 = true ∧
        ∀ k ∈ pairLinks s, (link s k).markAt + 2 * ticT s ≤ s.now + dt)) → i.wf = true →
    (pairRole s = 2 → (reg s 0x18 0 0x40).getLsbD 9 = true → s.pair.taken = false → exec i s = .next
      { elapse dt s with pair := { s.pair with taken := true, takePending := true } }) ∧
    ((pairRole s ≠ 2 ∨ s.pair.taken = true) → exec i s = .next (elapse dt s))) ∧
  (∀ dt k (s : State), (Instr.pairSilence dt).wf = true → k ∈ pairLinks s → s.now + dt < (link s k).markAt + 2 * ticT s →
    exec (.pairSilence dt) s = .next (elapse dt s)) ∧
  (∀ src (s : State), fit (.handover src) s = true →
    (pairRole s = 1 → (reg s 0x18 0 0x40).getLsbD 9 = true → exec (.handover src) s = .next
      (record 0x18 0 6 0 3 [keyOf 0x18 0] (faultNext (pairLinks s) (sendFirst (mgmtSlot 0x7F [3]) (pairLinks s)
        { s with pair := { s.pair with fault := some (3, 64) } })))) ∧
    (pairRole s ≠ 1 → exec (.handover src) s = .next s)) ∧
  (∀ src (s : State), fit (.release src) s = true →
    (s.pair.st = 4 → exec (.release src) s = .next
      (pairCheck { s with pair := { s.pair with st := if s.pair.formed then 1 else 0 } })) ∧
    (s.pair.st ≠ 4 → exec (.release src) s = .next s)) ∧
  ∀ dt (q : Recompute) ok e (code : Byte) (s r u : State), (Instr.recomputeDone dt q).wf = true → s.pair.st = 3 →
    s.pair.verdict = none → crestRead (recomputeExtents s q) q.errs (elapse dt s) = (ok, r) →
    e = (if ok then some (recomputeEquals s q) else none) →
    code = (match e with | some true => 1 | some false => 0 | none => 2) →
    u = pairSend 0x14 [4, code] { r with pair := { r.pair with verdict := some e } } →
    (e = some true → s.pair.peerVerdict = none → exec (.recomputeDone dt q) s = .next u) ∧
    (e = some false → exec (.recomputeDone dt q) s = .next (raise 0x18 0 5 2 (field (reg u 0x18 0 0x60) 15 0) (.fatal false)
      { u with pair := { u.pair with st := 5 } })) ∧
    ((e = none ∨ (e = some true ∧ (s.pair.peerVerdict = some (some true) ∨ s.pair.peerVerdict = some none))) →
      exec (.recomputeDone dt q) s = .next (raise 0x18 0 4 1 1
        (.parts (trainingParts u)) { u with pair := { u.pair with st := 4 } })) ∧
    (e = some true → s.pair.peerVerdict = some (some false) → exec (.recomputeDone dt q) s = .next
      { u with pair := { u.pair with st := 4, formed := false, own := [], peer := [], seeking := none } })

/-- CORE_FAIL of a core in service marks it unusable; a third unusable core of its column, or a sixth column, ends the
partition's fills and its restore and freezes it for good, and otherwise the core joins its column's fill or a new one behind the others, which
starts at the head of the list (R360 to R362). SPARE_FILL_DONE ends the fill at the head of the list, once its column is
remapped: the failed positions are new cores with their part of the newest SEALED Cairn of the partition's jobs, the switches
leave spill mode, the next fill starts, and that Cairn is restored where there is one. RNG_KEY word 3 commits the stream's key for
the next frame boundary (R339, R365). The order of fills and what a position keeps are log entry 65, and when the key takes
effect log entry 66 (the model's readings). -/
def Obligations.SparesAndStreamKeysAct : Prop :=
  (∀ dt p (s u : State), (Instr.coreFail dt p).wf = true →
    u = { elapse dt s with dev := { s.dev with
      bad := s.dev.bad ++ [p], toLog := s.dev.toLog ++ [(p, BitVec.ofNat 32 (tickN s).toNat)] } } →
    ((s.dev.up = false ∨ inService s p = false) → exec (.coreFail dt p) s = .next (elapse dt s)) ∧
    (s.dev.up = true → inService s p = true → ∀ same, same = s.dev.fills.any (fillsColumn p) →
      ((3 ≤ (badRows u p.ridge p.col).length ∨ (same = false ∧ 5 ≤ s.dev.fills.length)) → exec (.coreFail dt p) s = .next
        (raise 3 p.ridge 5 1 p.col (.parts [partOfRidge s p.ridge])
          (abandonRestore (partOfRidge s p.ridge) (dropFills (partOfRidge s p.ridge) u)))) ∧
      (∀ v w, (badRows u p.ridge p.col).length < 3 → (same = true ∨ s.dev.fills.length < 5) →
        v = raise 3 p.ridge 4 1 (p.col + 2 ^ 8 * p.row) (.parts [partOfRidge s p.ridge]) u →
        w = { v with dev := { v.dev with
          fills := if same then extendFill p (spotOf v p) s.dev.fills else s.dev.fills ++ [⟨[p], spotOf v p, false⟩] } } →
        ((∀ f rest, s.dev.fills = f :: rest → fillsColumn p f = true) → exec (.coreFail dt p) s = .next (startFill w)) ∧
        (∀ f rest, s.dev.fills = f :: rest → fillsColumn p f = false → exec (.coreFail dt p) s = .next w)))) ∧
  (∀ dt (e : FillEnd) q jobs slot f rest (s v w z : State), (Instr.spareFillDone dt e).wf = true → s.dev.fills = f :: rest →
    f.ridge = e.ridge → f.remapped = true → q = partOfRidge s e.ridge →
    jobs = BitVec.ofNat 8 (((List.range 8).filter fun j => (jobParts s j).contains q).map fun j => 2 ^ j).sum →
    slot = (if jobs = 0 then none else lastSealed s jobs) →
    v = fillCores q slot f.spots.eraseDups e.placed (elapse dt s) → w = leaveSpill (regionCores v (.partition q)) v →
    z = startFill { w with dev := { w.dev with fills := rest } } →
    (slot = none → exec (.spareFillDone dt e) s = .next z) ∧
    (∀ i, slot = some i → exec (.spareFillDone dt e) s = .next (restoreStart i jobs e.errs z))) ∧
  ∀ src k v x (s : State), fit (.rngKeyCommit src k v) s = true → field (reg s 0x19 (k / 64) 0x40) 5 0 = k % 64 →
    x = rngOf s k → s.Canonical →
    ∃ t, exec (.rngKeyCommit src k v) s = .next t ∧ (∀ j, j ≠ k → rngOf t j = rngOf s j) ∧
      (rngOf t k).words = BitVec.ofNat 128 (x.words.toNat % 2 ^ 96 + v.toNat * 2 ^ 96) ∧
      rngOf t k = { x with words := (rngOf t k).words, commit := some (rngOf t k).words }

/-! ## Resets, power states and digests -/

/-- CORE_RESET, CLUSTER_RESET and PARTITION_RESET (R376, R377, Table 13.5): a region already under reset is left alone; a core
or cluster of a partition that is FROZEN, IDLE or UNASSIGNED, with no image ARMED, begins its drain, in which flits that do not
lead out of the region are discarded from its queues and its wires, and otherwise the request is rejected and recorded; a
partition goes IN_RESET and drains, but where a Ridge of it is in a power state, or it is on its way into one, it exits first.
What a region's flits and credits do is log entry 45, and what a request that meets another does is log entry 61 (the model's
readings). -/
def Obligations.ResetsBegin : Prop :=
  (∀ src r i (s u : State),
    ((∃ c, r = .core c ∧ i = .coreReset src c) ∨ (∃ k, r = .cluster k ∧ i = .clusterReset src k)) → fit i s = true →
    (covered s r = true → exec i s = .next s) ∧
    (covered s r = false → s.sched.st ≠ 3 → (part s (regionPart s r)).st ∈ [0, 2, 4] →
      u = drainCores r (regionCores s r)
        { s with resets := (s.resets.filter fun x => !within s x.region r) ++ [⟨r, s.now, false, false⟩] } →
      exec i s = .next (discardWires (u.fab.wires.filter (innerWire u r)) u))) ∧
  (∀ src c (s : State), fit (.coreReset src c) s = true → covered s (.core c) = false →
    (s.sched.st = 3 ∨ (part s (partOf s c)).st ∉ [0, 2, 4]) → exec (.coreReset src c) s = .next (raiseCe 5 c 12 0 s)) ∧
  (∀ src k (s : State), fit (.clusterReset src k) s = true → covered s (.cluster k) = false →
    (part s (partOfCluster s k)).st ∉ [0, 2, 4] →
    exec (.clusterReset src k) s = .next (raiseCe 0x15 (partOfCluster s k) 0 k s)) ∧
  (∀ src k (s : State), fit (.clusterReset src k) s = true → covered s (.cluster k) = false →
    (part s (partOfCluster s k)).st ∈ [0, 2, 4] → s.sched.st = 3 →
    exec (.clusterReset src k) s = .next (raiseCe 0x15 (partOfCluster s k) 0 (k + 2 ^ 15) s)) ∧
  ∀ src p (s u v : State), fit (.partitionReset src p) s = true → partRidges s p ≠ [] → covered s (.partition p) = false →
    ((part s p).move = none → powered s p = true → u = setPart p { part s p with st := 3, wasFrozen := false } (partBegin p s) →
      v = drainCores (.partition p) (regionCores u (.partition p))
        { u with resets := (u.resets.filter fun x => !within u x.region (.partition p)) ++
          [⟨.partition p, u.now, false, false⟩] } →
      exec (.partitionReset src p) s = .next (discardWires (v.fab.wires.filter (innerWire v (.partition p))) v)) ∧
    ((part s p).move ≠ none → exec (.partitionReset src p) s = .next (setPart p { part s p with resetAfter := true } s)) ∧
    ((part s p).move = none → powered s p = false → exec (.partitionReset src p) s = .next
      (setPart p { part s p with resetAfter := true, move := some (0, s.now + exitCycles (partPower s p)) } s))

/-- DRAIN_END ends the drain of a region: what it still holds at the end of its window is discarded and counted (R377).
RESET_COMPLETE of a core or a cluster returns each of its cores, their class-L registers and their SRAM, and the cluster's own
class-L registers, to reset, leaving HBM, the hub cache and every other core's SRAM as they were; that of a partition resets all
of its cores, counts the reset and leaves it IDLE (R378). What happens to credits is log entry 45 (the model's reading). -/
def Obligations.ResetsComplete : Prop :=
  (∀ dt r x n (s u : State), (Instr.drainEnd dt r).wf = true → (s.resets.find? fun x => x.region == r && !x.drained) = some x →
    n = heldFlits s (regionCores s r) →
    u = { elapse dt s with resets := s.resets.map fun y => if y == x then { y with drained := true } else y } →
    (n = 0 → exec (.drainEnd dt r) s = .next u) ∧
    (n ≠ 0 → ∃ v, v = dropHeld (regionCores s r) { u with now := max u.now (x.at_ + drainWindow r) } ∧
      exec (.drainEnd dt r) s = .next (raiseCe 0x15 (regionPart v r) 2 (regionLevel r + 2 ^ 8 * min 255 n)
        (bump48 0x15 (regionPart v r) 0x60 0 n (some (5, 2)) v)))) ∧
  (∀ dt r cs x (s : State), (Instr.resetComplete dt r).wf = true → s.Canonical → (∀ p, r ≠ .partition p) → cs = regionCores s r →
    (s.resets.find? fun x => x.region == r && x.drained) = some x →
    ∃ t, exec (.resetComplete dt r) s = .next t ∧ t.hbm = s.hbm ∧ t.hub = s.hub ∧ t.resets = (s.resets.filter fun y => y != x) ∧
      (∀ c ∈ cs, core t c = coreFresh (elapse dt s) c false (core s c) ∧ (∀ n < 7168, sramLine t c n = 0) ∧
        ∀ off < 4096, retClass 5 c off = 4 → reg t 5 c off = reg State.reset 5 c off) ∧
      (∀ k off, r = .cluster k → off < 4096 → retClass 4 k off = 4 → reg t 4 k off = reg State.reset 4 k off) ∧
      ∀ d, d ∉ cs → ∀ n < 7168, sramLine t d n = sramLine s d n) ∧
  ∀ dt p x (s u : State), (Instr.resetComplete dt (.partition p)).wf = true →
    (s.resets.find? fun x => x.region == .partition p && x.drained) = some x →
    u = partFresh p 2 (keepSram s p) x.keepP (elapse dt s) →
    exec (.resetComplete dt (.partition p)) s = .next (partDone p (if assigned u then 4 else 0)
      { u with resets := u.resets.filter fun y => y != x })

/-- POWER_STATE_REQUEST (R382, R383, Table 13.7): a partition that is quiet and UNASSIGNED, FROZEN or IDLE starts its entry into
the target, and one with a Ridge in a power state its exit; any other request is rejected and recorded. POWER_TRANSITION_DONE
completes the entry into Park, keeping everything, and the exit from Park; the entry into Retain or Off, which loses the class-L
registers of the cores and their greatest queue lengths, and Off its class-P registers too; and the exit from these, as a
partition reset that keeps core SRAM but on a Ridge that was Off (R383 to R385). Which power state a merged partition has is log
entry 80, and what a request that meets another does is log entry 61 (the model's readings). -/
def Obligations.PowerStatesChange : Prop :=
  (∀ src p v x (s : State), fit (.powerStateRequest src p v) s = true → x = part s p →
    (x.move = none → resetWithin s p = false → recovering s p = false → partRidges s p ≠ [] →
      (powered s p = false → field v 1 0 = 0 → exec (.powerStateRequest src p v) s = .next (setReg 0x15 p 0x4C 0
        (setPart p { x with move := some (0, s.now + exitCycles (partPower s p)) } s))) ∧
      (x.st ∈ [0, 2, 4] → field v 1 0 ≠ 0 →
        exec (.powerStateRequest src p v) s = .next (setReg 0x15 p 0x4C (BitVec.ofNat 32 (field v 1 0))
          (setPart p { x with move := some (field v 1 0, s.now + entryCycles (field v 1 0)) } s))) ∧
      (x.st ∈ [0, 2, 4] → field v 1 0 = 0 → powered s p = true →
        exec (.powerStateRequest src p v) s = .next (setReg 0x15 p 0x4C 0 s)) ∧
      (x.st ∉ [0, 2, 4] → (powered s p = true ∨ field v 1 0 ≠ 0) → exec (.powerStateRequest src p v) s = .next
        (raiseCe 0x15 p 1 (field v 1 0 + 16 * x.st) s))) ∧
    ((x.move ≠ none ∨ resetWithin s p = true ∨ recovering s p = true ∨ partRidges s p = []) → exec (.powerStateRequest src p v) s = .next
      (raiseCe 0x15 p 1 (field v 1 0 + 16 * x.st) s))) ∧
  ∀ dt p target due (s u : State), (Instr.powerTransitionDone dt p).wf = true → s.Canonical →
    (part s p).move = some (target, due) → (part s p).resetAfter = false →
    u = { elapse dt s with now := max (s.now + dt) due } →
    (target = 1 → exec (.powerTransitionDone dt p) s = .next
      (setPart p { part s p with st := 6, move := none, wasFrozen := (part s p).st == 2 } (setPower 6 (partRidges s p) u))) ∧
    (∀ v, (target = 2 ∨ target = 3) → v = setPower (target + 5) (partRidges s p) u →
      ∃ t, exec (.powerTransitionDone dt p) s = .next t ∧ t = setPart p
          { part s p with st := target + 5, move := none, wasFrozen := false }
          (dropHigh (regionCores s (.partition p)) (partRegs p (target + 3) (target == 2) (if p = 0 then endSequences v else v))) ∧
        (∀ d ∈ partRidges s p, ridgePower t d = target + 5) ∧ t.sram = s.sram ∧ t.hub = s.hub ∧ t.hbm = s.hbm ∧
        ∀ c ∈ regionCores s (.partition p), (core t c).high = [] ∧
          ∀ off < 4096, retClass 5 c off = 4 → reg t 5 c off = reg State.reset 5 c off) ∧
    (target = 0 → partPower s p ≤ 6 → exec (.powerTransitionDone dt p) s = .next (setPower 0 (partRidges s p)
      (setPart p { part s p with
        st := if (part s p).wasFrozen || (part s p).st == 2 then 2 else if assigned s then 4 else 0,
        move := none, wasFrozen := false } u))) ∧
    (target = 0 → 7 ≤ partPower s p → ∃ t, exec (.powerTransitionDone dt p) s = .next t ∧
      (part t p).st = (if assigned s then 4 else 0) ∧ (∀ d ∈ partRidges s p, ridgePower t d = 0) ∧ t.hub = s.hub ∧
      (s.cairn.captures = [] → t.hbm = s.hbm) ∧ ∀ c ∈ regionCores s (.partition p),
        (coreOff s c = true → ∀ n < 7168, sramLine t c n = 0) ∧
        (coreOff s c = false → ∀ n < 7168, sramLine t c n = sramLine s c n))

/-- DIGEST_MSG of a frame whose own digest is published is compared once for its peer: an equal one ends the peer's run, and
the fourth in a row that differs raises config_diverge, logs event 0x0030 and is the one that DIG_CMP shows, once until a
compared frame agrees again; one of a later frame waits; a replayed one, one on a link that is not in
UP, one of a frame that was compared for that peer, and one that is not comparable have no effect (R431, R432). That one
comparison is made for each peer and frame is log entry 54 (the model's reading). -/
def Obligations.DigestsAreCompared : Prop :=
  ∀ dt l f layout d rep (s u : State) peer, (Instr.digestMsg dt l f layout d rep).wf = true → peer = (link s l).peerDevice →
    ((rep = true ∨ (link s l).st ≠ 5 ∨ comparable s l layout = false) →
      exec (.digestMsg dt l f layout d rep) s = .next (elapse dt s)) ∧
    (rep = false → (link s l).st = 5 → comparable s l layout = true →
      (∀ g mine, (s.dig.own.find? fun o => BitVec.ofNat 32 o.1 == f) = some (g, mine) → (peerRow s peer).last ≤ g →
        u = { elapse dt s with dig := { s.dig with
          compared := if s.dig.compared.contains peer then s.dig.compared else s.dig.compared ++ [peer] } } →
        (mine = d → exec (.digestMsg dt l f layout d rep) s = .next (setPeerRow ⟨peer, l, 0, false, g + 1⟩ u)) ∧
        (mine ≠ d → (peerRow s peer).raised = false → (peerRow s peer).run < 3 →
          exec (.digestMsg dt l f layout d rep) s = .next (setPeerRow ⟨peer, l, (peerRow s peer).run + 1, false, g + 1⟩ u)) ∧
        (mine ≠ d → (peerRow s peer).raised = false → 3 ≤ (peerRow s peer).run →
          exec (.digestMsg dt l f layout d rep) s = .next (logEvent 0x0030 0x14 0 0
            (leBytes 2 peer ++ leBytes 1 l ++ [0] ++ leBytes 8 g) (raiseCe 0x14 0 0 (peer + 2 ^ 9 * l)
              { setPeerRow ⟨peer, l, 4, true, g + 1⟩ u with
                dig := { (setPeerRow ⟨peer, l, 4, true, g + 1⟩ u).dig with lastPeer := peer, lastLink := l } }))) ∧
        (mine ≠ d → (peerRow s peer).raised = true →
          exec (.digestMsg dt l f layout d rep) s = .next (setPeerRow { peerRow s peer with last := g + 1 } u))) ∧
      (∀ g mine, (s.dig.own.find? fun o => BitVec.ofNat 32 o.1 == f) = some (g, mine) → g < (peerRow s peer).last →
        exec (.digestMsg dt l f layout d rep) s = .next (elapse dt s)) ∧
      ((s.dig.own.find? fun o => BitVec.ofNat 32 o.1 == f) = none → exec (.digestMsg dt l f layout d rep) s = .next
        { elapse dt s with dig := { s.dig with waiting := (s.dig.waiting ++ [(f, layout, d, peer, l)]).take 4096 } }))
end

