-- ==== Sys2Proof/Laws/Keeps.lean ====
section
/-! SUPPORT. What every function of the model can change, said once: a property of states that survives the primitive
changes of some pieces of state survives every function that changes no other piece. One lemma per function, in the
model's order; `exec_keeps` says it of every command. -/

namespace Sys2Proof.Machine

set_option linter.unusedVariables false
set_option linter.unreachableTactic false
set_option linter.unusedTactic false
open Sys2Proof

/-- The pieces of state of `reportFields` may change. -/
structure RaiseSet (w : Fld → Prop) : Prop where
  out : w .out
  regs : w .regs
  hub : w .hub
  hbm : w .hbm
  cores : w .cores
  parts : w .parts
  faults : w .faults
  mem : w .mem
  links : w .links
  serve : w .serve
  host : w .host
  cairn : w .cairn
  pair : w .pair

/-- `P` survives the primitive changes of the pieces of state in `w`. -/
structure Closed (w : Fld → Prop) (P : State → Prop) : Prop where
  elapse : w .now → ∀ {n s}, P s → P (elapse n s)
  passTo : w .now → ∀ {n s}, P s → P (passTo n s)
  atCycle : w .now → ∀ {n f} {s : State}, (∀ s, P s → P (f s)) → P s → P (atCycle n f s)
  drawFree : w .free → ∀ {s}, P s → P (drawFree s)
  rset : w .regs → ∀ {k v s}, P s → P (rset k v s)
  regsDrop : w .regs → ∀ {s : State} {p}, P s → P { s with regs := sdrop p s.regs }
  sramPut : w .sram → ∀ {s : State} {a l}, P s → P { s with sram := memPut s.sram a l }
  sramDrop : w .sram → ∀ {s : State} {p}, P s → P { s with sram := sdrop p s.sram }
  hubPut : w .hub → ∀ {s : State} {a l}, P s → P { s with hub := memPut s.hub a l }
  hbmPut : w .hbm → ∀ {s : State} {a l}, P s → P { s with hbm := memPut s.hbm a l }
  out : w .out → ∀ {s : State} {x}, P s → P { s with out := x }
  cores : w .cores → ∀ {s : State} {k x}, P s → P { s with cores := sset (fun _ => Core.reset) s.cores k x }
  coresMap : w .cores → ∀ {s : State} {x}, P s → P { s with cores := smap (fun _ => Core.reset) x s.cores }
  fab : w .fab → ∀ {s : State} {x}, P s → P { s with fab := x }
  tick : w .tick → ∀ {s : State} {x}, P s → P { s with tick := x }
  sched : w .sched → ∀ {s : State} {x}, P s → P { s with sched := x }
  parts : w .parts → ∀ {s : State} {k x}, P s → P { s with parts := sset (fun _ => Part.reset) s.parts k x }
  partsNone : w .parts → ∀ {s : State}, P s → P { s with parts := [] }
  resets : w .resets → ∀ {s : State} {x}, P s → P { s with resets := x }
  faults : w .faults → ∀ {s : State} {x}, P s → P { s with faults := x }
  jobFrames : w .jobFrames → ∀ {s : State} {x}, P s → P { s with jobFrames := x }
  jobBase : w .jobBase → ∀ {s : State} {x}, P s → P { s with jobBase := x }
  live : w .live → ∀ {s : State} {x}, P s → P { s with live := x }
  monOn : w .monOn → ∀ {s : State} {x}, P s → P { s with monOn := x }
  monClear : w .monClear → ∀ {s : State} {x}, P s → P { s with monClear := x }
  mem : w .mem → ∀ {s : State} {x}, P s → P { s with mem := x }
  energy : w .energy → ∀ {s : State} {x}, P s → P { s with energy := x }
  links : w .links → ∀ {s : State} {k x}, P s → P { s with links := sset (fun _ => Link.reset) s.links k x }
  engines : w .engines → ∀ {s : State} {k x}, P s → P { s with engines := sset (fun _ => RedEngine.reset) s.engines k x }
  enginesMap : w .engines → ∀ {s : State} {x}, P s → P { s with engines := smap (fun _ => RedEngine.reset) x s.engines }
  rng : w .rng → ∀ {s : State} {k x}, P s → P { s with rng := sset (fun _ => RngSt.reset) s.rng k x }
  rngMap : w .rng → ∀ {s : State} {x}, P s → P { s with rng := smap (fun _ => RngSt.reset) x s.rng }
  serve : w .serve → ∀ {s : State} {x}, P s → P { s with serve := x }
  host : w .host → ∀ {s : State} {x}, P s → P { s with host := x }
  dev : w .dev → ∀ {s : State} {x}, P s → P { s with dev := x }
  sec : w .sec → ∀ {s : State} {x}, P s → P { s with sec := x }
  dig : w .dig → ∀ {s : State} {x}, P s → P { s with dig := x }
  cairn : w .cairn → ∀ {s : State} {x}, P s → P { s with cairn := x }
  pair : w .pair → ∀ {s : State} {x}, P s → P { s with pair := x }
  coldKeep : (∀ f, w f) → ∀ {s : State} {d}, P s →
    P { State.reset with pending := s.pending, now := s.now, free := s.free, out := s.out, dev := d }
  warmKeep : (∀ f, w f) → ∀ {s : State}, P s → P (warmKeep s)

variable {w : Fld → Prop} {P : State → Prop}

theorem of_pair {α : Type} {p : α × State} {a s} (h : p = (a, s)) (hp : P p.2) : P s := by subst h; exact hp

theorem of_ih {a b : State} (h : P a → P b) (ha : P a) : P b := h ha

theorem of_triple {α β : Type} {p : α × β × State} {a b s} (h : p = (a, b, s)) (hp : P p.2.2) : P s := by subst h; exact hp

theorem of_quad {α β γ : Type} {p : α × β × γ × State} {a b c s} (h : p = (a, b, c, s)) (hp : P p.2.2.2) : P s := by
  subst h; exact hp

theorem foldl_keep {β : Type} {f : State → β → State} {l : List β} {s : State} (hf : ∀ s b, P s → P (f s b)) (h : P s) :
    P (l.foldl f s) := by
  induction l generalizing s with
  | nil => exact h
  | cons b t ih => exact ih (hf s b h)

theorem getD_keep {o : Option State} {s : State} (ho : ∀ t, o = some t → P t) (h : P s) : P (o.getD s) := by
  cases o with
  | none => exact h
  | some t => exact ho t rfl

theorem RaiseSet.of {l : List Fld} (h : ∀ f ∈ reportFields ++ l, w f) : RaiseSet w := by
  constructor <;> exact h _ (List.mem_append_left _ (by decide))

theorem Fld.mem_all (f : Fld) : f ∈ Fld.all := by cases f <;> decide

theorem RaiseSet.ofAll (h : ∀ f ∈ Fld.all, w f) : RaiseSet w := by
  constructor <;> exact h _ (Fld.mem_all _)

theorem listed {f : Fld} {l : List Fld} (h : f ∈ l) : f ∈ l := h

theorem inRest {f : Fld} {l : List Fld} (h : f ∈ l) : f ∈ reportFields ++ l := List.mem_append_right _ h

theorem RaiseSet.all (kR : RaiseSet w) (h : ∀ f, f ∈ [Fld.now, .free, .sram, .fab, .tick, .sched, .resets, .jobFrames, .jobBase,
    .live, .monOn, .monClear, .energy, .engines, .rng, .dev, .sec, .dig] → w f) : ∀ f, w f := by
  intro f
  cases f
  all_goals
    first | exact kR.out | exact kR.regs | exact kR.hub | exact kR.hbm | exact kR.cores | exact kR.parts | exact kR.faults
          | exact kR.mem | exact kR.links | exact kR.serve | exact kR.host | exact kR.cairn | exact kR.pair | exact h _ (by decide)

variable (C : Closed w P)
include C

theorem Closed.cairnPair (kc : w .cairn) (kp : w .pair) {s : State} {x y} (h : P s) :
    P { s with cairn := x, pair := y } := C.cairn kc (s := { s with pair := y }) (C.pair kp h)

theorem Closed.jobCounts (kc : w .jobFrames) (kp : w .jobBase) {s : State} {x y} (h : P s) :
    P { s with jobFrames := x, jobBase := y } := C.jobFrames kc (s := { s with jobBase := y }) (C.jobBase kp h)

theorem Closed.monitor (kl : w .live) (ko : w .monOn) (kc : w .monClear) {s : State} {x y z} (h : P s) :
    P { s with live := x, monOn := y, monClear := z } :=
  C.live kl (s := { s with monOn := y, monClear := z }) (C.monOn ko (s := { s with monClear := z }) (C.monClear kc h))

/-! ## Base -/

theorem keep_emit (kout : w .out) {x1 s} (h : P s) : P (emit x1 s) := by
  unfold emit
  repeat'
    first
    | with_reducible assumption | fail_if_no_progress with_reducible apply (C.out kout) | dsimp only

theorem keep_setReg (kregs : w .regs) {x1 x2 x3 x4 s} (h : P s) : P (setReg x1 x2 x3 x4 s) := by
  unfold setReg
  repeat'
    first
    | with_reducible assumption | with_reducible apply (C.rset kregs) | dsimp only

theorem keep_rset64 (kregs : w .regs) {x1 x2 s} (h : P s) : P (rset64 x1 x2 s) := by
  unfold rset64
  repeat'
    first
    | with_reducible assumption | with_reducible apply (C.rset kregs) | dsimp only

theorem keep_setPower (kdev : w .dev) {x1 x2 s} (h : P s) : P (setPower x1 x2 s) := by
  unfold setPower
  repeat'
    first
    | with_reducible assumption | fail_if_no_progress with_reducible apply (C.dev kdev)
    | with_reducible refine foldl_keep (fun s b hs => ?_) ?_ | dsimp only

theorem keep_setPart (kparts : w .parts) {x1 x2 s} (h : P s) : P (setPart x1 x2 s) := by
  unfold setPart
  repeat'
    first
    | with_reducible assumption | fail_if_no_progress with_reducible apply (C.parts kparts) | dsimp only

theorem keep_setCore (kcores : w .cores) {x1 x2 s} (h : P s) : P (setCore x1 x2 s) := by
  unfold setCore
  repeat'
    first
    | with_reducible assumption | fail_if_no_progress with_reducible apply (C.cores kcores) | dsimp only

theorem keep_modCore (kcores : w .cores) {x1 x2 s} (h : P s) : P (modCore x1 x2 s) := by
  unfold modCore
  repeat'
    first
    | with_reducible assumption | with_reducible apply (keep_setCore C kcores) | dsimp only

theorem keep_bump48Quiet (kregs : w .regs) {x1 x2 s} (h : P s) : P (bump48Quiet x1 x2 s) := by
  unfold bump48Quiet
  repeat'
    first
    | with_reducible assumption | with_reducible apply (C.rset kregs)
    | (intro x; have hx : P x := ?_; clear_value x) | intro x | subst x | lift_lets | split | dsimp only

/-! ## Hbm -/

theorem keep_putSymbols (khbm : w .hbm) {x1 x2 x3 s} (h : P s) : P (putSymbols x1 x2 x3 s) := by
  unfold putSymbols
  repeat'
    first
    | with_reducible assumption | apply (C.hbmPut khbm) | dsimp only

theorem keep_setKeySlot (kmem : w .mem) {x1 x2 s} (h : P s) : P (setKeySlot x1 x2 s) := by
  unfold setKeySlot
  repeat'
    first
    | with_reducible assumption | fail_if_no_progress with_reducible apply (C.mem kmem) | dsimp only

theorem keep_hbmWrite (khbm : w .hbm) {x1 x2 s} (h : P s) : P (hbmWrite x1 x2 s) := by
  unfold hbmWrite
  repeat'
    first
    | with_reducible assumption | with_reducible apply (keep_putSymbols C khbm)
    | (intro x; have hx : P x := ?_; clear_value x) | (intro x; have hx : P x.2 := ?_; clear_value x)
    | (intro x; have hx : P x.2.2 := ?_; clear_value x) | intro x | subst x | lift_lets | split | dsimp only

/-! ## Ops -/

theorem keep_setFresh (kfaults : w .faults) {x1 s} (h : P s) : P (setFresh x1 s) := by
  unfold setFresh
  repeat'
    first
    | with_reducible assumption | fail_if_no_progress with_reducible apply (C.faults kfaults) | dsimp only

theorem keep_setFreshPage (kfaults : w .faults) {x1 s} (h : P s) : P (setFreshPage x1 s) := by
  unfold setFreshPage
  repeat'
    first
    | with_reducible assumption | with_reducible apply (keep_setFresh C kfaults) | dsimp only

theorem keep_recordCause (kregs : w .regs) (kfaults : w .faults) {x1 x2 x3 x4 x5 s} (h : P s) : P (recordCause x1 x2 x3 x4 x5 s) := by
  unfold recordCause
  repeat'
    first
    | with_reducible assumption | with_reducible apply (keep_setFreshPage C kfaults)
    | with_reducible apply (keep_setReg C kregs) | with_reducible apply (keep_rset64 C kregs)
    | (intro x; have hx : P x := ?_; clear_value x) | intro x | subst x | lift_lets | split | dsimp only

theorem keep_setRegs (kregs : w .regs) {x1 s} (h : P s) : P (setRegs x1 s) := by
  fun_induction setRegs x1 s
  all_goals
  repeat'
    first
    | with_reducible assumption | with_reducible refine of_ih ‹P _ → P _› ?_ | with_reducible apply (C.rset kregs)
    | split | dsimp only

theorem keep_noteRecord (kregs : w .regs) (kfaults : w .faults) {x1 x2 x3 s} (h : P s) : P (noteRecord x1 x2 x3 s) := by
  unfold noteRecord
  repeat'
    first
    | with_reducible assumption | with_reducible apply (keep_setFresh C kfaults)
    | with_reducible apply (keep_setRegs C kregs) | (intro x; have hx : P x := ?_; clear_value x) | intro x
    | subst x | lift_lets | split | dsimp only

theorem keep_clearRecord (kregs : w .regs) (kfaults : w .faults) {x1 x2 s} (h : P s) : P (clearRecord x1 x2 s) := by
  unfold clearRecord
  repeat'
    first
    | with_reducible assumption | with_reducible apply (keep_setRegs C kregs)
    | with_reducible apply (keep_setFresh C kfaults) | split | dsimp only

theorem keep_logEvent (kregs : w .regs) (kfaults : w .faults) {x1 x2 x3 x4 x5 s} (h : P s) : P (logEvent x1 x2 x3 x4 x5 s) := by
  unfold logEvent
  repeat'
    first
    | with_reducible assumption | with_reducible apply (keep_bump48Quiet C kregs)
    | with_reducible apply (keep_recordCause C kregs kfaults)
    | fail_if_no_progress with_reducible apply (C.faults kfaults) | (intro x; have hx : P x := ?_; clear_value x)
    | (intro x; have hx : P x.2 := ?_; clear_value x) | (intro x; have hx : P x.2.2 := ?_; clear_value x) | intro x
    | subst x | lift_lets | split | dsimp only

theorem keep_dropReport (kregs : w .regs) (kfaults : w .faults) {x1 s} (h : P s) : P (dropReport x1 s) := by
  unfold dropReport
  repeat'
    first
    | with_reducible assumption | with_reducible apply (keep_bump48Quiet C kregs)
    | with_reducible apply (keep_recordCause C kregs kfaults) | with_reducible apply (keep_logEvent C kregs kfaults)
    | fail_if_no_progress with_reducible apply (C.faults kfaults) | (intro x; have hx : P x := ?_; clear_value x)
    | intro x | subst x | lift_lets | split | dsimp only

theorem keep_enqueueReport (kregs : w .regs) (kfaults : w .faults) {x1 s} (h : P s) : P (enqueueReport x1 s) := by
  unfold enqueueReport
  repeat'
    first
    | with_reducible assumption | with_reducible apply (keep_dropReport C kregs kfaults)
    | fail_if_no_progress with_reducible apply (C.faults kfaults) | split | dsimp only

theorem keep_enqueueReports (kregs : w .regs) (kfaults : w .faults) {x1 x2 s} (h : P s) : P (enqueueReports x1 x2 s) := by
  fun_induction enqueueReports x1 x2 s
  all_goals
  repeat'
    first
    | with_reducible assumption | with_reducible refine of_ih ‹P _ → P _› ?_
    | with_reducible apply (keep_enqueueReport C kregs kfaults) | split | dsimp only

theorem keep_record (kregs : w .regs) (kfaults : w .faults) {x1 x2 x3 x4 x5 x6 s} (h : P s) : P (record x1 x2 x3 x4 x5 x6 s) := by
  unfold record
  repeat'
    first
    | with_reducible assumption | with_reducible apply (keep_recordCause C kregs kfaults)
    | with_reducible apply (keep_enqueueReports C kregs kfaults)
    | fail_if_no_progress with_reducible apply (C.faults kfaults) | (intro x; have hx : P x := ?_; clear_value x)
    | intro x | subst x | lift_lets | split | dsimp only

theorem keep_countHbmWrite (kregs : w .regs) (kfaults : w .faults) {x1 s} (h : P s) : P (countHbmWrite x1 s) := by
  unfold countHbmWrite
  repeat'
    first
    | with_reducible assumption | with_reducible apply (keep_bump48Quiet C kregs)
    | with_reducible apply (keep_record C kregs kfaults) | (intro x; have hx : P x := ?_; clear_value x) | intro x
    | subst x | lift_lets | split | dsimp only

theorem keep_putPhysLine (kregs : w .regs) (khub : w .hub) (khbm : w .hbm) (kfaults : w .faults) {x1 x2 s} (h : P s) : P (putPhysLine x1 x2 s) := by
  unfold putPhysLine
  repeat'
    first
    | with_reducible assumption | with_reducible apply (keep_countHbmWrite C kregs kfaults)
    | with_reducible apply (keep_hbmWrite C khbm) | apply (C.hubPut khub) | split | dsimp only

theorem keep_putPhysLines (kregs : w .regs) (khub : w .hub) (khbm : w .hbm) (kfaults : w .faults) {x1 x2 s} (h : P s) : P (putPhysLines x1 x2 s) := by
  fun_induction putPhysLines x1 x2 s
  all_goals
  repeat'
    first
    | with_reducible assumption | with_reducible refine of_ih ‹P _ → P _› ?_
    | with_reducible apply (keep_putPhysLine C kregs khub khbm kfaults) | split | dsimp only

theorem keep_putPhysBytes (kregs : w .regs) (khub : w .hub) (khbm : w .hbm) (kfaults : w .faults) {x1 x2 s} (h : P s) : P (putPhysBytes x1 x2 s) := by
  unfold putPhysBytes
  repeat'
    first
    | with_reducible assumption | with_reducible apply (keep_putPhysLine C kregs khub khbm kfaults)
    | (intro x; have hx : P x := ?_; clear_value x) | intro x | subst x | lift_lets | dsimp only

theorem keep_setLink (klinks : w .links) {x1 x2 s} (h : P s) : P (setLink x1 x2 s) := by
  unfold setLink
  repeat'
    first
    | with_reducible assumption | fail_if_no_progress with_reducible apply (C.links klinks) | dsimp only

theorem keep_voidCapture (kregs : w .regs) (khub : w .hub) (khbm : w .hbm) (kfaults : w .faults) (kcairn : w .cairn) {x1 x2 s} (h : P s) : P (voidCapture x1 x2 s) := by
  unfold voidCapture
  repeat'
    first
    | with_reducible assumption | with_reducible apply (keep_captures C kregs khub khbm kfaults kcairn)
    | with_reducible apply (keep_record C kregs kfaults)
    | with_reducible apply (keep_putPhysBytes C kregs khub khbm kfaults)
    | fail_if_no_progress with_reducible apply (C.cairn kcairn) | (intro x; have hx : P x := ?_; clear_value x)
    | intro x | subst x | lift_lets | dsimp only

theorem keep_voidCaptures (kregs : w .regs) (khub : w .hub) (khbm : w .hbm) (kfaults : w .faults) (kcairn : w .cairn) {x1 x2 s} (h : P s) : P (voidCaptures x1 x2 s) := by
  fun_induction voidCaptures x1 x2 s
  all_goals
  repeat'
    first
    | with_reducible assumption | with_reducible refine of_ih ‹P _ → P _› ?_
    | with_reducible apply (keep_voidCapture C kregs khub khbm kfaults kcairn) | split | dsimp only

theorem keep_sendFirst (klinks : w .links) {x1 x2 s} (h : P s) : P (sendFirst x1 x2 s) := by
  fun_induction sendFirst x1 x2 s
  all_goals
  repeat'
    first
    | with_reducible assumption | with_reducible refine of_ih ‹P _ → P _› ?_
    | with_reducible apply (keep_setLink C klinks) | split | dsimp only

theorem keep_sendSlot (klinks : w .links) {x1 x2 s} (h : P s) : P (sendSlot x1 x2 s) := by
  fun_induction sendSlot x1 x2 s
  all_goals
  repeat'
    first
    | with_reducible assumption | with_reducible refine of_ih ‹P _ → P _› ?_
    | with_reducible apply (keep_setLink C klinks) | split | dsimp only

theorem keep_faultNext (klinks : w .links) {x1 s} (h : P s) : P (faultNext x1 s) := by
  fun_induction faultNext x1 s
  all_goals
  repeat'
    first
    | with_reducible assumption | with_reducible refine of_ih ‹P _ → P _› ?_
    | with_reducible apply (keep_setLink C klinks) | split | dsimp only

theorem keep_primaryFault (kregs : w .regs) (kfaults : w .faults) (klinks : w .links) (kpair : w .pair) {x1 s} (h : P s) : P (primaryFault x1 s) := by
  unfold primaryFault
  repeat'
    first
    | with_reducible assumption | with_reducible apply (keep_record C kregs kfaults)
    | with_reducible apply (keep_faultNext C klinks) | with_reducible apply (keep_sendFirst C klinks)
    | fail_if_no_progress with_reducible apply (C.pair kpair) | split | dsimp only

theorem keep_noteHub (kmem : w .mem) {x1 x2 s} (h : P s) : P (noteHub x1 x2 s) := by
  unfold noteHub
  repeat'
    first
    | with_reducible assumption | fail_if_no_progress with_reducible apply (C.mem kmem) | split | dsimp only

theorem keep_setLineSt (kmem : w .mem) {x1 x2 x3 s} (h : P s) : P (setLineSt x1 x2 x3 s) := by
  fun_induction setLineSt x1 x2 x3 s
  all_goals
  repeat'
    first
    | with_reducible assumption | with_reducible refine of_ih ‹P _ → P _› ?_
    | with_reducible apply (keep_noteHub C kmem) | fail_if_no_progress with_reducible apply (C.mem kmem)
    | (intro x; have hx : P x := ?_; clear_value x) | intro x | subst x | lift_lets | split | dsimp only

theorem keep_returnReads (kmem : w .mem) {x1 x2 x3 s} (h : P s) : P (returnReads x1 x2 x3 s) := by
  unfold returnReads
  repeat'
    first
    | with_reducible assumption | fail_if_no_progress with_reducible apply (C.mem kmem) | dsimp only

theorem keep_abandonMove (kregs : w .regs) (khub : w .hub) (khbm : w .hbm) (kfaults : w .faults) (kmem : w .mem) (kcairn : w .cairn) {x1 s} (h : P s) : P (abandonMove x1 s) := by
  unfold abandonMove
  repeat'
    first
    | with_reducible assumption | with_reducible apply (keep_voidCaptures C kregs khub khbm kfaults kcairn)
    | with_reducible apply (keep_returnReads C kmem) | with_reducible apply (keep_setLineSt C kmem)
    | fail_if_no_progress with_reducible apply (C.mem kmem) | (intro x; have hx : P x := ?_; clear_value x)
    | intro x | subst x | lift_lets | split | dsimp only

theorem keep_abandonMoves (kregs : w .regs) (khub : w .hub) (khbm : w .hbm) (kfaults : w .faults) (kmem : w .mem) (kcairn : w .cairn) {x1 s} (h : P s) : P (abandonMoves x1 s) := by
  fun_induction abandonMoves x1 s
  all_goals
  repeat'
    first
    | with_reducible assumption | with_reducible refine of_ih ‹P _ → P _› ?_
    | with_reducible apply (keep_abandonMove C kregs khub khbm kfaults kmem kcairn) | split | dsimp only

theorem keep_abandonPartMoves (kregs : w .regs) (khub : w .hub) (khbm : w .hbm) (kfaults : w .faults) (kmem : w .mem) (kcairn : w .cairn) {x1 s} (h : P s) : P (abandonPartMoves x1 s) := by
  unfold abandonPartMoves
  repeat'
    first
    | with_reducible assumption | with_reducible apply (keep_abandonMoves C kregs khub khbm kfaults kmem kcairn)
    | fail_if_no_progress with_reducible apply (C.mem kmem) | (intro x; have hx : P x := ?_; clear_value x)
    | intro x | subst x | lift_lets | dsimp only

theorem keep_freezeOne (kregs : w .regs) (khub : w .hub) (khbm : w .hbm) (kparts : w .parts) (kfaults : w .faults) (kmem : w .mem) (klinks : w .links) (kserve : w .serve) (kcairn : w .cairn) (kpair : w .pair) {x1 s} (h : P s) : P (freezeOne x1 s) := by
  unfold freezeOne
  repeat'
    first
    | with_reducible assumption | with_reducible apply (keep_setPart C kparts)
    | with_reducible apply (keep_abandonPartMoves C kregs khub khbm kfaults kmem kcairn)
    | with_reducible apply (keep_voidCaptures C kregs khub khbm kfaults kcairn)
    | with_reducible apply (keep_setReg C kregs)
    | with_reducible apply (keep_primaryFault C kregs kfaults klinks kpair)
    | fail_if_no_progress with_reducible apply (C.serve kserve) | (intro x; have hx : P x := ?_; clear_value x)
    | intro x | subst x | lift_lets | split | dsimp only

theorem keep_freezeEach (kregs : w .regs) (khub : w .hub) (khbm : w .hbm) (kparts : w .parts) (kfaults : w .faults) (kmem : w .mem) (klinks : w .links) (kserve : w .serve) (kcairn : w .cairn) (kpair : w .pair) {x1 s} (h : P s) : P (freezeEach x1 s) := by
  fun_induction freezeEach x1 s
  all_goals
  repeat'
    first
    | with_reducible assumption | with_reducible refine of_ih ‹P _ → P _› ?_
    | with_reducible apply (keep_freezeOne C kregs khub khbm kparts kfaults kmem klinks kserve kcairn kpair) | split
    | dsimp only

theorem keep_freezePart (kregs : w .regs) (khub : w .hub) (khbm : w .hbm) (kparts : w .parts) (kfaults : w .faults) (kmem : w .mem) (klinks : w .links) (kserve : w .serve) (kcairn : w .cairn) (kpair : w .pair) {x1 s} (h : P s) : P (freezePart x1 s) := by
  unfold freezePart
  repeat'
    first
    | with_reducible assumption
    | with_reducible apply (keep_freezeOne C kregs khub khbm kparts kfaults kmem klinks kserve kcairn kpair)
    | with_reducible apply (keep_record C kregs kfaults)
    | with_reducible apply (keep_freezeEach C kregs khub khbm kparts kfaults kmem klinks kserve kcairn kpair)
    | fail_if_no_progress with_reducible apply (C.cairn kcairn) | (intro x; have hx : P x := ?_; clear_value x)
    | intro x | subst x | lift_lets | split | dsimp only

theorem keep_freezeParts (kregs : w .regs) (khub : w .hub) (khbm : w .hbm) (kparts : w .parts) (kfaults : w .faults) (kmem : w .mem) (klinks : w .links) (kserve : w .serve) (kcairn : w .cairn) (kpair : w .pair) {x1 s} (h : P s) : P (freezeParts x1 s) := by
  fun_induction freezeParts x1 s
  all_goals
  repeat'
    first
    | with_reducible assumption | with_reducible refine of_ih ‹P _ → P _› ?_
    | with_reducible apply (keep_freezePart C kregs khub khbm kparts kfaults kmem klinks kserve kcairn kpair)
    | split | dsimp only

theorem keep_freezeCores (kcores : w .cores) {x1 s} (h : P s) : P (freezeCores x1 s) := by
  fun_induction freezeCores x1 s
  all_goals
  repeat'
    first
    | with_reducible assumption | with_reducible refine of_ih ‹P _ → P _› ?_
    | with_reducible apply (keep_modCore C kcores) | split | dsimp only

theorem keep_respond (kR : RaiseSet w) {x1 s} (h : P s) : P (respond x1 s) := by
  unfold respond
  repeat'
    first
    | with_reducible assumption | with_reducible apply (keep_modCore C kR.cores)
    | with_reducible apply (keep_freezeCores C kR.cores)
    | with_reducible apply (keep_freezeParts C kR.regs kR.hub kR.hbm kR.parts kR.faults kR.mem kR.links kR.serve kR.cairn kR.pair)
    | with_reducible apply (keep_setLink C kR.links) | with_reducible apply (keep_setReg C kR.regs)
    | with_reducible apply (keep_primaryFault C kR.regs kR.faults kR.links kR.pair)
    | with_reducible apply (keep_emit C kR.out) | fail_if_no_progress with_reducible apply (C.faults kR.faults)
    | fail_if_no_progress with_reducible apply (C.mem kR.mem)
    | fail_if_no_progress with_reducible apply (C.host kR.host) | (intro x; have hx : P x := ?_; clear_value x)
    | intro x | subst x | lift_lets | split | dsimp only

theorem keep_raise (kR : RaiseSet w) {x1 x2 x3 x4 x5 x6 s} (h : P s) : P (raise x1 x2 x3 x4 x5 x6 s) := by
  unfold raise
  repeat'
    first
    | with_reducible assumption | with_reducible apply (keep_record C kR.regs kR.faults)
    | with_reducible apply (keep_respond C kR) | split | dsimp only

theorem keep_raiseCe (kR : RaiseSet w) {x1 x2 x3 x4 s} (h : P s) : P (raiseCe x1 x2 x3 x4 s) := by
  unfold raiseCe
  repeat'
    first
    | with_reducible assumption | with_reducible apply (keep_raise C kR) | dsimp only

theorem keep_bump48 (kR : RaiseSet w) {x1 x2 x3 x4 x5 x6 s} (h : P s) : P (bump48 x1 x2 x3 x4 x5 x6 s) := by
  unfold bump48
  repeat'
    first
    | with_reducible assumption | with_reducible apply (keep_bump48Quiet C kR.regs)
    | with_reducible apply (keep_raiseCe C kR) | (intro x; have hx : P x := ?_; clear_value x) | intro x | subst x
    | lift_lets | split | dsimp only

theorem keep_bump32 (kR : RaiseSet w) {x1 x2 x3 x4 x5 x6 s} (h : P s) : P (bump32 x1 x2 x3 x4 x5 x6 s) := by
  unfold bump32
  repeat'
    first
    | with_reducible assumption | with_reducible apply (C.rset kR.regs) | with_reducible apply (keep_raiseCe C kR)
    | (intro x; have hx : P x := ?_; clear_value x) | intro x | subst x | lift_lets | split | dsimp only

theorem keep_recordSlip (kR : RaiseSet w) {x1 x2 x3 x4 s} (h : P s) : P (recordSlip x1 x2 x3 x4 s) := by
  unfold recordSlip
  repeat'
    first
    | with_reducible assumption | with_reducible apply (keep_bump48 C kR)
    | with_reducible apply (keep_noteRecord C kR.regs kR.faults) | with_reducible apply (keep_raise C kR)
    | with_reducible refine foldl_keep (fun s b hs => ?_) ?_ | (intro x; have hx : P x := ?_; clear_value x)
    | intro x | subst x | lift_lets | split | dsimp only

theorem keep_slip (kR : RaiseSet w) {x1 x2 x3 x4 x5 x6 x7 s} (h : P s) : P (slip x1 x2 x3 x4 x5 x6 x7 s) := by
  unfold slip
  repeat'
    first
    | with_reducible assumption | with_reducible apply (keep_recordSlip C kR)
    | with_reducible apply (keep_raise C kR) | dsimp only

theorem keep_coreSlip (kR : RaiseSet w) {x1 x2 x3 x4 s} (h : P s) : P (coreSlip x1 x2 x3 x4 s) := by
  unfold coreSlip
  repeat'
    first
    | with_reducible assumption | with_reducible apply (keep_recordSlip C kR)
    | with_reducible apply (keep_raise C kR) | dsimp only

theorem keep_charge (kenergy : w .energy) {x1 x2 x3 s} (h : P s) : P (charge x1 x2 x3 s) := by
  unfold charge
  repeat'
    first
    | with_reducible assumption | fail_if_no_progress with_reducible apply (C.energy kenergy)
    | (intro x; have hx : P x := ?_; clear_value x) | intro x | subst x | lift_lets | dsimp only

theorem keep_chargeJob (kenergy : w .energy) {x1 x2 x3 s} (h : P s) : P (chargeJob x1 x2 x3 s) := by
  unfold chargeJob
  repeat'
    first
    | with_reducible assumption | with_reducible apply (keep_charge C kenergy) | split | dsimp only

theorem keep_chargePart (kenergy : w .energy) {x1 x2 x3 s} (h : P s) : P (chargePart x1 x2 x3 s) := by
  unfold chargePart
  repeat'
    first
    | with_reducible assumption | fail_if_no_progress with_reducible apply (C.energy kenergy)
    | (intro x; have hx : P x := ?_; clear_value x) | intro x | subst x | lift_lets | dsimp only

theorem keep_setSramLine (ksram : w .sram) {x1 x2 x3 s} (h : P s) : P (setSramLine x1 x2 x3 s) := by
  unfold setSramLine
  repeat'
    first
    | with_reducible assumption | apply (C.sramPut ksram) | dsimp only

theorem keep_setHubLine (khub : w .hub) (kmem : w .mem) {x1 x2 x3 s} (h : P s) : P (setHubLine x1 x2 x3 s) := by
  unfold setHubLine
  repeat'
    first
    | with_reducible assumption | with_reducible apply (keep_noteHub C kmem) | apply (C.hubPut khub)
    | (intro x; have hx : P x := ?_; clear_value x) | intro x | subst x | lift_lets | dsimp only

theorem keep_coreSees (ksram : w .sram) {s} (h : P s) : P (coreSees s) := by
  unfold coreSees
  split
  · generalize s.serve.oldLines = l
    induction l with
    | nil => exact h
    | cons e t ih =>
      simp only [List.foldr_cons, memPutLine] at ih ⊢
      exact C.sramPut ksram (s := { s with sram := List.foldr _ s.sram t }) ih
  · exact h

theorem keep_setGatherLine (ksram : w .sram) (kserve : w .serve) {x1 x2 x3 s} (h : P s) : P (setGatherLine x1 x2 x3 s) := by
  unfold setGatherLine
  repeat'
    first
    | with_reducible assumption | with_reducible apply (keep_setSramLine C ksram)
    | fail_if_no_progress with_reducible apply (C.serve kserve) | (intro x; have hx : P x := ?_; clear_value x)
    | intro x | subst x | lift_lets | split | dsimp only

/-! ## Operands -/

theorem keep_putBits (ksram : w .sram) {x1 x2 x3 x4 s} (h : P s) : P (putBits x1 x2 x3 x4 s) := by
  unfold putBits
  repeat'
    first
    | with_reducible assumption | apply (C.sramPut ksram) | (intro x; have hx : P x := ?_; clear_value x) | intro x
    | subst x | lift_lets | dsimp only

theorem keep_noteSram (kmem : w .mem) {x1 x2 s} (h : P s) : P (noteSram x1 x2 s) := by
  unfold noteSram
  repeat'
    first
    | with_reducible assumption | fail_if_no_progress with_reducible apply (C.mem kmem) | split | dsimp only

theorem keep_noteTiles (kmem : w .mem) {x1 x2 s} (h : P s) : P (noteTiles x1 x2 s) := by
  unfold noteTiles
  repeat'
    first
    | with_reducible assumption | with_reducible apply (keep_noteSram C kmem) | dsimp only

theorem keep_sramForget (kmem : w .mem) {x1 s} (h : P s) : P (sramForget x1 s) := by
  unfold sramForget
  repeat'
    first
    | with_reducible assumption | fail_if_no_progress with_reducible apply (C.mem kmem) | split | dsimp only

theorem keep_atCycle (know : w .now) {x1 x2 s} (hf : ∀ s, P s → P (x2 s)) (h : P s) : P (atCycle x1 x2 s) :=
  C.atCycle know hf h

theorem keep_setTileLine (ksram : w .sram) {x1 x2 x3 x4 s} (h : P s) : P (setTileLine x1 x2 x3 x4 s) := by
  unfold setTileLine
  repeat'
    first
    | with_reducible assumption | with_reducible apply (keep_setSramLine C ksram)
    | (intro x; have hx : P x := ?_; clear_value x) | (intro x; have hx : P x.2 := ?_; clear_value x)
    | (intro x; have hx : P x.2.2 := ?_; clear_value x) | intro x | subst x | lift_lets | split | dsimp only

/-! ## Windows -/

theorem keep_countHbmRead (kR : RaiseSet w) {x1 s} (h : P s) : P (countHbmRead x1 s) := by
  unfold countHbmRead
  repeat'
    first
    | with_reducible assumption | with_reducible apply (keep_bump48 C kR) | dsimp only

theorem keep_hbmCorrected (kR : RaiseSet w) {x1 x2 s} (h : P s) : P (hbmCorrected x1 x2 s) := by
  unfold hbmCorrected
  repeat'
    first
    | with_reducible assumption | with_reducible apply (keep_raiseCe C kR) | with_reducible apply (keep_bump32 C kR)
    | dsimp only

theorem keep_hbmUncorrectable (kR : RaiseSet w) {x1 x2 x3 x4 x5 s} (h : P s) : P (hbmUncorrectable x1 x2 x3 x4 x5 s) := by
  unfold hbmUncorrectable
  repeat'
    first
    | with_reducible assumption | with_reducible apply (keep_bump32 C kR)
    | with_reducible apply (keep_noteRecord C kR.regs kR.faults) | with_reducible apply (keep_raise C kR)
    | (intro x; have hx : P x := ?_; clear_value x) | intro x | subst x | lift_lets | dsimp only

theorem keep_hbmParity (kR : RaiseSet w) {x1 x2 x3 s} (h : P s) : P (hbmParity x1 x2 x3 s) := by
  fun_induction hbmParity x1 x2 x3 s
  all_goals
  repeat'
    first
    | with_reducible assumption | with_reducible refine of_ih ‹P _ → P _› ?_
    | with_reducible apply (keep_raiseCe C kR) | with_reducible apply (keep_bump32 C kR) | split | dsimp only

theorem keep_hbmRead (kR : RaiseSet w) {x1 x2 x3 s} (h : P s) : P (hbmRead x1 x2 x3 s).2 := by
  unfold hbmRead
  repeat'
    first
    | with_reducible assumption | with_reducible apply (keep_countHbmRead C kR)
    | with_reducible apply (keep_hbmParity C kR) | with_reducible apply (keep_hbmCorrected C kR)
    | with_reducible apply (keep_hbmUncorrectable C kR) | (intro x; have hx : P x := ?_; clear_value x)
    | (intro x; have hx : P x.2 := ?_; clear_value x) | (intro x; have hx : P x.2.2 := ?_; clear_value x) | intro x
    | subst x | lift_lets | split | dsimp only

theorem keep_countCrest (kR : RaiseSet w) {x1 x2 s} (h : P s) : P (countCrest x1 x2 s) := by
  unfold countCrest
  repeat'
    first
    | with_reducible assumption | with_reducible apply (keep_bump48 C kR)
    | with_reducible refine foldl_keep (fun s b hs => ?_) ?_ | (intro x; have hx : P x := ?_; clear_value x)
    | intro x | subst x | lift_lets | split | dsimp only

theorem keep_crestRead (kR : RaiseSet w) {x1 x2 s} (h : P s) : P (crestRead x1 x2 s).2 := by
  unfold crestRead
  have h0 : P (x1.foldl (fun s x => countCrest x.1 x.2 s) s) := foldl_keep (fun _ _ hs => keep_countCrest C kR hs) h
  have key : ∀ (l : List (Nat × SymErrs)) (r : Bool × State), P r.2 → P (l.foldl (crestStep x1) r).2 := by
    intro l
    induction l with
    | nil => exact fun _ hr => hr
    | cons e t ih =>
      refine fun r hr => ih _ ?_
      unfold crestStep
      have hp := fun p => keep_hbmParity C kR (x1 := (hbmPlace r.2 p).1) (x2 := (hbmPlace r.2 p).2) (x3 := e.2) hr
      repeat' first
        | with_reducible assumption
        | exact hp _
        | with_reducible apply keep_hbmCorrected C kR
        | with_reducible apply keep_hbmUncorrectable C kR
        | split
        | dsimp only
  exact key _ _ h0

/-! ## Sequencer -/

theorem keep_raiseFail (kR : RaiseSet w) {x1 x2 x3 s} (h : P s) : P (raiseFail x1 x2 x3 s) := by
  unfold raiseFail
  repeat'
    first
    | with_reducible assumption | with_reducible apply (keep_raise C kR) | with_reducible apply (keep_coreSlip C kR)
    | split | dsimp only

theorem keep_addWire (kfab : w .fab) {x1 s} (h : P s) : P (addWire x1 s) := by
  unfold addWire
  repeat'
    first
    | with_reducible assumption | fail_if_no_progress with_reducible apply (C.fab kfab) | dsimp only

theorem keep_issueEffect (kcores : w .cores) (kfab : w .fab) {x1 x2 x3 x4 x5 s} (h : P s) : P (issueEffect x1 x2 x3 x4 x5 s) := by
  unfold issueEffect
  repeat'
    first
    | with_reducible assumption | with_reducible apply (keep_addWire C kfab)
    | with_reducible apply (keep_modCore C kcores) | with_reducible refine foldl_keep (fun s b hs => ?_) ?_
    | (intro x; have hx : P x := ?_; clear_value x) | intro x | subst x | lift_lets | split | dsimp only

theorem keep_doIssue (kR : RaiseSet w) (kfab : w .fab) (kenergy : w .energy) {x1 x2 x3 x4 s} (h : P s) : P (doIssue x1 x2 x3 x4 s) := by
  unfold doIssue
  repeat'
    first
    | with_reducible assumption | with_reducible apply (keep_setCore C kR.cores)
    | with_reducible apply (keep_bump48 C kR) | with_reducible apply (keep_issueEffect C kR.cores kfab)
    | with_reducible apply (keep_charge C kenergy) | (intro x; have hx : P x := ?_; clear_value x) | intro x
    | subst x | lift_lets | dsimp only

theorem keep_checkAndIssue (kR : RaiseSet w) (kfab : w .fab) (kenergy : w .energy) {x1 x2 x3 x4 s} (h : P s) : P (checkAndIssue x1 x2 x3 x4 s) := by
  unfold checkAndIssue
  repeat'
    first
    | with_reducible assumption | with_reducible apply (keep_raiseFail C kR)
    | with_reducible apply (keep_doIssue C kR kfab kenergy) | with_reducible apply (keep_raise C kR)
    | (intro x; have hx : P x := ?_; clear_value x) | intro x | subst x | lift_lets | split | dsimp only

theorem keep_fetchCheck (kR : RaiseSet w) {x1 x2 x3 s} (h : P s) : P (fetchCheck x1 x2 x3 s) := by
  unfold fetchCheck
  repeat'
    first
    | with_reducible assumption | with_reducible apply (keep_raiseCe C kR) | with_reducible apply (keep_raise C kR)
    | (intro x; have hx : P x := ?_; clear_value x) | intro x | subst x | lift_lets | split | dsimp only

theorem keep_issue (kR : RaiseSet w) (kfab : w .fab) (kenergy : w .energy) {x1 x2 x3 x4 x5 s} (h : P s) : P (issue x1 x2 x3 x4 x5 s) := by
  unfold issue
  repeat'
    first
    | with_reducible assumption | with_reducible apply (keep_fetchCheck C kR)
    | with_reducible apply (keep_raiseFail C kR) | with_reducible apply (keep_checkAndIssue C kR kfab kenergy)
    | (intro x; have hx : P x := ?_; clear_value x) | intro x | subst x | lift_lets | split | dsimp only

theorem keep_notReady (kR : RaiseSet w) (know : w .now) {x1 x2 s} (h : P s) : P (notReady x1 x2 s) := by
  unfold notReady
  repeat'
    first
    | with_reducible assumption | with_reducible apply (keep_coreSlip C kR) | with_reducible apply (C.passTo know)
    | (intro x; have hx : P x := ?_; clear_value x) | intro x | subst x | lift_lets | split | dsimp only

/-! ## Monitor -/

theorem keep_setRng (krng : w .rng) {x1 x2 s} (h : P s) : P (setRng x1 x2 s) := by
  unfold setRng
  repeat'
    first
    | with_reducible assumption | fail_if_no_progress with_reducible apply (C.rng krng) | dsimp only

theorem keep_liveAdd (klive : w .live) {x1 x2 x3 s} (h : P s) : P (liveAdd x1 x2 x3 s) := by
  unfold liveAdd
  repeat'
    first
    | with_reducible assumption | fail_if_no_progress with_reducible apply (C.live klive)
    | (intro x; have hx : P x := ?_; clear_value x) | intro x | subst x | lift_lets | dsimp only

theorem keep_countElem (klive : w .live) {x1 x2 s} (h : P s) : P (countElem x1 x2 s) := by
  unfold countElem
  repeat'
    first
    | with_reducible assumption | with_reducible apply (keep_liveAdd C klive)
    | (intro x; have hx : P x := ?_; clear_value x) | intro x | subst x | lift_lets | split | dsimp only

theorem keep_writeElems (ksram : w .sram) (klive : w .live) {x1 x2 x3 x4 s} (h : P s) : P (writeElems x1 x2 x3 x4 s) := by
  fun_induction writeElems x1 x2 x3 x4 s
  all_goals
  repeat'
    first
    | with_reducible assumption | with_reducible refine of_ih ‹P _ → P _› ?_
    | with_reducible apply (keep_putBits C ksram) | with_reducible apply (keep_countElem C klive)
    | (intro x; have hx : P x := ?_; clear_value x) | intro x | subst x | lift_lets | split | dsimp only

theorem keep_writeTiles (ksram : w .sram) (klive : w .live) {x1 x2 s} (h : P s) : P (writeTiles x1 x2 s) := by
  fun_induction writeTiles x1 x2 s
  all_goals
  repeat'
    first
    | with_reducible assumption | with_reducible refine of_ih ‹P _ → P _› ?_
    | with_reducible apply (keep_writeElems C ksram klive) | split | dsimp only

theorem keep_countBanks (kR : RaiseSet w) {x1 x2 s} (h : P s) : P (countBanks x1 x2 s) := by
  unfold countBanks
  repeat'
    first
    | with_reducible assumption | with_reducible apply (keep_bump48 C kR) | dsimp only

theorem keep_sramCheck (kR : RaiseSet w) {x1 x2 s} (h : P s) : P (sramCheck x1 x2 s) := by
  unfold sramCheck
  repeat'
    first
    | with_reducible assumption | with_reducible apply (keep_raiseCe C kR) | with_reducible apply (keep_raise C kR)
    | split | dsimp only

theorem keep_sramChecks (kR : RaiseSet w) {x1 x2 s} (h : P s) : P (sramChecks x1 x2 s) := by
  fun_induction sramChecks x1 x2 s
  all_goals
  repeat'
    first
    | with_reducible assumption | with_reducible refine of_ih ‹P _ → P _› ?_
    | with_reducible apply (keep_sramCheck C kR) | split | dsimp only

/-! ## Array -/

theorem keep_mmaBegin (kR : RaiseSet w) (ksram : w .sram) {x1 x2 s} (h : P s) : P (mmaBegin x1 x2 s) := by
  unfold mmaBegin
  repeat'
    first
    | with_reducible assumption | with_reducible apply (keep_sramChecks C kR)
    | with_reducible apply (keep_setCore C kR.cores) | with_reducible apply (keep_coreSees C ksram)
    | (intro x; have hx : P x := ?_; clear_value x) | (intro x; have hx : P x.2 := ?_; clear_value x)
    | (intro x; have hx : P x.2.2 := ?_; clear_value x) | intro x | subst x | lift_lets | split | dsimp only

theorem keep_mmaComplete (kR : RaiseSet w) (know : w .now) (ksram : w .sram) (klive : w .live) (kenergy : w .energy) {x1 x2 s} (h : P s) : P (mmaComplete x1 x2 s) := by
  unfold mmaComplete
  repeat'
    first
    | with_reducible assumption | with_reducible apply (keep_countBanks C kR) | with_reducible apply (C.passTo know)
    | with_reducible apply (keep_writeElems C ksram klive) | with_reducible apply (keep_noteTiles C kR.mem)
    | with_reducible apply (keep_charge C kenergy) | with_reducible apply (keep_modCore C kR.cores)
    | (intro x; have hx : P x := ?_; clear_value x) | (intro x; have hx : P x.2 := ?_; clear_value x)
    | (intro x; have hx : P x.2.2 := ?_; clear_value x) | intro x | subst x | lift_lets | split | dsimp only

/-! ## Faults -/

theorem keep_modFaults (kfaults : w .faults) {x1 s} (h : P s) : P (modFaults x1 s) := by
  unfold modFaults
  repeat'
    first
    | with_reducible assumption | fail_if_no_progress with_reducible apply (C.faults kfaults) | dsimp only

theorem keep_setFltEntry (kfaults : w .faults) {x1 x2 s} (h : P s) : P (setFltEntry x1 x2 s) := by
  unfold setFltEntry
  repeat'
    first
    | with_reducible assumption | with_reducible apply (keep_modFaults C kfaults) | dsimp only

theorem keep_takeReport (kfree : w .free) (kregs : w .regs) (kfaults : w .faults) {x1 s} (h : P s) : P (takeReport x1 s) := by
  unfold takeReport
  repeat'
    first
    | with_reducible assumption | with_reducible apply (keep_setFltEntry C kfaults)
    | with_reducible apply (C.drawFree kfree) | with_reducible apply (keep_recordCause C kregs kfaults)
    | with_reducible apply (keep_logEvent C kregs kfaults) | with_reducible apply (keep_modFaults C kfaults)
    | with_reducible apply (keep_dropReport C kregs kfaults) | (intro x; have hx : P x := ?_; clear_value x)
    | intro x | subst x | lift_lets | split | dsimp only

theorem keep_coalescerTake (know : w .now) (kfree : w .free) (kregs : w .regs) (kfaults : w .faults) {s} (h : P s) : P (coalescerTake s) := by
  unfold coalescerTake
  repeat'
    first
    | with_reducible assumption | with_reducible apply (C.passTo know)
    | with_reducible apply (keep_takeReport C kfree kregs kfaults) | with_reducible apply (keep_modFaults C kfaults)
    | (intro x; have hx : P x := ?_; clear_value x) | intro x | subst x | lift_lets | split | dsimp only

theorem keep_logFatal (kregs : w .regs) (kfaults : w .faults) {x1 s} (h : P s) : P (logFatal x1 s) := by
  fun_induction logFatal x1 s
  all_goals
  repeat'
    first
    | with_reducible assumption | with_reducible refine of_ih ‹P _ → P _› ?_
    | with_reducible apply (keep_logEvent C kregs kfaults) | split | dsimp only

theorem keep_queueReports (kregs : w .regs) (kfaults : w .faults) {x1 s} (h : P s) : P (queueReports x1 s) := by
  fun_induction queueReports x1 s
  all_goals
  repeat'
    first
    | with_reducible assumption | with_reducible refine of_ih ‹P _ → P _› ?_
    | with_reducible apply (keep_enqueueReport C kregs kfaults) | split | dsimp only

theorem keep_fatalEventLog (know : w .now) (kregs : w .regs) (kfaults : w .faults) (kdev : w .dev) {s} (h : P s) : P (fatalEventLog s) := by
  unfold fatalEventLog
  repeat'
    first
    | with_reducible assumption | with_reducible apply (keep_queueReports C kregs kfaults)
    | with_reducible apply (keep_logFatal C kregs kfaults) | with_reducible apply (keep_modFaults C kfaults)
    | with_reducible apply (C.passTo know) | fail_if_no_progress with_reducible apply (C.dev kdev)
    | (intro x; have hx : P x := ?_; clear_value x) | intro x | subst x | lift_lets | split | dsimp only

theorem keep_intAck (kfaults : w .faults) {s} (h : P s) : P (intAck s) := by
  unfold intAck
  repeat'
    first
    | with_reducible assumption | with_reducible apply (keep_modFaults C kfaults) | dsimp only

theorem keep_fltClear (kfaults : w .faults) {s} (h : P s) : P (fltClear s) := by
  unfold fltClear
  repeat'
    first
    | with_reducible assumption | with_reducible apply (keep_setFltEntry C kfaults)
    | (intro x; have hx : P x := ?_; clear_value x) | intro x | subst x | lift_lets | split | dsimp only

theorem keep_stormClear (kfaults : w .faults) {s} (h : P s) : P (stormClear s) := by
  unfold stormClear
  repeat'
    first
    | with_reducible assumption | with_reducible apply (keep_modFaults C kfaults) | dsimp only

theorem keep_fltCtl (kfaults : w .faults) {x1 s} (h : P s) : P (fltCtl x1 s) := by
  unfold fltCtl
  repeat'
    first
    | with_reducible assumption | with_reducible apply (keep_intAck C kfaults)
    | with_reducible apply (keep_fltClear C kfaults) | with_reducible apply (keep_stormClear C kfaults)
    | (intro x; have hx : P x := ?_; clear_value x) | intro x | subst x | lift_lets | split | dsimp only

/-! ## Pairing -/

theorem keep_t7Set (kR : RaiseSet w) (krng : w .rng) {x1 x2 s} (h : P s) : P (t7Set x1 x2 s) := by
  fun_induction t7Set x1 x2 s
  all_goals
  repeat'
    first
    | with_reducible assumption | with_reducible refine of_ih ‹P _ → P _› ?_
    | with_reducible apply (keep_logEvent C kR.regs kR.faults) | with_reducible apply (keep_raiseCe C kR)
    | fail_if_no_progress with_reducible apply (C.rng krng)
    | fail_if_no_progress with_reducible apply (C.cairn kR.cairn) | (intro x; have hx : P x := ?_; clear_value x)
    | intro x | subst x | lift_lets | split | dsimp only

theorem keep_restoreReject (kR : RaiseSet w) {x1 x2 s} (h : P s) : P (restoreReject x1 x2 s) := by
  unfold restoreReject
  repeat'
    first
    | with_reducible assumption | with_reducible apply (keep_raiseCe C kR)
    | fail_if_no_progress with_reducible apply (C.cairn kR.cairn) | dsimp only

theorem keep_restoreStart (kR : RaiseSet w) (krng : w .rng) {x1 x2 x3 s} (h : P s) : P (restoreStart x1 x2 x3 s) := by
  unfold restoreStart
  repeat'
    first
    | with_reducible assumption | with_reducible apply (keep_crestRead C kR)
    | with_reducible apply (keep_t7Set C kR krng) | with_reducible apply (keep_restoreReject C kR)
    | fail_if_no_progress with_reducible apply (C.cairn kR.cairn) | (intro x; have hx : P x := ?_; clear_value x)
    | (intro x; have hx : P x.2 := ?_; clear_value x) | (intro x; have hx : P x.2.2 := ?_; clear_value x) | intro x
    | subst x | lift_lets | with_reducible refine of_quad ‹_ = (_, _, _, _)› ?_
    | with_reducible refine of_triple ‹_ = (_, _, _)› ?_ | with_reducible refine of_pair ‹_ = (_, _)› ?_ | split
    | dsimp only

theorem keep_tellPairing (klinks : w .links) {s} (h : P s) : P (tellPairing s) := by
  unfold tellPairing
  repeat'
    first
    | with_reducible assumption | with_reducible apply (keep_sendSlot C klinks)
    | with_reducible refine foldl_keep (fun s b hs => ?_) ?_ | dsimp only

theorem keep_pairCheck (kR : RaiseSet w) {s} (h : P s) : P (pairCheck s) := by
  unfold pairCheck
  repeat'
    first
    | with_reducible assumption | with_reducible apply (keep_raiseCe C kR)
    | fail_if_no_progress with_reducible apply (C.pair kR.pair) | (intro x; have hx : P x := ?_; clear_value x)
    | intro x | subst x | lift_lets | split | dsimp only

theorem keep_pairSend (klinks : w .links) {x1 x2 s} (h : P s) : P (pairSend x1 x2 s) := by
  unfold pairSend
  repeat'
    first
    | with_reducible assumption | with_reducible apply (keep_sendSlot C klinks)
    | with_reducible refine foldl_keep (fun s b hs => ?_) ?_ | dsimp only

theorem keep_pairHeld (kR : RaiseSet w) {x1 s} (h : P s) : P (pairHeld x1 s) := by
  unfold pairHeld
  repeat'
    first
    | with_reducible assumption | with_reducible apply (keep_raise C kR)
    | fail_if_no_progress with_reducible apply (C.pair kR.pair) | dsimp only

theorem keep_rollbackIfAgreed (kR : RaiseSet w) (krng : w .rng) {s} (h : P s) : P (rollbackIfAgreed s) := by
  unfold rollbackIfAgreed
  repeat'
    first
    | with_reducible assumption | with_reducible apply (keep_restoreStart C kR krng)
    | fail_if_no_progress with_reducible apply (C.pair kR.pair) | (intro x; have hx : P x := ?_; clear_value x)
    | intro x | subst x | lift_lets | split | dsimp only

theorem keep_rollback (kR : RaiseSet w) (krng : w .rng) {x1 s} (h : P s) : P (rollback x1 s) := by
  unfold rollback
  repeat'
    first
    | with_reducible assumption | with_reducible apply (keep_pairHeld C kR)
    | with_reducible apply (keep_bump48 C kR) | with_reducible apply (keep_rollbackIfAgreed C kR krng)
    | with_reducible apply (keep_pairSend C kR.links) | fail_if_no_progress with_reducible apply (C.pair kR.pair)
    | (intro x; have hx : P x := ?_; clear_value x) | intro x | subst x | lift_lets | split | dsimp only

theorem keep_recordDivergence (kregs : w .regs) {x1 x2 x3 x4 s} (h : P s) : P (recordDivergence x1 x2 x3 x4 s) := by
  unfold recordDivergence
  repeat'
    first
    | with_reducible assumption | with_reducible apply (keep_rset64 C kregs)
    | with_reducible apply (keep_setReg C kregs) | dsimp only

theorem keep_diverge (kR : RaiseSet w) (krng : w .rng) {x1 x2 x3 s} (h : P s) : P (diverge x1 x2 x3 s) := by
  unfold diverge
  repeat'
    first
    | with_reducible assumption | with_reducible apply (keep_setReg C kR.regs)
    | with_reducible apply (keep_recordDivergence C kR.regs) | with_reducible apply (keep_raise C kR)
    | with_reducible apply (keep_pairHeld C kR) | with_reducible apply (keep_pairSend C kR.links)
    | with_reducible apply (keep_rollback C kR krng) | fail_if_no_progress with_reducible apply (C.pair kR.pair)
    | (intro x; have hx : P x := ?_; clear_value x) | intro x | subst x | lift_lets | split | dsimp only

theorem keep_traceDiverge (kR : RaiseSet w) (krng : w .rng) {x1 x2 x3 s} (h : P s) : P (traceDiverge x1 x2 x3 s) := by
  unfold traceDiverge
  repeat'
    first
    | with_reducible assumption | with_reducible apply (keep_raiseCe C kR)
    | with_reducible apply (keep_diverge C kR krng) | fail_if_no_progress with_reducible apply (C.pair kR.pair)
    | (intro x; have hx : P x := ?_; clear_value x) | intro x | subst x | lift_lets | split | dsimp only

theorem keep_pairMismatch (kR : RaiseSet w) (krng : w .rng) {x1 s} (h : P s) : P (pairMismatch x1 s) := by
  unfold pairMismatch
  repeat'
    first
    | with_reducible assumption | with_reducible apply (keep_diverge C kR krng)
    | with_reducible apply (keep_pairSend C kR.links) | with_reducible apply (keep_traceDiverge C kR krng)
    | fail_if_no_progress with_reducible apply (C.pair kR.pair) | (intro x; have hx : P x := ?_; clear_value x)
    | intro x | subst x | lift_lets | split | dsimp only

theorem keep_pairCompare (kR : RaiseSet w) (krng : w .rng) {x1 x2 s} (h : P s) : P (pairCompare x1 x2 s) := by
  unfold pairCompare
  repeat'
    first
    | with_reducible assumption | with_reducible apply (keep_bump48 C kR)
    | with_reducible apply (keep_pairMismatch C kR krng)
    | fail_if_no_progress with_reducible apply (C.cairn kR.cairn)
    | fail_if_no_progress with_reducible apply (C.pair kR.pair)
    | fail_if_no_progress with_reducible apply (Closed.cairnPair C kR.cairn kR.pair)
    | (intro x; have hx : P x := ?_; clear_value x) | intro x | subst x | lift_lets | split | dsimp only

theorem keep_ownValue (kR : RaiseSet w) (krng : w .rng) {x1 s} (h : P s) : P (ownValue x1 s) := by
  unfold ownValue
  repeat'
    first
    | with_reducible assumption | with_reducible apply (keep_pairSend C kR.links)
    | with_reducible apply (keep_pairCompare C kR krng) | fail_if_no_progress with_reducible apply (C.pair kR.pair)
    | (intro x; have hx : P x := ?_; clear_value x) | intro x | subst x | lift_lets | split | dsimp only

theorem keep_peerValue (kR : RaiseSet w) (krng : w .rng) {x1 s} (h : P s) : P (peerValue x1 s) := by
  unfold peerValue
  repeat'
    first
    | with_reducible assumption | with_reducible apply (keep_pairCompare C kR krng)
    | fail_if_no_progress with_reducible apply (C.pair kR.pair) | split | dsimp only

/-! ## Mover -/

theorem keep_stopMov (kcores : w .cores) {x1 x2 s} (h : P s) : P (stopMov x1 x2 s) := by
  unfold stopMov
  repeat'
    first
    | with_reducible assumption | with_reducible apply (keep_modCore C kcores) | dsimp only

theorem keep_hubCheck (kR : RaiseSet w) {x1 x2 x3 x4 s} (h : P s) : P (hubCheck x1 x2 x3 x4 s) := by
  unfold hubCheck
  repeat'
    first
    | with_reducible assumption | with_reducible apply (keep_raise C kR) | with_reducible apply (keep_bump32 C kR)
    | with_reducible apply (keep_raiseCe C kR) | split | dsimp only

theorem keep_portCheck (kR : RaiseSet w) {x1 x2 s} (h : P s) : P (portCheck x1 x2 s) := by
  unfold portCheck
  repeat'
    first
    | with_reducible assumption | with_reducible apply (keep_raiseCe C kR) | with_reducible apply (keep_raise C kR)
    | split | dsimp only

theorem keep_portChecks (kR : RaiseSet w) {x1 x2 s} (h : P s) : P (portChecks x1 x2 s) := by
  fun_induction portChecks x1 x2 s
  all_goals
  repeat'
    first
    | with_reducible assumption | with_reducible refine of_ih ‹P _ → P _› ?_
    | with_reducible apply (keep_portCheck C kR) | split | dsimp only

theorem keep_hubChecks (kR : RaiseSet w) {x1 x2 x3 x4 s} (h : P s) : P (hubChecks x1 x2 x3 x4 s) := by
  fun_induction hubChecks x1 x2 x3 x4 s
  all_goals
  repeat'
    first
    | with_reducible assumption | with_reducible refine of_ih ‹P _ → P _› ?_
    | with_reducible apply (keep_hubCheck C kR) | split | dsimp only

theorem keep_landLines (ksram : w .sram) {x1 x2 x3 x4 s} (h : P s) : P (landLines x1 x2 x3 x4 s) := by
  fun_induction landLines x1 x2 x3 x4 s
  all_goals
  repeat'
    first
    | with_reducible assumption | with_reducible refine of_ih ‹P _ → P _› ?_
    | with_reducible apply (keep_setTileLine C ksram) | split | dsimp only

theorem keep_movBegin (kcores : w .cores) (kfab : w .fab) {x1 x2 s} (h : P s) : P (movBegin x1 x2 s) := by
  unfold movBegin
  repeat'
    first
    | with_reducible assumption | with_reducible apply (keep_setCore C kcores)
    | with_reducible apply (keep_modCore C kcores) | with_reducible apply (keep_addWire C kfab)
    | (intro x; have hx : P x := ?_; clear_value x) | intro x | subst x | lift_lets | split | dsimp only

theorem keep_sendMoved (kcores : w .cores) (kenergy : w .energy) {x1 x2 s} (h : P s) : P (sendMoved x1 x2 s) := by
  unfold sendMoved
  repeat'
    first
    | with_reducible assumption | with_reducible apply (keep_charge C kenergy)
    | with_reducible apply (keep_modCore C kcores) | dsimp only

theorem keep_sendComplete (kR : RaiseSet w) (kfab : w .fab) (kenergy : w .energy) {x1 x2 x3 x4 s} (h : P s) : P (sendComplete x1 x2 x3 x4 s) := by
  unfold sendComplete
  repeat'
    first
    | with_reducible assumption | with_reducible apply (keep_countBanks C kR)
    | with_reducible apply (keep_stopMov C kR.cores) | with_reducible apply (keep_sramCheck C kR)
    | with_reducible apply (keep_charge C kenergy) | with_reducible apply (keep_addWire C kfab)
    | with_reducible apply (keep_sramForget C kR.mem) | with_reducible apply (keep_modCore C kR.cores)
    | (intro x; have hx : P x := ?_; clear_value x) | intro x | subst x | lift_lets | split | dsimp only

theorem keep_flitLand (kR : RaiseSet w) (ksram : w .sram) (kenergy : w .energy) {x1 x2 s} (h : P s) : P (flitLand x1 x2 s) := by
  unfold flitLand
  repeat'
    first
    | with_reducible assumption | with_reducible apply (keep_modCore C kR.cores)
    | with_reducible apply (keep_raise C kR) | with_reducible apply (keep_charge C kenergy)
    | with_reducible apply (keep_setTileLine C ksram) | with_reducible apply (keep_noteSram C kR.mem)
    | (intro x; have hx : P x := ?_; clear_value x) | intro x | subst x | lift_lets | split | dsimp only

theorem keep_recvComplete (kR : RaiseSet w) {x1 x2 x3 s} (h : P s) : P (recvComplete x1 x2 x3 s) := by
  unfold recvComplete
  repeat'
    first
    | with_reducible assumption | with_reducible apply (keep_modCore C kR.cores)
    | with_reducible apply (keep_countBanks C kR) | (intro x; have hx : P x := ?_; clear_value x) | intro x
    | subst x | lift_lets | split | dsimp only

theorem keep_chargePort (kenergy : w .energy) {x1 x2 x3 s} (h : P s) : P (chargePort x1 x2 x3 s) := by
  unfold chargePort
  repeat'
    first
    | with_reducible assumption | with_reducible apply (keep_chargePart C kenergy)
    | with_reducible apply (keep_charge C kenergy) | dsimp only

theorem keep_hubForget (kmem : w .mem) {x1 s} (h : P s) : P (hubForget x1 s) := by
  unfold hubForget
  repeat'
    first
    | with_reducible assumption | fail_if_no_progress with_reducible apply (C.mem kmem) | split | dsimp only

theorem keep_hrdLand (kR : RaiseSet w) (ksram : w .sram) (kenergy : w .energy) {x1 x2 x3 s} (h : P s) : P (hrdLand x1 x2 x3 s) := by
  unfold hrdLand
  repeat'
    first
    | with_reducible assumption | with_reducible apply (keep_chargePort C kenergy)
    | with_reducible apply (keep_bump48 C kR) | with_reducible apply (keep_landLines C ksram)
    | with_reducible apply (keep_noteSram C kR.mem) | (intro x; have hx : P x := ?_; clear_value x) | intro x
    | subst x | lift_lets | dsimp only

theorem keep_hrdStopped (kR : RaiseSet w) (know : w .now) (ksram : w .sram) (kenergy : w .energy) {x1 x2 x3 x4 x5 s} (h : P s) : P (hrdStopped x1 x2 x3 x4 x5 s) := by
  unfold hrdStopped
  repeat'
    first
    | with_reducible assumption | with_reducible apply (keep_hubChecks C kR) | with_reducible apply (C.passTo know)
    | with_reducible apply (keep_hubForget C kR.mem) | with_reducible apply (keep_stopMov C kR.cores)
    | with_reducible apply (keep_hrdLand C kR ksram kenergy) | with_reducible apply (keep_hubCheck C kR)
    | with_reducible apply (keep_raise C kR) | (intro x; have hx : P x := ?_; clear_value x) | intro x | subst x
    | lift_lets | split | dsimp only

theorem keep_hrdComplete (kR : RaiseSet w) (know : w .now) (ksram : w .sram) (kenergy : w .energy) {x1 x2 x3 s} (h : P s) : P (hrdComplete x1 x2 x3 s) := by
  unfold hrdComplete
  repeat'
    first
    | with_reducible assumption | with_reducible apply (keep_hrdStopped C kR know ksram kenergy)
    | with_reducible apply (keep_hubChecks C kR) | with_reducible apply (keep_countBanks C kR)
    | with_reducible apply (C.passTo know) | with_reducible apply (keep_hubForget C kR.mem)
    | with_reducible apply (keep_portChecks C kR) | with_reducible apply (keep_stopMov C kR.cores)
    | with_reducible apply (keep_hrdLand C kR ksram kenergy) | with_reducible apply (keep_modCore C kR.cores)
    | (intro x; have hx : P x := ?_; clear_value x) | intro x | subst x | lift_lets | split | dsimp only

theorem keep_writeHub (khub : w .hub) (kmem : w .mem) {x1 x2 x3 s} (h : P s) : P (writeHub x1 x2 x3 s) := by
  fun_induction writeHub x1 x2 x3 s
  all_goals
  repeat'
    first
    | with_reducible assumption | with_reducible refine of_ih ‹P _ → P _› ?_
    | with_reducible apply (keep_setLineSt C kmem) | with_reducible apply (keep_setHubLine C khub kmem) | split
    | dsimp only

theorem keep_hwrPutLine (know : w .now) (khub : w .hub) (kmem : w .mem) {x1 x2 x3 x4 s} (h : P s) : P (hwrPutLine x1 x2 x3 x4 s) := by
  unfold hwrPutLine
  repeat'
    first
    | with_reducible assumption | with_reducible refine keep_atCycle C know (fun s hs => ?_) ?_
    | with_reducible apply (keep_setLineSt C kmem) | with_reducible apply (keep_setHubLine C khub kmem) | split
    | dsimp only

theorem keep_hwrPutLines (know : w .now) (khub : w .hub) (kmem : w .mem) {x1 x2 x3 s} (h : P s) : P (hwrPutLines x1 x2 x3 s) := by
  fun_induction hwrPutLines x1 x2 x3 s
  all_goals
  repeat'
    first
    | with_reducible assumption | with_reducible refine of_ih ‹P _ → P _› ?_
    | with_reducible apply (keep_hwrPutLine C know khub kmem) | split | dsimp only

theorem keep_hwrWrite (kR : RaiseSet w) (know : w .now) (kenergy : w .energy) {x1 x2 x3 s} (h : P s) : P (hwrWrite x1 x2 x3 s) := by
  unfold hwrWrite
  repeat'
    first
    | with_reducible assumption | with_reducible apply (keep_chargePort C kenergy)
    | with_reducible apply (keep_bump48 C kR) | with_reducible apply (keep_hwrPutLines C know kR.hub kR.mem)
    | dsimp only

theorem keep_hwrFlush (kR : RaiseSet w) (know : w .now) (kenergy : w .energy) {x1 x2 s} (h : P s) : P (hwrFlush x1 x2 s) := by
  fun_induction hwrFlush x1 x2 s
  all_goals
  repeat'
    first
    | with_reducible assumption | with_reducible refine of_ih ‹P _ → P _› ?_
    | with_reducible apply (keep_hwrWrite C kR know kenergy) | split | dsimp only

theorem keep_hwrChecks (kR : RaiseSet w) (know : w .now) {x1 x2 x3 x4 x5 s} (h : P s) : P (hwrChecks x1 x2 x3 x4 x5 s) := by
  fun_induction hwrChecks x1 x2 x3 x4 x5 s
  all_goals
  repeat'
    first
    | with_reducible assumption | with_reducible refine of_ih ‹P _ → P _› ?_
    | with_reducible refine keep_atCycle C know (fun s hs => ?_) ?_ | with_reducible apply (keep_sramChecks C kR)
    | with_reducible apply (keep_portCheck C kR) | (intro x; have hx : P x := ?_; clear_value x) | intro x | subst x
    | lift_lets | split | dsimp only

theorem keep_hwrComplete (kR : RaiseSet w) (know : w .now) (kenergy : w .energy) {x1 x2 x3 s} (h : P s) : P (hwrComplete x1 x2 x3 s) := by
  unfold hwrComplete
  split
  · exact h
  · split
    · exact h
    · extract_lets q d n sent stop k last s1 s2
      have h1 : P s1 := keep_hwrWrite C kR know kenergy (keep_countBanks C kR (C.passTo know h))
      have h2 : P s2 := keep_hwrChecks C kR know h1
      clear_value s1 s2 k last stop
      split
      all_goals
        with_reducible apply keep_hubForget C kR.mem
        with_reducible apply keep_sramForget C kR.mem
      · with_reducible apply keep_raise C kR
        with_reducible apply keep_stopMov C kR.cores
        exact h2
      · with_reducible apply keep_stopMov C kR.cores
        exact h2
      · with_reducible apply keep_modCore C kR.cores
        exact h2

/-! ## Memory -/

theorem keep_setMove (kmem : w .mem) {x1 x2 s} (h : P s) : P (setMove x1 x2 s) := by
  unfold setMove
  repeat'
    first
    | with_reducible assumption | fail_if_no_progress with_reducible apply (C.mem kmem) | split | dsimp only

theorem keep_dropMove (kmem : w .mem) {x1 s} (h : P s) : P (dropMove x1 s) := by
  unfold dropMove
  repeat'
    first
    | with_reducible assumption | fail_if_no_progress with_reducible apply (C.mem kmem) | dsimp only

theorem keep_chargeMove (kenergy : w .energy) {x1 x2 x3 s} (h : P s) : P (chargeMove x1 x2 x3 s) := by
  unfold chargeMove
  repeat'
    first
    | with_reducible assumption | with_reducible apply (keep_charge C kenergy)
    | with_reducible apply (keep_chargePart C kenergy) | split | dsimp only

theorem keep_recordMiss (kregs : w .regs) (kfaults : w .faults) {x1 x2 x3 s} (h : P s) : P (recordMiss x1 x2 x3 s) := by
  unfold recordMiss
  repeat'
    first
    | with_reducible assumption | with_reducible apply (keep_noteRecord C kregs kfaults) | dsimp only

theorem keep_moveSlip (kR : RaiseSet w) {x1 x2 x3 x4 s} (h : P s) : P (moveSlip x1 x2 x3 x4 s) := by
  unfold moveSlip
  repeat'
    first
    | with_reducible assumption | with_reducible apply (keep_slip C kR)
    | with_reducible apply (keep_recordMiss C kR.regs kR.faults) | dsimp only

theorem keep_markIssued (kmem : w .mem) {x1 x2 s} (h : P s) : P (markIssued x1 x2 s) := by
  unfold markIssued
  repeat'
    first
    | with_reducible assumption | fail_if_no_progress with_reducible apply (C.mem kmem) | dsimp only

theorem keep_mapCaptures (kregs : w .regs) (khub : w .hub) (khbm : w .hbm) (kfaults : w .faults) (kcairn : w .cairn) {x1 s} (h : P s) : P (mapCaptures x1 s) := by
  unfold mapCaptures
  repeat'
    first
    | with_reducible assumption | with_reducible apply (keep_captures C kregs khub khbm kfaults kcairn)
    | fail_if_no_progress with_reducible apply (C.cairn kcairn) | dsimp only

theorem keep_captureWaits (kregs : w .regs) (khub : w .hub) (khbm : w .hbm) (kfaults : w .faults) (kcairn : w .cairn) {x1 x2 x3 s} (h : P s) : P (captureWaits x1 x2 x3 s) := by
  unfold captureWaits
  repeat'
    first
    | with_reducible assumption | with_reducible apply (keep_mapCaptures C kregs khub khbm kfaults kcairn) | split
    | dsimp only

theorem keep_startMove (kmem : w .mem) {x1 s} (h : P s) : P (startMove x1 s) := by
  unfold startMove
  repeat'
    first
    | with_reducible assumption | with_reducible apply (keep_setLineSt C kmem)
    | fail_if_no_progress with_reducible apply (C.mem kmem) | (intro x; have hx : P x := ?_; clear_value x)
    | intro x | subst x | lift_lets | split | dsimp only

theorem keep_noteUnissued (kmem : w .mem) {s} (h : P s) : P (noteUnissued s) := by
  unfold noteUnissued
  repeat'
    first
    | with_reducible assumption | fail_if_no_progress with_reducible apply (C.mem kmem)
    | (intro x; have hx : P x := ?_; clear_value x) | intro x | subst x | lift_lets | split | dsimp only

theorem keep_issueEntry (kR : RaiseSet w) {x1 x2 x3 s} (h : P s) : P (issueEntry x1 x2 x3 s) := by
  unfold issueEntry
  repeat'
    first
    | with_reducible assumption | with_reducible apply (keep_markIssued C kR.mem)
    | with_reducible apply (keep_raise C kR) | with_reducible apply (keep_moveSlip C kR)
    | with_reducible apply (keep_startMove C kR.mem)
    | with_reducible apply (keep_captureWaits C kR.regs kR.hub kR.hbm kR.faults kR.cairn)
    | (intro x; have hx : P x := ?_; clear_value x) | intro x | subst x | lift_lets | split | dsimp only

theorem keep_moveIssue (kR : RaiseSet w) {x1 x2 s} (h : P s) : P (moveIssue x1 x2 s) := by
  unfold moveIssue
  repeat'
    first
    | with_reducible assumption | with_reducible apply (keep_issueEntry C kR)
    | (intro x; have hx : P x := ?_; clear_value x) | intro x | subst x | lift_lets | split | dsimp only

theorem keep_moveFault (kR : RaiseSet w) {x1 x2 x3 s} (h : P s) : P (moveFault x1 x2 x3 s) := by
  unfold moveFault
  repeat'
    first
    | with_reducible assumption | with_reducible apply (keep_raise C kR)
    | with_reducible apply (keep_abandonMove C kR.regs kR.hub kR.hbm kR.faults kR.mem kR.cairn) | dsimp only

theorem keep_countLine (kR : RaiseSet w) {x1 s} (h : P s) : P (countLine x1 s) := by
  unfold countLine
  repeat'
    first
    | with_reducible assumption | with_reducible apply (keep_bump48 C kR) | dsimp only

theorem keep_landLine (kR : RaiseSet w) (kenergy : w .energy) {x1 x2 x3 s} (h : P s) : P (landLine x1 x2 x3 s) := by
  unfold landLine
  repeat'
    first
    | with_reducible assumption | with_reducible apply (keep_hbmRead C kR)
    | with_reducible apply (keep_chargeMove C kenergy)
    | with_reducible apply (keep_abandonMove C kR.regs kR.hub kR.hbm kR.faults kR.mem kR.cairn)
    | with_reducible apply (keep_setMove C kR.mem) | with_reducible apply (keep_returnReads C kR.mem)
    | with_reducible apply (keep_raise C kR) | with_reducible apply (keep_noteHub C kR.mem)
    | with_reducible apply (keep_setLineSt C kR.mem) | with_reducible apply (keep_countLine C kR)
    | apply (C.hubPut kR.hub) | (intro x; have hx : P x := ?_; clear_value x) | intro x | subst x | lift_lets
    | with_reducible refine of_quad ‹_ = (_, _, _, _)› ?_ | with_reducible refine of_triple ‹_ = (_, _, _)› ?_
    | with_reducible refine of_pair ‹_ = (_, _)› ?_ | split | dsimp only

theorem keep_writeLine (kR : RaiseSet w) (kenergy : w .energy) {m i errs s t} (h : P s) (e : writeLine m i errs s = some t) : P t := by
  unfold writeLine at e
  dsimp only at e
  split at e
  · cases e
  · cases e
    exact keep_moveFault C kR h
  · split at e
    · cases e
      exact keep_hubCheck C kR (keep_abandonMove C kR.regs kR.hub kR.hbm kR.faults kR.mem kR.cairn h)
    · cases e
      refine keep_setMove C kR.mem (keep_countLine C kR (keep_chargeMove C kenergy (keep_chargeMove C kenergy
        (keep_countHbmWrite C kR.regs kR.faults (keep_hbmWrite C kR.hbm (keep_hbmParity C kR ?_))))))
      split
      · exact keep_hubCheck C kR h
      · exact h

theorem keep_bridgeCheck (kR : RaiseSet w) {x1 x2 x3 s} (h : P s) : P (bridgeCheck x1 x2 x3 s).2 := by
  unfold bridgeCheck
  repeat'
    first
    | with_reducible assumption | with_reducible apply (keep_raiseCe C kR) | with_reducible apply (keep_raise C kR)
    | with_reducible apply (keep_abandonMove C kR.regs kR.hub kR.hbm kR.faults kR.mem kR.cairn)
    | with_reducible refine of_quad ‹_ = (_, _, _, _)› ?_ | with_reducible refine of_triple ‹_ = (_, _, _)› ?_
    | with_reducible refine of_pair ‹_ = (_, _)› ?_ | split | dsimp only

theorem keep_moveLine (kR : RaiseSet w) (kenergy : w .energy) {x1 x2 x3 x4 x5 s} (h : P s) : P (moveLine x1 x2 x3 x4 x5 s) := by
  unfold moveLine
  repeat'
    first
    | with_reducible assumption | with_reducible apply (keep_bridgeCheck C kR)
    | refine keep_writeLine C kR kenergy ?_ (by with_reducible assumption)
    | with_reducible apply (keep_landLine C kR kenergy) | with_reducible refine getD_keep (fun t e => ?_) ?_
    | with_reducible refine of_quad ‹_ = (_, _, _, _)› ?_ | with_reducible refine of_triple ‹_ = (_, _, _)› ?_
    | with_reducible refine of_pair ‹_ = (_, _)› ?_ | split | dsimp only

theorem keep_writeRest (kR : RaiseSet w) (kenergy : w .energy) {x1 x2 x3 s} (h : P s) : P (writeRest x1 x2 x3 s) := by
  fun_induction writeRest x1 x2 x3 s
  all_goals
  repeat'
    first
    | with_reducible assumption | with_reducible refine of_ih ‹P _ → P _› ?_
    | refine keep_writeLine C kR kenergy ?_ (by with_reducible assumption) | split | dsimp only

theorem keep_captureDone (kregs : w .regs) (khub : w .hub) (khbm : w .hbm) (kfaults : w .faults) (kcairn : w .cairn) {x1 x2 s} (h : P s) : P (captureDone x1 x2 s) := by
  unfold captureDone
  repeat'
    first
    | with_reducible assumption | with_reducible apply (keep_mapCaptures C kregs khub khbm kfaults kcairn) | split
    | dsimp only

theorem keep_commitSent (kR : RaiseSet w) (krng : w .rng) {x1 s} (h : P s) : P (commitSent x1 s) := by
  unfold commitSent
  repeat'
    first
    | with_reducible assumption | with_reducible apply (keep_ownValue C kR krng)
    | (intro x; have hx : P x := ?_; clear_value x) | intro x | subst x | lift_lets | split | dsimp only

theorem keep_finishMove (kR : RaiseSet w) (krng : w .rng) {x1 s} (h : P s) : P (finishMove x1 s) := by
  unfold finishMove
  repeat'
    first
    | with_reducible assumption | with_reducible apply (keep_bump48 C kR)
    | with_reducible apply (keep_dropMove C kR.mem) | with_reducible apply (keep_commitSent C kR krng)
    | with_reducible apply (keep_captureDone C kR.regs kR.hub kR.hbm kR.faults kR.cairn)
    | fail_if_no_progress with_reducible apply (C.mem kR.mem)
    | fail_if_no_progress with_reducible apply (C.cairn kR.cairn) | (intro x; have hx : P x := ?_; clear_value x)
    | intro x | subst x | lift_lets | split | dsimp only

theorem keep_completeMove (kR : RaiseSet w) (kenergy : w .energy) (krng : w .rng) {x1 x2 s} (h : P s) : P (completeMove x1 x2 s) := by
  unfold completeMove
  repeat'
    first
    | with_reducible assumption | with_reducible apply (keep_writeRest C kR kenergy)
    | with_reducible apply (keep_finishMove C kR krng) | (intro x; have hx : P x := ?_; clear_value x) | intro x
    | subst x | lift_lets | split | dsimp only

theorem keep_moveComplete (kR : RaiseSet w) (kenergy : w .energy) (krng : w .rng) {x1 x2 s} (h : P s) : P (moveComplete x1 x2 s) := by
  unfold moveComplete
  repeat'
    first
    | with_reducible assumption | with_reducible apply (keep_completeMove C kR kenergy krng) | split | dsimp only

theorem keep_deadlineMiss (kR : RaiseSet w) {x1 x2 s} (h : P s) : P (deadlineMiss x1 x2 s) := by
  unfold deadlineMiss
  repeat'
    first
    | with_reducible assumption | with_reducible apply (keep_moveSlip C kR)
    | with_reducible apply (keep_abandonMove C kR.regs kR.hub kR.hbm kR.faults kR.mem kR.cairn)
    | fail_if_no_progress with_reducible apply (C.mem kR.mem) | (intro x; have hx : P x := ?_; clear_value x)
    | intro x | subst x | lift_lets | split | dsimp only

theorem keep_manualReject (kR : RaiseSet w) {x1 s} (h : P s) : P (manualReject x1 s) := by
  unfold manualReject
  repeat'
    first
    | with_reducible assumption | with_reducible apply (keep_raiseCe C kR)
    | fail_if_no_progress with_reducible apply (C.mem kR.mem) | dsimp only

theorem keep_manualMove (kR : RaiseSet w) {x1 x2 s} (h : P s) : P (manualMove x1 x2 s) := by
  unfold manualMove
  repeat'
    first
    | with_reducible assumption | with_reducible apply (keep_manualReject C kR)
    | with_reducible apply (keep_startMove C kR.mem) | fail_if_no_progress with_reducible apply (C.mem kR.mem)
    | (intro x; have hx : P x := ?_; clear_value x) | intro x | subst x | lift_lets | split | dsimp only

theorem keep_engineReset (kregs : w .regs) (khub : w .hub) (khbm : w .hbm) (kfaults : w .faults) (kmem : w .mem) (kcairn : w .cairn) {x1 s} (h : P s) : P (engineReset x1 s) := by
  unfold engineReset
  repeat'
    first
    | with_reducible assumption | with_reducible apply (keep_markIssued C kmem)
    | with_reducible apply (keep_abandonMoves C kregs khub khbm kfaults kmem kcairn)
    | fail_if_no_progress with_reducible apply (C.mem kmem) | (intro x; have hx : P x := ?_; clear_value x)
    | intro x | subst x | lift_lets | dsimp only

theorem keep_windowWrite (kR : RaiseSet w) {x1 x2 x3 s} (h : P s) : P (windowWrite x1 x2 x3 s) := by
  unfold windowWrite
  repeat'
    first
    | with_reducible assumption | with_reducible apply (keep_raiseCe C kR)
    | with_reducible apply (keep_setReg C kR.regs) | (intro x; have hx : P x := ?_; clear_value x) | intro x
    | subst x | lift_lets | split | dsimp only

theorem keep_setStack (kmem : w .mem) {x1 x2 s} (h : P s) : P (setStack x1 x2 s) := by
  unfold setStack
  repeat'
    first
    | with_reducible assumption | fail_if_no_progress with_reducible apply (C.mem kmem) | dsimp only

theorem keep_scrubLine (kR : RaiseSet w) {x1 x2 x3 s} (h : P s) : P (scrubLine x1 x2 x3 s) := by
  unfold scrubLine
  repeat'
    first
    | with_reducible assumption | with_reducible apply (keep_countHbmRead C kR)
    | with_reducible apply (keep_hbmParity C kR) | with_reducible apply (keep_setStack C kR.mem)
    | with_reducible apply (keep_hbmCorrected C kR) | with_reducible apply (keep_countHbmWrite C kR.regs kR.faults)
    | with_reducible apply (keep_putSymbols C kR.hbm) | with_reducible apply (keep_hbmUncorrectable C kR)
    | (intro x; have hx : P x := ?_; clear_value x) | intro x | subst x | lift_lets | split | dsimp only

theorem keep_keyReject (kR : RaiseSet w) {x1 x2 x3 s} (h : P s) : P (keyReject x1 x2 x3 s) := by
  unfold keyReject
  repeat'
    first
    | with_reducible assumption | with_reducible apply (keep_raiseCe C kR) | dsimp only

theorem keep_zeroKeyData (kregs : w .regs) {x1 s} (h : P s) : P (zeroKeyData x1 s) := by
  unfold zeroKeyData
  repeat'
    first
    | with_reducible assumption | with_reducible apply (keep_setReg C kregs)
    | with_reducible refine foldl_keep (fun s b hs => ?_) ?_ | dsimp only

theorem keep_keyLoad (kR : RaiseSet w) {x1 s} (h : P s) : P (keyLoad x1 s) := by
  unfold keyLoad
  repeat'
    first
    | with_reducible assumption | with_reducible apply (keep_keyReject C kR)
    | with_reducible apply (keep_zeroKeyData C kR.regs) | with_reducible apply (keep_setReg C kR.regs)
    | with_reducible apply (keep_setKeySlot C kR.mem) | (intro x; have hx : P x := ?_; clear_value x) | intro x
    | subst x | lift_lets | split | dsimp only

theorem keep_keySwitch (kR : RaiseSet w) {x1 s} (h : P s) : P (keySwitch x1 s) := by
  unfold keySwitch
  repeat'
    first
    | with_reducible assumption | with_reducible apply (keep_keyReject C kR)
    | with_reducible apply (keep_setKeySlot C kR.mem) | (intro x; have hx : P x := ?_; clear_value x) | intro x
    | subst x | lift_lets | split | dsimp only

theorem keep_keySweep (kR : RaiseSet w) {x1 s} (h : P s) : P (keySweep x1 s) := by
  unfold keySweep
  repeat'
    first
    | with_reducible assumption | with_reducible apply (keep_keyReject C kR)
    | with_reducible apply (keep_setKeySlot C kR.mem) | with_reducible refine foldl_keep (fun s b hs => ?_) ?_
    | (intro x; have hx : P x := ?_; clear_value x) | intro x | subst x | lift_lets | split | dsimp only

theorem keep_keyClear (kR : RaiseSet w) {x1 s} (h : P s) : P (keyClear x1 s) := by
  unfold keyClear
  repeat'
    first
    | with_reducible assumption | with_reducible apply (keep_keyReject C kR)
    | with_reducible apply (keep_setReg C kR.regs) | with_reducible apply (keep_setKeySlot C kR.mem) | split
    | dsimp only

theorem keep_reencrypt (kregs : w .regs) (khbm : w .hbm) (kfaults : w .faults) {x1 x2 x3 x4 s} (h : P s) : P (reencrypt x1 x2 x3 x4 s) := by
  unfold reencrypt
  repeat'
    first
    | with_reducible assumption | with_reducible apply (keep_countHbmWrite C kregs kfaults)
    | with_reducible apply (keep_putSymbols C khbm) | (intro x; have hx : P x := ?_; clear_value x) | intro x
    | subst x | lift_lets | split | dsimp only

theorem keep_sweepLine (kR : RaiseSet w) {x1 x2 x3 x4 s} (h : P s) : P (sweepLine x1 x2 x3 x4 s) := by
  unfold sweepLine
  repeat'
    first
    | with_reducible assumption | with_reducible apply (keep_setKeySlot C kR.mem)
    | with_reducible apply (keep_countHbmRead C kR) | with_reducible apply (keep_hbmParity C kR)
    | with_reducible apply (keep_reencrypt C kR.regs kR.hbm kR.faults)
    | with_reducible apply (keep_hbmCorrected C kR) | with_reducible apply (keep_raiseCe C kR)
    | with_reducible apply (keep_bump32 C kR) | with_reducible apply (keep_putSymbols C kR.hbm)
    | (intro x; have hx : P x := ?_; clear_value x) | intro x | subst x | lift_lets | split | dsimp only

theorem keep_sweepFinish (kmem : w .mem) {x1 s} (h : P s) : P (sweepFinish x1 s) := by
  unfold sweepFinish
  repeat'
    first
    | with_reducible assumption | with_reducible apply (keep_setKeySlot C kmem)
    | (intro x; have hx : P x := ?_; clear_value x) | intro x | subst x | lift_lets | split | dsimp only

theorem keep_keyErase (kregs : w .regs) (kmem : w .mem) {x1 s} (h : P s) : P (keyErase x1 s) := by
  unfold keyErase
  repeat'
    first
    | with_reducible assumption | with_reducible apply (keep_setReg C kregs)
    | with_reducible apply (keep_setKeySlot C kmem) | (intro x; have hx : P x := ?_; clear_value x) | intro x
    | subst x | lift_lets | split | dsimp only

/-! ## Wire -/

theorem keep_ethCount (kR : RaiseSet w) {x1 x2 x3 s} (h : P s) : P (ethCount x1 x2 x3 s) := by
  unfold ethCount
  repeat'
    first
    | with_reducible assumption | with_reducible apply (keep_bump48 C kR) | with_reducible apply (keep_bump32 C kR)
    | split | dsimp only

theorem keep_modServe (kserve : w .serve) {x1 s} (h : P s) : P (modServe x1 s) := by
  unfold modServe
  repeat'
    first
    | with_reducible assumption | fail_if_no_progress with_reducible apply (C.serve kserve) | dsimp only

theorem keep_modHost (khost : w .host) {x1 s} (h : P s) : P (modHost x1 s) := by
  unfold modHost
  repeat'
    first
    | with_reducible assumption | fail_if_no_progress with_reducible apply (C.host khost) | dsimp only

theorem keep_setMacsec (khost : w .host) {x1 x2 s} (h : P s) : P (setMacsec x1 x2 s) := by
  unfold setMacsec
  repeat'
    first
    | with_reducible assumption | with_reducible apply (keep_modHost C khost) | dsimp only

theorem keep_sealFrame (khost : w .host) {x1 x2 s} (h : P s) : P (sealFrame x1 x2 s).2 := by
  unfold sealFrame
  repeat'
    first
    | with_reducible assumption | with_reducible apply (keep_setMacsec C khost)
    | (intro x; have hx : P x := ?_; clear_value x) | intro x | subst x | lift_lets
    | with_reducible refine of_quad ‹_ = (_, _, _, _)› ?_ | with_reducible refine of_triple ‹_ = (_, _, _)› ?_
    | with_reducible refine of_pair ‹_ = (_, _)› ?_ | split | dsimp only

theorem keep_openFrame (khost : w .host) {s x1 x2} (h : P s) : P (openFrame s x1 x2).2 := by
  unfold openFrame
  repeat'
    first
    | with_reducible assumption | with_reducible apply (keep_setMacsec C khost)
    | (intro x; have hx : P x := ?_; clear_value x) | intro x | subst x | lift_lets
    | with_reducible refine of_quad ‹_ = (_, _, _, _)› ?_ | with_reducible refine of_triple ‹_ = (_, _, _)› ?_
    | with_reducible refine of_pair ‹_ = (_, _)› ?_ | split | dsimp only

theorem keep_macsecStage (khost : w .host) {x1 x2 s} (h : P s) : P (macsecStage x1 x2 s).2 := by
  unfold macsecStage
  repeat'
    first
    | with_reducible assumption | with_reducible apply (keep_openFrame C khost)
    | (intro x; have hx : P x := ?_; clear_value x) | intro x | subst x | lift_lets | split | dsimp only

theorem keep_launchFrame (kR : RaiseSet w) {x1 x2 s} (h : P s) : P (launchFrame x1 x2 s) := by
  unfold launchFrame
  repeat'
    first
    | with_reducible assumption | with_reducible apply (keep_sealFrame C kR.host)
    | with_reducible apply (keep_ethCount C kR) | with_reducible apply (keep_emit C kR.out)
    | (intro x; have hx : P x := ?_; clear_value x) | intro x | subst x | lift_lets
    | with_reducible refine of_quad ‹_ = (_, _, _, _)› ?_ | with_reducible refine of_triple ‹_ = (_, _, _)› ?_
    | with_reducible refine of_pair ‹_ = (_, _)› ?_ | split | dsimp only

theorem keep_launchHost (kR : RaiseSet w) {x1 x2 s} (h : P s) : P (launchHost x1 x2 s) := by
  fun_induction launchHost x1 x2 s
  all_goals
  repeat'
    first
    | with_reducible assumption | with_reducible refine of_ih ‹P _ → P _› ?_
    | with_reducible apply (keep_launchFrame C kR) | split | dsimp only

theorem keep_hostFrame (kR : RaiseSet w) {x1 x2 s} (h : P s) : P (hostFrame x1 x2 s) := by
  unfold hostFrame
  repeat'
    first
    | with_reducible assumption | with_reducible apply (keep_launchFrame C kR)
    | with_reducible apply (keep_modServe C kR.serve) | split | dsimp only

/-! ## Fabric -/

theorem keep_remapCol (kdev : w .dev) {x1 x2 s} (h : P s) : P (remapCol x1 x2 s) := by
  unfold remapCol
  repeat'
    first
    | with_reducible assumption | fail_if_no_progress with_reducible apply (C.dev kdev) | dsimp only

theorem keep_fillRemap (kdev : w .dev) {s} (h : P s) : P (fillRemap s) := by
  unfold fillRemap
  repeat'
    first
    | with_reducible assumption | with_reducible apply (keep_remapCol C kdev)
    | fail_if_no_progress with_reducible apply (C.dev kdev) | (intro x; have hx : P x := ?_; clear_value x)
    | intro x | subst x | lift_lets | split | dsimp only

theorem keep_returnCredit (kfab : w .fab) {x1 x2 x3 s} (h : P s) : P (returnCredit x1 x2 x3 s) := by
  unfold returnCredit
  repeat'
    first
    | with_reducible assumption | fail_if_no_progress with_reducible apply (C.fab kfab)
    | (intro x; have hx : P x := ?_; clear_value x) | (intro x; have hx : P x.2 := ?_; clear_value x)
    | (intro x; have hx : P x.2.2 := ?_; clear_value x) | intro x | subst x | lift_lets | split | dsimp only

theorem keep_creditReturn (kcores : w .cores) (kfab : w .fab) {x1 x2 x3 s} (h : P s) : P (creditReturn x1 x2 x3 s) := by
  unfold creditReturn
  repeat'
    first
    | with_reducible assumption | with_reducible apply (keep_modCore C kcores)
    | fail_if_no_progress with_reducible apply (C.fab kfab) | (intro x; have hx : P x := ?_; clear_value x)
    | intro x | subst x | lift_lets | split | dsimp only

theorem keep_settled (kcores : w .cores) {s x1} (h : P s) : P (settled s x1) := by
  unfold settled
  repeat'
    first
    | with_reducible assumption | with_reducible apply (keep_setCore C kcores)
    | with_reducible refine foldl_keep (fun s b hs => ?_) ?_ | (intro x; have hx : P x := ?_; clear_value x)
    | intro x | subst x | lift_lets | dsimp only

theorem keep_sendOn (kcores : w .cores) (kfab : w .fab) (kenergy : w .energy) {x1 x2 x3 x4 s} (h : P s) : P (sendOn x1 x2 x3 x4 s) := by
  unfold sendOn
  repeat'
    first
    | with_reducible assumption | with_reducible apply (keep_chargeJob C kenergy)
    | with_reducible apply (keep_modCore C kcores) | with_reducible apply (keep_addWire C kfab)
    | fail_if_no_progress with_reducible apply (C.fab kfab) | (intro x; have hx : P x := ?_; clear_value x)
    | intro x | subst x | lift_lets | split | dsimp only

theorem keep_sendAll (kcores : w .cores) (kfab : w .fab) (kenergy : w .energy) {x1 x2 x3 x4 x5 s} (h : P s) : P (sendAll x1 x2 x3 x4 x5 s) := by
  fun_induction sendAll x1 x2 x3 x4 x5 s
  all_goals
  repeat'
    first
    | with_reducible assumption | with_reducible refine of_ih ‹P _ → P _› ?_
    | with_reducible apply (keep_sendOn C kcores kfab kenergy) | split | dsimp only

theorem keep_forwardHead (kR : RaiseSet w) (kfab : w .fab) (kenergy : w .energy) {x1 x2 x3 x4 s} (h : P s) : P (forwardHead x1 x2 x3 x4 s) := by
  unfold forwardHead
  repeat'
    first
    | with_reducible assumption | with_reducible apply (keep_returnCredit C kfab)
    | with_reducible apply (keep_setCore C kR.cores) | with_reducible apply (keep_sendAll C kR.cores kfab kenergy)
    | with_reducible apply (keep_modCore C kR.cores) | with_reducible apply (keep_bump48 C kR)
    | fail_if_no_progress with_reducible apply (C.fab kfab) | (intro x; have hx : P x := ?_; clear_value x)
    | intro x | subst x | lift_lets | split | dsimp only

theorem keep_flitForward (kR : RaiseSet w) (kfab : w .fab) (kenergy : w .energy) (kdev : w .dev) {x1 x2 x3 s} (h : P s) : P (flitForward x1 x2 x3 s) := by
  unfold flitForward
  repeat'
    first
    | with_reducible assumption | with_reducible apply (keep_slip C kR)
    | with_reducible apply (keep_fillRemap C kdev) | with_reducible apply (keep_forwardHead C kR kfab kenergy)
    | split | dsimp only

theorem keep_countAbsorb (kR : RaiseSet w) {x1 x2 x3 s} (h : P s) : P (countAbsorb x1 x2 x3 s) := by
  unfold countAbsorb
  repeat'
    first
    | with_reducible assumption | with_reducible apply (keep_bump48 C kR) | split | dsimp only

theorem keep_takeWire (kfab : w .fab) {x1 s} (h : P s) : P (takeWire x1 s) := by
  unfold takeWire
  repeat'
    first
    | with_reducible assumption | fail_if_no_progress with_reducible apply (C.fab kfab) | dsimp only

theorem keep_enterQueue (kR : RaiseSet w) {x1 x2 x3 x4 s} (h : P s) : P (enterQueue x1 x2 x3 x4 s) := by
  unfold enterQueue
  repeat'
    first
    | with_reducible assumption | with_reducible apply (keep_modCore C kR.cores)
    | with_reducible apply (keep_raise C kR) | with_reducible apply (keep_slip C kR)
    | (intro x; have hx : P x := ?_; clear_value x) | intro x | subst x | lift_lets | split | dsimp only

theorem keep_linkEcc (kR : RaiseSet w) {x1 x2 x3 x4 s} (h : P s) : P (linkEcc x1 x2 x3 x4 s) := by
  unfold linkEcc
  dsimp only
  split
  · exact h
  · split
    · exact keep_raiseCe C kR (keep_raiseCe C kR h)
    · exact keep_raiseCe C kR h
  · split
    · exact keep_raise C kR (keep_raise C kR h)
    · exact keep_raise C kR h

theorem keep_crossingLate (kR : RaiseSet w) {x1 x2 s} (h : P s) : P (crossingLate x1 x2 s) := by
  unfold crossingLate
  repeat'
    first
    | with_reducible assumption | with_reducible apply (keep_recordSlip C kR)
    | (intro x; have hx : P x := ?_; clear_value x) | intro x | subst x | lift_lets | split | dsimp only

theorem keep_flitArrive (kR : RaiseSet w) (know : w .now) (kfab : w .fab) (kenergy : w .energy) (kdev : w .dev) {x1 x2 x3 x4 s} (h : P s) : P (flitArrive x1 x2 x3 x4 s) := by
  unfold flitArrive
  repeat'
    first
    | with_reducible assumption | with_reducible apply (keep_takeWire C kfab)
    | with_reducible apply (keep_crossingLate C kR) | with_reducible apply (keep_linkEcc C kR)
    | with_reducible apply (keep_fillRemap C kdev) | with_reducible apply (keep_enterQueue C kR)
    | with_reducible apply (keep_countAbsorb C kR) | with_reducible apply (keep_returnCredit C kfab)
    | with_reducible refine keep_atCycle C know (fun s hs => ?_) ?_ | with_reducible apply (keep_sramCheck C kR)
    | with_reducible apply (keep_stopMov C kR.cores) | with_reducible apply (keep_sendMoved C kR.cores kenergy)
    | (intro x; have hx : P x := ?_; clear_value x) | intro x | subst x | lift_lets | split | dsimp only

theorem keep_tokenArrive (kR : RaiseSet w) (kfab : w .fab) {x1 x2 s} (h : P s) : P (tokenArrive x1 x2 s) := by
  unfold tokenArrive
  repeat'
    first
    | with_reducible assumption | with_reducible apply (keep_settled C kR.cores)
    | with_reducible apply (keep_setCore C kR.cores) | with_reducible apply (keep_raise C kR)
    | with_reducible apply (keep_slip C kR) | fail_if_no_progress with_reducible apply (C.fab kfab)
    | (intro x; have hx : P x := ?_; clear_value x) | intro x | subst x | lift_lets | split | dsimp only

theorem keep_sealArrive (kR : RaiseSet w) {x1 x2 x3 s} (h : P s) : P (sealArrive x1 x2 x3 s) := by
  unfold sealArrive
  repeat'
    first
    | with_reducible assumption | with_reducible apply (keep_linkEcc C kR)
    | with_reducible apply (keep_modCore C kR.cores) | (intro x; have hx : P x := ?_; clear_value x) | intro x
    | subst x | lift_lets | split | dsimp only

theorem keep_spillRequest (kR : RaiseSet w) (ksram : w .sram) (kfab : w .fab) {x1 s} (h : P s) : P (spillRequest x1 s) := by
  unfold spillRequest
  repeat'
    first
    | with_reducible assumption | with_reducible apply (keep_setReg C kR.regs)
    | with_reducible apply (keep_modCore C kR.cores) | with_reducible apply (keep_spill C kR ksram kfab)
    | with_reducible apply (keep_raiseCe C kR) | split | dsimp only

theorem keep_spillLeave (kregs : w .regs) (kcores : w .cores) {x1 s} (h : P s) : P (spillLeave x1 s) := by
  unfold spillLeave
  repeat'
    first
    | with_reducible assumption | with_reducible apply (keep_setReg C kregs)
    | with_reducible apply (keep_modCore C kcores) | dsimp only

theorem keep_areaClear (kregs : w .regs) {x1 s} (h : P s) : P (areaClear x1 s) := by
  unfold areaClear
  repeat'
    first
    | with_reducible assumption | with_reducible apply (keep_setReg C kregs) | split | dsimp only

theorem keep_spillInto (ksram : w .sram) {x1 x2 x3 x4 x5 s} (h : P s) : P (spillInto x1 x2 x3 x4 x5 s).2.2.2 := by
  induction x5 generalizing x2 x3 x4 s with
  | nil => exact h
  | cons e t ih =>
    unfold spillInto
    split
    · exact ih h
    · apply ih
      split
      · exact keep_setSramLine C ksram (C.sramPut ksram h)
      · exact C.sramPut ksram h

theorem keep_appendArea (kR : RaiseSet w) {x1 x2 s} (h : P s) : P (appendArea x1 x2 s) := by
  unfold appendArea
  repeat'
    first
    | with_reducible assumption | with_reducible apply (keep_raise C kR)
    | with_reducible apply (keep_sramChecks C kR) | with_reducible apply (keep_setReg C kR.regs)
    | with_reducible apply (keep_writeHub C kR.hub kR.mem) | (intro x; have hx : P x := ?_; clear_value x) | intro x
    | subst x | lift_lets | split | dsimp only

theorem keep_returnCredits (kfab : w .fab) {x1 x2 x3 x4 s} (h : P s) : P (returnCredits x1 x2 x3 x4 s) := by
  fun_induction returnCredits x1 x2 x3 x4 s
  all_goals
  repeat'
    first
    | with_reducible assumption | with_reducible refine of_ih ‹P _ → P _› ?_
    | with_reducible apply (keep_returnCredit C kfab) | split | dsimp only

theorem keep_returnAll (kfab : w .fab) {x1 x2 x3 s} (h : P s) : P (returnAll x1 x2 x3 s) := by
  fun_induction returnAll x1 x2 x3 s
  all_goals
  repeat'
    first
    | with_reducible assumption | with_reducible refine of_ih ‹P _ → P _› ?_
    | with_reducible apply (keep_returnCredits C kfab) | split | dsimp only

theorem keep_spill (kR : RaiseSet w) (ksram : w .sram) (kfab : w .fab) {x1 x2 x3 s} (h : P s) : P (spill x1 x2 x3 s) := by
  unfold spill
  repeat'
    first
    | with_reducible assumption | with_reducible apply (keep_countBanks C kR)
    | with_reducible apply (keep_appendArea C kR) | with_reducible apply (keep_spillInto C ksram)
    | with_reducible apply (keep_setReg C kR.regs) | with_reducible apply (keep_returnAll C kfab)
    | with_reducible apply (keep_modCore C kR.cores) | with_reducible apply (keep_bump48 C kR)
    | with_reducible apply (keep_raiseCe C kR) | (intro x; have hx : P x := ?_; clear_value x)
    | (intro x; have hx : P x.2 := ?_; clear_value x) | (intro x; have hx : P x.2.2 := ?_; clear_value x) | intro x
    | subst x | lift_lets | with_reducible refine of_quad ‹_ = (_, _, _, _)› ?_
    | with_reducible refine of_triple ‹_ = (_, _, _)› ?_ | with_reducible refine of_pair ‹_ = (_, _)› ?_ | split
    | dsimp only

theorem keep_deadlockDetect (kR : RaiseSet w) (know : w .now) (ksram : w .sram) (kfab : w .fab) (kdev : w .dev) {x1 x2 x3 s} (h : P s) : P (deadlockDetect x1 x2 x3 s) := by
  unfold deadlockDetect
  repeat'
    first
    | with_reducible assumption | with_reducible apply (C.passTo know)
    | with_reducible apply (keep_fillRemap C kdev) | with_reducible apply (keep_spill C kR ksram kfab)
    | with_reducible apply (keep_bump48 C kR) | with_reducible apply (keep_raiseCe C kR)
    | (intro x; have hx : P x := ?_; clear_value x) | intro x | subst x | lift_lets | split | dsimp only

/-! ## Serving -/

theorem keep_inCount (kR : RaiseSet w) {x1 x2 s} (h : P s) : P (inCount x1 x2 s) := by
  unfold inCount
  repeat'
    first
    | with_reducible assumption | with_reducible apply (keep_bump48 C kR) | with_reducible apply (keep_bump32 C kR)
    | split | dsimp only

theorem keep_egCount (kR : RaiseSet w) {x1 x2 s} (h : P s) : P (egCount x1 x2 s) := by
  unfold egCount
  repeat'
    first
    | with_reducible assumption | with_reducible apply (keep_bump48 C kR) | with_reducible apply (keep_bump32 C kR)
    | split | dsimp only

theorem keep_srvCount (kR : RaiseSet w) {x1 x2 s} (h : P s) : P (srvCount x1 x2 s) := by
  unfold srvCount
  repeat'
    first
    | with_reducible assumption | with_reducible apply (keep_bump32 C kR) | with_reducible apply (keep_bump48 C kR)
    | split | dsimp only

theorem keep_linkChange (kR : RaiseSet w) {x1 x2 s} (h : P s) : P (linkChange x1 x2 s) := by
  unfold linkChange
  repeat'
    first
    | with_reducible assumption | with_reducible apply (keep_raiseCe C kR)
    | fail_if_no_progress with_reducible apply (C.serve kR.serve) | split | dsimp only

theorem keep_setEntry (kserve : w .serve) {x1 x2 s} (h : P s) : P (setEntry x1 x2 s) := by
  unfold setEntry
  repeat'
    first
    | with_reducible assumption | with_reducible apply (keep_modServe C kserve) | dsimp only

theorem keep_putInData (kregs : w .regs) {x1 x2 s} (h : P s) : P (putInData x1 x2 s) := by
  fun_induction putInData x1 x2 s
  all_goals
  repeat'
    first
    | with_reducible assumption | with_reducible refine of_ih ‹P _ → P _› ?_
    | with_reducible apply (keep_setReg C kregs) | split | dsimp only

theorem keep_setResult (kserve : w .serve) {x1 x2 x3 s} (h : P s) : P (setResult x1 x2 x3 s) := by
  unfold setResult
  repeat'
    first
    | with_reducible assumption | with_reducible apply (keep_modServe C kserve) | dsimp only

theorem keep_inReject (kR : RaiseSet w) {x1 x2 s} (h : P s) : P (inReject x1 x2 s) := by
  unfold inReject
  repeat'
    first
    | with_reducible assumption | with_reducible apply (keep_raiseCe C kR)
    | with_reducible apply (keep_setResult C kR.serve) | dsimp only

theorem keep_applyInsert (kR : RaiseSet w) {x1 s} (h : P s) : P (applyInsert x1 s) := by
  unfold applyInsert
  repeat'
    first
    | with_reducible assumption | with_reducible apply (keep_inReject C kR)
    | with_reducible apply (keep_setResult C kR.serve) | with_reducible apply (keep_setEntry C kR.serve)
    | (intro x; have hx : P x := ?_; clear_value x) | intro x | subst x | lift_lets | split | dsimp only

theorem keep_applyModify (kR : RaiseSet w) {x1 s} (h : P s) : P (applyModify x1 s) := by
  unfold applyModify
  repeat'
    first
    | with_reducible assumption | with_reducible apply (keep_inReject C kR)
    | with_reducible apply (keep_setResult C kR.serve) | with_reducible apply (keep_setEntry C kR.serve)
    | (intro x; have hx : P x := ?_; clear_value x) | intro x | subst x | lift_lets | split | dsimp only

theorem keep_applyDelete (kR : RaiseSet w) {x1 s} (h : P s) : P (applyDelete x1 s) := by
  unfold applyDelete
  repeat'
    first
    | with_reducible assumption | with_reducible apply (keep_inReject C kR)
    | with_reducible apply (keep_setResult C kR.serve) | with_reducible apply (keep_modServe C kR.serve)
    | with_reducible apply (keep_setEntry C kR.serve) | (intro x; have hx : P x := ?_; clear_value x) | intro x
    | subst x | lift_lets | split | dsimp only

theorem keep_applyLookup (kR : RaiseSet w) {x1 s} (h : P s) : P (applyLookup x1 s) := by
  unfold applyLookup
  repeat'
    first
    | with_reducible assumption | with_reducible apply (keep_inReject C kR)
    | with_reducible apply (keep_putInData C kR.regs) | with_reducible apply (keep_setResult C kR.serve)
    | (intro x; have hx : P x := ?_; clear_value x) | intro x | subst x | lift_lets | split | dsimp only

theorem keep_applyCmd (kR : RaiseSet w) {s} (h : P s) : P (applyCmd s) := by
  unfold applyCmd
  repeat'
    first
    | with_reducible assumption | with_reducible apply (keep_modServe C kR.serve)
    | with_reducible apply (keep_applyInsert C kR) | with_reducible apply (keep_applyModify C kR)
    | with_reducible apply (keep_applyDelete C kR) | with_reducible apply (keep_applyLookup C kR)
    | (intro x; have hx : P x := ?_; clear_value x) | intro x | subst x | lift_lets | split | dsimp only

theorem keep_inRead (kR : RaiseSet w) {s} (h : P s) : P (inRead s) := by
  unfold inRead
  repeat'
    first
    | with_reducible assumption | with_reducible apply (keep_inReject C kR)
    | with_reducible apply (keep_putInData C kR.regs) | with_reducible apply (keep_setResult C kR.serve)
    | (intro x; have hx : P x := ?_; clear_value x) | intro x | subst x | lift_lets | split | dsimp only

theorem keep_putTab (kserve : w .serve) {x1 x2 x3 x4 s} (h : P s) : P (putTab x1 x2 x3 x4 s) := by
  fun_induction putTab x1 x2 x3 x4 s
  all_goals
  repeat'
    first
    | with_reducible assumption | with_reducible refine of_ih ‹P _ → P _› ?_
    | with_reducible apply (keep_modServe C kserve) | split | dsimp only

theorem keep_inWrite (kR : RaiseSet w) {s} (h : P s) : P (inWrite s) := by
  unfold inWrite
  repeat'
    first
    | with_reducible assumption | with_reducible apply (keep_inReject C kR)
    | with_reducible apply (keep_setResult C kR.serve) | with_reducible apply (keep_putTab C kR.serve)
    | (intro x; have hx : P x := ?_; clear_value x) | intro x | subst x | lift_lets | split | dsimp only

theorem keep_inCmd (kR : RaiseSet w) {x1 s} (h : P s) : P (inCmd x1 s) := by
  unfold inCmd
  repeat'
    first
    | with_reducible assumption | with_reducible apply (keep_raiseCe C kR) | with_reducible apply (keep_inRead C kR)
    | with_reducible apply (keep_inWrite C kR) | with_reducible apply (keep_modServe C kR.serve) | split
    | dsimp only

theorem keep_tableEcc (kR : RaiseSet w) {x1 s} (h : P s) : P (tableEcc x1 s) := by
  unfold tableEcc
  repeat'
    first
    | with_reducible assumption | with_reducible apply (keep_raiseCe C kR) | with_reducible apply (keep_raise C kR)
    | split | dsimp only

theorem keep_srvJoin (kR : RaiseSet w) {s} (h : P s) : P (srvJoin s) := by
  unfold srvJoin
  repeat'
    first
    | with_reducible assumption | with_reducible apply (keep_raiseCe C kR)
    | with_reducible apply (keep_modServe C kR.serve) | with_reducible apply (keep_setEntry C kR.serve)
    | (intro x; have hx : P x := ?_; clear_value x) | intro x | subst x | lift_lets | split | dsimp only

theorem keep_srvLeave (kR : RaiseSet w) {s} (h : P s) : P (srvLeave s) := by
  unfold srvLeave
  repeat'
    first
    | with_reducible assumption | with_reducible apply (keep_raiseCe C kR)
    | with_reducible apply (keep_setEntry C kR.serve) | (intro x; have hx : P x := ?_; clear_value x) | intro x
    | subst x | lift_lets | split | dsimp only

theorem keep_srvCmd (kR : RaiseSet w) {x1 s} (h : P s) : P (srvCmd x1 s) := by
  unfold srvCmd
  repeat'
    first
    | with_reducible assumption | with_reducible apply (keep_srvJoin C kR)
    | with_reducible apply (keep_srvLeave C kR) | split | dsimp only

theorem keep_srvChecked (kR : RaiseSet w) {x1 x2 s} (h : P s) : P (srvChecked x1 x2 s) := by
  unfold srvChecked
  repeat'
    first
    | with_reducible assumption | with_reducible apply (keep_tableEcc C kR)
    | with_reducible apply (keep_srvCmd C kR) | (intro x; have hx : P x := ?_; clear_value x) | intro x | subst x
    | lift_lets | split | dsimp only

theorem keep_endSequences (kserve : w .serve) {s} (h : P s) : P (endSequences s) := by
  unfold endSequences
  repeat'
    first
    | with_reducible assumption | with_reducible apply (keep_modServe C kserve) | dsimp only

theorem keep_sendLines (kserve : w .serve) {x1 x2 x3 x4 s} (h : P s) : P (sendLines x1 x2 x3 x4 s) := by
  unfold sendLines
  repeat'
    first
    | with_reducible assumption | with_reducible apply (keep_modServe C kserve)
    | (intro x; have hx : P x := ?_; clear_value x) | intro x | subst x | lift_lets | dsimp only

theorem keep_chargeGather (kenergy : w .energy) {x1 s} (h : P s) : P (chargeGather x1 s) := by
  unfold chargeGather
  repeat'
    first
    | with_reducible assumption | with_reducible apply (keep_chargePart C kenergy)
    | with_reducible apply (keep_charge C kenergy) | split | dsimp only

theorem keep_eventLand (kR : RaiseSet w) (ksram : w .sram) (kenergy : w .energy) {x1 s} (h : P s) : P (eventLand x1 s) := by
  unfold eventLand
  repeat'
    first
    | with_reducible assumption | with_reducible apply (keep_modServe C kR.serve)
    | with_reducible apply (keep_tableEcc C kR) | with_reducible apply (keep_crossingLate C kR)
    | with_reducible apply (keep_noteSram C kR.mem) | with_reducible apply (keep_chargeGather C kenergy)
    | with_reducible apply (keep_setGatherLine C ksram kR.serve) | with_reducible apply (keep_countAbsorb C kR)
    | (intro x; have hx : P x := ?_; clear_value x) | intro x | subst x | lift_lets | split | dsimp only

theorem keep_landHeader (kR : RaiseSet w) (ksram : w .sram) (kenergy : w .energy) {x1 x2 s} (h : P s) : P (landHeader x1 x2 s) := by
  fun_induction landHeader x1 x2 s
  all_goals
  repeat'
    first
    | with_reducible assumption | with_reducible refine of_ih ‹P _ → P _› ?_
    | with_reducible apply (keep_chargeGather C kenergy) | with_reducible apply (keep_modCore C kR.cores)
    | with_reducible apply (keep_setGatherLine C ksram kR.serve) | with_reducible apply (keep_noteSram C kR.mem)
    | with_reducible apply (keep_countAbsorb C kR) | split | dsimp only

theorem keep_stepHeaderLand (kR : RaiseSet w) (ksram : w .sram) (kenergy : w .energy) {s} (h : P s) : P (stepHeaderLand s) := by
  unfold stepHeaderLand
  repeat'
    first
    | with_reducible assumption | with_reducible apply (keep_landHeader C kR ksram kenergy)
    | with_reducible apply (keep_modServe C kR.serve) | split | dsimp only

theorem keep_applyModels (kR : RaiseSet w) {x1 s} (h : P s) : P (applyModels x1 s) := by
  fun_induction applyModels x1 s
  all_goals
  repeat'
    first
    | with_reducible assumption | with_reducible refine of_ih ‹P _ → P _› ?_
    | with_reducible apply (keep_raiseCe C kR) | with_reducible apply (keep_modServe C kR.serve)
    | (intro x; have hx : P x := ?_; clear_value x) | (intro x; have hx : P x.2 := ?_; clear_value x)
    | (intro x; have hx : P x.2.2 := ?_; clear_value x) | intro x | subst x | lift_lets | split | dsimp only

theorem keep_applyLeaves (kserve : w .serve) {x1 s} (h : P s) : P (applyLeaves x1 s) := by
  fun_induction applyLeaves x1 s
  all_goals
  repeat'
    first
    | with_reducible assumption | with_reducible refine of_ih ‹P _ → P _› ?_
    | with_reducible apply (keep_setEntry C kserve) | with_reducible apply (keep_modServe C kserve)
    | (intro x; have hx : P x := ?_; clear_value x) | intro x | subst x | lift_lets | split | dsimp only

theorem keep_deferJoin (kR : RaiseSet w) {x1 x2 s} (h : P s) : P (deferJoin x1 x2 s) := by
  unfold deferJoin
  repeat'
    first
    | with_reducible assumption | with_reducible apply (keep_srvCount C kR)
    | with_reducible apply (keep_modServe C kR.serve) | split | dsimp only

theorem keep_admitJoins (kR : RaiseSet w) {x1 x2 s} (h : P s) : P (admitJoins x1 x2 s) := by
  fun_induction admitJoins x1 x2 s
  all_goals
  repeat'
    first
    | with_reducible assumption | with_reducible refine of_ih ‹P _ → P _› ?_
    | with_reducible apply (keep_modServe C kR.serve) | with_reducible apply (keep_deferJoin C kR)
    | with_reducible apply (keep_srvCount C kR) | with_reducible apply (keep_setEntry C kR.serve)
    | (intro x; have hx : P x := ?_; clear_value x) | intro x | subst x | lift_lets | split | dsimp only

theorem keep_goLive (kserve : w .serve) {x1 s} (h : P s) : P (goLive x1 s) := by
  fun_induction goLive x1 s
  all_goals
  repeat'
    first
    | with_reducible assumption | with_reducible refine of_ih ‹P _ → P _› ?_
    | with_reducible apply (keep_setEntry C kserve) | with_reducible apply (keep_modServe C kserve) | split
    | dsimp only

theorem keep_placeCarried (kserve : w .serve) {x1 x2 s} (h : P s) : P (placeCarried x1 x2 s).2 := by
  fun_induction placeCarried x1 x2 s
  all_goals
  repeat'
    first
    | with_reducible assumption | with_reducible refine of_ih ‹P _ → P _› ?_
    | with_reducible apply (keep_modServe C kserve) | with_reducible apply (keep_sendLines C kserve)
    | (intro x; have hx : P x := ?_; clear_value x) | intro x | subst x | lift_lets
    | with_reducible refine of_quad ‹_ = (_, _, _, _)› ?_ | with_reducible refine of_triple ‹_ = (_, _, _)› ?_
    | with_reducible refine of_pair ‹_ = (_, _)› ?_ | split | dsimp only

theorem keep_placeChunks (kserve : w .serve) {x1 x2 x3 s} (h : P s) : P (placeChunks x1 x2 x3 s).2 := by
  fun_induction placeChunks x1 x2 x3 s
  all_goals
  repeat'
    first
    | with_reducible assumption | with_reducible refine of_ih ‹P _ → P _› ?_
    | with_reducible apply (keep_modServe C kserve) | with_reducible apply (keep_sendLines C kserve)
    | (intro x; have hx : P x := ?_; clear_value x) | intro x | subst x | lift_lets
    | with_reducible refine of_quad ‹_ = (_, _, _, _)› ?_ | with_reducible refine of_triple ‹_ = (_, _, _)› ?_
    | with_reducible refine of_pair ‹_ = (_, _)› ?_ | split | dsimp only

theorem keep_queueHeader (kserve : w .serve) {x1 x2 s} (h : P s) : P (queueHeader x1 x2 s) := by
  unfold queueHeader
  repeat'
    first
    | with_reducible assumption | with_reducible apply (keep_modServe C kserve) | split | dsimp only

theorem keep_closeStep (kR : RaiseSet w) {s} (h : P s) : P (closeStep s) := by
  unfold closeStep
  repeat'
    first
    | with_reducible assumption | with_reducible apply (keep_modServe C kR.serve)
    | with_reducible apply (keep_srvCount C kR) | with_reducible apply (keep_queueHeader C kR.serve)
    | (intro x; have hx : P x := ?_; clear_value x) | intro x | subst x | lift_lets | split | dsimp only

theorem keep_openStep (kserve : w .serve) {x1 s} (h : P s) : P (openStep x1 s) := by
  unfold openStep
  repeat'
    first
    | with_reducible assumption | with_reducible apply (keep_placeCarried C kserve)
    | with_reducible apply (keep_modServe C kserve) | with_reducible apply (keep_placeChunks C kserve)
    | (intro x; have hx : P x := ?_; clear_value x) | intro x | subst x | lift_lets
    | with_reducible refine of_quad ‹_ = (_, _, _, _)› ?_ | with_reducible refine of_triple ‹_ = (_, _, _)› ?_
    | with_reducible refine of_pair ‹_ = (_, _)› ?_ | split | dsimp only

theorem keep_nextStep (kR : RaiseSet w) {x1 s} (h : P s) : P (nextStep x1 s) := by
  unfold nextStep
  repeat'
    first
    | with_reducible assumption | with_reducible apply (keep_openStep C kR.serve)
    | with_reducible apply (keep_closeStep C kR) | split | dsimp only

theorem keep_gatherAt (kR : RaiseSet w) {x1 s} (h : P s) : P (gatherAt x1 s) := by
  unfold gatherAt gatherAt.admitAfter
  repeat' first
    | with_reducible assumption
    | with_reducible apply keep_nextStep C kR
    | with_reducible apply keep_goLive C kR.serve
    | with_reducible apply keep_admitJoins C kR
    | with_reducible apply keep_applyLeaves C kR.serve
    | with_reducible apply keep_mapEntries C
    | with_reducible apply keep_applyModels C kR
    | with_reducible apply keep_modServe C kR.serve
    | with_reducible apply keep_applyCmd C kR
    | with_reducible apply C.upd

theorem keep_feedAppend (kR : RaiseSet w) {x1 x2 x3 x4 x5 s} (h : P s) : P (feedAppend x1 x2 x3 x4 x5 s) := by
  unfold feedAppend
  repeat'
    first
    | with_reducible assumption | with_reducible apply (keep_srvCount C kR)
    | with_reducible apply (keep_rset64 C kR.regs) | with_reducible apply (keep_setHubLine C kR.hub kR.mem)
    | with_reducible apply (keep_modServe C kR.serve) | with_reducible apply (keep_raiseCe C kR)
    | (intro x; have hx : P x := ?_; clear_value x) | intro x | subst x | lift_lets | split | dsimp only

theorem keep_feedClose (khub : w .hub) (kmem : w .mem) (kserve : w .serve) {x1 s} (h : P s) : P (feedClose x1 s) := by
  unfold feedClose
  repeat'
    first
    | with_reducible assumption | with_reducible apply (keep_setHubLine C khub kmem)
    | with_reducible apply (keep_modServe C kserve) | (intro x; have hx : P x := ?_; clear_value x) | intro x
    | subst x | lift_lets | split | dsimp only

theorem keep_feedSettle (khub : w .hub) (kmem : w .mem) (kserve : w .serve) {s} (h : P s) : P (feedSettle s) := by
  unfold feedSettle
  repeat'
    first
    | with_reducible assumption | with_reducible apply (keep_feedClose C khub kmem kserve)
    | with_reducible apply (keep_modServe C kserve) | (intro x; have hx : P x := ?_; clear_value x) | intro x
    | subst x | lift_lets | split | dsimp only

theorem keep_nextLookup (kserve : w .serve) {x1 s} (h : P s) : P (nextLookup x1 s) := by
  unfold nextLookup
  repeat'
    first
    | with_reducible assumption | with_reducible apply (keep_modServe C kserve)
    | (intro x; have hx : P x := ?_; clear_value x) | intro x | subst x | lift_lets | split | dsimp only

theorem keep_gatherEvent (kR : RaiseSet w) {x1 x2 x3 s} (h : P s) : P (gatherEvent x1 x2 x3 s).2 := by
  unfold gatherEvent
  repeat'
    first
    | with_reducible assumption | with_reducible apply (keep_srvCount C kR)
    | with_reducible apply (keep_sendLines C kR.serve) | with_reducible apply (keep_modServe C kR.serve)
    | with_reducible apply (keep_raiseCe C kR) | (intro x; have hx : P x := ?_; clear_value x) | intro x | subst x
    | lift_lets | with_reducible refine of_quad ‹_ = (_, _, _, _)› ?_
    | with_reducible refine of_triple ‹_ = (_, _, _)› ?_ | with_reducible refine of_pair ‹_ = (_, _)› ?_ | split
    | dsimp only

theorem keep_lookEvent (kR : RaiseSet w) {x1 s} (h : P s) : P (lookEvent x1 s) := by
  unfold lookEvent
  repeat'
    first
    | with_reducible assumption | with_reducible apply (keep_feedSettle C kR.hub kR.mem kR.serve)
    | with_reducible apply (keep_inCount C kR) | with_reducible apply (keep_gatherEvent C kR)
    | with_reducible apply (keep_feedAppend C kR) | (intro x; have hx : P x := ?_; clear_value x) | intro x
    | subst x | lift_lets | with_reducible refine of_quad ‹_ = (_, _, _, _)› ?_
    | with_reducible refine of_triple ‹_ = (_, _, _)› ?_ | with_reducible refine of_pair ‹_ = (_, _)› ?_ | split
    | dsimp only

theorem keep_lookEach (kR : RaiseSet w) {x1 s} (h : P s) : P (lookEach x1 s) := by
  fun_induction lookEach x1 s
  all_goals
  repeat'
    first
    | with_reducible assumption | with_reducible refine of_ih ‹P _ → P _› ?_
    | with_reducible apply (keep_lookEvent C kR) | split | dsimp only

theorem keep_settleLooks (kR : RaiseSet w) {s} (h : P s) : P (settleLooks s) := by
  unfold settleLooks
  repeat'
    first
    | with_reducible assumption | with_reducible apply (keep_lookEach C kR)
    | with_reducible apply (keep_modServe C kR.serve) | dsimp only

theorem keep_event (kR : RaiseSet w) {x1 x2 x3 x4 s} (h : P s) : P (event x1 x2 x3 x4 s) := by
  unfold event
  repeat'
    first
    | with_reducible assumption | with_reducible apply (keep_nextLookup C kR.serve)
    | with_reducible apply (keep_inCount C kR) | with_reducible apply (keep_lookEvent C kR)
    | with_reducible apply (keep_modServe C kR.serve) | (intro x; have hx : P x := ?_; clear_value x) | intro x
    | subst x | lift_lets | split | dsimp only

theorem keep_events (kR : RaiseSet w) {x1 x2 x3 x4 x5 s} (h : P s) : P (events x1 x2 x3 x4 x5 s) := by
  fun_induction events x1 x2 x3 x4 x5 s
  all_goals
  repeat'
    first
    | with_reducible assumption | with_reducible refine of_ih ‹P _ → P _› ?_
    | with_reducible apply (keep_tableEcc C kR) | with_reducible apply (keep_event C kR)
    | (intro x; have hx : P x := ?_; clear_value x) | intro x | subst x | lift_lets | split | dsimp only

theorem keep_gatherBoundary (kR : RaiseSet w) (know : w .now) {s} (h : P s) : P (gatherBoundary s) := by
  unfold gatherBoundary
  repeat'
    first
    | with_reducible assumption | with_reducible apply (keep_settleLooks C kR)
    | with_reducible apply (keep_gatherAt C kR) | with_reducible apply (C.passTo know)
    | (intro x; have hx : P x := ?_; clear_value x) | intro x | subst x | lift_lets | split | dsimp only

theorem keep_marketFrame (kR : RaiseSet w) {x1 x2 x3 x4 x5 x6 s} (h : P s) : P (marketFrame x1 x2 x3 x4 x5 x6 s) := by
  unfold marketFrame
  repeat'
    first
    | with_reducible assumption | with_reducible apply (keep_settleLooks C kR)
    | with_reducible apply (keep_tableEcc C kR) | with_reducible apply (keep_ethCount C kR)
    | with_reducible apply (keep_events C kR) | with_reducible apply (keep_inCount C kR)
    | (intro x; have hx : P x := ?_; clear_value x) | intro x | subst x | lift_lets | split | dsimp only

theorem keep_srvModelWrite (kserve : w .serve) {x1 s} (h : P s) : P (srvModelWrite x1 s) := by
  unfold srvModelWrite
  repeat'
    first
    | with_reducible assumption | with_reducible apply (keep_modServe C kserve)
    | (intro x; have hx : P x := ?_; clear_value x) | intro x | subst x | lift_lets | dsimp only

theorem keep_srvGatherWrite (kR : RaiseSet w) {x1 s} (h : P s) : P (srvGatherWrite x1 s) := by
  unfold srvGatherWrite
  repeat'
    first
    | with_reducible assumption | with_reducible apply (keep_setReg C kR.regs)
    | with_reducible apply (keep_raiseCe C kR) | split | dsimp only

theorem keep_feedGeomWrite (kR : RaiseSet w) {x1 x2 s} (h : P s) : P (feedGeomWrite x1 x2 s) := by
  unfold feedGeomWrite
  repeat'
    first
    | with_reducible assumption | with_reducible apply (keep_raiseCe C kR)
    | with_reducible apply (keep_setReg C kR.regs) | (intro x; have hx : P x := ?_; clear_value x) | intro x
    | subst x | lift_lets | split | dsimp only

theorem keep_srvCurWrite (kR : RaiseSet w) {x1 s} (h : P s) : P (srvCurWrite x1 s) := by
  unfold srvCurWrite
  repeat'
    first
    | with_reducible assumption | with_reducible apply (keep_rset64 C kR.regs)
    | with_reducible apply (keep_raiseCe C kR) | split | dsimp only

theorem keep_srvPagesWrite (kregs : w .regs) {x1 s} (h : P s) : P (srvPagesWrite x1 s) := by
  unfold srvPagesWrite
  repeat'
    first
    | with_reducible assumption | with_reducible apply (keep_setReg C kregs)
    | (intro x; have hx : P x := ?_; clear_value x) | (intro x; have hx : P x.2 := ?_; clear_value x)
    | (intro x; have hx : P x.2.2 := ?_; clear_value x) | intro x | subst x | lift_lets | split | dsimp only

theorem keep_todCtl (kserve : w .serve) {x1 s} (h : P s) : P (todCtl x1 s) := by
  unfold todCtl
  repeat'
    first
    | with_reducible assumption | with_reducible apply (keep_modServe C kserve) | split | dsimp only

theorem keep_todLoad (kserve : w .serve) {s} (h : P s) : P (todLoad s) := by
  unfold todLoad
  repeat'
    first
    | with_reducible assumption | with_reducible apply (keep_modServe C kserve) | split | dsimp only

theorem keep_setTpl (kserve : w .serve) {x1 x2 x3 s} (h : P s) : P (setTpl x1 x2 x3 s) := by
  unfold setTpl
  repeat'
    first
    | with_reducible assumption | with_reducible apply (keep_modServe C kserve) | dsimp only

theorem keep_egAdvance (kregs : w .regs) {s} (h : P s) : P (egAdvance s) := by
  unfold egAdvance
  repeat'
    first
    | with_reducible assumption | with_reducible apply (keep_setReg C kregs)
    | (intro x; have hx : P x := ?_; clear_value x) | intro x | subst x | lift_lets | split | dsimp only

theorem keep_egWrite (kregs : w .regs) (kserve : w .serve) {x1 s} (h : P s) : P (egWrite x1 s) := by
  unfold egWrite
  repeat'
    first
    | with_reducible assumption | with_reducible apply (keep_egAdvance C kregs)
    | with_reducible apply (keep_setTpl C kserve) | with_reducible apply (keep_modServe C kserve)
    | (intro x; have hx : P x := ?_; clear_value x) | intro x | subst x | lift_lets | split | dsimp only

theorem keep_commitWords (kserve : w .serve) {x1 x2 s} (h : P s) : P (commitWords x1 x2 s) := by
  fun_induction commitWords x1 x2 s
  all_goals
  repeat'
    first
    | with_reducible assumption | with_reducible refine of_ih ‹P _ → P _› ?_
    | with_reducible apply (keep_setTpl C kserve) | split | dsimp only

theorem keep_commitTemplates (kserve : w .serve) {x1 s} (h : P s) : P (commitTemplates x1 s) := by
  fun_induction commitTemplates x1 s
  all_goals
  repeat'
    first
    | with_reducible assumption | with_reducible refine of_ih ‹P _ → P _› ?_
    | with_reducible apply (keep_commitWords C kserve) | split | dsimp only

theorem keep_enterMac (kR : RaiseSet w) {x1 s} (h : P s) : P (enterMac x1 s) := by
  unfold enterMac
  repeat'
    first
    | with_reducible assumption | with_reducible apply (keep_egCount C kR)
    | with_reducible apply (keep_ethCount C kR) | with_reducible apply (keep_raiseCe C kR)
    | with_reducible apply (keep_modServe C kR.serve) | (intro x; have hx : P x := ?_; clear_value x) | intro x
    | subst x | lift_lets | split | dsimp only

theorem keep_enterAll (kR : RaiseSet w) {x1 s} (h : P s) : P (enterAll x1 s) := by
  fun_induction enterAll x1 s
  all_goals
  repeat'
    first
    | with_reducible assumption | with_reducible refine of_ih ‹P _ → P _› ?_
    | with_reducible apply (keep_enterMac C kR) | split | dsimp only

theorem keep_settleFills (kR : RaiseSet w) {x1 s} (h : P s) : P (settleFills x1 s) := by
  unfold settleFills
  repeat'
    first
    | with_reducible assumption | with_reducible apply (keep_enterAll C kR)
    | with_reducible apply (keep_modServe C kR.serve) | (intro x; have hx : P x := ?_; clear_value x) | intro x
    | subst x | lift_lets | dsimp only

theorem keep_todRateWrite (kR : RaiseSet w) {x1 s} (h : P s) : P (todRateWrite x1 s) := by
  unfold todRateWrite
  repeat'
    first
    | with_reducible assumption | with_reducible apply (keep_settleFills C kR)
    | with_reducible apply (keep_setReg C kR.regs) | with_reducible apply (keep_modServe C kR.serve)
    | (intro x; have hx : P x := ?_; clear_value x) | intro x | subst x | lift_lets | dsimp only

theorem keep_fillLine (kR : RaiseSet w) {x1 x2 s} (h : P s) : P (fillLine x1 x2 s) := by
  unfold fillLine
  repeat'
    first
    | with_reducible assumption | with_reducible apply (keep_egCount C kR)
    | with_reducible apply (keep_tableEcc C kR) | with_reducible apply (keep_raiseCe C kR)
    | with_reducible apply (keep_setTpl C kR.serve) | with_reducible apply (keep_modServe C kR.serve)
    | (intro x; have hx : P x := ?_; clear_value x) | intro x | subst x | lift_lets | split | dsimp only

theorem keep_edgeEcc (kR : RaiseSet w) {x1 x2 s} (h : P s) : P (edgeEcc x1 x2 s) := by
  unfold edgeEcc
  repeat'
    first
    | with_reducible assumption | with_reducible apply (keep_raiseCe C kR) | with_reducible apply (keep_raise C kR)
    | split | dsimp only

theorem keep_resultLine (kR : RaiseSet w) (kfab : w .fab) (kenergy : w .energy) {x1 x2 x3 x4 s} (h : P s) : P (resultLine x1 x2 x3 x4 s) := by
  unfold resultLine
  repeat'
    first
    | with_reducible assumption | with_reducible apply (keep_settleFills C kR)
    | with_reducible apply (keep_egCount C kR) | with_reducible apply (keep_edgeEcc C kR)
    | with_reducible apply (keep_chargePart C kenergy) | with_reducible apply (keep_charge C kenergy)
    | with_reducible apply (keep_fillLine C kR) | fail_if_no_progress with_reducible apply (C.fab kfab)
    | (intro x; have hx : P x := ?_; clear_value x) | intro x | subst x | lift_lets | split | dsimp only

theorem keep_frameTransmit (kR : RaiseSet w) {x1 s} (h : P s) : P (frameTransmit x1 s) := by
  unfold frameTransmit
  repeat'
    first
    | with_reducible assumption | with_reducible apply (keep_settleFills C kR)
    | with_reducible apply (keep_ethCount C kR) | with_reducible apply (keep_launchFrame C kR)
    | with_reducible apply (keep_modServe C kR.serve) | with_reducible apply (keep_launchHost C kR)
    | (intro x; have hx : P x := ?_; clear_value x) | intro x | subst x | lift_lets | split | dsimp only

theorem keep_srvPairWrite (kR : RaiseSet w) {x1 s} (h : P s) : P (srvPairWrite x1 s) := by
  unfold srvPairWrite
  repeat'
    first
    | with_reducible assumption | with_reducible apply (keep_pairCheck C kR)
    | with_reducible apply (keep_tellPairing C kR.links) | with_reducible apply (keep_rset64 C kR.regs)
    | with_reducible apply (keep_setReg C kR.regs) | with_reducible apply (keep_settleFills C kR)
    | fail_if_no_progress with_reducible apply (C.pair kR.pair) | dsimp only

/-! ## Host -/

theorem keep_haCount (kR : RaiseSet w) {x1 x2 s} (h : P s) : P (haCount x1 x2 s) := by
  unfold haCount
  repeat'
    first
    | with_reducible assumption | with_reducible apply (keep_bump48 C kR) | with_reducible apply (keep_bump32 C kR)
    | split | dsimp only

theorem keep_qpCount (kR : RaiseSet w) {x1 x2 x3 s} (h : P s) : P (qpCount x1 x2 x3 s) := by
  unfold qpCount
  repeat'
    first
    | with_reducible assumption | with_reducible apply (keep_bump32 C kR) | with_reducible apply (keep_bump48 C kR)
    | split | dsimp only

theorem keep_sendFrame (kR : RaiseSet w) {x1 x2 s} (h : P s) : P (sendFrame x1 x2 s) := by
  unfold sendFrame
  repeat'
    first
    | with_reducible assumption | with_reducible apply (keep_hostFrame C kR)
    | with_reducible apply (keep_settleFills C kR) | split | dsimp only

theorem keep_setSource (khost : w .host) {x1 x2 s} (h : P s) : P (setSource x1 x2 s) := by
  unfold setSource
  repeat'
    first
    | with_reducible assumption | with_reducible apply (keep_modHost C khost) | dsimp only

theorem keep_unknownSource (kR : RaiseSet w) {x1 s} (h : P s) : P (unknownSource x1 s) := by
  unfold unknownSource
  repeat'
    first
    | with_reducible assumption | with_reducible apply (keep_raiseCe C kR)
    | with_reducible apply (keep_haCount C kR) | dsimp only

theorem keep_sourceReset (khost : w .host) {x1 s} (h : P s) : P (sourceReset x1 s) := by
  unfold sourceReset
  repeat'
    first
    | with_reducible assumption | with_reducible apply (keep_setSource C khost) | dsimp only

theorem keep_pathQueue (khost : w .host) {x1 x2 s} (h : P s) : P (pathQueue x1 x2 s) := by
  unfold pathQueue
  repeat'
    first
    | with_reducible assumption | with_reducible apply (keep_modHost C khost) | dsimp only

theorem keep_queueFrame (kR : RaiseSet w) {x1 s} (h : P s) : P (queueFrame x1 s) := by
  unfold queueFrame
  repeat'
    first
    | with_reducible assumption | with_reducible apply (keep_unknownSource C kR)
    | with_reducible apply (keep_raiseCe C kR) | with_reducible apply (keep_haCount C kR)
    | with_reducible apply (keep_pathQueue C kR.host) | split | dsimp only

theorem keep_discard (kR : RaiseSet w) {x1 s} (h : P s) : P (discard x1 s) := by
  unfold discard
  repeat'
    first
    | with_reducible assumption | with_reducible apply (keep_ethCount C kR) | dsimp only

theorem keep_setQp (khost : w .host) {x1 x2 s} (h : P s) : P (setQp x1 x2 s) := by
  unfold setQp
  repeat'
    first
    | with_reducible assumption | with_reducible apply (keep_modHost C khost) | dsimp only

theorem keep_advancePsn (kregs : w .regs) (khost : w .host) {x1 x2 s} (h : P s) : P (advancePsn x1 x2 s) := by
  unfold advancePsn
  repeat'
    first
    | with_reducible assumption | with_reducible apply (keep_setQp C khost)
    | with_reducible apply (keep_setReg C kregs) | dsimp only

theorem keep_sendRoce (kR : RaiseSet w) {x1 x2 x3 x4 x5 x6 s} (h : P s) : P (sendRoce x1 x2 x3 x4 x5 x6 s) := by
  unfold sendRoce
  repeat'
    first
    | with_reducible assumption | with_reducible apply (keep_sendFrame C kR) | dsimp only

theorem keep_sendAck (kR : RaiseSet w) {x1 x2 x3 s} (h : P s) : P (sendAck x1 x2 x3 s) := by
  unfold sendAck
  repeat'
    first
    | with_reducible assumption | with_reducible apply (keep_sendRoce C kR) | dsimp only

theorem keep_sendNak (kR : RaiseSet w) {x1 x2 x3 x4 s} (h : P s) : P (sendNak x1 x2 x3 x4 s) := by
  unfold sendNak
  repeat'
    first
    | with_reducible assumption | with_reducible apply (keep_qpCount C kR)
    | with_reducible apply (keep_sendRoce C kR) | with_reducible apply (keep_setQp C kR.host) | dsimp only

theorem keep_sendResponses (kR : RaiseSet w) {x1 x2 x3 x4 x5 x6 s} (h : P s) : P (sendResponses x1 x2 x3 x4 x5 x6 s) := by
  fun_induction sendResponses x1 x2 x3 x4 x5 x6 s
  all_goals
  repeat'
    first
    | with_reducible assumption | with_reducible refine of_ih ‹P _ → P _› ?_
    | with_reducible apply (keep_sendRoce C kR) | (intro x; have hx : P x := ?_; clear_value x) | intro x | subst x
    | lift_lets | split | dsimp only

theorem keep_qpViolation (kR : RaiseSet w) {x1 x2 x3 x4 s} (h : P s) : P (qpViolation x1 x2 x3 x4 s) := by
  unfold qpViolation
  repeat'
    first
    | with_reducible assumption | with_reducible apply (keep_raise C kR) | with_reducible apply (keep_sendNak C kR)
    | (intro x; have hx : P x := ?_; clear_value x) | intro x | subst x | lift_lets | dsimp only

theorem keep_maybeCnp (kR : RaiseSet w) {x1 x2 s} (h : P s) : P (maybeCnp x1 x2 s) := by
  unfold maybeCnp
  repeat'
    first
    | with_reducible assumption | with_reducible apply (keep_qpCount C kR)
    | with_reducible apply (keep_sendRoce C kR) | with_reducible apply (keep_setQp C kR.host)
    | (intro x; have hx : P x := ?_; clear_value x) | intro x | subst x | lift_lets | split | dsimp only

theorem keep_psnAhead (kR : RaiseSet w) {x1 x2 s} (h : P s) : P (psnAhead x1 x2 s) := by
  unfold psnAhead
  repeat'
    first
    | with_reducible assumption | with_reducible apply (keep_raiseCe C kR)
    | with_reducible apply (keep_sendNak C kR) | with_reducible apply (keep_setQp C kR.host)
    | (intro x; have hx : P x := ?_; clear_value x) | intro x | subst x | lift_lets | split | dsimp only

theorem keep_rdmaAdmit (kR : RaiseSet w) {x1 s} (h : P s) : P (rdmaAdmit x1 s).2 := by
  unfold rdmaAdmit
  repeat'
    first
    | with_reducible assumption | with_reducible apply (keep_ethCount C kR)
    | with_reducible apply (keep_haCount C kR) | with_reducible apply (keep_qpCount C kR)
    | with_reducible apply (keep_maybeCnp C kR) | (intro x; have hx : P x := ?_; clear_value x) | intro x | subst x
    | lift_lets | split | dsimp only

theorem keep_rdmaPut (kR : RaiseSet w) {x1 x2 x3 x4 s} (h : P s) : P (rdmaPut x1 x2 x3 x4 s).2 := by
  unfold rdmaPut
  repeat'
    first
    | with_reducible assumption | with_reducible apply (keep_noteHub C kR.mem)
    | with_reducible apply (keep_setLineSt C kR.mem) | with_reducible apply (keep_countHbmWrite C kR.regs kR.faults)
    | with_reducible apply (keep_hbmWrite C kR.hbm) | with_reducible apply (keep_hbmParity C kR)
    | with_reducible apply (keep_hbmRead C kR) | apply (C.hubPut kR.hub)
    | (intro x; have hx : P x := ?_; clear_value x) | (intro x; have hx : P x.2 := ?_; clear_value x)
    | (intro x; have hx : P x.2.2 := ?_; clear_value x) | intro x | subst x | lift_lets
    | with_reducible refine of_quad ‹_ = (_, _, _, _)› ?_ | with_reducible refine of_triple ‹_ = (_, _, _)› ?_
    | with_reducible refine of_pair ‹_ = (_, _)› ?_ | split | dsimp only

theorem keep_rdmaPutAll (kR : RaiseSet w) {x1 x2 x3 x4 x5 x6 s} (h : P s) : P (rdmaPutAll x1 x2 x3 x4 x5 x6 s).2 := by
  fun_induction rdmaPutAll x1 x2 x3 x4 x5 x6 s
  all_goals
  repeat'
    first
    | with_reducible assumption | with_reducible refine of_ih ‹P _ → P _› ?_
    | with_reducible apply (keep_rdmaPut C kR) | (intro x; have hx : P x := ?_; clear_value x) | intro x | subst x
    | lift_lets | with_reducible refine of_quad ‹_ = (_, _, _, _)› ?_
    | with_reducible refine of_triple ‹_ = (_, _, _)› ?_ | with_reducible refine of_pair ‹_ = (_, _)› ?_ | split
    | dsimp only

theorem keep_writePacket (kR : RaiseSet w) {x1 x2 x3 x4 s} (h : P s) : P (writePacket x1 x2 x3 x4 s) := by
  unfold writePacket
  repeat'
    first
    | with_reducible assumption | with_reducible apply (keep_rdmaPutAll C kR)
    | with_reducible apply (keep_advancePsn C kR.regs kR.host) | with_reducible apply (keep_qpViolation C kR)
    | with_reducible apply (keep_qpCount C kR) | with_reducible apply (keep_setQp C kR.host)
    | (intro x; have hx : P x := ?_; clear_value x) | intro x | subst x | lift_lets
    | with_reducible refine of_quad ‹_ = (_, _, _, _)› ?_ | with_reducible refine of_triple ‹_ = (_, _, _)› ?_
    | with_reducible refine of_pair ‹_ = (_, _)› ?_ | split | dsimp only

theorem keep_writeExpected (kR : RaiseSet w) {x1 x2 x3 s} (h : P s) : P (writeExpected x1 x2 x3 s) := by
  unfold writeExpected
  repeat'
    first
    | with_reducible assumption | with_reducible apply (keep_writePacket C kR)
    | with_reducible apply (keep_qpViolation C kR) | (intro x; have hx : P x := ?_; clear_value x) | intro x
    | subst x | lift_lets | split | dsimp only

theorem keep_writeDuplicate (kR : RaiseSet w) {x1 x2 s} (h : P s) : P (writeDuplicate x1 x2 s) := by
  unfold writeDuplicate
  repeat'
    first
    | with_reducible assumption | with_reducible apply (keep_qpCount C kR)
    | with_reducible apply (keep_setQp C kR.host) | with_reducible apply (keep_sendAck C kR)
    | (intro x; have hx : P x := ?_; clear_value x) | intro x | subst x | lift_lets | split | dsimp only

theorem keep_sendAcks (kR : RaiseSet w) {x1 x2 s} (h : P s) : P (sendAcks x1 x2 s) := by
  fun_induction sendAcks x1 x2 s
  all_goals
  repeat'
    first
    | with_reducible assumption | with_reducible refine of_ih ‹P _ → P _› ?_
    | with_reducible apply (keep_sendAck C kR) | split | dsimp only

theorem keep_rdmaAck (kR : RaiseSet w) {x1 s} (h : P s) : P (rdmaAck x1 s) := by
  unfold rdmaAck
  repeat'
    first
    | with_reducible assumption | with_reducible apply (keep_sendAcks C kR)
    | with_reducible apply (keep_sendAck C kR) | with_reducible apply (keep_setQp C kR.host)
    | (intro x; have hx : P x := ?_; clear_value x) | intro x | subst x | lift_lets | split | dsimp only

theorem keep_rdmaGet (kR : RaiseSet w) {x1 x2 x3 x4 x5 s} (h : P s) : P (rdmaGet x1 x2 x3 x4 x5 s).2.2 := by
  induction x3 generalizing x4 x5 s with
  | zero => exact h
  | succ k ih =>
    unfold rdmaGet
    dsimp only
    split
    · exact ih h
    · split
      · have hr := keep_hbmRead C kR (x1 := x5) (x2 := lineErrs x2 x4) (x3 := .qp x1) h
        split
        · rename_i e
          rw [e] at hr
          exact ih hr
        · rename_i e
          rw [e] at hr
          exact hr
      · exact ih h

theorem keep_rdmaDoRead (kR : RaiseSet w) {x1 x2 x3 s} (h : P s) : P (rdmaDoRead x1 x2 x3 s) := by
  unfold rdmaDoRead
  repeat'
    first
    | with_reducible assumption | with_reducible apply (keep_rdmaGet C kR)
    | with_reducible apply (keep_setQp C kR.host) | with_reducible apply (keep_qpCount C kR)
    | with_reducible apply (keep_sendResponses C kR) | with_reducible apply (keep_qpViolation C kR)
    | (intro x; have hx : P x := ?_; clear_value x) | (intro x; have hx : P x.2 := ?_; clear_value x)
    | (intro x; have hx : P x.2.2 := ?_; clear_value x) | intro x | subst x | lift_lets | split | dsimp only

theorem keep_rdmaRead (kR : RaiseSet w) {x1 x2 x3 s} (h : P s) : P (rdmaRead x1 x2 x3 s) := by
  unfold rdmaRead
  repeat'
    first
    | with_reducible assumption | with_reducible apply (keep_psnAhead C kR)
    | with_reducible apply (keep_rdmaDoRead C kR) | with_reducible apply (keep_qpCount C kR)
    | with_reducible apply (keep_qpViolation C kR) | with_reducible apply (keep_advancePsn C kR.regs kR.host)
    | split | dsimp only

theorem keep_rdmaWrite (kR : RaiseSet w) {x1 x2 x3 s} (h : P s) : P (rdmaWrite x1 x2 x3 s) := by
  unfold rdmaWrite
  repeat'
    first
    | with_reducible assumption | with_reducible apply (keep_psnAhead C kR)
    | with_reducible apply (keep_qpViolation C kR) | with_reducible apply (keep_writeDuplicate C kR)
    | with_reducible apply (keep_writeExpected C kR) | split | dsimp only

theorem keep_rocePacket (kR : RaiseSet w) {x1 x2 s} (h : P s) : P (rocePacket x1 x2 s) := by
  unfold rocePacket
  repeat'
    first
    | with_reducible assumption | with_reducible apply (keep_rdmaAdmit C kR)
    | with_reducible apply (keep_rdmaRead C kR) | with_reducible apply (keep_rdmaWrite C kR)
    | with_reducible refine of_quad ‹_ = (_, _, _, _)› ?_ | with_reducible refine of_triple ‹_ = (_, _, _)› ?_
    | with_reducible refine of_pair ‹_ = (_, _)› ?_ | split | dsimp only

theorem keep_roceArrive (kR : RaiseSet w) {x1 x2 s} (h : P s) : P (roceArrive x1 x2 s) := by
  unfold roceArrive
  repeat'
    first
    | with_reducible assumption | with_reducible apply (keep_ethCount C kR)
    | with_reducible apply (keep_discard C kR) | with_reducible apply (keep_rocePacket C kR)
    | (intro x; have hx : P x := ?_; clear_value x) | intro x | subst x | lift_lets | split | dsimp only

theorem keep_classify (kR : RaiseSet w) {x1 x2 x3 s} (h : P s) : P (classify x1 x2 x3 s) := by
  unfold classify
  repeat'
    first
    | with_reducible assumption | with_reducible apply (keep_emit C kR.out)
    | with_reducible apply (keep_discard C kR) | with_reducible apply (keep_inCount C kR)
    | with_reducible apply (keep_queueFrame C kR) | with_reducible apply (keep_ethCount C kR)
    | with_reducible apply (keep_rocePacket C kR) | with_reducible apply (keep_marketFrame C kR)
    | (intro x; have hx : P x := ?_; clear_value x) | intro x | subst x | lift_lets | split | dsimp only

theorem keep_ethReceive (kR : RaiseSet w) {x1 x2 x3 s} (h : P s) : P (ethReceive x1 x2 x3 s) := by
  unfold ethReceive
  repeat'
    first
    | with_reducible assumption | with_reducible apply (keep_ethCount C kR)
    | with_reducible apply (keep_raiseCe C kR) | with_reducible apply (keep_discard C kR)
    | with_reducible apply (keep_macsecStage C kR.host) | with_reducible apply (keep_haCount C kR)
    | with_reducible apply (keep_classify C kR) | (intro x; have hx : P x := ?_; clear_value x) | intro x | subst x
    | lift_lets | with_reducible refine of_quad ‹_ = (_, _, _, _)› ?_
    | with_reducible refine of_triple ‹_ = (_, _, _)› ?_ | with_reducible refine of_pair ‹_ = (_, _)› ?_ | split
    | dsimp only

theorem keep_qpReset (kregs : w .regs) (khost : w .host) {x1 s} (h : P s) : P (qpReset x1 s) := by
  unfold qpReset
  repeat'
    first
    | with_reducible assumption | with_reducible apply (keep_setReg C kregs)
    | with_reducible apply (keep_setQp C khost) | dsimp only

theorem keep_eventSend (kR : RaiseSet w) {s} (h : P s) : P (eventSend s) := by
  unfold eventSend
  repeat'
    first
    | with_reducible assumption | with_reducible apply (keep_haCount C kR)
    | with_reducible apply (keep_sendFrame C kR) | with_reducible apply (keep_modHost C kR.host)
    | (intro x; have hx : P x := ?_; clear_value x) | intro x | subst x | lift_lets | split | dsimp only

theorem keep_eventResend (kR : RaiseSet w) {s} (h : P s) : P (eventResend s) := by
  unfold eventResend
  repeat'
    first
    | with_reducible assumption | with_reducible apply (keep_raiseCe C kR)
    | with_reducible apply (keep_modHost C kR.host) | with_reducible apply (keep_haCount C kR)
    | with_reducible apply (keep_sendFrame C kR) | split | dsimp only

theorem keep_eventAcked (kfaults : w .faults) (khost : w .host) {x1 s} (h : P s) : P (eventAcked x1 s) := by
  unfold eventAcked
  repeat'
    first
    | with_reducible assumption | with_reducible apply (keep_modHost C khost)
    | fail_if_no_progress with_reducible apply (C.faults kfaults) | split | dsimp only

theorem keep_evtCfgWrite (kregs : w .regs) (khost : w .host) {x1 s} (h : P s) : P (evtCfgWrite x1 s) := by
  unfold evtCfgWrite
  repeat'
    first
    | with_reducible assumption | with_reducible apply (keep_setReg C kregs)
    | with_reducible apply (keep_modHost C khost) | (intro x; have hx : P x := ?_; clear_value x) | intro x
    | subst x | lift_lets | split | dsimp only

theorem keep_admPrepare (kfree : w .free) (khost : w .host) {s} (h : P s) : P (admPrepare s) := by
  unfold admPrepare
  repeat'
    first
    | with_reducible assumption | with_reducible apply (C.drawFree kfree)
    | with_reducible apply (keep_modHost C khost) | (intro x; have hx : P x := ?_; clear_value x) | intro x
    | subst x | lift_lets | dsimp only

theorem keep_zeroAdm (kregs : w .regs) {s} (h : P s) : P (zeroAdm s) := by
  unfold zeroAdm
  repeat'
    first
    | with_reducible assumption | with_reducible apply (keep_setReg C kregs)
    | with_reducible refine foldl_keep (fun s b hs => ?_) ?_ | dsimp only

theorem keep_installCak (khost : w .host) {x1 x2 x3 x4 s} (h : P s) : P (installCak x1 x2 x3 x4 s) := by
  fun_induction installCak x1 x2 x3 x4 s
  all_goals
  repeat'
    first
    | with_reducible assumption | with_reducible refine of_ih ‹P _ → P _› ?_
    | with_reducible apply (keep_setMacsec C khost) | split | dsimp only

theorem keep_admReject (kR : RaiseSet w) {x1 s} (h : P s) : P (admReject x1 s) := by
  unfold admReject
  repeat'
    first
    | with_reducible assumption | with_reducible apply (keep_raiseCe C kR)
    | with_reducible apply (keep_modHost C kR.host) | split | dsimp only

theorem keep_admInstall (kR : RaiseSet w) {s} (h : P s) : P (admInstall s) := by
  unfold admInstall
  repeat'
    first
    | with_reducible assumption | with_reducible apply (keep_zeroAdm C kR.regs)
    | with_reducible apply (keep_modHost C kR.host) | with_reducible apply (keep_admReject C kR)
    | with_reducible apply (keep_installCak C kR.host) | (intro x; have hx : P x := ?_; clear_value x) | intro x
    | subst x | lift_lets | split | dsimp only

theorem keep_admRevoke (khost : w .host) {s} (h : P s) : P (admRevoke s) := by
  unfold admRevoke
  repeat'
    first
    | with_reducible assumption | with_reducible apply (keep_modHost C khost) | split | dsimp only

theorem keep_admCmd (kR : RaiseSet w) (kfree : w .free) {x1 s} (h : P s) : P (admCmd x1 s) := by
  unfold admCmd
  repeat'
    first
    | with_reducible assumption | with_reducible apply (keep_admPrepare C kfree kR.host)
    | with_reducible apply (keep_admInstall C kR) | with_reducible apply (keep_admRevoke C kR.host) | split
    | dsimp only

theorem keep_sakInstall (khost : w .host) {x1 x2 x3 x4 s} (h : P s) : P (sakInstall x1 x2 x3 x4 s) := by
  unfold sakInstall
  repeat'
    first
    | with_reducible assumption | with_reducible apply (keep_setMacsec C khost)
    | (intro x; have hx : P x := ?_; clear_value x) | intro x | subst x | lift_lets | split | dsimp only

theorem keep_mkaLoss (khost : w .host) {x1 s} (h : P s) : P (mkaLoss x1 s) := by
  unfold mkaLoss
  repeat'
    first
    | with_reducible assumption | with_reducible apply (keep_setMacsec C khost) | dsimp only

theorem keep_setBudget (kregs : w .regs) {x1 x2 s} (h : P s) : P (setBudget x1 x2 s) := by
  unfold setBudget
  repeat'
    first
    | with_reducible assumption | with_reducible apply (keep_setReg C kregs) | dsimp only

/-! ## Reduce -/

theorem keep_setEngine (kengines : w .engines) {x1 x2 x3 s} (h : P s) : P (setEngine x1 x2 x3 s) := by
  unfold setEngine
  repeat'
    first
    | with_reducible assumption | fail_if_no_progress with_reducible apply (C.engines kengines) | dsimp only

theorem keep_redFault (kR : RaiseSet w) (kengines : w .engines) {x1 x2 x3 x4 x5 x6 x7 s} (h : P s) : P (redFault x1 x2 x3 x4 x5 x6 x7 s) := by
  unfold redFault
  repeat'
    first
    | with_reducible assumption | with_reducible apply (keep_raise C kR)
    | with_reducible apply (keep_setEngine C kengines) | (intro x; have hx : P x := ?_; clear_value x) | intro x
    | subst x | lift_lets | split | dsimp only

theorem keep_advance (kengines : w .engines) {x1 x2 x3 s} (h : P s) : P (advance x1 x2 x3 s) := by
  unfold advance
  repeat'
    first
    | with_reducible assumption | with_reducible apply (keep_setEngine C kengines)
    | (intro x; have hx : P x := ?_; clear_value x) | intro x | subst x | lift_lets | dsimp only

theorem keep_noteBuf (kregs : w .regs) {x1 x2 s} (h : P s) : P (noteBuf x1 x2 s) := by
  unfold noteBuf
  repeat'
    first
    | with_reducible assumption | with_reducible apply (keep_setReg C kregs)
    | (intro x; have hx : P x := ?_; clear_value x) | intro x | subst x | lift_lets | split | dsimp only

theorem keep_contribBegin (kregs : w .regs) (kengines : w .engines) {x1 x2 x3 x4 x5 s} (h : P s) : P (contribBegin x1 x2 x3 x4 x5 s) := by
  unfold contribBegin
  repeat'
    first
    | with_reducible assumption | with_reducible apply (keep_noteBuf C kregs)
    | with_reducible apply (keep_setEngine C kengines) | (intro x; have hx : P x := ?_; clear_value x) | intro x
    | subst x | lift_lets | split | dsimp only

theorem keep_contribEnd (kR : RaiseSet w) (kengines : w .engines) {x1 x2 x3 x4 s} (h : P s) : P (contribEnd x1 x2 x3 x4 s) := by
  unfold contribEnd
  repeat'
    first
    | with_reducible assumption | with_reducible apply (keep_bump48 C kR)
    | with_reducible apply (keep_setEngine C kengines) | (intro x; have hx : P x := ?_; clear_value x) | intro x
    | subst x | lift_lets | split | dsimp only

theorem keep_chargeRed (kenergy : w .energy) {x1 s} (h : P s) : P (chargeRed x1 s) := by
  unfold chargeRed
  repeat'
    first
    | with_reducible assumption | with_reducible apply (keep_chargePart C kenergy)
    | with_reducible apply (keep_chargeJob C kenergy) | dsimp only

theorem keep_contribLine (kR : RaiseSet w) (kenergy : w .energy) (kengines : w .engines) {x1 x2 x3 x4 x5 s} (h : P s) : P (contribLine x1 x2 x3 x4 x5 s) := by
  unfold contribLine
  repeat'
    first
    | with_reducible assumption | with_reducible apply (keep_advance C kengines)
    | with_reducible apply (keep_redFault C kR kengines) | with_reducible apply (keep_setEngine C kengines)
    | with_reducible apply (keep_chargeRed C kenergy) | with_reducible apply (keep_contribEnd C kR kengines)
    | (intro x; have hx : P x := ?_; clear_value x) | intro x | subst x | lift_lets | split | dsimp only

theorem keep_contribHead (kR : RaiseSet w) (kengines : w .engines) {x1 x2 x3 x4 s} (h : P s) : P (contribHead x1 x2 x3 x4 s) := by
  unfold contribHead
  repeat'
    first
    | with_reducible assumption | with_reducible apply (keep_redFault C kR kengines)
    | with_reducible apply (keep_setEngine C kengines) | with_reducible apply (keep_contribBegin C kR.regs kengines)
    | (intro x; have hx : P x := ?_; clear_value x) | intro x | subst x | lift_lets | split | dsimp only

theorem keep_reduceContribution (kR : RaiseSet w) (kenergy : w .energy) (kengines : w .engines) {x1 x2 x3 s} (h : P s) : P (reduceContribution x1 x2 x3 s) := by
  unfold reduceContribution
  repeat'
    first
    | with_reducible assumption | with_reducible apply (keep_setEngine C kengines)
    | with_reducible apply (keep_contribLine C kR kenergy kengines)
    | with_reducible apply (keep_redFault C kR kengines) | with_reducible apply (keep_contribHead C kR kengines)
    | (intro x; have hx : P x := ?_; clear_value x) | intro x | subst x | lift_lets | split | dsimp only

theorem keep_reduceDescriptor (kR : RaiseSet w) (kengines : w .engines) {x1 x2 x3 s} (h : P s) : P (reduceDescriptor x1 x2 x3 s) := by
  unfold reduceDescriptor
  repeat'
    first
    | with_reducible assumption | with_reducible apply (keep_setEngine C kengines)
    | with_reducible apply (keep_redFault C kR kengines) | with_reducible apply (keep_advance C kengines)
    | (intro x; have hx : P x := ?_; clear_value x) | intro x | subst x | lift_lets | split | dsimp only

theorem keep_engineArrive (kR : RaiseSet w) (kengines : w .engines) {x1 x2 x3 x4 s} (h : P s) : P (engineArrive x1 x2 x3 x4 s) := by
  unfold engineArrive
  repeat'
    first
    | with_reducible assumption | with_reducible apply (keep_redFault C kR kengines)
    | with_reducible apply (keep_setEngine C kengines) | (intro x; have hx : P x := ?_; clear_value x) | intro x
    | subst x | lift_lets | split | dsimp only

theorem keep_spendUnit (kfab : w .fab) {x1 s} (h : P s) : P (spendUnit x1 s) := by
  unfold spendUnit
  repeat'
    first
    | with_reducible assumption | fail_if_no_progress with_reducible apply (C.fab kfab) | dsimp only

theorem keep_unitDeliver (kR : RaiseSet w) (kfab : w .fab) (kenergy : w .energy) (kengines : w .engines) {x1 x2 x3 x4 s} (h : P s) : P (unitDeliver x1 x2 x3 x4 s) := by
  unfold unitDeliver
  repeat'
    first
    | with_reducible assumption | with_reducible apply (keep_setEngine C kengines)
    | with_reducible apply (keep_spendUnit C kfab) | with_reducible apply (keep_chargeJob C kenergy)
    | with_reducible apply (keep_bump48 C kR) | with_reducible apply (keep_raiseCe C kR)
    | fail_if_no_progress with_reducible apply (C.fab kfab) | (intro x; have hx : P x := ?_; clear_value x)
    | intro x | subst x | lift_lets | split | dsimp only

theorem keep_dropDelivery (kfab : w .fab) {x1 x2 x3 s} (h : P s) : P (dropDelivery x1 x2 x3 s) := by
  unfold dropDelivery
  repeat'
    first
    | with_reducible assumption | fail_if_no_progress with_reducible apply (C.fab kfab)
    | (intro x; have hx : P x := ?_; clear_value x) | intro x | subst x | lift_lets | dsimp only

theorem keep_slotsAtFrame (kR : RaiseSet w) (kfab : w .fab) (kengines : w .engines) {s} (h : P s) : P (slotsAtFrame s) := by
  unfold slotsAtFrame
  repeat'
    first
    | with_reducible assumption | with_reducible apply (keep_raise C kR)
    | with_reducible apply (keep_setEngine C kengines) | with_reducible apply (keep_dropDelivery C kfab)
    | with_reducible refine foldl_keep (fun s b hs => ?_) ?_ | dsimp only

theorem keep_dropOwned (kengines : w .engines) {x1 s} (h : P s) : P (dropOwned x1 s) := by
  unfold dropOwned
  repeat'
    first
    | with_reducible assumption | fail_if_no_progress with_reducible apply (C.enginesMap kengines)
    | (intro x; have hx : P x := ?_; clear_value x) | intro x | subst x | lift_lets | dsimp only

/-! ## Resets -/

theorem keep_dropRegs (kregs : w .regs) {x1 s} (h : P s) : P (dropRegs x1 s) := by
  unfold dropRegs
  repeat'
    first
    | with_reducible assumption | apply (C.regsDrop kregs) | dsimp only

theorem keep_logLoss (kR : RaiseSet w) {x1 x2 x3 x4 s} (h : P s) : P (logLoss x1 x2 x3 x4 s) := by
  unfold logLoss
  repeat'
    first
    | with_reducible assumption | with_reducible apply (keep_raiseCe C kR)
    | with_reducible apply (keep_logEvent C kR.regs kR.faults)
    | with_reducible refine foldl_keep (fun s b hs => ?_) ?_ | (intro x; have hx : P x := ?_; clear_value x)
    | intro x | subst x | lift_lets | split | dsimp only

theorem keep_logLosses (kR : RaiseSet w) {x1 x2 s} (h : P s) : P (logLosses x1 x2 s) := by
  unfold logLosses
  repeat'
    first
    | with_reducible assumption | with_reducible apply (keep_logLoss C kR)
    | with_reducible refine foldl_keep (fun s b hs => ?_) ?_ | dsimp only

theorem keep_dropCoreWires (kfab : w .fab) {x1 s} (h : P s) : P (dropCoreWires x1 s) := by
  unfold dropCoreWires
  repeat'
    first
    | with_reducible assumption | fail_if_no_progress with_reducible apply (C.fab kfab) | dsimp only

theorem keep_zeroSram (ksram : w .sram) {x1 s} (h : P s) : P (zeroSram x1 s) := by
  unfold zeroSram
  repeat'
    first
    | with_reducible assumption | apply (C.sramDrop ksram) | dsimp only

theorem keep_freshCore (ksram : w .sram) (kcores : w .cores) (kfab : w .fab) {x1 x2 x3 s} (h : P s) : P (freshCore x1 x2 x3 s) := by
  unfold freshCore
  repeat'
    first
    | with_reducible assumption | with_reducible apply (keep_dropCoreWires C kfab)
    | with_reducible apply (keep_returnAll C kfab) | with_reducible apply (keep_zeroSram C ksram)
    | with_reducible apply (keep_setCore C kcores) | (intro x; have hx : P x := ?_; clear_value x) | intro x
    | subst x | lift_lets | split | dsimp only

theorem keep_freshCores (ksram : w .sram) (kcores : w .cores) (kfab : w .fab) {x1 x2 x3 s} (h : P s) : P (freshCores x1 x2 x3 s) := by
  fun_induction freshCores x1 x2 x3 s
  all_goals
  repeat'
    first
    | with_reducible assumption | with_reducible refine of_ih ‹P _ → P _› ?_
    | with_reducible apply (keep_freshCore C ksram kcores kfab) | split | dsimp only

theorem keep_discardInner (kcores : w .cores) (kfab : w .fab) {x1 x2 s} (h : P s) : P (discardInner x1 x2 s) := by
  fun_induction discardInner x1 x2 s
  all_goals
  repeat'
    first
    | with_reducible assumption | with_reducible refine of_ih ‹P _ → P _› ?_
    | with_reducible apply (keep_modCore C kcores) | with_reducible apply (keep_returnCredits C kfab)
    | (intro x; have hx : P x := ?_; clear_value x) | intro x | subst x | lift_lets | split | dsimp only

theorem keep_drainCore (kR : RaiseSet w) (know : w .now) (kfab : w .fab) (kenergy : w .energy) {x1 x2 s} (h : P s) : P (drainCore x1 x2 s) := by
  unfold drainCore
  repeat'
    first
    | with_reducible assumption | with_reducible apply (keep_discardInner C kR.cores kfab)
    | with_reducible apply (keep_modCore C kR.cores) | with_reducible apply (keep_hwrFlush C kR know kenergy)
    | with_reducible apply (keep_dropCoreWires C kfab) | with_reducible apply (keep_countAbsorb C kR)
    | (intro x; have hx : P x := ?_; clear_value x) | intro x | subst x | lift_lets | split | dsimp only

theorem keep_drainCores (kR : RaiseSet w) (know : w .now) (kfab : w .fab) (kenergy : w .energy) {x1 x2 s} (h : P s) : P (drainCores x1 x2 s) := by
  fun_induction drainCores x1 x2 s
  all_goals
  repeat'
    first
    | with_reducible assumption | with_reducible refine of_ih ‹P _ → P _› ?_
    | with_reducible apply (keep_drainCore C kR know kfab kenergy) | split | dsimp only

theorem keep_discardWires (kfab : w .fab) {x1 s} (h : P s) : P (discardWires x1 s) := by
  fun_induction discardWires x1 s
  all_goals
  repeat'
    first
    | with_reducible assumption | with_reducible refine of_ih ‹P _ → P _› ?_
    | with_reducible apply (keep_returnCredit C kfab) | with_reducible apply (keep_takeWire C kfab) | split
    | dsimp only

theorem keep_startReset (kR : RaiseSet w) (know : w .now) (kfab : w .fab) (kresets : w .resets) (kenergy : w .energy) {x1 x2 s} (h : P s) : P (startReset x1 x2 s) := by
  unfold startReset
  repeat'
    first
    | with_reducible assumption | with_reducible apply (keep_drainCores C kR know kfab kenergy)
    | with_reducible apply (keep_discardWires C kfab) | fail_if_no_progress with_reducible apply (C.resets kresets)
    | (intro x; have hx : P x := ?_; clear_value x) | intro x | subst x | lift_lets | dsimp only

theorem keep_coreResetReq (kR : RaiseSet w) (know : w .now) (kfab : w .fab) (kresets : w .resets) (kenergy : w .energy) {x1 s} (h : P s) : P (coreResetReq x1 s) := by
  unfold coreResetReq
  repeat'
    first
    | with_reducible assumption | with_reducible apply (keep_startReset C kR know kfab kresets kenergy)
    | with_reducible apply (keep_raiseCe C kR) | split | dsimp only

theorem keep_coreFreezeReset (kR : RaiseSet w) (know : w .now) (kfab : w .fab) (kresets : w .resets) (kenergy : w .energy) {x1 s} (h : P s) : P (coreFreezeReset x1 s) := by
  unfold coreFreezeReset
  repeat'
    first
    | with_reducible assumption | with_reducible apply (keep_modCore C kR.cores)
    | with_reducible apply (keep_coreResetReq C kR know kfab kresets kenergy)
    | (intro x; have hx : P x := ?_; clear_value x) | intro x | subst x | lift_lets | split | dsimp only

theorem keep_heldReset (kR : RaiseSet w) (know : w .now) (kfab : w .fab) (kresets : w .resets) (kenergy : w .energy) {x1 s} (h : P s) : P (heldReset x1 s) := by
  unfold heldReset
  repeat'
    first
    | with_reducible assumption | with_reducible apply (keep_coreResetReq C kR know kfab kresets kenergy)
    | with_reducible apply (keep_modCore C kR.cores) | split | dsimp only

theorem keep_clusterResetReq (kR : RaiseSet w) (know : w .now) (kfab : w .fab) (kresets : w .resets) (kenergy : w .energy) {x1 s} (h : P s) : P (clusterResetReq x1 s) := by
  unfold clusterResetReq
  repeat'
    first
    | with_reducible assumption | with_reducible apply (keep_startReset C kR know kfab kresets kenergy)
    | with_reducible apply (keep_raiseCe C kR) | (intro x; have hx : P x := ?_; clear_value x) | intro x | subst x
    | lift_lets | split | dsimp only

theorem keep_spillCores (kR : RaiseSet w) (ksram : w .sram) (kfab : w .fab) {x1 s} (h : P s) : P (spillCores x1 s) := by
  fun_induction spillCores x1 s
  all_goals
  repeat'
    first
    | with_reducible assumption | with_reducible refine of_ih ‹P _ → P _› ?_
    | with_reducible apply (keep_spillRequest C kR ksram kfab) | split | dsimp only

theorem keep_startFill (kR : RaiseSet w) (ksram : w .sram) (kfab : w .fab) (kdev : w .dev) {s} (h : P s) : P (startFill s) := by
  unfold startFill
  repeat'
    first
    | with_reducible assumption | with_reducible apply (keep_fillRemap C kdev)
    | with_reducible apply (keep_spillCores C kR ksram kfab) | fail_if_no_progress with_reducible apply (C.dev kdev)
    | split | dsimp only

theorem keep_dropFills (kR : RaiseSet w) (ksram : w .sram) (kfab : w .fab) (kdev : w .dev) {x1 s} (h : P s) : P (dropFills x1 s) := by
  unfold dropFills
  repeat'
    first
    | with_reducible assumption | with_reducible apply (keep_startFill C kR ksram kfab kdev)
    | fail_if_no_progress with_reducible apply (C.dev kdev) | (intro x; have hx : P x := ?_; clear_value x)
    | intro x | subst x | lift_lets | split | dsimp only

theorem keep_raiseAbandoned (kR : RaiseSet w) {x1 x2 s} (h : P s) : P (raiseAbandoned x1 x2 s) := by
  fun_induction raiseAbandoned x1 x2 s
  all_goals
  repeat'
    first
    | with_reducible assumption | with_reducible refine of_ih ‹P _ → P _› ?_
    | with_reducible apply (keep_raiseCe C kR) | split | dsimp only

theorem keep_abandonFills (kR : RaiseSet w) (ksram : w .sram) (kfab : w .fab) (kdev : w .dev) {x1 s} (h : P s) : P (abandonFills x1 s) := by
  unfold abandonFills
  repeat'
    first
    | with_reducible assumption | with_reducible apply (keep_dropFills C kR ksram kfab kdev)
    | with_reducible apply (keep_raiseAbandoned C kR) | dsimp only

theorem keep_remapEmpty (kdev : w .dev) {x1 s} (h : P s) : P (remapEmpty x1 s) := by
  fun_induction remapEmpty x1 s
  all_goals
  repeat'
    first
    | with_reducible assumption | with_reducible refine of_ih ‹P _ → P _› ?_
    | with_reducible apply (keep_remapCol C kdev) | split | dsimp only

theorem keep_abandonRestore (kcairn : w .cairn) {x1 s} (h : P s) : P (abandonRestore x1 s) := by
  unfold abandonRestore
  repeat'
    first
    | with_reducible assumption | fail_if_no_progress with_reducible apply (C.cairn kcairn) | split | dsimp only

theorem keep_partBegin (kR : RaiseSet w) (ksram : w .sram) (kfab : w .fab) (kengines : w .engines) (kdev : w .dev) {x1 s} (h : P s) : P (partBegin x1 s) := by
  unfold partBegin
  repeat'
    first
    | with_reducible assumption | with_reducible apply (keep_abandonFills C kR ksram kfab kdev)
    | with_reducible apply (keep_abandonRestore C kR.cairn) | with_reducible apply (keep_dropOwned C kengines)
    | with_reducible apply (keep_abandonPartMoves C kR.regs kR.hub kR.hbm kR.faults kR.mem kR.cairn)
    | with_reducible apply (keep_endSequences C kR.serve) | (intro x; have hx : P x := ?_; clear_value x) | intro x
    | subst x | lift_lets | split | dsimp only

theorem keep_dropEnergyPart (kenergy : w .energy) {x1 s} (h : P s) : P (dropEnergyPart x1 s) := by
  unfold dropEnergyPart
  repeat'
    first
    | with_reducible assumption | fail_if_no_progress with_reducible apply (C.energy kenergy) | dsimp only

theorem keep_resetRegion (kR : RaiseSet w) {x1 x2 x3 s} (h : P s) : P (resetRegion x1 x2 x3 s) := by
  unfold resetRegion
  repeat'
    first
    | with_reducible assumption | with_reducible apply (keep_logLosses C kR)
    | with_reducible apply (keep_dropRegs C kR.regs) | (intro x; have hx : P x := ?_; clear_value x) | intro x
    | subst x | lift_lets | dsimp only

theorem keep_partRegs (kR : RaiseSet w) (kenergy : w .energy) {x1 x2 x3 s} (h : P s) : P (partRegs x1 x2 x3 s) := by
  unfold partRegs
  repeat'
    first
    | with_reducible assumption | with_reducible apply (keep_resetRegion C kR)
    | with_reducible apply (keep_dropEnergyPart C kenergy) | (intro x; have hx : P x := ?_; clear_value x) | intro x
    | subst x | lift_lets | split | dsimp only

theorem keep_partFresh (kR : RaiseSet w) (ksram : w .sram) (kfab : w .fab) (kenergy : w .energy) {x1 x2 x3 x4 s} (h : P s) : P (partFresh x1 x2 x3 x4 s) := by
  unfold partFresh
  repeat'
    first
    | with_reducible assumption | with_reducible apply (keep_freshCores C ksram kR.cores kfab)
    | with_reducible apply (keep_partRegs C kR kenergy) | dsimp only

theorem keep_partDone (kR : RaiseSet w) (kdev : w .dev) {x1 x2 s} (h : P s) : P (partDone x1 x2 s) := by
  unfold partDone
  repeat'
    first
    | with_reducible assumption | with_reducible apply (keep_remapEmpty C kdev)
    | with_reducible apply (keep_bump48 C kR) | with_reducible apply (keep_rset64 C kR.regs)
    | with_reducible apply (keep_setPart C kR.parts) | with_reducible apply (keep_setReg C kR.regs)
    | (intro x; have hx : P x := ?_; clear_value x) | intro x | subst x | lift_lets | dsimp only

theorem keep_partResetReq (kR : RaiseSet w) (know : w .now) (ksram : w .sram) (kfab : w .fab) (kresets : w .resets) (kenergy : w .energy) (kengines : w .engines) (kdev : w .dev) {x1 s} (h : P s) : P (partResetReq x1 s) := by
  unfold partResetReq
  repeat'
    first
    | with_reducible assumption | with_reducible apply (keep_setPart C kR.parts)
    | with_reducible apply (keep_startReset C kR know kfab kresets kenergy)
    | with_reducible apply (keep_partBegin C kR ksram kfab kengines kdev)
    | (intro x; have hx : P x := ?_; clear_value x) | intro x | subst x | lift_lets | split | dsimp only

theorem keep_dropHeld (kcores : w .cores) (kfab : w .fab) {x1 s} (h : P s) : P (dropHeld x1 s) := by
  fun_induction dropHeld x1 s
  all_goals
  repeat'
    first
    | with_reducible assumption | with_reducible refine of_ih ‹P _ → P _› ?_
    | with_reducible apply (keep_modCore C kcores) | with_reducible apply (keep_returnAll C kfab) | split
    | dsimp only

theorem keep_drainEnd (kR : RaiseSet w) (know : w .now) (kfab : w .fab) (kresets : w .resets) {x1 s} (h : P s) : P (drainEnd x1 s) := by
  unfold drainEnd
  repeat'
    first
    | with_reducible assumption | with_reducible apply (keep_dropHeld C kR.cores kfab)
    | with_reducible apply (C.passTo know) | with_reducible apply (keep_raiseCe C kR)
    | with_reducible apply (keep_bump48 C kR) | fail_if_no_progress with_reducible apply (C.resets kresets)
    | (intro x; have hx : P x := ?_; clear_value x) | intro x | subst x | lift_lets | split | dsimp only

theorem keep_resetComplete (kR : RaiseSet w) (ksram : w .sram) (kfab : w .fab) (kresets : w .resets) (kenergy : w .energy) (kdev : w .dev) {x1 s} (h : P s) : P (resetComplete x1 s) := by
  unfold resetComplete
  repeat'
    first
    | with_reducible assumption | with_reducible apply (keep_partFresh C kR ksram kfab kenergy)
    | with_reducible apply (keep_freshCores C ksram kR.cores kfab) | with_reducible apply (keep_resetRegion C kR)
    | with_reducible apply (keep_partDone C kR kdev) | with_reducible apply (keep_fillRemap C kdev)
    | fail_if_no_progress with_reducible apply (C.resets kresets) | (intro x; have hx : P x := ?_; clear_value x)
    | intro x | subst x | lift_lets | split | dsimp only

theorem keep_powerRequest (kR : RaiseSet w) {x1 x2 s} (h : P s) : P (powerRequest x1 x2 s) := by
  unfold powerRequest
  repeat'
    first
    | with_reducible assumption | with_reducible apply (keep_setReg C kR.regs)
    | with_reducible apply (keep_setPart C kR.parts) | with_reducible apply (keep_raiseCe C kR)
    | (intro x; have hx : P x := ?_; clear_value x) | intro x | subst x | lift_lets | split | dsimp only

theorem keep_dropHigh (kcores : w .cores) {x1 s} (h : P s) : P (dropHigh x1 s) := by
  fun_induction dropHigh x1 s
  all_goals
  repeat'
    first
    | with_reducible assumption | with_reducible refine of_ih ‹P _ → P _› ?_
    | with_reducible apply (keep_modCore C kcores) | split | dsimp only

theorem keep_powerEntry (kR : RaiseSet w) (kenergy : w .energy) (kdev : w .dev) {x1 x2 s} (h : P s) : P (powerEntry x1 x2 s) := by
  unfold powerEntry
  repeat'
    first
    | with_reducible assumption | with_reducible apply (keep_setPower C kdev)
    | with_reducible apply (keep_setPart C kR.parts) | with_reducible apply (keep_endSequences C kR.serve)
    | with_reducible apply (keep_dropHigh C kR.cores) | with_reducible apply (keep_partRegs C kR kenergy)
    | (intro x; have hx : P x := ?_; clear_value x) | intro x | subst x | lift_lets | split | dsimp only

theorem keep_reloadMicrocode (kdev : w .dev) {x1 s} (h : P s) : P (reloadMicrocode x1 s) := by
  unfold reloadMicrocode
  repeat'
    first
    | with_reducible assumption | fail_if_no_progress with_reducible apply (C.dev kdev) | dsimp only

theorem keep_powerExit (kR : RaiseSet w) (ksram : w .sram) (kfab : w .fab) (kenergy : w .energy) (kengines : w .engines) (kdev : w .dev) {x1 s} (h : P s) : P (powerExit x1 s) := by
  unfold powerExit
  repeat'
    first
    | with_reducible assumption | with_reducible apply (keep_setPower C kdev)
    | with_reducible apply (keep_setPart C kR.parts) | with_reducible apply (keep_freshCores C ksram kR.cores kfab)
    | with_reducible apply (keep_reloadMicrocode C kdev) | with_reducible apply (keep_partRegs C kR kenergy)
    | with_reducible apply (keep_partBegin C kR ksram kfab kengines kdev)
    | with_reducible apply (keep_partDone C kR kdev) | (intro x; have hx : P x := ?_; clear_value x) | intro x
    | subst x | lift_lets | split | dsimp only

theorem keep_powerDone (kR : RaiseSet w) (know : w .now) (ksram : w .sram) (kfab : w .fab) (kresets : w .resets) (kenergy : w .energy) (kengines : w .engines) (kdev : w .dev) {x1 s} (h : P s) : P (powerDone x1 s) := by
  unfold powerDone
  repeat'
    first
    | with_reducible assumption | with_reducible apply (C.passTo know)
    | with_reducible apply (keep_powerExit C kR ksram kfab kenergy kengines kdev)
    | with_reducible apply (keep_powerEntry C kR kenergy kdev)
    | with_reducible apply (keep_partResetReq C kR know ksram kfab kresets kenergy kengines kdev)
    | with_reducible apply (keep_setPart C kR.parts) | (intro x; have hx : P x := ?_; clear_value x) | intro x
    | subst x | lift_lets | split | dsimp only

/-! ## Vector -/

theorem keep_vecBegin (kR : RaiseSet w) (ksram : w .sram) {x1 x2 s} (h : P s) : P (vecBegin x1 x2 s) := by
  unfold vecBegin
  repeat'
    first
    | with_reducible assumption | with_reducible apply (keep_coreSlip C kR)
    | with_reducible apply (keep_coreSees C ksram) | with_reducible apply (keep_sramChecks C kR)
    | with_reducible apply (keep_setCore C kR.cores) | (intro x; have hx : P x := ?_; clear_value x) | intro x
    | subst x | lift_lets | split | dsimp only

theorem keep_vecComplete (kR : RaiseSet w) (know : w .now) (ksram : w .sram) (klive : w .live) (kenergy : w .energy) {x1 x2 s} (h : P s) : P (vecComplete x1 x2 s) := by
  unfold vecComplete
  repeat'
    first
    | with_reducible assumption | with_reducible apply (keep_writeTiles C ksram klive)
    | with_reducible apply (keep_noteTiles C kR.mem) | with_reducible apply (keep_countBanks C kR)
    | with_reducible apply (C.passTo know) | with_reducible apply (keep_charge C kenergy)
    | with_reducible apply (keep_modCore C kR.cores) | (intro x; have hx : P x := ?_; clear_value x) | intro x
    | subst x | lift_lets | split | dsimp only

/-! ## Recovery -/

theorem keep_putSpan (kregs : w .regs) (khub : w .hub) (khbm : w .hbm) (kfaults : w .faults) {x1 x2 x3 s} (h : P s) : P (putSpan x1 x2 x3 s) := by
  fun_induction putSpan x1 x2 x3 s
  all_goals
  repeat'
    first
    | with_reducible assumption | with_reducible refine of_ih ‹P _ → P _› ?_
    | with_reducible apply (keep_putPhysBytes C kregs khub khbm kfaults)
    | (intro x; have hx : P x := ?_; clear_value x) | intro x | subst x | lift_lets | split | dsimp only

theorem keep_capture (kregs : w .regs) (khub : w .hub) (khbm : w .hbm) (kfaults : w .faults) (kcairn : w .cairn) {x1 s} (h : P s) : P (capture x1 s) := by
  unfold capture
  repeat'
    first
    | with_reducible assumption | with_reducible apply (keep_voidCaptures C kregs khub khbm kfaults kcairn)
    | with_reducible apply (keep_putSpan C kregs khub khbm kfaults)
    | with_reducible apply (keep_putPhysLines C kregs khub khbm kfaults)
    | with_reducible apply (keep_captures C kregs khub khbm kfaults kcairn)
    | fail_if_no_progress with_reducible apply (C.cairn kcairn) | (intro x; have hx : P x := ?_; clear_value x)
    | intro x | subst x | lift_lets | split | dsimp only

theorem keep_captures (kregs : w .regs) (khub : w .hub) (khbm : w .hbm) (kfaults : w .faults) (kcairn : w .cairn) {s} (h : P s) : P (captures s) := by
  unfold captures
  repeat'
    first
    | with_reducible assumption | with_reducible apply (keep_capture C kregs khub khbm kfaults kcairn)
    | with_reducible refine foldl_keep (fun s b hs => ?_) ?_ | split | dsimp only

theorem keep_writeCorePart (kregs : w .regs) (khub : w .hub) (khbm : w .hbm) (kfaults : w .faults) {x1 x2 s} (h : P s) : P (writeCorePart x1 x2 s) := by
  unfold writeCorePart
  repeat'
    first
    | with_reducible assumption | with_reducible apply (keep_putPhysLines C kregs khub khbm kfaults)
    | with_reducible refine foldl_keep (fun s b hs => ?_) ?_ | (intro x; have hx : P x := ?_; clear_value x)
    | intro x | subst x | lift_lets | dsimp only

theorem keep_cairnSeal (kR : RaiseSet w) (krng : w .rng) {x1 s} (h : P s) : P (cairnSeal x1 s) := by
  unfold cairnSeal
  repeat'
    first
    | with_reducible assumption | with_reducible apply (keep_writeCorePart C kR.regs kR.hub kR.hbm kR.faults)
    | with_reducible apply (keep_putPhysBytes C kR.regs kR.hub kR.hbm kR.faults)
    | with_reducible apply (keep_captures C kR.regs kR.hub kR.hbm kR.faults kR.cairn)
    | with_reducible apply (keep_bump48 C kR) | with_reducible apply (keep_logEvent C kR.regs kR.faults)
    | with_reducible apply (keep_ownValue C kR krng) | fail_if_no_progress with_reducible apply (C.cairn kR.cairn)
    | (intro x; have hx : P x := ?_; clear_value x) | intro x | subst x | lift_lets | split | dsimp only

theorem keep_cairnVoid (kR : RaiseSet w) {x1 x2 s} (h : P s) : P (cairnVoid x1 x2 s) := by
  unfold cairnVoid
  repeat'
    first
    | with_reducible assumption | with_reducible apply (keep_restoreReject C kR)
    | with_reducible apply (keep_voidCapture C kR.regs kR.hub kR.hbm kR.faults kR.cairn)
    | with_reducible apply (keep_crestRead C kR) | with_reducible apply (keep_raiseCe C kR)
    | with_reducible apply (keep_putPhysBytes C kR.regs kR.hub kR.hbm kR.faults)
    | with_reducible refine of_quad ‹_ = (_, _, _, _)› ?_ | with_reducible refine of_triple ‹_ = (_, _, _)› ?_
    | with_reducible refine of_pair ‹_ = (_, _)› ?_ | split | dsimp only

theorem keep_cairnRestore (kR : RaiseSet w) (krng : w .rng) {x1 x2 s} (h : P s) : P (cairnRestore x1 x2 s) := by
  unfold cairnRestore
  repeat'
    first
    | with_reducible assumption | with_reducible apply (keep_restoreStart C kR krng) | dsimp only

theorem keep_cairnCmd (kR : RaiseSet w) (krng : w .rng) {x1 s} (h : P s) : P (cairnCmd x1 s) := by
  unfold cairnCmd
  repeat'
    first
    | with_reducible assumption | with_reducible apply (keep_cairnRestore C kR krng)
    | with_reducible apply (keep_cairnVoid C kR) | split | dsimp only

theorem keep_reinstPut (kregs : w .regs) (ksram : w .sram) (khub : w .hub) (khbm : w .hbm) (kfaults : w .faults) {x1 x2 x3 s} (h : P s) : P (reinstPut x1 x2 x3 s) := by
  unfold reinstPut
  repeat'
    first
    | with_reducible assumption | with_reducible apply (keep_setTileLine C ksram)
    | with_reducible apply (keep_putPhysLine C kregs khub khbm kfaults) | split | dsimp only

theorem keep_chargeReinst (kenergy : w .energy) {x1 x2 s} (h : P s) : P (chargeReinst x1 x2 s) := by
  unfold chargeReinst
  repeat'
    first
    | with_reducible assumption | with_reducible apply (keep_chargeMove C kenergy)
    | with_reducible apply (keep_charge C kenergy) | (intro x; have hx : P x := ?_; clear_value x) | intro x
    | subst x | lift_lets | split | dsimp only

theorem keep_reinstLines (kR : RaiseSet w) (ksram : w .sram) (kenergy : w .energy) {x1 x2 x3 x4 x5 x6 x7 s} (h : P s) : P (reinstLines x1 x2 x3 x4 x5 x6 x7 s).2 := by
  fun_induction reinstLines x1 x2 x3 x4 x5 x6 x7 s
  all_goals
  repeat'
    first
    | with_reducible assumption | with_reducible refine of_ih ‹P _ → P _› ?_
    | with_reducible apply (keep_hbmRead C kR)
    | with_reducible apply (keep_reinstPut C kR.regs ksram kR.hub kR.hbm kR.faults)
    | with_reducible apply (keep_chargeReinst C kenergy) | with_reducible refine of_quad ‹_ = (_, _, _, _)› ?_
    | with_reducible refine of_triple ‹_ = (_, _, _)› ?_ | with_reducible refine of_pair ‹_ = (_, _)› ?_ | split
    | dsimp only

theorem keep_reinstAll (kR : RaiseSet w) (ksram : w .sram) (kenergy : w .energy) {x1 x2 x3 x4 x5 s} (h : P s) : P (reinstAll x1 x2 x3 x4 x5 s).2 := by
  fun_induction reinstAll x1 x2 x3 x4 x5 s
  all_goals
  repeat'
    first
    | with_reducible assumption | with_reducible refine of_ih ‹P _ → P _› ?_
    | with_reducible apply (keep_reinstLines C kR ksram kenergy)
    | with_reducible refine of_quad ‹_ = (_, _, _, _)› ?_ | with_reducible refine of_triple ‹_ = (_, _, _)› ?_
    | with_reducible refine of_pair ‹_ = (_, _)› ?_ | split | dsimp only

theorem keep_reinstRead (kR : RaiseSet w) (ksram : w .sram) (kenergy : w .energy) {x1 x2 x3 x4 s} (h : P s) : P (reinstRead x1 x2 x3 x4 s).2 := by
  unfold reinstRead
  repeat'
    first
    | with_reducible assumption | with_reducible apply (keep_crestRead C kR)
    | with_reducible apply (keep_reinstAll C kR ksram kenergy) | with_reducible refine of_quad ‹_ = (_, _, _, _)› ?_
    | with_reducible refine of_triple ‹_ = (_, _, _)› ?_ | with_reducible refine of_pair ‹_ = (_, _)› ?_ | split
    | dsimp only

theorem keep_restoreCores (kcores : w .cores) {x1 x2 s} (h : P s) : P (restoreCores x1 x2 s) := by
  fun_induction restoreCores x1 x2 s
  all_goals
  repeat'
    first
    | with_reducible assumption | with_reducible refine of_ih ‹P _ → P _› ?_
    | with_reducible apply (keep_modCore C kcores) | (intro x; have hx : P x := ?_; clear_value x) | intro x
    | subst x | lift_lets | split | dsimp only

theorem keep_restoreParts (kR : RaiseSet w) (ksram : w .sram) (kfab : w .fab) (kenergy : w .energy) (kengines : w .engines) (kdev : w .dev) {x1 s} (h : P s) : P (restoreParts x1 s) := by
  fun_induction restoreParts x1 s
  all_goals
  repeat'
    first
    | with_reducible assumption | with_reducible refine of_ih ‹P _ → P _› ?_
    | with_reducible apply (keep_partDone C kR kdev) | with_reducible apply (keep_partFresh C kR ksram kfab kenergy)
    | with_reducible apply (keep_partBegin C kR ksram kfab kengines kdev)
    | with_reducible apply (keep_setReg C kR.regs) | split | dsimp only

theorem keep_restoreJobs (kjobFrames : w .jobFrames) (kjobBase : w .jobBase) {x1 x2 x3 s} (h : P s) : P (restoreJobs x1 x2 x3 s) := by
  fun_induction restoreJobs x1 x2 x3 s
  all_goals
  repeat'
    first
    | with_reducible assumption | with_reducible refine of_ih ‹P _ → P _› ?_
    | fail_if_no_progress with_reducible apply (C.jobFrames kjobFrames)
    | fail_if_no_progress with_reducible apply (C.jobBase kjobBase)
    | fail_if_no_progress with_reducible apply (Closed.jobCounts C kjobFrames kjobBase)
    | (intro x; have hx : P x := ?_; clear_value x) | intro x | subst x | lift_lets | split | dsimp only

theorem keep_restoreStreams (krng : w .rng) {x1 x2 s} (h : P s) : P (restoreStreams x1 x2 s) := by
  fun_induction restoreStreams x1 x2 s
  all_goals
  repeat'
    first
    | with_reducible assumption | with_reducible refine of_ih ‹P _ → P _› ?_
    | with_reducible apply (keep_setRng C krng) | (intro x; have hx : P x := ?_; clear_value x) | intro x | subst x
    | lift_lets | split | dsimp only

theorem keep_enqueueJoin (kserve : w .serve) {x1 x2 x3 s} (h : P s) : P (enqueueJoin x1 x2 x3 s) := by
  unfold enqueueJoin
  repeat'
    first
    | with_reducible assumption | with_reducible apply (keep_modServe C kserve)
    | with_reducible apply (keep_setEntry C kserve) | split | dsimp only

theorem keep_restoreServing (kregs : w .regs) (kserve : w .serve) {x1 s} (h : P s) : P (restoreServing x1 s) := by
  unfold restoreServing
  repeat'
    first
    | with_reducible assumption | with_reducible apply (keep_endSequences C kserve)
    | with_reducible apply (keep_rset64 C kregs) | with_reducible apply (keep_enqueueJoin C kserve)
    | with_reducible apply (C.rset kregs) | with_reducible refine foldl_keep (fun s b hs => ?_) ?_
    | (intro x; have hx : P x := ?_; clear_value x) | intro x | subst x | lift_lets | dsimp only

theorem keep_fixHead (kregs : w .regs) (khub : w .hub) (khbm : w .hbm) (kfaults : w .faults) {x1 x2 s} (h : P s) : P (fixHead x1 x2 s) := by
  unfold fixHead
  repeat'
    first
    | with_reducible assumption | with_reducible apply (keep_putPhysLine C kregs khub khbm kfaults) | split
    | dsimp only

theorem keep_decideShards (kregs : w .regs) (khub : w .hub) (khbm : w .hbm) (kfaults : w .faults) {x1 s} (h : P s) : P (decideShards x1 s) := by
  unfold decideShards
  repeat'
    first
    | with_reducible assumption | with_reducible apply (keep_fixHead C kregs khub khbm kfaults)
    | with_reducible refine foldl_keep (fun s b hs => ?_) ?_ | (intro x; have hx : P x := ?_; clear_value x)
    | intro x | subst x | lift_lets | dsimp only

theorem keep_reinstateDone (kR : RaiseSet w) (ksram : w .sram) (kfab : w .fab) (kjobFrames : w .jobFrames) (kjobBase : w .jobBase) (kenergy : w .energy) (kengines : w .engines) (krng : w .rng) (kdev : w .dev) {x1 s} (h : P s) : P (reinstateDone x1 s) := by
  unfold reinstateDone
  repeat'
    first
    | with_reducible assumption | with_reducible apply (keep_reinstRead C kR ksram kenergy)
    | with_reducible apply (keep_restoreReject C kR)
    | with_reducible apply (keep_restoreParts C kR ksram kfab kenergy kengines kdev)
    | with_reducible apply (keep_restoreJobs C kjobFrames kjobBase)
    | with_reducible apply (keep_restoreCores C kR.cores) | with_reducible apply (keep_restoreStreams C krng)
    | with_reducible apply (keep_restoreServing C kR.regs kR.serve)
    | with_reducible apply (keep_decideShards C kR.regs kR.hub kR.hbm kR.faults)
    | fail_if_no_progress with_reducible apply (C.cairn kR.cairn) | (intro x; have hx : P x := ?_; clear_value x)
    | intro x | subst x | lift_lets | with_reducible refine of_quad ‹_ = (_, _, _, _)› ?_
    | with_reducible refine of_triple ‹_ = (_, _, _)› ?_ | with_reducible refine of_pair ‹_ = (_, _)› ?_ | split
    | dsimp only

theorem keep_modCores (kcores : w .cores) {x1 x2 s} (h : P s) : P (modCores x1 x2 s) := by
  fun_induction modCores x1 x2 s
  all_goals
  repeat'
    first
    | with_reducible assumption | with_reducible refine of_ih ‹P _ → P _› ?_
    | with_reducible apply (keep_modCore C kcores) | split | dsimp only

theorem keep_runParts (kcores : w .cores) (kparts : w .parts) {x1 s} (h : P s) : P (runParts x1 s) := by
  fun_induction runParts x1 s
  all_goals
  repeat'
    first
    | with_reducible assumption | with_reducible refine of_ih ‹P _ → P _› ?_
    | with_reducible apply (keep_modCores C kcores) | with_reducible apply (keep_setPart C kparts) | split
    | dsimp only

theorem keep_restoreAccepted (kR : RaiseSet w) {x1 s} (h : P s) : P (restoreAccepted x1 s) := by
  unfold restoreAccepted
  repeat'
    first
    | with_reducible assumption | with_reducible apply (keep_logEvent C kR.regs kR.faults)
    | with_reducible apply (keep_bump48 C kR) | fail_if_no_progress with_reducible apply (C.cairn kR.cairn)
    | dsimp only

theorem keep_restoreRestart (kR : RaiseSet w) {s} (h : P s) : P (restoreRestart s) := by
  unfold restoreRestart
  repeat'
    first
    | with_reducible assumption | with_reducible apply (keep_runParts C kR.cores kR.parts)
    | with_reducible apply (keep_restoreAccepted C kR) | fail_if_no_progress with_reducible apply (C.cairn kR.cairn)
    | fail_if_no_progress with_reducible apply (C.pair kR.pair)
    | fail_if_no_progress with_reducible apply (Closed.cairnPair C kR.cairn kR.pair)
    | (intro x; have hx : P x := ?_; clear_value x) | intro x | subst x | lift_lets | split | dsimp only

theorem keep_replayCompare (kR : RaiseSet w) {x1 x2 x3 s} (h : P s) : P (replayCompare x1 x2 x3 s) := by
  unfold replayCompare
  repeat'
    first
    | with_reducible assumption | with_reducible apply (keep_restoreAccepted C kR)
    | with_reducible apply (keep_raise C kR) | fail_if_no_progress with_reducible apply (C.cairn kR.cairn)
    | (intro x; have hx : P x := ?_; clear_value x) | intro x | subst x | lift_lets | split | dsimp only

theorem keep_stampLoss (kregs : w .regs) (khub : w .hub) (khbm : w .hbm) (kfaults : w .faults) (kcairn : w .cairn) {x1 x2 x3 x4 s} (h : P s) : P (stampLoss x1 x2 x3 x4 s) := by
  fun_induction stampLoss x1 x2 x3 x4 s
  all_goals
  repeat'
    first
    | with_reducible assumption | with_reducible refine of_ih ‹P _ → P _› ?_
    | with_reducible apply (keep_putSpan C kregs khub khbm kfaults)
    | with_reducible apply (keep_captures C kregs khub khbm kfaults kcairn)
    | fail_if_no_progress with_reducible apply (C.cairn kcairn) | (intro x; have hx : P x := ?_; clear_value x)
    | intro x | subst x | lift_lets | split | dsimp only

theorem keep_readLoss (kR : RaiseSet w) (krng : w .rng) {x1 s} (h : P s) : P (readLoss x1 s) := by
  unfold readLoss
  repeat'
    first
    | with_reducible assumption | with_reducible apply (keep_stampLoss C kR.regs kR.hub kR.hbm kR.faults kR.cairn)
    | with_reducible apply (keep_ownValue C kR krng) | with_reducible apply (keep_replayCompare C kR)
    | fail_if_no_progress with_reducible apply (C.cairn kR.cairn) | (intro x; have hx : P x := ?_; clear_value x)
    | intro x | subst x | lift_lets | split | dsimp only

theorem keep_readLosses (kR : RaiseSet w) (krng : w .rng) {s} (h : P s) : P (readLosses s) := by
  unfold readLosses
  repeat'
    first
    | with_reducible assumption | with_reducible apply (keep_readLoss C kR krng)
    | with_reducible refine foldl_keep (fun s b hs => ?_) ?_ | dsimp only

theorem keep_pairMsg (kR : RaiseSet w) (krng : w .rng) {x1 x2 x3 s} (h : P s) : P (pairMsg x1 x2 x3 s) := by
  unfold pairMsg
  repeat'
    first
    | with_reducible assumption | with_reducible apply (keep_peerValue C kR krng) | split | dsimp only

theorem keep_tilesKnown (kR : RaiseSet w) (krng : w .rng) {s} (h : P s) : P (tilesKnown s) := by
  unfold tilesKnown
  repeat'
    first
    | with_reducible assumption | with_reducible apply (keep_recordDivergence C kR.regs)
    | with_reducible apply (keep_pairHeld C kR) | with_reducible apply (keep_pairSend C kR.links)
    | with_reducible apply (keep_rollback C kR krng) | with_reducible apply (keep_setReg C kR.regs)
    | fail_if_no_progress with_reducible apply (C.pair kR.pair) | (intro x; have hx : P x := ?_; clear_value x)
    | intro x | subst x | lift_lets | split | dsimp only

theorem keep_selfFault (kR : RaiseSet w) {s} (h : P s) : P (selfFault s) := by
  unfold selfFault
  repeat'
    first
    | with_reducible assumption | with_reducible apply (keep_raise C kR)
    | fail_if_no_progress with_reducible apply (C.pair kR.pair) | dsimp only

theorem keep_verdictsKnown (kR : RaiseSet w) {s} (h : P s) : P (verdictsKnown s) := by
  unfold verdictsKnown
  repeat'
    first
    | with_reducible assumption | with_reducible apply (keep_selfFault C kR)
    | with_reducible apply (keep_pairHeld C kR) | fail_if_no_progress with_reducible apply (C.pair kR.pair) | split
    | dsimp only

theorem keep_hear (kpair : w .pair) {x1 x2 s} (h : P s) : P (hear x1 x2 s) := by
  unfold hear
  repeat'
    first
    | with_reducible assumption | fail_if_no_progress with_reducible apply (C.pair kpair)
    | (intro x; have hx : P x := ?_; clear_value x) | (intro x; have hx : P x.2 := ?_; clear_value x)
    | (intro x; have hx : P x.2.2 := ?_; clear_value x) | intro x | subst x | lift_lets | split | dsimp only

theorem keep_divergenceMsg (kR : RaiseSet w) (krng : w .rng) {x1 x2 s} (h : P s) : P (divergenceMsg x1 x2 s) := by
  unfold divergenceMsg
  repeat'
    first
    | with_reducible assumption | with_reducible apply (keep_hear C kR.pair)
    | with_reducible apply (keep_tilesKnown C kR krng) | with_reducible apply (keep_rollbackIfAgreed C kR krng)
    | with_reducible apply (keep_traceDiverge C kR krng) | with_reducible apply (keep_verdictsKnown C kR)
    | fail_if_no_progress with_reducible apply (C.pair kR.pair) | (intro x; have hx : P x := ?_; clear_value x)
    | intro x | subst x | lift_lets | split | dsimp only

theorem keep_pairTimeout (kR : RaiseSet w) {x1 s} (h : P s) : P (pairTimeout x1 s) := by
  unfold pairTimeout
  repeat'
    first
    | with_reducible assumption | with_reducible apply (keep_raiseCe C kR)
    | fail_if_no_progress with_reducible apply (C.pair kR.pair) | split | dsimp only

theorem keep_takeoverSignal (kpair : w .pair) {s} (h : P s) : P (takeoverSignal s) := by
  unfold takeoverSignal
  repeat'
    first
    | with_reducible assumption | fail_if_no_progress with_reducible apply (C.pair kpair) | split | dsimp only

theorem keep_pairSilence (kpair : w .pair) {s} (h : P s) : P (pairSilence s) := by
  unfold pairSilence
  repeat'
    first
    | with_reducible assumption | with_reducible apply (keep_takeoverSignal C kpair) | split | dsimp only

theorem keep_recomputeDone (kR : RaiseSet w) {x1 s} (h : P s) : P (recomputeDone x1 s) := by
  unfold recomputeDone
  repeat'
    first
    | with_reducible assumption | with_reducible apply (keep_crestRead C kR)
    | with_reducible apply (keep_verdictsKnown C kR) | with_reducible apply (keep_pairSend C kR.links)
    | fail_if_no_progress with_reducible apply (C.pair kR.pair) | (intro x; have hx : P x := ?_; clear_value x)
    | (intro x; have hx : P x.2 := ?_; clear_value x) | (intro x; have hx : P x.2.2 := ?_; clear_value x) | intro x
    | subst x | lift_lets | split | dsimp only

theorem keep_pairRelease (kR : RaiseSet w) {s} (h : P s) : P (pairRelease s) := by
  unfold pairRelease
  repeat'
    first
    | with_reducible assumption | with_reducible apply (keep_pairCheck C kR)
    | fail_if_no_progress with_reducible apply (C.pair kR.pair) | split | dsimp only

theorem keep_pairCtl (kR : RaiseSet w) {x1 s} (h : P s) : P (pairCtl x1 s) := by
  unfold pairCtl
  repeat'
    first
    | with_reducible assumption | with_reducible apply (keep_primaryFault C kR.regs kR.faults kR.links kR.pair)
    | with_reducible apply (keep_pairRelease C kR) | (intro x; have hx : P x := ?_; clear_value x) | intro x
    | subst x | lift_lets | split | dsimp only

theorem keep_coreFail (kR : RaiseSet w) (ksram : w .sram) (kfab : w .fab) (kdev : w .dev) {x1 s} (h : P s) : P (coreFail x1 s) := by
  unfold coreFail
  repeat'
    first
    | with_reducible assumption | with_reducible apply (keep_raise C kR)
    | with_reducible apply (keep_abandonRestore C kR.cairn)
    | with_reducible apply (keep_dropFills C kR ksram kfab kdev)
    | with_reducible apply (keep_startFill C kR ksram kfab kdev)
    | fail_if_no_progress with_reducible apply (C.dev kdev) | (intro x; have hx : P x := ?_; clear_value x)
    | intro x | subst x | lift_lets | split | dsimp only

theorem keep_placeLines (kR : RaiseSet w) (ksram : w .sram) (kenergy : w .energy) {x1 x2 x3 x4 x5 x6 x7 s} (h : P s) : P (placeLines x1 x2 x3 x4 x5 x6 x7 s) := by
  fun_induction placeLines x1 x2 x3 x4 x5 x6 x7 s
  all_goals
  repeat'
    first
    | with_reducible assumption | with_reducible refine of_ih ‹P _ → P _› ?_
    | with_reducible apply (keep_hbmRead C kR)
    | with_reducible apply (keep_reinstPut C kR.regs ksram kR.hub kR.hbm kR.faults)
    | with_reducible apply (keep_chargeReinst C kenergy) | with_reducible refine of_quad ‹_ = (_, _, _, _)› ?_
    | with_reducible refine of_triple ‹_ = (_, _, _)› ?_ | with_reducible refine of_pair ‹_ = (_, _)› ?_ | split
    | dsimp only

theorem keep_placeAll (kR : RaiseSet w) (ksram : w .sram) (kenergy : w .energy) {x1 x2 x3 x4 x5 s} (h : P s) : P (placeAll x1 x2 x3 x4 x5 s) := by
  fun_induction placeAll x1 x2 x3 x4 x5 s
  all_goals
  repeat'
    first
    | with_reducible assumption | with_reducible refine of_ih ‹P _ → P _› ?_
    | with_reducible apply (keep_placeLines C kR ksram kenergy) | split | dsimp only

theorem keep_fillCores (kR : RaiseSet w) (ksram : w .sram) (kenergy : w .energy) {x1 x2 x3 x4 s} (h : P s) : P (fillCores x1 x2 x3 x4 s) := by
  unfold fillCores
  repeat'
    first
    | with_reducible assumption | with_reducible apply (keep_setCore C kR.cores)
    | with_reducible apply (keep_zeroSram C ksram) | with_reducible apply (keep_placeAll C kR ksram kenergy)
    | with_reducible refine foldl_keep (fun s b hs => ?_) ?_ | (intro x; have hx : P x := ?_; clear_value x)
    | intro x | subst x | lift_lets | split | dsimp only

theorem keep_leaveSpill (kregs : w .regs) (kcores : w .cores) {x1 s} (h : P s) : P (leaveSpill x1 s) := by
  fun_induction leaveSpill x1 s
  all_goals
  repeat'
    first
    | with_reducible assumption | with_reducible refine of_ih ‹P _ → P _› ?_
    | with_reducible apply (keep_spillLeave C kregs kcores) | split | dsimp only

theorem keep_fillDone (kR : RaiseSet w) (ksram : w .sram) (kfab : w .fab) (kenergy : w .energy) (krng : w .rng) (kdev : w .dev) {x1 s} (h : P s) : P (fillDone x1 s) := by
  unfold fillDone
  repeat'
    first
    | with_reducible assumption | with_reducible apply (keep_fillCores C kR ksram kenergy)
    | with_reducible apply (keep_leaveSpill C kR.regs kR.cores)
    | with_reducible apply (keep_startFill C kR ksram kfab kdev)
    | with_reducible apply (keep_restoreStart C kR krng) | fail_if_no_progress with_reducible apply (C.dev kdev)
    | (intro x; have hx : P x := ?_; clear_value x) | intro x | subst x | lift_lets | split | dsimp only

theorem keep_rngKeyWrite (krng : w .rng) {x1 x2 x3 s} (h : P s) : P (rngKeyWrite x1 x2 x3 s) := by
  unfold rngKeyWrite
  repeat'
    first
    | with_reducible assumption | with_reducible apply (keep_setRng C krng)
    | (intro x; have hx : P x := ?_; clear_value x) | intro x | subst x | lift_lets | split | dsimp only

theorem keep_rngCommits (krng : w .rng) {s} (h : P s) : P (rngCommits s) := by
  unfold rngCommits
  repeat'
    first
    | with_reducible assumption | fail_if_no_progress with_reducible apply (C.rngMap krng) | dsimp only

/-! ## Energy -/

theorem keep_modEnergy (kenergy : w .energy) {x1 s} (h : P s) : P (modEnergy x1 s) := by
  unfold modEnergy
  repeat'
    first
    | with_reducible assumption | fail_if_no_progress with_reducible apply (C.energy kenergy) | dsimp only

theorem keep_addPart (kR : RaiseSet w) (kenergy : w .energy) {x1 x2 s} (h : P s) : P (addPart x1 x2 s) := by
  unfold addPart
  repeat'
    first
    | with_reducible assumption | with_reducible apply (keep_modEnergy C kenergy)
    | with_reducible apply (keep_raiseCe C kR) | (intro x; have hx : P x := ?_; clear_value x) | intro x | subst x
    | lift_lets | split | dsimp only

theorem keep_addJob (kR : RaiseSet w) (kenergy : w .energy) {x1 x2 s} (h : P s) : P (addJob x1 x2 s) := by
  unfold addJob
  repeat'
    first
    | with_reducible assumption | with_reducible apply (keep_modEnergy C kenergy)
    | with_reducible apply (keep_raiseCe C kR) | (intro x; have hx : P x := ?_; clear_value x) | intro x | subst x
    | lift_lets | split | dsimp only

theorem keep_addShared (kR : RaiseSet w) (kenergy : w .energy) {x1 s} (h : P s) : P (addShared x1 s) := by
  unfold addShared
  repeat'
    first
    | with_reducible assumption | with_reducible apply (keep_modEnergy C kenergy)
    | with_reducible apply (keep_raiseCe C kR) | (intro x; have hx : P x := ?_; clear_value x) | intro x | subst x
    | lift_lets | split | dsimp only

theorem keep_addPkg (kR : RaiseSet w) (kenergy : w .energy) {x1 s} (h : P s) : P (addPkg x1 s) := by
  unfold addPkg
  repeat'
    first
    | with_reducible assumption | with_reducible apply (keep_modEnergy C kenergy)
    | with_reducible apply (keep_raiseCe C kR) | (intro x; have hx : P x := ?_; clear_value x) | intro x | subst x
    | lift_lets | split | dsimp only

theorem keep_accountTick (kR : RaiseSet w) (kenergy : w .energy) {x1 s} (h : P s) : P (accountTick x1 s) := by
  unfold accountTick
  repeat'
    first
    | with_reducible assumption | with_reducible apply (keep_modEnergy C kenergy)
    | with_reducible apply (keep_addPart C kR kenergy) | with_reducible apply (keep_addJob C kR kenergy)
    | with_reducible apply (keep_addPkg C kR kenergy) | with_reducible apply (keep_addShared C kR kenergy)
    | with_reducible refine foldl_keep (fun s b hs => ?_) ?_ | (intro x; have hx : P x := ?_; clear_value x)
    | (intro x; have hx : P x.2 := ?_; clear_value x) | (intro x; have hx : P x.2.2 := ?_; clear_value x) | intro x
    | subst x | lift_lets | split | dsimp only

theorem keep_markEnergy (kenergy : w .energy) {s} (h : P s) : P (markEnergy s) := by
  unfold markEnergy
  repeat'
    first
    | with_reducible assumption | with_reducible apply (keep_modEnergy C kenergy) | dsimp only

theorem keep_closeEnergy (kenergy : w .energy) {s} (h : P s) : P (closeEnergy s) := by
  unfold closeEnergy
  repeat'
    first
    | with_reducible assumption | with_reducible apply (keep_markEnergy C kenergy)
    | with_reducible apply (keep_modEnergy C kenergy) | with_reducible refine foldl_keep (fun s b hs => ?_) ?_
    | (intro x; have hx : P x := ?_; clear_value x) | intro x | subst x | lift_lets | split | dsimp only

theorem keep_advancePositions (kenergy : w .energy) {s} (h : P s) : P (advancePositions s) := by
  unfold advancePositions
  repeat'
    first
    | with_reducible assumption | with_reducible apply (keep_modEnergy C kenergy)
    | (intro x; have hx : P x := ?_; clear_value x) | intro x | subst x | lift_lets | split | dsimp only

theorem keep_castVote (kenergy : w .energy) {s} (h : P s) : P (castVote s) := by
  unfold castVote
  repeat'
    first
    | with_reducible assumption | with_reducible apply (keep_modEnergy C kenergy)
    | (intro x; have hx : P x := ?_; clear_value x) | intro x | subst x | lift_lets | split | dsimp only

theorem keep_decideFrame (kR : RaiseSet w) (kenergy : w .energy) {s} (h : P s) : P (decideFrame s) := by
  unfold decideFrame
  repeat'
    first
    | with_reducible assumption | with_reducible apply (keep_modEnergy C kenergy)
    | with_reducible apply (keep_bump48 C kR) | with_reducible apply (keep_setReg C kR.regs)
    | with_reducible apply (keep_raiseCe C kR) | (intro x; have hx : P x := ?_; clear_value x) | intro x | subst x
    | lift_lets | split | dsimp only

theorem keep_takeVotes (kenergy : w .energy) {x1 x2 s} (h : P s) : P (takeVotes x1 x2 s) := by
  unfold takeVotes
  repeat'
    first
    | with_reducible assumption | with_reducible apply (keep_modEnergy C kenergy)
    | (intro x; have hx : P x := ?_; clear_value x) | intro x | subst x | lift_lets | dsimp only

/-! ## Measure -/

theorem keep_modSec (ksec : w .sec) {x1 s} (h : P s) : P (modSec x1 s) := by
  unfold modSec
  repeat'
    first
    | with_reducible assumption | fail_if_no_progress with_reducible apply (C.sec ksec) | dsimp only

theorem keep_measure (ksec : w .sec) {x1 x2 s} (h : P s) : P (measure x1 x2 s) := by
  unfold measure
  repeat'
    first
    | with_reducible assumption | with_reducible apply (keep_modSec C ksec) | dsimp only

theorem keep_measureCounted (ksec : w .sec) {x1 x2 s} (h : P s) : P (measureCounted x1 x2 s) := by
  unfold measureCounted
  repeat'
    first
    | with_reducible assumption | with_reducible apply (keep_modSec C ksec)
    | with_reducible apply (keep_measure C ksec) | dsimp only

/-! ## Schedule -/

theorem keep_modSched (ksched : w .sched) {x1 s} (h : P s) : P (modSched x1 s) := by
  unfold modSched
  repeat'
    first
    | with_reducible assumption | fail_if_no_progress with_reducible apply (C.sched ksched) | dsimp only

theorem keep_cmdIgnored (kR : RaiseSet w) {x1 s} (h : P s) : P (cmdIgnored x1 s) := by
  unfold cmdIgnored
  repeat'
    first
    | with_reducible assumption | with_reducible apply (keep_raiseCe C kR) | dsimp only

theorem keep_schedLoad (kR : RaiseSet w) (ksched : w .sched) {x1 s} (h : P s) : P (schedLoad x1 s) := by
  unfold schedLoad
  repeat'
    first
    | with_reducible assumption | with_reducible apply (keep_cmdIgnored C kR)
    | with_reducible apply (keep_modSched C ksched) | (intro x; have hx : P x := ?_; clear_value x) | intro x
    | subst x | lift_lets | split | dsimp only

theorem keep_verifyDone (kR : RaiseSet w) (ksched : w .sched) {s} (h : P s) : P (verifyDone s) := by
  unfold verifyDone
  lift_lets
  intro a lines r code s'
  have hr : P r.2 := keep_crestRead C kR h
  clear_value code
  have hs : P s' := hr
  clear_value s'
  split
  · exact h
  · split
    · exact keep_modSched C ksched hs
    · exact keep_raiseCe C kR (keep_modSched C ksched hs)

theorem keep_armReject (kR : RaiseSet w) (ksched : w .sched) {x1 s} (h : P s) : P (armReject x1 s) := by
  unfold armReject
  repeat'
    first
    | with_reducible assumption | with_reducible apply (keep_raiseCe C kR)
    | with_reducible apply (keep_modSched C ksched) | dsimp only

theorem keep_schedArm (kR : RaiseSet w) (ksched : w .sched) {s} (h : P s) : P (schedArm s) := by
  unfold schedArm
  repeat'
    first
    | with_reducible assumption | with_reducible apply (keep_cmdIgnored C kR)
    | with_reducible apply (keep_armReject C kR ksched) | with_reducible apply (keep_modSched C ksched)
    | (intro x; have hx : P x := ?_; clear_value x) | intro x | subst x | lift_lets | split | dsimp only

theorem keep_schedAbort (kR : RaiseSet w) (ksched : w .sched) {s} (h : P s) : P (schedAbort s) := by
  unfold schedAbort
  repeat'
    first
    | with_reducible assumption | with_reducible apply (keep_cmdIgnored C kR)
    | with_reducible apply (keep_modSched C ksched) | split | dsimp only

theorem keep_schedCmd (kR : RaiseSet w) (ksched : w .sched) {x1 s} (h : P s) : P (schedCmd x1 s) := by
  unfold schedCmd
  repeat'
    first
    | with_reducible assumption | with_reducible apply (keep_schedLoad C kR ksched)
    | with_reducible apply (keep_schedArm C kR ksched) | with_reducible apply (keep_schedAbort C kR ksched) | split
    | dsimp only

theorem keep_placeCores (kcores : w .cores) {x1 x2 s} (h : P s) : P (placeCores x1 x2 s) := by
  fun_induction placeCores x1 x2 s
  all_goals
  repeat'
    first
    | with_reducible assumption | with_reducible refine of_ih ‹P _ → P _› ?_
    | with_reducible apply (keep_modCore C kcores) | split | dsimp only

theorem keep_shadowDone (kcores : w .cores) (ksched : w .sched) {s} (h : P s) : P (shadowDone s) := by
  unfold shadowDone
  repeat'
    first
    | with_reducible assumption | with_reducible apply (keep_modSched C ksched)
    | with_reducible apply (keep_placeCores C kcores) | split | dsimp only

theorem keep_overrunCheck (kR : RaiseSet w) {x1 x2 s} (h : P s) : P (overrunCheck x1 x2 s) := by
  unfold overrunCheck
  repeat'
    first
    | with_reducible assumption | with_reducible apply (keep_coreSlip C kR)
    | (intro x; have hx : P x := ?_; clear_value x) | intro x | subst x | lift_lets | split | dsimp only

theorem keep_overrunChecks (kR : RaiseSet w) {x1 x2 s} (h : P s) : P (overrunChecks x1 x2 s) := by
  fun_induction overrunChecks x1 x2 s
  all_goals
  repeat'
    first
    | with_reducible assumption | with_reducible refine of_ih ‹P _ → P _› ?_
    | with_reducible apply (keep_overrunCheck C kR) | split | dsimp only

theorem keep_swapOne (kR : RaiseSet w) {x1 s} (h : P s) : P (swapOne x1 s) := by
  unfold swapOne
  repeat'
    first
    | with_reducible assumption | with_reducible apply (keep_setReg C kR.regs)
    | with_reducible apply (keep_modCore C kR.cores) | with_reducible apply (keep_raise C kR)
    | (intro x; have hx : P x := ?_; clear_value x) | intro x | subst x | lift_lets | split | dsimp only

theorem keep_swapCores (kR : RaiseSet w) {x1 s} (h : P s) : P (swapCores x1 s) := by
  fun_induction swapCores x1 s
  all_goals
  repeat'
    first
    | with_reducible assumption | with_reducible refine of_ih ‹P _ → P _› ?_
    | with_reducible apply (keep_swapOne C kR) | split | dsimp only

theorem keep_edgeSeals (kfab : w .fab) {x1 s} (h : P s) : P (edgeSeals x1 s) := by
  unfold edgeSeals
  repeat'
    first
    | with_reducible assumption | fail_if_no_progress with_reducible apply (C.fab kfab)
    | (intro x; have hx : P x := ?_; clear_value x) | intro x | subst x | lift_lets | dsimp only

theorem keep_skipReport (kR : RaiseSet w) {x1 x2 s} (h : P s) : P (skipReport x1 x2 s) := by
  unfold skipReport
  repeat'
    first
    | with_reducible assumption | with_reducible apply (keep_raiseCe C kR)
    | (intro x; have hx : P x := ?_; clear_value x) | intro x | subst x | lift_lets | split | dsimp only

theorem keep_activateServing (kregs : w .regs) (kserve : w .serve) {x1 s} (h : P s) : P (activateServing x1 s) := by
  unfold activateServing
  repeat'
    first
    | with_reducible assumption | with_reducible apply (keep_endSequences C kserve)
    | with_reducible apply (keep_modServe C kserve) | with_reducible apply (keep_setReg C kregs)
    | (intro x; have hx : P x := ?_; clear_value x) | intro x | subst x | lift_lets | split | dsimp only

theorem keep_zeroIssued (kregs : w .regs) {s} (h : P s) : P (zeroIssued s) := by
  unfold zeroIssued
  repeat'
    first
    | with_reducible assumption | with_reducible apply (keep_setReg C kregs)
    | with_reducible refine foldl_keep (fun s b hs => ?_) ?_ | dsimp only

theorem keep_activateEnergy (kregs : w .regs) (kenergy : w .energy) {s} (h : P s) : P (activateEnergy s) := by
  unfold activateEnergy
  repeat'
    first
    | with_reducible assumption | with_reducible apply (keep_setReg C kregs)
    | fail_if_no_progress with_reducible apply (C.energy kenergy) | dsimp only

theorem keep_activate (kR : RaiseSet w) (kfab : w .fab) (ksched : w .sched) (kenergy : w .energy) (ksec : w .sec) {x1 s} (h : P s) : P (activate x1 s) := by
  unfold activate
  repeat'
    first
    | with_reducible assumption | with_reducible apply (keep_overrunChecks C kR)
    | with_reducible apply (keep_modSched C ksched) | with_reducible apply (keep_setPart C kR.parts)
    | with_reducible apply (keep_edgeSeals C kfab) | with_reducible apply (keep_swapCores C kR)
    | with_reducible apply (keep_measureCounted C ksec)
    | with_reducible apply (keep_activateServing C kR.regs kR.serve)
    | with_reducible apply (keep_zeroIssued C kR.regs) | with_reducible apply (keep_castVote C kenergy)
    | with_reducible apply (keep_activateEnergy C kR.regs kenergy)
    | with_reducible apply (keep_captures C kR.regs kR.hub kR.hbm kR.faults kR.cairn)
    | with_reducible apply (keep_skipReport C kR) | fail_if_no_progress with_reducible apply (C.partsNone kR.parts)
    | with_reducible refine foldl_keep (fun s b hs => ?_) ?_ | (intro x; have hx : P x := ?_; clear_value x)
    | intro x | subst x | lift_lets | dsimp only

theorem keep_imageActivation (kR : RaiseSet w) (kfab : w .fab) (ksched : w .sched) (kenergy : w .energy) (ksec : w .sec) {s} (h : P s) : P (imageActivation s) := by
  unfold imageActivation
  repeat'
    first
    | with_reducible assumption | with_reducible apply (keep_activate C kR kfab ksched kenergy ksec) | split
    | dsimp only

/-! ## Device -/

theorem keep_modDev (kdev : w .dev) {x1 s} (h : P s) : P (modDev x1 s) := by
  unfold modDev
  repeat'
    first
    | with_reducible assumption | fail_if_no_progress with_reducible apply (C.dev kdev) | dsimp only

theorem keep_excludeSensors (kR : RaiseSet w) (kdev : w .dev) {x1 s} (h : P s) : P (excludeSensors x1 s) := by
  fun_induction excludeSensors x1 s
  all_goals
  repeat'
    first
    | with_reducible assumption | with_reducible refine of_ih ‹P _ → P _› ?_
    | with_reducible apply (keep_modDev C kdev) | with_reducible apply (keep_raiseCe C kR)
    | (intro x; have hx : P x := ?_; clear_value x) | intro x | subst x | lift_lets | split | dsimp only

theorem keep_excludeCurrents (kR : RaiseSet w) (kfree : w .free) (kdev : w .dev) {x1 s} (h : P s) : P (excludeCurrents x1 s) := by
  fun_induction excludeCurrents x1 s
  all_goals
  repeat'
    first
    | with_reducible assumption | with_reducible refine of_ih ‹P _ → P _› ?_
    | with_reducible apply (keep_raiseCe C kR) | with_reducible apply (C.drawFree kfree)
    | with_reducible apply (keep_modDev C kdev) | split | dsimp only

theorem keep_tempCrit (kR : RaiseSet w) (kdev : w .dev) {x1 x2 x3 x4 s} (h : P s) : P (tempCrit x1 x2 x3 x4 s) := by
  unfold tempCrit
  repeat'
    first
    | with_reducible assumption | with_reducible apply (keep_raise C kR) | with_reducible apply (keep_modDev C kdev)
    | dsimp only

theorem keep_dieThreshold (kR : RaiseSet w) (kdev : w .dev) {x1 x2 s} (h : P s) : P (dieThreshold x1 x2 s) := by
  unfold dieThreshold
  repeat'
    first
    | with_reducible assumption | with_reducible apply (keep_raiseCe C kR)
    | with_reducible apply (keep_tempCrit C kR kdev) | (intro x; have hx : P x := ?_; clear_value x)
    | (intro x; have hx : P x.2 := ?_; clear_value x) | (intro x; have hx : P x.2.2 := ?_; clear_value x) | intro x
    | subst x | lift_lets | split | dsimp only

theorem keep_dieThresholds (kR : RaiseSet w) (kdev : w .dev) {x1 s} (h : P s) : P (dieThresholds x1 s) := by
  fun_induction dieThresholds x1 s
  all_goals
  repeat'
    first
    | with_reducible assumption | with_reducible refine of_ih ‹P _ → P _› ?_
    | with_reducible apply (keep_dieThreshold C kR kdev) | split | dsimp only

theorem keep_stackTemp (kR : RaiseSet w) (kdev : w .dev) {x1 x2 s} (h : P s) : P (stackTemp x1 x2 s) := by
  unfold stackTemp
  repeat'
    first
    | with_reducible assumption | with_reducible apply (keep_setStack C kR.mem)
    | with_reducible apply (keep_raiseCe C kR) | with_reducible apply (keep_tempCrit C kR kdev)
    | (intro x; have hx : P x := ?_; clear_value x) | intro x | subst x | lift_lets | split | dsimp only

theorem keep_stackTemps (kR : RaiseSet w) (kdev : w .dev) {x1 s} (h : P s) : P (stackTemps x1 s) := by
  fun_induction stackTemps x1 s
  all_goals
  repeat'
    first
    | with_reducible assumption | with_reducible refine of_ih ‹P _ → P _› ?_
    | with_reducible apply (keep_stackTemp C kR kdev) | split | dsimp only

theorem keep_thermalVote (kenergy : w .energy) {s} (h : P s) : P (thermalVote s) := by
  unfold thermalVote
  repeat'
    first
    | with_reducible assumption | fail_if_no_progress with_reducible apply (C.energy kenergy)
    | (intro x; have hx : P x := ?_; clear_value x) | (intro x; have hx : P x.2 := ?_; clear_value x)
    | (intro x; have hx : P x.2.2 := ?_; clear_value x) | intro x | subst x | lift_lets | split | dsimp only

theorem keep_thermalSample (kR : RaiseSet w) (kfree : w .free) (kenergy : w .energy) (kdev : w .dev) {x1 s} (h : P s) : P (thermalSample x1 s) := by
  unfold thermalSample
  repeat'
    first
    | with_reducible assumption | with_reducible apply (keep_excludeCurrents C kR kfree kdev)
    | with_reducible apply (keep_excludeSensors C kR kdev) | with_reducible apply (keep_modDev C kdev)
    | with_reducible apply (keep_thermalVote C kenergy) | with_reducible apply (keep_stackTemps C kR kdev)
    | with_reducible apply (keep_dieThresholds C kR kdev) | (intro x; have hx : P x := ?_; clear_value x)
    | (intro x; have hx : P x.2 := ?_; clear_value x) | (intro x; have hx : P x.2.2 := ?_; clear_value x) | intro x
    | subst x | lift_lets | split | dsimp only

theorem keep_railFault (kR : RaiseSet w) {x1 s} (h : P s) : P (railFault x1 s) := by
  unfold railFault
  repeat'
    first
    | with_reducible assumption | with_reducible apply (keep_raise C kR) | split | dsimp only

theorem keep_managementError (kR : RaiseSet w) (kdev : w .dev) (ksec : w .sec) {x1 x2 s} (h : P s) : P (managementError x1 x2 s) := by
  unfold managementError
  repeat'
    first
    | with_reducible assumption | with_reducible apply (keep_raiseCe C kR) | with_reducible apply (keep_bump32 C kR)
    | with_reducible apply (keep_raise C kR) | with_reducible apply (keep_modDev C kdev)
    | with_reducible apply (keep_running C kR.regs kdev ksec) | split | dsimp only

theorem keep_heartWrite (kdev : w .dev) {x1 s} (h : P s) : P (heartWrite x1 s) := by
  unfold heartWrite
  repeat'
    first
    | with_reducible assumption | with_reducible apply (keep_modDev C kdev) | split | dsimp only

theorem keep_watchdogExpiry (kR : RaiseSet w) (kdev : w .dev) {s} (h : P s) : P (watchdogExpiry s) := by
  unfold watchdogExpiry
  repeat'
    first
    | with_reducible assumption | with_reducible apply (keep_modDev C kdev) | with_reducible apply (keep_raise C kR)
    | split | dsimp only

theorem keep_trainingLoss (kR : RaiseSet w) {x1 x2 s} (h : P s) : P (trainingLoss x1 x2 s) := by
  unfold trainingLoss
  repeat'
    first
    | with_reducible assumption | with_reducible apply (keep_raise C kR)
    | with_reducible apply (keep_setStack C kR.mem) | split | dsimp only

theorem keep_boundPassed (kR : RaiseSet w) {x1 s} (h : P s) : P (boundPassed x1 s) := by
  unfold boundPassed
  repeat'
    first
    | with_reducible assumption | with_reducible apply (keep_raiseCe C kR) | split | dsimp only

theorem keep_writeLog (kR : RaiseSet w) (kdev : w .dev) {x1 x2 s} (h : P s) : P (writeLog x1 x2 s) := by
  unfold writeLog
  repeat'
    first
    | with_reducible assumption | with_reducible apply (keep_modDev C kdev)
    | with_reducible apply (keep_raiseCe C kR) | (intro x; have hx : P x := ?_; clear_value x) | intro x | subst x
    | lift_lets | split | dsimp only

theorem keep_logIsFull (kR : RaiseSet w) (kdev : w .dev) {s} (h : P s) : P (logIsFull s) := by
  unfold logIsFull
  repeat'
    first
    | with_reducible assumption | with_reducible apply (keep_raiseCe C kR)
    | with_reducible apply (keep_modDev C kdev) | split | dsimp only

theorem keep_defectLogWrite (kR : RaiseSet w) (kdev : w .dev) {x1 x2 s} (h : P s) : P (defectLogWrite x1 x2 s) := by
  unfold defectLogWrite
  repeat'
    first
    | with_reducible assumption | with_reducible apply (keep_modDev C kdev)
    | with_reducible apply (keep_logIsFull C kR kdev) | with_reducible apply (keep_writeLog C kR kdev)
    | (intro x; have hx : P x := ?_; clear_value x) | intro x | subst x | lift_lets | split | dsimp only

theorem keep_sramAdvance (kregs : w .regs) {x1 s} (h : P s) : P (sramAdvance x1 s) := by
  unfold sramAdvance
  repeat'
    first
    | with_reducible assumption | with_reducible apply (keep_setReg C kregs) | dsimp only

theorem keep_sramDataRead (kR : RaiseSet w) (kfree : w .free) {x1 x2 s} (h : P s) : P (sramDataRead x1 x2 s).2 := by
  unfold sramDataRead
  repeat'
    first
    | with_reducible assumption | with_reducible apply (keep_sramAdvance C kR.regs)
    | with_reducible apply (keep_sramCheck C kR) | with_reducible apply (C.drawFree kfree)
    | with_reducible apply (keep_raiseCe C kR) | (intro x; have hx : P x := ?_; clear_value x) | intro x | subst x
    | lift_lets | split | dsimp only

theorem keep_sramDataWrite (kR : RaiseSet w) (ksram : w .sram) {x1 x2 s} (h : P s) : P (sramDataWrite x1 x2 s) := by
  unfold sramDataWrite
  repeat'
    first
    | with_reducible assumption | with_reducible apply (keep_noteSram C kR.mem)
    | with_reducible apply (keep_sramAdvance C kR.regs) | with_reducible apply (keep_raiseCe C kR)
    | apply (C.sramPut ksram) | (intro x; have hx : P x := ?_; clear_value x) | intro x | subst x | lift_lets
    | split | dsimp only

/-! ## Firmware -/

theorem keep_setUpd (kregs : w .regs) {x1 s} (h : P s) : P (setUpd x1 s) := by
  unfold setUpd
  repeat'
    first
    | with_reducible assumption | with_reducible apply (keep_setReg C kregs) | dsimp only

theorem keep_setUpdReason (kregs : w .regs) {x1 s} (h : P s) : P (setUpdReason x1 s) := by
  unfold setUpdReason
  repeat'
    first
    | with_reducible assumption | with_reducible apply (keep_setReg C kregs) | dsimp only

theorem keep_modRecord (kregs : w .regs) (kfaults : w .faults) (kdev : w .dev) {x1 s} (h : P s) : P (modRecord x1 s) := by
  unfold modRecord
  repeat'
    first
    | with_reducible assumption | with_reducible apply (keep_modDev C kdev)
    | with_reducible apply (keep_record C kregs kfaults) | dsimp only

theorem keep_setFlashSlot (kdev : w .dev) {x1 x2 s} (h : P s) : P (setFlashSlot x1 x2 s) := by
  unfold setFlashSlot
  repeat'
    first
    | with_reducible assumption | with_reducible apply (keep_modDev C kdev) | split | dsimp only

theorem keep_setStagedDigest (kregs : w .regs) {x1 s} (h : P s) : P (setStagedDigest x1 s) := by
  unfold setStagedDigest
  repeat'
    first
    | with_reducible assumption | with_reducible apply (keep_setReg C kregs)
    | with_reducible refine foldl_keep (fun s b hs => ?_) ?_ | dsimp only

theorem keep_setStaged (kregs : w .regs) {x1 s} (h : P s) : P (setStaged x1 s) := by
  unfold setStaged
  repeat'
    first
    | with_reducible assumption | with_reducible apply (keep_setStagedDigest C kregs)
    | with_reducible apply (keep_setReg C kregs) | (intro x; have hx : P x := ?_; clear_value x) | intro x | subst x
    | lift_lets | dsimp only

theorem keep_trialSuccess (kregs : w .regs) (kfaults : w .faults) (kdev : w .dev) {s} (h : P s) : P (trialSuccess s) := by
  unfold trialSuccess
  repeat'
    first
    | with_reducible assumption | with_reducible apply (keep_setUpd C kregs)
    | with_reducible apply (keep_modDev C kdev) | with_reducible apply (keep_modRecord C kregs kfaults kdev)
    | dsimp only

theorem keep_trialFail (kregs : w .regs) (kfaults : w .faults) (kdev : w .dev) {x1 s} (h : P s) : P (trialFail x1 s) := by
  unfold trialFail
  repeat'
    first
    | with_reducible assumption | with_reducible apply (keep_setUpdReason C kregs)
    | with_reducible apply (keep_setUpd C kregs) | with_reducible apply (keep_modDev C kdev)
    | with_reducible apply (keep_modRecord C kregs kfaults kdev) | dsimp only

theorem keep_trialTimeout (kR : RaiseSet w) (know : w .now) (kdev : w .dev) {s} (h : P s) : P (trialTimeout s) := by
  unfold trialTimeout
  repeat'
    first
    | with_reducible assumption | with_reducible apply (C.passTo know)
    | with_reducible apply (keep_trialSuccess C kR.regs kR.faults kdev) | with_reducible apply (keep_raiseCe C kR)
    | with_reducible apply (keep_trialFail C kR.regs kR.faults kdev) | (intro x; have hx : P x := ?_; clear_value x)
    | intro x | subst x | lift_lets | split | dsimp only

theorem keep_secEnd (kR : RaiseSet w) (ksec : w .sec) {x1 x2 s} (h : P s) : P (secEnd x1 x2 s) := by
  unfold secEnd
  repeat'
    first
    | with_reducible assumption | with_reducible apply (keep_modSec C ksec)
    | with_reducible apply (keep_raiseCe C kR) | (intro x; have hx : P x := ?_; clear_value x) | intro x | subst x
    | lift_lets | split | dsimp only

theorem keep_secStage (kR : RaiseSet w) (kdev : w .dev) (ksec : w .sec) {x1 s} (h : P s) : P (secStage x1 s) := by
  unfold secStage
  repeat'
    first
    | with_reducible assumption | with_reducible apply (keep_secEnd C kR ksec)
    | with_reducible apply (keep_setUpdReason C kR.regs) | with_reducible apply (keep_crestRead C kR)
    | with_reducible apply (keep_setFlashSlot C kdev)
    | with_reducible apply (keep_modRecord C kR.regs kR.faults kdev) | with_reducible apply (keep_setUpd C kR.regs)
    | with_reducible apply (keep_modSec C ksec) | (intro x; have hx : P x := ?_; clear_value x)
    | (intro x; have hx : P x.2 := ?_; clear_value x) | (intro x; have hx : P x.2.2 := ?_; clear_value x) | intro x
    | subst x | lift_lets | split | dsimp only

theorem keep_stageDone (kR : RaiseSet w) (kdev : w .dev) (ksec : w .sec) {x1 s} (h : P s) : P (stageDone x1 s) := by
  unfold stageDone
  repeat'
    first
    | with_reducible assumption | with_reducible apply (keep_modSec C ksec)
    | with_reducible apply (keep_secEnd C kR ksec) | with_reducible apply (keep_setStaged C kR.regs)
    | with_reducible apply (keep_modRecord C kR.regs kR.faults kdev)
    | with_reducible apply (keep_setFlashSlot C kdev) | with_reducible apply (keep_setUpdReason C kR.regs)
    | (intro x; have hx : P x := ?_; clear_value x) | intro x | subst x | lift_lets | split | dsimp only

theorem keep_secAbort (kR : RaiseSet w) (kdev : w .dev) (ksec : w .sec) {s} (h : P s) : P (secAbort s) := by
  unfold secAbort
  repeat'
    first
    | with_reducible assumption | with_reducible apply (keep_secEnd C kR ksec)
    | with_reducible apply (keep_setUpd C kR.regs) | with_reducible apply (keep_modRecord C kR.regs kR.faults kdev)
    | split | dsimp only

theorem keep_secActivate (kR : RaiseSet w) (kdev : w .dev) (ksec : w .sec) {s} (h : P s) : P (secActivate s) := by
  unfold secActivate
  repeat'
    first
    | with_reducible assumption | with_reducible apply (keep_secEnd C kR ksec)
    | with_reducible apply (keep_setUpd C kR.regs) | with_reducible apply (keep_modDev C kdev)
    | with_reducible apply (keep_modRecord C kR.regs kR.faults kdev) | split | dsimp only

theorem keep_modFuses (kdev : w .dev) {x1 s} (h : P s) : P (modFuses x1 s) := by
  unfold modFuses
  repeat'
    first
    | with_reducible assumption | with_reducible apply (keep_modDev C kdev) | dsimp only

theorem keep_secCommit (kR : RaiseSet w) (kfree : w .free) (krng : w .rng) (kdev : w .dev) (ksec : w .sec) {s} (h : P s) : P (secCommit s) := by
  unfold secCommit
  repeat'
    first
    | with_reducible assumption | with_reducible apply (C.drawFree kfree)
    | with_reducible apply (keep_modFuses C kdev) | with_reducible apply (keep_rollback C kR krng)
    | with_reducible apply (keep_secEnd C kR ksec) | with_reducible apply (keep_raiseCe C kR)
    | (intro x; have hx : P x := ?_; clear_value x) | intro x | subst x | lift_lets | split | dsimp only

theorem keep_useChallenge (ksec : w .sec) {s} (h : P s) : P (useChallenge s) := by
  unfold useChallenge
  repeat'
    first
    | with_reducible assumption | with_reducible apply (keep_modSec C ksec) | dsimp only

theorem keep_secRevoke (kR : RaiseSet w) (kfree : w .free) (kdev : w .dev) (ksec : w .sec) {s} (h : P s) : P (secRevoke s) := by
  unfold secRevoke
  repeat'
    first
    | with_reducible assumption | with_reducible apply (keep_useChallenge C ksec)
    | with_reducible apply (keep_secEnd C kR ksec) | with_reducible apply (C.drawFree kfree)
    | with_reducible apply (keep_modFuses C kdev) | with_reducible apply (keep_raiseCe C kR)
    | (intro x; have hx : P x := ?_; clear_value x) | intro x | subst x | lift_lets | split | dsimp only

theorem keep_secChallenge (kR : RaiseSet w) (kfree : w .free) (ksec : w .sec) {s} (h : P s) : P (secChallenge s) := by
  unfold secChallenge
  repeat'
    first
    | with_reducible assumption | with_reducible apply (keep_secEnd C kR ksec)
    | with_reducible apply (C.drawFree kfree) | with_reducible apply (keep_modSec C ksec) | dsimp only

theorem keep_secJtag (kR : RaiseSet w) (ksec : w .sec) {s} (h : P s) : P (secJtag s) := by
  unfold secJtag
  repeat'
    first
    | with_reducible assumption | with_reducible apply (keep_useChallenge C ksec)
    | with_reducible apply (keep_secEnd C kR ksec) | with_reducible apply (keep_raiseCe C kR)
    | with_reducible apply (keep_measureCounted C ksec) | with_reducible apply (keep_modSec C ksec)
    | (intro x; have hx : P x := ?_; clear_value x) | intro x | subst x | lift_lets | split | dsimp only

theorem keep_secExtend (kR : RaiseSet w) (ksec : w .sec) {s} (h : P s) : P (secExtend s) := by
  unfold secExtend
  repeat'
    first
    | with_reducible assumption | with_reducible apply (keep_secEnd C kR ksec)
    | with_reducible apply (keep_measureCounted C ksec) | dsimp only

theorem keep_secCmd (kR : RaiseSet w) (kfree : w .free) (krng : w .rng) (kdev : w .dev) (ksec : w .sec) {x1 s} (h : P s) : P (secCmd x1 s) := by
  unfold secCmd
  repeat'
    first
    | with_reducible assumption | with_reducible apply (keep_secEnd C kR ksec)
    | with_reducible apply (keep_useChallenge C ksec) | with_reducible apply (keep_secStage C kR kdev ksec)
    | with_reducible apply (keep_secAbort C kR kdev ksec) | with_reducible apply (keep_secActivate C kR kdev ksec)
    | with_reducible apply (keep_secCommit C kR kfree krng kdev ksec)
    | with_reducible apply (keep_secRevoke C kR kfree kdev ksec)
    | with_reducible apply (keep_secChallenge C kR kfree ksec) | with_reducible apply (keep_secJtag C kR ksec)
    | with_reducible apply (keep_secExtend C kR ksec) | split | dsimp only

theorem keep_nonceWrite (kR : RaiseSet w) (ksec : w .sec) {x1 x2 s} (h : P s) : P (nonceWrite x1 x2 s) := by
  unfold nonceWrite
  repeat'
    first
    | with_reducible assumption | with_reducible apply (keep_raiseCe C kR)
    | with_reducible apply (keep_setReg C kR.regs) | with_reducible apply (keep_modSec C ksec)
    | (intro x; have hx : P x := ?_; clear_value x) | intro x | subst x | lift_lets | split | dsimp only

theorem keep_reportDone (ksec : w .sec) {s} (h : P s) : P (reportDone s) := by
  unfold reportDone
  repeat'
    first
    | with_reducible assumption | with_reducible apply (keep_modSec C ksec)
    | (intro x; have hx : P x := ?_; clear_value x) | intro x | subst x | lift_lets | split | dsimp only

/-! ## Links -/

theorem keep_linkSlip (kR : RaiseSet w) {x1 x2 x3 s} (h : P s) : P (linkSlip x1 x2 x3 s) := by
  unfold linkSlip
  repeat'
    first
    | with_reducible assumption | with_reducible apply (keep_slip C kR) | dsimp only

theorem keep_colSlip (kR : RaiseSet w) {x1 x2 x3 x4 s} (h : P s) : P (colSlip x1 x2 x3 x4 s) := by
  unfold colSlip
  repeat'
    first
    | with_reducible assumption | with_reducible apply (keep_slip C kR) | dsimp only

theorem keep_modLink (klinks : w .links) {x1 x2 s} (h : P s) : P (modLink x1 x2 s) := by
  unfold modLink
  repeat'
    first
    | with_reducible assumption | with_reducible apply (keep_setLink C klinks) | dsimp only

theorem keep_noteQHigh (kregs : w .regs) {x1 s} (h : P s) : P (noteQHigh x1 s) := by
  unfold noteQHigh
  repeat'
    first
    | with_reducible assumption | with_reducible apply (keep_setReg C kregs)
    | (intro x; have hx : P x := ?_; clear_value x) | intro x | subst x | lift_lets | split | dsimp only

theorem keep_linkDrop (kR : RaiseSet w) {x1 x2 s} (h : P s) : P (linkDrop x1 x2 s) := by
  unfold linkDrop
  repeat'
    first
    | with_reducible assumption | with_reducible apply (keep_bump32 C kR) | split | dsimp only

theorem keep_takeForLink (kR : RaiseSet w) {x1 x2 x3 x4 s} (h : P s) : P (takeForLink x1 x2 x3 x4 s) := by
  unfold takeForLink
  repeat'
    first
    | with_reducible assumption | with_reducible apply (keep_linkDrop C kR)
    | with_reducible apply (keep_colSlip C kR) | with_reducible apply (keep_noteQHigh C kR.regs)
    | with_reducible apply (keep_setLink C kR.links) | (intro x; have hx : P x := ?_; clear_value x) | intro x
    | subst x | lift_lets | split | dsimp only

theorem keep_colTake (kR : RaiseSet w) (kfab : w .fab) (kengines : w .engines) {x1 x2 s} (h : P s) : P (colTake x1 x2 s) := by
  unfold colTake
  repeat'
    first
    | with_reducible assumption | with_reducible apply (keep_takeForLink C kR)
    | with_reducible apply (keep_engineArrive C kR kengines) | fail_if_no_progress with_reducible apply (C.fab kfab)
    | (intro x; have hx : P x := ?_; clear_value x) | intro x | subst x | lift_lets | split | dsimp only

theorem keep_chargeSlots (kenergy : w .energy) {x1 s} (h : P s) : P (chargeSlots x1 s) := by
  induction x1 generalizing s with
  | nil => exact h
  | cons x t ih =>
    apply ih
    split
    · exact keep_chargePart C kenergy (keep_chargeJob C kenergy h)
    · exact h

theorem keep_frameLaunch (kR : RaiseSet w) (kenergy : w .energy) {x1 s} (h : P s) : P (frameLaunch x1 s) := by
  unfold frameLaunch
  repeat'
    first
    | with_reducible assumption | with_reducible apply (keep_chargeSlots C kenergy)
    | with_reducible apply (keep_bump48 C kR) | with_reducible apply (keep_emit C kR.out)
    | with_reducible apply (keep_setLink C kR.links) | (intro x; have hx : P x := ?_; clear_value x) | intro x
    | subst x | lift_lets | split | dsimp only

theorem keep_relaunch (kR : RaiseSet w) {x1 s} (h : P s) : P (relaunch x1 s) := by
  unfold relaunch
  repeat'
    first
    | with_reducible assumption | with_reducible apply (keep_setLink C kR.links)
    | with_reducible apply (keep_bump48 C kR) | with_reducible apply (keep_emit C kR.out)
    | (intro x; have hx : P x := ?_; clear_value x) | intro x | subst x | lift_lets | split | dsimp only

theorem keep_setLinkState (kR : RaiseSet w) {x1 x2 x3 x4 x5 s} (h : P s) : P (setLinkState x1 x2 x3 x4 x5 s) := by
  unfold setLinkState
  repeat'
    first
    | with_reducible assumption | with_reducible apply (keep_setLink C kR.links)
    | with_reducible apply (keep_pairCheck C kR) | with_reducible apply (keep_raiseCe C kR)
    | (intro x; have hx : P x := ?_; clear_value x) | intro x | subst x | lift_lets | split | dsimp only

theorem keep_linkDown (kR : RaiseSet w) {x1 x2 s} (h : P s) : P (linkDown x1 x2 s) := by
  unfold linkDown
  repeat'
    first
    | with_reducible assumption | with_reducible apply (keep_setLinkState C kR)
    | with_reducible apply (keep_raise C kR) | with_reducible apply (keep_modLink C kR.links) | split | dsimp only

theorem keep_startTraining (kR : RaiseSet w) {x1 s} (h : P s) : P (startTraining x1 s) := by
  unfold startTraining
  repeat'
    first
    | with_reducible assumption | with_reducible apply (keep_setLinkState C kR)
    | with_reducible apply (keep_modLink C kR.links) | dsimp only

theorem keep_retrain (kR : RaiseSet w) {x1 s} (h : P s) : P (retrain x1 s) := by
  unfold retrain
  repeat'
    first
    | with_reducible assumption | with_reducible apply (keep_raiseCe C kR)
    | with_reducible apply (keep_startTraining C kR) | split | dsimp only

theorem keep_linkPageReset (kR : RaiseSet w) {x1 s} (h : P s) : P (linkPageReset x1 s) := by
  unfold linkPageReset
  repeat'
    first
    | with_reducible assumption | with_reducible apply (keep_raiseCe C kR)
    | with_reducible apply (keep_startTraining C kR) | with_reducible apply (keep_modLink C kR.links) | split
    | dsimp only

theorem keep_timeTraining (klinks : w .links) {x1 s} (h : P s) : P (timeTraining x1 s) := by
  unfold timeTraining
  repeat'
    first
    | with_reducible assumption | with_reducible apply (keep_modLink C klinks) | dsimp only

theorem keep_trainFail (kR : RaiseSet w) {x1 x2 s} (h : P s) : P (trainFail x1 x2 s) := by
  unfold trainFail
  repeat'
    first
    | with_reducible assumption | with_reducible apply (keep_timeTraining C kR.links)
    | with_reducible apply (keep_modLink C kR.links) | with_reducible apply (keep_raiseCe C kR)
    | with_reducible apply (keep_setLinkState C kR) | with_reducible apply (keep_startTraining C kR)
    | (intro x; have hx : P x := ?_; clear_value x) | intro x | subst x | lift_lets | split | dsimp only

theorem keep_toState (kR : RaiseSet w) {x1 x2 x3 s} (h : P s) : P (toState x1 x2 x3 s) := by
  unfold toState
  repeat'
    first
    | with_reducible assumption | with_reducible apply (keep_setLinkState C kR) | split | dsimp only

theorem keep_sendId (kR : RaiseSet w) {x1 x2 s} (h : P s) : P (sendId x1 x2 s) := by
  unfold sendId
  repeat'
    first
    | with_reducible assumption | with_reducible apply (keep_bump48 C kR)
    | with_reducible apply (keep_emit C kR.out) | with_reducible apply (keep_setLink C kR.links)
    | (intro x; have hx : P x := ?_; clear_value x) | intro x | subst x | lift_lets | dsimp only

theorem keep_checkDone (kR : RaiseSet w) {x1 x2 s} (h : P s) : P (checkDone x1 x2 s) := by
  unfold checkDone
  repeat'
    first
    | with_reducible assumption | with_reducible apply (keep_modLink C kR.links)
    | with_reducible apply (keep_trainFail C kR) | with_reducible apply (keep_sendId C kR)
    | with_reducible apply (keep_setLinkState C kR) | (intro x; have hx : P x := ?_; clear_value x) | intro x
    | subst x | lift_lets | split | dsimp only

theorem keep_negotiated (kR : RaiseSet w) {x1 x2 x3 x4 s} (h : P s) : P (negotiated x1 x2 x3 x4 s) := by
  unfold negotiated
  repeat'
    first
    | with_reducible assumption | with_reducible apply (keep_modLink C kR.links)
    | with_reducible apply (keep_trainFail C kR) | with_reducible apply (keep_setLinkState C kR)
    | with_reducible apply (keep_timeTraining C kR.links) | (intro x; have hx : P x := ?_; clear_value x) | intro x
    | subst x | lift_lets | split | dsimp only

theorem keep_negotiateEnd (kR : RaiseSet w) {x1 s} (h : P s) : P (negotiateEnd x1 s) := by
  unfold negotiateEnd
  repeat'
    first
    | with_reducible assumption | with_reducible apply (keep_trainFail C kR)
    | with_reducible apply (keep_negotiated C kR) | (intro x; have hx : P x := ?_; clear_value x) | intro x
    | subst x | lift_lets | split | dsimp only

theorem keep_negotiateDone (kR : RaiseSet w) {x1 x2 s} (h : P s) : P (negotiateDone x1 x2 s) := by
  unfold negotiateDone
  repeat'
    first
    | with_reducible assumption | with_reducible apply (keep_negotiateEnd C kR)
    | with_reducible apply (keep_sendId C kR) | with_reducible apply (keep_modLink C kR.links)
    | (intro x; have hx : P x := ?_; clear_value x) | intro x | subst x | lift_lets | split | dsimp only

theorem keep_trainTimeout (kR : RaiseSet w) {x1 s} (h : P s) : P (trainTimeout x1 s) := by
  unfold trainTimeout
  repeat'
    first
    | with_reducible assumption | with_reducible apply (keep_trainFail C kR)
    | (intro x; have hx : P x := ?_; clear_value x) | intro x | subst x | lift_lets | split | dsimp only

theorem keep_linkEnable (kR : RaiseSet w) {x1 x2 s} (h : P s) : P (linkEnable x1 x2 s) := by
  unfold linkEnable
  repeat'
    first
    | with_reducible assumption | with_reducible apply (keep_startTraining C kR)
    | with_reducible apply (keep_setLinkState C kR) | with_reducible apply (keep_modLink C kR.links) | split
    | dsimp only

theorem keep_acceptSlots (kR : RaiseSet w) {x1 x2 s} (h : P s) : P (acceptSlots x1 x2 s) := by
  unfold acceptSlots
  repeat'
    first
    | with_reducible assumption | with_reducible apply (keep_linkDrop C kR)
    | with_reducible apply (keep_setLink C kR.links) | (intro x; have hx : P x := ?_; clear_value x) | intro x
    | subst x | lift_lets | split | dsimp only

theorem keep_checkSlots (kR : RaiseSet w) {x1 x2 s} (h : P s) : P (checkSlots x1 x2 s) := by
  unfold checkSlots
  repeat'
    first
    | with_reducible assumption | with_reducible apply (keep_raise C kR) | split | dsimp only

theorem keep_takeIds (klinks : w .links) {x1 x2 s} (h : P s) : P (takeIds x1 x2 s) := by
  unfold takeIds
  repeat'
    first
    | with_reducible assumption | with_reducible apply (keep_modLink C klinks)
    | with_reducible refine foldl_keep (fun s b hs => ?_) ?_ | (intro x; have hx : P x := ?_; clear_value x)
    | intro x | subst x | lift_lets | dsimp only

theorem keep_takeRequest (kR : RaiseSet w) {x1 x2 s} (h : P s) : P (takeRequest x1 x2 s) := by
  unfold takeRequest
  repeat'
    first
    | with_reducible assumption | with_reducible apply (keep_setLink C kR.links)
    | with_reducible apply (keep_relaunch C kR) | (intro x; have hx : P x := ?_; clear_value x) | intro x | subst x
    | lift_lets | split | dsimp only

theorem keep_countFec (kR : RaiseSet w) {x1 x2 s} (h : P s) : P (countFec x1 x2 s) := by
  unfold countFec
  repeat'
    first
    | with_reducible assumption | with_reducible apply (keep_raiseCe C kR) | with_reducible apply (keep_bump32 C kR)
    | with_reducible refine foldl_keep (fun s b hs => ?_) ?_ | (intro x; have hx : P x := ?_; clear_value x)
    | intro x | subst x | lift_lets | split | dsimp only

theorem keep_frameBad (kR : RaiseSet w) {x1 x2 x3 s} (h : P s) : P (frameBad x1 x2 x3 s) := by
  unfold frameBad
  repeat'
    first
    | with_reducible assumption | with_reducible apply (keep_linkSlip C kR)
    | with_reducible apply (keep_setLink C kR.links) | with_reducible apply (keep_raiseCe C kR)
    | with_reducible apply (keep_bump48 C kR) | (intro x; have hx : P x := ?_; clear_value x) | intro x | subst x
    | lift_lets | split | dsimp only

theorem keep_negotiateFrame (kR : RaiseSet w) {x1 x2 x3 s} (h : P s) : P (negotiateFrame x1 x2 x3 s) := by
  unfold negotiateFrame
  repeat'
    first
    | with_reducible assumption | with_reducible apply (keep_negotiateEnd C kR)
    | with_reducible apply (keep_takeIds C kR.links) | with_reducible apply (keep_bump48 C kR)
    | with_reducible apply (keep_modLink C kR.links) | split | dsimp only

theorem keep_frameGood (kR : RaiseSet w) {x1 x2 x3 s} (h : P s) : P (frameGood x1 x2 x3 s) := by
  unfold frameGood
  repeat'
    first
    | with_reducible assumption | with_reducible apply (keep_bump48 C kR)
    | with_reducible apply (keep_modLink C kR.links) | with_reducible apply (keep_takeRequest C kR)
    | with_reducible apply (keep_linkSlip C kR) | with_reducible apply (keep_checkSlots C kR)
    | with_reducible apply (keep_pairCheck C kR) | with_reducible apply (keep_takeIds C kR.links)
    | with_reducible apply (keep_acceptSlots C kR) | (intro x; have hx : P x := ?_; clear_value x) | intro x
    | subst x | lift_lets | split | dsimp only

theorem keep_frameVerdict (kR : RaiseSet w) {x1 x2 x3 s} (h : P s) : P (frameVerdict x1 x2 x3 s) := by
  unfold frameVerdict
  repeat'
    first
    | with_reducible assumption | with_reducible apply (keep_negotiateFrame C kR)
    | with_reducible apply (keep_countFec C kR) | with_reducible apply (keep_setLink C kR.links)
    | with_reducible apply (keep_bump32 C kR) | with_reducible apply (keep_frameBad C kR)
    | with_reducible apply (keep_frameGood C kR) | (intro x; have hx : P x := ?_; clear_value x) | intro x | subst x
    | lift_lets | split | dsimp only

theorem keep_deliverSlot (kR : RaiseSet w) (kfab : w .fab) (kenergy : w .energy) (kengines : w .engines) {x1 x2 s} (h : P s) : P (deliverSlot x1 x2 s) := by
  unfold deliverSlot
  repeat'
    first
    | with_reducible assumption | with_reducible apply (keep_raise C kR) | with_reducible apply (keep_colSlip C kR)
    | with_reducible apply (keep_engineArrive C kR kengines) | with_reducible apply (keep_chargeJob C kenergy)
    | with_reducible apply (keep_addWire C kfab) | fail_if_no_progress with_reducible apply (C.fab kfab)
    | (intro x; have hx : P x := ?_; clear_value x) | (intro x; have hx : P x.2 := ?_; clear_value x)
    | (intro x; have hx : P x.2.2 := ?_; clear_value x) | intro x | subst x | lift_lets | split | dsimp only

theorem keep_serviceDue (kR : RaiseSet w) {x1 s} (h : P s) : P (serviceDue x1 s) := by
  unfold serviceDue
  repeat'
    first
    | with_reducible assumption | with_reducible apply (keep_colSlip C kR)
    | with_reducible apply (keep_setLink C kR.links) | with_reducible refine foldl_keep (fun s b hs => ?_) ?_
    | (intro x; have hx : P x := ?_; clear_value x) | intro x | subst x | lift_lets | split | dsimp only

theorem keep_slotDeliver (kR : RaiseSet w) (kfab : w .fab) (kenergy : w .energy) (kengines : w .engines) {x1 s} (h : P s) : P (slotDeliver x1 s) := by
  unfold slotDeliver
  repeat'
    first
    | with_reducible assumption | with_reducible apply (keep_serviceDue C kR)
    | with_reducible apply (keep_setLink C kR.links) | with_reducible apply (keep_linkDrop C kR)
    | with_reducible apply (keep_deliverSlot C kR kfab kenergy kengines) | with_reducible apply (keep_linkSlip C kR)
    | (intro x; have hx : P x := ?_; clear_value x) | intro x | subst x | lift_lets | split | dsimp only

theorem keep_txLate (kR : RaiseSet w) {x1 s} (h : P s) : P (txLate x1 s) := by
  unfold txLate
  repeat'
    first
    | with_reducible assumption | with_reducible apply (keep_colSlip C kR)
    | with_reducible apply (keep_setLink C kR.links) | (intro x; have hx : P x := ?_; clear_value x) | intro x
    | subst x | lift_lets | split | dsimp only

/-! ## Bringup -/

theorem keep_logCores (kR : RaiseSet w) (kdev : w .dev) {x1 x2 x3 s} (h : P s) : P (logCores x1 x2 x3 s).2 := by
  unfold logCores
  repeat'
    first
    | with_reducible assumption | with_reducible apply (keep_logIsFull C kR kdev)
    | with_reducible apply (keep_writeLog C kR kdev) | (intro x; have hx : P x := ?_; clear_value x)
    | (intro x; have hx : P x.2 := ?_; clear_value x) | (intro x; have hx : P x.2.2 := ?_; clear_value x) | intro x
    | subst x | lift_lets | split | dsimp only

theorem keep_bistCauses (kR : RaiseSet w) {x1 s} (h : P s) : P (bistCauses x1 s) := by
  fun_induction bistCauses x1 s
  all_goals
  repeat'
    first
    | with_reducible assumption | with_reducible refine of_ih ‹P _ → P _› ?_
    | with_reducible apply (keep_raiseCe C kR) | split | dsimp only

theorem keep_bistDies (kR : RaiseSet w) {x1 s} (h : P s) : P (bistDies x1 s) := by
  fun_induction bistDies x1 s
  all_goals
  repeat'
    first
    | with_reducible assumption | with_reducible refine of_ih ‹P _ → P _› ?_
    | with_reducible apply (keep_raise C kR) | split | dsimp only

theorem keep_yieldCauses (kR : RaiseSet w) {x1 s} (h : P s) : P (yieldCauses x1 s) := by
  fun_induction yieldCauses x1 s
  all_goals
  repeat'
    first
    | with_reducible assumption | with_reducible refine of_ih ‹P _ → P _› ?_
    | with_reducible apply (keep_raiseCe C kR) | split | dsimp only

theorem keep_bistAndLog (kR : RaiseSet w) (kdev : w .dev) {x1 s} (h : P s) : P (bistAndLog x1 s).2 := by
  unfold bistAndLog
  repeat'
    first
    | with_reducible assumption | with_reducible apply (keep_bistDies C kR)
    | with_reducible apply (keep_modDev C kdev) | with_reducible apply (keep_writeLog C kR kdev)
    | with_reducible apply (keep_raiseCe C kR) | with_reducible apply (keep_logCores C kR kdev)
    | with_reducible apply (keep_bistCauses C kR) | with_reducible apply (keep_yieldCauses C kR)
    | with_reducible apply (keep_microcode C kR kdev) | (intro x; have hx : P x := ?_; clear_value x) | intro x
    | subst x | lift_lets | with_reducible refine of_quad ‹_ = (_, _, _, _)› ?_
    | with_reducible refine of_triple ‹_ = (_, _, _)› ?_ | with_reducible refine of_pair ‹_ = (_, _)› ?_ | split
    | dsimp only

theorem keep_floodSwitches (kdev : w .dev) {s} (h : P s) : P (floodSwitches s) := by
  unfold floodSwitches
  repeat'
    first
    | with_reducible assumption | with_reducible apply (keep_modDev C kdev) | dsimp only

theorem keep_remapAll (kdev : w .dev) {s} (h : P s) : P (remapAll s) := by
  unfold remapAll
  repeat'
    first
    | with_reducible assumption | with_reducible apply (keep_remapCol C kdev)
    | with_reducible refine foldl_keep (fun s b hs => ?_) ?_ | dsimp only

theorem keep_trainStack (kR : RaiseSet w) {x1 x2 s} (h : P s) : P (trainStack x1 x2 s) := by
  unfold trainStack
  repeat'
    first
    | with_reducible assumption | with_reducible apply (keep_setReg C kR.regs)
    | with_reducible apply (keep_setStack C kR.mem) | with_reducible apply (keep_raiseCe C kR) | split | dsimp only

theorem keep_trainStacks (kR : RaiseSet w) {x1 x2 s} (h : P s) : P (trainStacks x1 x2 s) := by
  fun_induction trainStacks x1 x2 s
  all_goals
  repeat'
    first
    | with_reducible assumption | with_reducible refine of_ih ‹P _ → P _› ?_
    | with_reducible apply (keep_trainStack C kR) | split | dsimp only

theorem keep_trainEdges (kmem : w .mem) (kdev : w .dev) {x1 s} (h : P s) : P (trainEdges x1 s) := by
  unfold trainEdges
  repeat'
    first
    | with_reducible assumption | with_reducible apply (keep_modDev C kdev)
    | fail_if_no_progress with_reducible apply (C.mem kmem) | with_reducible refine foldl_keep (fun s b hs => ?_) ?_
    | (intro x; have hx : P x := ?_; clear_value x) | (intro x; have hx : P x.2 := ?_; clear_value x)
    | (intro x; have hx : P x.2.2 := ?_; clear_value x) | intro x | subst x | lift_lets | dsimp only

theorem keep_trainLinks (kR : RaiseSet w) {x1 s} (h : P s) : P (trainLinks x1 s) := by
  fun_induction trainLinks x1 s
  all_goals
  repeat'
    first
    | with_reducible assumption | with_reducible refine of_ih ‹P _ → P _› ?_
    | with_reducible apply (keep_startTraining C kR) | with_reducible apply (keep_modLink C kR.links)
    | with_reducible apply (keep_setReg C kR.regs) | split | dsimp only

theorem keep_microCauses (kR : RaiseSet w) {x1 s} (h : P s) : P (microCauses x1 s) := by
  fun_induction microCauses x1 s
  all_goals
  repeat'
    first
    | with_reducible assumption | with_reducible refine of_ih ‹P _ → P _› ?_
    | with_reducible apply (keep_raiseCe C kR) | split | dsimp only

theorem keep_microcode (kR : RaiseSet w) (kdev : w .dev) {x1 x2 x3 s} (h : P s) : P (microcode x1 x2 x3 s) := by
  unfold microcode
  repeat'
    first
    | with_reducible assumption | with_reducible apply (keep_microCauses C kR)
    | with_reducible apply (keep_modDev C kdev) | with_reducible apply (keep_logCores C kR kdev)
    | with_reducible apply (keep_remapAll C kdev) | with_reducible apply (keep_yieldCauses C kR)
    | (intro x; have hx : P x := ?_; clear_value x) | (intro x; have hx : P x.2 := ?_; clear_value x)
    | (intro x; have hx : P x.2.2 := ?_; clear_value x) | intro x | subst x | lift_lets | dsimp only

theorem keep_enablePages (kregs : w .regs) {x1 x2 s} (h : P s) : P (enablePages x1 x2 s) := by
  unfold enablePages
  repeat'
    first
    | with_reducible assumption | with_reducible apply (keep_setReg C kregs)
    | with_reducible refine foldl_keep (fun s b hs => ?_) ?_ | dsimp only

theorem keep_enableAll (kregs : w .regs) {s} (h : P s) : P (enableAll s) := by
  unfold enableAll
  repeat'
    first
    | with_reducible assumption | with_reducible apply (keep_enablePages C kregs)
    | (intro x; have hx : P x := ?_; clear_value x) | intro x | subst x | lift_lets | dsimp only

theorem keep_bootComponents (kR : RaiseSet w) (ksec : w .sec) {x1 x2 x3 s} (h : P s) : P (bootComponents x1 x2 x3 s).2 := by
  fun_induction bootComponents x1 x2 x3 s
  all_goals
  repeat'
    first
    | with_reducible assumption | with_reducible refine of_ih ‹P _ → P _› ?_
    | with_reducible apply (keep_measure C ksec) | with_reducible apply (keep_raiseCe C kR)
    | with_reducible refine of_quad ‹_ = (_, _, _, _)› ?_ | with_reducible refine of_triple ‹_ = (_, _, _)› ?_
    | with_reducible refine of_pair ‹_ = (_, _)› ?_ | split | dsimp only

theorem keep_loadCharges (kregs : w .regs) {x1 x2 s} (h : P s) : P (loadCharges x1 x2 s) := by
  fun_induction loadCharges x1 x2 s
  all_goals
  repeat'
    first
    | with_reducible assumption | with_reducible refine of_ih ‹P _ → P _› ?_ | with_reducible apply (C.rset kregs)
    | split | dsimp only

theorem keep_running (kregs : w .regs) (kdev : w .dev) (ksec : w .sec) {x1 x2 x3 s} (h : P s) : P (running x1 x2 x3 s) := by
  unfold running
  repeat'
    first
    | with_reducible assumption | with_reducible apply (keep_modSec C ksec)
    | with_reducible apply (keep_loadCharges C kregs) | with_reducible apply (keep_modDev C kdev) | dsimp only

theorem keep_bootSlot (kR : RaiseSet w) (kdev : w .dev) (ksec : w .sec) {x1 s} (h : P s) : P (bootSlot x1 s).2 := by
  unfold bootSlot
  repeat'
    first
    | with_reducible assumption | with_reducible apply (keep_raiseCe C kR)
    | with_reducible apply (keep_bootComponents C kR ksec) | with_reducible apply (keep_running C kR.regs kdev ksec)
    | with_reducible refine of_quad ‹_ = (_, _, _, _)› ?_ | with_reducible refine of_triple ‹_ = (_, _, _)› ?_
    | with_reducible refine of_pair ‹_ = (_, _)› ?_ | split | dsimp only

theorem keep_bootFlash (kR : RaiseSet w) (kdev : w .dev) (ksec : w .sec) {s} (h : P s) : P (bootFlash s).2 := by
  unfold bootFlash
  repeat'
    first
    | with_reducible assumption | with_reducible apply (keep_bootSlot C kR kdev ksec)
    | with_reducible apply (keep_modSec C ksec) | (intro x; have hx : P x := ?_; clear_value x) | intro x | subst x
    | lift_lets | with_reducible refine of_quad ‹_ = (_, _, _, _)› ?_
    | with_reducible refine of_triple ‹_ = (_, _, _)› ?_ | with_reducible refine of_pair ‹_ = (_, _)› ?_ | split
    | dsimp only

theorem keep_startTrotos (kregs : w .regs) (kdev : w .dev) (ksec : w .sec) {s} (h : P s) : P (startTrotos s) := by
  unfold startTrotos
  repeat'
    first
    | with_reducible assumption | with_reducible apply (keep_measure C ksec)
    | with_reducible apply (keep_modDev C kdev) | with_reducible apply (keep_running C kregs kdev ksec)
    | with_reducible apply (keep_modSec C ksec) | with_reducible apply (keep_setReg C kregs)
    | (intro x; have hx : P x := ?_; clear_value x) | intro x | subst x | lift_lets | dsimp only

theorem keep_logResets (kR : RaiseSet w) {x1 s} (h : P s) : P (logResets x1 s) := by
  fun_induction logResets x1 s
  all_goals
  repeat'
    first
    | with_reducible assumption | with_reducible refine of_ih ‹P _ → P _› ?_
    | with_reducible apply (keep_logLosses C kR) | split | dsimp only

theorem keep_logDue (kR : RaiseSet w) (kdev : w .dev) {s} (h : P s) : P (logDue s) := by
  unfold logDue
  repeat'
    first
    | with_reducible assumption | with_reducible apply (keep_logResets C kR)
    | with_reducible apply (keep_modDev C kdev) | dsimp only

theorem keep_readyCheck (kR : RaiseSet w) (know : w .now) (kdev : w .dev) {x1 x2 s} (h : P s) : P (readyCheck x1 x2 s) := by
  unfold readyCheck
  repeat'
    first
    | with_reducible assumption | with_reducible apply (C.elapse know) | with_reducible apply (keep_modDev C kdev)
    | with_reducible apply (keep_setReg C kR.regs) | with_reducible apply (keep_raiseCe C kR)
    | (intro x; have hx : P x := ?_; clear_value x) | intro x | subst x | lift_lets | split | dsimp only

theorem keep_trialCheck (kregs : w .regs) (kfaults : w .faults) (kdev : w .dev) {x1 s} (h : P s) : P (trialCheck x1 s) := by
  unfold trialCheck
  repeat'
    first
    | with_reducible assumption | with_reducible apply (keep_trialSuccess C kregs kfaults kdev)
    | with_reducible apply (keep_modDev C kdev) | split | dsimp only

theorem keep_finishBoot (kR : RaiseSet w) (know : w .now) (kdev : w .dev) (ksec : w .sec) {x1 x2 s} (h : P s) : P (finishBoot x1 x2 s) := by
  unfold finishBoot
  repeat'
    first
    | with_reducible assumption | with_reducible apply (keep_startTrotos C kR.regs kdev ksec)
    | with_reducible apply (keep_bistAndLog C kR kdev) | with_reducible apply (keep_trainEdges C kR.mem kdev)
    | with_reducible apply (keep_trainStacks C kR) | with_reducible apply (keep_enableAll C kR.regs)
    | with_reducible apply (keep_floodSwitches C kdev) | with_reducible apply (keep_remapAll C kdev)
    | with_reducible apply (keep_logDue C kR kdev) | with_reducible apply (keep_microcode C kR kdev)
    | with_reducible refine keep_atCycle C know (fun s hs => ?_) ?_ | with_reducible apply (keep_trainLinks C kR)
    | with_reducible apply (keep_trialCheck C kR.regs kR.faults kdev)
    | with_reducible apply (keep_readyCheck C kR know kdev) | (intro x; have hx : P x := ?_; clear_value x)
    | intro x | subst x | lift_lets | with_reducible refine of_quad ‹_ = (_, _, _, _)› ?_
    | with_reducible refine of_triple ‹_ = (_, _, _)› ?_ | with_reducible refine of_pair ‹_ = (_, _)› ?_ | split
    | dsimp only

theorem keep_toNetwork (kregs : w .regs) (kserve : w .serve) (ksec : w .sec) {x1 x2 s} (h : P s) : P (toNetwork x1 x2 s) := by
  unfold toNetwork
  repeat'
    first
    | with_reducible assumption | with_reducible apply (keep_setReg C kregs)
    | with_reducible apply (keep_modSec C ksec) | fail_if_no_progress with_reducible apply (C.serve kserve)
    | (intro x; have hx : P x := ?_; clear_value x) | intro x | subst x | lift_lets | dsimp only

theorem keep_noFirmware (kdev : w .dev) {s} (h : P s) : P (noFirmware s) := by
  unfold noFirmware
  repeat'
    first
    | with_reducible assumption | with_reducible apply (keep_modDev C kdev) | dsimp only

theorem keep_bootFirmware (kR : RaiseSet w) (know : w .now) (kdev : w .dev) (ksec : w .sec) {x1 x2 s} (h : P s) : P (bootFirmware x1 x2 s) := by
  unfold bootFirmware
  repeat'
    first
    | with_reducible assumption | with_reducible apply (keep_modDev C kdev)
    | with_reducible apply (keep_measure C ksec) | with_reducible apply (keep_bootFlash C kR kdev ksec)
    | with_reducible apply (keep_finishBoot C kR know kdev ksec)
    | with_reducible apply (keep_toNetwork C kR.regs kR.serve ksec) | with_reducible apply (keep_noFirmware C kdev)
    | with_reducible apply (keep_setUpd C kR.regs) | with_reducible apply (keep_modRecord C kR.regs kR.faults kdev)
    | with_reducible apply (keep_bootSlot C kR kdev ksec)
    | with_reducible apply (keep_trialFail C kR.regs kR.faults kdev) | (intro x; have hx : P x := ?_; clear_value x)
    | intro x | subst x | lift_lets | with_reducible refine of_quad ‹_ = (_, _, _, _)› ?_
    | with_reducible refine of_triple ‹_ = (_, _, _)› ?_ | with_reducible refine of_pair ‹_ = (_, _)› ?_ | split
    | dsimp only

theorem keep_restoreUpd (kregs : w .regs) {s} (h : P s) : P (restoreUpd s) := by
  unfold restoreUpd
  repeat'
    first
    | with_reducible assumption | with_reducible apply (keep_setStaged C kregs)
    | with_reducible apply (keep_setUpd C kregs) | (intro x; have hx : P x := ?_; clear_value x) | intro x | subst x
    | lift_lets | split | dsimp only

theorem keep_resetLimits (kregs : w .regs) {s} (h : P s) : P (resetLimits s) := by
  unfold resetLimits
  repeat'
    first
    | with_reducible assumption | with_reducible apply (keep_setReg C kregs)
    | with_reducible apply (keep_setBudget C kregs) | dsimp only

theorem keep_coldBringup (kR : RaiseSet w) (know : w .now) (kfree : w .free) (ksram : w .sram) (kfab : w .fab) (ktick : w .tick) (ksched : w .sched) (kresets : w .resets) (kjobFrames : w .jobFrames) (kjobBase : w .jobBase) (klive : w .live) (kmonOn : w .monOn) (kmonClear : w .monClear) (kenergy : w .energy) (kengines : w .engines) (krng : w .rng) (kdev : w .dev) (ksec : w .sec) (kdig : w .dig) {x1 s} (h : P s) : P (coldBringup x1 s) := by
  unfold coldBringup
  split
  · exact h
  · dsimp only
    split
    · exact keep_resetLimits C kR.regs (keep_setReg C kR.regs (C.coldKeep (kR.all fun f hf => by fin_cases hf <;> assumption) h))
    · exact keep_bootFirmware C kR know kdev ksec (keep_restoreUpd C kR.regs (keep_resetLimits C kR.regs (keep_setReg C kR.regs (C.coldKeep (kR.all fun f hf => by fin_cases hf <;> assumption) h))))

theorem keep_coldReset (kR : RaiseSet w) (know : w .now) (kfree : w .free) (ksram : w .sram) (kfab : w .fab) (ktick : w .tick) (ksched : w .sched) (kresets : w .resets) (kjobFrames : w .jobFrames) (kjobBase : w .jobBase) (klive : w .live) (kmonOn : w .monOn) (kmonClear : w .monClear) (kenergy : w .energy) (kengines : w .engines) (krng : w .rng) (kdev : w .dev) (ksec : w .sec) (kdig : w .dig) {s} (h : P s) : P (coldReset s) :=
  keep_setBudget C kR.regs (C.coldKeep (kR.all fun f hf => by fin_cases hf <;> assumption) h)

theorem keep_warmKeep (kR : RaiseSet w) (know : w .now) (kfree : w .free) (ksram : w .sram) (kfab : w .fab) (ktick : w .tick) (ksched : w .sched) (kresets : w .resets) (kjobFrames : w .jobFrames) (kjobBase : w .jobBase) (klive : w .live) (kmonOn : w .monOn) (kmonClear : w .monClear) (kenergy : w .energy) (kengines : w .engines) (krng : w .rng) (kdev : w .dev) (ksec : w .sec) (kdig : w .dig) {s} (h : P s) : P (warmKeep s) :=
  C.warmKeep (kR.all fun f hf => by fin_cases hf <;> assumption) h

theorem keep_launchAll (kR : RaiseSet w) (kenergy : w .energy) {x1 s} (h : P s) : P (launchAll x1 s) := by
  fun_induction launchAll x1 s
  all_goals
  repeat'
    first
    | with_reducible assumption | with_reducible refine of_ih ‹P _ → P _› ?_
    | with_reducible apply (keep_frameLaunch C kR kenergy) | split | dsimp only

theorem keep_warmReset (kR : RaiseSet w) (know : w .now) (kfree : w .free) (ksram : w .sram) (kfab : w .fab) (ktick : w .tick) (ksched : w .sched) (kresets : w .resets) (kjobFrames : w .jobFrames) (kjobBase : w .jobBase) (klive : w .live) (kmonOn : w .monOn) (kmonClear : w .monClear) (kenergy : w .energy) (kengines : w .engines) (krng : w .rng) (kdev : w .dev) (ksec : w .sec) (kdig : w .dig) {x1 x2 s} (h : P s) : P (warmReset x1 x2 s) := by
  unfold warmReset
  repeat'
    first
    | with_reducible assumption | with_reducible apply (keep_fatalEventLog C know kR.regs kR.faults kdev)
    | with_reducible apply (keep_primaryFault C kR.regs kR.faults kR.links kR.pair)
    | with_reducible apply (keep_warmKeep C kR know kfree ksram kfab ktick ksched kresets kjobFrames kjobBase klive kmonOn kmonClear kenergy kengines krng kdev ksec kdig)
    | with_reducible apply (keep_launchAll C kR kenergy) | with_reducible apply (keep_bump48 C kR)
    | with_reducible apply (keep_setReg C kR.regs) | with_reducible apply (keep_resetLimits C kR.regs)
    | with_reducible apply (keep_bootFirmware C kR know kdev ksec) | (intro x; have hx : P x := ?_; clear_value x)
    | intro x | subst x | lift_lets | split | dsimp only

theorem keep_bootReq (kfree : w .free) (kout : w .out) {s} (h : P s) : P (bootReq s) := by
  unfold bootReq
  repeat'
    first
    | with_reducible assumption | with_reducible apply (C.drawFree kfree) | with_reducible apply (keep_emit C kout)
    | (intro x; have hx : P x := ?_; clear_value x) | intro x | subst x | lift_lets | split | dsimp only

theorem keep_bootData (kR : RaiseSet w) (know : w .now) (kdev : w .dev) (ksec : w .sec) {x1 x2 s} (h : P s) : P (bootData x1 x2 s) := by
  unfold bootData
  repeat'
    first
    | with_reducible assumption | with_reducible apply (keep_modSec C ksec)
    | with_reducible apply (keep_bootComponents C kR ksec)
    | with_reducible apply (keep_finishBoot C kR know kdev ksec)
    | with_reducible apply (keep_running C kR.regs kdev ksec) | with_reducible apply (keep_noFirmware C kdev)
    | (intro x; have hx : P x := ?_; clear_value x) | intro x | subst x | lift_lets
    | with_reducible refine of_quad ‹_ = (_, _, _, _)› ?_ | with_reducible refine of_triple ‹_ = (_, _, _)› ?_
    | with_reducible refine of_pair ‹_ = (_, _)› ?_ | split | dsimp only

/-! ## Digest -/

theorem keep_modDig (kdig : w .dig) {x1 s} (h : P s) : P (modDig x1 s) := by
  unfold modDig
  repeat'
    first
    | with_reducible assumption | fail_if_no_progress with_reducible apply (C.dig kdig) | dsimp only

theorem keep_setPeerRow (kdig : w .dig) {x1 s} (h : P s) : P (setPeerRow x1 s) := by
  unfold setPeerRow
  repeat'
    first
    | with_reducible assumption | with_reducible apply (keep_modDig C kdig) | dsimp only

theorem keep_configDiverge (kR : RaiseSet w) (kdig : w .dig) {x1 x2 x3 s} (h : P s) : P (configDiverge x1 x2 x3 s) := by
  unfold configDiverge
  repeat'
    first
    | with_reducible assumption | with_reducible apply (keep_modDig C kdig)
    | with_reducible apply (keep_setPeerRow C kdig) | with_reducible apply (keep_logEvent C kR.regs kR.faults)
    | with_reducible apply (keep_raiseCe C kR) | (intro x; have hx : P x := ?_; clear_value x) | intro x | subst x
    | lift_lets | dsimp only

theorem keep_compareDigest (kR : RaiseSet w) (kdig : w .dig) {x1 x2 x3 x4 x5 s} (h : P s) : P (compareDigest x1 x2 x3 x4 x5 s) := by
  unfold compareDigest
  repeat'
    first
    | with_reducible assumption | with_reducible apply (keep_modDig C kdig)
    | with_reducible apply (keep_setPeerRow C kdig) | with_reducible apply (keep_configDiverge C kR kdig)
    | (intro x; have hx : P x := ?_; clear_value x) | intro x | subst x | lift_lets | split | dsimp only

theorem keep_digestMessage (kR : RaiseSet w) (kdig : w .dig) {x1 x2 x3 x4 s} (h : P s) : P (digestMessage x1 x2 x3 x4 s) := by
  unfold digestMessage
  repeat'
    first
    | with_reducible assumption | with_reducible apply (keep_compareDigest C kR kdig)
    | with_reducible apply (keep_modDig C kdig) | (intro x; have hx : P x := ?_; clear_value x)
    | (intro x; have hx : P x.2 := ?_; clear_value x) | (intro x; have hx : P x.2.2 := ?_; clear_value x) | intro x
    | subst x | lift_lets | split | dsimp only

theorem keep_compareWaiting (kR : RaiseSet w) (kdig : w .dig) {x1 x2 x3 s} (h : P s) : P (compareWaiting x1 x2 x3 s) := by
  fun_induction compareWaiting x1 x2 x3 s
  all_goals
  repeat'
    first
    | with_reducible assumption | with_reducible refine of_ih ‹P _ → P _› ?_
    | with_reducible apply (keep_compareDigest C kR kdig) | split | dsimp only

theorem keep_holdDigest (kdig : w .dig) {s} (h : P s) : P (holdDigest s) := by
  unfold holdDigest
  repeat'
    first
    | with_reducible assumption | with_reducible apply (keep_modDig C kdig) | split | dsimp only

theorem keep_publishDigest (kR : RaiseSet w) (kdig : w .dig) {s} (h : P s) : P (publishDigest s) := by
  unfold publishDigest
  repeat'
    first
    | with_reducible assumption | with_reducible apply (keep_compareWaiting C kR kdig)
    | with_reducible apply (keep_sendSlot C kR.links) | fail_if_no_progress with_reducible apply (C.dig kdig)
    | (intro x; have hx : P x := ?_; clear_value x) | intro x | subst x | lift_lets | split | dsimp only

/-! ## Ticks -/

theorem keep_modTick (ktick : w .tick) {x1 s} (h : P s) : P (modTick x1 s) := by
  unfold modTick
  repeat'
    first
    | with_reducible assumption | fail_if_no_progress with_reducible apply (C.tick ktick) | dsimp only

theorem keep_tickSlip (kR : RaiseSet w) {x1 x2 s} (h : P s) : P (tickSlip x1 x2 s) := by
  unfold tickSlip
  repeat'
    first
    | with_reducible assumption | with_reducible apply (keep_slip C kR) | dsimp only

theorem keep_heldResets (kR : RaiseSet w) (know : w .now) (kfab : w .fab) (kresets : w .resets) (kenergy : w .energy) {x1 s} (h : P s) : P (heldResets x1 s) := by
  fun_induction heldResets x1 s
  all_goals
  repeat'
    first
    | with_reducible assumption | with_reducible refine of_ih ‹P _ → P _› ?_
    | with_reducible apply (keep_heldReset C kR know kfab kresets kenergy) | split | dsimp only

theorem keep_takeover (kR : RaiseSet w) {s} (h : P s) : P (takeover s) := by
  unfold takeover
  repeat'
    first
    | with_reducible assumption | with_reducible apply (keep_setReg C kR.regs)
    | with_reducible apply (keep_raiseCe C kR) | with_reducible apply (keep_rset64 C kR.regs)
    | fail_if_no_progress with_reducible apply (C.pair kR.pair) | (intro x; have hx : P x := ?_; clear_value x)
    | intro x | subst x | lift_lets | split | dsimp only

theorem keep_resendFault (klinks : w .links) (kpair : w .pair) {s} (h : P s) : P (resendFault s) := by
  unfold resendFault
  repeat'
    first
    | with_reducible assumption | with_reducible apply (keep_sendFirst C klinks)
    | fail_if_no_progress with_reducible apply (C.pair kpair) | split | dsimp only

theorem keep_mapCores (kcores : w .cores) {x1 s} (h : P s) : P (mapCores x1 s) := by
  unfold mapCores
  repeat'
    first
    | with_reducible assumption | fail_if_no_progress with_reducible apply (C.coresMap kcores) | dsimp only

theorem keep_tickBoundary (kR : RaiseSet w) (know : w .now) (kfab : w .fab) (ktick : w .tick) (kresets : w .resets) (kenergy : w .energy) (kdig : w .dig) {x1 s} (h : P s) : P (tickBoundary x1 s) := by
  unfold tickBoundary
  repeat'
    first
    | with_reducible assumption | with_reducible apply (C.passTo know)
    | with_reducible apply (keep_holdDigest C kdig) | with_reducible apply (keep_noteUnissued C kR.mem)
    | with_reducible apply (keep_settleFills C kR) | with_reducible apply (keep_modTick C ktick)
    | with_reducible apply (keep_commitTemplates C kR.serve) | with_reducible apply (keep_modServe C kR.serve)
    | with_reducible apply (keep_takeover C kR) | with_reducible apply (keep_todLoad C kR.serve)
    | with_reducible apply (keep_heldResets C kR know kfab kresets kenergy)
    | with_reducible apply (keep_freezeParts C kR.regs kR.hub kR.hbm kR.parts kR.faults kR.mem kR.links kR.serve kR.cairn kR.pair)
    | with_reducible apply (keep_resendFault C kR.links kR.pair)
    | with_reducible apply (keep_accountTick C kR kenergy) | with_reducible apply (keep_mapCores C kR.cores)
    | (intro x; have hx : P x := ?_; clear_value x) | intro x | subst x | lift_lets | split | dsimp only

theorem keep_switchUpstream (kR : RaiseSet w) (ktick : w .tick) {s} (h : P s) : P (switchUpstream s) := by
  unfold switchUpstream
  repeat'
    first
    | with_reducible assumption | with_reducible apply (keep_modTick C ktick)
    | with_reducible apply (keep_tickSlip C kR) | (intro x; have hx : P x := ?_; clear_value x) | intro x | subst x
    | lift_lets | split | dsimp only

theorem keep_publishLive (kR : RaiseSet w) {x0 x1 s} (h : P s) : P (publishLive x0 x1 s) := by
  induction x1 generalizing s with
  | nil => exact h
  | cons e t ih =>
    have hs : P (rset (regKey 0x1A (e.1 / 64) (liveOff (e.1 % 64)) 0 + 4)
        (BitVec.ofNat 32 (e.2 / 2 ^ 32 % 2 ^ 16 + (if decide (max48 ≤ e.2) then 2 ^ 31 else 0)))
        (rset (regKey 0x1A (e.1 / 64) (liveOff (e.1 % 64)) 0) (BitVec.ofNat 32 e.2) s)) := C.rset kR.regs (C.rset kR.regs h)
    apply ih
    split
    · exact keep_raiseCe C kR hs
    · exact hs

theorem keep_monitorFrame (kR : RaiseSet w) (klive : w .live) (kmonOn : w .monOn) (kmonClear : w .monClear) {s} (h : P s) : P (monitorFrame s) := by
  unfold monitorFrame
  repeat'
    first
    | with_reducible assumption | with_reducible apply (keep_dropRegs C kR.regs)
    | with_reducible apply (keep_rset64 C kR.regs) | with_reducible apply (keep_publishLive C kR)
    | fail_if_no_progress with_reducible apply (C.live klive)
    | fail_if_no_progress with_reducible apply (C.monOn kmonOn)
    | fail_if_no_progress with_reducible apply (C.monClear kmonClear)
    | fail_if_no_progress with_reducible apply (Closed.monitor C klive kmonOn kmonClear)
    | (intro x; have hx : P x := ?_; clear_value x) | (intro x; have hx : P x.2 := ?_; clear_value x)
    | (intro x; have hx : P x.2.2 := ?_; clear_value x) | intro x | subst x | lift_lets | split | dsimp only

theorem keep_countJobs (kjobFrames : w .jobFrames) {s} (h : P s) : P (countJobs s) := by
  unfold countJobs
  repeat'
    first
    | with_reducible assumption | fail_if_no_progress with_reducible apply (C.jobFrames kjobFrames)
    | with_reducible refine foldl_keep (fun s b hs => ?_) ?_ | dsimp only

theorem keep_closeSlack (kmem : w .mem) {s} (h : P s) : P (closeSlack s) := by
  unfold closeSlack
  repeat'
    first
    | with_reducible assumption | fail_if_no_progress with_reducible apply (C.mem kmem) | dsimp only

theorem keep_resumeCores (kcores : w .cores) {s} (h : P s) : P (resumeCores s) := by
  unfold resumeCores
  repeat'
    first
    | with_reducible assumption | with_reducible apply (keep_mapCores C kcores)
    | (intro x; have hx : P x := ?_; clear_value x) | intro x | subst x | lift_lets | split | dsimp only

theorem keep_pairTrace (kR : RaiseSet w) (krng : w .rng) {x1 s} (h : P s) : P (pairTrace x1 s) := by
  unfold pairTrace
  repeat'
    first
    | with_reducible assumption | with_reducible apply (keep_ownValue C kR krng)
    | fail_if_no_progress with_reducible apply (C.pair kR.pair) | (intro x; have hx : P x := ?_; clear_value x)
    | intro x | subst x | lift_lets | split | dsimp only

theorem keep_frameBoundary (kR : RaiseSet w) (kfab : w .fab) (ktick : w .tick) (kjobFrames : w .jobFrames) (klive : w .live) (kmonOn : w .monOn) (kmonClear : w .monClear) (kenergy : w .energy) (kengines : w .engines) (krng : w .rng) (kdig : w .dig) {s} (h : P s) : P (frameBoundary s) := by
  unfold frameBoundary
  repeat'
    first
    | with_reducible assumption | with_reducible apply (keep_modTick C ktick)
    | with_reducible apply (keep_overrunChecks C kR) | with_reducible apply (keep_switchUpstream C kR ktick)
    | with_reducible apply (keep_mapCores C kR.cores) | with_reducible apply (keep_slotsAtFrame C kR kfab kengines)
    | with_reducible apply (keep_closeSlack C kR.mem) | with_reducible apply (keep_rngCommits C krng)
    | with_reducible apply (keep_monitorFrame C kR klive kmonOn kmonClear)
    | with_reducible apply (keep_advancePositions C kenergy) | with_reducible apply (keep_closeEnergy C kenergy)
    | with_reducible apply (keep_countJobs C kjobFrames) | with_reducible apply (keep_settleLooks C kR)
    | with_reducible apply (keep_feedSettle C kR.hub kR.mem kR.serve)
    | with_reducible apply (keep_pairTrace C kR krng) | with_reducible apply (keep_publishDigest C kR kdig)
    | with_reducible apply (keep_readLosses C kR krng)
    | with_reducible apply (keep_captures C kR.regs kR.hub kR.hbm kR.faults kR.cairn)
    | with_reducible apply (keep_resumeCores C kR.cores) | with_reducible apply (keep_castVote C kenergy)
    | with_reducible apply (keep_decideFrame C kR kenergy) | (intro x; have hx : P x := ?_; clear_value x) | intro x
    | subst x | lift_lets | split | dsimp only

theorem keep_tickStart (kR : RaiseSet w) (ktick : w .tick) {x1 s} (h : P s) : P (tickStart x1 s) := by
  unfold tickStart
  repeat'
    first
    | with_reducible assumption | with_reducible apply (keep_raiseCe C kR)
    | with_reducible apply (keep_modTick C ktick) | split | dsimp only

theorem keep_noteReady (kregs : w .regs) {s} (h : P s) : P (noteReady s) := by
  unfold noteReady
  repeat'
    first
    | with_reducible assumption | with_reducible apply (keep_setReg C kregs) | split | dsimp only

theorem keep_takeNumber (kregs : w .regs) (ktick : w .tick) (kenergy : w .energy) (kdev : w .dev) (ksec : w .sec) {x1 x2 s} (h : P s) : P (takeNumber x1 x2 s) := by
  unfold takeNumber
  repeat'
    first
    | with_reducible assumption | with_reducible apply (keep_noteReady C kregs)
    | with_reducible apply (keep_modTick C ktick) | with_reducible apply (keep_running C kregs kdev ksec)
    | with_reducible apply (keep_markEnergy C kenergy) | (intro x; have hx : P x := ?_; clear_value x) | intro x
    | subst x | lift_lets | dsimp only

theorem keep_markNumber (kR : RaiseSet w) (ktick : w .tick) (kenergy : w .energy) (kdev : w .dev) (ksec : w .sec) {x1 x2 s} (h : P s) : P (markNumber x1 x2 s) := by
  unfold markNumber
  repeat'
    first
    | with_reducible assumption | with_reducible apply (keep_takeNumber C kR.regs ktick kenergy kdev ksec)
    | with_reducible apply (keep_noteReady C kR.regs) | with_reducible apply (keep_modTick C ktick)
    | with_reducible apply (keep_tickSlip C kR) | (intro x; have hx : P x := ?_; clear_value x) | intro x | subst x
    | lift_lets | split | dsimp only

theorem keep_markVotes (kR : RaiseSet w) (kenergy : w .energy) {x1 x2 s} (h : P s) : P (markVotes x1 x2 s) := by
  unfold markVotes
  repeat'
    first
    | with_reducible assumption | with_reducible apply (keep_takeVotes C kenergy)
    | with_reducible apply (keep_raise C kR) | (intro x; have hx : P x := ?_; clear_value x) | intro x | subst x
    | lift_lets | split | dsimp only

theorem keep_upstreamMark (kR : RaiseSet w) (ktick : w .tick) (kenergy : w .energy) (kdev : w .dev) (ksec : w .sec) {x1 s} (h : P s) : P (upstreamMark x1 s) := by
  unfold upstreamMark
  repeat'
    first
    | with_reducible assumption | with_reducible apply (keep_modTick C ktick)
    | with_reducible apply (keep_tickSlip C kR)
    | with_reducible apply (keep_markNumber C kR ktick kenergy kdev ksec)
    | (intro x; have hx : P x := ?_; clear_value x) | intro x | subst x | lift_lets | split | dsimp only

theorem keep_tickMarker (kR : RaiseSet w) (ktick : w .tick) (kenergy : w .energy) (kdev : w .dev) (ksec : w .sec) {x1 s} (h : P s) : P (tickMarker x1 s) := by
  unfold tickMarker
  repeat'
    first
    | with_reducible assumption | with_reducible apply (keep_modLink C kR.links)
    | with_reducible apply (keep_upstreamMark C kR ktick kenergy kdev ksec)
    | with_reducible apply (keep_markVotes C kR kenergy) | (intro x; have hx : P x := ?_; clear_value x) | intro x
    | subst x | lift_lets | split | dsimp only

theorem keep_holdoverExceeded (kR : RaiseSet w) (know : w .now) (ktick : w .tick) {s} (h : P s) : P (holdoverExceeded s) := by
  unfold holdoverExceeded
  repeat'
    first
    | with_reducible assumption | with_reducible apply (C.passTo know) | with_reducible apply (keep_tickSlip C kR)
    | with_reducible apply (keep_modTick C ktick) | (intro x; have hx : P x := ?_; clear_value x) | intro x
    | subst x | lift_lets | split | dsimp only

theorem keep_fclkLock (ktick : w .tick) {s} (h : P s) : P (fclkLock s) := by
  unfold fclkLock
  repeat'
    first
    | with_reducible assumption | with_reducible apply (keep_modTick C ktick)
    | (intro x; have hx : P x := ?_; clear_value x) | intro x | subst x | lift_lets | split | dsimp only

theorem keep_nummonCtl (kmonClear : w .monClear) {x1 x2 s} (h : P s) : P (nummonCtl x1 x2 s) := by
  unfold nummonCtl
  repeat'
    first
    | with_reducible assumption | fail_if_no_progress with_reducible apply (C.monClear kmonClear) | split
    | dsimp only

/-! ## Registers -/

theorem keep_setLatch (khost : w .host) {x1 x2 s} (h : P s) : P (setLatch x1 x2 s) := by
  unfold setLatch
  repeat'
    first
    | with_reducible assumption | with_reducible apply (keep_modHost C khost) | dsimp only

theorem keep_noPage (kR : RaiseSet w) {x1 s} (h : P s) : P (noPage x1 s) := by
  unfold noPage
  repeat'
    first
    | with_reducible assumption | with_reducible apply (keep_bump32 C kR) | with_reducible apply (keep_haCount C kR)
    | split | dsimp only

theorem keep_readEffect (kregs : w .regs) (kfaults : w .faults) {x1 x2 x3 s} (h : P s) : P (readEffect x1 x2 x3 s) := by
  unfold readEffect
  repeat'
    first
    | with_reducible assumption | with_reducible apply (keep_setReg C kregs)
    | with_reducible apply (keep_setFreshPage C kfaults) | with_reducible apply (keep_egAdvance C kregs)
    | with_reducible apply (keep_modFaults C kfaults) | (intro x; have hx : P x := ?_; clear_value x) | intro x
    | subst x | lift_lets | split | dsimp only

theorem keep_latchedRead (khost : w .host) {x1 x2 x3 x4 s} (h : P s) : P (latchedRead x1 x2 x3 x4 s).2 := by
  unfold latchedRead
  repeat'
    first
    | with_reducible assumption | with_reducible apply (keep_setLatch C khost)
    | (intro x; have hx : P x := ?_; clear_value x) | intro x | subst x | lift_lets
    | with_reducible refine of_quad ‹_ = (_, _, _, _)› ?_ | with_reducible refine of_triple ‹_ = (_, _, _)› ?_
    | with_reducible refine of_pair ‹_ = (_, _)› ?_ | split | dsimp only

theorem keep_readReg (kR : RaiseSet w) (kfree : w .free) {x1 x2 x3 x4 s} (h : P s) : P (readReg x1 x2 x3 x4 s).2 := by
  unfold readReg
  repeat'
    first
    | with_reducible assumption | with_reducible apply (keep_sramDataRead C kR kfree)
    | with_reducible apply (C.drawFree kfree) | with_reducible apply (keep_latchedRead C kR.host)
    | with_reducible apply (keep_readEffect C kR.regs kR.faults) | (intro x; have hx : P x := ?_; clear_value x)
    | intro x | subst x | lift_lets | with_reducible refine of_quad ‹_ = (_, _, _, _)› ?_
    | with_reducible refine of_triple ‹_ = (_, _, _)› ?_ | with_reducible refine of_pair ‹_ = (_, _)› ?_ | split
    | dsimp only

theorem keep_regRead (kR : RaiseSet w) (kfree : w .free) {x1 x2 s} (h : P s) : P (regRead x1 x2 s).2.2 := by
  unfold regRead
  repeat'
    first
    | with_reducible assumption | with_reducible apply (keep_readReg C kR kfree)
    | with_reducible apply (keep_noPage C kR) | (intro x; have hx : P x := ?_; clear_value x) | intro x | subst x
    | lift_lets | with_reducible refine of_quad ‹_ = (_, _, _, _)› ?_
    | with_reducible refine of_triple ‹_ = (_, _, _)› ?_ | with_reducible refine of_pair ‹_ = (_, _)› ?_ | split
    | dsimp only

theorem keep_freezeMaster (kR : RaiseSet w) {x1 x2 s} (h : P s) : P (freezeMaster x1 x2 s) := by
  unfold freezeMaster
  repeat'
    first
    | with_reducible assumption | with_reducible apply (keep_respond C kR) | split | dsimp only

theorem keep_enableWrite (kR : RaiseSet w) {x1 x2 x3 s} (h : P s) : P (enableWrite x1 x2 x3 s) := by
  unfold enableWrite
  repeat'
    first
    | with_reducible assumption | with_reducible apply (keep_setReg C kR.regs)
    | with_reducible apply (keep_linkEnable C kR) | (intro x; have hx : P x := ?_; clear_value x) | intro x
    | subst x | lift_lets | split | dsimp only

theorem keep_resetWrite (kR : RaiseSet w) (know : w .now) (ksram : w .sram) (kfab : w .fab) (kresets : w .resets) (kenergy : w .energy) (kengines : w .engines) (kdev : w .dev) {x1 x2 x3 s} (h : P s) : P (resetWrite x1 x2 x3 s) := by
  unfold resetWrite
  repeat'
    first
    | with_reducible assumption | with_reducible apply (keep_modDev C kdev)
    | with_reducible apply (keep_clusterResetReq C kR know kfab kresets kenergy)
    | with_reducible apply (keep_coreFreezeReset C kR know kfab kresets kenergy)
    | with_reducible apply (keep_coreResetReq C kR know kfab kresets kenergy)
    | with_reducible apply (keep_engineReset C kR.regs kR.hub kR.hbm kR.faults kR.mem kR.cairn)
    | with_reducible apply (keep_linkPageReset C kR)
    | with_reducible apply (keep_partResetReq C kR know ksram kfab kresets kenergy kengines kdev)
    | with_reducible apply (keep_qpReset C kR.regs kR.host) | split | dsimp only

theorem keep_pageCtlWrite (kR : RaiseSet w) (know : w .now) (ksram : w .sram) (kfab : w .fab) (kresets : w .resets) (kenergy : w .energy) (kengines : w .engines) (kdev : w .dev) {x1 x2 x3 s} (h : P s) : P (pageCtlWrite x1 x2 x3 s) := by
  unfold pageCtlWrite
  repeat'
    first
    | with_reducible assumption | with_reducible apply (keep_freezeMaster C kR)
    | with_reducible apply (keep_enableWrite C kR)
    | with_reducible apply (keep_resetWrite C kR know ksram kfab kresets kenergy kengines kdev)
    | (intro x; have hx : P x := ?_; clear_value x) | intro x | subst x | lift_lets | split | dsimp only

theorem keep_errSumWrite (kregs : w .regs) (kfaults : w .faults) {x1 x2 x3 s} (h : P s) : P (errSumWrite x1 x2 x3 s) := by
  unfold errSumWrite
  repeat'
    first
    | with_reducible assumption | with_reducible apply (keep_setReg C kregs)
    | with_reducible apply (keep_setFreshPage C kfaults) | (intro x; have hx : P x := ?_; clear_value x) | intro x
    | subst x | lift_lets | split | dsimp only

theorem keep_plainWrite (kregs : w .regs) {x1 x2 x3 x4 s} (h : P s) : P (plainWrite x1 x2 x3 x4 s) := by
  unfold plainWrite
  repeat'
    first
    | with_reducible assumption | with_reducible apply (C.rset kregs)
    | (intro x; have hx : P x := ?_; clear_value x) | intro x | subst x | lift_lets | split | dsimp only

theorem keep_qpWrite (kR : RaiseSet w) {x1 x2 x3 s} (h : P s) : P (qpWrite x1 x2 x3 s) := by
  unfold qpWrite
  repeat'
    first
    | with_reducible assumption | with_reducible apply (keep_raiseCe C kR)
    | with_reducible apply (keep_plainWrite C kR.regs) | split | dsimp only

theorem keep_rdmaRegWrite (kR : RaiseSet w) (kfree : w .free) {x1 x2 s} (h : P s) : P (rdmaRegWrite x1 x2 s) := by
  unfold rdmaRegWrite
  repeat'
    first
    | with_reducible assumption | with_reducible apply (keep_plainWrite C kR.regs)
    | with_reducible apply (keep_sourceReset C kR.host) | with_reducible apply (keep_evtCfgWrite C kR.regs kR.host)
    | with_reducible apply (keep_admCmd C kR kfree) | (intro x; have hx : P x := ?_; clear_value x) | intro x
    | subst x | lift_lets | split | dsimp only

theorem keep_swCtlWrite (kR : RaiseSet w) (ksram : w .sram) (kfab : w .fab) {x1 x2 s} (h : P s) : P (swCtlWrite x1 x2 s) := by
  unfold swCtlWrite
  repeat'
    first
    | with_reducible assumption | with_reducible apply (keep_areaClear C kR.regs)
    | with_reducible apply (keep_spillRequest C kR ksram kfab)
    | with_reducible apply (keep_spillLeave C kR.regs kR.cores) | (intro x; have hx : P x := ?_; clear_value x)
    | intro x | subst x | lift_lets | split | dsimp only

theorem keep_keyCmd (kR : RaiseSet w) {x1 x2 s} (h : P s) : P (keyCmd x1 x2 s) := by
  unfold keyCmd
  repeat'
    first
    | with_reducible assumption | with_reducible apply (keep_keyLoad C kR)
    | with_reducible apply (keep_keySwitch C kR) | with_reducible apply (keep_keySweep C kR)
    | with_reducible apply (keep_keyClear C kR) | split | dsimp only

theorem keep_cirqueWrite (kR : RaiseSet w) {x1 x2 x3 s} (h : P s) : P (cirqueWrite x1 x2 x3 s) := by
  unfold cirqueWrite
  repeat'
    first
    | with_reducible assumption | with_reducible apply (keep_manualMove C kR)
    | with_reducible apply (keep_windowWrite C kR) | with_reducible apply (keep_plainWrite C kR.regs) | split
    | dsimp only

theorem keep_serveWrite (kR : RaiseSet w) {x1 x2 s} (h : P s) : P (serveWrite x1 x2 s) := by
  unfold serveWrite
  repeat'
    first
    | with_reducible assumption | with_reducible apply (keep_srvGatherWrite C kR)
    | with_reducible apply (keep_srvPagesWrite C kR.regs) | with_reducible apply (keep_feedGeomWrite C kR)
    | with_reducible apply (keep_srvModelWrite C kR.serve) | with_reducible apply (keep_srvCmd C kR)
    | with_reducible apply (keep_srvPairWrite C kR) | with_reducible apply (keep_plainWrite C kR.regs) | split
    | dsimp only

theorem keep_budgetWrite (kR : RaiseSet w) {x1 x2 s} (h : P s) : P (budgetWrite x1 x2 s) := by
  unfold budgetWrite
  repeat'
    first
    | with_reducible assumption | with_reducible apply (keep_setBudget C kR.regs)
    | with_reducible apply (keep_raiseCe C kR) | split | dsimp only

theorem keep_classWrite (kR : RaiseSet w) (kfree : w .free) (ksram : w .sram) (kfab : w .fab) (ktick : w .tick) (ksched : w .sched) (kmonClear : w .monClear) (krng : w .rng) (kdev : w .dev) (ksec : w .sec) {x1 x2 x3 x4 x5 s} (h : P s) : P (classWrite x1 x2 x3 x4 x5 s) := by
  unfold classWrite
  repeat'
    first
    | with_reducible assumption | with_reducible apply (keep_heartWrite C kdev)
    | with_reducible apply (keep_plainWrite C kR.regs) | with_reducible apply (keep_tickStart C kR ktick)
    | with_reducible apply (keep_sramDataWrite C kR ksram) | with_reducible apply (keep_swCtlWrite C kR ksram kfab)
    | with_reducible apply (keep_cirqueWrite C kR) | with_reducible apply (keep_retrain C kR)
    | with_reducible apply (keep_todCtl C kR.serve) | with_reducible apply (keep_todRateWrite C kR)
    | with_reducible apply (keep_inCmd C kR) | with_reducible apply (keep_egWrite C kR.regs kR.serve)
    | with_reducible apply (keep_serveWrite C kR) | with_reducible apply (keep_rdmaRegWrite C kR kfree)
    | with_reducible apply (keep_qpWrite C kR) | with_reducible apply (keep_secCmd C kR kfree krng kdev ksec)
    | with_reducible apply (keep_nonceWrite C kR ksec) | with_reducible apply (keep_budgetWrite C kR)
    | with_reducible apply (keep_fltCtl C kR.faults) | with_reducible apply (keep_powerRequest C kR)
    | with_reducible apply (keep_schedCmd C kR ksched) | with_reducible apply (keep_cairnCmd C kR krng)
    | with_reducible apply (keep_pairCheck C kR) | with_reducible apply (keep_tellPairing C kR.links)
    | with_reducible apply (keep_pairCtl C kR) | with_reducible apply (keep_rngKeyWrite C krng)
    | with_reducible apply (keep_nummonCtl C kmonClear) | with_reducible apply (keep_keyCmd C kR) | split
    | dsimp only

theorem keep_singleWrite (kR : RaiseSet w) (know : w .now) (kfree : w .free) (ksram : w .sram) (kfab : w .fab) (ktick : w .tick) (ksched : w .sched) (kresets : w .resets) (kmonClear : w .monClear) (kenergy : w .energy) (kengines : w .engines) (krng : w .rng) (kdev : w .dev) (ksec : w .sec) {x1 x2 x3 x4 x5 s} (h : P s) : P (singleWrite x1 x2 x3 x4 x5 s) := by
  unfold singleWrite
  repeat'
    first
    | with_reducible assumption
    | with_reducible apply (keep_pageCtlWrite C kR know ksram kfab kresets kenergy kengines kdev)
    | with_reducible apply (keep_errSumWrite C kR.regs kR.faults)
    | with_reducible apply (keep_clearRecord C kR.regs kR.faults) | with_reducible apply (keep_plainWrite C kR.regs)
    | with_reducible apply (keep_classWrite C kR kfree ksram kfab ktick ksched kmonClear krng kdev ksec) | split
    | dsimp only

theorem keep_cairnJWrite (kjobFrames : w .jobFrames) {x1 s} (h : P s) : P (cairnJWrite x1 s) := by
  unfold cairnJWrite
  repeat'
    first
    | with_reducible assumption | fail_if_no_progress with_reducible apply (C.jobFrames kjobFrames)
    | (intro x; have hx : P x := ?_; clear_value x) | intro x | subst x | lift_lets | split | dsimp only

theorem keep_pairWrite (kR : RaiseSet w) (kjobFrames : w .jobFrames) {x1 x2 x3 x4 s} (h : P s) : P (pairWrite x1 x2 x3 x4 s) := by
  unfold pairWrite
  repeat'
    first
    | with_reducible assumption | with_reducible apply (keep_srvCurWrite C kR)
    | with_reducible apply (keep_cairnJWrite C kjobFrames) | with_reducible apply (keep_plainWrite C kR.regs)
    | with_reducible apply (keep_pairCheck C kR) | with_reducible apply (keep_tellPairing C kR.links)
    | (intro x; have hx : P x := ?_; clear_value x) | intro x | subst x | lift_lets | split | dsimp only

theorem keep_loWriteReg (khost : w .host) {x1 x2 x3 x4 x5 s} (h : P s) : P (loWriteReg x1 x2 x3 x4 x5 s) := by
  unfold loWriteReg
  repeat'
    first
    | with_reducible assumption | with_reducible apply (keep_setLatch C khost) | split | dsimp only

theorem keep_hiWriteReg (kR : RaiseSet w) (know : w .now) (kfree : w .free) (ksram : w .sram) (kfab : w .fab) (ktick : w .tick) (ksched : w .sched) (kresets : w .resets) (kjobFrames : w .jobFrames) (kmonClear : w .monClear) (kenergy : w .energy) (kengines : w .engines) (krng : w .rng) (kdev : w .dev) (ksec : w .sec) {x1 x2 x3 x4 x5 s} (h : P s) : P (hiWriteReg x1 x2 x3 x4 x5 s) := by
  unfold hiWriteReg
  repeat'
    first
    | with_reducible assumption | with_reducible apply (keep_pairWrite C kR kjobFrames)
    | with_reducible apply (keep_setLatch C kR.host)
    | with_reducible apply (keep_singleWrite C kR know kfree ksram kfab ktick ksched kresets kmonClear kenergy kengines krng kdev ksec)
    | (intro x; have hx : P x := ?_; clear_value x) | intro x | subst x | lift_lets | split | dsimp only

theorem keep_writeReg (kR : RaiseSet w) (know : w .now) (kfree : w .free) (ksram : w .sram) (kfab : w .fab) (ktick : w .tick) (ksched : w .sched) (kresets : w .resets) (kjobFrames : w .jobFrames) (kmonClear : w .monClear) (kenergy : w .energy) (kengines : w .engines) (krng : w .rng) (kdev : w .dev) (ksec : w .sec) {x1 x2 x3 x4 x5 s} (h : P s) : P (writeReg x1 x2 x3 x4 x5 s) := by
  unfold writeReg
  repeat'
    first
    | with_reducible assumption | with_reducible apply (keep_loWriteReg C kR.host)
    | with_reducible apply (keep_hiWriteReg C kR know kfree ksram kfab ktick ksched kresets kjobFrames kmonClear kenergy kengines krng kdev ksec)
    | with_reducible apply (keep_singleWrite C kR know kfree ksram kfab ktick ksched kresets kmonClear kenergy kengines krng kdev ksec)
    | split | dsimp only

theorem keep_regWrite (kR : RaiseSet w) (know : w .now) (kfree : w .free) (ksram : w .sram) (kfab : w .fab) (ktick : w .tick) (ksched : w .sched) (kresets : w .resets) (kjobFrames : w .jobFrames) (kmonClear : w .monClear) (kenergy : w .energy) (kengines : w .engines) (krng : w .rng) (kdev : w .dev) (ksec : w .sec) {x1 x2 x3 s} (h : P s) : P (regWrite x1 x2 x3 s).2 := by
  unfold regWrite
  repeat'
    first
    | with_reducible assumption
    | with_reducible apply (keep_writeReg C kR know kfree ksram kfab ktick ksched kresets kjobFrames kmonClear kenergy kengines krng kdev ksec)
    | with_reducible apply (keep_noPage C kR) | (intro x; have hx : P x := ?_; clear_value x) | intro x | subst x
    | lift_lets | with_reducible refine of_quad ‹_ = (_, _, _, _)› ?_
    | with_reducible refine of_triple ‹_ = (_, _, _)› ?_ | with_reducible refine of_pair ‹_ = (_, _)› ?_ | split
    | dsimp only

theorem keep_pageWrite (kR : RaiseSet w) (know : w .now) (kfree : w .free) (ksram : w .sram) (kfab : w .fab) (ktick : w .tick) (ksched : w .sched) (kresets : w .resets) (kjobFrames : w .jobFrames) (kmonClear : w .monClear) (kenergy : w .energy) (kengines : w .engines) (krng : w .rng) (kdev : w .dev) (ksec : w .sec) {x1 x2 x3 s} (h : P s) : P (pageWrite x1 x2 x3 s) := by
  unfold pageWrite
  repeat'
    first
    | with_reducible assumption
    | with_reducible apply (keep_writeReg C kR know kfree ksram kfab ktick ksched kresets kjobFrames kmonClear kenergy kengines krng kdev ksec)
    | with_reducible apply (keep_noPage C kR) | split | dsimp only

/-! ## RegFrames -/

theorem keep_readBlock (kR : RaiseSet w) (kfree : w .free) {x1 x2 x3 s} (h : P s) : P (readBlock x1 x2 x3 s).2 := by
  fun_induction readBlock x1 x2 x3 s
  all_goals
  repeat'
    first
    | with_reducible assumption | with_reducible refine of_ih ‹P _ → P _› ?_
    | with_reducible apply (keep_regRead C kR kfree) | (intro x; have hx : P x := ?_; clear_value x)
    | (intro x; have hx : P x.2 := ?_; clear_value x) | (intro x; have hx : P x.2.2 := ?_; clear_value x) | intro x
    | subst x | lift_lets | with_reducible refine of_quad ‹_ = (_, _, _, _)› ?_
    | with_reducible refine of_triple ‹_ = (_, _, _)› ?_ | with_reducible refine of_pair ‹_ = (_, _)› ?_ | split
    | dsimp only

theorem keep_doRead (kR : RaiseSet w) (kfree : w .free) {x1 x2 s} (h : P s) : P (doRead x1 x2 s).2 := by
  unfold doRead
  repeat'
    first
    | with_reducible assumption | with_reducible apply (keep_readBlock C kR kfree) | dsimp only

theorem keep_doWrite (kR : RaiseSet w) (know : w .now) (kfree : w .free) (ksram : w .sram) (kfab : w .fab) (ktick : w .tick) (ksched : w .sched) (kresets : w .resets) (kjobFrames : w .jobFrames) (kmonClear : w .monClear) (kenergy : w .energy) (kengines : w .engines) (krng : w .rng) (kdev : w .dev) (ksec : w .sec) {x1 x2 s} (h : P s) : P (doWrite x1 x2 s).2 := by
  unfold doWrite
  repeat'
    first
    | with_reducible assumption
    | with_reducible apply (keep_regWrite C kR know kfree ksram kfab ktick ksched kresets kjobFrames kmonClear kenergy kengines krng kdev ksec)
    | (intro x; have hx : P x := ?_; clear_value x) | (intro x; have hx : P x.2 := ?_; clear_value x)
    | (intro x; have hx : P x.2.2 := ?_; clear_value x) | intro x | subst x | lift_lets | dsimp only

theorem keep_doRmw (kR : RaiseSet w) (know : w .now) (kfree : w .free) (ksram : w .sram) (kfab : w .fab) (ktick : w .tick) (ksched : w .sched) (kresets : w .resets) (kjobFrames : w .jobFrames) (kmonClear : w .monClear) (kenergy : w .energy) (kengines : w .engines) (krng : w .rng) (kdev : w .dev) (ksec : w .sec) {x1 x2 s} (h : P s) : P (doRmw x1 x2 s).2 := by
  unfold doRmw
  repeat'
    first
    | with_reducible assumption | with_reducible apply (keep_regRead C kR kfree)
    | with_reducible apply (keep_regWrite C kR know kfree ksram kfab ktick ksched kresets kjobFrames kmonClear kenergy kengines krng kdev ksec)
    | (intro x; have hx : P x := ?_; clear_value x) | (intro x; have hx : P x.2 := ?_; clear_value x)
    | (intro x; have hx : P x.2.2 := ?_; clear_value x) | intro x | subst x | lift_lets
    | with_reducible refine of_quad ‹_ = (_, _, _, _)› ?_ | with_reducible refine of_triple ‹_ = (_, _, _)› ?_
    | with_reducible refine of_pair ‹_ = (_, _)› ?_ | split | dsimp only

theorem keep_doBlock (kR : RaiseSet w) (kfree : w .free) {x1 x2 s} (h : P s) : P (doBlock x1 x2 s).2 := by
  unfold doBlock
  repeat'
    first
    | with_reducible assumption | with_reducible apply (keep_readBlock C kR kfree) | dsimp only

theorem keep_doOp (kR : RaiseSet w) (know : w .now) (kfree : w .free) (ksram : w .sram) (kfab : w .fab) (ktick : w .tick) (ksched : w .sched) (kresets : w .resets) (kjobFrames : w .jobFrames) (kmonClear : w .monClear) (kenergy : w .energy) (kengines : w .engines) (krng : w .rng) (kdev : w .dev) (ksec : w .sec) {x1 x2 s} (h : P s) : P (doOp x1 x2 s).2 := by
  unfold doOp
  repeat'
    first
    | with_reducible assumption | with_reducible apply (keep_doRead C kR kfree)
    | with_reducible apply (keep_doWrite C kR know kfree ksram kfab ktick ksched kresets kjobFrames kmonClear kenergy kengines krng kdev ksec)
    | with_reducible apply (keep_doRmw C kR know kfree ksram kfab ktick ksched kresets kjobFrames kmonClear kenergy kengines krng kdev ksec)
    | with_reducible apply (keep_doBlock C kR kfree) | split | dsimp only

theorem keep_noteStatus (khost : w .host) {x1 x2 s} (h : P s) : P (noteStatus x1 x2 s) := by
  unfold noteStatus
  repeat'
    first
    | with_reducible assumption | with_reducible apply (keep_setSource C khost) | dsimp only

theorem keep_reply (kR : RaiseSet w) {x1 x2 x3 s} (h : P s) : P (reply x1 x2 x3 s) := by
  unfold reply
  repeat'
    first
    | with_reducible assumption | with_reducible apply (keep_sendFrame C kR)
    | with_reducible apply (keep_noteStatus C kR.host) | dsimp only

theorem keep_syncSource (kR : RaiseSet w) {x1 x2 s} (h : P s) : P (syncSource x1 x2 s) := by
  unfold syncSource
  repeat'
    first
    | with_reducible assumption | with_reducible apply (keep_reply C kR)
    | with_reducible apply (keep_setSource C kR.host) | dsimp only

theorem keep_storeReply (khost : w .host) {x1 x2 x3 s} (h : P s) : P (storeReply x1 x2 x3 s) := by
  unfold storeReply
  repeat'
    first
    | with_reducible assumption | with_reducible apply (keep_setSource C khost) | split | dsimp only

theorem keep_performSource (kR : RaiseSet w) (know : w .now) (kfree : w .free) (ksram : w .sram) (kfab : w .fab) (ktick : w .tick) (ksched : w .sched) (kresets : w .resets) (kjobFrames : w .jobFrames) (kmonClear : w .monClear) (kenergy : w .energy) (kengines : w .engines) (krng : w .rng) (kdev : w .dev) (ksec : w .sec) {x1 x2 s} (h : P s) : P (performSource x1 x2 s) := by
  unfold performSource
  repeat'
    first
    | with_reducible assumption | with_reducible apply (keep_setSource C kR.host)
    | with_reducible apply (keep_doOp C kR know kfree ksram kfab ktick ksched kresets kjobFrames kmonClear kenergy kengines krng kdev ksec)
    | with_reducible apply (keep_haCount C kR) | with_reducible apply (keep_reply C kR)
    | with_reducible apply (keep_storeReply C kR.host) | with_reducible apply (keep_raise C kR)
    | (intro x; have hx : P x := ?_; clear_value x) | intro x | subst x | lift_lets
    | with_reducible refine of_quad ‹_ = (_, _, _, _)› ?_ | with_reducible refine of_triple ‹_ = (_, _, _)› ?_
    | with_reducible refine of_pair ‹_ = (_, _)› ?_ | split | dsimp only

theorem keep_sequenced (kR : RaiseSet w) (know : w .now) (kfree : w .free) (ksram : w .sram) (kfab : w .fab) (ktick : w .tick) (ksched : w .sched) (kresets : w .resets) (kjobFrames : w .jobFrames) (kmonClear : w .monClear) (kenergy : w .energy) (kengines : w .engines) (krng : w .rng) (kdev : w .dev) (ksec : w .sec) {x1 x2 s} (h : P s) : P (sequenced x1 x2 s) := by
  unfold sequenced
  repeat'
    first
    | with_reducible assumption
    | with_reducible apply (keep_performSource C kR know kfree ksram kfab ktick ksched kresets kjobFrames kmonClear kenergy kengines krng kdev ksec)
    | with_reducible apply (keep_sendFrame C kR) | with_reducible apply (keep_haCount C kR)
    | with_reducible apply (keep_reply C kR) | (intro x; have hx : P x := ?_; clear_value x) | intro x | subst x
    | lift_lets | split | dsimp only

theorem keep_acceptedFrame (kR : RaiseSet w) (know : w .now) (kfree : w .free) (ksram : w .sram) (kfab : w .fab) (ktick : w .tick) (ksched : w .sched) (kresets : w .resets) (kjobFrames : w .jobFrames) (kmonClear : w .monClear) (kenergy : w .energy) (kengines : w .engines) (krng : w .rng) (kdev : w .dev) (ksec : w .sec) {x1 x2 s} (h : P s) : P (acceptedFrame x1 x2 s) := by
  unfold acceptedFrame
  repeat'
    first
    | with_reducible assumption | with_reducible apply (keep_haCount C kR) | with_reducible apply (keep_reply C kR)
    | with_reducible apply (keep_eventAcked C kR.faults kR.host) | with_reducible apply (keep_syncSource C kR)
    | with_reducible apply (keep_sequenced C kR know kfree ksram kfab ktick ksched kresets kjobFrames kmonClear kenergy kengines krng kdev ksec)
    | (intro x; have hx : P x := ?_; clear_value x) | intro x | subst x | lift_lets | split | dsimp only

theorem keep_takeFrame (kR : RaiseSet w) (know : w .now) (kfree : w .free) (ksram : w .sram) (kfab : w .fab) (ktick : w .tick) (ksched : w .sched) (kresets : w .resets) (kjobFrames : w .jobFrames) (kmonClear : w .monClear) (kenergy : w .energy) (kengines : w .engines) (krng : w .rng) (kdev : w .dev) (ksec : w .sec) {x1 s} (h : P s) : P (takeFrame x1 s) := by
  unfold takeFrame
  repeat'
    first
    | with_reducible assumption | with_reducible apply (keep_unknownSource C kR)
    | with_reducible apply (keep_reply C kR) | with_reducible apply (keep_haCount C kR)
    | with_reducible apply (keep_acceptedFrame C kR know kfree ksram kfab ktick ksched kresets kjobFrames kmonClear kenergy kengines krng kdev ksec)
    | split | dsimp only

theorem keep_pathTake (kR : RaiseSet w) {x1 s t} (h : P s) (e : pathTake x1 s = some t) : P t := by
  unfold pathTake at e
  repeat'
    first
    | with_reducible assumption | (injection e with e; subst e) | contradiction
    | with_reducible apply (keep_modHost C kR.host) | with_reducible apply (keep_ethCount C kR) | split | dsimp only
    | split at e

theorem keep_frameOp (kR : RaiseSet w) (know : w .now) (kfree : w .free) (ksram : w .sram) (kfab : w .fab) (ktick : w .tick) (ksched : w .sched) (kresets : w .resets) (kjobFrames : w .jobFrames) (kmonClear : w .monClear) (kenergy : w .energy) (kengines : w .engines) (krng : w .rng) (kdev : w .dev) (ksec : w .sec) {x1 x2 x3 s} (h : P s) : P (frameOp x1 x2 x3 s) := by
  unfold frameOp
  repeat'
    first
    | with_reducible assumption | refine keep_pathTake C kR ?_ (by with_reducible assumption)
    | with_reducible apply (keep_takeFrame C kR know kfree ksram kfab ktick ksched kresets kjobFrames kmonClear kenergy kengines krng kdev ksec)
    | split | dsimp only

theorem keep_sidebandTaken (kR : RaiseSet w) (know : w .now) (kfree : w .free) (ksram : w .sram) (kfab : w .fab) (ktick : w .tick) (ksched : w .sched) (kresets : w .resets) (kjobFrames : w .jobFrames) (kmonClear : w .monClear) (kenergy : w .energy) (kengines : w .engines) (krng : w .rng) (kdev : w .dev) (ksec : w .sec) {x1 s} (h : P s) : P (sidebandTaken x1 s) := by
  unfold sidebandTaken
  repeat'
    first
    | with_reducible assumption | with_reducible apply (keep_emit C kR.out)
    | with_reducible apply (keep_doOp C kR know kfree ksram kfab ktick ksched kresets kjobFrames kmonClear kenergy kengines krng kdev ksec)
    | (intro x; have hx : P x := ?_; clear_value x) | intro x | subst x | lift_lets
    | with_reducible refine of_quad ‹_ = (_, _, _, _)› ?_ | with_reducible refine of_triple ‹_ = (_, _, _)› ?_
    | with_reducible refine of_pair ‹_ = (_, _)› ?_ | split | dsimp only

theorem keep_sidebandFrame (kR : RaiseSet w) (know : w .now) (kfree : w .free) (ksram : w .sram) (kfab : w .fab) (ktick : w .tick) (ksched : w .sched) (kresets : w .resets) (kjobFrames : w .jobFrames) (kmonClear : w .monClear) (kenergy : w .energy) (kengines : w .engines) (krng : w .rng) (kdev : w .dev) (ksec : w .sec) {x1 s} (h : P s) : P (sidebandFrame x1 s) := by
  unfold sidebandFrame
  repeat'
    first
    | with_reducible assumption
    | with_reducible apply (keep_sidebandTaken C kR know kfree ksram kfab ktick ksched kresets kjobFrames kmonClear kenergy kengines krng kdev ksec)
    | with_reducible apply (keep_modHost C kR.host) | with_reducible apply (keep_pathQueue C kR.host) | split
    | dsimp only

theorem keep_sidebandMsg (kR : RaiseSet w) (know : w .now) (kfree : w .free) (ksram : w .sram) (kfab : w .fab) (ktick : w .tick) (ksched : w .sched) (kresets : w .resets) (kjobFrames : w .jobFrames) (kmonClear : w .monClear) (kenergy : w .energy) (kengines : w .engines) (krng : w .rng) (kdev : w .dev) (ksec : w .sec) {x1 s} (h : P s) : P (sidebandMsg x1 s) := by
  unfold sidebandMsg
  repeat'
    first
    | with_reducible assumption
    | with_reducible apply (keep_sidebandFrame C kR know kfree ksram kfab ktick ksched kresets kjobFrames kmonClear kenergy kengines krng kdev ksec)
    | with_reducible apply (keep_emit C kR.out) | with_reducible apply (keep_modHost C kR.host) | split | dsimp only

omit C in
theorem keep_onlyIf {p : Bool} {t s : State} (ht : P t) (hs : P s) : P (onlyIf p t s) := by
  unfold onlyIf
  split
  · exact ht
  · exact hs

omit C in
theorem keep_answer (hp : ∀ (s : State) x, P s → P { s with pending := x }) {i : Instr} {s t u : State} (h0 : P s) (h : P t) (e : answer i s t = .next u) : P u := by
  unfold answer at e
  split at e
  · injection e with e
    subst e
    split
    · exact hp _ _ h
    · exact hp _ _ h0
  · cases e

theorem keep_execNop (hp : ∀ (s : State) x, P s → P { s with pending := x }) (kR : RaiseSet w) (know : w .now) (kfab : w .fab) (kenergy : w .energy) {x1 x2 x3 x4 s t} (h : P s)
    (e : execNop x1 x2 x3 x4 s = .next t) : P t := by
  refine keep_answer hp h ?_ e
  repeat'
    first
    | with_reducible assumption | with_reducible apply (keep_issue C kR kfab kenergy)
    | with_reducible apply (C.elapse know) | dsimp only

theorem keep_execFend (hp : ∀ (s : State) x, P s → P { s with pending := x }) (kR : RaiseSet w) (know : w .now) (kfab : w .fab) (kenergy : w .energy) {x1 x2 x3 x4 s t} (h : P s)
    (e : execFend x1 x2 x3 x4 s = .next t) : P t := by
  refine keep_answer hp h ?_ e
  repeat'
    first
    | with_reducible assumption | with_reducible apply (keep_issue C kR kfab kenergy)
    | with_reducible apply (C.elapse know) | dsimp only

theorem keep_execJump (hp : ∀ (s : State) x, P s → P { s with pending := x }) (kR : RaiseSet w) (know : w .now) (kfab : w .fab) (kenergy : w .energy) {x1 x2 x3 x4 s t} (h : P s)
    (e : execJump x1 x2 x3 x4 s = .next t) : P t := by
  refine keep_answer hp h ?_ e
  repeat'
    first
    | with_reducible assumption | with_reducible apply (keep_issue C kR kfab kenergy)
    | with_reducible apply (C.elapse know) | dsimp only

theorem keep_execLoop (hp : ∀ (s : State) x, P s → P { s with pending := x }) (kR : RaiseSet w) (know : w .now) (kfab : w .fab) (kenergy : w .energy) {x1 x2 x3 x4 s t} (h : P s)
    (e : execLoop x1 x2 x3 x4 s = .next t) : P t := by
  refine keep_answer hp h ?_ e
  repeat'
    first
    | with_reducible assumption | with_reducible apply (keep_issue C kR kfab kenergy)
    | with_reducible apply (C.elapse know) | dsimp only

theorem keep_execMask (hp : ∀ (s : State) x, P s → P { s with pending := x }) (kR : RaiseSet w) (know : w .now) (kfab : w .fab) (kenergy : w .energy) {x1 x2 x3 x4 s t} (h : P s)
    (e : execMask x1 x2 x3 x4 s = .next t) : P t := by
  refine keep_answer hp h ?_ e
  repeat'
    first
    | with_reducible assumption | with_reducible apply (keep_issue C kR kfab kenergy)
    | with_reducible apply (C.elapse know) | dsimp only

theorem keep_execCtok (hp : ∀ (s : State) x, P s → P { s with pending := x }) (kR : RaiseSet w) (know : w .now) (kfab : w .fab) (kenergy : w .energy) {x1 x2 x3 x4 s t} (h : P s)
    (e : execCtok x1 x2 x3 x4 s = .next t) : P t := by
  refine keep_answer hp h ?_ e
  repeat'
    first
    | with_reducible assumption | with_reducible apply (keep_issue C kR kfab kenergy)
    | with_reducible apply (C.elapse know) | dsimp only

theorem keep_execLi (hp : ∀ (s : State) x, P s → P { s with pending := x }) (kR : RaiseSet w) (know : w .now) (kfab : w .fab) (kenergy : w .energy) {x1 x2 x3 x4 s t} (h : P s)
    (e : execLi x1 x2 x3 x4 s = .next t) : P t := by
  refine keep_answer hp h ?_ e
  repeat'
    first
    | with_reducible assumption | with_reducible apply (keep_issue C kR kfab kenergy)
    | with_reducible apply (C.elapse know) | dsimp only

theorem keep_execAddi (hp : ∀ (s : State) x, P s → P { s with pending := x }) (kR : RaiseSet w) (know : w .now) (kfab : w .fab) (kenergy : w .energy) {x1 x2 x3 x4 s t} (h : P s)
    (e : execAddi x1 x2 x3 x4 s = .next t) : P t := by
  refine keep_answer hp h ?_ e
  repeat'
    first
    | with_reducible assumption | with_reducible apply (keep_issue C kR kfab kenergy)
    | with_reducible apply (C.elapse know) | dsimp only

theorem keep_execTdb (hp : ∀ (s : State) x, P s → P { s with pending := x }) (kR : RaiseSet w) (know : w .now) (kfab : w .fab) (kenergy : w .energy) {x1 x2 x3 x4 s t} (h : P s)
    (e : execTdb x1 x2 x3 x4 s = .next t) : P t := by
  refine keep_answer hp h ?_ e
  repeat'
    first
    | with_reducible assumption | with_reducible apply (keep_issue C kR kfab kenergy)
    | with_reducible apply (C.elapse know) | dsimp only

theorem keep_execTagSet (hp : ∀ (s : State) x, P s → P { s with pending := x }) (kR : RaiseSet w) (know : w .now) (kfab : w .fab) (kenergy : w .energy) {x1 x2 x3 x4 s t} (h : P s)
    (e : execTagSet x1 x2 x3 x4 s = .next t) : P t := by
  refine keep_answer hp h ?_ e
  repeat'
    first
    | with_reducible assumption | with_reducible apply (keep_issue C kR kfab kenergy)
    | with_reducible apply (C.elapse know) | dsimp only

theorem keep_execTagClr (hp : ∀ (s : State) x, P s → P { s with pending := x }) (kR : RaiseSet w) (know : w .now) (kfab : w .fab) (kenergy : w .energy) {x1 x2 x3 x4 s t} (h : P s)
    (e : execTagClr x1 x2 x3 x4 s = .next t) : P t := by
  refine keep_answer hp h ?_ e
  repeat'
    first
    | with_reducible assumption | with_reducible apply (keep_issue C kR kfab kenergy)
    | with_reducible apply (C.elapse know) | dsimp only

theorem keep_execVread (hp : ∀ (s : State) x, P s → P { s with pending := x }) (kR : RaiseSet w) (know : w .now) (kfab : w .fab) (kenergy : w .energy) {x1 x2 x3 x4 s t} (h : P s)
    (e : execVread x1 x2 x3 x4 s = .next t) : P t := by
  refine keep_answer hp h ?_ e
  repeat'
    first
    | with_reducible assumption | with_reducible apply (keep_issue C kR kfab kenergy)
    | with_reducible apply (C.elapse know) | dsimp only

theorem keep_execVdone (hp : ∀ (s : State) x, P s → P { s with pending := x }) (kR : RaiseSet w) (know : w .now) (kfab : w .fab) (kenergy : w .energy) {x1 x2 x3 x4 s t} (h : P s)
    (e : execVdone x1 x2 x3 x4 s = .next t) : P t := by
  refine keep_answer hp h ?_ e
  repeat'
    first
    | with_reducible assumption | with_reducible apply (keep_issue C kR kfab kenergy)
    | with_reducible apply (C.elapse know) | dsimp only

theorem keep_execVpub (hp : ∀ (s : State) x, P s → P { s with pending := x }) (kR : RaiseSet w) (know : w .now) (kfab : w .fab) (kenergy : w .energy) {x1 x2 x3 x4 s t} (h : P s)
    (e : execVpub x1 x2 x3 x4 s = .next t) : P t := by
  refine keep_answer hp h ?_ e
  repeat'
    first
    | with_reducible assumption | with_reducible apply (keep_issue C kR kfab kenergy)
    | with_reducible apply (C.elapse know) | dsimp only

theorem keep_execNotReady (hp : ∀ (s : State) x, P s → P { s with pending := x }) (kR : RaiseSet w) (know : w .now) {x1 x2 s t} (h : P s)
    (e : execNotReady x1 x2 s = .next t) : P t := by
  refine keep_answer hp h ?_ e
  repeat'
    first
    | with_reducible assumption | with_reducible apply (keep_notReady C kR know) | dsimp only

theorem keep_execMma (hp : ∀ (s : State) x, P s → P { s with pending := x }) (kR : RaiseSet w) (know : w .now) (kfab : w .fab) (kenergy : w .energy) {x1 x2 x3 x4 s t} (h : P s)
    (e : execMma x1 x2 x3 x4 s = .next t) : P t := by
  refine keep_answer hp h ?_ e
  repeat'
    first
    | with_reducible assumption | with_reducible apply (keep_issue C kR kfab kenergy)
    | with_reducible apply (C.elapse know) | dsimp only

theorem keep_execMmaBegin (hp : ∀ (s : State) x, P s → P { s with pending := x }) (kR : RaiseSet w) (know : w .now) (ksram : w .sram) {x1 x2 x3 s t} (h : P s)
    (e : execMmaBegin x1 x2 x3 s = .next t) : P t := by
  refine keep_answer hp h ?_ e
  repeat'
    first
    | with_reducible assumption | with_reducible apply (keep_mmaBegin C kR ksram)
    | with_reducible apply (C.elapse know) | dsimp only

theorem keep_execMmaComplete (hp : ∀ (s : State) x, P s → P { s with pending := x }) (kR : RaiseSet w) (know : w .now) (ksram : w .sram) (klive : w .live) (kenergy : w .energy) {x1 x2 s t} (h : P s)
    (e : execMmaComplete x1 x2 s = .next t) : P t := by
  refine keep_answer hp h ?_ e
  repeat'
    first
    | with_reducible assumption | with_reducible apply (keep_mmaComplete C kR know ksram klive kenergy) | dsimp only

theorem keep_execCoalescerTake (hp : ∀ (s : State) x, P s → P { s with pending := x }) (know : w .now) (kfree : w .free) (kregs : w .regs) (kfaults : w .faults) {s t} (h : P s)
    (e : execCoalescerTake s = .next t) : P t := by
  refine keep_answer hp h ?_ e
  repeat'
    first
    | with_reducible assumption | with_reducible apply (keep_coalescerTake C know kfree kregs kfaults) | dsimp only

theorem keep_execFatalEventLog (hp : ∀ (s : State) x, P s → P { s with pending := x }) (know : w .now) (kregs : w .regs) (kfaults : w .faults) (kdev : w .dev) {s t} (h : P s)
    (e : execFatalEventLog s = .next t) : P t := by
  refine keep_answer hp h ?_ e
  repeat'
    first
    | with_reducible assumption | with_reducible apply (keep_fatalEventLog C know kregs kfaults kdev) | dsimp only

theorem keep_execIntAck (hp : ∀ (s : State) x, P s → P { s with pending := x }) (kfaults : w .faults) {x1 s t} (h : P s)
    (e : execIntAck x1 s = .next t) : P t := by
  refine keep_answer hp h ?_ e
  repeat'
    first
    | with_reducible assumption | with_reducible apply (keep_intAck C kfaults) | dsimp only

theorem keep_execFltClear (hp : ∀ (s : State) x, P s → P { s with pending := x }) (kfaults : w .faults) {x1 s t} (h : P s)
    (e : execFltClear x1 s = .next t) : P t := by
  refine keep_answer hp h ?_ e
  repeat'
    first
    | with_reducible assumption | with_reducible apply (keep_fltClear C kfaults) | dsimp only

theorem keep_execStormClear (hp : ∀ (s : State) x, P s → P { s with pending := x }) (kfaults : w .faults) {x1 s t} (h : P s)
    (e : execStormClear x1 s = .next t) : P t := by
  refine keep_answer hp h ?_ e
  repeat'
    first
    | with_reducible assumption | with_reducible apply (keep_stormClear C kfaults) | dsimp only

theorem keep_execSend (hp : ∀ (s : State) x, P s → P { s with pending := x }) (kR : RaiseSet w) (know : w .now) (kfab : w .fab) (kenergy : w .energy) {x1 x2 x3 x4 s t} (h : P s)
    (e : execSend x1 x2 x3 x4 s = .next t) : P t := by
  refine keep_answer hp h ?_ e
  repeat'
    first
    | with_reducible assumption | with_reducible apply (keep_issue C kR kfab kenergy)
    | with_reducible apply (C.elapse know) | dsimp only

theorem keep_execRecv (hp : ∀ (s : State) x, P s → P { s with pending := x }) (kR : RaiseSet w) (know : w .now) (kfab : w .fab) (kenergy : w .energy) {x1 x2 x3 x4 s t} (h : P s)
    (e : execRecv x1 x2 x3 x4 s = .next t) : P t := by
  refine keep_answer hp h ?_ e
  repeat'
    first
    | with_reducible assumption | with_reducible apply (keep_issue C kR kfab kenergy)
    | with_reducible apply (C.elapse know) | dsimp only

theorem keep_execHrd (hp : ∀ (s : State) x, P s → P { s with pending := x }) (kR : RaiseSet w) (know : w .now) (kfab : w .fab) (kenergy : w .energy) {x1 x2 x3 x4 s t} (h : P s)
    (e : execHrd x1 x2 x3 x4 s = .next t) : P t := by
  refine keep_answer hp h ?_ e
  repeat'
    first
    | with_reducible assumption | with_reducible apply (keep_issue C kR kfab kenergy)
    | with_reducible apply (C.elapse know) | dsimp only

theorem keep_execHwr (hp : ∀ (s : State) x, P s → P { s with pending := x }) (kR : RaiseSet w) (know : w .now) (kfab : w .fab) (kenergy : w .energy) {x1 x2 x3 x4 s t} (h : P s)
    (e : execHwr x1 x2 x3 x4 s = .next t) : P t := by
  refine keep_answer hp h ?_ e
  repeat'
    first
    | with_reducible assumption | with_reducible apply (keep_issue C kR kfab kenergy)
    | with_reducible apply (C.elapse know) | dsimp only

theorem keep_execSsend (hp : ∀ (s : State) x, P s → P { s with pending := x }) (kR : RaiseSet w) (know : w .now) (kfab : w .fab) (kenergy : w .energy) {x1 x2 x3 x4 s t} (h : P s)
    (e : execSsend x1 x2 x3 x4 s = .next t) : P t := by
  refine keep_answer hp h ?_ e
  repeat'
    first
    | with_reducible assumption | with_reducible apply (keep_issue C kR kfab kenergy)
    | with_reducible apply (C.elapse know) | dsimp only

theorem keep_execSrecv (hp : ∀ (s : State) x, P s → P { s with pending := x }) (kR : RaiseSet w) (know : w .now) (kfab : w .fab) (kenergy : w .energy) {x1 x2 x3 x4 s t} (h : P s)
    (e : execSrecv x1 x2 x3 x4 s = .next t) : P t := by
  refine keep_answer hp h ?_ e
  repeat'
    first
    | with_reducible assumption | with_reducible apply (keep_issue C kR kfab kenergy)
    | with_reducible apply (C.elapse know) | dsimp only

theorem keep_execMovBegin (hp : ∀ (s : State) x, P s → P { s with pending := x }) (know : w .now) (kcores : w .cores) (kfab : w .fab) {x1 x2 x3 s t} (h : P s)
    (e : execMovBegin x1 x2 x3 s = .next t) : P t := by
  refine keep_answer hp h ?_ e
  repeat'
    first
    | with_reducible assumption | with_reducible apply (keep_movBegin C kcores kfab)
    | with_reducible apply (C.elapse know) | dsimp only

theorem keep_execSendComplete (hp : ∀ (s : State) x, P s → P { s with pending := x }) (kR : RaiseSet w) (know : w .now) (kfab : w .fab) (kenergy : w .energy) {x1 x2 x3 x4 x5 s t} (h : P s)
    (e : execSendComplete x1 x2 x3 x4 x5 s = .next t) : P t := by
  refine keep_answer hp h ?_ e
  repeat'
    first
    | with_reducible assumption | with_reducible apply (keep_sendComplete C kR kfab kenergy)
    | with_reducible apply (C.elapse know) | dsimp only

theorem keep_execRecvComplete (hp : ∀ (s : State) x, P s → P { s with pending := x }) (kR : RaiseSet w) (know : w .now) {x1 x2 x3 x4 s t} (h : P s)
    (e : execRecvComplete x1 x2 x3 x4 s = .next t) : P t := by
  refine keep_answer hp h ?_ e
  repeat'
    first
    | with_reducible assumption | with_reducible apply (keep_recvComplete C kR)
    | with_reducible apply (C.elapse know) | dsimp only

theorem keep_execHrdComplete (hp : ∀ (s : State) x, P s → P { s with pending := x }) (kR : RaiseSet w) (know : w .now) (ksram : w .sram) (kenergy : w .energy) {x1 x2 x3 s t} (h : P s)
    (e : execHrdComplete x1 x2 x3 s = .next t) : P t := by
  refine keep_answer hp h ?_ e
  repeat'
    first
    | with_reducible assumption | with_reducible apply (keep_hrdComplete C kR know ksram kenergy) | dsimp only

theorem keep_execHwrComplete (hp : ∀ (s : State) x, P s → P { s with pending := x }) (kR : RaiseSet w) (know : w .now) (kenergy : w .energy) {x1 x2 x3 s t} (h : P s)
    (e : execHwrComplete x1 x2 x3 s = .next t) : P t := by
  refine keep_answer hp h ?_ e
  repeat'
    first
    | with_reducible assumption | with_reducible apply (keep_hwrComplete C kR know kenergy) | dsimp only

theorem keep_execFlitLand (hp : ∀ (s : State) x, P s → P { s with pending := x }) (kR : RaiseSet w) (know : w .now) (ksram : w .sram) (kenergy : w .energy) {x1 x2 x3 s t} (h : P s)
    (e : execFlitLand x1 x2 x3 s = .next t) : P t := by
  refine keep_answer hp h ?_ e
  repeat'
    first
    | with_reducible assumption | with_reducible apply (keep_flitLand C kR ksram kenergy)
    | with_reducible apply (C.elapse know) | dsimp only

theorem keep_execMoveIssue (hp : ∀ (s : State) x, P s → P { s with pending := x }) (kR : RaiseSet w) {x1 x2 s t} (h : P s)
    (e : execMoveIssue x1 x2 s = .next t) : P t := by
  refine keep_answer hp h ?_ e
  repeat'
    first
    | with_reducible assumption | with_reducible apply (keep_moveIssue C kR) | dsimp only

theorem keep_execMoveLineLand (hp : ∀ (s : State) x, P s → P { s with pending := x }) (kR : RaiseSet w) (know : w .now) (kenergy : w .energy) {x1 x2 x3 x4 x5 s t} (h : P s)
    (e : execMoveLineLand x1 x2 x3 x4 x5 s = .next t) : P t := by
  refine keep_answer hp h ?_ e
  repeat'
    first
    | with_reducible assumption | with_reducible apply (keep_moveLine C kR kenergy)
    | with_reducible apply (C.elapse know) | dsimp only

theorem keep_execMoveComplete (hp : ∀ (s : State) x, P s → P { s with pending := x }) (kR : RaiseSet w) (know : w .now) (kenergy : w .energy) (krng : w .rng) {x1 x2 x3 s t} (h : P s)
    (e : execMoveComplete x1 x2 x3 s = .next t) : P t := by
  refine keep_answer hp h ?_ e
  repeat'
    first
    | with_reducible assumption | with_reducible apply (keep_moveComplete C kR kenergy krng)
    | with_reducible apply (C.elapse know) | dsimp only

theorem keep_execDeadlineMiss (hp : ∀ (s : State) x, P s → P { s with pending := x }) (kR : RaiseSet w) {x1 x2 s t} (h : P s)
    (e : execDeadlineMiss x1 x2 s = .next t) : P t := by
  refine keep_answer hp h ?_ e
  repeat'
    first
    | with_reducible assumption | with_reducible apply (keep_deadlineMiss C kR) | dsimp only

theorem keep_execManualMove (hp : ∀ (s : State) x, P s → P { s with pending := x }) (kR : RaiseSet w) {x1 x2 x3 s t} (h : P s)
    (e : execManualMove x1 x2 x3 s = .next t) : P t := by
  refine keep_answer hp h ?_ e
  repeat'
    first
    | with_reducible assumption | with_reducible apply (keep_manualMove C kR) | dsimp only

theorem keep_execManualMoveComplete (hp : ∀ (s : State) x, P s → P { s with pending := x }) (kR : RaiseSet w) (know : w .now) (kenergy : w .energy) (krng : w .rng) {x1 x2 s t} (h : P s)
    (e : execManualMoveComplete x1 x2 s = .next t) : P t := by
  refine keep_answer hp h ?_ e
  repeat'
    first
    | with_reducible assumption | with_reducible apply (keep_completeMove C kR kenergy krng)
    | with_reducible apply (C.elapse know) | dsimp only

theorem keep_execWindowWrite (hp : ∀ (s : State) x, P s → P { s with pending := x }) (kR : RaiseSet w) {x1 x2 x3 x4 s t} (h : P s)
    (e : execWindowWrite x1 x2 x3 x4 s = .next t) : P t := by
  refine keep_answer hp h ?_ e
  repeat'
    first
    | with_reducible assumption | with_reducible apply (keep_windowWrite C kR) | dsimp only

theorem keep_execMoveEngineReset (hp : ∀ (s : State) x, P s → P { s with pending := x }) (kregs : w .regs) (khub : w .hub) (khbm : w .hbm) (kfaults : w .faults) (kmem : w .mem) (kcairn : w .cairn) {x1 x2 s t} (h : P s)
    (e : execMoveEngineReset x1 x2 s = .next t) : P t := by
  refine keep_answer hp h ?_ e
  repeat'
    first
    | with_reducible assumption | with_reducible apply (keep_engineReset C kregs khub khbm kfaults kmem kcairn)
    | dsimp only

theorem keep_execScrubLine (hp : ∀ (s : State) x, P s → P { s with pending := x }) (kR : RaiseSet w) (know : w .now) {x1 x2 x3 x4 s t} (h : P s)
    (e : execScrubLine x1 x2 x3 x4 s = .next t) : P t := by
  refine keep_answer hp h ?_ e
  repeat'
    first
    | with_reducible assumption | with_reducible apply (keep_scrubLine C kR) | with_reducible apply (C.elapse know)
    | dsimp only

theorem keep_execKeyLoad (hp : ∀ (s : State) x, P s → P { s with pending := x }) (kR : RaiseSet w) {x1 x2 s t} (h : P s)
    (e : execKeyLoad x1 x2 s = .next t) : P t := by
  refine keep_answer hp h ?_ e
  repeat'
    first
    | with_reducible assumption | with_reducible apply (keep_keyLoad C kR) | dsimp only

theorem keep_execKeySwitch (hp : ∀ (s : State) x, P s → P { s with pending := x }) (kR : RaiseSet w) {x1 x2 s t} (h : P s)
    (e : execKeySwitch x1 x2 s = .next t) : P t := by
  refine keep_answer hp h ?_ e
  repeat'
    first
    | with_reducible assumption | with_reducible apply (keep_keySwitch C kR) | dsimp only

theorem keep_execKeySweep (hp : ∀ (s : State) x, P s → P { s with pending := x }) (kR : RaiseSet w) {x1 x2 s t} (h : P s)
    (e : execKeySweep x1 x2 s = .next t) : P t := by
  refine keep_answer hp h ?_ e
  repeat'
    first
    | with_reducible assumption | with_reducible apply (keep_keySweep C kR) | dsimp only

theorem keep_execKeyClear (hp : ∀ (s : State) x, P s → P { s with pending := x }) (kR : RaiseSet w) {x1 x2 s t} (h : P s)
    (e : execKeyClear x1 x2 s = .next t) : P t := by
  refine keep_answer hp h ?_ e
  repeat'
    first
    | with_reducible assumption | with_reducible apply (keep_keyClear C kR) | dsimp only

theorem keep_execSweepLine (hp : ∀ (s : State) x, P s → P { s with pending := x }) (kR : RaiseSet w) (know : w .now) {x1 x2 x3 x4 x5 s t} (h : P s)
    (e : execSweepLine x1 x2 x3 x4 x5 s = .next t) : P t := by
  refine keep_answer hp h ?_ e
  repeat'
    first
    | with_reducible assumption | with_reducible apply (keep_sweepLine C kR) | with_reducible apply (C.elapse know)
    | dsimp only

theorem keep_execSweepFinish (hp : ∀ (s : State) x, P s → P { s with pending := x }) (know : w .now) (kmem : w .mem) {x1 x2 s t} (h : P s)
    (e : execSweepFinish x1 x2 s = .next t) : P t := by
  refine keep_answer hp h ?_ e
  repeat'
    first
    | with_reducible assumption | with_reducible apply (keep_sweepFinish C kmem)
    | with_reducible apply (C.elapse know) | dsimp only

theorem keep_execKeyErase (hp : ∀ (s : State) x, P s → P { s with pending := x }) (know : w .now) (kregs : w .regs) (kmem : w .mem) {x1 x2 s t} (h : P s)
    (e : execKeyErase x1 x2 s = .next t) : P t := by
  refine keep_answer hp h ?_ e
  repeat'
    first
    | with_reducible assumption | with_reducible apply (keep_keyErase C kregs kmem)
    | with_reducible apply (C.elapse know) | dsimp only

theorem keep_execFlitForward (hp : ∀ (s : State) x, P s → P { s with pending := x }) (kR : RaiseSet w) (know : w .now) (kfab : w .fab) (kenergy : w .energy) (kdev : w .dev) {x1 x2 x3 x4 s t} (h : P s)
    (e : execFlitForward x1 x2 x3 x4 s = .next t) : P t := by
  refine keep_answer hp h ?_ e
  repeat'
    first
    | with_reducible assumption | with_reducible apply (keep_flitForward C kR kfab kenergy kdev)
    | with_reducible apply (C.elapse know) | dsimp only

theorem keep_execFlitArrive (hp : ∀ (s : State) x, P s → P { s with pending := x }) (kR : RaiseSet w) (know : w .now) (kfab : w .fab) (kenergy : w .energy) (kdev : w .dev) {x1 x2 x3 x4 x5 s t} (h : P s)
    (e : execFlitArrive x1 x2 x3 x4 x5 s = .next t) : P t := by
  refine keep_answer hp h ?_ e
  repeat'
    first
    | with_reducible assumption | with_reducible apply (keep_flitArrive C kR know kfab kenergy kdev)
    | with_reducible apply (C.elapse know) | dsimp only

theorem keep_execCreditReturn (hp : ∀ (s : State) x, P s → P { s with pending := x }) (know : w .now) (kcores : w .cores) (kfab : w .fab) {x1 x2 x3 x4 s t} (h : P s)
    (e : execCreditReturn x1 x2 x3 x4 s = .next t) : P t := by
  refine keep_answer hp h ?_ e
  repeat'
    first
    | with_reducible assumption | with_reducible apply (keep_creditReturn C kcores kfab)
    | with_reducible apply (C.elapse know) | dsimp only

theorem keep_execTokenArrive (hp : ∀ (s : State) x, P s → P { s with pending := x }) (kR : RaiseSet w) (know : w .now) (kfab : w .fab) {x1 x2 x3 s t} (h : P s)
    (e : execTokenArrive x1 x2 x3 s = .next t) : P t := by
  refine keep_answer hp h ?_ e
  repeat'
    first
    | with_reducible assumption | with_reducible apply (keep_tokenArrive C kR kfab)
    | with_reducible apply (C.elapse know) | dsimp only

theorem keep_execSealArrive (hp : ∀ (s : State) x, P s → P { s with pending := x }) (kR : RaiseSet w) (know : w .now) {x1 x2 x3 x4 s t} (h : P s)
    (e : execSealArrive x1 x2 x3 x4 s = .next t) : P t := by
  refine keep_answer hp h ?_ e
  repeat'
    first
    | with_reducible assumption | with_reducible apply (keep_sealArrive C kR) | with_reducible apply (C.elapse know)
    | dsimp only

theorem keep_execSpillModeRequest (hp : ∀ (s : State) x, P s → P { s with pending := x }) (kR : RaiseSet w) (ksram : w .sram) (kfab : w .fab) {x1 x2 s t} (h : P s)
    (e : execSpillModeRequest x1 x2 s = .next t) : P t := by
  refine keep_answer hp h ?_ e
  repeat'
    first
    | with_reducible assumption | with_reducible apply (keep_spillRequest C kR ksram kfab) | split | dsimp only

theorem keep_execSpillModeExit (hp : ∀ (s : State) x, P s → P { s with pending := x }) (kregs : w .regs) (kcores : w .cores) {x1 x2 s t} (h : P s)
    (e : execSpillModeExit x1 x2 s = .next t) : P t := by
  refine keep_answer hp h ?_ e
  repeat'
    first
    | with_reducible assumption | with_reducible apply (keep_spillLeave C kregs kcores) | split | dsimp only

theorem keep_execDeadlockDetect (hp : ∀ (s : State) x, P s → P { s with pending := x }) (kR : RaiseSet w) (know : w .now) (ksram : w .sram) (kfab : w .fab) (kdev : w .dev) {x1 s t} (h : P s)
    (e : execDeadlockDetect x1 s = .next t) : P t := by
  refine keep_answer hp h ?_ e
  repeat'
    first
    | with_reducible assumption | with_reducible apply (keep_deadlockDetect C kR know ksram kfab kdev) | dsimp only

theorem keep_execSpillAreaClear (hp : ∀ (s : State) x, P s → P { s with pending := x }) (kregs : w .regs) {x1 x2 s t} (h : P s)
    (e : execSpillAreaClear x1 x2 s = .next t) : P t := by
  refine keep_answer hp h ?_ e
  repeat'
    first
    | with_reducible assumption | with_reducible apply (keep_areaClear C kregs) | split | dsimp only

theorem keep_execEthLinkChange (hp : ∀ (s : State) x, P s → P { s with pending := x }) (kR : RaiseSet w) (know : w .now) {x1 x2 x3 s t} (h : P s)
    (e : execEthLinkChange x1 x2 x3 s = .next t) : P t := by
  refine keep_answer hp h ?_ e
  repeat'
    first
    | with_reducible assumption | with_reducible apply (keep_linkChange C kR) | with_reducible apply (C.elapse know)
    | dsimp only

theorem keep_execEventLand (hp : ∀ (s : State) x, P s → P { s with pending := x }) (kR : RaiseSet w) (know : w .now) (ksram : w .sram) (kenergy : w .energy) {x1 s t} (h : P s)
    (e : execEventLand x1 s = .next t) : P t := by
  refine keep_answer hp h ?_ e
  repeat'
    first
    | with_reducible assumption | with_reducible apply (keep_eventLand C kR ksram kenergy)
    | with_reducible apply (C.elapse know) | dsimp only

theorem keep_execGatherBoundary (hp : ∀ (s : State) x, P s → P { s with pending := x }) (kR : RaiseSet w) (know : w .now) {s t} (h : P s)
    (e : execGatherBoundary s = .next t) : P t := by
  refine keep_answer hp h ?_ e
  repeat'
    first
    | with_reducible assumption | with_reducible apply (keep_gatherBoundary C kR know) | dsimp only

theorem keep_execStepHeaderLand (hp : ∀ (s : State) x, P s → P { s with pending := x }) (kR : RaiseSet w) (know : w .now) (ksram : w .sram) (kenergy : w .energy) {x1 s t} (h : P s)
    (e : execStepHeaderLand x1 s = .next t) : P t := by
  refine keep_answer hp h ?_ e
  repeat'
    first
    | with_reducible assumption | with_reducible apply (keep_stepHeaderLand C kR ksram kenergy)
    | with_reducible apply (C.elapse know) | dsimp only

theorem keep_execInsert (hp : ∀ (s : State) x, P s → P { s with pending := x }) (kR : RaiseSet w) {x1 s t} (h : P s)
    (e : execInsert x1 s = .next t) : P t := by
  refine keep_answer hp h ?_ e
  repeat'
    first
    | with_reducible assumption | with_reducible apply (keep_inCmd C kR) | dsimp only

theorem keep_execModify (hp : ∀ (s : State) x, P s → P { s with pending := x }) (kR : RaiseSet w) {x1 s t} (h : P s)
    (e : execModify x1 s = .next t) : P t := by
  refine keep_answer hp h ?_ e
  repeat'
    first
    | with_reducible assumption | with_reducible apply (keep_inCmd C kR) | split | dsimp only

theorem keep_execDelete (hp : ∀ (s : State) x, P s → P { s with pending := x }) (kR : RaiseSet w) {x1 s t} (h : P s)
    (e : execDelete x1 s = .next t) : P t := by
  refine keep_answer hp h ?_ e
  repeat'
    first
    | with_reducible assumption | with_reducible apply (keep_inCmd C kR) | dsimp only

theorem keep_execLookup (hp : ∀ (s : State) x, P s → P { s with pending := x }) (kR : RaiseSet w) {x1 s t} (h : P s)
    (e : execLookup x1 s = .next t) : P t := by
  refine keep_answer hp h ?_ e
  repeat'
    first
    | with_reducible assumption | with_reducible apply (keep_inCmd C kR) | dsimp only

theorem keep_execInRead (hp : ∀ (s : State) x, P s → P { s with pending := x }) (kR : RaiseSet w) {x1 s t} (h : P s)
    (e : execInRead x1 s = .next t) : P t := by
  refine keep_answer hp h ?_ e
  repeat'
    first
    | with_reducible assumption | with_reducible apply (keep_inCmd C kR) | dsimp only

theorem keep_execInWrite (hp : ∀ (s : State) x, P s → P { s with pending := x }) (kR : RaiseSet w) {x1 s t} (h : P s)
    (e : execInWrite x1 s = .next t) : P t := by
  refine keep_answer hp h ?_ e
  repeat'
    first
    | with_reducible assumption | with_reducible apply (keep_inCmd C kR) | dsimp only

theorem keep_execJoin (hp : ∀ (s : State) x, P s → P { s with pending := x }) (kR : RaiseSet w) {x1 s t} (h : P s)
    (e : execJoin x1 s = .next t) : P t := by
  refine keep_answer hp h ?_ e
  repeat'
    first
    | with_reducible assumption | with_reducible apply (keep_srvChecked C kR) | dsimp only

theorem keep_execLeave (hp : ∀ (s : State) x, P s → P { s with pending := x }) (kR : RaiseSet w) {x1 s t} (h : P s)
    (e : execLeave x1 s = .next t) : P t := by
  refine keep_answer hp h ?_ e
  repeat'
    first
    | with_reducible assumption | with_reducible apply (keep_srvChecked C kR) | dsimp only

theorem keep_execSrvModelWrite (hp : ∀ (s : State) x, P s → P { s with pending := x }) (kserve : w .serve) {x1 x2 s t} (h : P s)
    (e : execSrvModelWrite x1 x2 s = .next t) : P t := by
  refine keep_answer hp h ?_ e
  repeat'
    first
    | with_reducible assumption | with_reducible apply (keep_srvModelWrite C kserve) | dsimp only

theorem keep_execSrvGatherWrite (hp : ∀ (s : State) x, P s → P { s with pending := x }) (kR : RaiseSet w) {x1 x2 s t} (h : P s)
    (e : execSrvGatherWrite x1 x2 s = .next t) : P t := by
  refine keep_answer hp h ?_ e
  repeat'
    first
    | with_reducible assumption | with_reducible apply (keep_srvGatherWrite C kR) | dsimp only

theorem keep_execFeedGeomWrite (hp : ∀ (s : State) x, P s → P { s with pending := x }) (kR : RaiseSet w) {x1 x2 x3 s t} (h : P s)
    (e : execFeedGeomWrite x1 x2 x3 s = .next t) : P t := by
  refine keep_answer hp h ?_ e
  repeat'
    first
    | with_reducible assumption | with_reducible apply (keep_feedGeomWrite C kR) | dsimp only

theorem keep_execSrvCurWrite (hp : ∀ (s : State) x, P s → P { s with pending := x }) (kR : RaiseSet w) {x1 x2 s t} (h : P s)
    (e : execSrvCurWrite x1 x2 s = .next t) : P t := by
  refine keep_answer hp h ?_ e
  repeat'
    first
    | with_reducible assumption | with_reducible apply (keep_srvCurWrite C kR) | dsimp only

theorem keep_execSrvPairWrite (hp : ∀ (s : State) x, P s → P { s with pending := x }) (kR : RaiseSet w) {x1 x2 s t} (h : P s)
    (e : execSrvPairWrite x1 x2 s = .next t) : P t := by
  refine keep_answer hp h ?_ e
  repeat'
    first
    | with_reducible assumption | with_reducible apply (keep_srvPairWrite C kR) | dsimp only

theorem keep_execResultLine (hp : ∀ (s : State) x, P s → P { s with pending := x }) (kR : RaiseSet w) (know : w .now) (kfab : w .fab) (kenergy : w .energy) {x1 x2 x3 x4 x5 s t} (h : P s)
    (e : execResultLine x1 x2 x3 x4 x5 s = .next t) : P t := by
  refine keep_answer hp h ?_ e
  repeat'
    first
    | with_reducible assumption | with_reducible apply (keep_resultLine C kR kfab kenergy)
    | with_reducible apply (C.elapse know) | dsimp only

theorem keep_execDecisionFrameTransmit (hp : ∀ (s : State) x, P s → P { s with pending := x }) (kR : RaiseSet w) (know : w .now) {x1 x2 s t} (h : P s)
    (e : execDecisionFrameTransmit x1 x2 s = .next t) : P t := by
  refine keep_answer hp h ?_ e
  repeat'
    first
    | with_reducible assumption | with_reducible apply (keep_frameTransmit C kR)
    | with_reducible apply (C.elapse know) | dsimp only

theorem keep_execEgDataWrite (hp : ∀ (s : State) x, P s → P { s with pending := x }) (kregs : w .regs) (kserve : w .serve) {x1 x2 s t} (h : P s)
    (e : execEgDataWrite x1 x2 s = .next t) : P t := by
  refine keep_answer hp h ?_ e
  repeat'
    first
    | with_reducible assumption | with_reducible apply (keep_egWrite C kregs kserve) | dsimp only

theorem keep_execTodSet (hp : ∀ (s : State) x, P s → P { s with pending := x }) (kserve : w .serve) {x1 x2 s t} (h : P s)
    (e : execTodSet x1 x2 s = .next t) : P t := by
  refine keep_answer hp h ?_ e
  repeat'
    first
    | with_reducible assumption | with_reducible apply (keep_todCtl C kserve) | dsimp only

theorem keep_execEthFrameReceive (hp : ∀ (s : State) x, P s → P { s with pending := x }) (kR : RaiseSet w) (know : w .now) {x1 x2 x3 x4 s t} (h : P s)
    (e : execEthFrameReceive x1 x2 x3 x4 s = .next t) : P t := by
  refine keep_answer hp h ?_ e
  repeat'
    first
    | with_reducible assumption | with_reducible apply (keep_ethReceive C kR) | with_reducible apply (C.elapse know)
    | dsimp only

theorem keep_execRdmaWrite (hp : ∀ (s : State) x, P s → P { s with pending := x }) (kR : RaiseSet w) (know : w .now) {x1 x2 s t} (h : P s)
    (e : execRdmaWrite x1 x2 s = .next t) : P t := by
  refine keep_answer hp h ?_ e
  repeat'
    first
    | with_reducible assumption | with_reducible apply (keep_roceArrive C kR) | with_reducible apply (C.elapse know)
    | dsimp only

theorem keep_execRdmaWriteAck (hp : ∀ (s : State) x, P s → P { s with pending := x }) (kR : RaiseSet w) (know : w .now) {x1 x2 s t} (h : P s)
    (e : execRdmaWriteAck x1 x2 s = .next t) : P t := by
  refine keep_answer hp h ?_ e
  repeat'
    first
    | with_reducible assumption | with_reducible apply (keep_rdmaAck C kR) | with_reducible apply (C.elapse know)
    | dsimp only

theorem keep_execRdmaReadRequest (hp : ∀ (s : State) x, P s → P { s with pending := x }) (kR : RaiseSet w) (know : w .now) {x1 x2 x3 s t} (h : P s)
    (e : execRdmaReadRequest x1 x2 x3 s = .next t) : P t := by
  refine keep_answer hp h ?_ e
  repeat'
    first
    | with_reducible assumption | with_reducible apply (keep_roceArrive C kR) | with_reducible apply (C.elapse know)
    | dsimp only

theorem keep_execQpReset (hp : ∀ (s : State) x, P s → P { s with pending := x }) (kregs : w .regs) (khost : w .host) {x1 x2 s t} (h : P s)
    (e : execQpReset x1 x2 s = .next t) : P t := by
  refine keep_answer hp h ?_ e
  repeat'
    first
    | with_reducible assumption | with_reducible apply (keep_qpReset C kregs khost) | dsimp only

theorem keep_execEventFrameSend (hp : ∀ (s : State) x, P s → P { s with pending := x }) (kR : RaiseSet w) (know : w .now) {x1 s t} (h : P s)
    (e : execEventFrameSend x1 s = .next t) : P t := by
  refine keep_answer hp h ?_ e
  repeat'
    first
    | with_reducible assumption | with_reducible apply (keep_eventSend C kR) | with_reducible apply (C.elapse know)
    | dsimp only

theorem keep_execEventFrameResend (hp : ∀ (s : State) x, P s → P { s with pending := x }) (kR : RaiseSet w) (know : w .now) {x1 s t} (h : P s)
    (e : execEventFrameResend x1 s = .next t) : P t := by
  refine keep_answer hp h ?_ e
  repeat'
    first
    | with_reducible assumption | with_reducible apply (keep_eventResend C kR)
    | with_reducible apply (C.elapse know) | dsimp only

theorem keep_execPrepare (hp : ∀ (s : State) x, P s → P { s with pending := x }) (kR : RaiseSet w) (kfree : w .free) {x1 s t} (h : P s)
    (e : execPrepare x1 s = .next t) : P t := by
  refine keep_answer hp h ?_ e
  repeat'
    first
    | with_reducible assumption | with_reducible apply (keep_admCmd C kR kfree) | dsimp only

theorem keep_execInstall (hp : ∀ (s : State) x, P s → P { s with pending := x }) (kR : RaiseSet w) (kfree : w .free) {x1 s t} (h : P s)
    (e : execInstall x1 s = .next t) : P t := by
  refine keep_answer hp h ?_ e
  repeat'
    first
    | with_reducible assumption | with_reducible apply (keep_admCmd C kR kfree) | dsimp only

theorem keep_execAdmRevoke (hp : ∀ (s : State) x, P s → P { s with pending := x }) (kR : RaiseSet w) (kfree : w .free) {x1 s t} (h : P s)
    (e : execAdmRevoke x1 s = .next t) : P t := by
  refine keep_answer hp h ?_ e
  repeat'
    first
    | with_reducible assumption | with_reducible apply (keep_admCmd C kR kfree) | dsimp only

theorem keep_execSakInstall (hp : ∀ (s : State) x, P s → P { s with pending := x }) (khost : w .host) {x1 x2 x3 x4 s t} (h : P s)
    (e : execSakInstall x1 x2 x3 x4 s = .next t) : P t := by
  refine keep_answer hp h ?_ e
  repeat'
    first
    | with_reducible assumption | with_reducible apply (keep_sakInstall C khost) | dsimp only

theorem keep_execSourceReset (hp : ∀ (s : State) x, P s → P { s with pending := x }) (khost : w .host) {x1 x2 s t} (h : P s)
    (e : execSourceReset x1 x2 s = .next t) : P t := by
  refine keep_answer hp h ?_ e
  repeat'
    first
    | with_reducible assumption | with_reducible apply (keep_sourceReset C khost) | dsimp only

theorem keep_execMkaSessionLoss (hp : ∀ (s : State) x, P s → P { s with pending := x }) (know : w .now) (khost : w .host) {x1 x2 s t} (h : P s)
    (e : execMkaSessionLoss x1 x2 s = .next t) : P t := by
  refine keep_answer hp h ?_ e
  repeat'
    first
    | with_reducible assumption | with_reducible apply (keep_mkaLoss C khost) | with_reducible apply (C.elapse know)
    | dsimp only

theorem keep_execBudgetEffecter (hp : ∀ (s : State) x, P s → P { s with pending := x }) (kregs : w .regs) {x1 x2 s t} (h : P s)
    (e : execBudgetEffecter x1 x2 s = .next t) : P t := by
  refine keep_answer hp h ?_ e
  repeat'
    first
    | with_reducible assumption | with_reducible apply (keep_setBudget C kregs) | dsimp only

theorem keep_execReduceDescriptor (hp : ∀ (s : State) x, P s → P { s with pending := x }) (kR : RaiseSet w) (know : w .now) (kengines : w .engines) {x1 x2 x3 x4 s t} (h : P s)
    (e : execReduceDescriptor x1 x2 x3 x4 s = .next t) : P t := by
  refine keep_answer hp h ?_ e
  repeat'
    first
    | with_reducible assumption | with_reducible apply (keep_reduceDescriptor C kR kengines)
    | with_reducible apply (C.elapse know) | dsimp only

theorem keep_execReduceContribution (hp : ∀ (s : State) x, P s → P { s with pending := x }) (kR : RaiseSet w) (know : w .now) (kenergy : w .energy) (kengines : w .engines) {x1 x2 x3 x4 s t} (h : P s)
    (e : execReduceContribution x1 x2 x3 x4 s = .next t) : P t := by
  refine keep_answer hp h ?_ e
  repeat'
    first
    | with_reducible assumption | with_reducible apply (keep_reduceContribution C kR kenergy kengines)
    | with_reducible apply (C.elapse know) | dsimp only

theorem keep_execReduceUnitDeliver (hp : ∀ (s : State) x, P s → P { s with pending := x }) (kR : RaiseSet w) (know : w .now) (kfab : w .fab) (kenergy : w .energy) (kengines : w .engines) {x1 x2 x3 x4 x5 s t} (h : P s)
    (e : execReduceUnitDeliver x1 x2 x3 x4 x5 s = .next t) : P t := by
  refine keep_answer hp h ?_ e
  repeat'
    first
    | with_reducible assumption | with_reducible apply (keep_unitDeliver C kR kfab kenergy kengines)
    | with_reducible apply (C.elapse know) | dsimp only

theorem keep_execCoreReset (hp : ∀ (s : State) x, P s → P { s with pending := x }) (kR : RaiseSet w) (know : w .now) (kfab : w .fab) (kresets : w .resets) (kenergy : w .energy) {x1 x2 s t} (h : P s)
    (e : execCoreReset x1 x2 s = .next t) : P t := by
  refine keep_answer hp h ?_ e
  repeat'
    first
    | with_reducible assumption | with_reducible apply (keep_coreResetReq C kR know kfab kresets kenergy)
    | dsimp only

theorem keep_execClusterReset (hp : ∀ (s : State) x, P s → P { s with pending := x }) (kR : RaiseSet w) (know : w .now) (kfab : w .fab) (kresets : w .resets) (kenergy : w .energy) {x1 x2 s t} (h : P s)
    (e : execClusterReset x1 x2 s = .next t) : P t := by
  refine keep_answer hp h ?_ e
  repeat'
    first
    | with_reducible assumption | with_reducible apply (keep_clusterResetReq C kR know kfab kresets kenergy)
    | dsimp only

theorem keep_execPartitionReset (hp : ∀ (s : State) x, P s → P { s with pending := x }) (kR : RaiseSet w) (know : w .now) (ksram : w .sram) (kfab : w .fab) (kresets : w .resets) (kenergy : w .energy) (kengines : w .engines) (kdev : w .dev) {x1 x2 s t} (h : P s)
    (e : execPartitionReset x1 x2 s = .next t) : P t := by
  refine keep_answer hp h ?_ e
  repeat'
    first
    | with_reducible assumption
    | with_reducible apply (keep_partResetReq C kR know ksram kfab kresets kenergy kengines kdev) | dsimp only

theorem keep_execDrainEnd (hp : ∀ (s : State) x, P s → P { s with pending := x }) (kR : RaiseSet w) (know : w .now) (kfab : w .fab) (kresets : w .resets) {x1 x2 s t} (h : P s)
    (e : execDrainEnd x1 x2 s = .next t) : P t := by
  refine keep_answer hp h ?_ e
  repeat'
    first
    | with_reducible assumption | with_reducible apply (keep_drainEnd C kR know kfab kresets)
    | with_reducible apply (C.elapse know) | dsimp only

theorem keep_execResetComplete (hp : ∀ (s : State) x, P s → P { s with pending := x }) (kR : RaiseSet w) (know : w .now) (ksram : w .sram) (kfab : w .fab) (kresets : w .resets) (kenergy : w .energy) (kdev : w .dev) {x1 x2 s t} (h : P s)
    (e : execResetComplete x1 x2 s = .next t) : P t := by
  refine keep_answer hp h ?_ e
  repeat'
    first
    | with_reducible assumption | with_reducible apply (keep_resetComplete C kR ksram kfab kresets kenergy kdev)
    | with_reducible apply (C.elapse know) | dsimp only

theorem keep_execPowerStateRequest (hp : ∀ (s : State) x, P s → P { s with pending := x }) (kR : RaiseSet w) {x1 x2 x3 s t} (h : P s)
    (e : execPowerStateRequest x1 x2 x3 s = .next t) : P t := by
  refine keep_answer hp h ?_ e
  repeat'
    first
    | with_reducible assumption | with_reducible apply (keep_powerRequest C kR) | dsimp only

theorem keep_execPowerTransitionDone (hp : ∀ (s : State) x, P s → P { s with pending := x }) (kR : RaiseSet w) (know : w .now) (ksram : w .sram) (kfab : w .fab) (kresets : w .resets) (kenergy : w .energy) (kengines : w .engines) (kdev : w .dev) {x1 x2 s t} (h : P s)
    (e : execPowerTransitionDone x1 x2 s = .next t) : P t := by
  refine keep_answer hp h ?_ e
  repeat'
    first
    | with_reducible assumption
    | with_reducible apply (keep_powerDone C kR know ksram kfab kresets kenergy kengines kdev)
    | with_reducible apply (C.elapse know) | dsimp only

theorem keep_execAdd (hp : ∀ (s : State) x, P s → P { s with pending := x }) (kR : RaiseSet w) (know : w .now) (kfab : w .fab) (kenergy : w .energy) {x1 x2 x3 x4 s t} (h : P s)
    (e : execAdd x1 x2 x3 x4 s = .next t) : P t := by
  refine keep_answer hp h ?_ e
  repeat'
    first
    | with_reducible assumption | with_reducible apply (keep_issue C kR kfab kenergy)
    | with_reducible apply (C.elapse know) | dsimp only

theorem keep_execSub (hp : ∀ (s : State) x, P s → P { s with pending := x }) (kR : RaiseSet w) (know : w .now) (kfab : w .fab) (kenergy : w .energy) {x1 x2 x3 x4 s t} (h : P s)
    (e : execSub x1 x2 x3 x4 s = .next t) : P t := by
  refine keep_answer hp h ?_ e
  repeat'
    first
    | with_reducible assumption | with_reducible apply (keep_issue C kR kfab kenergy)
    | with_reducible apply (C.elapse know) | dsimp only

theorem keep_execMul (hp : ∀ (s : State) x, P s → P { s with pending := x }) (kR : RaiseSet w) (know : w .now) (kfab : w .fab) (kenergy : w .energy) {x1 x2 x3 x4 s t} (h : P s)
    (e : execMul x1 x2 x3 x4 s = .next t) : P t := by
  refine keep_answer hp h ?_ e
  repeat'
    first
    | with_reducible assumption | with_reducible apply (keep_issue C kR kfab kenergy)
    | with_reducible apply (C.elapse know) | dsimp only

theorem keep_execMax (hp : ∀ (s : State) x, P s → P { s with pending := x }) (kR : RaiseSet w) (know : w .now) (kfab : w .fab) (kenergy : w .energy) {x1 x2 x3 x4 s t} (h : P s)
    (e : execMax x1 x2 x3 x4 s = .next t) : P t := by
  refine keep_answer hp h ?_ e
  repeat'
    first
    | with_reducible assumption | with_reducible apply (keep_issue C kR kfab kenergy)
    | with_reducible apply (C.elapse know) | dsimp only

theorem keep_execMin (hp : ∀ (s : State) x, P s → P { s with pending := x }) (kR : RaiseSet w) (know : w .now) (kfab : w .fab) (kenergy : w .energy) {x1 x2 x3 x4 s t} (h : P s)
    (e : execMin x1 x2 x3 x4 s = .next t) : P t := by
  refine keep_answer hp h ?_ e
  repeat'
    first
    | with_reducible assumption | with_reducible apply (keep_issue C kR kfab kenergy)
    | with_reducible apply (C.elapse know) | dsimp only

theorem keep_execFma (hp : ∀ (s : State) x, P s → P { s with pending := x }) (kR : RaiseSet w) (know : w .now) (kfab : w .fab) (kenergy : w .energy) {x1 x2 x3 x4 s t} (h : P s)
    (e : execFma x1 x2 x3 x4 s = .next t) : P t := by
  refine keep_answer hp h ?_ e
  repeat'
    first
    | with_reducible assumption | with_reducible apply (keep_issue C kR kfab kenergy)
    | with_reducible apply (C.elapse know) | dsimp only

theorem keep_execScl (hp : ∀ (s : State) x, P s → P { s with pending := x }) (kR : RaiseSet w) (know : w .now) (kfab : w .fab) (kenergy : w .energy) {x1 x2 x3 x4 s t} (h : P s)
    (e : execScl x1 x2 x3 x4 s = .next t) : P t := by
  refine keep_answer hp h ?_ e
  repeat'
    first
    | with_reducible assumption | with_reducible apply (keep_issue C kR kfab kenergy)
    | with_reducible apply (C.elapse know) | dsimp only

theorem keep_execCvt (hp : ∀ (s : State) x, P s → P { s with pending := x }) (kR : RaiseSet w) (know : w .now) (kfab : w .fab) (kenergy : w .energy) {x1 x2 x3 x4 s t} (h : P s)
    (e : execCvt x1 x2 x3 x4 s = .next t) : P t := by
  refine keep_answer hp h ?_ e
  repeat'
    first
    | with_reducible assumption | with_reducible apply (keep_issue C kR kfab kenergy)
    | with_reducible apply (C.elapse know) | dsimp only

theorem keep_execExp (hp : ∀ (s : State) x, P s → P { s with pending := x }) (kR : RaiseSet w) (know : w .now) (kfab : w .fab) (kenergy : w .energy) {x1 x2 x3 x4 s t} (h : P s)
    (e : execExp x1 x2 x3 x4 s = .next t) : P t := by
  refine keep_answer hp h ?_ e
  repeat'
    first
    | with_reducible assumption | with_reducible apply (keep_issue C kR kfab kenergy)
    | with_reducible apply (C.elapse know) | dsimp only

theorem keep_execLog (hp : ∀ (s : State) x, P s → P { s with pending := x }) (kR : RaiseSet w) (know : w .now) (kfab : w .fab) (kenergy : w .energy) {x1 x2 x3 x4 s t} (h : P s)
    (e : execLog x1 x2 x3 x4 s = .next t) : P t := by
  refine keep_answer hp h ?_ e
  repeat'
    first
    | with_reducible assumption | with_reducible apply (keep_issue C kR kfab kenergy)
    | with_reducible apply (C.elapse know) | dsimp only

theorem keep_execRsqrt (hp : ∀ (s : State) x, P s → P { s with pending := x }) (kR : RaiseSet w) (know : w .now) (kfab : w .fab) (kenergy : w .energy) {x1 x2 x3 x4 s t} (h : P s)
    (e : execRsqrt x1 x2 x3 x4 s = .next t) : P t := by
  refine keep_answer hp h ?_ e
  repeat'
    first
    | with_reducible assumption | with_reducible apply (keep_issue C kR kfab kenergy)
    | with_reducible apply (C.elapse know) | dsimp only

theorem keep_execRecip (hp : ∀ (s : State) x, P s → P { s with pending := x }) (kR : RaiseSet w) (know : w .now) (kfab : w .fab) (kenergy : w .energy) {x1 x2 x3 x4 s t} (h : P s)
    (e : execRecip x1 x2 x3 x4 s = .next t) : P t := by
  refine keep_answer hp h ?_ e
  repeat'
    first
    | with_reducible assumption | with_reducible apply (keep_issue C kR kfab kenergy)
    | with_reducible apply (C.elapse know) | dsimp only

theorem keep_execTanh (hp : ∀ (s : State) x, P s → P { s with pending := x }) (kR : RaiseSet w) (know : w .now) (kfab : w .fab) (kenergy : w .energy) {x1 x2 x3 x4 s t} (h : P s)
    (e : execTanh x1 x2 x3 x4 s = .next t) : P t := by
  refine keep_answer hp h ?_ e
  repeat'
    first
    | with_reducible assumption | with_reducible apply (keep_issue C kR kfab kenergy)
    | with_reducible apply (C.elapse know) | dsimp only

theorem keep_execSigmoid (hp : ∀ (s : State) x, P s → P { s with pending := x }) (kR : RaiseSet w) (know : w .now) (kfab : w .fab) (kenergy : w .energy) {x1 x2 x3 x4 s t} (h : P s)
    (e : execSigmoid x1 x2 x3 x4 s = .next t) : P t := by
  refine keep_answer hp h ?_ e
  repeat'
    first
    | with_reducible assumption | with_reducible apply (keep_issue C kR kfab kenergy)
    | with_reducible apply (C.elapse know) | dsimp only

theorem keep_execRsum (hp : ∀ (s : State) x, P s → P { s with pending := x }) (kR : RaiseSet w) (know : w .now) (kfab : w .fab) (kenergy : w .energy) {x1 x2 x3 x4 s t} (h : P s)
    (e : execRsum x1 x2 x3 x4 s = .next t) : P t := by
  refine keep_answer hp h ?_ e
  repeat'
    first
    | with_reducible assumption | with_reducible apply (keep_issue C kR kfab kenergy)
    | with_reducible apply (C.elapse know) | dsimp only

theorem keep_execRmax (hp : ∀ (s : State) x, P s → P { s with pending := x }) (kR : RaiseSet w) (know : w .now) (kfab : w .fab) (kenergy : w .energy) {x1 x2 x3 x4 s t} (h : P s)
    (e : execRmax x1 x2 x3 x4 s = .next t) : P t := by
  refine keep_answer hp h ?_ e
  repeat'
    first
    | with_reducible assumption | with_reducible apply (keep_issue C kR kfab kenergy)
    | with_reducible apply (C.elapse know) | dsimp only

theorem keep_execUcall (hp : ∀ (s : State) x, P s → P { s with pending := x }) (kR : RaiseSet w) (know : w .now) (kfab : w .fab) (kenergy : w .energy) {x1 x2 x3 x4 s t} (h : P s)
    (e : execUcall x1 x2 x3 x4 s = .next t) : P t := by
  refine keep_answer hp h ?_ e
  repeat'
    first
    | with_reducible assumption | with_reducible apply (keep_issue C kR kfab kenergy)
    | with_reducible apply (C.elapse know) | dsimp only

theorem keep_execQcrumb (hp : ∀ (s : State) x, P s → P { s with pending := x }) (kR : RaiseSet w) (know : w .now) (kfab : w .fab) (kenergy : w .energy) {x1 x2 x3 x4 s t} (h : P s)
    (e : execQcrumb x1 x2 x3 x4 s = .next t) : P t := by
  refine keep_answer hp h ?_ e
  repeat'
    first
    | with_reducible assumption | with_reducible apply (keep_issue C kR kfab kenergy)
    | with_reducible apply (C.elapse know) | dsimp only

theorem keep_execVecBegin (hp : ∀ (s : State) x, P s → P { s with pending := x }) (kR : RaiseSet w) (know : w .now) (ksram : w .sram) {x1 x2 x3 s t} (h : P s)
    (e : execVecBegin x1 x2 x3 s = .next t) : P t := by
  refine keep_answer hp h ?_ e
  repeat'
    first
    | with_reducible assumption | with_reducible apply (keep_vecBegin C kR ksram)
    | with_reducible apply (C.elapse know) | dsimp only

theorem keep_execVecComplete (hp : ∀ (s : State) x, P s → P { s with pending := x }) (kR : RaiseSet w) (know : w .now) (ksram : w .sram) (klive : w .live) (kenergy : w .energy) {x1 x2 s t} (h : P s)
    (e : execVecComplete x1 x2 s = .next t) : P t := by
  refine keep_answer hp h ?_ e
  repeat'
    first
    | with_reducible assumption | with_reducible apply (keep_vecComplete C kR know ksram klive kenergy) | dsimp only

theorem keep_execCairnSeal (hp : ∀ (s : State) x, P s → P { s with pending := x }) (kR : RaiseSet w) (know : w .now) (krng : w .rng) {x1 x2 s t} (h : P s)
    (e : execCairnSeal x1 x2 s = .next t) : P t := by
  refine keep_answer hp h ?_ e
  repeat'
    first
    | with_reducible assumption | with_reducible apply (keep_cairnSeal C kR krng)
    | with_reducible apply (C.elapse know) | dsimp only

theorem keep_execRestore (hp : ∀ (s : State) x, P s → P { s with pending := x }) (kR : RaiseSet w) (krng : w .rng) {x1 x2 s t} (h : P s)
    (e : execRestore x1 x2 s = .next t) : P t := by
  refine keep_answer hp h ?_ e
  repeat'
    first
    | with_reducible assumption | with_reducible apply (keep_cairnRestore C kR krng) | dsimp only

theorem keep_execVoid (hp : ∀ (s : State) x, P s → P { s with pending := x }) (kR : RaiseSet w) {x1 x2 s t} (h : P s)
    (e : execVoid x1 x2 s = .next t) : P t := by
  refine keep_answer hp h ?_ e
  repeat'
    first
    | with_reducible assumption | with_reducible apply (keep_cairnVoid C kR) | dsimp only

theorem keep_execReinstateDone (hp : ∀ (s : State) x, P s → P { s with pending := x }) (kR : RaiseSet w) (know : w .now) (ksram : w .sram) (kfab : w .fab) (kjobFrames : w .jobFrames) (kjobBase : w .jobBase) (kenergy : w .energy) (kengines : w .engines) (krng : w .rng) (kdev : w .dev) {x1 x2 s t} (h : P s)
    (e : execReinstateDone x1 x2 s = .next t) : P t := by
  refine keep_answer hp h ?_ e
  repeat'
    first
    | with_reducible assumption
    | with_reducible apply (keep_reinstateDone C kR ksram kfab kjobFrames kjobBase kenergy kengines krng kdev)
    | with_reducible apply (C.elapse know) | dsimp only

theorem keep_execRestoreRestart (hp : ∀ (s : State) x, P s → P { s with pending := x }) (kR : RaiseSet w) {s t} (h : P s)
    (e : execRestoreRestart s = .next t) : P t := by
  refine keep_answer hp h ?_ e
  repeat'
    first
    | with_reducible assumption | with_reducible apply (keep_restoreRestart C kR) | dsimp only

theorem keep_execPairCommitMsg (hp : ∀ (s : State) x, P s → P { s with pending := x }) (kR : RaiseSet w) (know : w .now) (krng : w .rng) {x1 x2 x3 s t} (h : P s)
    (e : execPairCommitMsg x1 x2 x3 s = .next t) : P t := by
  refine keep_answer hp h ?_ e
  repeat'
    first
    | with_reducible assumption | with_reducible apply (keep_pairMsg C kR krng)
    | with_reducible apply (C.elapse know) | dsimp only

theorem keep_execPairTraceMsg (hp : ∀ (s : State) x, P s → P { s with pending := x }) (kR : RaiseSet w) (know : w .now) (krng : w .rng) {x1 x2 x3 s t} (h : P s)
    (e : execPairTraceMsg x1 x2 x3 s = .next t) : P t := by
  refine keep_answer hp h ?_ e
  repeat'
    first
    | with_reducible assumption | with_reducible apply (keep_pairMsg C kR krng)
    | with_reducible apply (C.elapse know) | dsimp only

theorem keep_execPairLossMsg (hp : ∀ (s : State) x, P s → P { s with pending := x }) (kR : RaiseSet w) (know : w .now) (krng : w .rng) {x1 x2 x3 s t} (h : P s)
    (e : execPairLossMsg x1 x2 x3 s = .next t) : P t := by
  refine keep_answer hp h ?_ e
  repeat'
    first
    | with_reducible assumption | with_reducible apply (keep_pairMsg C kR krng)
    | with_reducible apply (C.elapse know) | dsimp only

theorem keep_execPairSealMsg (hp : ∀ (s : State) x, P s → P { s with pending := x }) (kR : RaiseSet w) (know : w .now) (krng : w .rng) {x1 x2 x3 s t} (h : P s)
    (e : execPairSealMsg x1 x2 x3 s = .next t) : P t := by
  refine keep_answer hp h ?_ e
  repeat'
    first
    | with_reducible assumption | with_reducible apply (keep_pairMsg C kR krng)
    | with_reducible apply (C.elapse know) | dsimp only

theorem keep_execPairDivergenceMsg (hp : ∀ (s : State) x, P s → P { s with pending := x }) (kR : RaiseSet w) (know : w .now) (krng : w .rng) {x1 x2 x3 s t} (h : P s)
    (e : execPairDivergenceMsg x1 x2 x3 s = .next t) : P t := by
  refine keep_answer hp h ?_ e
  repeat'
    first
    | with_reducible assumption | with_reducible apply (keep_divergenceMsg C kR krng)
    | with_reducible apply (C.elapse know) | dsimp only

theorem keep_execPairTimeout (hp : ∀ (s : State) x, P s → P { s with pending := x }) (kR : RaiseSet w) {x1 s t} (h : P s)
    (e : execPairTimeout x1 s = .next t) : P t := by
  refine keep_answer hp h ?_ e
  repeat'
    first
    | with_reducible assumption | with_reducible apply (keep_pairTimeout C kR) | dsimp only

theorem keep_execPrimaryFaultMsg (hp : ∀ (s : State) x, P s → P { s with pending := x }) (know : w .now) (kpair : w .pair) {x1 x2 x3 s t} (h : P s)
    (e : execPrimaryFaultMsg x1 x2 x3 s = .next t) : P t := by
  refine keep_answer hp h ?_ e
  repeat'
    first
    | with_reducible assumption | with_reducible apply (keep_takeoverSignal C kpair)
    | with_reducible apply (C.elapse know) | with_reducible apply keep_onlyIf | dsimp only

theorem keep_execPairSilence (hp : ∀ (s : State) x, P s → P { s with pending := x }) (know : w .now) (kpair : w .pair) {x1 s t} (h : P s)
    (e : execPairSilence x1 s = .next t) : P t := by
  refine keep_answer hp h ?_ e
  repeat'
    first
    | with_reducible assumption | with_reducible apply (keep_pairSilence C kpair)
    | with_reducible apply (C.elapse know) | dsimp only

theorem keep_execHandover (hp : ∀ (s : State) x, P s → P { s with pending := x }) (kregs : w .regs) (kfaults : w .faults) (klinks : w .links) (kpair : w .pair) {x1 s t} (h : P s)
    (e : execHandover x1 s = .next t) : P t := by
  refine keep_answer hp h ?_ e
  repeat'
    first
    | with_reducible assumption | with_reducible apply (keep_primaryFault C kregs kfaults klinks kpair) | dsimp only

theorem keep_execRelease (hp : ∀ (s : State) x, P s → P { s with pending := x }) (kR : RaiseSet w) {x1 s t} (h : P s)
    (e : execRelease x1 s = .next t) : P t := by
  refine keep_answer hp h ?_ e
  repeat'
    first
    | with_reducible assumption | with_reducible apply (keep_pairRelease C kR) | dsimp only

theorem keep_execRecomputeDone (hp : ∀ (s : State) x, P s → P { s with pending := x }) (kR : RaiseSet w) (know : w .now) {x1 x2 s t} (h : P s)
    (e : execRecomputeDone x1 x2 s = .next t) : P t := by
  refine keep_answer hp h ?_ e
  repeat'
    first
    | with_reducible assumption | with_reducible apply (keep_recomputeDone C kR)
    | with_reducible apply (C.elapse know) | dsimp only

theorem keep_execCoreFail (hp : ∀ (s : State) x, P s → P { s with pending := x }) (kR : RaiseSet w) (know : w .now) (ksram : w .sram) (kfab : w .fab) (kdev : w .dev) {x1 x2 s t} (h : P s)
    (e : execCoreFail x1 x2 s = .next t) : P t := by
  refine keep_answer hp h ?_ e
  repeat'
    first
    | with_reducible assumption | with_reducible apply (keep_coreFail C kR ksram kfab kdev)
    | with_reducible apply (C.elapse know) | dsimp only

theorem keep_execSpareFillDone (hp : ∀ (s : State) x, P s → P { s with pending := x }) (kR : RaiseSet w) (know : w .now) (ksram : w .sram) (kfab : w .fab) (kenergy : w .energy) (krng : w .rng) (kdev : w .dev) {x1 x2 s t} (h : P s)
    (e : execSpareFillDone x1 x2 s = .next t) : P t := by
  refine keep_answer hp h ?_ e
  repeat'
    first
    | with_reducible assumption | with_reducible apply (keep_fillDone C kR ksram kfab kenergy krng kdev)
    | with_reducible apply (C.elapse know) | dsimp only

theorem keep_execRngKeyCommit (hp : ∀ (s : State) x, P s → P { s with pending := x }) (krng : w .rng) {x1 x2 x3 s t} (h : P s)
    (e : execRngKeyCommit x1 x2 x3 s = .next t) : P t := by
  refine keep_answer hp h ?_ e
  repeat'
    first
    | with_reducible assumption | with_reducible apply (keep_rngKeyWrite C krng) | with_reducible apply keep_onlyIf
    | dsimp only

theorem keep_execLoad (hp : ∀ (s : State) x, P s → P { s with pending := x }) (kR : RaiseSet w) (ksched : w .sched) {x1 s t} (h : P s)
    (e : execLoad x1 s = .next t) : P t := by
  refine keep_answer hp h ?_ e
  repeat'
    first
    | with_reducible assumption | with_reducible apply (keep_schedLoad C kR ksched) | dsimp only

theorem keep_execVerifyDone (hp : ∀ (s : State) x, P s → P { s with pending := x }) (kR : RaiseSet w) (ksched : w .sched) {s t} (h : P s)
    (e : execVerifyDone s = .next t) : P t := by
  refine keep_answer hp h ?_ e
  repeat'
    first
    | with_reducible assumption | with_reducible apply (keep_verifyDone C kR ksched) | split | dsimp only

theorem keep_execArm (hp : ∀ (s : State) x, P s → P { s with pending := x }) (kR : RaiseSet w) (ksched : w .sched) {x1 s t} (h : P s)
    (e : execArm x1 s = .next t) : P t := by
  refine keep_answer hp h ?_ e
  repeat'
    first
    | with_reducible assumption | with_reducible apply (keep_schedArm C kR ksched) | dsimp only

theorem keep_execAbort (hp : ∀ (s : State) x, P s → P { s with pending := x }) (kR : RaiseSet w) (ksched : w .sched) {x1 s t} (h : P s)
    (e : execAbort x1 s = .next t) : P t := by
  refine keep_answer hp h ?_ e
  repeat'
    first
    | with_reducible assumption | with_reducible apply (keep_schedAbort C kR ksched) | dsimp only

theorem keep_execShadowReady (hp : ∀ (s : State) x, P s → P { s with pending := x }) (kcores : w .cores) (ksched : w .sched) {s t} (h : P s)
    (e : execShadowReady s = .next t) : P t := by
  refine keep_answer hp h ?_ e
  repeat'
    first
    | with_reducible assumption | with_reducible apply (keep_shadowDone C kcores ksched) | dsimp only

theorem keep_execImageActivation (hp : ∀ (s : State) x, P s → P { s with pending := x }) (kR : RaiseSet w) (kfab : w .fab) (ksched : w .sched) (kenergy : w .energy) (ksec : w .sec) {s t} (h : P s)
    (e : execImageActivation s = .next t) : P t := by
  refine keep_answer hp h ?_ e
  repeat'
    first
    | with_reducible assumption | with_reducible apply (keep_imageActivation C kR kfab ksched kenergy ksec)
    | dsimp only

theorem keep_execRailFault (hp : ∀ (s : State) x, P s → P { s with pending := x }) (kR : RaiseSet w) {x1 s t} (h : P s)
    (e : execRailFault x1 s = .next t) : P t := by
  refine keep_answer hp h ?_ e
  repeat'
    first
    | with_reducible assumption | with_reducible apply (keep_railFault C kR) | dsimp only

theorem keep_execWatchdogExpiry (hp : ∀ (s : State) x, P s → P { s with pending := x }) (kR : RaiseSet w) (kdev : w .dev) {s t} (h : P s)
    (e : execWatchdogExpiry s = .next t) : P t := by
  refine keep_answer hp h ?_ e
  repeat'
    first
    | with_reducible assumption | with_reducible apply (keep_watchdogExpiry C kR kdev) | dsimp only

theorem keep_execThermalSample (hp : ∀ (s : State) x, P s → P { s with pending := x }) (kR : RaiseSet w) (kfree : w .free) (kenergy : w .energy) (kdev : w .dev) {x1 s t} (h : P s)
    (e : execThermalSample x1 s = .next t) : P t := by
  refine keep_answer hp h ?_ e
  repeat'
    first
    | with_reducible assumption | with_reducible apply (keep_thermalSample C kR kfree kenergy kdev) | dsimp only

theorem keep_execDefectLogWrite (hp : ∀ (s : State) x, P s → P { s with pending := x }) (kR : RaiseSet w) (kdev : w .dev) {x1 x2 s t} (h : P s)
    (e : execDefectLogWrite x1 x2 s = .next t) : P t := by
  refine keep_answer hp h ?_ e
  repeat'
    first
    | with_reducible assumption | with_reducible apply (keep_defectLogWrite C kR kdev) | dsimp only

theorem keep_execLossOfHbmTraining (hp : ∀ (s : State) x, P s → P { s with pending := x }) (kR : RaiseSet w) (know : w .now) {x1 x2 x3 s t} (h : P s)
    (e : execLossOfHbmTraining x1 x2 x3 s = .next t) : P t := by
  refine keep_answer hp h ?_ e
  repeat'
    first
    | with_reducible assumption | with_reducible apply (keep_trainingLoss C kR)
    | with_reducible apply (C.elapse know) | dsimp only

theorem keep_execManagementMemoryError (hp : ∀ (s : State) x, P s → P { s with pending := x }) (kR : RaiseSet w) (kdev : w .dev) (ksec : w .sec) {x1 x2 s t} (h : P s)
    (e : execManagementMemoryError x1 x2 s = .next t) : P t := by
  refine keep_answer hp h ?_ e
  repeat'
    first
    | with_reducible assumption | with_reducible apply (keep_managementError C kR kdev ksec) | dsimp only

theorem keep_execBringupBound (hp : ∀ (s : State) x, P s → P { s with pending := x }) (kR : RaiseSet w) {x1 s t} (h : P s)
    (e : execBringupBound x1 s = .next t) : P t := by
  refine keep_answer hp h ?_ e
  repeat'
    first
    | with_reducible assumption | with_reducible apply (keep_boundPassed C kR) | dsimp only

theorem keep_execCoreSramDataRead (hp : ∀ (s : State) x, P s → P { s with pending := x }) (kR : RaiseSet w) (kfree : w .free) {x1 x2 x3 s t} (h : P s)
    (e : execCoreSramDataRead x1 x2 x3 s = .next t) : P t := by
  refine keep_answer hp h ?_ e
  repeat'
    first
    | with_reducible assumption | with_reducible apply (keep_sramDataRead C kR kfree) | dsimp only

theorem keep_execCoreSramDataWrite (hp : ∀ (s : State) x, P s → P { s with pending := x }) (kR : RaiseSet w) (ksram : w .sram) {x1 x2 x3 s t} (h : P s)
    (e : execCoreSramDataWrite x1 x2 x3 s = .next t) : P t := by
  refine keep_answer hp h ?_ e
  repeat'
    first
    | with_reducible assumption | with_reducible apply (keep_sramDataWrite C kR ksram) | split | dsimp only

theorem keep_execStage (hp : ∀ (s : State) x, P s → P { s with pending := x }) (kR : RaiseSet w) (kfree : w .free) (krng : w .rng) (kdev : w .dev) (ksec : w .sec) {x1 s t} (h : P s)
    (e : execStage x1 s = .next t) : P t := by
  refine keep_answer hp h ?_ e
  repeat'
    first
    | with_reducible assumption | with_reducible apply (keep_secCmd C kR kfree krng kdev ksec)
    | with_reducible apply (keep_secStage C kR kdev ksec) | split | dsimp only

theorem keep_execStageDone (hp : ∀ (s : State) x, P s → P { s with pending := x }) (kR : RaiseSet w) (know : w .now) (kdev : w .dev) (ksec : w .sec) {x1 x2 s t} (h : P s)
    (e : execStageDone x1 x2 s = .next t) : P t := by
  refine keep_answer hp h ?_ e
  repeat'
    first
    | with_reducible assumption | with_reducible apply (keep_stageDone C kR kdev ksec)
    | with_reducible apply (C.elapse know) | dsimp only

theorem keep_execUpdateAbort (hp : ∀ (s : State) x, P s → P { s with pending := x }) (kR : RaiseSet w) (kfree : w .free) (krng : w .rng) (kdev : w .dev) (ksec : w .sec) {x1 s t} (h : P s)
    (e : execUpdateAbort x1 s = .next t) : P t := by
  refine keep_answer hp h ?_ e
  repeat'
    first
    | with_reducible assumption | with_reducible apply (keep_secCmd C kR kfree krng kdev ksec) | dsimp only

theorem keep_execActivate (hp : ∀ (s : State) x, P s → P { s with pending := x }) (kR : RaiseSet w) (kfree : w .free) (krng : w .rng) (kdev : w .dev) (ksec : w .sec) {x1 s t} (h : P s)
    (e : execActivate x1 s = .next t) : P t := by
  refine keep_answer hp h ?_ e
  repeat'
    first
    | with_reducible assumption | with_reducible apply (keep_secCmd C kR kfree krng kdev ksec) | dsimp only

theorem keep_execCommitSvn (hp : ∀ (s : State) x, P s → P { s with pending := x }) (kR : RaiseSet w) (kfree : w .free) (krng : w .rng) (kdev : w .dev) (ksec : w .sec) {x1 s t} (h : P s)
    (e : execCommitSvn x1 s = .next t) : P t := by
  refine keep_answer hp h ?_ e
  repeat'
    first
    | with_reducible assumption | with_reducible apply (keep_secCmd C kR kfree krng kdev ksec) | dsimp only

theorem keep_execRevoke (hp : ∀ (s : State) x, P s → P { s with pending := x }) (kR : RaiseSet w) (kfree : w .free) (krng : w .rng) (kdev : w .dev) (ksec : w .sec) {x1 s t} (h : P s)
    (e : execRevoke x1 s = .next t) : P t := by
  refine keep_answer hp h ?_ e
  repeat'
    first
    | with_reducible assumption | with_reducible apply (keep_secCmd C kR kfree krng kdev ksec) | dsimp only

theorem keep_execChallenge (hp : ∀ (s : State) x, P s → P { s with pending := x }) (kR : RaiseSet w) (kfree : w .free) (krng : w .rng) (kdev : w .dev) (ksec : w .sec) {x1 s t} (h : P s)
    (e : execChallenge x1 s = .next t) : P t := by
  refine keep_answer hp h ?_ e
  repeat'
    first
    | with_reducible assumption | with_reducible apply (keep_secCmd C kR kfree krng kdev ksec) | dsimp only

theorem keep_execJtagUnlock (hp : ∀ (s : State) x, P s → P { s with pending := x }) (kR : RaiseSet w) (kfree : w .free) (krng : w .rng) (kdev : w .dev) (ksec : w .sec) {x1 s t} (h : P s)
    (e : execJtagUnlock x1 s = .next t) : P t := by
  refine keep_answer hp h ?_ e
  repeat'
    first
    | with_reducible assumption | with_reducible apply (keep_secCmd C kR kfree krng kdev ksec) | dsimp only

theorem keep_execExtend (hp : ∀ (s : State) x, P s → P { s with pending := x }) (kR : RaiseSet w) (kfree : w .free) (krng : w .rng) (kdev : w .dev) (ksec : w .sec) {x1 s t} (h : P s)
    (e : execExtend x1 s = .next t) : P t := by
  refine keep_answer hp h ?_ e
  repeat'
    first
    | with_reducible assumption | with_reducible apply (keep_secCmd C kR kfree krng kdev ksec) | dsimp only

theorem keep_execTrialTimeout (hp : ∀ (s : State) x, P s → P { s with pending := x }) (kR : RaiseSet w) (know : w .now) (kdev : w .dev) {x1 s t} (h : P s)
    (e : execTrialTimeout x1 s = .next t) : P t := by
  refine keep_answer hp h ?_ e
  repeat'
    first
    | with_reducible assumption | with_reducible apply (keep_trialTimeout C kR know kdev)
    | with_reducible apply (C.elapse know) | dsimp only

theorem keep_execAttestRequest (hp : ∀ (s : State) x, P s → P { s with pending := x }) (kR : RaiseSet w) (ksec : w .sec) {x1 x2 s t} (h : P s)
    (e : execAttestRequest x1 x2 s = .next t) : P t := by
  refine keep_answer hp h ?_ e
  repeat'
    first
    | with_reducible assumption | with_reducible apply (keep_nonceWrite C kR ksec) | dsimp only

theorem keep_execAttestReportDone (hp : ∀ (s : State) x, P s → P { s with pending := x }) (know : w .now) (ksec : w .sec) {x1 s t} (h : P s)
    (e : execAttestReportDone x1 s = .next t) : P t := by
  refine keep_answer hp h ?_ e
  repeat'
    first
    | with_reducible assumption | with_reducible apply (keep_reportDone C ksec)
    | with_reducible apply (C.elapse know) | dsimp only

theorem keep_execColTake (hp : ∀ (s : State) x, P s → P { s with pending := x }) (kR : RaiseSet w) (know : w .now) (kfab : w .fab) (kengines : w .engines) {x1 x2 x3 s t} (h : P s)
    (e : execColTake x1 x2 x3 s = .next t) : P t := by
  refine keep_answer hp h ?_ e
  repeat'
    first
    | with_reducible assumption | with_reducible apply (keep_colTake C kR kfab kengines)
    | with_reducible apply (C.elapse know) | dsimp only

theorem keep_execLinkFrameLaunch (hp : ∀ (s : State) x, P s → P { s with pending := x }) (kR : RaiseSet w) (know : w .now) (kenergy : w .energy) {x1 x2 s t} (h : P s)
    (e : execLinkFrameLaunch x1 x2 s = .next t) : P t := by
  refine keep_answer hp h ?_ e
  repeat'
    first
    | with_reducible assumption | with_reducible apply (keep_frameLaunch C kR kenergy)
    | with_reducible apply (C.elapse know) | dsimp only

theorem keep_execLinkFrameVerdict (hp : ∀ (s : State) x, P s → P { s with pending := x }) (kR : RaiseSet w) (know : w .now) {x1 x2 x3 x4 s t} (h : P s)
    (e : execLinkFrameVerdict x1 x2 x3 x4 s = .next t) : P t := by
  refine keep_answer hp h ?_ e
  repeat'
    first
    | with_reducible assumption | with_reducible apply (keep_frameVerdict C kR)
    | with_reducible apply (C.elapse know) | dsimp only

theorem keep_execReplayRelaunch (hp : ∀ (s : State) x, P s → P { s with pending := x }) (kR : RaiseSet w) (know : w .now) {x1 x2 s t} (h : P s)
    (e : execReplayRelaunch x1 x2 s = .next t) : P t := by
  refine keep_answer hp h ?_ e
  repeat'
    first
    | with_reducible assumption | with_reducible apply (keep_relaunch C kR) | with_reducible apply (C.elapse know)
    | dsimp only

theorem keep_execLinkSlotDeliver (hp : ∀ (s : State) x, P s → P { s with pending := x }) (kR : RaiseSet w) (know : w .now) (kfab : w .fab) (kenergy : w .energy) (kengines : w .engines) {x1 x2 s t} (h : P s)
    (e : execLinkSlotDeliver x1 x2 s = .next t) : P t := by
  refine keep_answer hp h ?_ e
  repeat'
    first
    | with_reducible assumption | with_reducible apply (keep_slotDeliver C kR kfab kenergy kengines)
    | with_reducible apply (C.elapse know) | dsimp only

theorem keep_execTxLate (hp : ∀ (s : State) x, P s → P { s with pending := x }) (kR : RaiseSet w) (know : w .now) {x1 x2 s t} (h : P s)
    (e : execTxLate x1 x2 s = .next t) : P t := by
  refine keep_answer hp h ?_ e
  repeat'
    first
    | with_reducible assumption | with_reducible apply (keep_txLate C kR) | with_reducible apply (C.elapse know)
    | dsimp only

theorem keep_execLinkDown (hp : ∀ (s : State) x, P s → P { s with pending := x }) (kR : RaiseSet w) (know : w .now) {x1 x2 x3 s t} (h : P s)
    (e : execLinkDown x1 x2 x3 s = .next t) : P t := by
  refine keep_answer hp h ?_ e
  repeat'
    first
    | with_reducible assumption | with_reducible apply (keep_linkDown C kR) | with_reducible apply (C.elapse know)
    | dsimp only

theorem keep_execLinkRetrain (hp : ∀ (s : State) x, P s → P { s with pending := x }) (kR : RaiseSet w) {x1 x2 s t} (h : P s)
    (e : execLinkRetrain x1 x2 s = .next t) : P t := by
  refine keep_answer hp h ?_ e
  repeat'
    first
    | with_reducible assumption | with_reducible apply (keep_retrain C kR) | dsimp only

theorem keep_execLinkPageReset (hp : ∀ (s : State) x, P s → P { s with pending := x }) (kR : RaiseSet w) {x1 x2 s t} (h : P s)
    (e : execLinkPageReset x1 x2 s = .next t) : P t := by
  refine keep_answer hp h ?_ e
  repeat'
    first
    | with_reducible assumption | with_reducible apply (keep_linkPageReset C kR) | dsimp only

theorem keep_execLinkDetectDone (hp : ∀ (s : State) x, P s → P { s with pending := x }) (kR : RaiseSet w) (know : w .now) {x1 x2 s t} (h : P s)
    (e : execLinkDetectDone x1 x2 s = .next t) : P t := by
  refine keep_answer hp h ?_ e
  repeat'
    first
    | with_reducible assumption | with_reducible apply (keep_toState C kR) | with_reducible apply (C.elapse know)
    | dsimp only

theorem keep_execLinkEqualiseDone (hp : ∀ (s : State) x, P s → P { s with pending := x }) (kR : RaiseSet w) (know : w .now) {x1 x2 s t} (h : P s)
    (e : execLinkEqualiseDone x1 x2 s = .next t) : P t := by
  refine keep_answer hp h ?_ e
  repeat'
    first
    | with_reducible assumption | with_reducible apply (keep_toState C kR) | with_reducible apply (C.elapse know)
    | dsimp only

theorem keep_execLinkCheckDone (hp : ∀ (s : State) x, P s → P { s with pending := x }) (kR : RaiseSet w) (know : w .now) {x1 x2 x3 s t} (h : P s)
    (e : execLinkCheckDone x1 x2 x3 s = .next t) : P t := by
  refine keep_answer hp h ?_ e
  repeat'
    first
    | with_reducible assumption | with_reducible apply (keep_checkDone C kR) | with_reducible apply (C.elapse know)
    | dsimp only

theorem keep_execLinkNegotiateDone (hp : ∀ (s : State) x, P s → P { s with pending := x }) (kR : RaiseSet w) (know : w .now) {x1 x2 x3 s t} (h : P s)
    (e : execLinkNegotiateDone x1 x2 x3 s = .next t) : P t := by
  refine keep_answer hp h ?_ e
  repeat'
    first
    | with_reducible assumption | with_reducible apply (keep_negotiateDone C kR)
    | with_reducible apply (C.elapse know) | dsimp only

theorem keep_execLinkTrainTimeout (hp : ∀ (s : State) x, P s → P { s with pending := x }) (kR : RaiseSet w) (know : w .now) {x1 x2 s t} (h : P s)
    (e : execLinkTrainTimeout x1 x2 s = .next t) : P t := by
  refine keep_answer hp h ?_ e
  repeat'
    first
    | with_reducible assumption | with_reducible apply (keep_trainTimeout C kR)
    | with_reducible apply (C.elapse know) | dsimp only

theorem keep_execColdBringup (hp : ∀ (s : State) x, P s → P { s with pending := x }) (kR : RaiseSet w) (know : w .now) (kfree : w .free) (ksram : w .sram) (kfab : w .fab) (ktick : w .tick) (ksched : w .sched) (kresets : w .resets) (kjobFrames : w .jobFrames) (kjobBase : w .jobBase) (klive : w .live) (kmonOn : w .monOn) (kmonClear : w .monClear) (kenergy : w .energy) (kengines : w .engines) (krng : w .rng) (kdev : w .dev) (ksec : w .sec) (kdig : w .dig) {x1 s t} (h : P s)
    (e : execColdBringup x1 s = .next t) : P t := by
  refine keep_answer hp h ?_ e
  repeat'
    first
    | with_reducible assumption
    | with_reducible apply (keep_coldBringup C kR know kfree ksram kfab ktick ksched kresets kjobFrames kjobBase klive kmonOn kmonClear kenergy kengines krng kdev ksec kdig)
    | dsimp only

theorem keep_execColdReset (hp : ∀ (s : State) x, P s → P { s with pending := x }) (kR : RaiseSet w) (know : w .now) (kfree : w .free) (ksram : w .sram) (kfab : w .fab) (ktick : w .tick) (ksched : w .sched) (kresets : w .resets) (kjobFrames : w .jobFrames) (kjobBase : w .jobBase) (klive : w .live) (kmonOn : w .monOn) (kmonClear : w .monClear) (kenergy : w .energy) (kengines : w .engines) (krng : w .rng) (kdev : w .dev) (ksec : w .sec) (kdig : w .dig) {x1 s t} (h : P s)
    (e : execColdReset x1 s = .next t) : P t := by
  refine keep_answer hp h ?_ e
  repeat'
    first
    | with_reducible assumption
    | with_reducible apply (keep_coldReset C kR know kfree ksram kfab ktick ksched kresets kjobFrames kjobBase klive kmonOn kmonClear kenergy kengines krng kdev ksec kdig)
    | dsimp only

theorem keep_execWarmReset (hp : ∀ (s : State) x, P s → P { s with pending := x }) (kR : RaiseSet w) (know : w .now) (kfree : w .free) (ksram : w .sram) (kfab : w .fab) (ktick : w .tick) (ksched : w .sched) (kresets : w .resets) (kjobFrames : w .jobFrames) (kjobBase : w .jobBase) (klive : w .live) (kmonOn : w .monOn) (kmonClear : w .monClear) (kenergy : w .energy) (kengines : w .engines) (krng : w .rng) (kdev : w .dev) (ksec : w .sec) (kdig : w .dig) {x1 x2 s t} (h : P s)
    (e : execWarmReset x1 x2 s = .next t) : P t := by
  refine keep_answer hp h ?_ e
  repeat'
    first
    | with_reducible assumption
    | with_reducible apply (keep_warmReset C kR know kfree ksram kfab ktick ksched kresets kjobFrames kjobBase klive kmonOn kmonClear kenergy kengines krng kdev ksec kdig)
    | dsimp only

theorem keep_execBootReq (hp : ∀ (s : State) x, P s → P { s with pending := x }) (know : w .now) (kfree : w .free) (kout : w .out) {x1 s t} (h : P s)
    (e : execBootReq x1 s = .next t) : P t := by
  refine keep_answer hp h ?_ e
  repeat'
    first
    | with_reducible assumption | with_reducible apply (keep_bootReq C kfree kout)
    | with_reducible apply (C.elapse know) | dsimp only

theorem keep_execBootData (hp : ∀ (s : State) x, P s → P { s with pending := x }) (kR : RaiseSet w) (know : w .now) (kdev : w .dev) (ksec : w .sec) {x1 x2 s t} (h : P s)
    (e : execBootData x1 x2 s = .next t) : P t := by
  refine keep_answer hp h ?_ e
  repeat'
    first
    | with_reducible assumption | with_reducible apply (keep_bootData C kR know kdev ksec) | dsimp only

theorem keep_execDigestMsg (hp : ∀ (s : State) x, P s → P { s with pending := x }) (kR : RaiseSet w) (know : w .now) (kdig : w .dig) {x1 x2 x3 x4 x5 x6 s t} (h : P s)
    (e : execDigestMsg x1 x2 x3 x4 x5 x6 s = .next t) : P t := by
  refine keep_answer hp h ?_ e
  repeat'
    first
    | with_reducible assumption | with_reducible apply (keep_digestMessage C kR kdig)
    | with_reducible apply (C.elapse know) | with_reducible apply keep_onlyIf | dsimp only

theorem keep_execTickBoundary (hp : ∀ (s : State) x, P s → P { s with pending := x }) (kR : RaiseSet w) (know : w .now) (kfab : w .fab) (ktick : w .tick) (kresets : w .resets) (kenergy : w .energy) (kdig : w .dig) {x1 s t} (h : P s)
    (e : execTickBoundary x1 s = .next t) : P t := by
  refine keep_answer hp h ?_ e
  repeat'
    first
    | with_reducible assumption | with_reducible apply (keep_tickBoundary C kR know kfab ktick kresets kenergy kdig)
    | dsimp only

theorem keep_execFrameBoundary (hp : ∀ (s : State) x, P s → P { s with pending := x }) (kR : RaiseSet w) (kfab : w .fab) (ktick : w .tick) (kjobFrames : w .jobFrames) (klive : w .live) (kmonOn : w .monOn) (kmonClear : w .monClear) (kenergy : w .energy) (kengines : w .engines) (krng : w .rng) (kdig : w .dig) {s t} (h : P s)
    (e : execFrameBoundary s = .next t) : P t := by
  refine keep_answer hp h ?_ e
  repeat'
    first
    | with_reducible assumption
    | with_reducible apply (keep_frameBoundary C kR kfab ktick kjobFrames klive kmonOn kmonClear kenergy kengines krng kdig)
    | dsimp only

theorem keep_execTickStart (hp : ∀ (s : State) x, P s → P { s with pending := x }) (kR : RaiseSet w) (ktick : w .tick) {x1 x2 s t} (h : P s)
    (e : execTickStart x1 x2 s = .next t) : P t := by
  refine keep_answer hp h ?_ e
  repeat'
    first
    | with_reducible assumption | with_reducible apply (keep_tickStart C kR ktick) | dsimp only

theorem keep_execTickMarker (hp : ∀ (s : State) x, P s → P { s with pending := x }) (kR : RaiseSet w) (know : w .now) (ktick : w .tick) (kenergy : w .energy) (kdev : w .dev) (ksec : w .sec) {x1 x2 s t} (h : P s)
    (e : execTickMarker x1 x2 s = .next t) : P t := by
  refine keep_answer hp h ?_ e
  repeat'
    first
    | with_reducible assumption | with_reducible apply (keep_tickMarker C kR ktick kenergy kdev ksec)
    | with_reducible apply (C.elapse know) | dsimp only

theorem keep_execHoldoverExceeded (hp : ∀ (s : State) x, P s → P { s with pending := x }) (kR : RaiseSet w) (know : w .now) (ktick : w .tick) {s t} (h : P s)
    (e : execHoldoverExceeded s = .next t) : P t := by
  refine keep_answer hp h ?_ e
  repeat'
    first
    | with_reducible assumption | with_reducible apply (keep_holdoverExceeded C kR know ktick) | dsimp only

theorem keep_execFclkLock (hp : ∀ (s : State) x, P s → P { s with pending := x }) (know : w .now) (ktick : w .tick) {x1 s t} (h : P s)
    (e : execFclkLock x1 s = .next t) : P t := by
  refine keep_answer hp h ?_ e
  repeat'
    first
    | with_reducible assumption | with_reducible apply (keep_fclkLock C ktick)
    | with_reducible apply (C.elapse know) | dsimp only

theorem keep_execNummonClear (hp : ∀ (s : State) x, P s → P { s with pending := x }) (kmonClear : w .monClear) {x1 x2 s t} (h : P s)
    (e : execNummonClear x1 x2 s = .next t) : P t := by
  refine keep_answer hp h ?_ e
  repeat'
    first
    | with_reducible assumption | with_reducible apply (keep_nummonCtl C kmonClear) | dsimp only

theorem keep_execRegisterWrite (hp : ∀ (s : State) x, P s → P { s with pending := x }) (kR : RaiseSet w) (know : w .now) (kfree : w .free) (ksram : w .sram) (kfab : w .fab) (ktick : w .tick) (ksched : w .sched) (kresets : w .resets) (kjobFrames : w .jobFrames) (kmonClear : w .monClear) (kenergy : w .energy) (kengines : w .engines) (krng : w .rng) (kdev : w .dev) (ksec : w .sec) {x1 x2 x3 s t} (h : P s)
    (e : execRegisterWrite x1 x2 x3 s = .next t) : P t := by
  refine keep_answer hp h ?_ e
  repeat'
    first
    | with_reducible assumption
    | with_reducible apply (keep_regWrite C kR know kfree ksram kfab ktick ksched kresets kjobFrames kmonClear kenergy kengines krng kdev ksec)
    | dsimp only

theorem keep_execW1cClear (hp : ∀ (s : State) x, P s → P { s with pending := x }) (kR : RaiseSet w) (know : w .now) (kfree : w .free) (ksram : w .sram) (kfab : w .fab) (ktick : w .tick) (ksched : w .sched) (kresets : w .resets) (kjobFrames : w .jobFrames) (kmonClear : w .monClear) (kenergy : w .energy) (kengines : w .engines) (krng : w .rng) (kdev : w .dev) (ksec : w .sec) {x1 x2 x3 s t} (h : P s)
    (e : execW1cClear x1 x2 x3 s = .next t) : P t := by
  refine keep_answer hp h ?_ e
  repeat'
    first
    | with_reducible assumption
    | with_reducible apply (keep_regWrite C kR know kfree ksram kfab ktick ksched kresets kjobFrames kmonClear kenergy kengines krng kdev ksec)
    | dsimp only

theorem keep_execReadClear (hp : ∀ (s : State) x, P s → P { s with pending := x }) (kR : RaiseSet w) (kfree : w .free) {x1 x2 s t} (h : P s)
    (e : execReadClear x1 x2 s = .next t) : P t := by
  refine keep_answer hp h ?_ e
  repeat'
    first
    | with_reducible assumption | with_reducible apply (keep_regRead C kR kfree) | dsimp only

theorem keep_execLoRead (hp : ∀ (s : State) x, P s → P { s with pending := x }) (kR : RaiseSet w) (kfree : w .free) {x1 x2 s t} (h : P s)
    (e : execLoRead x1 x2 s = .next t) : P t := by
  refine keep_answer hp h ?_ e
  repeat'
    first
    | with_reducible assumption | with_reducible apply (keep_regRead C kR kfree) | dsimp only

theorem keep_execLoWrite (hp : ∀ (s : State) x, P s → P { s with pending := x }) (kR : RaiseSet w) (know : w .now) (kfree : w .free) (ksram : w .sram) (kfab : w .fab) (ktick : w .tick) (ksched : w .sched) (kresets : w .resets) (kjobFrames : w .jobFrames) (kmonClear : w .monClear) (kenergy : w .energy) (kengines : w .engines) (krng : w .rng) (kdev : w .dev) (ksec : w .sec) {x1 x2 x3 s t} (h : P s)
    (e : execLoWrite x1 x2 x3 s = .next t) : P t := by
  refine keep_answer hp h ?_ e
  repeat'
    first
    | with_reducible assumption
    | with_reducible apply (keep_regWrite C kR know kfree ksram kfab ktick ksched kresets kjobFrames kmonClear kenergy kengines krng kdev ksec)
    | dsimp only

theorem keep_execHiWrite (hp : ∀ (s : State) x, P s → P { s with pending := x }) (kR : RaiseSet w) (know : w .now) (kfree : w .free) (ksram : w .sram) (kfab : w .fab) (ktick : w .tick) (ksched : w .sched) (kresets : w .resets) (kjobFrames : w .jobFrames) (kmonClear : w .monClear) (kenergy : w .energy) (kengines : w .engines) (krng : w .rng) (kdev : w .dev) (ksec : w .sec) {x1 x2 x3 s t} (h : P s)
    (e : execHiWrite x1 x2 x3 s = .next t) : P t := by
  refine keep_answer hp h ?_ e
  repeat'
    first
    | with_reducible assumption
    | with_reducible apply (keep_regWrite C kR know kfree ksram kfab ktick ksched kresets kjobFrames kmonClear kenergy kengines krng kdev ksec)
    | dsimp only

theorem keep_execPageFreeze (hp : ∀ (s : State) x, P s → P { s with pending := x }) (kR : RaiseSet w) (know : w .now) (kfree : w .free) (ksram : w .sram) (kfab : w .fab) (ktick : w .tick) (ksched : w .sched) (kresets : w .resets) (kjobFrames : w .jobFrames) (kmonClear : w .monClear) (kenergy : w .energy) (kengines : w .engines) (krng : w .rng) (kdev : w .dev) (ksec : w .sec) {x1 x2 x3 s t} (h : P s)
    (e : execPageFreeze x1 x2 x3 s = .next t) : P t := by
  refine keep_answer hp h ?_ e
  repeat'
    first
    | with_reducible assumption
    | with_reducible apply (keep_pageWrite C kR know kfree ksram kfab ktick ksched kresets kjobFrames kmonClear kenergy kengines krng kdev ksec)
    | dsimp only

theorem keep_execPageEnable (hp : ∀ (s : State) x, P s → P { s with pending := x }) (kR : RaiseSet w) (know : w .now) (kfree : w .free) (ksram : w .sram) (kfab : w .fab) (ktick : w .tick) (ksched : w .sched) (kresets : w .resets) (kjobFrames : w .jobFrames) (kmonClear : w .monClear) (kenergy : w .energy) (kengines : w .engines) (krng : w .rng) (kdev : w .dev) (ksec : w .sec) {x1 x2 x3 s t} (h : P s)
    (e : execPageEnable x1 x2 x3 s = .next t) : P t := by
  refine keep_answer hp h ?_ e
  repeat'
    first
    | with_reducible assumption
    | with_reducible apply (keep_pageWrite C kR know kfree ksram kfab ktick ksched kresets kjobFrames kmonClear kenergy kengines krng kdev ksec)
    | dsimp only

theorem keep_execFltLogRead (hp : ∀ (s : State) x, P s → P { s with pending := x }) (kR : RaiseSet w) (kfree : w .free) {x1 x2 s t} (h : P s)
    (e : execFltLogRead x1 x2 s = .next t) : P t := by
  refine keep_answer hp h ?_ e
  repeat'
    first
    | with_reducible assumption | with_reducible apply (keep_readReg C kR kfree) | dsimp only

theorem keep_execRead (hp : ∀ (s : State) x, P s → P { s with pending := x }) (kR : RaiseSet w) (know : w .now) (kfree : w .free) (ksram : w .sram) (kfab : w .fab) (ktick : w .tick) (ksched : w .sched) (kresets : w .resets) (kjobFrames : w .jobFrames) (kmonClear : w .monClear) (kenergy : w .energy) (kengines : w .engines) (krng : w .rng) (kdev : w .dev) (ksec : w .sec) {x1 x2 s t} (h : P s)
    (e : execRead x1 x2 s = .next t) : P t := by
  refine keep_answer hp h ?_ e
  repeat'
    first
    | with_reducible assumption
    | with_reducible apply (keep_frameOp C kR know kfree ksram kfab ktick ksched kresets kjobFrames kmonClear kenergy kengines krng kdev ksec)
    | with_reducible apply (C.elapse know) | dsimp only

theorem keep_execWrite (hp : ∀ (s : State) x, P s → P { s with pending := x }) (kR : RaiseSet w) (know : w .now) (kfree : w .free) (ksram : w .sram) (kfab : w .fab) (ktick : w .tick) (ksched : w .sched) (kresets : w .resets) (kjobFrames : w .jobFrames) (kmonClear : w .monClear) (kenergy : w .energy) (kengines : w .engines) (krng : w .rng) (kdev : w .dev) (ksec : w .sec) {x1 x2 s t} (h : P s)
    (e : execWrite x1 x2 s = .next t) : P t := by
  refine keep_answer hp h ?_ e
  repeat'
    first
    | with_reducible assumption
    | with_reducible apply (keep_frameOp C kR know kfree ksram kfab ktick ksched kresets kjobFrames kmonClear kenergy kengines krng kdev ksec)
    | with_reducible apply (C.elapse know) | dsimp only

theorem keep_execRmw (hp : ∀ (s : State) x, P s → P { s with pending := x }) (kR : RaiseSet w) (know : w .now) (kfree : w .free) (ksram : w .sram) (kfab : w .fab) (ktick : w .tick) (ksched : w .sched) (kresets : w .resets) (kjobFrames : w .jobFrames) (kmonClear : w .monClear) (kenergy : w .energy) (kengines : w .engines) (krng : w .rng) (kdev : w .dev) (ksec : w .sec) {x1 x2 s t} (h : P s)
    (e : execRmw x1 x2 s = .next t) : P t := by
  refine keep_answer hp h ?_ e
  repeat'
    first
    | with_reducible assumption
    | with_reducible apply (keep_frameOp C kR know kfree ksram kfab ktick ksched kresets kjobFrames kmonClear kenergy kengines krng kdev ksec)
    | with_reducible apply (C.elapse know) | dsimp only

theorem keep_execBlockRead (hp : ∀ (s : State) x, P s → P { s with pending := x }) (kR : RaiseSet w) (know : w .now) (kfree : w .free) (ksram : w .sram) (kfab : w .fab) (ktick : w .tick) (ksched : w .sched) (kresets : w .resets) (kjobFrames : w .jobFrames) (kmonClear : w .monClear) (kenergy : w .energy) (kengines : w .engines) (krng : w .rng) (kdev : w .dev) (ksec : w .sec) {x1 x2 s t} (h : P s)
    (e : execBlockRead x1 x2 s = .next t) : P t := by
  refine keep_answer hp h ?_ e
  repeat'
    first
    | with_reducible assumption
    | with_reducible apply (keep_frameOp C kR know kfree ksram kfab ktick ksched kresets kjobFrames kmonClear kenergy kengines krng kdev ksec)
    | with_reducible apply (C.elapse know) | dsimp only

theorem keep_execSync (hp : ∀ (s : State) x, P s → P { s with pending := x }) (kR : RaiseSet w) (know : w .now) (kfree : w .free) (ksram : w .sram) (kfab : w .fab) (ktick : w .tick) (ksched : w .sched) (kresets : w .resets) (kjobFrames : w .jobFrames) (kmonClear : w .monClear) (kenergy : w .energy) (kengines : w .engines) (krng : w .rng) (kdev : w .dev) (ksec : w .sec) {x1 x2 s t} (h : P s)
    (e : execSync x1 x2 s = .next t) : P t := by
  refine keep_answer hp h ?_ e
  repeat'
    first
    | with_reducible assumption
    | with_reducible apply (keep_frameOp C kR know kfree ksram kfab ktick ksched kresets kjobFrames kmonClear kenergy kengines krng kdev ksec)
    | with_reducible apply (C.elapse know) | dsimp only

theorem keep_execEventAck (hp : ∀ (s : State) x, P s → P { s with pending := x }) (kR : RaiseSet w) (know : w .now) (kfree : w .free) (ksram : w .sram) (kfab : w .fab) (ktick : w .tick) (ksched : w .sched) (kresets : w .resets) (kjobFrames : w .jobFrames) (kmonClear : w .monClear) (kenergy : w .energy) (kengines : w .engines) (krng : w .rng) (kdev : w .dev) (ksec : w .sec) {x1 x2 s t} (h : P s)
    (e : execEventAck x1 x2 s = .next t) : P t := by
  refine keep_answer hp h ?_ e
  repeat'
    first
    | with_reducible assumption
    | with_reducible apply (keep_frameOp C kR know kfree ksram kfab ktick ksched kresets kjobFrames kmonClear kenergy kengines krng kdev ksec)
    | with_reducible apply (C.elapse know) | dsimp only

theorem keep_execSidebandRegisterFrame (hp : ∀ (s : State) x, P s → P { s with pending := x }) (kR : RaiseSet w) (know : w .now) (kfree : w .free) (ksram : w .sram) (kfab : w .fab) (ktick : w .tick) (ksched : w .sched) (kresets : w .resets) (kjobFrames : w .jobFrames) (kmonClear : w .monClear) (kenergy : w .energy) (kengines : w .engines) (krng : w .rng) (kdev : w .dev) (ksec : w .sec) {x1 x2 s t} (h : P s)
    (e : execSidebandRegisterFrame x1 x2 s = .next t) : P t := by
  refine keep_answer hp h ?_ e
  repeat'
    first
    | with_reducible assumption
    | with_reducible apply (keep_sidebandMsg C kR know kfree ksram kfab ktick ksched kresets kjobFrames kmonClear kenergy kengines krng kdev ksec)
    | with_reducible apply (C.elapse know) | dsimp only

/-! ## Every command -/

/-- What a command keeps. -/
theorem exec_keeps (hp : ∀ (s : State) x, P s → P { s with pending := x }) {i : Instr} (hw : ∀ f ∈ writes i, w f) {s t} (h : P s)
    (e : exec i s = .next t) : P t := by
  cases i with
  | registerWrite _ _ _ =>
    exact keep_execRegisterWrite C hp (.of (l := [.now, .free, .sram, .fab, .tick, .sched, .resets, .jobFrames,
      .monClear, .energy, .engines, .rng, .dev, .sec]) hw) (hw _ (inRest (by decide)))
      (hw _ (inRest (by decide))) (hw _ (inRest (by decide))) (hw _ (inRest (by decide)))
      (hw _ (inRest (by decide))) (hw _ (inRest (by decide))) (hw _ (inRest (by decide)))
      (hw _ (inRest (by decide))) (hw _ (inRest (by decide))) (hw _ (inRest (by decide)))
      (hw _ (inRest (by decide))) (hw _ (inRest (by decide))) (hw _ (inRest (by decide)))
      (hw _ (inRest (by decide))) h e
  | w1cClear _ _ _ =>
    exact keep_execW1cClear C hp (.of (l := [.now, .free, .sram, .fab, .tick, .sched, .resets, .jobFrames,
      .monClear, .energy, .engines, .rng, .dev, .sec]) hw) (hw _ (inRest (by decide)))
      (hw _ (inRest (by decide))) (hw _ (inRest (by decide))) (hw _ (inRest (by decide)))
      (hw _ (inRest (by decide))) (hw _ (inRest (by decide))) (hw _ (inRest (by decide)))
      (hw _ (inRest (by decide))) (hw _ (inRest (by decide))) (hw _ (inRest (by decide)))
      (hw _ (inRest (by decide))) (hw _ (inRest (by decide))) (hw _ (inRest (by decide)))
      (hw _ (inRest (by decide))) h e
  | readClear _ _ => exact keep_execReadClear C hp (.of (l := [.free]) hw) (hw _ (inRest (by decide))) h e
  | loRead _ _ => exact keep_execLoRead C hp (.of (l := [.free]) hw) (hw _ (inRest (by decide))) h e
  | loWrite _ _ _ =>
    exact keep_execLoWrite C hp (.of (l := [.now, .free, .sram, .fab, .tick, .sched, .resets, .jobFrames,
      .monClear, .energy, .engines, .rng, .dev, .sec]) hw) (hw _ (inRest (by decide)))
      (hw _ (inRest (by decide))) (hw _ (inRest (by decide))) (hw _ (inRest (by decide)))
      (hw _ (inRest (by decide))) (hw _ (inRest (by decide))) (hw _ (inRest (by decide)))
      (hw _ (inRest (by decide))) (hw _ (inRest (by decide))) (hw _ (inRest (by decide)))
      (hw _ (inRest (by decide))) (hw _ (inRest (by decide))) (hw _ (inRest (by decide)))
      (hw _ (inRest (by decide))) h e
  | hiWrite _ _ _ =>
    exact keep_execHiWrite C hp (.of (l := [.now, .free, .sram, .fab, .tick, .sched, .resets, .jobFrames,
      .monClear, .energy, .engines, .rng, .dev, .sec]) hw) (hw _ (inRest (by decide)))
      (hw _ (inRest (by decide))) (hw _ (inRest (by decide))) (hw _ (inRest (by decide)))
      (hw _ (inRest (by decide))) (hw _ (inRest (by decide))) (hw _ (inRest (by decide)))
      (hw _ (inRest (by decide))) (hw _ (inRest (by decide))) (hw _ (inRest (by decide)))
      (hw _ (inRest (by decide))) (hw _ (inRest (by decide))) (hw _ (inRest (by decide)))
      (hw _ (inRest (by decide))) h e
  | pageFreeze _ _ _ =>
    exact keep_execPageFreeze C hp (.of (l := [.now, .free, .sram, .fab, .tick, .sched, .resets, .jobFrames,
      .monClear, .energy, .engines, .rng, .dev, .sec]) hw) (hw _ (inRest (by decide)))
      (hw _ (inRest (by decide))) (hw _ (inRest (by decide))) (hw _ (inRest (by decide)))
      (hw _ (inRest (by decide))) (hw _ (inRest (by decide))) (hw _ (inRest (by decide)))
      (hw _ (inRest (by decide))) (hw _ (inRest (by decide))) (hw _ (inRest (by decide)))
      (hw _ (inRest (by decide))) (hw _ (inRest (by decide))) (hw _ (inRest (by decide)))
      (hw _ (inRest (by decide))) h e
  | pageEnable _ _ _ =>
    exact keep_execPageEnable C hp (.of (l := [.now, .free, .sram, .fab, .tick, .sched, .resets, .jobFrames,
      .monClear, .energy, .engines, .rng, .dev, .sec]) hw) (hw _ (inRest (by decide)))
      (hw _ (inRest (by decide))) (hw _ (inRest (by decide))) (hw _ (inRest (by decide)))
      (hw _ (inRest (by decide))) (hw _ (inRest (by decide))) (hw _ (inRest (by decide)))
      (hw _ (inRest (by decide))) (hw _ (inRest (by decide))) (hw _ (inRest (by decide)))
      (hw _ (inRest (by decide))) (hw _ (inRest (by decide))) (hw _ (inRest (by decide)))
      (hw _ (inRest (by decide))) h e
  | coldBringup _ =>
    exact keep_execColdBringup C hp (.ofAll hw) (hw _ (Fld.mem_all _)) (hw _ (Fld.mem_all _)) (hw _ (Fld.mem_all
      _)) (hw _ (Fld.mem_all _)) (hw _ (Fld.mem_all _)) (hw _ (Fld.mem_all _)) (hw _ (Fld.mem_all _)) (hw _
      (Fld.mem_all _)) (hw _ (Fld.mem_all _)) (hw _ (Fld.mem_all _)) (hw _ (Fld.mem_all _)) (hw _ (Fld.mem_all
      _)) (hw _ (Fld.mem_all _)) (hw _ (Fld.mem_all _)) (hw _ (Fld.mem_all _)) (hw _ (Fld.mem_all _)) (hw _
      (Fld.mem_all _)) (hw _ (Fld.mem_all _)) h e
  | coldReset _ =>
    exact keep_execColdReset C hp (.ofAll hw) (hw _ (Fld.mem_all _)) (hw _ (Fld.mem_all _)) (hw _ (Fld.mem_all
      _)) (hw _ (Fld.mem_all _)) (hw _ (Fld.mem_all _)) (hw _ (Fld.mem_all _)) (hw _ (Fld.mem_all _)) (hw _
      (Fld.mem_all _)) (hw _ (Fld.mem_all _)) (hw _ (Fld.mem_all _)) (hw _ (Fld.mem_all _)) (hw _ (Fld.mem_all
      _)) (hw _ (Fld.mem_all _)) (hw _ (Fld.mem_all _)) (hw _ (Fld.mem_all _)) (hw _ (Fld.mem_all _)) (hw _
      (Fld.mem_all _)) (hw _ (Fld.mem_all _)) h e
  | railFault _ => exact keep_execRailFault C hp (.of (l := []) hw) h e
  | warmReset _ _ =>
    exact keep_execWarmReset C hp (.ofAll hw) (hw _ (Fld.mem_all _)) (hw _ (Fld.mem_all _)) (hw _ (Fld.mem_all
      _)) (hw _ (Fld.mem_all _)) (hw _ (Fld.mem_all _)) (hw _ (Fld.mem_all _)) (hw _ (Fld.mem_all _)) (hw _
      (Fld.mem_all _)) (hw _ (Fld.mem_all _)) (hw _ (Fld.mem_all _)) (hw _ (Fld.mem_all _)) (hw _ (Fld.mem_all
      _)) (hw _ (Fld.mem_all _)) (hw _ (Fld.mem_all _)) (hw _ (Fld.mem_all _)) (hw _ (Fld.mem_all _)) (hw _
      (Fld.mem_all _)) (hw _ (Fld.mem_all _)) h e
  | watchdogExpiry => exact keep_execWatchdogExpiry C hp (.of (l := [.dev]) hw) (hw _ (inRest (by decide))) h e
  | thermalSample _ =>
    exact keep_execThermalSample C hp (.of (l := [.free, .energy, .dev]) hw) (hw _ (inRest (by decide)))
      (hw _ (inRest (by decide))) (hw _ (inRest (by decide))) h e
  | defectLogWrite _ _ =>
    exact keep_execDefectLogWrite C hp (.of (l := [.dev]) hw) (hw _ (inRest (by decide))) h e
  | tickBoundary _ =>
    exact keep_execTickBoundary C hp (.of (l := [.now, .fab, .tick, .resets, .energy, .dig]) hw)
      (hw _ (inRest (by decide))) (hw _ (inRest (by decide))) (hw _ (inRest (by decide)))
      (hw _ (inRest (by decide))) (hw _ (inRest (by decide))) (hw _ (inRest (by decide))) h e
  | frameBoundary =>
    exact keep_execFrameBoundary C hp (.of (l := [.fab, .tick, .jobFrames, .live, .monOn, .monClear, .energy,
      .engines, .rng, .dig]) hw) (hw _ (inRest (by decide))) (hw _ (inRest (by decide)))
      (hw _ (inRest (by decide))) (hw _ (inRest (by decide))) (hw _ (inRest (by decide)))
      (hw _ (inRest (by decide))) (hw _ (inRest (by decide))) (hw _ (inRest (by decide)))
      (hw _ (inRest (by decide))) (hw _ (inRest (by decide))) h e
  | tickStart _ _ => exact keep_execTickStart C hp (.of (l := [.tick]) hw) (hw _ (inRest (by decide))) h e
  | tickMarker _ _ =>
    exact keep_execTickMarker C hp (.of (l := [.now, .tick, .energy, .dev, .sec]) hw)
      (hw _ (inRest (by decide))) (hw _ (inRest (by decide))) (hw _ (inRest (by decide)))
      (hw _ (inRest (by decide))) (hw _ (inRest (by decide))) h e
  | holdoverExceeded =>
    exact keep_execHoldoverExceeded C hp (.of (l := [.now, .tick]) hw) (hw _ (inRest (by decide)))
      (hw _ (inRest (by decide))) h e
  | fclkLock _ =>
    exact keep_execFclkLock C hp (hw .now (listed (l := [.now, .tick]) (by decide))) (hw .tick (listed (l :=
      [.now, .tick]) (by decide))) h e
  | load _ => exact keep_execLoad C hp (.of (l := [.sched]) hw) (hw _ (inRest (by decide))) h e
  | verifyDone => exact keep_execVerifyDone C hp (.of (l := [.sched]) hw) (hw _ (inRest (by decide))) h e
  | arm _ => exact keep_execArm C hp (.of (l := [.sched]) hw) (hw _ (inRest (by decide))) h e
  | abort _ => exact keep_execAbort C hp (.of (l := [.sched]) hw) (hw _ (inRest (by decide))) h e
  | shadowReady =>
    exact keep_execShadowReady C hp (hw .cores (listed (l := [.cores, .sched]) (by decide))) (hw .sched (listed
      (l := [.cores, .sched]) (by decide))) h e
  | imageActivation =>
    exact keep_execImageActivation C hp (.of (l := [.fab, .sched, .energy, .sec]) hw)
      (hw _ (inRest (by decide))) (hw _ (inRest (by decide))) (hw _ (inRest (by decide)))
      (hw _ (inRest (by decide))) h e
  | nop _ _ _ _ =>
    exact keep_execNop C hp (.of (l := [.now, .fab, .energy]) hw) (hw _ (inRest (by decide)))
      (hw _ (inRest (by decide))) (hw _ (inRest (by decide))) h e
  | fend _ _ _ _ =>
    exact keep_execFend C hp (.of (l := [.now, .fab, .energy]) hw) (hw _ (inRest (by decide)))
      (hw _ (inRest (by decide))) (hw _ (inRest (by decide))) h e
  | jump _ _ _ _ =>
    exact keep_execJump C hp (.of (l := [.now, .fab, .energy]) hw) (hw _ (inRest (by decide)))
      (hw _ (inRest (by decide))) (hw _ (inRest (by decide))) h e
  | loop _ _ _ _ =>
    exact keep_execLoop C hp (.of (l := [.now, .fab, .energy]) hw) (hw _ (inRest (by decide)))
      (hw _ (inRest (by decide))) (hw _ (inRest (by decide))) h e
  | mask _ _ _ _ =>
    exact keep_execMask C hp (.of (l := [.now, .fab, .energy]) hw) (hw _ (inRest (by decide)))
      (hw _ (inRest (by decide))) (hw _ (inRest (by decide))) h e
  | ctok _ _ _ _ =>
    exact keep_execCtok C hp (.of (l := [.now, .fab, .energy]) hw) (hw _ (inRest (by decide)))
      (hw _ (inRest (by decide))) (hw _ (inRest (by decide))) h e
  | mma _ _ _ _ =>
    exact keep_execMma C hp (.of (l := [.now, .fab, .energy]) hw) (hw _ (inRest (by decide)))
      (hw _ (inRest (by decide))) (hw _ (inRest (by decide))) h e
  | mmaBegin _ _ _ =>
    exact keep_execMmaBegin C hp (.of (l := [.now, .sram]) hw) (hw _ (inRest (by decide)))
      (hw _ (inRest (by decide))) h e
  | mmaComplete _ _ =>
    exact keep_execMmaComplete C hp (.of (l := [.now, .sram, .live, .energy]) hw) (hw _ (inRest (by decide)))
      (hw _ (inRest (by decide))) (hw _ (inRest (by decide))) (hw _ (inRest (by decide))) h e
  | add _ _ _ _ =>
    exact keep_execAdd C hp (.of (l := [.now, .fab, .energy]) hw) (hw _ (inRest (by decide)))
      (hw _ (inRest (by decide))) (hw _ (inRest (by decide))) h e
  | sub _ _ _ _ =>
    exact keep_execSub C hp (.of (l := [.now, .fab, .energy]) hw) (hw _ (inRest (by decide)))
      (hw _ (inRest (by decide))) (hw _ (inRest (by decide))) h e
  | mul _ _ _ _ =>
    exact keep_execMul C hp (.of (l := [.now, .fab, .energy]) hw) (hw _ (inRest (by decide)))
      (hw _ (inRest (by decide))) (hw _ (inRest (by decide))) h e
  | max _ _ _ _ =>
    exact keep_execMax C hp (.of (l := [.now, .fab, .energy]) hw) (hw _ (inRest (by decide)))
      (hw _ (inRest (by decide))) (hw _ (inRest (by decide))) h e
  | min _ _ _ _ =>
    exact keep_execMin C hp (.of (l := [.now, .fab, .energy]) hw) (hw _ (inRest (by decide)))
      (hw _ (inRest (by decide))) (hw _ (inRest (by decide))) h e
  | fma _ _ _ _ =>
    exact keep_execFma C hp (.of (l := [.now, .fab, .energy]) hw) (hw _ (inRest (by decide)))
      (hw _ (inRest (by decide))) (hw _ (inRest (by decide))) h e
  | scl _ _ _ _ =>
    exact keep_execScl C hp (.of (l := [.now, .fab, .energy]) hw) (hw _ (inRest (by decide)))
      (hw _ (inRest (by decide))) (hw _ (inRest (by decide))) h e
  | cvt _ _ _ _ =>
    exact keep_execCvt C hp (.of (l := [.now, .fab, .energy]) hw) (hw _ (inRest (by decide)))
      (hw _ (inRest (by decide))) (hw _ (inRest (by decide))) h e
  | exp _ _ _ _ =>
    exact keep_execExp C hp (.of (l := [.now, .fab, .energy]) hw) (hw _ (inRest (by decide)))
      (hw _ (inRest (by decide))) (hw _ (inRest (by decide))) h e
  | log _ _ _ _ =>
    exact keep_execLog C hp (.of (l := [.now, .fab, .energy]) hw) (hw _ (inRest (by decide)))
      (hw _ (inRest (by decide))) (hw _ (inRest (by decide))) h e
  | rsqrt _ _ _ _ =>
    exact keep_execRsqrt C hp (.of (l := [.now, .fab, .energy]) hw) (hw _ (inRest (by decide)))
      (hw _ (inRest (by decide))) (hw _ (inRest (by decide))) h e
  | recip _ _ _ _ =>
    exact keep_execRecip C hp (.of (l := [.now, .fab, .energy]) hw) (hw _ (inRest (by decide)))
      (hw _ (inRest (by decide))) (hw _ (inRest (by decide))) h e
  | tanh _ _ _ _ =>
    exact keep_execTanh C hp (.of (l := [.now, .fab, .energy]) hw) (hw _ (inRest (by decide)))
      (hw _ (inRest (by decide))) (hw _ (inRest (by decide))) h e
  | sigmoid _ _ _ _ =>
    exact keep_execSigmoid C hp (.of (l := [.now, .fab, .energy]) hw) (hw _ (inRest (by decide)))
      (hw _ (inRest (by decide))) (hw _ (inRest (by decide))) h e
  | rsum _ _ _ _ =>
    exact keep_execRsum C hp (.of (l := [.now, .fab, .energy]) hw) (hw _ (inRest (by decide)))
      (hw _ (inRest (by decide))) (hw _ (inRest (by decide))) h e
  | rmax _ _ _ _ =>
    exact keep_execRmax C hp (.of (l := [.now, .fab, .energy]) hw) (hw _ (inRest (by decide)))
      (hw _ (inRest (by decide))) (hw _ (inRest (by decide))) h e
  | ucall _ _ _ _ =>
    exact keep_execUcall C hp (.of (l := [.now, .fab, .energy]) hw) (hw _ (inRest (by decide)))
      (hw _ (inRest (by decide))) (hw _ (inRest (by decide))) h e
  | qcrumb _ _ _ _ =>
    exact keep_execQcrumb C hp (.of (l := [.now, .fab, .energy]) hw) (hw _ (inRest (by decide)))
      (hw _ (inRest (by decide))) (hw _ (inRest (by decide))) h e
  | vecBegin _ _ _ =>
    exact keep_execVecBegin C hp (.of (l := [.now, .sram]) hw) (hw _ (inRest (by decide)))
      (hw _ (inRest (by decide))) h e
  | vecComplete _ _ =>
    exact keep_execVecComplete C hp (.of (l := [.now, .sram, .live, .energy]) hw) (hw _ (inRest (by decide)))
      (hw _ (inRest (by decide))) (hw _ (inRest (by decide))) (hw _ (inRest (by decide))) h e
  | send _ _ _ _ =>
    exact keep_execSend C hp (.of (l := [.now, .fab, .energy]) hw) (hw _ (inRest (by decide)))
      (hw _ (inRest (by decide))) (hw _ (inRest (by decide))) h e
  | recv _ _ _ _ =>
    exact keep_execRecv C hp (.of (l := [.now, .fab, .energy]) hw) (hw _ (inRest (by decide)))
      (hw _ (inRest (by decide))) (hw _ (inRest (by decide))) h e
  | hrd _ _ _ _ =>
    exact keep_execHrd C hp (.of (l := [.now, .fab, .energy]) hw) (hw _ (inRest (by decide)))
      (hw _ (inRest (by decide))) (hw _ (inRest (by decide))) h e
  | hwr _ _ _ _ =>
    exact keep_execHwr C hp (.of (l := [.now, .fab, .energy]) hw) (hw _ (inRest (by decide)))
      (hw _ (inRest (by decide))) (hw _ (inRest (by decide))) h e
  | ssend _ _ _ _ =>
    exact keep_execSsend C hp (.of (l := [.now, .fab, .energy]) hw) (hw _ (inRest (by decide)))
      (hw _ (inRest (by decide))) (hw _ (inRest (by decide))) h e
  | srecv _ _ _ _ =>
    exact keep_execSrecv C hp (.of (l := [.now, .fab, .energy]) hw) (hw _ (inRest (by decide)))
      (hw _ (inRest (by decide))) (hw _ (inRest (by decide))) h e
  | movBegin _ _ _ =>
    exact keep_execMovBegin C hp (hw .now (listed (l := [.now, .cores, .fab]) (by decide))) (hw .cores (listed
      (l := [.now, .cores, .fab]) (by decide))) (hw .fab (listed (l := [.now, .cores, .fab]) (by decide))) h e
  | sendComplete _ _ _ _ _ =>
    exact keep_execSendComplete C hp (.of (l := [.now, .fab, .energy]) hw) (hw _ (inRest (by decide)))
      (hw _ (inRest (by decide))) (hw _ (inRest (by decide))) h e
  | recvComplete _ _ _ _ =>
    exact keep_execRecvComplete C hp (.of (l := [.now]) hw) (hw _ (inRest (by decide))) h e
  | hrdComplete _ _ _ =>
    exact keep_execHrdComplete C hp (.of (l := [.now, .sram, .energy]) hw) (hw _ (inRest (by decide)))
      (hw _ (inRest (by decide))) (hw _ (inRest (by decide))) h e
  | hwrComplete _ _ _ =>
    exact keep_execHwrComplete C hp (.of (l := [.now, .energy]) hw) (hw _ (inRest (by decide)))
      (hw _ (inRest (by decide))) h e
  | li _ _ _ _ =>
    exact keep_execLi C hp (.of (l := [.now, .fab, .energy]) hw) (hw _ (inRest (by decide)))
      (hw _ (inRest (by decide))) (hw _ (inRest (by decide))) h e
  | addi _ _ _ _ =>
    exact keep_execAddi C hp (.of (l := [.now, .fab, .energy]) hw) (hw _ (inRest (by decide)))
      (hw _ (inRest (by decide))) (hw _ (inRest (by decide))) h e
  | tdb _ _ _ _ =>
    exact keep_execTdb C hp (.of (l := [.now, .fab, .energy]) hw) (hw _ (inRest (by decide)))
      (hw _ (inRest (by decide))) (hw _ (inRest (by decide))) h e
  | tagSet _ _ _ _ =>
    exact keep_execTagSet C hp (.of (l := [.now, .fab, .energy]) hw) (hw _ (inRest (by decide)))
      (hw _ (inRest (by decide))) (hw _ (inRest (by decide))) h e
  | tagClr _ _ _ _ =>
    exact keep_execTagClr C hp (.of (l := [.now, .fab, .energy]) hw) (hw _ (inRest (by decide)))
      (hw _ (inRest (by decide))) (hw _ (inRest (by decide))) h e
  | vread _ _ _ _ =>
    exact keep_execVread C hp (.of (l := [.now, .fab, .energy]) hw) (hw _ (inRest (by decide)))
      (hw _ (inRest (by decide))) (hw _ (inRest (by decide))) h e
  | vdone _ _ _ _ =>
    exact keep_execVdone C hp (.of (l := [.now, .fab, .energy]) hw) (hw _ (inRest (by decide)))
      (hw _ (inRest (by decide))) (hw _ (inRest (by decide))) h e
  | vpub _ _ _ _ =>
    exact keep_execVpub C hp (.of (l := [.now, .fab, .energy]) hw) (hw _ (inRest (by decide)))
      (hw _ (inRest (by decide))) (hw _ (inRest (by decide))) h e
  | notReady _ _ => exact keep_execNotReady C hp (.of (l := [.now]) hw) (hw _ (inRest (by decide))) h e
  | coreSramDataRead _ _ _ =>
    exact keep_execCoreSramDataRead C hp (.of (l := [.free]) hw) (hw _ (inRest (by decide))) h e
  | coreSramDataWrite _ _ _ =>
    exact keep_execCoreSramDataWrite C hp (.of (l := [.sram]) hw) (hw _ (inRest (by decide))) h e
  | nummonClear _ _ =>
    exact keep_execNummonClear C hp (hw .monClear (listed (l := [.monClear]) (by decide))) h e
  | flitForward _ _ _ _ =>
    exact keep_execFlitForward C hp (.of (l := [.now, .fab, .energy, .dev]) hw) (hw _ (inRest (by decide)))
      (hw _ (inRest (by decide))) (hw _ (inRest (by decide))) (hw _ (inRest (by decide))) h e
  | flitArrive _ _ _ _ _ =>
    exact keep_execFlitArrive C hp (.of (l := [.now, .fab, .energy, .dev]) hw) (hw _ (inRest (by decide)))
      (hw _ (inRest (by decide))) (hw _ (inRest (by decide))) (hw _ (inRest (by decide))) h e
  | creditReturn _ _ _ _ =>
    exact keep_execCreditReturn C hp (hw .now (listed (l := [.now, .cores, .fab]) (by decide))) (hw .cores
      (listed (l := [.now, .cores, .fab]) (by decide))) (hw .fab (listed (l := [.now, .cores, .fab]) (by
      decide))) h e
  | flitLand _ _ _ =>
    exact keep_execFlitLand C hp (.of (l := [.now, .sram, .energy]) hw) (hw _ (inRest (by decide)))
      (hw _ (inRest (by decide))) (hw _ (inRest (by decide))) h e
  | tokenArrive _ _ _ =>
    exact keep_execTokenArrive C hp (.of (l := [.now, .fab]) hw) (hw _ (inRest (by decide)))
      (hw _ (inRest (by decide))) h e
  | sealArrive _ _ _ _ => exact keep_execSealArrive C hp (.of (l := [.now]) hw) (hw _ (inRest (by decide))) h e
  | spillModeRequest _ _ =>
    exact keep_execSpillModeRequest C hp (.of (l := [.sram, .fab]) hw) (hw _ (inRest (by decide)))
      (hw _ (inRest (by decide))) h e
  | spillModeExit _ _ =>
    exact keep_execSpillModeExit C hp (hw .regs (listed (l := [.regs, .cores]) (by decide))) (hw .cores (listed
      (l := [.regs, .cores]) (by decide))) h e
  | deadlockDetect _ =>
    exact keep_execDeadlockDetect C hp (.of (l := [.now, .sram, .fab, .dev]) hw) (hw _ (inRest (by decide)))
      (hw _ (inRest (by decide))) (hw _ (inRest (by decide))) (hw _ (inRest (by decide))) h e
  | spillAreaClear _ _ => exact keep_execSpillAreaClear C hp (hw .regs (listed (l := [.regs]) (by decide))) h e
  | reduceDescriptor _ _ _ _ =>
    exact keep_execReduceDescriptor C hp (.of (l := [.now, .engines]) hw) (hw _ (inRest (by decide)))
      (hw _ (inRest (by decide))) h e
  | reduceContribution _ _ _ _ =>
    exact keep_execReduceContribution C hp (.of (l := [.now, .energy, .engines]) hw) (hw _ (inRest (by decide)))
      (hw _ (inRest (by decide))) (hw _ (inRest (by decide))) h e
  | reduceUnitDeliver _ _ _ _ _ =>
    exact keep_execReduceUnitDeliver C hp (.of (l := [.now, .fab, .energy, .engines]) hw)
      (hw _ (inRest (by decide))) (hw _ (inRest (by decide))) (hw _ (inRest (by decide)))
      (hw _ (inRest (by decide))) h e
  | moveIssue _ _ => exact keep_execMoveIssue C hp (.of (l := []) hw) h e
  | moveLineLand _ _ _ _ _ =>
    exact keep_execMoveLineLand C hp (.of (l := [.now, .energy]) hw) (hw _ (inRest (by decide)))
      (hw _ (inRest (by decide))) h e
  | moveComplete _ _ _ =>
    exact keep_execMoveComplete C hp (.of (l := [.now, .energy, .rng]) hw) (hw _ (inRest (by decide)))
      (hw _ (inRest (by decide))) (hw _ (inRest (by decide))) h e
  | deadlineMiss _ _ => exact keep_execDeadlineMiss C hp (.of (l := []) hw) h e
  | manualMove _ _ _ => exact keep_execManualMove C hp (.of (l := []) hw) h e
  | manualMoveComplete _ _ =>
    exact keep_execManualMoveComplete C hp (.of (l := [.now, .energy, .rng]) hw) (hw _ (inRest (by decide)))
      (hw _ (inRest (by decide))) (hw _ (inRest (by decide))) h e
  | windowWrite _ _ _ _ => exact keep_execWindowWrite C hp (.of (l := []) hw) h e
  | moveEngineReset _ _ =>
    exact keep_execMoveEngineReset C hp (hw .regs (listed (l := [.regs, .hub, .hbm, .faults, .mem, .cairn]) (by
      decide))) (hw .hub (listed (l := [.regs, .hub, .hbm, .faults, .mem, .cairn]) (by decide))) (hw .hbm
      (listed (l := [.regs, .hub, .hbm, .faults, .mem, .cairn]) (by decide))) (hw .faults (listed (l := [.regs,
      .hub, .hbm, .faults, .mem, .cairn]) (by decide))) (hw .mem (listed (l := [.regs, .hub, .hbm, .faults,
      .mem, .cairn]) (by decide))) (hw .cairn (listed (l := [.regs, .hub, .hbm, .faults, .mem, .cairn]) (by
      decide))) h e
  | scrubLine _ _ _ _ => exact keep_execScrubLine C hp (.of (l := [.now]) hw) (hw _ (inRest (by decide))) h e
  | keyLoad _ _ => exact keep_execKeyLoad C hp (.of (l := []) hw) h e
  | keySwitch _ _ => exact keep_execKeySwitch C hp (.of (l := []) hw) h e
  | keySweep _ _ => exact keep_execKeySweep C hp (.of (l := []) hw) h e
  | keyClear _ _ => exact keep_execKeyClear C hp (.of (l := []) hw) h e
  | sweepLine _ _ _ _ _ => exact keep_execSweepLine C hp (.of (l := [.now]) hw) (hw _ (inRest (by decide))) h e
  | sweepFinish _ _ =>
    exact keep_execSweepFinish C hp (hw .now (listed (l := [.now, .mem]) (by decide))) (hw .mem (listed (l :=
      [.now, .mem]) (by decide))) h e
  | keyErase _ _ =>
    exact keep_execKeyErase C hp (hw .now (listed (l := [.now, .regs, .mem]) (by decide))) (hw .regs (listed (l
      := [.now, .regs, .mem]) (by decide))) (hw .mem (listed (l := [.now, .regs, .mem]) (by decide))) h e
  | colTake _ _ _ =>
    exact keep_execColTake C hp (.of (l := [.now, .fab, .engines]) hw) (hw _ (inRest (by decide)))
      (hw _ (inRest (by decide))) (hw _ (inRest (by decide))) h e
  | linkFrameLaunch _ _ =>
    exact keep_execLinkFrameLaunch C hp (.of (l := [.now, .energy]) hw) (hw _ (inRest (by decide)))
      (hw _ (inRest (by decide))) h e
  | linkFrameVerdict _ _ _ _ =>
    exact keep_execLinkFrameVerdict C hp (.of (l := [.now]) hw) (hw _ (inRest (by decide))) h e
  | replayRelaunch _ _ =>
    exact keep_execReplayRelaunch C hp (.of (l := [.now]) hw) (hw _ (inRest (by decide))) h e
  | linkSlotDeliver _ _ =>
    exact keep_execLinkSlotDeliver C hp (.of (l := [.now, .fab, .energy, .engines]) hw)
      (hw _ (inRest (by decide))) (hw _ (inRest (by decide))) (hw _ (inRest (by decide)))
      (hw _ (inRest (by decide))) h e
  | txLate _ _ => exact keep_execTxLate C hp (.of (l := [.now]) hw) (hw _ (inRest (by decide))) h e
  | linkDown _ _ _ => exact keep_execLinkDown C hp (.of (l := [.now]) hw) (hw _ (inRest (by decide))) h e
  | linkRetrain _ _ => exact keep_execLinkRetrain C hp (.of (l := []) hw) h e
  | linkPageReset _ _ => exact keep_execLinkPageReset C hp (.of (l := []) hw) h e
  | linkDetectDone _ _ =>
    exact keep_execLinkDetectDone C hp (.of (l := [.now]) hw) (hw _ (inRest (by decide))) h e
  | linkEqualiseDone _ _ =>
    exact keep_execLinkEqualiseDone C hp (.of (l := [.now]) hw) (hw _ (inRest (by decide))) h e
  | linkCheckDone _ _ _ =>
    exact keep_execLinkCheckDone C hp (.of (l := [.now]) hw) (hw _ (inRest (by decide))) h e
  | linkNegotiateDone _ _ _ =>
    exact keep_execLinkNegotiateDone C hp (.of (l := [.now]) hw) (hw _ (inRest (by decide))) h e
  | linkTrainTimeout _ _ =>
    exact keep_execLinkTrainTimeout C hp (.of (l := [.now]) hw) (hw _ (inRest (by decide))) h e
  | ethFrameReceive _ _ _ _ =>
    exact keep_execEthFrameReceive C hp (.of (l := [.now]) hw) (hw _ (inRest (by decide))) h e
  | ethLinkChange _ _ _ =>
    exact keep_execEthLinkChange C hp (.of (l := [.now]) hw) (hw _ (inRest (by decide))) h e
  | eventLand _ =>
    exact keep_execEventLand C hp (.of (l := [.now, .sram, .energy]) hw) (hw _ (inRest (by decide)))
      (hw _ (inRest (by decide))) (hw _ (inRest (by decide))) h e
  | gatherBoundary => exact keep_execGatherBoundary C hp (.of (l := [.now]) hw) (hw _ (inRest (by decide))) h e
  | stepHeaderLand _ =>
    exact keep_execStepHeaderLand C hp (.of (l := [.now, .sram, .energy]) hw) (hw _ (inRest (by decide)))
      (hw _ (inRest (by decide))) (hw _ (inRest (by decide))) h e
  | insert _ => exact keep_execInsert C hp (.of (l := []) hw) h e
  | modify _ => exact keep_execModify C hp (.of (l := []) hw) h e
  | delete _ => exact keep_execDelete C hp (.of (l := []) hw) h e
  | lookup _ => exact keep_execLookup C hp (.of (l := []) hw) h e
  | inRead _ => exact keep_execInRead C hp (.of (l := []) hw) h e
  | inWrite _ => exact keep_execInWrite C hp (.of (l := []) hw) h e
  | join _ => exact keep_execJoin C hp (.of (l := []) hw) h e
  | leave _ => exact keep_execLeave C hp (.of (l := []) hw) h e
  | srvModelWrite _ _ => exact keep_execSrvModelWrite C hp (hw .serve (listed (l := [.serve]) (by decide))) h e
  | srvGatherWrite _ _ => exact keep_execSrvGatherWrite C hp (.of (l := []) hw) h e
  | feedGeomWrite _ _ _ => exact keep_execFeedGeomWrite C hp (.of (l := []) hw) h e
  | srvCurWrite _ _ => exact keep_execSrvCurWrite C hp (.of (l := []) hw) h e
  | srvPairWrite _ _ => exact keep_execSrvPairWrite C hp (.of (l := []) hw) h e
  | resultLine _ _ _ _ _ =>
    exact keep_execResultLine C hp (.of (l := [.now, .fab, .energy]) hw) (hw _ (inRest (by decide)))
      (hw _ (inRest (by decide))) (hw _ (inRest (by decide))) h e
  | decisionFrameTransmit _ _ =>
    exact keep_execDecisionFrameTransmit C hp (.of (l := [.now]) hw) (hw _ (inRest (by decide))) h e
  | egDataWrite _ _ =>
    exact keep_execEgDataWrite C hp (hw .regs (listed (l := [.regs, .serve]) (by decide))) (hw .serve (listed (l
      := [.regs, .serve]) (by decide))) h e
  | todSet _ _ => exact keep_execTodSet C hp (hw .serve (listed (l := [.serve]) (by decide))) h e
  | read _ _ =>
    exact keep_execRead C hp (.of (l := [.now, .free, .sram, .fab, .tick, .sched, .resets, .jobFrames,
      .monClear, .energy, .engines, .rng, .dev, .sec]) hw) (hw _ (inRest (by decide)))
      (hw _ (inRest (by decide))) (hw _ (inRest (by decide))) (hw _ (inRest (by decide)))
      (hw _ (inRest (by decide))) (hw _ (inRest (by decide))) (hw _ (inRest (by decide)))
      (hw _ (inRest (by decide))) (hw _ (inRest (by decide))) (hw _ (inRest (by decide)))
      (hw _ (inRest (by decide))) (hw _ (inRest (by decide))) (hw _ (inRest (by decide)))
      (hw _ (inRest (by decide))) h e
  | write _ _ =>
    exact keep_execWrite C hp (.of (l := [.now, .free, .sram, .fab, .tick, .sched, .resets, .jobFrames,
      .monClear, .energy, .engines, .rng, .dev, .sec]) hw) (hw _ (inRest (by decide)))
      (hw _ (inRest (by decide))) (hw _ (inRest (by decide))) (hw _ (inRest (by decide)))
      (hw _ (inRest (by decide))) (hw _ (inRest (by decide))) (hw _ (inRest (by decide)))
      (hw _ (inRest (by decide))) (hw _ (inRest (by decide))) (hw _ (inRest (by decide)))
      (hw _ (inRest (by decide))) (hw _ (inRest (by decide))) (hw _ (inRest (by decide)))
      (hw _ (inRest (by decide))) h e
  | rmw _ _ =>
    exact keep_execRmw C hp (.of (l := [.now, .free, .sram, .fab, .tick, .sched, .resets, .jobFrames, .monClear,
      .energy, .engines, .rng, .dev, .sec]) hw) (hw _ (inRest (by decide))) (hw _ (inRest (by decide)))
      (hw _ (inRest (by decide))) (hw _ (inRest (by decide))) (hw _ (inRest (by decide)))
      (hw _ (inRest (by decide))) (hw _ (inRest (by decide))) (hw _ (inRest (by decide)))
      (hw _ (inRest (by decide))) (hw _ (inRest (by decide))) (hw _ (inRest (by decide)))
      (hw _ (inRest (by decide))) (hw _ (inRest (by decide))) (hw _ (inRest (by decide))) h e
  | blockRead _ _ =>
    exact keep_execBlockRead C hp (.of (l := [.now, .free, .sram, .fab, .tick, .sched, .resets, .jobFrames,
      .monClear, .energy, .engines, .rng, .dev, .sec]) hw) (hw _ (inRest (by decide)))
      (hw _ (inRest (by decide))) (hw _ (inRest (by decide))) (hw _ (inRest (by decide)))
      (hw _ (inRest (by decide))) (hw _ (inRest (by decide))) (hw _ (inRest (by decide)))
      (hw _ (inRest (by decide))) (hw _ (inRest (by decide))) (hw _ (inRest (by decide)))
      (hw _ (inRest (by decide))) (hw _ (inRest (by decide))) (hw _ (inRest (by decide)))
      (hw _ (inRest (by decide))) h e
  | sync _ _ =>
    exact keep_execSync C hp (.of (l := [.now, .free, .sram, .fab, .tick, .sched, .resets, .jobFrames,
      .monClear, .energy, .engines, .rng, .dev, .sec]) hw) (hw _ (inRest (by decide)))
      (hw _ (inRest (by decide))) (hw _ (inRest (by decide))) (hw _ (inRest (by decide)))
      (hw _ (inRest (by decide))) (hw _ (inRest (by decide))) (hw _ (inRest (by decide)))
      (hw _ (inRest (by decide))) (hw _ (inRest (by decide))) (hw _ (inRest (by decide)))
      (hw _ (inRest (by decide))) (hw _ (inRest (by decide))) (hw _ (inRest (by decide)))
      (hw _ (inRest (by decide))) h e
  | eventAck _ _ =>
    exact keep_execEventAck C hp (.of (l := [.now, .free, .sram, .fab, .tick, .sched, .resets, .jobFrames,
      .monClear, .energy, .engines, .rng, .dev, .sec]) hw) (hw _ (inRest (by decide)))
      (hw _ (inRest (by decide))) (hw _ (inRest (by decide))) (hw _ (inRest (by decide)))
      (hw _ (inRest (by decide))) (hw _ (inRest (by decide))) (hw _ (inRest (by decide)))
      (hw _ (inRest (by decide))) (hw _ (inRest (by decide))) (hw _ (inRest (by decide)))
      (hw _ (inRest (by decide))) (hw _ (inRest (by decide))) (hw _ (inRest (by decide)))
      (hw _ (inRest (by decide))) h e
  | sidebandRegisterFrame _ _ =>
    exact keep_execSidebandRegisterFrame C hp (.of (l := [.now, .free, .sram, .fab, .tick, .sched, .resets,
      .jobFrames, .monClear, .energy, .engines, .rng, .dev, .sec]) hw) (hw _ (inRest (by decide)))
      (hw _ (inRest (by decide))) (hw _ (inRest (by decide))) (hw _ (inRest (by decide)))
      (hw _ (inRest (by decide))) (hw _ (inRest (by decide))) (hw _ (inRest (by decide)))
      (hw _ (inRest (by decide))) (hw _ (inRest (by decide))) (hw _ (inRest (by decide)))
      (hw _ (inRest (by decide))) (hw _ (inRest (by decide))) (hw _ (inRest (by decide)))
      (hw _ (inRest (by decide))) h e
  | budgetEffecter _ _ => exact keep_execBudgetEffecter C hp (hw .regs (listed (l := [.regs]) (by decide))) h e
  | rdmaWrite _ _ => exact keep_execRdmaWrite C hp (.of (l := [.now]) hw) (hw _ (inRest (by decide))) h e
  | rdmaWriteAck _ _ => exact keep_execRdmaWriteAck C hp (.of (l := [.now]) hw) (hw _ (inRest (by decide))) h e
  | rdmaReadRequest _ _ _ =>
    exact keep_execRdmaReadRequest C hp (.of (l := [.now]) hw) (hw _ (inRest (by decide))) h e
  | qpReset _ _ =>
    exact keep_execQpReset C hp (hw .regs (listed (l := [.regs, .host]) (by decide))) (hw .host (listed (l :=
      [.regs, .host]) (by decide))) h e
  | eventFrameSend _ =>
    exact keep_execEventFrameSend C hp (.of (l := [.now]) hw) (hw _ (inRest (by decide))) h e
  | eventFrameResend _ =>
    exact keep_execEventFrameResend C hp (.of (l := [.now]) hw) (hw _ (inRest (by decide))) h e
  | prepare _ => exact keep_execPrepare C hp (.of (l := [.free]) hw) (hw _ (inRest (by decide))) h e
  | install _ => exact keep_execInstall C hp (.of (l := [.free]) hw) (hw _ (inRest (by decide))) h e
  | admRevoke _ => exact keep_execAdmRevoke C hp (.of (l := [.free]) hw) (hw _ (inRest (by decide))) h e
  | sakInstall _ _ _ _ => exact keep_execSakInstall C hp (hw .host (listed (l := [.host]) (by decide))) h e
  | sourceReset _ _ => exact keep_execSourceReset C hp (hw .host (listed (l := [.host]) (by decide))) h e
  | cairnSeal _ _ =>
    exact keep_execCairnSeal C hp (.of (l := [.now, .rng]) hw) (hw _ (inRest (by decide)))
      (hw _ (inRest (by decide))) h e
  | restore _ _ => exact keep_execRestore C hp (.of (l := [.rng]) hw) (hw _ (inRest (by decide))) h e
  | void _ _ => exact keep_execVoid C hp (.of (l := []) hw) h e
  | reinstateDone _ _ =>
    exact keep_execReinstateDone C hp (.of (l := [.now, .sram, .fab, .jobFrames, .jobBase, .energy, .engines,
      .rng, .dev]) hw) (hw _ (inRest (by decide))) (hw _ (inRest (by decide))) (hw _ (inRest (by decide)))
      (hw _ (inRest (by decide))) (hw _ (inRest (by decide))) (hw _ (inRest (by decide)))
      (hw _ (inRest (by decide))) (hw _ (inRest (by decide))) (hw _ (inRest (by decide))) h e
  | restoreRestart => exact keep_execRestoreRestart C hp (.of (l := []) hw) h e
  | pairCommitMsg _ _ _ =>
    exact keep_execPairCommitMsg C hp (.of (l := [.now, .rng]) hw) (hw _ (inRest (by decide)))
      (hw _ (inRest (by decide))) h e
  | pairTraceMsg _ _ _ =>
    exact keep_execPairTraceMsg C hp (.of (l := [.now, .rng]) hw) (hw _ (inRest (by decide)))
      (hw _ (inRest (by decide))) h e
  | pairLossMsg _ _ _ =>
    exact keep_execPairLossMsg C hp (.of (l := [.now, .rng]) hw) (hw _ (inRest (by decide)))
      (hw _ (inRest (by decide))) h e
  | pairSealMsg _ _ _ =>
    exact keep_execPairSealMsg C hp (.of (l := [.now, .rng]) hw) (hw _ (inRest (by decide)))
      (hw _ (inRest (by decide))) h e
  | pairDivergenceMsg _ _ _ =>
    exact keep_execPairDivergenceMsg C hp (.of (l := [.now, .rng]) hw) (hw _ (inRest (by decide)))
      (hw _ (inRest (by decide))) h e
  | pairTimeout _ => exact keep_execPairTimeout C hp (.of (l := []) hw) h e
  | primaryFaultMsg _ _ _ =>
    exact keep_execPrimaryFaultMsg C hp (hw .now (listed (l := [.now, .pair]) (by decide))) (hw .pair (listed (l
      := [.now, .pair]) (by decide))) h e
  | pairSilence _ =>
    exact keep_execPairSilence C hp (hw .now (listed (l := [.now, .pair]) (by decide))) (hw .pair (listed (l :=
      [.now, .pair]) (by decide))) h e
  | handover _ =>
    exact keep_execHandover C hp (hw .regs (listed (l := [.regs, .faults, .links, .pair]) (by decide))) (hw
      .faults (listed (l := [.regs, .faults, .links, .pair]) (by decide))) (hw .links (listed (l := [.regs,
      .faults, .links, .pair]) (by decide))) (hw .pair (listed (l := [.regs, .faults, .links, .pair]) (by
      decide))) h e
  | release _ => exact keep_execRelease C hp (.of (l := []) hw) h e
  | recomputeDone _ _ =>
    exact keep_execRecomputeDone C hp (.of (l := [.now]) hw) (hw _ (inRest (by decide))) h e
  | coreFail _ _ =>
    exact keep_execCoreFail C hp (.of (l := [.now, .sram, .fab, .dev]) hw) (hw _ (inRest (by decide)))
      (hw _ (inRest (by decide))) (hw _ (inRest (by decide))) (hw _ (inRest (by decide))) h e
  | spareFillDone _ _ =>
    exact keep_execSpareFillDone C hp (.of (l := [.now, .sram, .fab, .energy, .rng, .dev]) hw)
      (hw _ (inRest (by decide))) (hw _ (inRest (by decide))) (hw _ (inRest (by decide)))
      (hw _ (inRest (by decide))) (hw _ (inRest (by decide))) (hw _ (inRest (by decide))) h e
  | rngKeyCommit _ _ _ => exact keep_execRngKeyCommit C hp (hw .rng (listed (l := [.rng]) (by decide))) h e
  | coreReset _ _ =>
    exact keep_execCoreReset C hp (.of (l := [.now, .fab, .resets, .energy]) hw) (hw _ (inRest (by decide)))
      (hw _ (inRest (by decide))) (hw _ (inRest (by decide))) (hw _ (inRest (by decide))) h e
  | clusterReset _ _ =>
    exact keep_execClusterReset C hp (.of (l := [.now, .fab, .resets, .energy]) hw) (hw _ (inRest (by decide)))
      (hw _ (inRest (by decide))) (hw _ (inRest (by decide))) (hw _ (inRest (by decide))) h e
  | partitionReset _ _ =>
    exact keep_execPartitionReset C hp (.of (l := [.now, .sram, .fab, .resets, .energy, .engines, .dev]) hw)
      (hw _ (inRest (by decide))) (hw _ (inRest (by decide))) (hw _ (inRest (by decide)))
      (hw _ (inRest (by decide))) (hw _ (inRest (by decide))) (hw _ (inRest (by decide)))
      (hw _ (inRest (by decide))) h e
  | drainEnd _ _ =>
    exact keep_execDrainEnd C hp (.of (l := [.now, .fab, .resets]) hw) (hw _ (inRest (by decide)))
      (hw _ (inRest (by decide))) (hw _ (inRest (by decide))) h e
  | resetComplete _ _ =>
    exact keep_execResetComplete C hp (.of (l := [.now, .sram, .fab, .resets, .energy, .dev]) hw)
      (hw _ (inRest (by decide))) (hw _ (inRest (by decide))) (hw _ (inRest (by decide)))
      (hw _ (inRest (by decide))) (hw _ (inRest (by decide))) (hw _ (inRest (by decide))) h e
  | powerStateRequest _ _ _ => exact keep_execPowerStateRequest C hp (.of (l := []) hw) h e
  | powerTransitionDone _ _ =>
    exact keep_execPowerTransitionDone C hp (.of (l := [.now, .sram, .fab, .resets, .energy, .engines, .dev])
      hw) (hw _ (inRest (by decide))) (hw _ (inRest (by decide))) (hw _ (inRest (by decide)))
      (hw _ (inRest (by decide))) (hw _ (inRest (by decide))) (hw _ (inRest (by decide)))
      (hw _ (inRest (by decide))) h e
  | stage _ =>
    exact keep_execStage C hp (.of (l := [.free, .rng, .dev, .sec]) hw) (hw _ (inRest (by decide)))
      (hw _ (inRest (by decide))) (hw _ (inRest (by decide))) (hw _ (inRest (by decide))) h e
  | stageDone _ _ =>
    exact keep_execStageDone C hp (.of (l := [.now, .dev, .sec]) hw) (hw _ (inRest (by decide)))
      (hw _ (inRest (by decide))) (hw _ (inRest (by decide))) h e
  | updateAbort _ =>
    exact keep_execUpdateAbort C hp (.of (l := [.free, .rng, .dev, .sec]) hw) (hw _ (inRest (by decide)))
      (hw _ (inRest (by decide))) (hw _ (inRest (by decide))) (hw _ (inRest (by decide))) h e
  | activate _ =>
    exact keep_execActivate C hp (.of (l := [.free, .rng, .dev, .sec]) hw) (hw _ (inRest (by decide)))
      (hw _ (inRest (by decide))) (hw _ (inRest (by decide))) (hw _ (inRest (by decide))) h e
  | commitSvn _ =>
    exact keep_execCommitSvn C hp (.of (l := [.free, .rng, .dev, .sec]) hw) (hw _ (inRest (by decide)))
      (hw _ (inRest (by decide))) (hw _ (inRest (by decide))) (hw _ (inRest (by decide))) h e
  | revoke _ =>
    exact keep_execRevoke C hp (.of (l := [.free, .rng, .dev, .sec]) hw) (hw _ (inRest (by decide)))
      (hw _ (inRest (by decide))) (hw _ (inRest (by decide))) (hw _ (inRest (by decide))) h e
  | challenge _ =>
    exact keep_execChallenge C hp (.of (l := [.free, .rng, .dev, .sec]) hw) (hw _ (inRest (by decide)))
      (hw _ (inRest (by decide))) (hw _ (inRest (by decide))) (hw _ (inRest (by decide))) h e
  | jtagUnlock _ =>
    exact keep_execJtagUnlock C hp (.of (l := [.free, .rng, .dev, .sec]) hw) (hw _ (inRest (by decide)))
      (hw _ (inRest (by decide))) (hw _ (inRest (by decide))) (hw _ (inRest (by decide))) h e
  | extend _ =>
    exact keep_execExtend C hp (.of (l := [.free, .rng, .dev, .sec]) hw) (hw _ (inRest (by decide)))
      (hw _ (inRest (by decide))) (hw _ (inRest (by decide))) (hw _ (inRest (by decide))) h e
  | trialTimeout _ =>
    exact keep_execTrialTimeout C hp (.of (l := [.now, .dev]) hw) (hw _ (inRest (by decide)))
      (hw _ (inRest (by decide))) h e
  | attestRequest _ _ =>
    exact keep_execAttestRequest C hp (.of (l := [.sec]) hw) (hw _ (inRest (by decide))) h e
  | attestReportDone _ =>
    exact keep_execAttestReportDone C hp (hw .now (listed (l := [.now, .sec]) (by decide))) (hw .sec (listed (l
      := [.now, .sec]) (by decide))) h e
  | bootReq _ =>
    exact keep_execBootReq C hp (hw .now (listed (l := [.now, .free, .out]) (by decide))) (hw .free (listed (l
      := [.now, .free, .out]) (by decide))) (hw .out (listed (l := [.now, .free, .out]) (by decide))) h e
  | bootData _ _ =>
    exact keep_execBootData C hp (.of (l := [.now, .dev, .sec]) hw) (hw _ (inRest (by decide)))
      (hw _ (inRest (by decide))) (hw _ (inRest (by decide))) h e
  | coalescerTake =>
    exact keep_execCoalescerTake C hp (hw .now (listed (l := [.now, .free, .regs, .faults]) (by decide))) (hw
      .free (listed (l := [.now, .free, .regs, .faults]) (by decide))) (hw .regs (listed (l := [.now, .free,
      .regs, .faults]) (by decide))) (hw .faults (listed (l := [.now, .free, .regs, .faults]) (by decide))) h e
  | fatalEventLog =>
    exact keep_execFatalEventLog C hp (hw .now (listed (l := [.now, .regs, .faults, .dev]) (by decide))) (hw
      .regs (listed (l := [.now, .regs, .faults, .dev]) (by decide))) (hw .faults (listed (l := [.now, .regs,
      .faults, .dev]) (by decide))) (hw .dev (listed (l := [.now, .regs, .faults, .dev]) (by decide))) h e
  | intAck _ => exact keep_execIntAck C hp (hw .faults (listed (l := [.faults]) (by decide))) h e
  | fltClear _ => exact keep_execFltClear C hp (hw .faults (listed (l := [.faults]) (by decide))) h e
  | stormClear _ => exact keep_execStormClear C hp (hw .faults (listed (l := [.faults]) (by decide))) h e
  | fltLogRead _ _ => exact keep_execFltLogRead C hp (.of (l := [.free]) hw) (hw _ (inRest (by decide))) h e
  | digestMsg _ _ _ _ _ _ =>
    exact keep_execDigestMsg C hp (.of (l := [.now, .dig]) hw) (hw _ (inRest (by decide)))
      (hw _ (inRest (by decide))) h e
  | lossOfHbmTraining _ _ _ =>
    exact keep_execLossOfHbmTraining C hp (.of (l := [.now]) hw) (hw _ (inRest (by decide))) h e
  | managementMemoryError _ _ =>
    exact keep_execManagementMemoryError C hp (.of (l := [.dev, .sec]) hw) (hw _ (inRest (by decide)))
      (hw _ (inRest (by decide))) h e
  | bringupBound _ => exact keep_execBringupBound C hp (.of (l := []) hw) h e
  | mkaSessionLoss _ _ =>
    exact keep_execMkaSessionLoss C hp (hw .now (listed (l := [.now, .host]) (by decide))) (hw .host (listed (l
      := [.now, .host]) (by decide))) h e

end Sys2Proof.Machine
end

