-- ==== Sys2Proof/Laws/Sparse.lean ====
section
/-! SUPPORT. Laws of sparse storage: what a read gives after a write, and that every operation keeps the canonical form. -/

namespace Sys2Proof.Machine

variable {α : Type}

/-! ## Reading -/

/-- A key below every listed one reads as its default. -/
theorem sget_below {dflt : Nat → α} {l : List (Nat × α)} {lo k : Nat} (h : saboveB lo l = true) (hk : k ≤ lo) :
    sget dflt l k = dflt k := by
  cases l with
  | nil => rfl
  | cons e t =>
    have he : lo < e.1 := by simpa [saboveB] using (List.all_eq_true.mp h) e (by simp)
    unfold sget
    rw [if_neg (by omega), if_pos (by omega)]

theorem sabove_mono {l : List (Nat × α)} {a b : Nat} (h : saboveB b l = true) (hab : a ≤ b) : saboveB a l = true := by
  simp only [saboveB, List.all_eq_true, decide_eq_true_eq] at *
  intro e he
  exact lt_of_le_of_lt hab (h e he)

variable [DecidableEq α]

theorem swf_cons {dflt : Nat → α} {k : Nat} {v : α} {t : List (Nat × α)} :
    swf dflt ((k, v) :: t) = true ↔ v ≠ dflt k ∧ saboveB k t = true ∧ swf dflt t = true := by
  simp [swf, and_assoc]

/-- A cell that a write names reads as the value written. -/
theorem sget_sset_same {dflt : Nat → α} {l : List (Nat × α)} {k : Nat} {v : α} (h : swf dflt l = true) :
    sget dflt (sset dflt l k v) k = v := by
  induction l with
  | nil =>
    unfold sset sconsNonDefault
    split
    · next e => rw [e]; rfl
    · simp [sget]
  | cons e t ih =>
    obtain ⟨k', v'⟩ := e
    obtain ⟨h1, h2, h3⟩ := swf_cons.mp h
    unfold sset sconsNonDefault
    split
    · next e =>
      subst e
      split
      · next e => rw [e]; exact sget_below h2 (le_refl _)
      · simp [sget]
    · split
      · split
        · next hlt e => rw [e]; simp [sget, *]
        · simp [sget]
      · next hne hlt =>
        unfold sget
        rw [if_neg hne, if_neg hlt]
        exact ih h3

/-- Every other cell reads as before. -/
theorem sget_sset_other {dflt : Nat → α} {l : List (Nat × α)} {k j : Nat} {v : α} (h : swf dflt l = true) (hj : j ≠ k) :
    sget dflt (sset dflt l k v) j = sget dflt l j := by
  induction l with
  | nil =>
    unfold sset sconsNonDefault
    split
    · rfl
    · simp [sget, hj]
  | cons e t ih =>
    obtain ⟨k', v'⟩ := e
    obtain ⟨h1, h2, h3⟩ := swf_cons.mp h
    have hskip : k < k' → j ≠ k → sget dflt ((k, v) :: (k', v') :: t) j = sget dflt ((k', v') :: t) j := by
      intro hk hjk
      rw [sget, if_neg hjk]
      split
      · next hlt => rw [sget, if_neg (by omega), if_pos (by omega)]
      · rfl
    unfold sset sconsNonDefault
    split
    · next e =>
      subst e
      have hr : sget dflt ((k, v') :: t) j = sget dflt t j := by
        rw [sget, if_neg hj]
        split
        · next hlt => exact (sget_below h2 (by omega)).symm
        · rfl
      split
      · exact hr.symm
      · rw [hr, sget, if_neg hj]
        split
        · next hlt => exact (sget_below h2 (by omega)).symm
        · rfl
    · split
      · split
        · rfl
        · exact hskip (by assumption) hj
      · next hne hlt =>
        rw [sget, sget]
        split
        · rfl
        · split
          · rfl
          · exact ih h3

/-! ## The canonical form -/

theorem sabove_sset {dflt : Nat → α} {l : List (Nat × α)} {k lo : Nat} {v : α} (h : saboveB lo l = true) (hk : lo < k) :
    saboveB lo (sset dflt l k v) = true := by
  induction l with
  | nil =>
    unfold sset sconsNonDefault
    split
    · rfl
    · simpa [saboveB] using hk
  | cons e t ih =>
    obtain ⟨k', v'⟩ := e
    have hc : lo < k' ∧ saboveB lo t = true := by simpa [saboveB] using h
    unfold sset sconsNonDefault
    split
    · split
      · exact hc.2
      · simpa [saboveB] using ⟨hk, by simpa [saboveB] using hc.2⟩
    · split
      · split
        · exact h
        · simpa [saboveB] using ⟨hk, hc.1, by simpa [saboveB] using hc.2⟩
      · have := ih hc.2
        simpa [saboveB] using ⟨hc.1, by simpa [saboveB] using this⟩

/-- A write keeps the canonical form. -/
theorem swf_sset {dflt : Nat → α} {l : List (Nat × α)} {k : Nat} {v : α} (h : swf dflt l = true) :
    swf dflt (sset dflt l k v) = true := by
  induction l with
  | nil =>
    unfold sset sconsNonDefault
    split
    · rfl
    · exact swf_cons.mpr ⟨by assumption, rfl, rfl⟩
  | cons e t ih =>
    obtain ⟨k', v'⟩ := e
    obtain ⟨h1, h2, h3⟩ := swf_cons.mp h
    unfold sset sconsNonDefault
    split
    · next e =>
      subst e
      split
      · exact h3
      · exact swf_cons.mpr ⟨by assumption, h2, h3⟩
    · split
      · next hlt =>
        split
        · exact h
        · refine swf_cons.mpr ⟨by assumption, ?_, h⟩
          have := sabove_mono h2 (le_of_lt hlt)
          simpa [saboveB] using ⟨hlt, by simpa [saboveB] using this⟩
      · next hne hlt =>
        exact swf_cons.mpr ⟨h1, sabove_sset h2 (by omega), ih h3⟩

/-- Removing cells keeps the canonical form. -/
theorem swf_sdrop {dflt : Nat → α} {l : List (Nat × α)} {p : Nat → Bool} (h : swf dflt l = true) :
    swf dflt (sdrop p l) = true := by
  unfold sdrop
  induction l with
  | nil => rfl
  | cons e t ih =>
    obtain ⟨k, v⟩ := e
    obtain ⟨h1, h2, h3⟩ := swf_cons.mp h
    rw [List.filter_cons]
    split
    · refine swf_cons.mpr ⟨h1, ?_, ih h3⟩
      simp only [saboveB, List.all_eq_true, decide_eq_true_eq] at *
      exact fun x hx => h2 x (List.mem_filter.mp hx).1
    · exact ih h3

/-- Storing bytes keeps the canonical form. -/
theorem swf_memPut {m : List (Nat × Byte)} {a : Nat} {l : List Byte} (h : swf memZero m = true) :
    swf memZero (memPut m a l) = true := by
  induction l generalizing m a with
  | nil => exact h
  | cons b t ih => exact ih (swf_sset h)

/-! ## Bytes -/

/-- Stored bytes leave every address outside them as it was. -/
theorem sget_memPut_other {m : List (Nat × Byte)} {a j : Nat} {l : List Byte} (h : swf memZero m = true)
    (hj : j < a ∨ a + l.length ≤ j) : sget memZero (memPut m a l) j = sget memZero m j := by
  induction l generalizing m a with
  | nil => rfl
  | cons b t ih =>
    simp only [List.length_cons] at hj
    rw [memPut, ih (swf_sset h) (by omega), sget_sset_other h (by omega)]

/-- A stored byte reads back. -/
theorem sget_memPut_in {m : List (Nat × Byte)} {a i : Nat} {l : List Byte} (h : swf memZero m = true) (hi : i < l.length) :
    sget memZero (memPut m a l) (a + i) = l.getD i 0 := by
  induction l generalizing m a i with
  | nil => simp at hi
  | cons b t ih =>
    cases i with
    | zero =>
      rw [memPut, sget_memPut_other (swf_sset h) (by omega), Nat.add_zero, sget_sset_same h]
      rfl
    | succ i =>
      have := ih (m := sset memZero m a b) (a := a + 1) (i := i) (swf_sset h) (by simpa using hi)
      rw [memPut, show a + (i + 1) = a + 1 + i by omega, this]
      rfl

/-- A value that is not the default is read back from any list. -/
theorem sget_sset_nondefault {dflt : Nat → α} {l : List (Nat × α)} {k : Nat} {v : α} (h : v ≠ dflt k) :
    sget dflt (sset dflt l k v) k = v := by
  induction l with
  | nil => simp [sset, sconsNonDefault, h, sget]
  | cons e t ih =>
    obtain ⟨k', v'⟩ := e
    unfold sset
    split
    · simp [sconsNonDefault, h, sget]
    · split
      · simp [sconsNonDefault, h, sget]
      · next h1 h2 => simp [sget, h1, h2, ih]

end Sys2Proof.Machine
end

