-- ==== Sys2Proof/Laws/Invariants.lean ====
section
/-! SUPPORT. Properties that every primitive change keeps, in the form that `exec_keeps` takes. -/

namespace Sys2Proof.Machine

open Sys2Proof

/-- Changing every listed value keeps the canonical form. -/
theorem swf_smap {α : Type} [DecidableEq α] {dflt : Nat → α} {f : Nat → α → α} {l : List (Nat × α)} (h : swf dflt l = true) :
    swf dflt (smap dflt f l) = true := by
  unfold smap
  induction l with
  | nil => rfl
  | cons e t ih =>
    obtain ⟨k, v⟩ := e
    obtain ⟨h1, h2, h3⟩ := swf_cons.mp h
    rw [List.filterMap_cons]
    split
    · exact ih h3
    · next he =>
      split at he
      · cases he
      · injection he with he
        subst he
        refine swf_cons.mpr ⟨by assumption, ?_, ih h3⟩
        simp only [saboveB, List.all_eq_true, decide_eq_true_eq, List.mem_filterMap] at *
        rintro x ⟨y, hy, hx⟩
        split at hx
        · cases hx
        · injection hx with hx
          subst hx
          exact h2 y hy

/-- Every change keeps the canonical form. -/
theorem closed_canonical : Closed (fun _ => True) State.Canonical := by
  constructor
  case rset => exact fun _ _ _ _ h => ⟨swf_sset h.regs, h.sram, h.hub, h.hbm, h.cores, h.parts, h.links, h.engines, h.rng⟩
  case regsDrop => exact fun _ _ _ h => ⟨swf_sdrop h.regs, h.sram, h.hub, h.hbm, h.cores, h.parts, h.links, h.engines, h.rng⟩
  case sramPut => exact fun _ _ _ _ h => ⟨h.regs, swf_memPut h.sram, h.hub, h.hbm, h.cores, h.parts, h.links, h.engines, h.rng⟩
  case sramDrop => exact fun _ _ _ h => ⟨h.regs, swf_sdrop h.sram, h.hub, h.hbm, h.cores, h.parts, h.links, h.engines, h.rng⟩
  case hubPut => exact fun _ _ _ _ h => ⟨h.regs, h.sram, swf_memPut h.hub, h.hbm, h.cores, h.parts, h.links, h.engines, h.rng⟩
  case hbmPut => exact fun _ _ _ _ h => ⟨h.regs, h.sram, h.hub, swf_memPut h.hbm, h.cores, h.parts, h.links, h.engines, h.rng⟩
  case cores => exact fun _ _ _ _ h => ⟨h.regs, h.sram, h.hub, h.hbm, swf_sset h.cores, h.parts, h.links, h.engines, h.rng⟩
  case coresMap => exact fun _ _ _ h => ⟨h.regs, h.sram, h.hub, h.hbm, swf_smap h.cores, h.parts, h.links, h.engines, h.rng⟩
  case parts => exact fun _ _ _ _ h => ⟨h.regs, h.sram, h.hub, h.hbm, h.cores, swf_sset h.parts, h.links, h.engines, h.rng⟩
  case partsNone => exact fun _ _ h => ⟨h.regs, h.sram, h.hub, h.hbm, h.cores, rfl, h.links, h.engines, h.rng⟩
  case links => exact fun _ _ _ _ h => ⟨h.regs, h.sram, h.hub, h.hbm, h.cores, h.parts, swf_sset h.links, h.engines, h.rng⟩
  case engines => exact fun _ _ _ _ h => ⟨h.regs, h.sram, h.hub, h.hbm, h.cores, h.parts, h.links, swf_sset h.engines, h.rng⟩
  case enginesMap => exact fun _ _ _ h => ⟨h.regs, h.sram, h.hub, h.hbm, h.cores, h.parts, h.links, swf_smap h.engines, h.rng⟩
  case rng => exact fun _ _ _ _ h => ⟨h.regs, h.sram, h.hub, h.hbm, h.cores, h.parts, h.links, h.engines, swf_sset h.rng⟩
  case rngMap => exact fun _ _ _ h => ⟨h.regs, h.sram, h.hub, h.hbm, h.cores, h.parts, h.links, h.engines, swf_smap h.rng⟩
  case coldKeep => exact fun _ _ _ _ => ⟨rfl, rfl, rfl, rfl, rfl, rfl, rfl, rfl, rfl⟩
  case warmKeep =>
    intro _ s h
    exact ⟨swf_sdrop (p := fun k => warmHit (keyPage k).1 (keyPage k).2.1 (keyPage k).2.2) h.regs, rfl, h.hub, h.hbm,
      rfl, rfl, rfl, rfl, rfl⟩
  case atCycle =>
    intro _ n f s hf h
    have g := hf { s with now := n } ⟨h.regs, h.sram, h.hub, h.hbm, h.cores, h.parts, h.links, h.engines, h.rng⟩
    exact ⟨g.regs, g.sram, g.hub, g.hbm, g.cores, g.parts, g.links, g.engines, g.rng⟩
  case drawFree => exact fun _ _ h => ⟨h.regs, h.sram, h.hub, h.hbm, h.cores, h.parts, h.links, h.engines, h.rng⟩
  all_goals exact fun _ _ _ h => ⟨h.regs, h.sram, h.hub, h.hbm, h.cores, h.parts, h.links, h.engines, h.rng⟩

/-- No change turns the clock back. -/
theorem closed_clock (n : Nat) : Closed (fun _ => True) fun s => n ≤ s.now := by
  constructor
  case elapse => exact fun _ _ _ h => Nat.le_trans h (Nat.le_add_right _ _)
  case passTo => exact fun _ _ _ h => Nat.le_trans h (Nat.le_max_left _ _)
  all_goals intros; assumption

/-- No change turns the numbering of free values back. -/
theorem closed_free (k : Nat) : Closed (fun _ => True) fun s => k ≤ s.free := by
  constructor
  case drawFree => exact fun _ _ h => Nat.le_succ_of_le h
  case atCycle => exact fun _ _ _ s hf h => hf { s with now := _ } h
  all_goals intros; assumption

/-- No function but the step itself touches the queue. -/
theorem closed_pending (q : List Instr) : Closed (fun _ => True) fun s => s.pending = q := by
  constructor
  case atCycle => exact fun _ _ _ s hf h => hf { s with now := _ } h
  all_goals intros; assumption

/-- A piece of state that may not change stays as it is. -/
theorem closed_same (f : Fld) (s : State) : Closed (fun g => g ≠ f) (f.same s) := by
  cases f
  all_goals constructor
  all_goals
    try case atCycle =>
      first
        | exact fun _ _ _ s hf h => hf { s with now := _ } h
        | exact fun h _ _ _ _ _ => absurd rfl h
  all_goals
    intros
    first | assumption | contradiction | (rename_i h _ _ _; exact absurd rfl (h _)) | (rename_i h _ _; exact absurd rfl (h _))

/-- A command that names only units that exist, and that its sender may give now, takes effect. -/
theorem answer_fit {i : Instr} {s t : State} (h : fit i s = true) : answer i s t = .next { t with pending := s.pending } := by
  unfold fit at h
  rw [Bool.and_eq_true] at h
  unfold answer
  have : (i.units.find? fun u => !decide (u.number < u.count)) = none := by
    rw [List.find?_eq_none]
    intro u hu
    have := List.all_eq_true.mp h.1 u hu
    simpa using this
  rw [this]
  simp only [h.2, if_true]

/-- As `answer_fit`, where the effect leaves the queue as it was. -/
theorem answer_eq {i : Instr} {s t : State} (h : fit i s = true) (hp : t.pending = s.pending) : answer i s t = .next t := by
  rw [answer_fit h, ← hp]

/-- An event is fit where it names only units that exist. -/
theorem fit_event {i : Instr} {s : State} (h : i.wf = true) (hs : i.sender = none) : fit i s = true := by
  unfold fit admitted
  rw [h, hs]
  rfl

/-- The pieces of state of `reportFields` may change where only another one is held fixed. -/
theorem raiseSet_ne {f : Fld} (h : f ∉ reportFields) : RaiseSet fun g => g ≠ f := by
  constructor <;> (rintro rfl; exact h (by decide))

/-- Every piece of state may change. -/
theorem raiseSet_true : RaiseSet fun _ => True := by constructor <;> trivial

end Sys2Proof.Machine
end

