-- ==== Sys2Proof/Laws/State.lean ====
section
/-! SUPPORT. What each update of the state leaves in each field, so that no proof unfolds a record update. -/

namespace Sys2Proof.Machine

open Sys2Proof

/-! ## elapse -/

section
variable (n : Nat) (s : State)
@[simp] theorem elapse_pending : (elapse n s).pending = s.pending := rfl
@[simp] theorem elapse_now : (elapse n s).now = s.now + n := rfl
@[simp] theorem elapse_free : (elapse n s).free = s.free := rfl
@[simp] theorem elapse_out : (elapse n s).out = s.out := rfl
@[simp] theorem elapse_regs : (elapse n s).regs = s.regs := rfl
@[simp] theorem elapse_sram : (elapse n s).sram = s.sram := rfl
@[simp] theorem elapse_hub : (elapse n s).hub = s.hub := rfl
@[simp] theorem elapse_hbm : (elapse n s).hbm = s.hbm := rfl
@[simp] theorem elapse_cores : (elapse n s).cores = s.cores := rfl
@[simp] theorem elapse_fab : (elapse n s).fab = s.fab := rfl
@[simp] theorem elapse_tick : (elapse n s).tick = s.tick := rfl
@[simp] theorem elapse_sched : (elapse n s).sched = s.sched := rfl
@[simp] theorem elapse_parts : (elapse n s).parts = s.parts := rfl
@[simp] theorem elapse_resets : (elapse n s).resets = s.resets := rfl
@[simp] theorem elapse_faults : (elapse n s).faults = s.faults := rfl
@[simp] theorem elapse_jobFrames : (elapse n s).jobFrames = s.jobFrames := rfl
@[simp] theorem elapse_jobBase : (elapse n s).jobBase = s.jobBase := rfl
@[simp] theorem elapse_live : (elapse n s).live = s.live := rfl
@[simp] theorem elapse_monOn : (elapse n s).monOn = s.monOn := rfl
@[simp] theorem elapse_monClear : (elapse n s).monClear = s.monClear := rfl
@[simp] theorem elapse_mem : (elapse n s).mem = s.mem := rfl
@[simp] theorem elapse_energy : (elapse n s).energy = s.energy := rfl
@[simp] theorem elapse_links : (elapse n s).links = s.links := rfl
@[simp] theorem elapse_engines : (elapse n s).engines = s.engines := rfl
@[simp] theorem elapse_rng : (elapse n s).rng = s.rng := rfl
@[simp] theorem elapse_serve : (elapse n s).serve = s.serve := rfl
@[simp] theorem elapse_host : (elapse n s).host = s.host := rfl
@[simp] theorem elapse_dev : (elapse n s).dev = s.dev := rfl
@[simp] theorem elapse_sec : (elapse n s).sec = s.sec := rfl
@[simp] theorem elapse_dig : (elapse n s).dig = s.dig := rfl
@[simp] theorem elapse_cairn : (elapse n s).cairn = s.cairn := rfl
@[simp] theorem elapse_pair : (elapse n s).pair = s.pair := rfl
end

/-! ## passTo -/

section
variable (n : Nat) (s : State)
@[simp] theorem passTo_pending : (passTo n s).pending = s.pending := rfl
@[simp] theorem passTo_now : (passTo n s).now = max s.now n := rfl
@[simp] theorem passTo_free : (passTo n s).free = s.free := rfl
@[simp] theorem passTo_out : (passTo n s).out = s.out := rfl
@[simp] theorem passTo_regs : (passTo n s).regs = s.regs := rfl
@[simp] theorem passTo_sram : (passTo n s).sram = s.sram := rfl
@[simp] theorem passTo_hub : (passTo n s).hub = s.hub := rfl
@[simp] theorem passTo_hbm : (passTo n s).hbm = s.hbm := rfl
@[simp] theorem passTo_cores : (passTo n s).cores = s.cores := rfl
@[simp] theorem passTo_fab : (passTo n s).fab = s.fab := rfl
@[simp] theorem passTo_tick : (passTo n s).tick = s.tick := rfl
@[simp] theorem passTo_sched : (passTo n s).sched = s.sched := rfl
@[simp] theorem passTo_parts : (passTo n s).parts = s.parts := rfl
@[simp] theorem passTo_resets : (passTo n s).resets = s.resets := rfl
@[simp] theorem passTo_faults : (passTo n s).faults = s.faults := rfl
@[simp] theorem passTo_jobFrames : (passTo n s).jobFrames = s.jobFrames := rfl
@[simp] theorem passTo_jobBase : (passTo n s).jobBase = s.jobBase := rfl
@[simp] theorem passTo_live : (passTo n s).live = s.live := rfl
@[simp] theorem passTo_monOn : (passTo n s).monOn = s.monOn := rfl
@[simp] theorem passTo_monClear : (passTo n s).monClear = s.monClear := rfl
@[simp] theorem passTo_mem : (passTo n s).mem = s.mem := rfl
@[simp] theorem passTo_energy : (passTo n s).energy = s.energy := rfl
@[simp] theorem passTo_links : (passTo n s).links = s.links := rfl
@[simp] theorem passTo_engines : (passTo n s).engines = s.engines := rfl
@[simp] theorem passTo_rng : (passTo n s).rng = s.rng := rfl
@[simp] theorem passTo_serve : (passTo n s).serve = s.serve := rfl
@[simp] theorem passTo_host : (passTo n s).host = s.host := rfl
@[simp] theorem passTo_dev : (passTo n s).dev = s.dev := rfl
@[simp] theorem passTo_sec : (passTo n s).sec = s.sec := rfl
@[simp] theorem passTo_dig : (passTo n s).dig = s.dig := rfl
@[simp] theorem passTo_cairn : (passTo n s).cairn = s.cairn := rfl
@[simp] theorem passTo_pair : (passTo n s).pair = s.pair := rfl
end

/-! ## emit -/

section
variable (o : Out) (s : State)
@[simp] theorem emit_pending : (emit o s).pending = s.pending := rfl
@[simp] theorem emit_now : (emit o s).now = s.now := rfl
@[simp] theorem emit_free : (emit o s).free = s.free := rfl
@[simp] theorem emit_out : (emit o s).out = s.out ++ [o] := rfl
@[simp] theorem emit_regs : (emit o s).regs = s.regs := rfl
@[simp] theorem emit_sram : (emit o s).sram = s.sram := rfl
@[simp] theorem emit_hub : (emit o s).hub = s.hub := rfl
@[simp] theorem emit_hbm : (emit o s).hbm = s.hbm := rfl
@[simp] theorem emit_cores : (emit o s).cores = s.cores := rfl
@[simp] theorem emit_fab : (emit o s).fab = s.fab := rfl
@[simp] theorem emit_tick : (emit o s).tick = s.tick := rfl
@[simp] theorem emit_sched : (emit o s).sched = s.sched := rfl
@[simp] theorem emit_parts : (emit o s).parts = s.parts := rfl
@[simp] theorem emit_resets : (emit o s).resets = s.resets := rfl
@[simp] theorem emit_faults : (emit o s).faults = s.faults := rfl
@[simp] theorem emit_jobFrames : (emit o s).jobFrames = s.jobFrames := rfl
@[simp] theorem emit_jobBase : (emit o s).jobBase = s.jobBase := rfl
@[simp] theorem emit_live : (emit o s).live = s.live := rfl
@[simp] theorem emit_monOn : (emit o s).monOn = s.monOn := rfl
@[simp] theorem emit_monClear : (emit o s).monClear = s.monClear := rfl
@[simp] theorem emit_mem : (emit o s).mem = s.mem := rfl
@[simp] theorem emit_energy : (emit o s).energy = s.energy := rfl
@[simp] theorem emit_links : (emit o s).links = s.links := rfl
@[simp] theorem emit_engines : (emit o s).engines = s.engines := rfl
@[simp] theorem emit_rng : (emit o s).rng = s.rng := rfl
@[simp] theorem emit_serve : (emit o s).serve = s.serve := rfl
@[simp] theorem emit_host : (emit o s).host = s.host := rfl
@[simp] theorem emit_dev : (emit o s).dev = s.dev := rfl
@[simp] theorem emit_sec : (emit o s).sec = s.sec := rfl
@[simp] theorem emit_dig : (emit o s).dig = s.dig := rfl
@[simp] theorem emit_cairn : (emit o s).cairn = s.cairn := rfl
@[simp] theorem emit_pair : (emit o s).pair = s.pair := rfl
end

/-! ## drawFree -/

section
variable (s : State)
@[simp] theorem drawFree_pending : (drawFree s).pending = s.pending := rfl
@[simp] theorem drawFree_now : (drawFree s).now = s.now := rfl
@[simp] theorem drawFree_free : (drawFree s).free = s.free + 1 := rfl
@[simp] theorem drawFree_out : (drawFree s).out = s.out := rfl
@[simp] theorem drawFree_regs : (drawFree s).regs = s.regs := rfl
@[simp] theorem drawFree_sram : (drawFree s).sram = s.sram := rfl
@[simp] theorem drawFree_hub : (drawFree s).hub = s.hub := rfl
@[simp] theorem drawFree_hbm : (drawFree s).hbm = s.hbm := rfl
@[simp] theorem drawFree_cores : (drawFree s).cores = s.cores := rfl
@[simp] theorem drawFree_fab : (drawFree s).fab = s.fab := rfl
@[simp] theorem drawFree_tick : (drawFree s).tick = s.tick := rfl
@[simp] theorem drawFree_sched : (drawFree s).sched = s.sched := rfl
@[simp] theorem drawFree_parts : (drawFree s).parts = s.parts := rfl
@[simp] theorem drawFree_resets : (drawFree s).resets = s.resets := rfl
@[simp] theorem drawFree_faults : (drawFree s).faults = s.faults := rfl
@[simp] theorem drawFree_jobFrames : (drawFree s).jobFrames = s.jobFrames := rfl
@[simp] theorem drawFree_jobBase : (drawFree s).jobBase = s.jobBase := rfl
@[simp] theorem drawFree_live : (drawFree s).live = s.live := rfl
@[simp] theorem drawFree_monOn : (drawFree s).monOn = s.monOn := rfl
@[simp] theorem drawFree_monClear : (drawFree s).monClear = s.monClear := rfl
@[simp] theorem drawFree_mem : (drawFree s).mem = s.mem := rfl
@[simp] theorem drawFree_energy : (drawFree s).energy = s.energy := rfl
@[simp] theorem drawFree_links : (drawFree s).links = s.links := rfl
@[simp] theorem drawFree_engines : (drawFree s).engines = s.engines := rfl
@[simp] theorem drawFree_rng : (drawFree s).rng = s.rng := rfl
@[simp] theorem drawFree_serve : (drawFree s).serve = s.serve := rfl
@[simp] theorem drawFree_host : (drawFree s).host = s.host := rfl
@[simp] theorem drawFree_dev : (drawFree s).dev = s.dev := rfl
@[simp] theorem drawFree_sec : (drawFree s).sec = s.sec := rfl
@[simp] theorem drawFree_dig : (drawFree s).dig = s.dig := rfl
@[simp] theorem drawFree_cairn : (drawFree s).cairn = s.cairn := rfl
@[simp] theorem drawFree_pair : (drawFree s).pair = s.pair := rfl
end

/-! ## rset -/

section
variable (k : Nat) (v : Word) (s : State)
@[simp] theorem rset_pending : (rset k v s).pending = s.pending := rfl
@[simp] theorem rset_now : (rset k v s).now = s.now := rfl
@[simp] theorem rset_free : (rset k v s).free = s.free := rfl
@[simp] theorem rset_out : (rset k v s).out = s.out := rfl
@[simp] theorem rset_regs : (rset k v s).regs = sset regReset s.regs k v := rfl
@[simp] theorem rset_sram : (rset k v s).sram = s.sram := rfl
@[simp] theorem rset_hub : (rset k v s).hub = s.hub := rfl
@[simp] theorem rset_hbm : (rset k v s).hbm = s.hbm := rfl
@[simp] theorem rset_cores : (rset k v s).cores = s.cores := rfl
@[simp] theorem rset_fab : (rset k v s).fab = s.fab := rfl
@[simp] theorem rset_tick : (rset k v s).tick = s.tick := rfl
@[simp] theorem rset_sched : (rset k v s).sched = s.sched := rfl
@[simp] theorem rset_parts : (rset k v s).parts = s.parts := rfl
@[simp] theorem rset_resets : (rset k v s).resets = s.resets := rfl
@[simp] theorem rset_faults : (rset k v s).faults = s.faults := rfl
@[simp] theorem rset_jobFrames : (rset k v s).jobFrames = s.jobFrames := rfl
@[simp] theorem rset_jobBase : (rset k v s).jobBase = s.jobBase := rfl
@[simp] theorem rset_live : (rset k v s).live = s.live := rfl
@[simp] theorem rset_monOn : (rset k v s).monOn = s.monOn := rfl
@[simp] theorem rset_monClear : (rset k v s).monClear = s.monClear := rfl
@[simp] theorem rset_mem : (rset k v s).mem = s.mem := rfl
@[simp] theorem rset_energy : (rset k v s).energy = s.energy := rfl
@[simp] theorem rset_links : (rset k v s).links = s.links := rfl
@[simp] theorem rset_engines : (rset k v s).engines = s.engines := rfl
@[simp] theorem rset_rng : (rset k v s).rng = s.rng := rfl
@[simp] theorem rset_serve : (rset k v s).serve = s.serve := rfl
@[simp] theorem rset_host : (rset k v s).host = s.host := rfl
@[simp] theorem rset_dev : (rset k v s).dev = s.dev := rfl
@[simp] theorem rset_sec : (rset k v s).sec = s.sec := rfl
@[simp] theorem rset_dig : (rset k v s).dig = s.dig := rfl
@[simp] theorem rset_cairn : (rset k v s).cairn = s.cairn := rfl
@[simp] theorem rset_pair : (rset k v s).pair = s.pair := rfl
end

/-! ## setReg -/

section
variable (a : Nat) (b : Nat) (c : Nat) (v : Word) (s : State)
@[simp] theorem setReg_pending : (setReg a b c v s).pending = s.pending := rfl
@[simp] theorem setReg_now : (setReg a b c v s).now = s.now := rfl
@[simp] theorem setReg_free : (setReg a b c v s).free = s.free := rfl
@[simp] theorem setReg_out : (setReg a b c v s).out = s.out := rfl
@[simp] theorem setReg_regs : (setReg a b c v s).regs = sset regReset s.regs (regKey a b c 0) v := rfl
@[simp] theorem setReg_sram : (setReg a b c v s).sram = s.sram := rfl
@[simp] theorem setReg_hub : (setReg a b c v s).hub = s.hub := rfl
@[simp] theorem setReg_hbm : (setReg a b c v s).hbm = s.hbm := rfl
@[simp] theorem setReg_cores : (setReg a b c v s).cores = s.cores := rfl
@[simp] theorem setReg_fab : (setReg a b c v s).fab = s.fab := rfl
@[simp] theorem setReg_tick : (setReg a b c v s).tick = s.tick := rfl
@[simp] theorem setReg_sched : (setReg a b c v s).sched = s.sched := rfl
@[simp] theorem setReg_parts : (setReg a b c v s).parts = s.parts := rfl
@[simp] theorem setReg_resets : (setReg a b c v s).resets = s.resets := rfl
@[simp] theorem setReg_faults : (setReg a b c v s).faults = s.faults := rfl
@[simp] theorem setReg_jobFrames : (setReg a b c v s).jobFrames = s.jobFrames := rfl
@[simp] theorem setReg_jobBase : (setReg a b c v s).jobBase = s.jobBase := rfl
@[simp] theorem setReg_live : (setReg a b c v s).live = s.live := rfl
@[simp] theorem setReg_monOn : (setReg a b c v s).monOn = s.monOn := rfl
@[simp] theorem setReg_monClear : (setReg a b c v s).monClear = s.monClear := rfl
@[simp] theorem setReg_mem : (setReg a b c v s).mem = s.mem := rfl
@[simp] theorem setReg_energy : (setReg a b c v s).energy = s.energy := rfl
@[simp] theorem setReg_links : (setReg a b c v s).links = s.links := rfl
@[simp] theorem setReg_engines : (setReg a b c v s).engines = s.engines := rfl
@[simp] theorem setReg_rng : (setReg a b c v s).rng = s.rng := rfl
@[simp] theorem setReg_serve : (setReg a b c v s).serve = s.serve := rfl
@[simp] theorem setReg_host : (setReg a b c v s).host = s.host := rfl
@[simp] theorem setReg_dev : (setReg a b c v s).dev = s.dev := rfl
@[simp] theorem setReg_sec : (setReg a b c v s).sec = s.sec := rfl
@[simp] theorem setReg_dig : (setReg a b c v s).dig = s.dig := rfl
@[simp] theorem setReg_cairn : (setReg a b c v s).cairn = s.cairn := rfl
@[simp] theorem setReg_pair : (setReg a b c v s).pair = s.pair := rfl
end

/-! ## setPart -/

section
variable (p : Nat) (x : Part) (s : State)
@[simp] theorem setPart_pending : (setPart p x s).pending = s.pending := rfl
@[simp] theorem setPart_now : (setPart p x s).now = s.now := rfl
@[simp] theorem setPart_free : (setPart p x s).free = s.free := rfl
@[simp] theorem setPart_out : (setPart p x s).out = s.out := rfl
@[simp] theorem setPart_regs : (setPart p x s).regs = s.regs := rfl
@[simp] theorem setPart_sram : (setPart p x s).sram = s.sram := rfl
@[simp] theorem setPart_hub : (setPart p x s).hub = s.hub := rfl
@[simp] theorem setPart_hbm : (setPart p x s).hbm = s.hbm := rfl
@[simp] theorem setPart_cores : (setPart p x s).cores = s.cores := rfl
@[simp] theorem setPart_fab : (setPart p x s).fab = s.fab := rfl
@[simp] theorem setPart_tick : (setPart p x s).tick = s.tick := rfl
@[simp] theorem setPart_sched : (setPart p x s).sched = s.sched := rfl
@[simp] theorem setPart_parts : (setPart p x s).parts = sset (fun _ => Part.reset) s.parts p x := rfl
@[simp] theorem setPart_resets : (setPart p x s).resets = s.resets := rfl
@[simp] theorem setPart_faults : (setPart p x s).faults = s.faults := rfl
@[simp] theorem setPart_jobFrames : (setPart p x s).jobFrames = s.jobFrames := rfl
@[simp] theorem setPart_jobBase : (setPart p x s).jobBase = s.jobBase := rfl
@[simp] theorem setPart_live : (setPart p x s).live = s.live := rfl
@[simp] theorem setPart_monOn : (setPart p x s).monOn = s.monOn := rfl
@[simp] theorem setPart_monClear : (setPart p x s).monClear = s.monClear := rfl
@[simp] theorem setPart_mem : (setPart p x s).mem = s.mem := rfl
@[simp] theorem setPart_energy : (setPart p x s).energy = s.energy := rfl
@[simp] theorem setPart_links : (setPart p x s).links = s.links := rfl
@[simp] theorem setPart_engines : (setPart p x s).engines = s.engines := rfl
@[simp] theorem setPart_rng : (setPart p x s).rng = s.rng := rfl
@[simp] theorem setPart_serve : (setPart p x s).serve = s.serve := rfl
@[simp] theorem setPart_host : (setPart p x s).host = s.host := rfl
@[simp] theorem setPart_dev : (setPart p x s).dev = s.dev := rfl
@[simp] theorem setPart_sec : (setPart p x s).sec = s.sec := rfl
@[simp] theorem setPart_dig : (setPart p x s).dig = s.dig := rfl
@[simp] theorem setPart_cairn : (setPart p x s).cairn = s.cairn := rfl
@[simp] theorem setPart_pair : (setPart p x s).pair = s.pair := rfl
end

/-! ## setCore -/

section
variable (c : Nat) (x : Core) (s : State)
@[simp] theorem setCore_pending : (setCore c x s).pending = s.pending := rfl
@[simp] theorem setCore_now : (setCore c x s).now = s.now := rfl
@[simp] theorem setCore_free : (setCore c x s).free = s.free := rfl
@[simp] theorem setCore_out : (setCore c x s).out = s.out := rfl
@[simp] theorem setCore_regs : (setCore c x s).regs = s.regs := rfl
@[simp] theorem setCore_sram : (setCore c x s).sram = s.sram := rfl
@[simp] theorem setCore_hub : (setCore c x s).hub = s.hub := rfl
@[simp] theorem setCore_hbm : (setCore c x s).hbm = s.hbm := rfl
@[simp] theorem setCore_cores : (setCore c x s).cores = sset (fun _ => Core.reset) s.cores c x := rfl
@[simp] theorem setCore_fab : (setCore c x s).fab = s.fab := rfl
@[simp] theorem setCore_tick : (setCore c x s).tick = s.tick := rfl
@[simp] theorem setCore_sched : (setCore c x s).sched = s.sched := rfl
@[simp] theorem setCore_parts : (setCore c x s).parts = s.parts := rfl
@[simp] theorem setCore_resets : (setCore c x s).resets = s.resets := rfl
@[simp] theorem setCore_faults : (setCore c x s).faults = s.faults := rfl
@[simp] theorem setCore_jobFrames : (setCore c x s).jobFrames = s.jobFrames := rfl
@[simp] theorem setCore_jobBase : (setCore c x s).jobBase = s.jobBase := rfl
@[simp] theorem setCore_live : (setCore c x s).live = s.live := rfl
@[simp] theorem setCore_monOn : (setCore c x s).monOn = s.monOn := rfl
@[simp] theorem setCore_monClear : (setCore c x s).monClear = s.monClear := rfl
@[simp] theorem setCore_mem : (setCore c x s).mem = s.mem := rfl
@[simp] theorem setCore_energy : (setCore c x s).energy = s.energy := rfl
@[simp] theorem setCore_links : (setCore c x s).links = s.links := rfl
@[simp] theorem setCore_engines : (setCore c x s).engines = s.engines := rfl
@[simp] theorem setCore_rng : (setCore c x s).rng = s.rng := rfl
@[simp] theorem setCore_serve : (setCore c x s).serve = s.serve := rfl
@[simp] theorem setCore_host : (setCore c x s).host = s.host := rfl
@[simp] theorem setCore_dev : (setCore c x s).dev = s.dev := rfl
@[simp] theorem setCore_sec : (setCore c x s).sec = s.sec := rfl
@[simp] theorem setCore_dig : (setCore c x s).dig = s.dig := rfl
@[simp] theorem setCore_cairn : (setCore c x s).cairn = s.cairn := rfl
@[simp] theorem setCore_pair : (setCore c x s).pair = s.pair := rfl
end

/-! ## modCore -/

section
variable (c : Nat) (f : Core → Core) (s : State)
@[simp] theorem modCore_pending : (modCore c f s).pending = s.pending := rfl
@[simp] theorem modCore_now : (modCore c f s).now = s.now := rfl
@[simp] theorem modCore_free : (modCore c f s).free = s.free := rfl
@[simp] theorem modCore_out : (modCore c f s).out = s.out := rfl
@[simp] theorem modCore_regs : (modCore c f s).regs = s.regs := rfl
@[simp] theorem modCore_sram : (modCore c f s).sram = s.sram := rfl
@[simp] theorem modCore_hub : (modCore c f s).hub = s.hub := rfl
@[simp] theorem modCore_hbm : (modCore c f s).hbm = s.hbm := rfl
@[simp] theorem modCore_cores : (modCore c f s).cores = sset (fun _ => Core.reset) s.cores c (f (core s c)) := rfl
@[simp] theorem modCore_fab : (modCore c f s).fab = s.fab := rfl
@[simp] theorem modCore_tick : (modCore c f s).tick = s.tick := rfl
@[simp] theorem modCore_sched : (modCore c f s).sched = s.sched := rfl
@[simp] theorem modCore_parts : (modCore c f s).parts = s.parts := rfl
@[simp] theorem modCore_resets : (modCore c f s).resets = s.resets := rfl
@[simp] theorem modCore_faults : (modCore c f s).faults = s.faults := rfl
@[simp] theorem modCore_jobFrames : (modCore c f s).jobFrames = s.jobFrames := rfl
@[simp] theorem modCore_jobBase : (modCore c f s).jobBase = s.jobBase := rfl
@[simp] theorem modCore_live : (modCore c f s).live = s.live := rfl
@[simp] theorem modCore_monOn : (modCore c f s).monOn = s.monOn := rfl
@[simp] theorem modCore_monClear : (modCore c f s).monClear = s.monClear := rfl
@[simp] theorem modCore_mem : (modCore c f s).mem = s.mem := rfl
@[simp] theorem modCore_energy : (modCore c f s).energy = s.energy := rfl
@[simp] theorem modCore_links : (modCore c f s).links = s.links := rfl
@[simp] theorem modCore_engines : (modCore c f s).engines = s.engines := rfl
@[simp] theorem modCore_rng : (modCore c f s).rng = s.rng := rfl
@[simp] theorem modCore_serve : (modCore c f s).serve = s.serve := rfl
@[simp] theorem modCore_host : (modCore c f s).host = s.host := rfl
@[simp] theorem modCore_dev : (modCore c f s).dev = s.dev := rfl
@[simp] theorem modCore_sec : (modCore c f s).sec = s.sec := rfl
@[simp] theorem modCore_dig : (modCore c f s).dig = s.dig := rfl
@[simp] theorem modCore_cairn : (modCore c f s).cairn = s.cairn := rfl
@[simp] theorem modCore_pair : (modCore c f s).pair = s.pair := rfl
end

/-! ## setLink -/

section
variable (l : Nat) (x : Link) (s : State)
@[simp] theorem setLink_pending : (setLink l x s).pending = s.pending := rfl
@[simp] theorem setLink_now : (setLink l x s).now = s.now := rfl
@[simp] theorem setLink_free : (setLink l x s).free = s.free := rfl
@[simp] theorem setLink_out : (setLink l x s).out = s.out := rfl
@[simp] theorem setLink_regs : (setLink l x s).regs = s.regs := rfl
@[simp] theorem setLink_sram : (setLink l x s).sram = s.sram := rfl
@[simp] theorem setLink_hub : (setLink l x s).hub = s.hub := rfl
@[simp] theorem setLink_hbm : (setLink l x s).hbm = s.hbm := rfl
@[simp] theorem setLink_cores : (setLink l x s).cores = s.cores := rfl
@[simp] theorem setLink_fab : (setLink l x s).fab = s.fab := rfl
@[simp] theorem setLink_tick : (setLink l x s).tick = s.tick := rfl
@[simp] theorem setLink_sched : (setLink l x s).sched = s.sched := rfl
@[simp] theorem setLink_parts : (setLink l x s).parts = s.parts := rfl
@[simp] theorem setLink_resets : (setLink l x s).resets = s.resets := rfl
@[simp] theorem setLink_faults : (setLink l x s).faults = s.faults := rfl
@[simp] theorem setLink_jobFrames : (setLink l x s).jobFrames = s.jobFrames := rfl
@[simp] theorem setLink_jobBase : (setLink l x s).jobBase = s.jobBase := rfl
@[simp] theorem setLink_live : (setLink l x s).live = s.live := rfl
@[simp] theorem setLink_monOn : (setLink l x s).monOn = s.monOn := rfl
@[simp] theorem setLink_monClear : (setLink l x s).monClear = s.monClear := rfl
@[simp] theorem setLink_mem : (setLink l x s).mem = s.mem := rfl
@[simp] theorem setLink_energy : (setLink l x s).energy = s.energy := rfl
@[simp] theorem setLink_links : (setLink l x s).links = sset (fun _ => Link.reset) s.links l x := rfl
@[simp] theorem setLink_engines : (setLink l x s).engines = s.engines := rfl
@[simp] theorem setLink_rng : (setLink l x s).rng = s.rng := rfl
@[simp] theorem setLink_serve : (setLink l x s).serve = s.serve := rfl
@[simp] theorem setLink_host : (setLink l x s).host = s.host := rfl
@[simp] theorem setLink_dev : (setLink l x s).dev = s.dev := rfl
@[simp] theorem setLink_sec : (setLink l x s).sec = s.sec := rfl
@[simp] theorem setLink_dig : (setLink l x s).dig = s.dig := rfl
@[simp] theorem setLink_cairn : (setLink l x s).cairn = s.cairn := rfl
@[simp] theorem setLink_pair : (setLink l x s).pair = s.pair := rfl
end

/-! ## setEngine -/

section
variable (n : Nat) (k : Nat) (x : RedEngine) (s : State)
@[simp] theorem setEngine_pending : (setEngine n k x s).pending = s.pending := rfl
@[simp] theorem setEngine_now : (setEngine n k x s).now = s.now := rfl
@[simp] theorem setEngine_free : (setEngine n k x s).free = s.free := rfl
@[simp] theorem setEngine_out : (setEngine n k x s).out = s.out := rfl
@[simp] theorem setEngine_regs : (setEngine n k x s).regs = s.regs := rfl
@[simp] theorem setEngine_sram : (setEngine n k x s).sram = s.sram := rfl
@[simp] theorem setEngine_hub : (setEngine n k x s).hub = s.hub := rfl
@[simp] theorem setEngine_hbm : (setEngine n k x s).hbm = s.hbm := rfl
@[simp] theorem setEngine_cores : (setEngine n k x s).cores = s.cores := rfl
@[simp] theorem setEngine_fab : (setEngine n k x s).fab = s.fab := rfl
@[simp] theorem setEngine_tick : (setEngine n k x s).tick = s.tick := rfl
@[simp] theorem setEngine_sched : (setEngine n k x s).sched = s.sched := rfl
@[simp] theorem setEngine_parts : (setEngine n k x s).parts = s.parts := rfl
@[simp] theorem setEngine_resets : (setEngine n k x s).resets = s.resets := rfl
@[simp] theorem setEngine_faults : (setEngine n k x s).faults = s.faults := rfl
@[simp] theorem setEngine_jobFrames : (setEngine n k x s).jobFrames = s.jobFrames := rfl
@[simp] theorem setEngine_jobBase : (setEngine n k x s).jobBase = s.jobBase := rfl
@[simp] theorem setEngine_live : (setEngine n k x s).live = s.live := rfl
@[simp] theorem setEngine_monOn : (setEngine n k x s).monOn = s.monOn := rfl
@[simp] theorem setEngine_monClear : (setEngine n k x s).monClear = s.monClear := rfl
@[simp] theorem setEngine_mem : (setEngine n k x s).mem = s.mem := rfl
@[simp] theorem setEngine_energy : (setEngine n k x s).energy = s.energy := rfl
@[simp] theorem setEngine_links : (setEngine n k x s).links = s.links := rfl
@[simp] theorem setEngine_engines : (setEngine n k x s).engines = sset (fun _ => RedEngine.reset) s.engines (4 * n + k) x := rfl
@[simp] theorem setEngine_rng : (setEngine n k x s).rng = s.rng := rfl
@[simp] theorem setEngine_serve : (setEngine n k x s).serve = s.serve := rfl
@[simp] theorem setEngine_host : (setEngine n k x s).host = s.host := rfl
@[simp] theorem setEngine_dev : (setEngine n k x s).dev = s.dev := rfl
@[simp] theorem setEngine_sec : (setEngine n k x s).sec = s.sec := rfl
@[simp] theorem setEngine_dig : (setEngine n k x s).dig = s.dig := rfl
@[simp] theorem setEngine_cairn : (setEngine n k x s).cairn = s.cairn := rfl
@[simp] theorem setEngine_pair : (setEngine n k x s).pair = s.pair := rfl
end

/-! ## setRng -/

section
variable (k : Nat) (x : RngSt) (s : State)
@[simp] theorem setRng_pending : (setRng k x s).pending = s.pending := rfl
@[simp] theorem setRng_now : (setRng k x s).now = s.now := rfl
@[simp] theorem setRng_free : (setRng k x s).free = s.free := rfl
@[simp] theorem setRng_out : (setRng k x s).out = s.out := rfl
@[simp] theorem setRng_regs : (setRng k x s).regs = s.regs := rfl
@[simp] theorem setRng_sram : (setRng k x s).sram = s.sram := rfl
@[simp] theorem setRng_hub : (setRng k x s).hub = s.hub := rfl
@[simp] theorem setRng_hbm : (setRng k x s).hbm = s.hbm := rfl
@[simp] theorem setRng_cores : (setRng k x s).cores = s.cores := rfl
@[simp] theorem setRng_fab : (setRng k x s).fab = s.fab := rfl
@[simp] theorem setRng_tick : (setRng k x s).tick = s.tick := rfl
@[simp] theorem setRng_sched : (setRng k x s).sched = s.sched := rfl
@[simp] theorem setRng_parts : (setRng k x s).parts = s.parts := rfl
@[simp] theorem setRng_resets : (setRng k x s).resets = s.resets := rfl
@[simp] theorem setRng_faults : (setRng k x s).faults = s.faults := rfl
@[simp] theorem setRng_jobFrames : (setRng k x s).jobFrames = s.jobFrames := rfl
@[simp] theorem setRng_jobBase : (setRng k x s).jobBase = s.jobBase := rfl
@[simp] theorem setRng_live : (setRng k x s).live = s.live := rfl
@[simp] theorem setRng_monOn : (setRng k x s).monOn = s.monOn := rfl
@[simp] theorem setRng_monClear : (setRng k x s).monClear = s.monClear := rfl
@[simp] theorem setRng_mem : (setRng k x s).mem = s.mem := rfl
@[simp] theorem setRng_energy : (setRng k x s).energy = s.energy := rfl
@[simp] theorem setRng_links : (setRng k x s).links = s.links := rfl
@[simp] theorem setRng_engines : (setRng k x s).engines = s.engines := rfl
@[simp] theorem setRng_rng : (setRng k x s).rng = sset (fun _ => RngSt.reset) s.rng k x := rfl
@[simp] theorem setRng_serve : (setRng k x s).serve = s.serve := rfl
@[simp] theorem setRng_host : (setRng k x s).host = s.host := rfl
@[simp] theorem setRng_dev : (setRng k x s).dev = s.dev := rfl
@[simp] theorem setRng_sec : (setRng k x s).sec = s.sec := rfl
@[simp] theorem setRng_dig : (setRng k x s).dig = s.dig := rfl
@[simp] theorem setRng_cairn : (setRng k x s).cairn = s.cairn := rfl
@[simp] theorem setRng_pair : (setRng k x s).pair = s.pair := rfl
end

/-! ## setSramLine -/

section
variable (c : Nat) (l : Nat) (x : Line) (s : State)
@[simp] theorem setSramLine_pending : (setSramLine c l x s).pending = s.pending := by simp only [setSramLine]
@[simp] theorem setSramLine_now : (setSramLine c l x s).now = s.now := by simp only [setSramLine]
@[simp] theorem setSramLine_free : (setSramLine c l x s).free = s.free := by simp only [setSramLine]
@[simp] theorem setSramLine_out : (setSramLine c l x s).out = s.out := by simp only [setSramLine]
@[simp] theorem setSramLine_regs : (setSramLine c l x s).regs = s.regs := by simp only [setSramLine]
@[simp] theorem setSramLine_sram : (setSramLine c l x s).sram = memPutLine s.sram (sramAddr c l) x := by simp only [setSramLine]
@[simp] theorem setSramLine_hub : (setSramLine c l x s).hub = s.hub := by simp only [setSramLine]
@[simp] theorem setSramLine_hbm : (setSramLine c l x s).hbm = s.hbm := by simp only [setSramLine]
@[simp] theorem setSramLine_cores : (setSramLine c l x s).cores = s.cores := by simp only [setSramLine]
@[simp] theorem setSramLine_fab : (setSramLine c l x s).fab = s.fab := by simp only [setSramLine]
@[simp] theorem setSramLine_tick : (setSramLine c l x s).tick = s.tick := by simp only [setSramLine]
@[simp] theorem setSramLine_sched : (setSramLine c l x s).sched = s.sched := by simp only [setSramLine]
@[simp] theorem setSramLine_parts : (setSramLine c l x s).parts = s.parts := by simp only [setSramLine]
@[simp] theorem setSramLine_resets : (setSramLine c l x s).resets = s.resets := by simp only [setSramLine]
@[simp] theorem setSramLine_faults : (setSramLine c l x s).faults = s.faults := by simp only [setSramLine]
@[simp] theorem setSramLine_jobFrames : (setSramLine c l x s).jobFrames = s.jobFrames := by simp only [setSramLine]
@[simp] theorem setSramLine_jobBase : (setSramLine c l x s).jobBase = s.jobBase := by simp only [setSramLine]
@[simp] theorem setSramLine_live : (setSramLine c l x s).live = s.live := by simp only [setSramLine]
@[simp] theorem setSramLine_monOn : (setSramLine c l x s).monOn = s.monOn := by simp only [setSramLine]
@[simp] theorem setSramLine_monClear : (setSramLine c l x s).monClear = s.monClear := by simp only [setSramLine]
@[simp] theorem setSramLine_mem : (setSramLine c l x s).mem = s.mem := by simp only [setSramLine]
@[simp] theorem setSramLine_energy : (setSramLine c l x s).energy = s.energy := by simp only [setSramLine]
@[simp] theorem setSramLine_links : (setSramLine c l x s).links = s.links := by simp only [setSramLine]
@[simp] theorem setSramLine_engines : (setSramLine c l x s).engines = s.engines := by simp only [setSramLine]
@[simp] theorem setSramLine_rng : (setSramLine c l x s).rng = s.rng := by simp only [setSramLine]
@[simp] theorem setSramLine_serve : (setSramLine c l x s).serve = s.serve := by simp only [setSramLine]
@[simp] theorem setSramLine_host : (setSramLine c l x s).host = s.host := by simp only [setSramLine]
@[simp] theorem setSramLine_dev : (setSramLine c l x s).dev = s.dev := by simp only [setSramLine]
@[simp] theorem setSramLine_sec : (setSramLine c l x s).sec = s.sec := by simp only [setSramLine]
@[simp] theorem setSramLine_dig : (setSramLine c l x s).dig = s.dig := by simp only [setSramLine]
@[simp] theorem setSramLine_cairn : (setSramLine c l x s).cairn = s.cairn := by simp only [setSramLine]
@[simp] theorem setSramLine_pair : (setSramLine c l x s).pair = s.pair := by simp only [setSramLine]
end

/-! ## modFaults -/

section
variable (f : Faults → Faults) (s : State)
@[simp] theorem modFaults_pending : (modFaults f s).pending = s.pending := rfl
@[simp] theorem modFaults_now : (modFaults f s).now = s.now := rfl
@[simp] theorem modFaults_free : (modFaults f s).free = s.free := rfl
@[simp] theorem modFaults_out : (modFaults f s).out = s.out := rfl
@[simp] theorem modFaults_regs : (modFaults f s).regs = s.regs := rfl
@[simp] theorem modFaults_sram : (modFaults f s).sram = s.sram := rfl
@[simp] theorem modFaults_hub : (modFaults f s).hub = s.hub := rfl
@[simp] theorem modFaults_hbm : (modFaults f s).hbm = s.hbm := rfl
@[simp] theorem modFaults_cores : (modFaults f s).cores = s.cores := rfl
@[simp] theorem modFaults_fab : (modFaults f s).fab = s.fab := rfl
@[simp] theorem modFaults_tick : (modFaults f s).tick = s.tick := rfl
@[simp] theorem modFaults_sched : (modFaults f s).sched = s.sched := rfl
@[simp] theorem modFaults_parts : (modFaults f s).parts = s.parts := rfl
@[simp] theorem modFaults_resets : (modFaults f s).resets = s.resets := rfl
@[simp] theorem modFaults_faults : (modFaults f s).faults = f s.faults := rfl
@[simp] theorem modFaults_jobFrames : (modFaults f s).jobFrames = s.jobFrames := rfl
@[simp] theorem modFaults_jobBase : (modFaults f s).jobBase = s.jobBase := rfl
@[simp] theorem modFaults_live : (modFaults f s).live = s.live := rfl
@[simp] theorem modFaults_monOn : (modFaults f s).monOn = s.monOn := rfl
@[simp] theorem modFaults_monClear : (modFaults f s).monClear = s.monClear := rfl
@[simp] theorem modFaults_mem : (modFaults f s).mem = s.mem := rfl
@[simp] theorem modFaults_energy : (modFaults f s).energy = s.energy := rfl
@[simp] theorem modFaults_links : (modFaults f s).links = s.links := rfl
@[simp] theorem modFaults_engines : (modFaults f s).engines = s.engines := rfl
@[simp] theorem modFaults_rng : (modFaults f s).rng = s.rng := rfl
@[simp] theorem modFaults_serve : (modFaults f s).serve = s.serve := rfl
@[simp] theorem modFaults_host : (modFaults f s).host = s.host := rfl
@[simp] theorem modFaults_dev : (modFaults f s).dev = s.dev := rfl
@[simp] theorem modFaults_sec : (modFaults f s).sec = s.sec := rfl
@[simp] theorem modFaults_dig : (modFaults f s).dig = s.dig := rfl
@[simp] theorem modFaults_cairn : (modFaults f s).cairn = s.cairn := rfl
@[simp] theorem modFaults_pair : (modFaults f s).pair = s.pair := rfl
end

/-! ## modServe -/

section
variable (f : ServeSt → ServeSt) (s : State)
@[simp] theorem modServe_pending : (modServe f s).pending = s.pending := rfl
@[simp] theorem modServe_now : (modServe f s).now = s.now := rfl
@[simp] theorem modServe_free : (modServe f s).free = s.free := rfl
@[simp] theorem modServe_out : (modServe f s).out = s.out := rfl
@[simp] theorem modServe_regs : (modServe f s).regs = s.regs := rfl
@[simp] theorem modServe_sram : (modServe f s).sram = s.sram := rfl
@[simp] theorem modServe_hub : (modServe f s).hub = s.hub := rfl
@[simp] theorem modServe_hbm : (modServe f s).hbm = s.hbm := rfl
@[simp] theorem modServe_cores : (modServe f s).cores = s.cores := rfl
@[simp] theorem modServe_fab : (modServe f s).fab = s.fab := rfl
@[simp] theorem modServe_tick : (modServe f s).tick = s.tick := rfl
@[simp] theorem modServe_sched : (modServe f s).sched = s.sched := rfl
@[simp] theorem modServe_parts : (modServe f s).parts = s.parts := rfl
@[simp] theorem modServe_resets : (modServe f s).resets = s.resets := rfl
@[simp] theorem modServe_faults : (modServe f s).faults = s.faults := rfl
@[simp] theorem modServe_jobFrames : (modServe f s).jobFrames = s.jobFrames := rfl
@[simp] theorem modServe_jobBase : (modServe f s).jobBase = s.jobBase := rfl
@[simp] theorem modServe_live : (modServe f s).live = s.live := rfl
@[simp] theorem modServe_monOn : (modServe f s).monOn = s.monOn := rfl
@[simp] theorem modServe_monClear : (modServe f s).monClear = s.monClear := rfl
@[simp] theorem modServe_mem : (modServe f s).mem = s.mem := rfl
@[simp] theorem modServe_energy : (modServe f s).energy = s.energy := rfl
@[simp] theorem modServe_links : (modServe f s).links = s.links := rfl
@[simp] theorem modServe_engines : (modServe f s).engines = s.engines := rfl
@[simp] theorem modServe_rng : (modServe f s).rng = s.rng := rfl
@[simp] theorem modServe_serve : (modServe f s).serve = f s.serve := rfl
@[simp] theorem modServe_host : (modServe f s).host = s.host := rfl
@[simp] theorem modServe_dev : (modServe f s).dev = s.dev := rfl
@[simp] theorem modServe_sec : (modServe f s).sec = s.sec := rfl
@[simp] theorem modServe_dig : (modServe f s).dig = s.dig := rfl
@[simp] theorem modServe_cairn : (modServe f s).cairn = s.cairn := rfl
@[simp] theorem modServe_pair : (modServe f s).pair = s.pair := rfl
end

/-! ## modHost -/

section
variable (f : HostSt → HostSt) (s : State)
@[simp] theorem modHost_pending : (modHost f s).pending = s.pending := rfl
@[simp] theorem modHost_now : (modHost f s).now = s.now := rfl
@[simp] theorem modHost_free : (modHost f s).free = s.free := rfl
@[simp] theorem modHost_out : (modHost f s).out = s.out := rfl
@[simp] theorem modHost_regs : (modHost f s).regs = s.regs := rfl
@[simp] theorem modHost_sram : (modHost f s).sram = s.sram := rfl
@[simp] theorem modHost_hub : (modHost f s).hub = s.hub := rfl
@[simp] theorem modHost_hbm : (modHost f s).hbm = s.hbm := rfl
@[simp] theorem modHost_cores : (modHost f s).cores = s.cores := rfl
@[simp] theorem modHost_fab : (modHost f s).fab = s.fab := rfl
@[simp] theorem modHost_tick : (modHost f s).tick = s.tick := rfl
@[simp] theorem modHost_sched : (modHost f s).sched = s.sched := rfl
@[simp] theorem modHost_parts : (modHost f s).parts = s.parts := rfl
@[simp] theorem modHost_resets : (modHost f s).resets = s.resets := rfl
@[simp] theorem modHost_faults : (modHost f s).faults = s.faults := rfl
@[simp] theorem modHost_jobFrames : (modHost f s).jobFrames = s.jobFrames := rfl
@[simp] theorem modHost_jobBase : (modHost f s).jobBase = s.jobBase := rfl
@[simp] theorem modHost_live : (modHost f s).live = s.live := rfl
@[simp] theorem modHost_monOn : (modHost f s).monOn = s.monOn := rfl
@[simp] theorem modHost_monClear : (modHost f s).monClear = s.monClear := rfl
@[simp] theorem modHost_mem : (modHost f s).mem = s.mem := rfl
@[simp] theorem modHost_energy : (modHost f s).energy = s.energy := rfl
@[simp] theorem modHost_links : (modHost f s).links = s.links := rfl
@[simp] theorem modHost_engines : (modHost f s).engines = s.engines := rfl
@[simp] theorem modHost_rng : (modHost f s).rng = s.rng := rfl
@[simp] theorem modHost_serve : (modHost f s).serve = s.serve := rfl
@[simp] theorem modHost_host : (modHost f s).host = f s.host := rfl
@[simp] theorem modHost_dev : (modHost f s).dev = s.dev := rfl
@[simp] theorem modHost_sec : (modHost f s).sec = s.sec := rfl
@[simp] theorem modHost_dig : (modHost f s).dig = s.dig := rfl
@[simp] theorem modHost_cairn : (modHost f s).cairn = s.cairn := rfl
@[simp] theorem modHost_pair : (modHost f s).pair = s.pair := rfl
end

/-! ## modSec -/

section
variable (f : SecSt → SecSt) (s : State)
@[simp] theorem modSec_pending : (modSec f s).pending = s.pending := rfl
@[simp] theorem modSec_now : (modSec f s).now = s.now := rfl
@[simp] theorem modSec_free : (modSec f s).free = s.free := rfl
@[simp] theorem modSec_out : (modSec f s).out = s.out := rfl
@[simp] theorem modSec_regs : (modSec f s).regs = s.regs := rfl
@[simp] theorem modSec_sram : (modSec f s).sram = s.sram := rfl
@[simp] theorem modSec_hub : (modSec f s).hub = s.hub := rfl
@[simp] theorem modSec_hbm : (modSec f s).hbm = s.hbm := rfl
@[simp] theorem modSec_cores : (modSec f s).cores = s.cores := rfl
@[simp] theorem modSec_fab : (modSec f s).fab = s.fab := rfl
@[simp] theorem modSec_tick : (modSec f s).tick = s.tick := rfl
@[simp] theorem modSec_sched : (modSec f s).sched = s.sched := rfl
@[simp] theorem modSec_parts : (modSec f s).parts = s.parts := rfl
@[simp] theorem modSec_resets : (modSec f s).resets = s.resets := rfl
@[simp] theorem modSec_faults : (modSec f s).faults = s.faults := rfl
@[simp] theorem modSec_jobFrames : (modSec f s).jobFrames = s.jobFrames := rfl
@[simp] theorem modSec_jobBase : (modSec f s).jobBase = s.jobBase := rfl
@[simp] theorem modSec_live : (modSec f s).live = s.live := rfl
@[simp] theorem modSec_monOn : (modSec f s).monOn = s.monOn := rfl
@[simp] theorem modSec_monClear : (modSec f s).monClear = s.monClear := rfl
@[simp] theorem modSec_mem : (modSec f s).mem = s.mem := rfl
@[simp] theorem modSec_energy : (modSec f s).energy = s.energy := rfl
@[simp] theorem modSec_links : (modSec f s).links = s.links := rfl
@[simp] theorem modSec_engines : (modSec f s).engines = s.engines := rfl
@[simp] theorem modSec_rng : (modSec f s).rng = s.rng := rfl
@[simp] theorem modSec_serve : (modSec f s).serve = s.serve := rfl
@[simp] theorem modSec_host : (modSec f s).host = s.host := rfl
@[simp] theorem modSec_dev : (modSec f s).dev = s.dev := rfl
@[simp] theorem modSec_sec : (modSec f s).sec = f s.sec := rfl
@[simp] theorem modSec_dig : (modSec f s).dig = s.dig := rfl
@[simp] theorem modSec_cairn : (modSec f s).cairn = s.cairn := rfl
@[simp] theorem modSec_pair : (modSec f s).pair = s.pair := rfl
end

/-! ## modSched -/

section
variable (f : Sched → Sched) (s : State)
@[simp] theorem modSched_pending : (modSched f s).pending = s.pending := rfl
@[simp] theorem modSched_now : (modSched f s).now = s.now := rfl
@[simp] theorem modSched_free : (modSched f s).free = s.free := rfl
@[simp] theorem modSched_out : (modSched f s).out = s.out := rfl
@[simp] theorem modSched_regs : (modSched f s).regs = s.regs := rfl
@[simp] theorem modSched_sram : (modSched f s).sram = s.sram := rfl
@[simp] theorem modSched_hub : (modSched f s).hub = s.hub := rfl
@[simp] theorem modSched_hbm : (modSched f s).hbm = s.hbm := rfl
@[simp] theorem modSched_cores : (modSched f s).cores = s.cores := rfl
@[simp] theorem modSched_fab : (modSched f s).fab = s.fab := rfl
@[simp] theorem modSched_tick : (modSched f s).tick = s.tick := rfl
@[simp] theorem modSched_sched : (modSched f s).sched = f s.sched := rfl
@[simp] theorem modSched_parts : (modSched f s).parts = s.parts := rfl
@[simp] theorem modSched_resets : (modSched f s).resets = s.resets := rfl
@[simp] theorem modSched_faults : (modSched f s).faults = s.faults := rfl
@[simp] theorem modSched_jobFrames : (modSched f s).jobFrames = s.jobFrames := rfl
@[simp] theorem modSched_jobBase : (modSched f s).jobBase = s.jobBase := rfl
@[simp] theorem modSched_live : (modSched f s).live = s.live := rfl
@[simp] theorem modSched_monOn : (modSched f s).monOn = s.monOn := rfl
@[simp] theorem modSched_monClear : (modSched f s).monClear = s.monClear := rfl
@[simp] theorem modSched_mem : (modSched f s).mem = s.mem := rfl
@[simp] theorem modSched_energy : (modSched f s).energy = s.energy := rfl
@[simp] theorem modSched_links : (modSched f s).links = s.links := rfl
@[simp] theorem modSched_engines : (modSched f s).engines = s.engines := rfl
@[simp] theorem modSched_rng : (modSched f s).rng = s.rng := rfl
@[simp] theorem modSched_serve : (modSched f s).serve = s.serve := rfl
@[simp] theorem modSched_host : (modSched f s).host = s.host := rfl
@[simp] theorem modSched_dev : (modSched f s).dev = s.dev := rfl
@[simp] theorem modSched_sec : (modSched f s).sec = s.sec := rfl
@[simp] theorem modSched_dig : (modSched f s).dig = s.dig := rfl
@[simp] theorem modSched_cairn : (modSched f s).cairn = s.cairn := rfl
@[simp] theorem modSched_pair : (modSched f s).pair = s.pair := rfl
end

/-! ## modDig -/

section
variable (f : DigSt → DigSt) (s : State)
@[simp] theorem modDig_pending : (modDig f s).pending = s.pending := rfl
@[simp] theorem modDig_now : (modDig f s).now = s.now := rfl
@[simp] theorem modDig_free : (modDig f s).free = s.free := rfl
@[simp] theorem modDig_out : (modDig f s).out = s.out := rfl
@[simp] theorem modDig_regs : (modDig f s).regs = s.regs := rfl
@[simp] theorem modDig_sram : (modDig f s).sram = s.sram := rfl
@[simp] theorem modDig_hub : (modDig f s).hub = s.hub := rfl
@[simp] theorem modDig_hbm : (modDig f s).hbm = s.hbm := rfl
@[simp] theorem modDig_cores : (modDig f s).cores = s.cores := rfl
@[simp] theorem modDig_fab : (modDig f s).fab = s.fab := rfl
@[simp] theorem modDig_tick : (modDig f s).tick = s.tick := rfl
@[simp] theorem modDig_sched : (modDig f s).sched = s.sched := rfl
@[simp] theorem modDig_parts : (modDig f s).parts = s.parts := rfl
@[simp] theorem modDig_resets : (modDig f s).resets = s.resets := rfl
@[simp] theorem modDig_faults : (modDig f s).faults = s.faults := rfl
@[simp] theorem modDig_jobFrames : (modDig f s).jobFrames = s.jobFrames := rfl
@[simp] theorem modDig_jobBase : (modDig f s).jobBase = s.jobBase := rfl
@[simp] theorem modDig_live : (modDig f s).live = s.live := rfl
@[simp] theorem modDig_monOn : (modDig f s).monOn = s.monOn := rfl
@[simp] theorem modDig_monClear : (modDig f s).monClear = s.monClear := rfl
@[simp] theorem modDig_mem : (modDig f s).mem = s.mem := rfl
@[simp] theorem modDig_energy : (modDig f s).energy = s.energy := rfl
@[simp] theorem modDig_links : (modDig f s).links = s.links := rfl
@[simp] theorem modDig_engines : (modDig f s).engines = s.engines := rfl
@[simp] theorem modDig_rng : (modDig f s).rng = s.rng := rfl
@[simp] theorem modDig_serve : (modDig f s).serve = s.serve := rfl
@[simp] theorem modDig_host : (modDig f s).host = s.host := rfl
@[simp] theorem modDig_dev : (modDig f s).dev = s.dev := rfl
@[simp] theorem modDig_sec : (modDig f s).sec = s.sec := rfl
@[simp] theorem modDig_dig : (modDig f s).dig = f s.dig := rfl
@[simp] theorem modDig_cairn : (modDig f s).cairn = s.cairn := rfl
@[simp] theorem modDig_pair : (modDig f s).pair = s.pair := rfl
end

/-! ## modTick -/

section
variable (f : Tick → Tick) (s : State)
@[simp] theorem modTick_pending : (modTick f s).pending = s.pending := rfl
@[simp] theorem modTick_now : (modTick f s).now = s.now := rfl
@[simp] theorem modTick_free : (modTick f s).free = s.free := rfl
@[simp] theorem modTick_out : (modTick f s).out = s.out := rfl
@[simp] theorem modTick_regs : (modTick f s).regs = s.regs := rfl
@[simp] theorem modTick_sram : (modTick f s).sram = s.sram := rfl
@[simp] theorem modTick_hub : (modTick f s).hub = s.hub := rfl
@[simp] theorem modTick_hbm : (modTick f s).hbm = s.hbm := rfl
@[simp] theorem modTick_cores : (modTick f s).cores = s.cores := rfl
@[simp] theorem modTick_fab : (modTick f s).fab = s.fab := rfl
@[simp] theorem modTick_tick : (modTick f s).tick = f s.tick := rfl
@[simp] theorem modTick_sched : (modTick f s).sched = s.sched := rfl
@[simp] theorem modTick_parts : (modTick f s).parts = s.parts := rfl
@[simp] theorem modTick_resets : (modTick f s).resets = s.resets := rfl
@[simp] theorem modTick_faults : (modTick f s).faults = s.faults := rfl
@[simp] theorem modTick_jobFrames : (modTick f s).jobFrames = s.jobFrames := rfl
@[simp] theorem modTick_jobBase : (modTick f s).jobBase = s.jobBase := rfl
@[simp] theorem modTick_live : (modTick f s).live = s.live := rfl
@[simp] theorem modTick_monOn : (modTick f s).monOn = s.monOn := rfl
@[simp] theorem modTick_monClear : (modTick f s).monClear = s.monClear := rfl
@[simp] theorem modTick_mem : (modTick f s).mem = s.mem := rfl
@[simp] theorem modTick_energy : (modTick f s).energy = s.energy := rfl
@[simp] theorem modTick_links : (modTick f s).links = s.links := rfl
@[simp] theorem modTick_engines : (modTick f s).engines = s.engines := rfl
@[simp] theorem modTick_rng : (modTick f s).rng = s.rng := rfl
@[simp] theorem modTick_serve : (modTick f s).serve = s.serve := rfl
@[simp] theorem modTick_host : (modTick f s).host = s.host := rfl
@[simp] theorem modTick_dev : (modTick f s).dev = s.dev := rfl
@[simp] theorem modTick_sec : (modTick f s).sec = s.sec := rfl
@[simp] theorem modTick_dig : (modTick f s).dig = s.dig := rfl
@[simp] theorem modTick_cairn : (modTick f s).cairn = s.cairn := rfl
@[simp] theorem modTick_pair : (modTick f s).pair = s.pair := rfl
end

/-! ## modEnergy -/

section
variable (f : Energy → Energy) (s : State)
@[simp] theorem modEnergy_pending : (modEnergy f s).pending = s.pending := rfl
@[simp] theorem modEnergy_now : (modEnergy f s).now = s.now := rfl
@[simp] theorem modEnergy_free : (modEnergy f s).free = s.free := rfl
@[simp] theorem modEnergy_out : (modEnergy f s).out = s.out := rfl
@[simp] theorem modEnergy_regs : (modEnergy f s).regs = s.regs := rfl
@[simp] theorem modEnergy_sram : (modEnergy f s).sram = s.sram := rfl
@[simp] theorem modEnergy_hub : (modEnergy f s).hub = s.hub := rfl
@[simp] theorem modEnergy_hbm : (modEnergy f s).hbm = s.hbm := rfl
@[simp] theorem modEnergy_cores : (modEnergy f s).cores = s.cores := rfl
@[simp] theorem modEnergy_fab : (modEnergy f s).fab = s.fab := rfl
@[simp] theorem modEnergy_tick : (modEnergy f s).tick = s.tick := rfl
@[simp] theorem modEnergy_sched : (modEnergy f s).sched = s.sched := rfl
@[simp] theorem modEnergy_parts : (modEnergy f s).parts = s.parts := rfl
@[simp] theorem modEnergy_resets : (modEnergy f s).resets = s.resets := rfl
@[simp] theorem modEnergy_faults : (modEnergy f s).faults = s.faults := rfl
@[simp] theorem modEnergy_jobFrames : (modEnergy f s).jobFrames = s.jobFrames := rfl
@[simp] theorem modEnergy_jobBase : (modEnergy f s).jobBase = s.jobBase := rfl
@[simp] theorem modEnergy_live : (modEnergy f s).live = s.live := rfl
@[simp] theorem modEnergy_monOn : (modEnergy f s).monOn = s.monOn := rfl
@[simp] theorem modEnergy_monClear : (modEnergy f s).monClear = s.monClear := rfl
@[simp] theorem modEnergy_mem : (modEnergy f s).mem = s.mem := rfl
@[simp] theorem modEnergy_energy : (modEnergy f s).energy = f s.energy := rfl
@[simp] theorem modEnergy_links : (modEnergy f s).links = s.links := rfl
@[simp] theorem modEnergy_engines : (modEnergy f s).engines = s.engines := rfl
@[simp] theorem modEnergy_rng : (modEnergy f s).rng = s.rng := rfl
@[simp] theorem modEnergy_serve : (modEnergy f s).serve = s.serve := rfl
@[simp] theorem modEnergy_host : (modEnergy f s).host = s.host := rfl
@[simp] theorem modEnergy_dev : (modEnergy f s).dev = s.dev := rfl
@[simp] theorem modEnergy_sec : (modEnergy f s).sec = s.sec := rfl
@[simp] theorem modEnergy_dig : (modEnergy f s).dig = s.dig := rfl
@[simp] theorem modEnergy_cairn : (modEnergy f s).cairn = s.cairn := rfl
@[simp] theorem modEnergy_pair : (modEnergy f s).pair = s.pair := rfl
end

/-! ## setKeySlot -/

section
variable (k : Nat) (x : KeySlot) (s : State)
@[simp] theorem setKeySlot_pending : (setKeySlot k x s).pending = s.pending := rfl
@[simp] theorem setKeySlot_now : (setKeySlot k x s).now = s.now := rfl
@[simp] theorem setKeySlot_free : (setKeySlot k x s).free = s.free := rfl
@[simp] theorem setKeySlot_out : (setKeySlot k x s).out = s.out := rfl
@[simp] theorem setKeySlot_regs : (setKeySlot k x s).regs = s.regs := rfl
@[simp] theorem setKeySlot_sram : (setKeySlot k x s).sram = s.sram := rfl
@[simp] theorem setKeySlot_hub : (setKeySlot k x s).hub = s.hub := rfl
@[simp] theorem setKeySlot_hbm : (setKeySlot k x s).hbm = s.hbm := rfl
@[simp] theorem setKeySlot_cores : (setKeySlot k x s).cores = s.cores := rfl
@[simp] theorem setKeySlot_fab : (setKeySlot k x s).fab = s.fab := rfl
@[simp] theorem setKeySlot_tick : (setKeySlot k x s).tick = s.tick := rfl
@[simp] theorem setKeySlot_sched : (setKeySlot k x s).sched = s.sched := rfl
@[simp] theorem setKeySlot_parts : (setKeySlot k x s).parts = s.parts := rfl
@[simp] theorem setKeySlot_resets : (setKeySlot k x s).resets = s.resets := rfl
@[simp] theorem setKeySlot_faults : (setKeySlot k x s).faults = s.faults := rfl
@[simp] theorem setKeySlot_jobFrames : (setKeySlot k x s).jobFrames = s.jobFrames := rfl
@[simp] theorem setKeySlot_jobBase : (setKeySlot k x s).jobBase = s.jobBase := rfl
@[simp] theorem setKeySlot_live : (setKeySlot k x s).live = s.live := rfl
@[simp] theorem setKeySlot_monOn : (setKeySlot k x s).monOn = s.monOn := rfl
@[simp] theorem setKeySlot_monClear : (setKeySlot k x s).monClear = s.monClear := rfl
@[simp] theorem setKeySlot_mem : (setKeySlot k x s).mem = { s.mem with keys := sset (fun _ => KeySlot.reset) s.mem.keys k x } := rfl
@[simp] theorem setKeySlot_energy : (setKeySlot k x s).energy = s.energy := rfl
@[simp] theorem setKeySlot_links : (setKeySlot k x s).links = s.links := rfl
@[simp] theorem setKeySlot_engines : (setKeySlot k x s).engines = s.engines := rfl
@[simp] theorem setKeySlot_rng : (setKeySlot k x s).rng = s.rng := rfl
@[simp] theorem setKeySlot_serve : (setKeySlot k x s).serve = s.serve := rfl
@[simp] theorem setKeySlot_host : (setKeySlot k x s).host = s.host := rfl
@[simp] theorem setKeySlot_dev : (setKeySlot k x s).dev = s.dev := rfl
@[simp] theorem setKeySlot_sec : (setKeySlot k x s).sec = s.sec := rfl
@[simp] theorem setKeySlot_dig : (setKeySlot k x s).dig = s.dig := rfl
@[simp] theorem setKeySlot_cairn : (setKeySlot k x s).cairn = s.cairn := rfl
@[simp] theorem setKeySlot_pair : (setKeySlot k x s).pair = s.pair := rfl
end

/-! ## setMove -/

section
variable (m : Move) (x : Move) (s : State)
@[simp] theorem setMove_pending : (setMove m x s).pending = s.pending := rfl
@[simp] theorem setMove_now : (setMove m x s).now = s.now := rfl
@[simp] theorem setMove_free : (setMove m x s).free = s.free := rfl
@[simp] theorem setMove_out : (setMove m x s).out = s.out := rfl
@[simp] theorem setMove_regs : (setMove m x s).regs = s.regs := rfl
@[simp] theorem setMove_sram : (setMove m x s).sram = s.sram := rfl
@[simp] theorem setMove_hub : (setMove m x s).hub = s.hub := rfl
@[simp] theorem setMove_hbm : (setMove m x s).hbm = s.hbm := rfl
@[simp] theorem setMove_cores : (setMove m x s).cores = s.cores := rfl
@[simp] theorem setMove_fab : (setMove m x s).fab = s.fab := rfl
@[simp] theorem setMove_tick : (setMove m x s).tick = s.tick := rfl
@[simp] theorem setMove_sched : (setMove m x s).sched = s.sched := rfl
@[simp] theorem setMove_parts : (setMove m x s).parts = s.parts := rfl
@[simp] theorem setMove_resets : (setMove m x s).resets = s.resets := rfl
@[simp] theorem setMove_faults : (setMove m x s).faults = s.faults := rfl
@[simp] theorem setMove_jobFrames : (setMove m x s).jobFrames = s.jobFrames := rfl
@[simp] theorem setMove_jobBase : (setMove m x s).jobBase = s.jobBase := rfl
@[simp] theorem setMove_live : (setMove m x s).live = s.live := rfl
@[simp] theorem setMove_monOn : (setMove m x s).monOn = s.monOn := rfl
@[simp] theorem setMove_monClear : (setMove m x s).monClear = s.monClear := rfl
@[simp] theorem setMove_mem : (setMove m x s).mem = { s.mem with moves := s.mem.moves.map fun y => if y == m then x else y } := rfl
@[simp] theorem setMove_energy : (setMove m x s).energy = s.energy := rfl
@[simp] theorem setMove_links : (setMove m x s).links = s.links := rfl
@[simp] theorem setMove_engines : (setMove m x s).engines = s.engines := rfl
@[simp] theorem setMove_rng : (setMove m x s).rng = s.rng := rfl
@[simp] theorem setMove_serve : (setMove m x s).serve = s.serve := rfl
@[simp] theorem setMove_host : (setMove m x s).host = s.host := rfl
@[simp] theorem setMove_dev : (setMove m x s).dev = s.dev := rfl
@[simp] theorem setMove_sec : (setMove m x s).sec = s.sec := rfl
@[simp] theorem setMove_dig : (setMove m x s).dig = s.dig := rfl
@[simp] theorem setMove_cairn : (setMove m x s).cairn = s.cairn := rfl
@[simp] theorem setMove_pair : (setMove m x s).pair = s.pair := rfl
end

/-! ## addWire -/

section
variable (y : Wire) (s : State)
@[simp] theorem addWire_pending : (addWire y s).pending = s.pending := rfl
@[simp] theorem addWire_now : (addWire y s).now = s.now := rfl
@[simp] theorem addWire_free : (addWire y s).free = s.free := rfl
@[simp] theorem addWire_out : (addWire y s).out = s.out := rfl
@[simp] theorem addWire_regs : (addWire y s).regs = s.regs := rfl
@[simp] theorem addWire_sram : (addWire y s).sram = s.sram := rfl
@[simp] theorem addWire_hub : (addWire y s).hub = s.hub := rfl
@[simp] theorem addWire_hbm : (addWire y s).hbm = s.hbm := rfl
@[simp] theorem addWire_cores : (addWire y s).cores = s.cores := rfl
@[simp] theorem addWire_fab : (addWire y s).fab = { s.fab with wires := s.fab.wires ++ [y] } := rfl
@[simp] theorem addWire_tick : (addWire y s).tick = s.tick := rfl
@[simp] theorem addWire_sched : (addWire y s).sched = s.sched := rfl
@[simp] theorem addWire_parts : (addWire y s).parts = s.parts := rfl
@[simp] theorem addWire_resets : (addWire y s).resets = s.resets := rfl
@[simp] theorem addWire_faults : (addWire y s).faults = s.faults := rfl
@[simp] theorem addWire_jobFrames : (addWire y s).jobFrames = s.jobFrames := rfl
@[simp] theorem addWire_jobBase : (addWire y s).jobBase = s.jobBase := rfl
@[simp] theorem addWire_live : (addWire y s).live = s.live := rfl
@[simp] theorem addWire_monOn : (addWire y s).monOn = s.monOn := rfl
@[simp] theorem addWire_monClear : (addWire y s).monClear = s.monClear := rfl
@[simp] theorem addWire_mem : (addWire y s).mem = s.mem := rfl
@[simp] theorem addWire_energy : (addWire y s).energy = s.energy := rfl
@[simp] theorem addWire_links : (addWire y s).links = s.links := rfl
@[simp] theorem addWire_engines : (addWire y s).engines = s.engines := rfl
@[simp] theorem addWire_rng : (addWire y s).rng = s.rng := rfl
@[simp] theorem addWire_serve : (addWire y s).serve = s.serve := rfl
@[simp] theorem addWire_host : (addWire y s).host = s.host := rfl
@[simp] theorem addWire_dev : (addWire y s).dev = s.dev := rfl
@[simp] theorem addWire_sec : (addWire y s).sec = s.sec := rfl
@[simp] theorem addWire_dig : (addWire y s).dig = s.dig := rfl
@[simp] theorem addWire_cairn : (addWire y s).cairn = s.cairn := rfl
@[simp] theorem addWire_pair : (addWire y s).pair = s.pair := rfl
end

/-! ## noteHub, setHubLine -/

section
variable (cirque h : Nat) (x : Line) (s : State)
@[simp] theorem noteHub_pending : (noteHub cirque h s).pending = s.pending := by unfold noteHub; split <;> rfl
@[simp] theorem noteHub_now : (noteHub cirque h s).now = s.now := by unfold noteHub; split <;> rfl
@[simp] theorem noteHub_free : (noteHub cirque h s).free = s.free := by unfold noteHub; split <;> rfl
@[simp] theorem noteHub_out : (noteHub cirque h s).out = s.out := by unfold noteHub; split <;> rfl
@[simp] theorem noteHub_regs : (noteHub cirque h s).regs = s.regs := by unfold noteHub; split <;> rfl
@[simp] theorem noteHub_sram : (noteHub cirque h s).sram = s.sram := by unfold noteHub; split <;> rfl
@[simp] theorem noteHub_hub : (noteHub cirque h s).hub = s.hub := by unfold noteHub; split <;> rfl
@[simp] theorem noteHub_hbm : (noteHub cirque h s).hbm = s.hbm := by unfold noteHub; split <;> rfl
@[simp] theorem noteHub_cores : (noteHub cirque h s).cores = s.cores := by unfold noteHub; split <;> rfl
@[simp] theorem noteHub_fab : (noteHub cirque h s).fab = s.fab := by unfold noteHub; split <;> rfl
@[simp] theorem noteHub_tick : (noteHub cirque h s).tick = s.tick := by unfold noteHub; split <;> rfl
@[simp] theorem noteHub_sched : (noteHub cirque h s).sched = s.sched := by unfold noteHub; split <;> rfl
@[simp] theorem noteHub_parts : (noteHub cirque h s).parts = s.parts := by unfold noteHub; split <;> rfl
@[simp] theorem noteHub_resets : (noteHub cirque h s).resets = s.resets := by unfold noteHub; split <;> rfl
@[simp] theorem noteHub_faults : (noteHub cirque h s).faults = s.faults := by unfold noteHub; split <;> rfl
@[simp] theorem noteHub_jobFrames : (noteHub cirque h s).jobFrames = s.jobFrames := by unfold noteHub; split <;> rfl
@[simp] theorem noteHub_jobBase : (noteHub cirque h s).jobBase = s.jobBase := by unfold noteHub; split <;> rfl
@[simp] theorem noteHub_live : (noteHub cirque h s).live = s.live := by unfold noteHub; split <;> rfl
@[simp] theorem noteHub_monOn : (noteHub cirque h s).monOn = s.monOn := by unfold noteHub; split <;> rfl
@[simp] theorem noteHub_monClear : (noteHub cirque h s).monClear = s.monClear := by unfold noteHub; split <;> rfl
@[simp] theorem noteHub_energy : (noteHub cirque h s).energy = s.energy := by unfold noteHub; split <;> rfl
@[simp] theorem noteHub_links : (noteHub cirque h s).links = s.links := by unfold noteHub; split <;> rfl
@[simp] theorem noteHub_engines : (noteHub cirque h s).engines = s.engines := by unfold noteHub; split <;> rfl
@[simp] theorem noteHub_rng : (noteHub cirque h s).rng = s.rng := by unfold noteHub; split <;> rfl
@[simp] theorem noteHub_serve : (noteHub cirque h s).serve = s.serve := by unfold noteHub; split <;> rfl
@[simp] theorem noteHub_host : (noteHub cirque h s).host = s.host := by unfold noteHub; split <;> rfl
@[simp] theorem noteHub_dev : (noteHub cirque h s).dev = s.dev := by unfold noteHub; split <;> rfl
@[simp] theorem noteHub_sec : (noteHub cirque h s).sec = s.sec := by unfold noteHub; split <;> rfl
@[simp] theorem noteHub_dig : (noteHub cirque h s).dig = s.dig := by unfold noteHub; split <;> rfl
@[simp] theorem noteHub_cairn : (noteHub cirque h s).cairn = s.cairn := by unfold noteHub; split <;> rfl
@[simp] theorem noteHub_pair : (noteHub cirque h s).pair = s.pair := by unfold noteHub; split <;> rfl
@[simp] theorem setHubLine_pending : (setHubLine cirque h x s).pending = s.pending := by simp only [setHubLine, noteHub_pending]
@[simp] theorem setHubLine_now : (setHubLine cirque h x s).now = s.now := by simp only [setHubLine, noteHub_now]
@[simp] theorem setHubLine_free : (setHubLine cirque h x s).free = s.free := by simp only [setHubLine, noteHub_free]
@[simp] theorem setHubLine_out : (setHubLine cirque h x s).out = s.out := by simp only [setHubLine, noteHub_out]
@[simp] theorem setHubLine_regs : (setHubLine cirque h x s).regs = s.regs := by simp only [setHubLine, noteHub_regs]
@[simp] theorem setHubLine_sram : (setHubLine cirque h x s).sram = s.sram := by simp only [setHubLine, noteHub_sram]
@[simp] theorem setHubLine_hub :
    (setHubLine cirque h x s).hub = memPutLine s.hub (2 ^ 26 * cirque + 64 * h) x := by
  simp only [setHubLine, noteHub_hub]
@[simp] theorem setHubLine_hbm : (setHubLine cirque h x s).hbm = s.hbm := by simp only [setHubLine, noteHub_hbm]
@[simp] theorem setHubLine_cores : (setHubLine cirque h x s).cores = s.cores := by simp only [setHubLine, noteHub_cores]
@[simp] theorem setHubLine_fab : (setHubLine cirque h x s).fab = s.fab := by simp only [setHubLine, noteHub_fab]
@[simp] theorem setHubLine_tick : (setHubLine cirque h x s).tick = s.tick := by simp only [setHubLine, noteHub_tick]
@[simp] theorem setHubLine_sched : (setHubLine cirque h x s).sched = s.sched := by simp only [setHubLine, noteHub_sched]
@[simp] theorem setHubLine_parts : (setHubLine cirque h x s).parts = s.parts := by simp only [setHubLine, noteHub_parts]
@[simp] theorem setHubLine_resets : (setHubLine cirque h x s).resets = s.resets := by simp only [setHubLine, noteHub_resets]
@[simp] theorem setHubLine_faults : (setHubLine cirque h x s).faults = s.faults := by simp only [setHubLine, noteHub_faults]
@[simp] theorem setHubLine_jobFrames : (setHubLine cirque h x s).jobFrames = s.jobFrames := by simp only [setHubLine, noteHub_jobFrames]
@[simp] theorem setHubLine_jobBase : (setHubLine cirque h x s).jobBase = s.jobBase := by simp only [setHubLine, noteHub_jobBase]
@[simp] theorem setHubLine_live : (setHubLine cirque h x s).live = s.live := by simp only [setHubLine, noteHub_live]
@[simp] theorem setHubLine_monOn : (setHubLine cirque h x s).monOn = s.monOn := by simp only [setHubLine, noteHub_monOn]
@[simp] theorem setHubLine_monClear : (setHubLine cirque h x s).monClear = s.monClear := by simp only [setHubLine, noteHub_monClear]
@[simp] theorem setHubLine_mem : (setHubLine cirque h x s).mem = (noteHub cirque h s).mem := by simp only [setHubLine]
@[simp] theorem setHubLine_energy : (setHubLine cirque h x s).energy = s.energy := by simp only [setHubLine, noteHub_energy]
@[simp] theorem setHubLine_links : (setHubLine cirque h x s).links = s.links := by simp only [setHubLine, noteHub_links]
@[simp] theorem setHubLine_engines : (setHubLine cirque h x s).engines = s.engines := by simp only [setHubLine, noteHub_engines]
@[simp] theorem setHubLine_rng : (setHubLine cirque h x s).rng = s.rng := by simp only [setHubLine, noteHub_rng]
@[simp] theorem setHubLine_serve : (setHubLine cirque h x s).serve = s.serve := by simp only [setHubLine, noteHub_serve]
@[simp] theorem setHubLine_host : (setHubLine cirque h x s).host = s.host := by simp only [setHubLine, noteHub_host]
@[simp] theorem setHubLine_dev : (setHubLine cirque h x s).dev = s.dev := by simp only [setHubLine, noteHub_dev]
@[simp] theorem setHubLine_sec : (setHubLine cirque h x s).sec = s.sec := by simp only [setHubLine, noteHub_sec]
@[simp] theorem setHubLine_dig : (setHubLine cirque h x s).dig = s.dig := by simp only [setHubLine, noteHub_dig]
@[simp] theorem setHubLine_cairn : (setHubLine cirque h x s).cairn = s.cairn := by simp only [setHubLine, noteHub_cairn]
@[simp] theorem setHubLine_pair : (setHubLine cirque h x s).pair = s.pair := by simp only [setHubLine, noteHub_pair]
end

/-! ## Reading a unit after a write -/

section
variable {s : State}

@[simp] theorem core_elapse (n c : Nat) : core (elapse n s) c = core s c := rfl

theorem core_setCore (h : swf (fun _ => Core.reset) s.cores = true) (c : Nat) (x : Core) : core (setCore c x s) c = x :=
  sget_sset_same h

theorem core_setCore_other (h : swf (fun _ => Core.reset) s.cores = true) {c d : Nat} (hd : d ≠ c) (x : Core) :
    core (setCore c x s) d = core s d := sget_sset_other h hd

theorem part_setPart (h : swf (fun _ => Part.reset) s.parts = true) (p : Nat) (x : Part) : part (setPart p x s) p = x :=
  sget_sset_same h

theorem part_setPart_other (h : swf (fun _ => Part.reset) s.parts = true) {p q : Nat} (hq : q ≠ p) (x : Part) :
    part (setPart p x s) q = part s q := sget_sset_other h hq

theorem link_setLink (h : swf (fun _ => Link.reset) s.links = true) (l : Nat) (x : Link) : link (setLink l x s) l = x :=
  sget_sset_same h

theorem link_setLink_other (h : swf (fun _ => Link.reset) s.links = true) {l k : Nat} (hk : k ≠ l) (x : Link) :
    link (setLink l x s) k = link s k := sget_sset_other h hk

theorem rget_rset (h : swf regReset s.regs = true) (k : Nat) (v : Word) : rget (rset k v s) k = v := sget_sset_same h

theorem rget_rset_other (h : swf regReset s.regs = true) {k j : Nat} (hj : j ≠ k) (v : Word) :
    rget (rset k v s) j = rget s j := sget_sset_other h hj

end

end Sys2Proof.Machine
end

