-- ==== Sys2Proof/Laws/Pending.lean ====
section
/-! SUPPORT. No function of the model touches the queue of waiting commands: one lemma per function. -/

namespace Sys2Proof.Machine

open Sys2Proof

@[simp] theorem rset64_pending {x1 x2 s} : (rset64 x1 x2 s).pending = s.pending :=
  keep_rset64 (closed_pending _) trivial rfl
@[simp] theorem setPower_pending {x1 x2 s} : (setPower x1 x2 s).pending = s.pending :=
  keep_setPower (closed_pending _) trivial rfl
@[simp] theorem bump48Quiet_pending {x1 x2 s} : (bump48Quiet x1 x2 s).pending = s.pending :=
  keep_bump48Quiet (closed_pending _) trivial rfl
@[simp] theorem putSymbols_pending {x1 x2 x3 s} : (putSymbols x1 x2 x3 s).pending = s.pending :=
  keep_putSymbols (closed_pending _) trivial rfl
@[simp] theorem hbmWrite_pending {x1 x2 s} : (hbmWrite x1 x2 s).pending = s.pending :=
  keep_hbmWrite (closed_pending _) trivial rfl
@[simp] theorem setFresh_pending {x1 s} : (setFresh x1 s).pending = s.pending :=
  keep_setFresh (closed_pending _) trivial rfl
@[simp] theorem setFreshPage_pending {x1 s} : (setFreshPage x1 s).pending = s.pending :=
  keep_setFreshPage (closed_pending _) trivial rfl
@[simp] theorem recordCause_pending {x1 x2 x3 x4 x5 s} : (recordCause x1 x2 x3 x4 x5 s).pending = s.pending :=
  keep_recordCause (closed_pending _) trivial trivial rfl
@[simp] theorem setRegs_pending {x1 s} : (setRegs x1 s).pending = s.pending :=
  keep_setRegs (closed_pending _) trivial rfl
@[simp] theorem noteRecord_pending {x1 x2 x3 s} : (noteRecord x1 x2 x3 s).pending = s.pending :=
  keep_noteRecord (closed_pending _) trivial trivial rfl
@[simp] theorem clearRecord_pending {x1 x2 s} : (clearRecord x1 x2 s).pending = s.pending :=
  keep_clearRecord (closed_pending _) trivial trivial rfl
@[simp] theorem logEvent_pending {x1 x2 x3 x4 x5 s} : (logEvent x1 x2 x3 x4 x5 s).pending = s.pending :=
  keep_logEvent (closed_pending _) trivial trivial rfl
@[simp] theorem dropReport_pending {x1 s} : (dropReport x1 s).pending = s.pending :=
  keep_dropReport (closed_pending _) trivial trivial rfl
@[simp] theorem enqueueReport_pending {x1 s} : (enqueueReport x1 s).pending = s.pending :=
  keep_enqueueReport (closed_pending _) trivial trivial rfl
@[simp] theorem enqueueReports_pending {x1 x2 s} : (enqueueReports x1 x2 s).pending = s.pending :=
  keep_enqueueReports (closed_pending _) trivial trivial rfl
@[simp] theorem record_pending {x1 x2 x3 x4 x5 x6 s} : (record x1 x2 x3 x4 x5 x6 s).pending = s.pending :=
  keep_record (closed_pending _) trivial trivial rfl
@[simp] theorem countHbmWrite_pending {x1 s} : (countHbmWrite x1 s).pending = s.pending :=
  keep_countHbmWrite (closed_pending _) trivial trivial rfl
@[simp] theorem putPhysLine_pending {x1 x2 s} : (putPhysLine x1 x2 s).pending = s.pending :=
  keep_putPhysLine (closed_pending _) trivial trivial trivial trivial rfl
@[simp] theorem putPhysLines_pending {x1 x2 s} : (putPhysLines x1 x2 s).pending = s.pending :=
  keep_putPhysLines (closed_pending _) trivial trivial trivial trivial rfl
@[simp] theorem putPhysBytes_pending {x1 x2 s} : (putPhysBytes x1 x2 s).pending = s.pending :=
  keep_putPhysBytes (closed_pending _) trivial trivial trivial trivial rfl
@[simp] theorem voidCapture_pending {x1 x2 s} : (voidCapture x1 x2 s).pending = s.pending :=
  keep_voidCapture (closed_pending _) trivial trivial trivial trivial trivial rfl
@[simp] theorem voidCaptures_pending {x1 x2 s} : (voidCaptures x1 x2 s).pending = s.pending :=
  keep_voidCaptures (closed_pending _) trivial trivial trivial trivial trivial rfl
@[simp] theorem sendFirst_pending {x1 x2 s} : (sendFirst x1 x2 s).pending = s.pending :=
  keep_sendFirst (closed_pending _) trivial rfl
@[simp] theorem sendSlot_pending {x1 x2 s} : (sendSlot x1 x2 s).pending = s.pending :=
  keep_sendSlot (closed_pending _) trivial rfl
@[simp] theorem faultNext_pending {x1 s} : (faultNext x1 s).pending = s.pending :=
  keep_faultNext (closed_pending _) trivial rfl
@[simp] theorem primaryFault_pending {x1 s} : (primaryFault x1 s).pending = s.pending :=
  keep_primaryFault (closed_pending _) trivial trivial trivial trivial rfl
@[simp] theorem setLineSt_pending {x1 x2 x3 s} : (setLineSt x1 x2 x3 s).pending = s.pending :=
  keep_setLineSt (closed_pending _) trivial rfl
@[simp] theorem returnReads_pending {x1 x2 x3 s} : (returnReads x1 x2 x3 s).pending = s.pending :=
  keep_returnReads (closed_pending _) trivial rfl
@[simp] theorem abandonMove_pending {x1 s} : (abandonMove x1 s).pending = s.pending :=
  keep_abandonMove (closed_pending _) trivial trivial trivial trivial trivial trivial rfl
@[simp] theorem abandonMoves_pending {x1 s} : (abandonMoves x1 s).pending = s.pending :=
  keep_abandonMoves (closed_pending _) trivial trivial trivial trivial trivial trivial rfl
@[simp] theorem abandonPartMoves_pending {x1 s} : (abandonPartMoves x1 s).pending = s.pending :=
  keep_abandonPartMoves (closed_pending _) trivial trivial trivial trivial trivial trivial rfl
@[simp] theorem freezeOne_pending {x1 s} : (freezeOne x1 s).pending = s.pending :=
  keep_freezeOne (closed_pending _) trivial trivial trivial trivial trivial trivial trivial trivial
    trivial trivial rfl
@[simp] theorem freezeEach_pending {x1 s} : (freezeEach x1 s).pending = s.pending :=
  keep_freezeEach (closed_pending _) trivial trivial trivial trivial trivial trivial trivial trivial
    trivial trivial rfl
@[simp] theorem freezePart_pending {x1 s} : (freezePart x1 s).pending = s.pending :=
  keep_freezePart (closed_pending _) trivial trivial trivial trivial trivial trivial trivial trivial
    trivial trivial rfl
@[simp] theorem freezeParts_pending {x1 s} : (freezeParts x1 s).pending = s.pending :=
  keep_freezeParts (closed_pending _) trivial trivial trivial trivial trivial trivial trivial trivial
    trivial trivial rfl
@[simp] theorem freezeCores_pending {x1 s} : (freezeCores x1 s).pending = s.pending :=
  keep_freezeCores (closed_pending _) trivial rfl
@[simp] theorem respond_pending {x1 s} : (respond x1 s).pending = s.pending :=
  keep_respond (closed_pending _) raiseSet_true rfl
@[simp] theorem raise_pending {x1 x2 x3 x4 x5 x6 s} : (raise x1 x2 x3 x4 x5 x6 s).pending = s.pending :=
  keep_raise (closed_pending _) raiseSet_true rfl
@[simp] theorem raiseCe_pending {x1 x2 x3 x4 s} : (raiseCe x1 x2 x3 x4 s).pending = s.pending :=
  keep_raiseCe (closed_pending _) raiseSet_true rfl
@[simp] theorem bump48_pending {x1 x2 x3 x4 x5 x6 s} : (bump48 x1 x2 x3 x4 x5 x6 s).pending = s.pending :=
  keep_bump48 (closed_pending _) raiseSet_true rfl
@[simp] theorem bump32_pending {x1 x2 x3 x4 x5 x6 s} : (bump32 x1 x2 x3 x4 x5 x6 s).pending = s.pending :=
  keep_bump32 (closed_pending _) raiseSet_true rfl
@[simp] theorem recordSlip_pending {x1 x2 x3 x4 s} : (recordSlip x1 x2 x3 x4 s).pending = s.pending :=
  keep_recordSlip (closed_pending _) raiseSet_true rfl
@[simp] theorem slip_pending {x1 x2 x3 x4 x5 x6 x7 s} : (slip x1 x2 x3 x4 x5 x6 x7 s).pending = s.pending :=
  keep_slip (closed_pending _) raiseSet_true rfl
@[simp] theorem coreSlip_pending {x1 x2 x3 x4 s} : (coreSlip x1 x2 x3 x4 s).pending = s.pending :=
  keep_coreSlip (closed_pending _) raiseSet_true rfl
@[simp] theorem charge_pending {x1 x2 x3 s} : (charge x1 x2 x3 s).pending = s.pending :=
  keep_charge (closed_pending _) trivial rfl
@[simp] theorem chargeJob_pending {x1 x2 x3 s} : (chargeJob x1 x2 x3 s).pending = s.pending :=
  keep_chargeJob (closed_pending _) trivial rfl
@[simp] theorem chargePart_pending {x1 x2 x3 s} : (chargePart x1 x2 x3 s).pending = s.pending :=
  keep_chargePart (closed_pending _) trivial rfl
@[simp] theorem coreSees_pending {s : State} : (coreSees s).pending = s.pending :=
  keep_coreSees (closed_pending _) trivial rfl
@[simp] theorem setGatherLine_pending {x1 x2 x3 s} : (setGatherLine x1 x2 x3 s).pending = s.pending :=
  keep_setGatherLine (closed_pending _) trivial trivial rfl
@[simp] theorem putBits_pending {x1 x2 x3 x4 s} : (putBits x1 x2 x3 x4 s).pending = s.pending :=
  keep_putBits (closed_pending _) trivial rfl
@[simp] theorem noteSram_pending {x1 x2 s} : (noteSram x1 x2 s).pending = s.pending :=
  keep_noteSram (closed_pending _) trivial rfl
@[simp] theorem noteTiles_pending {x1 x2 s} : (noteTiles x1 x2 s).pending = s.pending :=
  keep_noteTiles (closed_pending _) trivial rfl
@[simp] theorem sramForget_pending {x1 s} : (sramForget x1 s).pending = s.pending :=
  keep_sramForget (closed_pending _) trivial rfl
@[simp] theorem setTileLine_pending {x1 x2 x3 x4 s} : (setTileLine x1 x2 x3 x4 s).pending = s.pending :=
  keep_setTileLine (closed_pending _) trivial rfl
@[simp] theorem countHbmRead_pending {x1 s} : (countHbmRead x1 s).pending = s.pending :=
  keep_countHbmRead (closed_pending _) raiseSet_true rfl
@[simp] theorem hbmCorrected_pending {x1 x2 s} : (hbmCorrected x1 x2 s).pending = s.pending :=
  keep_hbmCorrected (closed_pending _) raiseSet_true rfl
@[simp] theorem hbmUncorrectable_pending {x1 x2 x3 x4 x5 s} : (hbmUncorrectable x1 x2 x3 x4 x5 s).pending = s.pending :=
  keep_hbmUncorrectable (closed_pending _) raiseSet_true rfl
@[simp] theorem hbmParity_pending {x1 x2 x3 s} : (hbmParity x1 x2 x3 s).pending = s.pending :=
  keep_hbmParity (closed_pending _) raiseSet_true rfl
@[simp] theorem hbmRead_pending {x1 x2 x3 s} : (hbmRead x1 x2 x3 s).2.pending = s.pending :=
  keep_hbmRead (closed_pending _) raiseSet_true rfl
@[simp] theorem countCrest_pending {x1 x2 s} : (countCrest x1 x2 s).pending = s.pending :=
  keep_countCrest (closed_pending _) raiseSet_true rfl
@[simp] theorem crestRead_pending {x1 x2 s} : (crestRead x1 x2 s).2.pending = s.pending :=
  keep_crestRead (closed_pending _) raiseSet_true rfl
@[simp] theorem raiseFail_pending {x1 x2 x3 s} : (raiseFail x1 x2 x3 s).pending = s.pending :=
  keep_raiseFail (closed_pending _) raiseSet_true rfl
@[simp] theorem issueEffect_pending {x1 x2 x3 x4 x5 s} : (issueEffect x1 x2 x3 x4 x5 s).pending = s.pending :=
  keep_issueEffect (closed_pending _) trivial trivial rfl
@[simp] theorem doIssue_pending {x1 x2 x3 x4 s} : (doIssue x1 x2 x3 x4 s).pending = s.pending :=
  keep_doIssue (closed_pending _) raiseSet_true trivial trivial rfl
@[simp] theorem checkAndIssue_pending {x1 x2 x3 x4 s} : (checkAndIssue x1 x2 x3 x4 s).pending = s.pending :=
  keep_checkAndIssue (closed_pending _) raiseSet_true trivial trivial rfl
@[simp] theorem fetchCheck_pending {x1 x2 x3 s} : (fetchCheck x1 x2 x3 s).pending = s.pending :=
  keep_fetchCheck (closed_pending _) raiseSet_true rfl
@[simp] theorem issue_pending {x1 x2 x3 x4 x5 s} : (issue x1 x2 x3 x4 x5 s).pending = s.pending :=
  keep_issue (closed_pending _) raiseSet_true trivial trivial rfl
@[simp] theorem notReady_pending {x1 x2 s} : (notReady x1 x2 s).pending = s.pending :=
  keep_notReady (closed_pending _) raiseSet_true trivial rfl
@[simp] theorem liveAdd_pending {x1 x2 x3 s} : (liveAdd x1 x2 x3 s).pending = s.pending :=
  keep_liveAdd (closed_pending _) trivial rfl
@[simp] theorem countElem_pending {x1 x2 s} : (countElem x1 x2 s).pending = s.pending :=
  keep_countElem (closed_pending _) trivial rfl
@[simp] theorem writeElems_pending {x1 x2 x3 x4 s} : (writeElems x1 x2 x3 x4 s).pending = s.pending :=
  keep_writeElems (closed_pending _) trivial trivial rfl
@[simp] theorem writeTiles_pending {x1 x2 s} : (writeTiles x1 x2 s).pending = s.pending :=
  keep_writeTiles (closed_pending _) trivial trivial rfl
@[simp] theorem countBanks_pending {x1 x2 s} : (countBanks x1 x2 s).pending = s.pending :=
  keep_countBanks (closed_pending _) raiseSet_true rfl
@[simp] theorem sramCheck_pending {x1 x2 s} : (sramCheck x1 x2 s).pending = s.pending :=
  keep_sramCheck (closed_pending _) raiseSet_true rfl
@[simp] theorem sramChecks_pending {x1 x2 s} : (sramChecks x1 x2 s).pending = s.pending :=
  keep_sramChecks (closed_pending _) raiseSet_true rfl
@[simp] theorem mmaBegin_pending {x1 x2 s} : (mmaBegin x1 x2 s).pending = s.pending :=
  keep_mmaBegin (closed_pending _) raiseSet_true trivial rfl
@[simp] theorem mmaComplete_pending {x1 x2 s} : (mmaComplete x1 x2 s).pending = s.pending :=
  keep_mmaComplete (closed_pending _) raiseSet_true trivial trivial trivial trivial rfl
@[simp] theorem setFltEntry_pending {x1 x2 s} : (setFltEntry x1 x2 s).pending = s.pending :=
  keep_setFltEntry (closed_pending _) trivial rfl
@[simp] theorem takeReport_pending {x1 s} : (takeReport x1 s).pending = s.pending :=
  keep_takeReport (closed_pending _) trivial trivial trivial rfl
@[simp] theorem coalescerTake_pending {s : State} : (coalescerTake s).pending = s.pending :=
  keep_coalescerTake (closed_pending _) trivial trivial trivial trivial rfl
@[simp] theorem logFatal_pending {x1 s} : (logFatal x1 s).pending = s.pending :=
  keep_logFatal (closed_pending _) trivial trivial rfl
@[simp] theorem queueReports_pending {x1 s} : (queueReports x1 s).pending = s.pending :=
  keep_queueReports (closed_pending _) trivial trivial rfl
@[simp] theorem fatalEventLog_pending {s : State} : (fatalEventLog s).pending = s.pending :=
  keep_fatalEventLog (closed_pending _) trivial trivial trivial trivial rfl
@[simp] theorem intAck_pending {s : State} : (intAck s).pending = s.pending :=
  keep_intAck (closed_pending _) trivial rfl
@[simp] theorem fltClear_pending {s : State} : (fltClear s).pending = s.pending :=
  keep_fltClear (closed_pending _) trivial rfl
@[simp] theorem stormClear_pending {s : State} : (stormClear s).pending = s.pending :=
  keep_stormClear (closed_pending _) trivial rfl
@[simp] theorem fltCtl_pending {x1 s} : (fltCtl x1 s).pending = s.pending :=
  keep_fltCtl (closed_pending _) trivial rfl
@[simp] theorem t7Set_pending {x1 x2 s} : (t7Set x1 x2 s).pending = s.pending :=
  keep_t7Set (closed_pending _) raiseSet_true trivial rfl
@[simp] theorem restoreReject_pending {x1 x2 s} : (restoreReject x1 x2 s).pending = s.pending :=
  keep_restoreReject (closed_pending _) raiseSet_true rfl
@[simp] theorem restoreStart_pending {x1 x2 x3 s} : (restoreStart x1 x2 x3 s).pending = s.pending :=
  keep_restoreStart (closed_pending _) raiseSet_true trivial rfl
@[simp] theorem tellPairing_pending {s : State} : (tellPairing s).pending = s.pending :=
  keep_tellPairing (closed_pending _) trivial rfl
@[simp] theorem pairCheck_pending {s : State} : (pairCheck s).pending = s.pending :=
  keep_pairCheck (closed_pending _) raiseSet_true rfl
@[simp] theorem pairSend_pending {x1 x2 s} : (pairSend x1 x2 s).pending = s.pending :=
  keep_pairSend (closed_pending _) trivial rfl
@[simp] theorem pairHeld_pending {x1 s} : (pairHeld x1 s).pending = s.pending :=
  keep_pairHeld (closed_pending _) raiseSet_true rfl
@[simp] theorem rollbackIfAgreed_pending {s : State} : (rollbackIfAgreed s).pending = s.pending :=
  keep_rollbackIfAgreed (closed_pending _) raiseSet_true trivial rfl
@[simp] theorem rollback_pending {x1 s} : (rollback x1 s).pending = s.pending :=
  keep_rollback (closed_pending _) raiseSet_true trivial rfl
@[simp] theorem recordDivergence_pending {x1 x2 x3 x4 s} : (recordDivergence x1 x2 x3 x4 s).pending = s.pending :=
  keep_recordDivergence (closed_pending _) trivial rfl
@[simp] theorem diverge_pending {x1 x2 x3 s} : (diverge x1 x2 x3 s).pending = s.pending :=
  keep_diverge (closed_pending _) raiseSet_true trivial rfl
@[simp] theorem traceDiverge_pending {x1 x2 x3 s} : (traceDiverge x1 x2 x3 s).pending = s.pending :=
  keep_traceDiverge (closed_pending _) raiseSet_true trivial rfl
@[simp] theorem pairMismatch_pending {x1 s} : (pairMismatch x1 s).pending = s.pending :=
  keep_pairMismatch (closed_pending _) raiseSet_true trivial rfl
@[simp] theorem pairCompare_pending {x1 x2 s} : (pairCompare x1 x2 s).pending = s.pending :=
  keep_pairCompare (closed_pending _) raiseSet_true trivial rfl
@[simp] theorem ownValue_pending {x1 s} : (ownValue x1 s).pending = s.pending :=
  keep_ownValue (closed_pending _) raiseSet_true trivial rfl
@[simp] theorem peerValue_pending {x1 s} : (peerValue x1 s).pending = s.pending :=
  keep_peerValue (closed_pending _) raiseSet_true trivial rfl
@[simp] theorem stopMov_pending {x1 x2 s} : (stopMov x1 x2 s).pending = s.pending :=
  keep_stopMov (closed_pending _) trivial rfl
@[simp] theorem hubCheck_pending {x1 x2 x3 x4 s} : (hubCheck x1 x2 x3 x4 s).pending = s.pending :=
  keep_hubCheck (closed_pending _) raiseSet_true rfl
@[simp] theorem portCheck_pending {x1 x2 s} : (portCheck x1 x2 s).pending = s.pending :=
  keep_portCheck (closed_pending _) raiseSet_true rfl
@[simp] theorem portChecks_pending {x1 x2 s} : (portChecks x1 x2 s).pending = s.pending :=
  keep_portChecks (closed_pending _) raiseSet_true rfl
@[simp] theorem hubChecks_pending {x1 x2 x3 x4 s} : (hubChecks x1 x2 x3 x4 s).pending = s.pending :=
  keep_hubChecks (closed_pending _) raiseSet_true rfl
@[simp] theorem landLines_pending {x1 x2 x3 x4 s} : (landLines x1 x2 x3 x4 s).pending = s.pending :=
  keep_landLines (closed_pending _) trivial rfl
@[simp] theorem movBegin_pending {x1 x2 s} : (movBegin x1 x2 s).pending = s.pending :=
  keep_movBegin (closed_pending _) trivial trivial rfl
@[simp] theorem sendMoved_pending {x1 x2 s} : (sendMoved x1 x2 s).pending = s.pending :=
  keep_sendMoved (closed_pending _) trivial trivial rfl
@[simp] theorem sendComplete_pending {x1 x2 x3 x4 s} : (sendComplete x1 x2 x3 x4 s).pending = s.pending :=
  keep_sendComplete (closed_pending _) raiseSet_true trivial trivial rfl
@[simp] theorem flitLand_pending {x1 x2 s} : (flitLand x1 x2 s).pending = s.pending :=
  keep_flitLand (closed_pending _) raiseSet_true trivial trivial rfl
@[simp] theorem recvComplete_pending {x1 x2 x3 s} : (recvComplete x1 x2 x3 s).pending = s.pending :=
  keep_recvComplete (closed_pending _) raiseSet_true rfl
@[simp] theorem chargePort_pending {x1 x2 x3 s} : (chargePort x1 x2 x3 s).pending = s.pending :=
  keep_chargePort (closed_pending _) trivial rfl
@[simp] theorem hubForget_pending {x1 s} : (hubForget x1 s).pending = s.pending :=
  keep_hubForget (closed_pending _) trivial rfl
@[simp] theorem hrdLand_pending {x1 x2 x3 s} : (hrdLand x1 x2 x3 s).pending = s.pending :=
  keep_hrdLand (closed_pending _) raiseSet_true trivial trivial rfl
@[simp] theorem hrdStopped_pending {x1 x2 x3 x4 x5 s} : (hrdStopped x1 x2 x3 x4 x5 s).pending = s.pending :=
  keep_hrdStopped (closed_pending _) raiseSet_true trivial trivial trivial rfl
@[simp] theorem hrdComplete_pending {x1 x2 x3 s} : (hrdComplete x1 x2 x3 s).pending = s.pending :=
  keep_hrdComplete (closed_pending _) raiseSet_true trivial trivial trivial rfl
@[simp] theorem writeHub_pending {x1 x2 x3 s} : (writeHub x1 x2 x3 s).pending = s.pending :=
  keep_writeHub (closed_pending _) trivial trivial rfl
@[simp] theorem hwrPutLine_pending {x1 x2 x3 x4 s} : (hwrPutLine x1 x2 x3 x4 s).pending = s.pending :=
  keep_hwrPutLine (closed_pending _) trivial trivial trivial rfl
@[simp] theorem hwrPutLines_pending {x1 x2 x3 s} : (hwrPutLines x1 x2 x3 s).pending = s.pending :=
  keep_hwrPutLines (closed_pending _) trivial trivial trivial rfl
@[simp] theorem hwrWrite_pending {x1 x2 x3 s} : (hwrWrite x1 x2 x3 s).pending = s.pending :=
  keep_hwrWrite (closed_pending _) raiseSet_true trivial trivial rfl
@[simp] theorem hwrFlush_pending {x1 x2 s} : (hwrFlush x1 x2 s).pending = s.pending :=
  keep_hwrFlush (closed_pending _) raiseSet_true trivial trivial rfl
@[simp] theorem hwrChecks_pending {x1 x2 x3 x4 x5 s} : (hwrChecks x1 x2 x3 x4 x5 s).pending = s.pending :=
  keep_hwrChecks (closed_pending _) raiseSet_true trivial rfl
@[simp] theorem hwrComplete_pending {x1 x2 x3 s} : (hwrComplete x1 x2 x3 s).pending = s.pending :=
  keep_hwrComplete (closed_pending _) raiseSet_true trivial trivial rfl
@[simp] theorem dropMove_pending {x1 s} : (dropMove x1 s).pending = s.pending :=
  keep_dropMove (closed_pending _) trivial rfl
@[simp] theorem chargeMove_pending {x1 x2 x3 s} : (chargeMove x1 x2 x3 s).pending = s.pending :=
  keep_chargeMove (closed_pending _) trivial rfl
@[simp] theorem recordMiss_pending {x1 x2 x3 s} : (recordMiss x1 x2 x3 s).pending = s.pending :=
  keep_recordMiss (closed_pending _) trivial trivial rfl
@[simp] theorem moveSlip_pending {x1 x2 x3 x4 s} : (moveSlip x1 x2 x3 x4 s).pending = s.pending :=
  keep_moveSlip (closed_pending _) raiseSet_true rfl
@[simp] theorem markIssued_pending {x1 x2 s} : (markIssued x1 x2 s).pending = s.pending :=
  keep_markIssued (closed_pending _) trivial rfl
@[simp] theorem mapCaptures_pending {x1 s} : (mapCaptures x1 s).pending = s.pending :=
  keep_mapCaptures (closed_pending _) trivial trivial trivial trivial trivial rfl
@[simp] theorem captureWaits_pending {x1 x2 x3 s} : (captureWaits x1 x2 x3 s).pending = s.pending :=
  keep_captureWaits (closed_pending _) trivial trivial trivial trivial trivial rfl
@[simp] theorem startMove_pending {x1 s} : (startMove x1 s).pending = s.pending :=
  keep_startMove (closed_pending _) trivial rfl
@[simp] theorem noteUnissued_pending {s : State} : (noteUnissued s).pending = s.pending :=
  keep_noteUnissued (closed_pending _) trivial rfl
@[simp] theorem issueEntry_pending {x1 x2 x3 s} : (issueEntry x1 x2 x3 s).pending = s.pending :=
  keep_issueEntry (closed_pending _) raiseSet_true rfl
@[simp] theorem moveIssue_pending {x1 x2 s} : (moveIssue x1 x2 s).pending = s.pending :=
  keep_moveIssue (closed_pending _) raiseSet_true rfl
@[simp] theorem moveFault_pending {x1 x2 x3 s} : (moveFault x1 x2 x3 s).pending = s.pending :=
  keep_moveFault (closed_pending _) raiseSet_true rfl
@[simp] theorem countLine_pending {x1 s} : (countLine x1 s).pending = s.pending :=
  keep_countLine (closed_pending _) raiseSet_true rfl
@[simp] theorem landLine_pending {x1 x2 x3 s} : (landLine x1 x2 x3 s).pending = s.pending :=
  keep_landLine (closed_pending _) raiseSet_true trivial rfl
@[simp] theorem bridgeCheck_pending {x1 x2 x3 s} : (bridgeCheck x1 x2 x3 s).2.pending = s.pending :=
  keep_bridgeCheck (closed_pending _) raiseSet_true rfl
@[simp] theorem moveLine_pending {x1 x2 x3 x4 x5 s} : (moveLine x1 x2 x3 x4 x5 s).pending = s.pending :=
  keep_moveLine (closed_pending _) raiseSet_true trivial rfl
@[simp] theorem writeRest_pending {x1 x2 x3 s} : (writeRest x1 x2 x3 s).pending = s.pending :=
  keep_writeRest (closed_pending _) raiseSet_true trivial rfl
@[simp] theorem captureDone_pending {x1 x2 s} : (captureDone x1 x2 s).pending = s.pending :=
  keep_captureDone (closed_pending _) trivial trivial trivial trivial trivial rfl
@[simp] theorem commitSent_pending {x1 s} : (commitSent x1 s).pending = s.pending :=
  keep_commitSent (closed_pending _) raiseSet_true trivial rfl
@[simp] theorem finishMove_pending {x1 s} : (finishMove x1 s).pending = s.pending :=
  keep_finishMove (closed_pending _) raiseSet_true trivial rfl
@[simp] theorem completeMove_pending {x1 x2 s} : (completeMove x1 x2 s).pending = s.pending :=
  keep_completeMove (closed_pending _) raiseSet_true trivial trivial rfl
@[simp] theorem moveComplete_pending {x1 x2 s} : (moveComplete x1 x2 s).pending = s.pending :=
  keep_moveComplete (closed_pending _) raiseSet_true trivial trivial rfl
@[simp] theorem deadlineMiss_pending {x1 x2 s} : (deadlineMiss x1 x2 s).pending = s.pending :=
  keep_deadlineMiss (closed_pending _) raiseSet_true rfl
@[simp] theorem manualReject_pending {x1 s} : (manualReject x1 s).pending = s.pending :=
  keep_manualReject (closed_pending _) raiseSet_true rfl
@[simp] theorem manualMove_pending {x1 x2 s} : (manualMove x1 x2 s).pending = s.pending :=
  keep_manualMove (closed_pending _) raiseSet_true rfl
@[simp] theorem engineReset_pending {x1 s} : (engineReset x1 s).pending = s.pending :=
  keep_engineReset (closed_pending _) trivial trivial trivial trivial trivial trivial rfl
@[simp] theorem windowWrite_pending {x1 x2 x3 s} : (windowWrite x1 x2 x3 s).pending = s.pending :=
  keep_windowWrite (closed_pending _) raiseSet_true rfl
@[simp] theorem setStack_pending {x1 x2 s} : (setStack x1 x2 s).pending = s.pending :=
  keep_setStack (closed_pending _) trivial rfl
@[simp] theorem scrubLine_pending {x1 x2 x3 s} : (scrubLine x1 x2 x3 s).pending = s.pending :=
  keep_scrubLine (closed_pending _) raiseSet_true rfl
@[simp] theorem keyReject_pending {x1 x2 x3 s} : (keyReject x1 x2 x3 s).pending = s.pending :=
  keep_keyReject (closed_pending _) raiseSet_true rfl
@[simp] theorem zeroKeyData_pending {x1 s} : (zeroKeyData x1 s).pending = s.pending :=
  keep_zeroKeyData (closed_pending _) trivial rfl
@[simp] theorem keyLoad_pending {x1 s} : (keyLoad x1 s).pending = s.pending :=
  keep_keyLoad (closed_pending _) raiseSet_true rfl
@[simp] theorem keySwitch_pending {x1 s} : (keySwitch x1 s).pending = s.pending :=
  keep_keySwitch (closed_pending _) raiseSet_true rfl
@[simp] theorem keySweep_pending {x1 s} : (keySweep x1 s).pending = s.pending :=
  keep_keySweep (closed_pending _) raiseSet_true rfl
@[simp] theorem keyClear_pending {x1 s} : (keyClear x1 s).pending = s.pending :=
  keep_keyClear (closed_pending _) raiseSet_true rfl
@[simp] theorem reencrypt_pending {x1 x2 x3 x4 s} : (reencrypt x1 x2 x3 x4 s).pending = s.pending :=
  keep_reencrypt (closed_pending _) trivial trivial trivial rfl
@[simp] theorem sweepLine_pending {x1 x2 x3 x4 s} : (sweepLine x1 x2 x3 x4 s).pending = s.pending :=
  keep_sweepLine (closed_pending _) raiseSet_true rfl
@[simp] theorem sweepFinish_pending {x1 s} : (sweepFinish x1 s).pending = s.pending :=
  keep_sweepFinish (closed_pending _) trivial rfl
@[simp] theorem keyErase_pending {x1 s} : (keyErase x1 s).pending = s.pending :=
  keep_keyErase (closed_pending _) trivial trivial rfl
@[simp] theorem ethCount_pending {x1 x2 x3 s} : (ethCount x1 x2 x3 s).pending = s.pending :=
  keep_ethCount (closed_pending _) raiseSet_true rfl
@[simp] theorem setMacsec_pending {x1 x2 s} : (setMacsec x1 x2 s).pending = s.pending :=
  keep_setMacsec (closed_pending _) trivial rfl
@[simp] theorem sealFrame_pending {x1 x2 s} : (sealFrame x1 x2 s).2.pending = s.pending :=
  keep_sealFrame (closed_pending _) trivial rfl
@[simp] theorem openFrame_pending {s x1 x2} : (openFrame s x1 x2).2.pending = s.pending :=
  keep_openFrame (closed_pending _) trivial rfl
@[simp] theorem macsecStage_pending {x1 x2 s} : (macsecStage x1 x2 s).2.pending = s.pending :=
  keep_macsecStage (closed_pending _) trivial rfl
@[simp] theorem launchFrame_pending {x1 x2 s} : (launchFrame x1 x2 s).pending = s.pending :=
  keep_launchFrame (closed_pending _) raiseSet_true rfl
@[simp] theorem launchHost_pending {x1 x2 s} : (launchHost x1 x2 s).pending = s.pending :=
  keep_launchHost (closed_pending _) raiseSet_true rfl
@[simp] theorem hostFrame_pending {x1 x2 s} : (hostFrame x1 x2 s).pending = s.pending :=
  keep_hostFrame (closed_pending _) raiseSet_true rfl
@[simp] theorem remapCol_pending {x1 x2 s} : (remapCol x1 x2 s).pending = s.pending :=
  keep_remapCol (closed_pending _) trivial rfl
@[simp] theorem fillRemap_pending {s : State} : (fillRemap s).pending = s.pending :=
  keep_fillRemap (closed_pending _) trivial rfl
@[simp] theorem returnCredit_pending {x1 x2 x3 s} : (returnCredit x1 x2 x3 s).pending = s.pending :=
  keep_returnCredit (closed_pending _) trivial rfl
@[simp] theorem creditReturn_pending {x1 x2 x3 s} : (creditReturn x1 x2 x3 s).pending = s.pending :=
  keep_creditReturn (closed_pending _) trivial trivial rfl
@[simp] theorem settled_pending {s x1} : (settled s x1).pending = s.pending :=
  keep_settled (closed_pending _) trivial rfl
@[simp] theorem sendOn_pending {x1 x2 x3 x4 s} : (sendOn x1 x2 x3 x4 s).pending = s.pending :=
  keep_sendOn (closed_pending _) trivial trivial trivial rfl
@[simp] theorem sendAll_pending {x1 x2 x3 x4 x5 s} : (sendAll x1 x2 x3 x4 x5 s).pending = s.pending :=
  keep_sendAll (closed_pending _) trivial trivial trivial rfl
@[simp] theorem forwardHead_pending {x1 x2 x3 x4 s} : (forwardHead x1 x2 x3 x4 s).pending = s.pending :=
  keep_forwardHead (closed_pending _) raiseSet_true trivial trivial rfl
@[simp] theorem flitForward_pending {x1 x2 x3 s} : (flitForward x1 x2 x3 s).pending = s.pending :=
  keep_flitForward (closed_pending _) raiseSet_true trivial trivial trivial rfl
@[simp] theorem countAbsorb_pending {x1 x2 x3 s} : (countAbsorb x1 x2 x3 s).pending = s.pending :=
  keep_countAbsorb (closed_pending _) raiseSet_true rfl
@[simp] theorem takeWire_pending {x1 s} : (takeWire x1 s).pending = s.pending :=
  keep_takeWire (closed_pending _) trivial rfl
@[simp] theorem enterQueue_pending {x1 x2 x3 x4 s} : (enterQueue x1 x2 x3 x4 s).pending = s.pending :=
  keep_enterQueue (closed_pending _) raiseSet_true rfl
@[simp] theorem linkEcc_pending {x1 x2 x3 x4 s} : (linkEcc x1 x2 x3 x4 s).pending = s.pending :=
  keep_linkEcc (closed_pending _) raiseSet_true rfl
@[simp] theorem crossingLate_pending {x1 x2 s} : (crossingLate x1 x2 s).pending = s.pending :=
  keep_crossingLate (closed_pending _) raiseSet_true rfl
@[simp] theorem flitArrive_pending {x1 x2 x3 x4 s} : (flitArrive x1 x2 x3 x4 s).pending = s.pending :=
  keep_flitArrive (closed_pending _) raiseSet_true trivial trivial trivial trivial rfl
@[simp] theorem tokenArrive_pending {x1 x2 s} : (tokenArrive x1 x2 s).pending = s.pending :=
  keep_tokenArrive (closed_pending _) raiseSet_true trivial rfl
@[simp] theorem sealArrive_pending {x1 x2 x3 s} : (sealArrive x1 x2 x3 s).pending = s.pending :=
  keep_sealArrive (closed_pending _) raiseSet_true rfl
@[simp] theorem spillRequest_pending {x1 s} : (spillRequest x1 s).pending = s.pending :=
  keep_spillRequest (closed_pending _) raiseSet_true trivial trivial rfl
@[simp] theorem spillLeave_pending {x1 s} : (spillLeave x1 s).pending = s.pending :=
  keep_spillLeave (closed_pending _) trivial trivial rfl
@[simp] theorem areaClear_pending {x1 s} : (areaClear x1 s).pending = s.pending :=
  keep_areaClear (closed_pending _) trivial rfl
@[simp] theorem spillInto_pending {x1 x2 x3 x4 x5 s} : (spillInto x1 x2 x3 x4 x5 s).2.2.2.pending = s.pending :=
  keep_spillInto (closed_pending _) trivial rfl
@[simp] theorem appendArea_pending {x1 x2 s} : (appendArea x1 x2 s).pending = s.pending :=
  keep_appendArea (closed_pending _) raiseSet_true rfl
@[simp] theorem returnCredits_pending {x1 x2 x3 x4 s} : (returnCredits x1 x2 x3 x4 s).pending = s.pending :=
  keep_returnCredits (closed_pending _) trivial rfl
@[simp] theorem returnAll_pending {x1 x2 x3 s} : (returnAll x1 x2 x3 s).pending = s.pending :=
  keep_returnAll (closed_pending _) trivial rfl
@[simp] theorem spill_pending {x1 x2 x3 s} : (spill x1 x2 x3 s).pending = s.pending :=
  keep_spill (closed_pending _) raiseSet_true trivial trivial rfl
@[simp] theorem deadlockDetect_pending {x1 x2 x3 s} : (deadlockDetect x1 x2 x3 s).pending = s.pending :=
  keep_deadlockDetect (closed_pending _) raiseSet_true trivial trivial trivial trivial rfl
@[simp] theorem inCount_pending {x1 x2 s} : (inCount x1 x2 s).pending = s.pending :=
  keep_inCount (closed_pending _) raiseSet_true rfl
@[simp] theorem egCount_pending {x1 x2 s} : (egCount x1 x2 s).pending = s.pending :=
  keep_egCount (closed_pending _) raiseSet_true rfl
@[simp] theorem srvCount_pending {x1 x2 s} : (srvCount x1 x2 s).pending = s.pending :=
  keep_srvCount (closed_pending _) raiseSet_true rfl
@[simp] theorem linkChange_pending {x1 x2 s} : (linkChange x1 x2 s).pending = s.pending :=
  keep_linkChange (closed_pending _) raiseSet_true rfl
@[simp] theorem setEntry_pending {x1 x2 s} : (setEntry x1 x2 s).pending = s.pending :=
  keep_setEntry (closed_pending _) trivial rfl
@[simp] theorem putInData_pending {x1 x2 s} : (putInData x1 x2 s).pending = s.pending :=
  keep_putInData (closed_pending _) trivial rfl
@[simp] theorem setResult_pending {x1 x2 x3 s} : (setResult x1 x2 x3 s).pending = s.pending :=
  keep_setResult (closed_pending _) trivial rfl
@[simp] theorem inReject_pending {x1 x2 s} : (inReject x1 x2 s).pending = s.pending :=
  keep_inReject (closed_pending _) raiseSet_true rfl
@[simp] theorem applyInsert_pending {x1 s} : (applyInsert x1 s).pending = s.pending :=
  keep_applyInsert (closed_pending _) raiseSet_true rfl
@[simp] theorem applyModify_pending {x1 s} : (applyModify x1 s).pending = s.pending :=
  keep_applyModify (closed_pending _) raiseSet_true rfl
@[simp] theorem applyDelete_pending {x1 s} : (applyDelete x1 s).pending = s.pending :=
  keep_applyDelete (closed_pending _) raiseSet_true rfl
@[simp] theorem applyLookup_pending {x1 s} : (applyLookup x1 s).pending = s.pending :=
  keep_applyLookup (closed_pending _) raiseSet_true rfl
@[simp] theorem applyCmd_pending {s : State} : (applyCmd s).pending = s.pending :=
  keep_applyCmd (closed_pending _) raiseSet_true rfl
@[simp] theorem inRead_pending {s : State} : (inRead s).pending = s.pending :=
  keep_inRead (closed_pending _) raiseSet_true rfl
@[simp] theorem putTab_pending {x1 x2 x3 x4 s} : (putTab x1 x2 x3 x4 s).pending = s.pending :=
  keep_putTab (closed_pending _) trivial rfl
@[simp] theorem inWrite_pending {s : State} : (inWrite s).pending = s.pending :=
  keep_inWrite (closed_pending _) raiseSet_true rfl
@[simp] theorem inCmd_pending {x1 s} : (inCmd x1 s).pending = s.pending :=
  keep_inCmd (closed_pending _) raiseSet_true rfl
@[simp] theorem tableEcc_pending {x1 s} : (tableEcc x1 s).pending = s.pending :=
  keep_tableEcc (closed_pending _) raiseSet_true rfl
@[simp] theorem srvJoin_pending {s : State} : (srvJoin s).pending = s.pending :=
  keep_srvJoin (closed_pending _) raiseSet_true rfl
@[simp] theorem srvLeave_pending {s : State} : (srvLeave s).pending = s.pending :=
  keep_srvLeave (closed_pending _) raiseSet_true rfl
@[simp] theorem srvCmd_pending {x1 s} : (srvCmd x1 s).pending = s.pending :=
  keep_srvCmd (closed_pending _) raiseSet_true rfl
@[simp] theorem srvChecked_pending {x1 x2 s} : (srvChecked x1 x2 s).pending = s.pending :=
  keep_srvChecked (closed_pending _) raiseSet_true rfl
@[simp] theorem endSequences_pending {s : State} : (endSequences s).pending = s.pending :=
  keep_endSequences (closed_pending _) trivial rfl
@[simp] theorem sendLines_pending {x1 x2 x3 x4 s} : (sendLines x1 x2 x3 x4 s).pending = s.pending :=
  keep_sendLines (closed_pending _) trivial rfl
@[simp] theorem chargeGather_pending {x1 s} : (chargeGather x1 s).pending = s.pending :=
  keep_chargeGather (closed_pending _) trivial rfl
@[simp] theorem eventLand_pending {x1 s} : (eventLand x1 s).pending = s.pending :=
  keep_eventLand (closed_pending _) raiseSet_true trivial trivial rfl
@[simp] theorem landHeader_pending {x1 x2 s} : (landHeader x1 x2 s).pending = s.pending :=
  keep_landHeader (closed_pending _) raiseSet_true trivial trivial rfl
@[simp] theorem stepHeaderLand_pending {s : State} : (stepHeaderLand s).pending = s.pending :=
  keep_stepHeaderLand (closed_pending _) raiseSet_true trivial trivial rfl
@[simp] theorem applyModels_pending {x1 s} : (applyModels x1 s).pending = s.pending :=
  keep_applyModels (closed_pending _) raiseSet_true rfl
@[simp] theorem applyLeaves_pending {x1 s} : (applyLeaves x1 s).pending = s.pending :=
  keep_applyLeaves (closed_pending _) trivial rfl
@[simp] theorem deferJoin_pending {x1 x2 s} : (deferJoin x1 x2 s).pending = s.pending :=
  keep_deferJoin (closed_pending _) raiseSet_true rfl
@[simp] theorem admitJoins_pending {x1 x2 s} : (admitJoins x1 x2 s).pending = s.pending :=
  keep_admitJoins (closed_pending _) raiseSet_true rfl
@[simp] theorem goLive_pending {x1 s} : (goLive x1 s).pending = s.pending :=
  keep_goLive (closed_pending _) trivial rfl
@[simp] theorem placeCarried_pending {x1 x2 s} : (placeCarried x1 x2 s).2.pending = s.pending :=
  keep_placeCarried (closed_pending _) trivial rfl
@[simp] theorem placeChunks_pending {x1 x2 x3 s} : (placeChunks x1 x2 x3 s).2.pending = s.pending :=
  keep_placeChunks (closed_pending _) trivial rfl
@[simp] theorem queueHeader_pending {x1 x2 s} : (queueHeader x1 x2 s).pending = s.pending :=
  keep_queueHeader (closed_pending _) trivial rfl
@[simp] theorem closeStep_pending {s : State} : (closeStep s).pending = s.pending :=
  keep_closeStep (closed_pending _) raiseSet_true rfl
@[simp] theorem openStep_pending {x1 s} : (openStep x1 s).pending = s.pending :=
  keep_openStep (closed_pending _) trivial rfl
@[simp] theorem nextStep_pending {x1 s} : (nextStep x1 s).pending = s.pending :=
  keep_nextStep (closed_pending _) raiseSet_true rfl
@[simp] theorem gatherAt_pending {x1 s} : (gatherAt x1 s).pending = s.pending :=
  keep_gatherAt (closed_pending _) raiseSet_true rfl
@[simp] theorem feedAppend_pending {x1 x2 x3 x4 x5 s} : (feedAppend x1 x2 x3 x4 x5 s).pending = s.pending :=
  keep_feedAppend (closed_pending _) raiseSet_true rfl
@[simp] theorem feedClose_pending {x1 s} : (feedClose x1 s).pending = s.pending :=
  keep_feedClose (closed_pending _) trivial trivial trivial rfl
@[simp] theorem feedSettle_pending {s : State} : (feedSettle s).pending = s.pending :=
  keep_feedSettle (closed_pending _) trivial trivial trivial rfl
@[simp] theorem nextLookup_pending {x1 s} : (nextLookup x1 s).pending = s.pending :=
  keep_nextLookup (closed_pending _) trivial rfl
@[simp] theorem gatherEvent_pending {x1 x2 x3 s} : (gatherEvent x1 x2 x3 s).2.pending = s.pending :=
  keep_gatherEvent (closed_pending _) raiseSet_true rfl
@[simp] theorem lookEvent_pending {x1 s} : (lookEvent x1 s).pending = s.pending :=
  keep_lookEvent (closed_pending _) raiseSet_true rfl
@[simp] theorem lookEach_pending {x1 s} : (lookEach x1 s).pending = s.pending :=
  keep_lookEach (closed_pending _) raiseSet_true rfl
@[simp] theorem settleLooks_pending {s : State} : (settleLooks s).pending = s.pending :=
  keep_settleLooks (closed_pending _) raiseSet_true rfl
@[simp] theorem event_pending {x1 x2 x3 x4 s} : (event x1 x2 x3 x4 s).pending = s.pending :=
  keep_event (closed_pending _) raiseSet_true rfl
@[simp] theorem events_pending {x1 x2 x3 x4 x5 s} : (events x1 x2 x3 x4 x5 s).pending = s.pending :=
  keep_events (closed_pending _) raiseSet_true rfl
@[simp] theorem gatherBoundary_pending {s : State} : (gatherBoundary s).pending = s.pending :=
  keep_gatherBoundary (closed_pending _) raiseSet_true trivial rfl
@[simp] theorem marketFrame_pending {x1 x2 x3 x4 x5 x6 s} : (marketFrame x1 x2 x3 x4 x5 x6 s).pending = s.pending :=
  keep_marketFrame (closed_pending _) raiseSet_true rfl
@[simp] theorem srvModelWrite_pending {x1 s} : (srvModelWrite x1 s).pending = s.pending :=
  keep_srvModelWrite (closed_pending _) trivial rfl
@[simp] theorem srvGatherWrite_pending {x1 s} : (srvGatherWrite x1 s).pending = s.pending :=
  keep_srvGatherWrite (closed_pending _) raiseSet_true rfl
@[simp] theorem feedGeomWrite_pending {x1 x2 s} : (feedGeomWrite x1 x2 s).pending = s.pending :=
  keep_feedGeomWrite (closed_pending _) raiseSet_true rfl
@[simp] theorem srvCurWrite_pending {x1 s} : (srvCurWrite x1 s).pending = s.pending :=
  keep_srvCurWrite (closed_pending _) raiseSet_true rfl
@[simp] theorem srvPagesWrite_pending {x1 s} : (srvPagesWrite x1 s).pending = s.pending :=
  keep_srvPagesWrite (closed_pending _) trivial rfl
@[simp] theorem todCtl_pending {x1 s} : (todCtl x1 s).pending = s.pending :=
  keep_todCtl (closed_pending _) trivial rfl
@[simp] theorem todLoad_pending {s : State} : (todLoad s).pending = s.pending :=
  keep_todLoad (closed_pending _) trivial rfl
@[simp] theorem setTpl_pending {x1 x2 x3 s} : (setTpl x1 x2 x3 s).pending = s.pending :=
  keep_setTpl (closed_pending _) trivial rfl
@[simp] theorem egAdvance_pending {s : State} : (egAdvance s).pending = s.pending :=
  keep_egAdvance (closed_pending _) trivial rfl
@[simp] theorem egWrite_pending {x1 s} : (egWrite x1 s).pending = s.pending :=
  keep_egWrite (closed_pending _) trivial trivial rfl
@[simp] theorem commitWords_pending {x1 x2 s} : (commitWords x1 x2 s).pending = s.pending :=
  keep_commitWords (closed_pending _) trivial rfl
@[simp] theorem commitTemplates_pending {x1 s} : (commitTemplates x1 s).pending = s.pending :=
  keep_commitTemplates (closed_pending _) trivial rfl
@[simp] theorem enterMac_pending {x1 s} : (enterMac x1 s).pending = s.pending :=
  keep_enterMac (closed_pending _) raiseSet_true rfl
@[simp] theorem enterAll_pending {x1 s} : (enterAll x1 s).pending = s.pending :=
  keep_enterAll (closed_pending _) raiseSet_true rfl
@[simp] theorem settleFills_pending {x1 s} : (settleFills x1 s).pending = s.pending :=
  keep_settleFills (closed_pending _) raiseSet_true rfl
@[simp] theorem todRateWrite_pending {x1 s} : (todRateWrite x1 s).pending = s.pending :=
  keep_todRateWrite (closed_pending _) raiseSet_true rfl
@[simp] theorem fillLine_pending {x1 x2 s} : (fillLine x1 x2 s).pending = s.pending :=
  keep_fillLine (closed_pending _) raiseSet_true rfl
@[simp] theorem edgeEcc_pending {x1 x2 s} : (edgeEcc x1 x2 s).pending = s.pending :=
  keep_edgeEcc (closed_pending _) raiseSet_true rfl
@[simp] theorem resultLine_pending {x1 x2 x3 x4 s} : (resultLine x1 x2 x3 x4 s).pending = s.pending :=
  keep_resultLine (closed_pending _) raiseSet_true trivial trivial rfl
@[simp] theorem frameTransmit_pending {x1 s} : (frameTransmit x1 s).pending = s.pending :=
  keep_frameTransmit (closed_pending _) raiseSet_true rfl
@[simp] theorem srvPairWrite_pending {x1 s} : (srvPairWrite x1 s).pending = s.pending :=
  keep_srvPairWrite (closed_pending _) raiseSet_true rfl
@[simp] theorem haCount_pending {x1 x2 s} : (haCount x1 x2 s).pending = s.pending :=
  keep_haCount (closed_pending _) raiseSet_true rfl
@[simp] theorem qpCount_pending {x1 x2 x3 s} : (qpCount x1 x2 x3 s).pending = s.pending :=
  keep_qpCount (closed_pending _) raiseSet_true rfl
@[simp] theorem sendFrame_pending {x1 x2 s} : (sendFrame x1 x2 s).pending = s.pending :=
  keep_sendFrame (closed_pending _) raiseSet_true rfl
@[simp] theorem setSource_pending {x1 x2 s} : (setSource x1 x2 s).pending = s.pending :=
  keep_setSource (closed_pending _) trivial rfl
@[simp] theorem unknownSource_pending {x1 s} : (unknownSource x1 s).pending = s.pending :=
  keep_unknownSource (closed_pending _) raiseSet_true rfl
@[simp] theorem sourceReset_pending {x1 s} : (sourceReset x1 s).pending = s.pending :=
  keep_sourceReset (closed_pending _) trivial rfl
@[simp] theorem pathQueue_pending {x1 x2 s} : (pathQueue x1 x2 s).pending = s.pending :=
  keep_pathQueue (closed_pending _) trivial rfl
@[simp] theorem queueFrame_pending {x1 s} : (queueFrame x1 s).pending = s.pending :=
  keep_queueFrame (closed_pending _) raiseSet_true rfl
@[simp] theorem discard_pending {x1 s} : (discard x1 s).pending = s.pending :=
  keep_discard (closed_pending _) raiseSet_true rfl
@[simp] theorem setQp_pending {x1 x2 s} : (setQp x1 x2 s).pending = s.pending :=
  keep_setQp (closed_pending _) trivial rfl
@[simp] theorem advancePsn_pending {x1 x2 s} : (advancePsn x1 x2 s).pending = s.pending :=
  keep_advancePsn (closed_pending _) trivial trivial rfl
@[simp] theorem sendRoce_pending {x1 x2 x3 x4 x5 x6 s} : (sendRoce x1 x2 x3 x4 x5 x6 s).pending = s.pending :=
  keep_sendRoce (closed_pending _) raiseSet_true rfl
@[simp] theorem sendAck_pending {x1 x2 x3 s} : (sendAck x1 x2 x3 s).pending = s.pending :=
  keep_sendAck (closed_pending _) raiseSet_true rfl
@[simp] theorem sendNak_pending {x1 x2 x3 x4 s} : (sendNak x1 x2 x3 x4 s).pending = s.pending :=
  keep_sendNak (closed_pending _) raiseSet_true rfl
@[simp] theorem sendResponses_pending {x1 x2 x3 x4 x5 x6 s} : (sendResponses x1 x2 x3 x4 x5 x6 s).pending = s.pending :=
  keep_sendResponses (closed_pending _) raiseSet_true rfl
@[simp] theorem qpViolation_pending {x1 x2 x3 x4 s} : (qpViolation x1 x2 x3 x4 s).pending = s.pending :=
  keep_qpViolation (closed_pending _) raiseSet_true rfl
@[simp] theorem maybeCnp_pending {x1 x2 s} : (maybeCnp x1 x2 s).pending = s.pending :=
  keep_maybeCnp (closed_pending _) raiseSet_true rfl
@[simp] theorem psnAhead_pending {x1 x2 s} : (psnAhead x1 x2 s).pending = s.pending :=
  keep_psnAhead (closed_pending _) raiseSet_true rfl
@[simp] theorem rdmaAdmit_pending {x1 s} : (rdmaAdmit x1 s).2.pending = s.pending :=
  keep_rdmaAdmit (closed_pending _) raiseSet_true rfl
@[simp] theorem rdmaPut_pending {x1 x2 x3 x4 s} : (rdmaPut x1 x2 x3 x4 s).2.pending = s.pending :=
  keep_rdmaPut (closed_pending _) raiseSet_true rfl
@[simp] theorem rdmaPutAll_pending {x1 x2 x3 x4 x5 x6 s} : (rdmaPutAll x1 x2 x3 x4 x5 x6 s).2.pending = s.pending :=
  keep_rdmaPutAll (closed_pending _) raiseSet_true rfl
@[simp] theorem writePacket_pending {x1 x2 x3 x4 s} : (writePacket x1 x2 x3 x4 s).pending = s.pending :=
  keep_writePacket (closed_pending _) raiseSet_true rfl
@[simp] theorem writeExpected_pending {x1 x2 x3 s} : (writeExpected x1 x2 x3 s).pending = s.pending :=
  keep_writeExpected (closed_pending _) raiseSet_true rfl
@[simp] theorem writeDuplicate_pending {x1 x2 s} : (writeDuplicate x1 x2 s).pending = s.pending :=
  keep_writeDuplicate (closed_pending _) raiseSet_true rfl
@[simp] theorem sendAcks_pending {x1 x2 s} : (sendAcks x1 x2 s).pending = s.pending :=
  keep_sendAcks (closed_pending _) raiseSet_true rfl
@[simp] theorem rdmaAck_pending {x1 s} : (rdmaAck x1 s).pending = s.pending :=
  keep_rdmaAck (closed_pending _) raiseSet_true rfl
@[simp] theorem rdmaGet_pending {x1 x2 x3 x4 x5 s} : (rdmaGet x1 x2 x3 x4 x5 s).2.2.pending = s.pending :=
  keep_rdmaGet (closed_pending _) raiseSet_true rfl
@[simp] theorem rdmaDoRead_pending {x1 x2 x3 s} : (rdmaDoRead x1 x2 x3 s).pending = s.pending :=
  keep_rdmaDoRead (closed_pending _) raiseSet_true rfl
@[simp] theorem rdmaRead_pending {x1 x2 x3 s} : (rdmaRead x1 x2 x3 s).pending = s.pending :=
  keep_rdmaRead (closed_pending _) raiseSet_true rfl
@[simp] theorem rdmaWrite_pending {x1 x2 x3 s} : (rdmaWrite x1 x2 x3 s).pending = s.pending :=
  keep_rdmaWrite (closed_pending _) raiseSet_true rfl
@[simp] theorem rocePacket_pending {x1 x2 s} : (rocePacket x1 x2 s).pending = s.pending :=
  keep_rocePacket (closed_pending _) raiseSet_true rfl
@[simp] theorem roceArrive_pending {x1 x2 s} : (roceArrive x1 x2 s).pending = s.pending :=
  keep_roceArrive (closed_pending _) raiseSet_true rfl
@[simp] theorem classify_pending {x1 x2 x3 s} : (classify x1 x2 x3 s).pending = s.pending :=
  keep_classify (closed_pending _) raiseSet_true rfl
@[simp] theorem ethReceive_pending {x1 x2 x3 s} : (ethReceive x1 x2 x3 s).pending = s.pending :=
  keep_ethReceive (closed_pending _) raiseSet_true rfl
@[simp] theorem qpReset_pending {x1 s} : (qpReset x1 s).pending = s.pending :=
  keep_qpReset (closed_pending _) trivial trivial rfl
@[simp] theorem eventSend_pending {s : State} : (eventSend s).pending = s.pending :=
  keep_eventSend (closed_pending _) raiseSet_true rfl
@[simp] theorem eventResend_pending {s : State} : (eventResend s).pending = s.pending :=
  keep_eventResend (closed_pending _) raiseSet_true rfl
@[simp] theorem eventAcked_pending {x1 s} : (eventAcked x1 s).pending = s.pending :=
  keep_eventAcked (closed_pending _) trivial trivial rfl
@[simp] theorem evtCfgWrite_pending {x1 s} : (evtCfgWrite x1 s).pending = s.pending :=
  keep_evtCfgWrite (closed_pending _) trivial trivial rfl
@[simp] theorem admPrepare_pending {s : State} : (admPrepare s).pending = s.pending :=
  keep_admPrepare (closed_pending _) trivial trivial rfl
@[simp] theorem zeroAdm_pending {s : State} : (zeroAdm s).pending = s.pending :=
  keep_zeroAdm (closed_pending _) trivial rfl
@[simp] theorem installCak_pending {x1 x2 x3 x4 s} : (installCak x1 x2 x3 x4 s).pending = s.pending :=
  keep_installCak (closed_pending _) trivial rfl
@[simp] theorem admReject_pending {x1 s} : (admReject x1 s).pending = s.pending :=
  keep_admReject (closed_pending _) raiseSet_true rfl
@[simp] theorem admInstall_pending {s : State} : (admInstall s).pending = s.pending :=
  keep_admInstall (closed_pending _) raiseSet_true rfl
@[simp] theorem admRevoke_pending {s : State} : (admRevoke s).pending = s.pending :=
  keep_admRevoke (closed_pending _) trivial rfl
@[simp] theorem admCmd_pending {x1 s} : (admCmd x1 s).pending = s.pending :=
  keep_admCmd (closed_pending _) raiseSet_true trivial rfl
@[simp] theorem sakInstall_pending {x1 x2 x3 x4 s} : (sakInstall x1 x2 x3 x4 s).pending = s.pending :=
  keep_sakInstall (closed_pending _) trivial rfl
@[simp] theorem mkaLoss_pending {x1 s} : (mkaLoss x1 s).pending = s.pending :=
  keep_mkaLoss (closed_pending _) trivial rfl
@[simp] theorem setBudget_pending {x1 x2 s} : (setBudget x1 x2 s).pending = s.pending :=
  keep_setBudget (closed_pending _) trivial rfl
@[simp] theorem redFault_pending {x1 x2 x3 x4 x5 x6 x7 s} : (redFault x1 x2 x3 x4 x5 x6 x7 s).pending = s.pending :=
  keep_redFault (closed_pending _) raiseSet_true trivial rfl
@[simp] theorem advance_pending {x1 x2 x3 s} : (advance x1 x2 x3 s).pending = s.pending :=
  keep_advance (closed_pending _) trivial rfl
@[simp] theorem noteBuf_pending {x1 x2 s} : (noteBuf x1 x2 s).pending = s.pending :=
  keep_noteBuf (closed_pending _) trivial rfl
@[simp] theorem contribBegin_pending {x1 x2 x3 x4 x5 s} : (contribBegin x1 x2 x3 x4 x5 s).pending = s.pending :=
  keep_contribBegin (closed_pending _) trivial trivial rfl
@[simp] theorem contribEnd_pending {x1 x2 x3 x4 s} : (contribEnd x1 x2 x3 x4 s).pending = s.pending :=
  keep_contribEnd (closed_pending _) raiseSet_true trivial rfl
@[simp] theorem chargeRed_pending {x1 s} : (chargeRed x1 s).pending = s.pending :=
  keep_chargeRed (closed_pending _) trivial rfl
@[simp] theorem contribLine_pending {x1 x2 x3 x4 x5 s} : (contribLine x1 x2 x3 x4 x5 s).pending = s.pending :=
  keep_contribLine (closed_pending _) raiseSet_true trivial trivial rfl
@[simp] theorem contribHead_pending {x1 x2 x3 x4 s} : (contribHead x1 x2 x3 x4 s).pending = s.pending :=
  keep_contribHead (closed_pending _) raiseSet_true trivial rfl
@[simp] theorem reduceContribution_pending {x1 x2 x3 s} : (reduceContribution x1 x2 x3 s).pending = s.pending :=
  keep_reduceContribution (closed_pending _) raiseSet_true trivial trivial rfl
@[simp] theorem reduceDescriptor_pending {x1 x2 x3 s} : (reduceDescriptor x1 x2 x3 s).pending = s.pending :=
  keep_reduceDescriptor (closed_pending _) raiseSet_true trivial rfl
@[simp] theorem engineArrive_pending {x1 x2 x3 x4 s} : (engineArrive x1 x2 x3 x4 s).pending = s.pending :=
  keep_engineArrive (closed_pending _) raiseSet_true trivial rfl
@[simp] theorem spendUnit_pending {x1 s} : (spendUnit x1 s).pending = s.pending :=
  keep_spendUnit (closed_pending _) trivial rfl
@[simp] theorem unitDeliver_pending {x1 x2 x3 x4 s} : (unitDeliver x1 x2 x3 x4 s).pending = s.pending :=
  keep_unitDeliver (closed_pending _) raiseSet_true trivial trivial trivial rfl
@[simp] theorem dropDelivery_pending {x1 x2 x3 s} : (dropDelivery x1 x2 x3 s).pending = s.pending :=
  keep_dropDelivery (closed_pending _) trivial rfl
@[simp] theorem slotsAtFrame_pending {s : State} : (slotsAtFrame s).pending = s.pending :=
  keep_slotsAtFrame (closed_pending _) raiseSet_true trivial trivial rfl
@[simp] theorem dropOwned_pending {x1 s} : (dropOwned x1 s).pending = s.pending :=
  keep_dropOwned (closed_pending _) trivial rfl
@[simp] theorem dropRegs_pending {x1 s} : (dropRegs x1 s).pending = s.pending :=
  keep_dropRegs (closed_pending _) trivial rfl
@[simp] theorem logLoss_pending {x1 x2 x3 x4 s} : (logLoss x1 x2 x3 x4 s).pending = s.pending :=
  keep_logLoss (closed_pending _) raiseSet_true rfl
@[simp] theorem logLosses_pending {x1 x2 s} : (logLosses x1 x2 s).pending = s.pending :=
  keep_logLosses (closed_pending _) raiseSet_true rfl
@[simp] theorem dropCoreWires_pending {x1 s} : (dropCoreWires x1 s).pending = s.pending :=
  keep_dropCoreWires (closed_pending _) trivial rfl
@[simp] theorem zeroSram_pending {x1 s} : (zeroSram x1 s).pending = s.pending :=
  keep_zeroSram (closed_pending _) trivial rfl
@[simp] theorem freshCore_pending {x1 x2 x3 s} : (freshCore x1 x2 x3 s).pending = s.pending :=
  keep_freshCore (closed_pending _) trivial trivial trivial rfl
@[simp] theorem freshCores_pending {x1 x2 x3 s} : (freshCores x1 x2 x3 s).pending = s.pending :=
  keep_freshCores (closed_pending _) trivial trivial trivial rfl
@[simp] theorem discardInner_pending {x1 x2 s} : (discardInner x1 x2 s).pending = s.pending :=
  keep_discardInner (closed_pending _) trivial trivial rfl
@[simp] theorem drainCore_pending {x1 x2 s} : (drainCore x1 x2 s).pending = s.pending :=
  keep_drainCore (closed_pending _) raiseSet_true trivial trivial trivial rfl
@[simp] theorem drainCores_pending {x1 x2 s} : (drainCores x1 x2 s).pending = s.pending :=
  keep_drainCores (closed_pending _) raiseSet_true trivial trivial trivial rfl
@[simp] theorem discardWires_pending {x1 s} : (discardWires x1 s).pending = s.pending :=
  keep_discardWires (closed_pending _) trivial rfl
@[simp] theorem startReset_pending {x1 x2 s} : (startReset x1 x2 s).pending = s.pending :=
  keep_startReset (closed_pending _) raiseSet_true trivial trivial trivial trivial rfl
@[simp] theorem coreResetReq_pending {x1 s} : (coreResetReq x1 s).pending = s.pending :=
  keep_coreResetReq (closed_pending _) raiseSet_true trivial trivial trivial trivial rfl
@[simp] theorem coreFreezeReset_pending {x1 s} : (coreFreezeReset x1 s).pending = s.pending :=
  keep_coreFreezeReset (closed_pending _) raiseSet_true trivial trivial trivial trivial rfl
@[simp] theorem heldReset_pending {x1 s} : (heldReset x1 s).pending = s.pending :=
  keep_heldReset (closed_pending _) raiseSet_true trivial trivial trivial trivial rfl
@[simp] theorem clusterResetReq_pending {x1 s} : (clusterResetReq x1 s).pending = s.pending :=
  keep_clusterResetReq (closed_pending _) raiseSet_true trivial trivial trivial trivial rfl
@[simp] theorem spillCores_pending {x1 s} : (spillCores x1 s).pending = s.pending :=
  keep_spillCores (closed_pending _) raiseSet_true trivial trivial rfl
@[simp] theorem startFill_pending {s : State} : (startFill s).pending = s.pending :=
  keep_startFill (closed_pending _) raiseSet_true trivial trivial trivial rfl
@[simp] theorem dropFills_pending {x1 s} : (dropFills x1 s).pending = s.pending :=
  keep_dropFills (closed_pending _) raiseSet_true trivial trivial trivial rfl
@[simp] theorem raiseAbandoned_pending {x1 x2 s} : (raiseAbandoned x1 x2 s).pending = s.pending :=
  keep_raiseAbandoned (closed_pending _) raiseSet_true rfl
@[simp] theorem abandonFills_pending {x1 s} : (abandonFills x1 s).pending = s.pending :=
  keep_abandonFills (closed_pending _) raiseSet_true trivial trivial trivial rfl
@[simp] theorem remapEmpty_pending {x1 s} : (remapEmpty x1 s).pending = s.pending :=
  keep_remapEmpty (closed_pending _) trivial rfl
@[simp] theorem abandonRestore_pending {x1 s} : (abandonRestore x1 s).pending = s.pending :=
  keep_abandonRestore (closed_pending _) trivial rfl
@[simp] theorem partBegin_pending {x1 s} : (partBegin x1 s).pending = s.pending :=
  keep_partBegin (closed_pending _) raiseSet_true trivial trivial trivial trivial rfl
@[simp] theorem dropEnergyPart_pending {x1 s} : (dropEnergyPart x1 s).pending = s.pending :=
  keep_dropEnergyPart (closed_pending _) trivial rfl
@[simp] theorem resetRegion_pending {x1 x2 x3 s} : (resetRegion x1 x2 x3 s).pending = s.pending :=
  keep_resetRegion (closed_pending _) raiseSet_true rfl
@[simp] theorem partRegs_pending {x1 x2 x3 s} : (partRegs x1 x2 x3 s).pending = s.pending :=
  keep_partRegs (closed_pending _) raiseSet_true trivial rfl
@[simp] theorem partFresh_pending {x1 x2 x3 x4 s} : (partFresh x1 x2 x3 x4 s).pending = s.pending :=
  keep_partFresh (closed_pending _) raiseSet_true trivial trivial trivial rfl
@[simp] theorem partDone_pending {x1 x2 s} : (partDone x1 x2 s).pending = s.pending :=
  keep_partDone (closed_pending _) raiseSet_true trivial rfl
@[simp] theorem partResetReq_pending {x1 s} : (partResetReq x1 s).pending = s.pending :=
  keep_partResetReq (closed_pending _) raiseSet_true trivial trivial trivial trivial trivial trivial trivial rfl
@[simp] theorem dropHeld_pending {x1 s} : (dropHeld x1 s).pending = s.pending :=
  keep_dropHeld (closed_pending _) trivial trivial rfl
@[simp] theorem drainEnd_pending {x1 s} : (drainEnd x1 s).pending = s.pending :=
  keep_drainEnd (closed_pending _) raiseSet_true trivial trivial trivial rfl
@[simp] theorem resetComplete_pending {x1 s} : (resetComplete x1 s).pending = s.pending :=
  keep_resetComplete (closed_pending _) raiseSet_true trivial trivial trivial trivial trivial rfl
@[simp] theorem powerRequest_pending {x1 x2 s} : (powerRequest x1 x2 s).pending = s.pending :=
  keep_powerRequest (closed_pending _) raiseSet_true rfl
@[simp] theorem dropHigh_pending {x1 s} : (dropHigh x1 s).pending = s.pending :=
  keep_dropHigh (closed_pending _) trivial rfl
@[simp] theorem powerEntry_pending {x1 x2 s} : (powerEntry x1 x2 s).pending = s.pending :=
  keep_powerEntry (closed_pending _) raiseSet_true trivial trivial rfl
@[simp] theorem reloadMicrocode_pending {x1 s} : (reloadMicrocode x1 s).pending = s.pending :=
  keep_reloadMicrocode (closed_pending _) trivial rfl
@[simp] theorem powerExit_pending {x1 s} : (powerExit x1 s).pending = s.pending :=
  keep_powerExit (closed_pending _) raiseSet_true trivial trivial trivial trivial trivial rfl
@[simp] theorem powerDone_pending {x1 s} : (powerDone x1 s).pending = s.pending :=
  keep_powerDone (closed_pending _) raiseSet_true trivial trivial trivial trivial trivial trivial trivial rfl
@[simp] theorem vecBegin_pending {x1 x2 s} : (vecBegin x1 x2 s).pending = s.pending :=
  keep_vecBegin (closed_pending _) raiseSet_true trivial rfl
@[simp] theorem vecComplete_pending {x1 x2 s} : (vecComplete x1 x2 s).pending = s.pending :=
  keep_vecComplete (closed_pending _) raiseSet_true trivial trivial trivial trivial rfl
@[simp] theorem putSpan_pending {x1 x2 x3 s} : (putSpan x1 x2 x3 s).pending = s.pending :=
  keep_putSpan (closed_pending _) trivial trivial trivial trivial rfl
@[simp] theorem capture_pending {x1 s} : (capture x1 s).pending = s.pending :=
  keep_capture (closed_pending _) trivial trivial trivial trivial trivial rfl
@[simp] theorem captures_pending {s : State} : (captures s).pending = s.pending :=
  keep_captures (closed_pending _) trivial trivial trivial trivial trivial rfl
@[simp] theorem writeCorePart_pending {x1 x2 s} : (writeCorePart x1 x2 s).pending = s.pending :=
  keep_writeCorePart (closed_pending _) trivial trivial trivial trivial rfl
@[simp] theorem cairnSeal_pending {x1 s} : (cairnSeal x1 s).pending = s.pending :=
  keep_cairnSeal (closed_pending _) raiseSet_true trivial rfl
@[simp] theorem cairnVoid_pending {x1 x2 s} : (cairnVoid x1 x2 s).pending = s.pending :=
  keep_cairnVoid (closed_pending _) raiseSet_true rfl
@[simp] theorem cairnRestore_pending {x1 x2 s} : (cairnRestore x1 x2 s).pending = s.pending :=
  keep_cairnRestore (closed_pending _) raiseSet_true trivial rfl
@[simp] theorem cairnCmd_pending {x1 s} : (cairnCmd x1 s).pending = s.pending :=
  keep_cairnCmd (closed_pending _) raiseSet_true trivial rfl
@[simp] theorem reinstPut_pending {x1 x2 x3 s} : (reinstPut x1 x2 x3 s).pending = s.pending :=
  keep_reinstPut (closed_pending _) trivial trivial trivial trivial trivial rfl
@[simp] theorem chargeReinst_pending {x1 x2 s} : (chargeReinst x1 x2 s).pending = s.pending :=
  keep_chargeReinst (closed_pending _) trivial rfl
@[simp] theorem reinstLines_pending {x1 x2 x3 x4 x5 x6 x7 s} : (reinstLines x1 x2 x3 x4 x5 x6 x7 s).2.pending = s.pending :=
  keep_reinstLines (closed_pending _) raiseSet_true trivial trivial rfl
@[simp] theorem reinstAll_pending {x1 x2 x3 x4 x5 s} : (reinstAll x1 x2 x3 x4 x5 s).2.pending = s.pending :=
  keep_reinstAll (closed_pending _) raiseSet_true trivial trivial rfl
@[simp] theorem reinstRead_pending {x1 x2 x3 x4 s} : (reinstRead x1 x2 x3 x4 s).2.pending = s.pending :=
  keep_reinstRead (closed_pending _) raiseSet_true trivial trivial rfl
@[simp] theorem restoreCores_pending {x1 x2 s} : (restoreCores x1 x2 s).pending = s.pending :=
  keep_restoreCores (closed_pending _) trivial rfl
@[simp] theorem restoreParts_pending {x1 s} : (restoreParts x1 s).pending = s.pending :=
  keep_restoreParts (closed_pending _) raiseSet_true trivial trivial trivial trivial trivial rfl
@[simp] theorem restoreJobs_pending {x1 x2 x3 s} : (restoreJobs x1 x2 x3 s).pending = s.pending :=
  keep_restoreJobs (closed_pending _) trivial trivial rfl
@[simp] theorem restoreStreams_pending {x1 x2 s} : (restoreStreams x1 x2 s).pending = s.pending :=
  keep_restoreStreams (closed_pending _) trivial rfl
@[simp] theorem enqueueJoin_pending {x1 x2 x3 s} : (enqueueJoin x1 x2 x3 s).pending = s.pending :=
  keep_enqueueJoin (closed_pending _) trivial rfl
@[simp] theorem restoreServing_pending {x1 s} : (restoreServing x1 s).pending = s.pending :=
  keep_restoreServing (closed_pending _) trivial trivial rfl
@[simp] theorem fixHead_pending {x1 x2 s} : (fixHead x1 x2 s).pending = s.pending :=
  keep_fixHead (closed_pending _) trivial trivial trivial trivial rfl
@[simp] theorem decideShards_pending {x1 s} : (decideShards x1 s).pending = s.pending :=
  keep_decideShards (closed_pending _) trivial trivial trivial trivial rfl
@[simp] theorem reinstateDone_pending {x1 s} : (reinstateDone x1 s).pending = s.pending :=
  keep_reinstateDone (closed_pending _) raiseSet_true trivial trivial trivial trivial trivial trivial
    trivial trivial rfl
@[simp] theorem modCores_pending {x1 x2 s} : (modCores x1 x2 s).pending = s.pending :=
  keep_modCores (closed_pending _) trivial rfl
@[simp] theorem runParts_pending {x1 s} : (runParts x1 s).pending = s.pending :=
  keep_runParts (closed_pending _) trivial trivial rfl
@[simp] theorem restoreAccepted_pending {x1 s} : (restoreAccepted x1 s).pending = s.pending :=
  keep_restoreAccepted (closed_pending _) raiseSet_true rfl
@[simp] theorem restoreRestart_pending {s : State} : (restoreRestart s).pending = s.pending :=
  keep_restoreRestart (closed_pending _) raiseSet_true rfl
@[simp] theorem replayCompare_pending {x1 x2 x3 s} : (replayCompare x1 x2 x3 s).pending = s.pending :=
  keep_replayCompare (closed_pending _) raiseSet_true rfl
@[simp] theorem stampLoss_pending {x1 x2 x3 x4 s} : (stampLoss x1 x2 x3 x4 s).pending = s.pending :=
  keep_stampLoss (closed_pending _) trivial trivial trivial trivial trivial rfl
@[simp] theorem readLoss_pending {x1 s} : (readLoss x1 s).pending = s.pending :=
  keep_readLoss (closed_pending _) raiseSet_true trivial rfl
@[simp] theorem readLosses_pending {s : State} : (readLosses s).pending = s.pending :=
  keep_readLosses (closed_pending _) raiseSet_true trivial rfl
@[simp] theorem pairMsg_pending {x1 x2 x3 s} : (pairMsg x1 x2 x3 s).pending = s.pending :=
  keep_pairMsg (closed_pending _) raiseSet_true trivial rfl
@[simp] theorem tilesKnown_pending {s : State} : (tilesKnown s).pending = s.pending :=
  keep_tilesKnown (closed_pending _) raiseSet_true trivial rfl
@[simp] theorem selfFault_pending {s : State} : (selfFault s).pending = s.pending :=
  keep_selfFault (closed_pending _) raiseSet_true rfl
@[simp] theorem verdictsKnown_pending {s : State} : (verdictsKnown s).pending = s.pending :=
  keep_verdictsKnown (closed_pending _) raiseSet_true rfl
@[simp] theorem hear_pending {x1 x2 s} : (hear x1 x2 s).pending = s.pending :=
  keep_hear (closed_pending _) trivial rfl
@[simp] theorem divergenceMsg_pending {x1 x2 s} : (divergenceMsg x1 x2 s).pending = s.pending :=
  keep_divergenceMsg (closed_pending _) raiseSet_true trivial rfl
@[simp] theorem pairTimeout_pending {x1 s} : (pairTimeout x1 s).pending = s.pending :=
  keep_pairTimeout (closed_pending _) raiseSet_true rfl
@[simp] theorem takeoverSignal_pending {s : State} : (takeoverSignal s).pending = s.pending :=
  keep_takeoverSignal (closed_pending _) trivial rfl
@[simp] theorem pairSilence_pending {s : State} : (pairSilence s).pending = s.pending :=
  keep_pairSilence (closed_pending _) trivial rfl
@[simp] theorem recomputeDone_pending {x1 s} : (recomputeDone x1 s).pending = s.pending :=
  keep_recomputeDone (closed_pending _) raiseSet_true rfl
@[simp] theorem pairRelease_pending {s : State} : (pairRelease s).pending = s.pending :=
  keep_pairRelease (closed_pending _) raiseSet_true rfl
@[simp] theorem pairCtl_pending {x1 s} : (pairCtl x1 s).pending = s.pending :=
  keep_pairCtl (closed_pending _) raiseSet_true rfl
@[simp] theorem coreFail_pending {x1 s} : (coreFail x1 s).pending = s.pending :=
  keep_coreFail (closed_pending _) raiseSet_true trivial trivial trivial rfl
@[simp] theorem placeLines_pending {x1 x2 x3 x4 x5 x6 x7 s} : (placeLines x1 x2 x3 x4 x5 x6 x7 s).pending = s.pending :=
  keep_placeLines (closed_pending _) raiseSet_true trivial trivial rfl
@[simp] theorem placeAll_pending {x1 x2 x3 x4 x5 s} : (placeAll x1 x2 x3 x4 x5 s).pending = s.pending :=
  keep_placeAll (closed_pending _) raiseSet_true trivial trivial rfl
@[simp] theorem fillCores_pending {x1 x2 x3 x4 s} : (fillCores x1 x2 x3 x4 s).pending = s.pending :=
  keep_fillCores (closed_pending _) raiseSet_true trivial trivial rfl
@[simp] theorem leaveSpill_pending {x1 s} : (leaveSpill x1 s).pending = s.pending :=
  keep_leaveSpill (closed_pending _) trivial trivial rfl
@[simp] theorem fillDone_pending {x1 s} : (fillDone x1 s).pending = s.pending :=
  keep_fillDone (closed_pending _) raiseSet_true trivial trivial trivial trivial trivial rfl
@[simp] theorem rngKeyWrite_pending {x1 x2 x3 s} : (rngKeyWrite x1 x2 x3 s).pending = s.pending :=
  keep_rngKeyWrite (closed_pending _) trivial rfl
@[simp] theorem rngCommits_pending {s : State} : (rngCommits s).pending = s.pending :=
  keep_rngCommits (closed_pending _) trivial rfl
@[simp] theorem addPart_pending {x1 x2 s} : (addPart x1 x2 s).pending = s.pending :=
  keep_addPart (closed_pending _) raiseSet_true trivial rfl
@[simp] theorem addJob_pending {x1 x2 s} : (addJob x1 x2 s).pending = s.pending :=
  keep_addJob (closed_pending _) raiseSet_true trivial rfl
@[simp] theorem addShared_pending {x1 s} : (addShared x1 s).pending = s.pending :=
  keep_addShared (closed_pending _) raiseSet_true trivial rfl
@[simp] theorem addPkg_pending {x1 s} : (addPkg x1 s).pending = s.pending :=
  keep_addPkg (closed_pending _) raiseSet_true trivial rfl
@[simp] theorem accountTick_pending {x1 s} : (accountTick x1 s).pending = s.pending :=
  keep_accountTick (closed_pending _) raiseSet_true trivial rfl
@[simp] theorem markEnergy_pending {s : State} : (markEnergy s).pending = s.pending :=
  keep_markEnergy (closed_pending _) trivial rfl
@[simp] theorem closeEnergy_pending {s : State} : (closeEnergy s).pending = s.pending :=
  keep_closeEnergy (closed_pending _) trivial rfl
@[simp] theorem advancePositions_pending {s : State} : (advancePositions s).pending = s.pending :=
  keep_advancePositions (closed_pending _) trivial rfl
@[simp] theorem castVote_pending {s : State} : (castVote s).pending = s.pending :=
  keep_castVote (closed_pending _) trivial rfl
@[simp] theorem decideFrame_pending {s : State} : (decideFrame s).pending = s.pending :=
  keep_decideFrame (closed_pending _) raiseSet_true trivial rfl
@[simp] theorem takeVotes_pending {x1 x2 s} : (takeVotes x1 x2 s).pending = s.pending :=
  keep_takeVotes (closed_pending _) trivial rfl
@[simp] theorem measure_pending {x1 x2 s} : (measure x1 x2 s).pending = s.pending :=
  keep_measure (closed_pending _) trivial rfl
@[simp] theorem measureCounted_pending {x1 x2 s} : (measureCounted x1 x2 s).pending = s.pending :=
  keep_measureCounted (closed_pending _) trivial rfl
@[simp] theorem cmdIgnored_pending {x1 s} : (cmdIgnored x1 s).pending = s.pending :=
  keep_cmdIgnored (closed_pending _) raiseSet_true rfl
@[simp] theorem schedLoad_pending {x1 s} : (schedLoad x1 s).pending = s.pending :=
  keep_schedLoad (closed_pending _) raiseSet_true trivial rfl
@[simp] theorem verifyDone_pending {s : State} : (verifyDone s).pending = s.pending :=
  keep_verifyDone (closed_pending _) raiseSet_true trivial rfl
@[simp] theorem armReject_pending {x1 s} : (armReject x1 s).pending = s.pending :=
  keep_armReject (closed_pending _) raiseSet_true trivial rfl
@[simp] theorem schedArm_pending {s : State} : (schedArm s).pending = s.pending :=
  keep_schedArm (closed_pending _) raiseSet_true trivial rfl
@[simp] theorem schedAbort_pending {s : State} : (schedAbort s).pending = s.pending :=
  keep_schedAbort (closed_pending _) raiseSet_true trivial rfl
@[simp] theorem schedCmd_pending {x1 s} : (schedCmd x1 s).pending = s.pending :=
  keep_schedCmd (closed_pending _) raiseSet_true trivial rfl
@[simp] theorem placeCores_pending {x1 x2 s} : (placeCores x1 x2 s).pending = s.pending :=
  keep_placeCores (closed_pending _) trivial rfl
@[simp] theorem shadowDone_pending {s : State} : (shadowDone s).pending = s.pending :=
  keep_shadowDone (closed_pending _) trivial trivial rfl
@[simp] theorem overrunCheck_pending {x1 x2 s} : (overrunCheck x1 x2 s).pending = s.pending :=
  keep_overrunCheck (closed_pending _) raiseSet_true rfl
@[simp] theorem overrunChecks_pending {x1 x2 s} : (overrunChecks x1 x2 s).pending = s.pending :=
  keep_overrunChecks (closed_pending _) raiseSet_true rfl
@[simp] theorem swapOne_pending {x1 s} : (swapOne x1 s).pending = s.pending :=
  keep_swapOne (closed_pending _) raiseSet_true rfl
@[simp] theorem swapCores_pending {x1 s} : (swapCores x1 s).pending = s.pending :=
  keep_swapCores (closed_pending _) raiseSet_true rfl
@[simp] theorem edgeSeals_pending {x1 s} : (edgeSeals x1 s).pending = s.pending :=
  keep_edgeSeals (closed_pending _) trivial rfl
@[simp] theorem skipReport_pending {x1 x2 s} : (skipReport x1 x2 s).pending = s.pending :=
  keep_skipReport (closed_pending _) raiseSet_true rfl
@[simp] theorem activateServing_pending {x1 s} : (activateServing x1 s).pending = s.pending :=
  keep_activateServing (closed_pending _) trivial trivial rfl
@[simp] theorem zeroIssued_pending {s : State} : (zeroIssued s).pending = s.pending :=
  keep_zeroIssued (closed_pending _) trivial rfl
@[simp] theorem activateEnergy_pending {s : State} : (activateEnergy s).pending = s.pending :=
  keep_activateEnergy (closed_pending _) trivial trivial rfl
@[simp] theorem activate_pending {x1 s} : (activate x1 s).pending = s.pending :=
  keep_activate (closed_pending _) raiseSet_true trivial trivial trivial trivial rfl
@[simp] theorem imageActivation_pending {s : State} : (imageActivation s).pending = s.pending :=
  keep_imageActivation (closed_pending _) raiseSet_true trivial trivial trivial trivial rfl
@[simp] theorem modDev_pending {x1 s} : (modDev x1 s).pending = s.pending :=
  keep_modDev (closed_pending _) trivial rfl
@[simp] theorem excludeSensors_pending {x1 s} : (excludeSensors x1 s).pending = s.pending :=
  keep_excludeSensors (closed_pending _) raiseSet_true trivial rfl
@[simp] theorem excludeCurrents_pending {x1 s} : (excludeCurrents x1 s).pending = s.pending :=
  keep_excludeCurrents (closed_pending _) raiseSet_true trivial trivial rfl
@[simp] theorem tempCrit_pending {x1 x2 x3 x4 s} : (tempCrit x1 x2 x3 x4 s).pending = s.pending :=
  keep_tempCrit (closed_pending _) raiseSet_true trivial rfl
@[simp] theorem dieThreshold_pending {x1 x2 s} : (dieThreshold x1 x2 s).pending = s.pending :=
  keep_dieThreshold (closed_pending _) raiseSet_true trivial rfl
@[simp] theorem dieThresholds_pending {x1 s} : (dieThresholds x1 s).pending = s.pending :=
  keep_dieThresholds (closed_pending _) raiseSet_true trivial rfl
@[simp] theorem stackTemp_pending {x1 x2 s} : (stackTemp x1 x2 s).pending = s.pending :=
  keep_stackTemp (closed_pending _) raiseSet_true trivial rfl
@[simp] theorem stackTemps_pending {x1 s} : (stackTemps x1 s).pending = s.pending :=
  keep_stackTemps (closed_pending _) raiseSet_true trivial rfl
@[simp] theorem thermalVote_pending {s : State} : (thermalVote s).pending = s.pending :=
  keep_thermalVote (closed_pending _) trivial rfl
@[simp] theorem thermalSample_pending {x1 s} : (thermalSample x1 s).pending = s.pending :=
  keep_thermalSample (closed_pending _) raiseSet_true trivial trivial trivial rfl
@[simp] theorem railFault_pending {x1 s} : (railFault x1 s).pending = s.pending :=
  keep_railFault (closed_pending _) raiseSet_true rfl
@[simp] theorem managementError_pending {x1 x2 s} : (managementError x1 x2 s).pending = s.pending :=
  keep_managementError (closed_pending _) raiseSet_true trivial trivial rfl
@[simp] theorem heartWrite_pending {x1 s} : (heartWrite x1 s).pending = s.pending :=
  keep_heartWrite (closed_pending _) trivial rfl
@[simp] theorem watchdogExpiry_pending {s : State} : (watchdogExpiry s).pending = s.pending :=
  keep_watchdogExpiry (closed_pending _) raiseSet_true trivial rfl
@[simp] theorem trainingLoss_pending {x1 x2 s} : (trainingLoss x1 x2 s).pending = s.pending :=
  keep_trainingLoss (closed_pending _) raiseSet_true rfl
@[simp] theorem boundPassed_pending {x1 s} : (boundPassed x1 s).pending = s.pending :=
  keep_boundPassed (closed_pending _) raiseSet_true rfl
@[simp] theorem writeLog_pending {x1 x2 s} : (writeLog x1 x2 s).pending = s.pending :=
  keep_writeLog (closed_pending _) raiseSet_true trivial rfl
@[simp] theorem logIsFull_pending {s : State} : (logIsFull s).pending = s.pending :=
  keep_logIsFull (closed_pending _) raiseSet_true trivial rfl
@[simp] theorem defectLogWrite_pending {x1 x2 s} : (defectLogWrite x1 x2 s).pending = s.pending :=
  keep_defectLogWrite (closed_pending _) raiseSet_true trivial rfl
@[simp] theorem sramAdvance_pending {x1 s} : (sramAdvance x1 s).pending = s.pending :=
  keep_sramAdvance (closed_pending _) trivial rfl
@[simp] theorem sramDataRead_pending {x1 x2 s} : (sramDataRead x1 x2 s).2.pending = s.pending :=
  keep_sramDataRead (closed_pending _) raiseSet_true trivial rfl
@[simp] theorem sramDataWrite_pending {x1 x2 s} : (sramDataWrite x1 x2 s).pending = s.pending :=
  keep_sramDataWrite (closed_pending _) raiseSet_true trivial rfl
@[simp] theorem setUpd_pending {x1 s} : (setUpd x1 s).pending = s.pending :=
  keep_setUpd (closed_pending _) trivial rfl
@[simp] theorem setUpdReason_pending {x1 s} : (setUpdReason x1 s).pending = s.pending :=
  keep_setUpdReason (closed_pending _) trivial rfl
@[simp] theorem modRecord_pending {x1 s} : (modRecord x1 s).pending = s.pending :=
  keep_modRecord (closed_pending _) trivial trivial trivial rfl
@[simp] theorem setFlashSlot_pending {x1 x2 s} : (setFlashSlot x1 x2 s).pending = s.pending :=
  keep_setFlashSlot (closed_pending _) trivial rfl
@[simp] theorem setStagedDigest_pending {x1 s} : (setStagedDigest x1 s).pending = s.pending :=
  keep_setStagedDigest (closed_pending _) trivial rfl
@[simp] theorem setStaged_pending {x1 s} : (setStaged x1 s).pending = s.pending :=
  keep_setStaged (closed_pending _) trivial rfl
@[simp] theorem trialSuccess_pending {s : State} : (trialSuccess s).pending = s.pending :=
  keep_trialSuccess (closed_pending _) trivial trivial trivial rfl
@[simp] theorem trialFail_pending {x1 s} : (trialFail x1 s).pending = s.pending :=
  keep_trialFail (closed_pending _) trivial trivial trivial rfl
@[simp] theorem trialTimeout_pending {s : State} : (trialTimeout s).pending = s.pending :=
  keep_trialTimeout (closed_pending _) raiseSet_true trivial trivial rfl
@[simp] theorem secEnd_pending {x1 x2 s} : (secEnd x1 x2 s).pending = s.pending :=
  keep_secEnd (closed_pending _) raiseSet_true trivial rfl
@[simp] theorem secStage_pending {x1 s} : (secStage x1 s).pending = s.pending :=
  keep_secStage (closed_pending _) raiseSet_true trivial trivial rfl
@[simp] theorem stageDone_pending {x1 s} : (stageDone x1 s).pending = s.pending :=
  keep_stageDone (closed_pending _) raiseSet_true trivial trivial rfl
@[simp] theorem secAbort_pending {s : State} : (secAbort s).pending = s.pending :=
  keep_secAbort (closed_pending _) raiseSet_true trivial trivial rfl
@[simp] theorem secActivate_pending {s : State} : (secActivate s).pending = s.pending :=
  keep_secActivate (closed_pending _) raiseSet_true trivial trivial rfl
@[simp] theorem modFuses_pending {x1 s} : (modFuses x1 s).pending = s.pending :=
  keep_modFuses (closed_pending _) trivial rfl
@[simp] theorem secCommit_pending {s : State} : (secCommit s).pending = s.pending :=
  keep_secCommit (closed_pending _) raiseSet_true trivial trivial trivial trivial rfl
@[simp] theorem useChallenge_pending {s : State} : (useChallenge s).pending = s.pending :=
  keep_useChallenge (closed_pending _) trivial rfl
@[simp] theorem secRevoke_pending {s : State} : (secRevoke s).pending = s.pending :=
  keep_secRevoke (closed_pending _) raiseSet_true trivial trivial trivial rfl
@[simp] theorem secChallenge_pending {s : State} : (secChallenge s).pending = s.pending :=
  keep_secChallenge (closed_pending _) raiseSet_true trivial trivial rfl
@[simp] theorem secJtag_pending {s : State} : (secJtag s).pending = s.pending :=
  keep_secJtag (closed_pending _) raiseSet_true trivial rfl
@[simp] theorem secExtend_pending {s : State} : (secExtend s).pending = s.pending :=
  keep_secExtend (closed_pending _) raiseSet_true trivial rfl
@[simp] theorem secCmd_pending {x1 s} : (secCmd x1 s).pending = s.pending :=
  keep_secCmd (closed_pending _) raiseSet_true trivial trivial trivial trivial rfl
@[simp] theorem nonceWrite_pending {x1 x2 s} : (nonceWrite x1 x2 s).pending = s.pending :=
  keep_nonceWrite (closed_pending _) raiseSet_true trivial rfl
@[simp] theorem reportDone_pending {s : State} : (reportDone s).pending = s.pending :=
  keep_reportDone (closed_pending _) trivial rfl
@[simp] theorem linkSlip_pending {x1 x2 x3 s} : (linkSlip x1 x2 x3 s).pending = s.pending :=
  keep_linkSlip (closed_pending _) raiseSet_true rfl
@[simp] theorem colSlip_pending {x1 x2 x3 x4 s} : (colSlip x1 x2 x3 x4 s).pending = s.pending :=
  keep_colSlip (closed_pending _) raiseSet_true rfl
@[simp] theorem modLink_pending {x1 x2 s} : (modLink x1 x2 s).pending = s.pending :=
  keep_modLink (closed_pending _) trivial rfl
@[simp] theorem noteQHigh_pending {x1 s} : (noteQHigh x1 s).pending = s.pending :=
  keep_noteQHigh (closed_pending _) trivial rfl
@[simp] theorem linkDrop_pending {x1 x2 s} : (linkDrop x1 x2 s).pending = s.pending :=
  keep_linkDrop (closed_pending _) raiseSet_true rfl
@[simp] theorem takeForLink_pending {x1 x2 x3 x4 s} : (takeForLink x1 x2 x3 x4 s).pending = s.pending :=
  keep_takeForLink (closed_pending _) raiseSet_true rfl
@[simp] theorem colTake_pending {x1 x2 s} : (colTake x1 x2 s).pending = s.pending :=
  keep_colTake (closed_pending _) raiseSet_true trivial trivial rfl
@[simp] theorem chargeSlots_pending {x1 s} : (chargeSlots x1 s).pending = s.pending :=
  keep_chargeSlots (closed_pending _) trivial rfl
@[simp] theorem frameLaunch_pending {x1 s} : (frameLaunch x1 s).pending = s.pending :=
  keep_frameLaunch (closed_pending _) raiseSet_true trivial rfl
@[simp] theorem relaunch_pending {x1 s} : (relaunch x1 s).pending = s.pending :=
  keep_relaunch (closed_pending _) raiseSet_true rfl
@[simp] theorem setLinkState_pending {x1 x2 x3 x4 x5 s} : (setLinkState x1 x2 x3 x4 x5 s).pending = s.pending :=
  keep_setLinkState (closed_pending _) raiseSet_true rfl
@[simp] theorem linkDown_pending {x1 x2 s} : (linkDown x1 x2 s).pending = s.pending :=
  keep_linkDown (closed_pending _) raiseSet_true rfl
@[simp] theorem startTraining_pending {x1 s} : (startTraining x1 s).pending = s.pending :=
  keep_startTraining (closed_pending _) raiseSet_true rfl
@[simp] theorem retrain_pending {x1 s} : (retrain x1 s).pending = s.pending :=
  keep_retrain (closed_pending _) raiseSet_true rfl
@[simp] theorem linkPageReset_pending {x1 s} : (linkPageReset x1 s).pending = s.pending :=
  keep_linkPageReset (closed_pending _) raiseSet_true rfl
@[simp] theorem timeTraining_pending {x1 s} : (timeTraining x1 s).pending = s.pending :=
  keep_timeTraining (closed_pending _) trivial rfl
@[simp] theorem trainFail_pending {x1 x2 s} : (trainFail x1 x2 s).pending = s.pending :=
  keep_trainFail (closed_pending _) raiseSet_true rfl
@[simp] theorem toState_pending {x1 x2 x3 s} : (toState x1 x2 x3 s).pending = s.pending :=
  keep_toState (closed_pending _) raiseSet_true rfl
@[simp] theorem sendId_pending {x1 x2 s} : (sendId x1 x2 s).pending = s.pending :=
  keep_sendId (closed_pending _) raiseSet_true rfl
@[simp] theorem checkDone_pending {x1 x2 s} : (checkDone x1 x2 s).pending = s.pending :=
  keep_checkDone (closed_pending _) raiseSet_true rfl
@[simp] theorem negotiated_pending {x1 x2 x3 x4 s} : (negotiated x1 x2 x3 x4 s).pending = s.pending :=
  keep_negotiated (closed_pending _) raiseSet_true rfl
@[simp] theorem negotiateEnd_pending {x1 s} : (negotiateEnd x1 s).pending = s.pending :=
  keep_negotiateEnd (closed_pending _) raiseSet_true rfl
@[simp] theorem negotiateDone_pending {x1 x2 s} : (negotiateDone x1 x2 s).pending = s.pending :=
  keep_negotiateDone (closed_pending _) raiseSet_true rfl
@[simp] theorem trainTimeout_pending {x1 s} : (trainTimeout x1 s).pending = s.pending :=
  keep_trainTimeout (closed_pending _) raiseSet_true rfl
@[simp] theorem linkEnable_pending {x1 x2 s} : (linkEnable x1 x2 s).pending = s.pending :=
  keep_linkEnable (closed_pending _) raiseSet_true rfl
@[simp] theorem acceptSlots_pending {x1 x2 s} : (acceptSlots x1 x2 s).pending = s.pending :=
  keep_acceptSlots (closed_pending _) raiseSet_true rfl
@[simp] theorem checkSlots_pending {x1 x2 s} : (checkSlots x1 x2 s).pending = s.pending :=
  keep_checkSlots (closed_pending _) raiseSet_true rfl
@[simp] theorem takeIds_pending {x1 x2 s} : (takeIds x1 x2 s).pending = s.pending :=
  keep_takeIds (closed_pending _) trivial rfl
@[simp] theorem takeRequest_pending {x1 x2 s} : (takeRequest x1 x2 s).pending = s.pending :=
  keep_takeRequest (closed_pending _) raiseSet_true rfl
@[simp] theorem countFec_pending {x1 x2 s} : (countFec x1 x2 s).pending = s.pending :=
  keep_countFec (closed_pending _) raiseSet_true rfl
@[simp] theorem frameBad_pending {x1 x2 x3 s} : (frameBad x1 x2 x3 s).pending = s.pending :=
  keep_frameBad (closed_pending _) raiseSet_true rfl
@[simp] theorem negotiateFrame_pending {x1 x2 x3 s} : (negotiateFrame x1 x2 x3 s).pending = s.pending :=
  keep_negotiateFrame (closed_pending _) raiseSet_true rfl
@[simp] theorem frameGood_pending {x1 x2 x3 s} : (frameGood x1 x2 x3 s).pending = s.pending :=
  keep_frameGood (closed_pending _) raiseSet_true rfl
@[simp] theorem frameVerdict_pending {x1 x2 x3 s} : (frameVerdict x1 x2 x3 s).pending = s.pending :=
  keep_frameVerdict (closed_pending _) raiseSet_true rfl
@[simp] theorem deliverSlot_pending {x1 x2 s} : (deliverSlot x1 x2 s).pending = s.pending :=
  keep_deliverSlot (closed_pending _) raiseSet_true trivial trivial trivial rfl
@[simp] theorem serviceDue_pending {x1 s} : (serviceDue x1 s).pending = s.pending :=
  keep_serviceDue (closed_pending _) raiseSet_true rfl
@[simp] theorem slotDeliver_pending {x1 s} : (slotDeliver x1 s).pending = s.pending :=
  keep_slotDeliver (closed_pending _) raiseSet_true trivial trivial trivial rfl
@[simp] theorem txLate_pending {x1 s} : (txLate x1 s).pending = s.pending :=
  keep_txLate (closed_pending _) raiseSet_true rfl
@[simp] theorem logCores_pending {x1 x2 x3 s} : (logCores x1 x2 x3 s).2.pending = s.pending :=
  keep_logCores (closed_pending _) raiseSet_true trivial rfl
@[simp] theorem bistCauses_pending {x1 s} : (bistCauses x1 s).pending = s.pending :=
  keep_bistCauses (closed_pending _) raiseSet_true rfl
@[simp] theorem bistDies_pending {x1 s} : (bistDies x1 s).pending = s.pending :=
  keep_bistDies (closed_pending _) raiseSet_true rfl
@[simp] theorem yieldCauses_pending {x1 s} : (yieldCauses x1 s).pending = s.pending :=
  keep_yieldCauses (closed_pending _) raiseSet_true rfl
@[simp] theorem bistAndLog_pending {x1 s} : (bistAndLog x1 s).2.pending = s.pending :=
  keep_bistAndLog (closed_pending _) raiseSet_true trivial rfl
@[simp] theorem floodSwitches_pending {s : State} : (floodSwitches s).pending = s.pending :=
  keep_floodSwitches (closed_pending _) trivial rfl
@[simp] theorem remapAll_pending {s : State} : (remapAll s).pending = s.pending :=
  keep_remapAll (closed_pending _) trivial rfl
@[simp] theorem trainStack_pending {x1 x2 s} : (trainStack x1 x2 s).pending = s.pending :=
  keep_trainStack (closed_pending _) raiseSet_true rfl
@[simp] theorem trainStacks_pending {x1 x2 s} : (trainStacks x1 x2 s).pending = s.pending :=
  keep_trainStacks (closed_pending _) raiseSet_true rfl
@[simp] theorem trainEdges_pending {x1 s} : (trainEdges x1 s).pending = s.pending :=
  keep_trainEdges (closed_pending _) trivial trivial rfl
@[simp] theorem trainLinks_pending {x1 s} : (trainLinks x1 s).pending = s.pending :=
  keep_trainLinks (closed_pending _) raiseSet_true rfl
@[simp] theorem microCauses_pending {x1 s} : (microCauses x1 s).pending = s.pending :=
  keep_microCauses (closed_pending _) raiseSet_true rfl
@[simp] theorem microcode_pending {x1 x2 x3 s} : (microcode x1 x2 x3 s).pending = s.pending :=
  keep_microcode (closed_pending _) raiseSet_true trivial rfl
@[simp] theorem enablePages_pending {x1 x2 s} : (enablePages x1 x2 s).pending = s.pending :=
  keep_enablePages (closed_pending _) trivial rfl
@[simp] theorem enableAll_pending {s : State} : (enableAll s).pending = s.pending :=
  keep_enableAll (closed_pending _) trivial rfl
@[simp] theorem bootComponents_pending {x1 x2 x3 s} : (bootComponents x1 x2 x3 s).2.pending = s.pending :=
  keep_bootComponents (closed_pending _) raiseSet_true trivial rfl
@[simp] theorem loadCharges_pending {x1 x2 s} : (loadCharges x1 x2 s).pending = s.pending :=
  keep_loadCharges (closed_pending _) trivial rfl
@[simp] theorem running_pending {x1 x2 x3 s} : (running x1 x2 x3 s).pending = s.pending :=
  keep_running (closed_pending _) trivial trivial trivial rfl
@[simp] theorem bootSlot_pending {x1 s} : (bootSlot x1 s).2.pending = s.pending :=
  keep_bootSlot (closed_pending _) raiseSet_true trivial trivial rfl
@[simp] theorem bootFlash_pending {s : State} : (bootFlash s).2.pending = s.pending :=
  keep_bootFlash (closed_pending _) raiseSet_true trivial trivial rfl
@[simp] theorem startTrotos_pending {s : State} : (startTrotos s).pending = s.pending :=
  keep_startTrotos (closed_pending _) trivial trivial trivial rfl
@[simp] theorem logResets_pending {x1 s} : (logResets x1 s).pending = s.pending :=
  keep_logResets (closed_pending _) raiseSet_true rfl
@[simp] theorem logDue_pending {s : State} : (logDue s).pending = s.pending :=
  keep_logDue (closed_pending _) raiseSet_true trivial rfl
@[simp] theorem readyCheck_pending {x1 x2 s} : (readyCheck x1 x2 s).pending = s.pending :=
  keep_readyCheck (closed_pending _) raiseSet_true trivial trivial rfl
@[simp] theorem trialCheck_pending {x1 s} : (trialCheck x1 s).pending = s.pending :=
  keep_trialCheck (closed_pending _) trivial trivial trivial rfl
@[simp] theorem finishBoot_pending {x1 x2 s} : (finishBoot x1 x2 s).pending = s.pending :=
  keep_finishBoot (closed_pending _) raiseSet_true trivial trivial trivial rfl
@[simp] theorem toNetwork_pending {x1 x2 s} : (toNetwork x1 x2 s).pending = s.pending :=
  keep_toNetwork (closed_pending _) trivial trivial trivial rfl
@[simp] theorem noFirmware_pending {s : State} : (noFirmware s).pending = s.pending :=
  keep_noFirmware (closed_pending _) trivial rfl
@[simp] theorem bootFirmware_pending {x1 x2 s} : (bootFirmware x1 x2 s).pending = s.pending :=
  keep_bootFirmware (closed_pending _) raiseSet_true trivial trivial trivial rfl
@[simp] theorem restoreUpd_pending {s : State} : (restoreUpd s).pending = s.pending :=
  keep_restoreUpd (closed_pending _) trivial rfl
@[simp] theorem resetLimits_pending {s : State} : (resetLimits s).pending = s.pending :=
  keep_resetLimits (closed_pending _) trivial rfl
@[simp] theorem coldBringup_pending {x1 s} : (coldBringup x1 s).pending = s.pending :=
  keep_coldBringup (closed_pending _) raiseSet_true trivial trivial trivial trivial trivial trivial
    trivial trivial trivial trivial trivial trivial trivial trivial trivial trivial trivial trivial rfl
@[simp] theorem coldReset_pending {s : State} : (coldReset s).pending = s.pending :=
  keep_coldReset (closed_pending _) raiseSet_true trivial trivial trivial trivial trivial trivial
    trivial trivial trivial trivial trivial trivial trivial trivial trivial trivial trivial trivial rfl
@[simp] theorem warmKeep_pending {s : State} : (warmKeep s).pending = s.pending :=
  keep_warmKeep (closed_pending _) raiseSet_true trivial trivial trivial trivial trivial trivial
    trivial trivial trivial trivial trivial trivial trivial trivial trivial trivial trivial trivial rfl
@[simp] theorem launchAll_pending {x1 s} : (launchAll x1 s).pending = s.pending :=
  keep_launchAll (closed_pending _) raiseSet_true trivial rfl
@[simp] theorem warmReset_pending {x1 x2 s} : (warmReset x1 x2 s).pending = s.pending :=
  keep_warmReset (closed_pending _) raiseSet_true trivial trivial trivial trivial trivial trivial
    trivial trivial trivial trivial trivial trivial trivial trivial trivial trivial trivial trivial rfl
@[simp] theorem bootReq_pending {s : State} : (bootReq s).pending = s.pending :=
  keep_bootReq (closed_pending _) trivial trivial rfl
@[simp] theorem bootData_pending {x1 x2 s} : (bootData x1 x2 s).pending = s.pending :=
  keep_bootData (closed_pending _) raiseSet_true trivial trivial trivial rfl
@[simp] theorem setPeerRow_pending {x1 s} : (setPeerRow x1 s).pending = s.pending :=
  keep_setPeerRow (closed_pending _) trivial rfl
@[simp] theorem configDiverge_pending {x1 x2 x3 s} : (configDiverge x1 x2 x3 s).pending = s.pending :=
  keep_configDiverge (closed_pending _) raiseSet_true trivial rfl
@[simp] theorem compareDigest_pending {x1 x2 x3 x4 x5 s} : (compareDigest x1 x2 x3 x4 x5 s).pending = s.pending :=
  keep_compareDigest (closed_pending _) raiseSet_true trivial rfl
@[simp] theorem digestMessage_pending {x1 x2 x3 x4 s} : (digestMessage x1 x2 x3 x4 s).pending = s.pending :=
  keep_digestMessage (closed_pending _) raiseSet_true trivial rfl
@[simp] theorem compareWaiting_pending {x1 x2 x3 s} : (compareWaiting x1 x2 x3 s).pending = s.pending :=
  keep_compareWaiting (closed_pending _) raiseSet_true trivial rfl
@[simp] theorem holdDigest_pending {s : State} : (holdDigest s).pending = s.pending :=
  keep_holdDigest (closed_pending _) trivial rfl
@[simp] theorem publishDigest_pending {s : State} : (publishDigest s).pending = s.pending :=
  keep_publishDigest (closed_pending _) raiseSet_true trivial rfl
@[simp] theorem tickSlip_pending {x1 x2 s} : (tickSlip x1 x2 s).pending = s.pending :=
  keep_tickSlip (closed_pending _) raiseSet_true rfl
@[simp] theorem heldResets_pending {x1 s} : (heldResets x1 s).pending = s.pending :=
  keep_heldResets (closed_pending _) raiseSet_true trivial trivial trivial trivial rfl
@[simp] theorem takeover_pending {s : State} : (takeover s).pending = s.pending :=
  keep_takeover (closed_pending _) raiseSet_true rfl
@[simp] theorem resendFault_pending {s : State} : (resendFault s).pending = s.pending :=
  keep_resendFault (closed_pending _) trivial trivial rfl
@[simp] theorem mapCores_pending {x1 s} : (mapCores x1 s).pending = s.pending :=
  keep_mapCores (closed_pending _) trivial rfl
@[simp] theorem tickBoundary_pending {x1 s} : (tickBoundary x1 s).pending = s.pending :=
  keep_tickBoundary (closed_pending _) raiseSet_true trivial trivial trivial trivial trivial trivial rfl
@[simp] theorem switchUpstream_pending {s : State} : (switchUpstream s).pending = s.pending :=
  keep_switchUpstream (closed_pending _) raiseSet_true trivial rfl
@[simp] theorem monitorFrame_pending {s : State} : (monitorFrame s).pending = s.pending :=
  keep_monitorFrame (closed_pending _) raiseSet_true trivial trivial trivial rfl
@[simp] theorem countJobs_pending {s : State} : (countJobs s).pending = s.pending :=
  keep_countJobs (closed_pending _) trivial rfl
@[simp] theorem closeSlack_pending {s : State} : (closeSlack s).pending = s.pending :=
  keep_closeSlack (closed_pending _) trivial rfl
@[simp] theorem resumeCores_pending {s : State} : (resumeCores s).pending = s.pending :=
  keep_resumeCores (closed_pending _) trivial rfl
@[simp] theorem pairTrace_pending {x1 s} : (pairTrace x1 s).pending = s.pending :=
  keep_pairTrace (closed_pending _) raiseSet_true trivial rfl
@[simp] theorem frameBoundary_pending {s : State} : (frameBoundary s).pending = s.pending :=
  keep_frameBoundary (closed_pending _) raiseSet_true trivial trivial trivial trivial trivial trivial
    trivial trivial trivial trivial rfl
@[simp] theorem tickStart_pending {x1 s} : (tickStart x1 s).pending = s.pending :=
  keep_tickStart (closed_pending _) raiseSet_true trivial rfl
@[simp] theorem noteReady_pending {s : State} : (noteReady s).pending = s.pending :=
  keep_noteReady (closed_pending _) trivial rfl
@[simp] theorem takeNumber_pending {x1 x2 s} : (takeNumber x1 x2 s).pending = s.pending :=
  keep_takeNumber (closed_pending _) trivial trivial trivial trivial trivial rfl
@[simp] theorem markNumber_pending {x1 x2 s} : (markNumber x1 x2 s).pending = s.pending :=
  keep_markNumber (closed_pending _) raiseSet_true trivial trivial trivial trivial rfl
@[simp] theorem markVotes_pending {x1 x2 s} : (markVotes x1 x2 s).pending = s.pending :=
  keep_markVotes (closed_pending _) raiseSet_true trivial rfl
@[simp] theorem upstreamMark_pending {x1 s} : (upstreamMark x1 s).pending = s.pending :=
  keep_upstreamMark (closed_pending _) raiseSet_true trivial trivial trivial trivial rfl
@[simp] theorem tickMarker_pending {x1 s} : (tickMarker x1 s).pending = s.pending :=
  keep_tickMarker (closed_pending _) raiseSet_true trivial trivial trivial trivial rfl
@[simp] theorem holdoverExceeded_pending {s : State} : (holdoverExceeded s).pending = s.pending :=
  keep_holdoverExceeded (closed_pending _) raiseSet_true trivial trivial rfl
@[simp] theorem fclkLock_pending {s : State} : (fclkLock s).pending = s.pending :=
  keep_fclkLock (closed_pending _) trivial rfl
@[simp] theorem nummonCtl_pending {x1 x2 s} : (nummonCtl x1 x2 s).pending = s.pending :=
  keep_nummonCtl (closed_pending _) trivial rfl
@[simp] theorem setLatch_pending {x1 x2 s} : (setLatch x1 x2 s).pending = s.pending :=
  keep_setLatch (closed_pending _) trivial rfl
@[simp] theorem noPage_pending {x1 s} : (noPage x1 s).pending = s.pending :=
  keep_noPage (closed_pending _) raiseSet_true rfl
@[simp] theorem readEffect_pending {x1 x2 x3 s} : (readEffect x1 x2 x3 s).pending = s.pending :=
  keep_readEffect (closed_pending _) trivial trivial rfl
@[simp] theorem latchedRead_pending {x1 x2 x3 x4 s} : (latchedRead x1 x2 x3 x4 s).2.pending = s.pending :=
  keep_latchedRead (closed_pending _) trivial rfl
@[simp] theorem readReg_pending {x1 x2 x3 x4 s} : (readReg x1 x2 x3 x4 s).2.pending = s.pending :=
  keep_readReg (closed_pending _) raiseSet_true trivial rfl
@[simp] theorem regRead_pending {x1 x2 s} : (regRead x1 x2 s).2.2.pending = s.pending :=
  keep_regRead (closed_pending _) raiseSet_true trivial rfl
@[simp] theorem freezeMaster_pending {x1 x2 s} : (freezeMaster x1 x2 s).pending = s.pending :=
  keep_freezeMaster (closed_pending _) raiseSet_true rfl
@[simp] theorem enableWrite_pending {x1 x2 x3 s} : (enableWrite x1 x2 x3 s).pending = s.pending :=
  keep_enableWrite (closed_pending _) raiseSet_true rfl
@[simp] theorem resetWrite_pending {x1 x2 x3 s} : (resetWrite x1 x2 x3 s).pending = s.pending :=
  keep_resetWrite (closed_pending _) raiseSet_true trivial trivial trivial trivial trivial trivial trivial rfl
@[simp] theorem pageCtlWrite_pending {x1 x2 x3 s} : (pageCtlWrite x1 x2 x3 s).pending = s.pending :=
  keep_pageCtlWrite (closed_pending _) raiseSet_true trivial trivial trivial trivial trivial trivial trivial rfl
@[simp] theorem errSumWrite_pending {x1 x2 x3 s} : (errSumWrite x1 x2 x3 s).pending = s.pending :=
  keep_errSumWrite (closed_pending _) trivial trivial rfl
@[simp] theorem plainWrite_pending {x1 x2 x3 x4 s} : (plainWrite x1 x2 x3 x4 s).pending = s.pending :=
  keep_plainWrite (closed_pending _) trivial rfl
@[simp] theorem qpWrite_pending {x1 x2 x3 s} : (qpWrite x1 x2 x3 s).pending = s.pending :=
  keep_qpWrite (closed_pending _) raiseSet_true rfl
@[simp] theorem rdmaRegWrite_pending {x1 x2 s} : (rdmaRegWrite x1 x2 s).pending = s.pending :=
  keep_rdmaRegWrite (closed_pending _) raiseSet_true trivial rfl
@[simp] theorem swCtlWrite_pending {x1 x2 s} : (swCtlWrite x1 x2 s).pending = s.pending :=
  keep_swCtlWrite (closed_pending _) raiseSet_true trivial trivial rfl
@[simp] theorem keyCmd_pending {x1 x2 s} : (keyCmd x1 x2 s).pending = s.pending :=
  keep_keyCmd (closed_pending _) raiseSet_true rfl
@[simp] theorem cirqueWrite_pending {x1 x2 x3 s} : (cirqueWrite x1 x2 x3 s).pending = s.pending :=
  keep_cirqueWrite (closed_pending _) raiseSet_true rfl
@[simp] theorem serveWrite_pending {x1 x2 s} : (serveWrite x1 x2 s).pending = s.pending :=
  keep_serveWrite (closed_pending _) raiseSet_true rfl
@[simp] theorem budgetWrite_pending {x1 x2 s} : (budgetWrite x1 x2 s).pending = s.pending :=
  keep_budgetWrite (closed_pending _) raiseSet_true rfl
@[simp] theorem classWrite_pending {x1 x2 x3 x4 x5 s} : (classWrite x1 x2 x3 x4 x5 s).pending = s.pending :=
  keep_classWrite (closed_pending _) raiseSet_true trivial trivial trivial trivial trivial trivial
    trivial trivial trivial rfl
@[simp] theorem singleWrite_pending {x1 x2 x3 x4 x5 s} : (singleWrite x1 x2 x3 x4 x5 s).pending = s.pending :=
  keep_singleWrite (closed_pending _) raiseSet_true trivial trivial trivial trivial trivial trivial
    trivial trivial trivial trivial trivial trivial trivial rfl
@[simp] theorem cairnJWrite_pending {x1 s} : (cairnJWrite x1 s).pending = s.pending :=
  keep_cairnJWrite (closed_pending _) trivial rfl
@[simp] theorem pairWrite_pending {x1 x2 x3 x4 s} : (pairWrite x1 x2 x3 x4 s).pending = s.pending :=
  keep_pairWrite (closed_pending _) raiseSet_true trivial rfl
@[simp] theorem loWriteReg_pending {x1 x2 x3 x4 x5 s} : (loWriteReg x1 x2 x3 x4 x5 s).pending = s.pending :=
  keep_loWriteReg (closed_pending _) trivial rfl
@[simp] theorem hiWriteReg_pending {x1 x2 x3 x4 x5 s} : (hiWriteReg x1 x2 x3 x4 x5 s).pending = s.pending :=
  keep_hiWriteReg (closed_pending _) raiseSet_true trivial trivial trivial trivial trivial trivial
    trivial trivial trivial trivial trivial trivial trivial trivial rfl
@[simp] theorem writeReg_pending {x1 x2 x3 x4 x5 s} : (writeReg x1 x2 x3 x4 x5 s).pending = s.pending :=
  keep_writeReg (closed_pending _) raiseSet_true trivial trivial trivial trivial trivial trivial
    trivial trivial trivial trivial trivial trivial trivial trivial rfl
@[simp] theorem regWrite_pending {x1 x2 x3 s} : (regWrite x1 x2 x3 s).2.pending = s.pending :=
  keep_regWrite (closed_pending _) raiseSet_true trivial trivial trivial trivial trivial trivial
    trivial trivial trivial trivial trivial trivial trivial trivial rfl
@[simp] theorem pageWrite_pending {x1 x2 x3 s} : (pageWrite x1 x2 x3 s).pending = s.pending :=
  keep_pageWrite (closed_pending _) raiseSet_true trivial trivial trivial trivial trivial trivial
    trivial trivial trivial trivial trivial trivial trivial trivial rfl
@[simp] theorem readBlock_pending {x1 x2 x3 s} : (readBlock x1 x2 x3 s).2.pending = s.pending :=
  keep_readBlock (closed_pending _) raiseSet_true trivial rfl
@[simp] theorem doRead_pending {x1 x2 s} : (doRead x1 x2 s).2.pending = s.pending :=
  keep_doRead (closed_pending _) raiseSet_true trivial rfl
@[simp] theorem doWrite_pending {x1 x2 s} : (doWrite x1 x2 s).2.pending = s.pending :=
  keep_doWrite (closed_pending _) raiseSet_true trivial trivial trivial trivial trivial trivial
    trivial trivial trivial trivial trivial trivial trivial trivial rfl
@[simp] theorem doRmw_pending {x1 x2 s} : (doRmw x1 x2 s).2.pending = s.pending :=
  keep_doRmw (closed_pending _) raiseSet_true trivial trivial trivial trivial trivial trivial trivial
    trivial trivial trivial trivial trivial trivial trivial rfl
@[simp] theorem doBlock_pending {x1 x2 s} : (doBlock x1 x2 s).2.pending = s.pending :=
  keep_doBlock (closed_pending _) raiseSet_true trivial rfl
@[simp] theorem doOp_pending {x1 x2 s} : (doOp x1 x2 s).2.pending = s.pending :=
  keep_doOp (closed_pending _) raiseSet_true trivial trivial trivial trivial trivial trivial trivial
    trivial trivial trivial trivial trivial trivial trivial rfl
@[simp] theorem noteStatus_pending {x1 x2 s} : (noteStatus x1 x2 s).pending = s.pending :=
  keep_noteStatus (closed_pending _) trivial rfl
@[simp] theorem reply_pending {x1 x2 x3 s} : (reply x1 x2 x3 s).pending = s.pending :=
  keep_reply (closed_pending _) raiseSet_true rfl
@[simp] theorem syncSource_pending {x1 x2 s} : (syncSource x1 x2 s).pending = s.pending :=
  keep_syncSource (closed_pending _) raiseSet_true rfl
@[simp] theorem storeReply_pending {x1 x2 x3 s} : (storeReply x1 x2 x3 s).pending = s.pending :=
  keep_storeReply (closed_pending _) trivial rfl
@[simp] theorem performSource_pending {x1 x2 s} : (performSource x1 x2 s).pending = s.pending :=
  keep_performSource (closed_pending _) raiseSet_true trivial trivial trivial trivial trivial trivial
    trivial trivial trivial trivial trivial trivial trivial trivial rfl
@[simp] theorem sequenced_pending {x1 x2 s} : (sequenced x1 x2 s).pending = s.pending :=
  keep_sequenced (closed_pending _) raiseSet_true trivial trivial trivial trivial trivial trivial
    trivial trivial trivial trivial trivial trivial trivial trivial rfl
@[simp] theorem acceptedFrame_pending {x1 x2 s} : (acceptedFrame x1 x2 s).pending = s.pending :=
  keep_acceptedFrame (closed_pending _) raiseSet_true trivial trivial trivial trivial trivial trivial
    trivial trivial trivial trivial trivial trivial trivial trivial rfl
@[simp] theorem takeFrame_pending {x1 s} : (takeFrame x1 s).pending = s.pending :=
  keep_takeFrame (closed_pending _) raiseSet_true trivial trivial trivial trivial trivial trivial
    trivial trivial trivial trivial trivial trivial trivial trivial rfl
@[simp] theorem frameOp_pending {x1 x2 x3 s} : (frameOp x1 x2 x3 s).pending = s.pending :=
  keep_frameOp (closed_pending _) raiseSet_true trivial trivial trivial trivial trivial trivial
    trivial trivial trivial trivial trivial trivial trivial trivial rfl
@[simp] theorem sidebandTaken_pending {x1 s} : (sidebandTaken x1 s).pending = s.pending :=
  keep_sidebandTaken (closed_pending _) raiseSet_true trivial trivial trivial trivial trivial trivial
    trivial trivial trivial trivial trivial trivial trivial trivial rfl
@[simp] theorem sidebandFrame_pending {x1 s} : (sidebandFrame x1 s).pending = s.pending :=
  keep_sidebandFrame (closed_pending _) raiseSet_true trivial trivial trivial trivial trivial trivial
    trivial trivial trivial trivial trivial trivial trivial trivial rfl
@[simp] theorem sidebandMsg_pending {x1 s} : (sidebandMsg x1 s).pending = s.pending :=
  keep_sidebandMsg (closed_pending _) raiseSet_true trivial trivial trivial trivial trivial trivial
    trivial trivial trivial trivial trivial trivial trivial trivial rfl

@[simp] theorem onlyIf_pending {p : Bool} {t s : State} (h : t.pending = s.pending) : (onlyIf p t s).pending = s.pending := by
  unfold onlyIf
  split
  · exact h
  · rfl

end Sys2Proof.Machine
end

