-- ==== Sys2Proof/Laws/Exec.lean ====
section
/-! SUPPORT. What `exec` answers for each command that is fit: its effect on everything but the queue, which stays. -/

namespace Sys2Proof.Machine

open Sys2Proof

theorem exec_registerWrite (src : Src) (addr value : Word) (s : State)
    (h : fit (.registerWrite src addr value) s = true) :
    exec (.registerWrite src addr value) s = .next ((regWrite src addr value s).2) :=
  answer_eq h (by simp)

theorem exec_w1cClear (src : Src) (addr value : Word) (s : State)
    (h : fit (.w1cClear src addr value) s = true) :
    exec (.w1cClear src addr value) s = .next ((regWrite src addr value s).2) :=
  answer_eq h (by simp)

theorem exec_readClear (src : Src) (addr : Word) (s : State)
    (h : fit (.readClear src addr) s = true) :
    exec (.readClear src addr) s = .next ((regRead src addr s).2.2) :=
  answer_eq h (by simp)

theorem exec_loRead (src : Src) (addr : Word) (s : State)
    (h : fit (.loRead src addr) s = true) :
    exec (.loRead src addr) s = .next ((regRead src addr s).2.2) :=
  answer_eq h (by simp)

theorem exec_loWrite (src : Src) (addr value : Word) (s : State)
    (h : fit (.loWrite src addr value) s = true) :
    exec (.loWrite src addr value) s = .next ((regWrite src addr value s).2) :=
  answer_eq h (by simp)

theorem exec_hiWrite (src : Src) (addr value : Word) (s : State)
    (h : fit (.hiWrite src addr value) s = true) :
    exec (.hiWrite src addr value) s = .next ((regWrite src addr value s).2) :=
  answer_eq h (by simp)

theorem exec_pageFreeze (src : Src) (page : Page) (value : Word) (s : State)
    (h : fit (.pageFreeze src page value) s = true) :
    exec (.pageFreeze src page value) s = .next (pageWrite src page value s) :=
  answer_eq h (by simp)

theorem exec_pageEnable (src : Src) (page : Page) (value : Word) (s : State)
    (h : fit (.pageEnable src page value) s = true) :
    exec (.pageEnable src page value) s = .next (pageWrite src page value s) :=
  answer_eq h (by simp)

theorem exec_coldBringup (b : Bringup) (s : State)
    (h : (Instr.coldBringup b).wf = true) :
    exec (.coldBringup b) s = .next (coldBringup b s) :=
  answer_eq (fit_event h rfl) (by simp)

theorem exec_coldReset (powerFell : Bool) (s : State)
    (h : (Instr.coldReset powerFell).wf = true) :
    exec (.coldReset powerFell) s = .next (coldReset s) :=
  answer_eq (fit_event h rfl) (by simp)

theorem exec_railFault (rail : Nat) (s : State)
    (h : (Instr.railFault rail).wf = true) :
    exec (.railFault rail) s = .next (railFault rail s) :=
  answer_eq (fit_event h rfl) (by simp)

theorem exec_warmReset (cause : WarmCause) (b : Bringup) (s : State)
    (h : (Instr.warmReset cause b).wf = true) :
    exec (.warmReset cause b) s = .next (warmReset cause b s) :=
  answer_eq (fit_event h rfl) (by simp)

theorem exec_watchdogExpiry (s : State)
    (h : (Instr.watchdogExpiry).wf = true) :
    exec (.watchdogExpiry) s = .next (watchdogExpiry s) :=
  answer_eq (fit_event h rfl) (by simp)

theorem exec_thermalSample (t : Thermal) (s : State)
    (h : (Instr.thermalSample t).wf = true) :
    exec (.thermalSample t) s = .next (thermalSample t s) :=
  answer_eq (fit_event h rfl) (by simp)

theorem exec_defectLogWrite (core : PhysCore) (flashOk : Bool) (s : State)
    (h : (Instr.defectLogWrite core flashOk).wf = true) :
    exec (.defectLogWrite core flashOk) s = .next (defectLogWrite core flashOk s) :=
  answer_eq (fit_event h rfl) (by simp)

theorem exec_tickBoundary (m : Measured) (s : State)
    (h : (Instr.tickBoundary m).wf = true) :
    exec (.tickBoundary m) s = .next (tickBoundary m s) :=
  answer_eq (fit_event h rfl) (by simp)

theorem exec_frameBoundary (s : State)
    (h : (Instr.frameBoundary).wf = true) :
    exec (.frameBoundary) s = .next (frameBoundary s) :=
  answer_eq (fit_event h rfl) (by simp)

theorem exec_tickStart (src : Src) (value : Word) (s : State)
    (h : fit (.tickStart src value) s = true) :
    exec (.tickStart src value) s = .next (tickStart value s) :=
  answer_eq h (by simp)

theorem exec_tickMarker (dt : Nat) (m : Marker) (s : State)
    (h : (Instr.tickMarker dt m).wf = true) :
    exec (.tickMarker dt m) s = .next (tickMarker m (elapse dt s)) :=
  answer_eq (fit_event h rfl) (by simp)

theorem exec_holdoverExceeded (s : State)
    (h : (Instr.holdoverExceeded).wf = true) :
    exec (.holdoverExceeded) s = .next (holdoverExceeded s) :=
  answer_eq (fit_event h rfl) (by simp)

theorem exec_fclkLock (dt : Nat) (s : State)
    (h : (Instr.fclkLock dt).wf = true) :
    exec (.fclkLock dt) s = .next (fclkLock (elapse dt s)) :=
  answer_eq (fit_event h rfl) (by simp)

theorem exec_load (src : CrestCmd) (s : State)
    (h : fit (.load src) s = true) :
    exec (.load src) s = .next (schedLoad src.errs s) :=
  answer_eq h (by simp)

theorem exec_verifyDone (s : State)
    (h : (Instr.verifyDone).wf = true) :
    exec (.verifyDone) s = .next (verifyDone s) :=
  answer_eq (fit_event h rfl) (by simp)

theorem exec_arm (src : Src) (s : State)
    (h : fit (.arm src) s = true) :
    exec (.arm src) s = .next (schedArm s) :=
  answer_eq h (by simp)

theorem exec_abort (src : Src) (s : State)
    (h : fit (.abort src) s = true) :
    exec (.abort src) s = .next (schedAbort s) :=
  answer_eq h (by simp)

theorem exec_shadowReady (s : State)
    (h : (Instr.shadowReady).wf = true) :
    exec (.shadowReady) s = .next (shadowDone s) :=
  answer_eq (fit_event h rfl) (by simp)

theorem exec_imageActivation (s : State)
    (h : (Instr.imageActivation).wf = true) :
    exec (.imageActivation) s = .next (imageActivation s) :=
  answer_eq (fit_event h rfl) (by simp)

theorem exec_nop (dt core : Nat) (st : Stream) (ecc : Ecc) (s : State)
    (h : (Instr.nop dt core st ecc).wf = true) :
    exec (.nop dt core st ecc) s = .next (issue 0 0 core st ecc (elapse dt s)) :=
  answer_eq (fit_event h rfl) (by simp)

theorem exec_fend (dt core : Nat) (st : Stream) (ecc : Ecc) (s : State)
    (h : (Instr.fend dt core st ecc).wf = true) :
    exec (.fend dt core st ecc) s = .next (issue 0 1 core st ecc (elapse dt s)) :=
  answer_eq (fit_event h rfl) (by simp)

theorem exec_jump (dt core : Nat) (st : Stream) (ecc : Ecc) (s : State)
    (h : (Instr.jump dt core st ecc).wf = true) :
    exec (.jump dt core st ecc) s = .next (issue 0 2 core st ecc (elapse dt s)) :=
  answer_eq (fit_event h rfl) (by simp)

theorem exec_loop (dt core : Nat) (st : Stream) (ecc : Ecc) (s : State)
    (h : (Instr.loop dt core st ecc).wf = true) :
    exec (.loop dt core st ecc) s = .next (issue 0 3 core st ecc (elapse dt s)) :=
  answer_eq (fit_event h rfl) (by simp)

theorem exec_mask (dt core : Nat) (st : Stream) (ecc : Ecc) (s : State)
    (h : (Instr.mask dt core st ecc).wf = true) :
    exec (.mask dt core st ecc) s = .next (issue 0 4 core st ecc (elapse dt s)) :=
  answer_eq (fit_event h rfl) (by simp)

theorem exec_ctok (dt core : Nat) (st : Stream) (ecc : Ecc) (s : State)
    (h : (Instr.ctok dt core st ecc).wf = true) :
    exec (.ctok dt core st ecc) s = .next (issue 0 5 core st ecc (elapse dt s)) :=
  answer_eq (fit_event h rfl) (by simp)

theorem exec_mma (dt core : Nat) (st : Stream) (ecc : Ecc) (s : State)
    (h : (Instr.mma dt core st ecc).wf = true) :
    exec (.mma dt core st ecc) s = .next (issue 1 0 core st ecc (elapse dt s)) :=
  answer_eq (fit_event h rfl) (by simp)

theorem exec_mmaBegin (dt core : Nat) (eccs : List Ecc) (s : State)
    (h : (Instr.mmaBegin dt core eccs).wf = true) :
    exec (.mmaBegin dt core eccs) s = .next (mmaBegin core eccs (elapse dt s)) :=
  answer_eq (fit_event h rfl) (by simp)

theorem exec_mmaComplete (core : Nat) (bank : BankEvents) (s : State)
    (h : (Instr.mmaComplete core bank).wf = true) :
    exec (.mmaComplete core bank) s = .next (mmaComplete core bank s) :=
  answer_eq (fit_event h rfl) (by simp)

theorem exec_add (dt core : Nat) (st : Stream) (ecc : Ecc) (s : State)
    (h : (Instr.add dt core st ecc).wf = true) :
    exec (.add dt core st ecc) s = .next (issue 2 0x00 core st ecc (elapse dt s)) :=
  answer_eq (fit_event h rfl) (by simp)

theorem exec_sub (dt core : Nat) (st : Stream) (ecc : Ecc) (s : State)
    (h : (Instr.sub dt core st ecc).wf = true) :
    exec (.sub dt core st ecc) s = .next (issue 2 0x01 core st ecc (elapse dt s)) :=
  answer_eq (fit_event h rfl) (by simp)

theorem exec_mul (dt core : Nat) (st : Stream) (ecc : Ecc) (s : State)
    (h : (Instr.mul dt core st ecc).wf = true) :
    exec (.mul dt core st ecc) s = .next (issue 2 0x02 core st ecc (elapse dt s)) :=
  answer_eq (fit_event h rfl) (by simp)

theorem exec_max (dt core : Nat) (st : Stream) (ecc : Ecc) (s : State)
    (h : (Instr.max dt core st ecc).wf = true) :
    exec (.max dt core st ecc) s = .next (issue 2 0x03 core st ecc (elapse dt s)) :=
  answer_eq (fit_event h rfl) (by simp)

theorem exec_min (dt core : Nat) (st : Stream) (ecc : Ecc) (s : State)
    (h : (Instr.min dt core st ecc).wf = true) :
    exec (.min dt core st ecc) s = .next (issue 2 0x04 core st ecc (elapse dt s)) :=
  answer_eq (fit_event h rfl) (by simp)

theorem exec_fma (dt core : Nat) (st : Stream) (ecc : Ecc) (s : State)
    (h : (Instr.fma dt core st ecc).wf = true) :
    exec (.fma dt core st ecc) s = .next (issue 2 0x05 core st ecc (elapse dt s)) :=
  answer_eq (fit_event h rfl) (by simp)

theorem exec_scl (dt core : Nat) (st : Stream) (ecc : Ecc) (s : State)
    (h : (Instr.scl dt core st ecc).wf = true) :
    exec (.scl dt core st ecc) s = .next (issue 2 0x06 core st ecc (elapse dt s)) :=
  answer_eq (fit_event h rfl) (by simp)

theorem exec_cvt (dt core : Nat) (st : Stream) (ecc : Ecc) (s : State)
    (h : (Instr.cvt dt core st ecc).wf = true) :
    exec (.cvt dt core st ecc) s = .next (issue 2 0x08 core st ecc (elapse dt s)) :=
  answer_eq (fit_event h rfl) (by simp)

theorem exec_exp (dt core : Nat) (st : Stream) (ecc : Ecc) (s : State)
    (h : (Instr.exp dt core st ecc).wf = true) :
    exec (.exp dt core st ecc) s = .next (issue 2 0x09 core st ecc (elapse dt s)) :=
  answer_eq (fit_event h rfl) (by simp)

theorem exec_log (dt core : Nat) (st : Stream) (ecc : Ecc) (s : State)
    (h : (Instr.log dt core st ecc).wf = true) :
    exec (.log dt core st ecc) s = .next (issue 2 0x0A core st ecc (elapse dt s)) :=
  answer_eq (fit_event h rfl) (by simp)

theorem exec_rsqrt (dt core : Nat) (st : Stream) (ecc : Ecc) (s : State)
    (h : (Instr.rsqrt dt core st ecc).wf = true) :
    exec (.rsqrt dt core st ecc) s = .next (issue 2 0x0B core st ecc (elapse dt s)) :=
  answer_eq (fit_event h rfl) (by simp)

theorem exec_recip (dt core : Nat) (st : Stream) (ecc : Ecc) (s : State)
    (h : (Instr.recip dt core st ecc).wf = true) :
    exec (.recip dt core st ecc) s = .next (issue 2 0x0C core st ecc (elapse dt s)) :=
  answer_eq (fit_event h rfl) (by simp)

theorem exec_tanh (dt core : Nat) (st : Stream) (ecc : Ecc) (s : State)
    (h : (Instr.tanh dt core st ecc).wf = true) :
    exec (.tanh dt core st ecc) s = .next (issue 2 0x0D core st ecc (elapse dt s)) :=
  answer_eq (fit_event h rfl) (by simp)

theorem exec_sigmoid (dt core : Nat) (st : Stream) (ecc : Ecc) (s : State)
    (h : (Instr.sigmoid dt core st ecc).wf = true) :
    exec (.sigmoid dt core st ecc) s = .next (issue 2 0x0E core st ecc (elapse dt s)) :=
  answer_eq (fit_event h rfl) (by simp)

theorem exec_rsum (dt core : Nat) (st : Stream) (ecc : Ecc) (s : State)
    (h : (Instr.rsum dt core st ecc).wf = true) :
    exec (.rsum dt core st ecc) s = .next (issue 2 0x10 core st ecc (elapse dt s)) :=
  answer_eq (fit_event h rfl) (by simp)

theorem exec_rmax (dt core : Nat) (st : Stream) (ecc : Ecc) (s : State)
    (h : (Instr.rmax dt core st ecc).wf = true) :
    exec (.rmax dt core st ecc) s = .next (issue 2 0x11 core st ecc (elapse dt s)) :=
  answer_eq (fit_event h rfl) (by simp)

theorem exec_ucall (dt core : Nat) (st : Stream) (ecc : Ecc) (s : State)
    (h : (Instr.ucall dt core st ecc).wf = true) :
    exec (.ucall dt core st ecc) s = .next (issue 2 0x20 core st ecc (elapse dt s)) :=
  answer_eq (fit_event h rfl) (by simp)

theorem exec_qcrumb (dt core : Nat) (st : Stream) (ecc : Ecc) (s : State)
    (h : (Instr.qcrumb dt core st ecc).wf = true) :
    exec (.qcrumb dt core st ecc) s = .next (issue 2 0x21 core st ecc (elapse dt s)) :=
  answer_eq (fit_event h rfl) (by simp)

theorem exec_vecBegin (dt core : Nat) (eccs : List Ecc) (s : State)
    (h : (Instr.vecBegin dt core eccs).wf = true) :
    exec (.vecBegin dt core eccs) s = .next (vecBegin core eccs (elapse dt s)) :=
  answer_eq (fit_event h rfl) (by simp)

theorem exec_vecComplete (core : Nat) (bank : BankEvents) (s : State)
    (h : (Instr.vecComplete core bank).wf = true) :
    exec (.vecComplete core bank) s = .next (vecComplete core bank s) :=
  answer_eq (fit_event h rfl) (by simp)

theorem exec_send (dt core : Nat) (st : Stream) (ecc : Ecc) (s : State)
    (h : (Instr.send dt core st ecc).wf = true) :
    exec (.send dt core st ecc) s = .next (issue 3 0 core st ecc (elapse dt s)) :=
  answer_eq (fit_event h rfl) (by simp)

theorem exec_recv (dt core : Nat) (st : Stream) (ecc : Ecc) (s : State)
    (h : (Instr.recv dt core st ecc).wf = true) :
    exec (.recv dt core st ecc) s = .next (issue 3 1 core st ecc (elapse dt s)) :=
  answer_eq (fit_event h rfl) (by simp)

theorem exec_hrd (dt core : Nat) (st : Stream) (ecc : Ecc) (s : State)
    (h : (Instr.hrd dt core st ecc).wf = true) :
    exec (.hrd dt core st ecc) s = .next (issue 3 2 core st ecc (elapse dt s)) :=
  answer_eq (fit_event h rfl) (by simp)

theorem exec_hwr (dt core : Nat) (st : Stream) (ecc : Ecc) (s : State)
    (h : (Instr.hwr dt core st ecc).wf = true) :
    exec (.hwr dt core st ecc) s = .next (issue 3 3 core st ecc (elapse dt s)) :=
  answer_eq (fit_event h rfl) (by simp)

theorem exec_ssend (dt core : Nat) (st : Stream) (ecc : Ecc) (s : State)
    (h : (Instr.ssend dt core st ecc).wf = true) :
    exec (.ssend dt core st ecc) s = .next (issue 3 4 core st ecc (elapse dt s)) :=
  answer_eq (fit_event h rfl) (by simp)

theorem exec_srecv (dt core : Nat) (st : Stream) (ecc : Ecc) (s : State)
    (h : (Instr.srecv dt core st ecc).wf = true) :
    exec (.srecv dt core st ecc) s = .next (issue 3 5 core st ecc (elapse dt s)) :=
  answer_eq (fit_event h rfl) (by simp)

theorem exec_movBegin (dt core : Nat) (chk : MovChecks) (s : State)
    (h : (Instr.movBegin dt core chk).wf = true) :
    exec (.movBegin dt core chk) s = .next (movBegin core chk (elapse dt s)) :=
  answer_eq (fit_event h rfl) (by simp)

theorem exec_sendComplete (dt core : Nat) (plane : Nat) (ecc : Ecc) (bank : BankEvents) (s : State)
    (h : (Instr.sendComplete dt core plane ecc bank).wf = true) :
    exec (.sendComplete dt core plane ecc bank) s = .next (sendComplete core plane ecc bank (elapse dt s)) :=
  answer_eq (fit_event h rfl) (by simp)

theorem exec_recvComplete (dt core : Nat) (plane : Nat) (bank : BankEvents) (s : State)
    (h : (Instr.recvComplete dt core plane bank).wf = true) :
    exec (.recvComplete dt core plane bank) s = .next (recvComplete core plane bank (elapse dt s)) :=
  answer_eq (fit_event h rfl) (by simp)

theorem exec_hrdComplete (core : Nat) (eccs : List Ecc) (bank : BankEvents) (s : State)
    (h : (Instr.hrdComplete core eccs bank).wf = true) :
    exec (.hrdComplete core eccs bank) s = .next (hrdComplete core eccs bank s) :=
  answer_eq (fit_event h rfl) (by simp)

theorem exec_hwrComplete (core : Nat) (eccs port : List Ecc) (s : State)
    (h : (Instr.hwrComplete core eccs port).wf = true) :
    exec (.hwrComplete core eccs port) s = .next (hwrComplete core eccs port s) :=
  answer_eq (fit_event h rfl) (by simp)

theorem exec_li (dt core : Nat) (st : Stream) (ecc : Ecc) (s : State)
    (h : (Instr.li dt core st ecc).wf = true) :
    exec (.li dt core st ecc) s = .next (issue 4 0 core st ecc (elapse dt s)) :=
  answer_eq (fit_event h rfl) (by simp)

theorem exec_addi (dt core : Nat) (st : Stream) (ecc : Ecc) (s : State)
    (h : (Instr.addi dt core st ecc).wf = true) :
    exec (.addi dt core st ecc) s = .next (issue 4 1 core st ecc (elapse dt s)) :=
  answer_eq (fit_event h rfl) (by simp)

theorem exec_tdb (dt core : Nat) (st : Stream) (ecc : Ecc) (s : State)
    (h : (Instr.tdb dt core st ecc).wf = true) :
    exec (.tdb dt core st ecc) s = .next (issue 4 2 core st ecc (elapse dt s)) :=
  answer_eq (fit_event h rfl) (by simp)

theorem exec_tagSet (dt core : Nat) (st : Stream) (ecc : Ecc) (s : State)
    (h : (Instr.tagSet dt core st ecc).wf = true) :
    exec (.tagSet dt core st ecc) s = .next (issue 5 0 core st ecc (elapse dt s)) :=
  answer_eq (fit_event h rfl) (by simp)

theorem exec_tagClr (dt core : Nat) (st : Stream) (ecc : Ecc) (s : State)
    (h : (Instr.tagClr dt core st ecc).wf = true) :
    exec (.tagClr dt core st ecc) s = .next (issue 5 1 core st ecc (elapse dt s)) :=
  answer_eq (fit_event h rfl) (by simp)

theorem exec_vread (dt core : Nat) (st : Stream) (ecc : Ecc) (s : State)
    (h : (Instr.vread dt core st ecc).wf = true) :
    exec (.vread dt core st ecc) s = .next (issue 6 0 core st ecc (elapse dt s)) :=
  answer_eq (fit_event h rfl) (by simp)

theorem exec_vdone (dt core : Nat) (st : Stream) (ecc : Ecc) (s : State)
    (h : (Instr.vdone dt core st ecc).wf = true) :
    exec (.vdone dt core st ecc) s = .next (issue 6 1 core st ecc (elapse dt s)) :=
  answer_eq (fit_event h rfl) (by simp)

theorem exec_vpub (dt core : Nat) (st : Stream) (ecc : Ecc) (s : State)
    (h : (Instr.vpub dt core st ecc).wf = true) :
    exec (.vpub dt core st ecc) s = .next (issue 6 2 core st ecc (elapse dt s)) :=
  answer_eq (fit_event h rfl) (by simp)

theorem exec_notReady (core : Nat) (st : Stream) (s : State)
    (h : (Instr.notReady core st).wf = true) :
    exec (.notReady core st) s = .next (notReady core st s) :=
  answer_eq (fit_event h rfl) (by simp)

theorem exec_coreSramDataRead (src : Src) (core : Nat) (ecc : Ecc) (s : State)
    (h : fit (.coreSramDataRead src core ecc) s = true) :
    exec (.coreSramDataRead src core ecc) s = .next ((sramDataRead core ecc s).2) :=
  answer_eq h (by simp)

theorem exec_coreSramDataWrite (src : Src) (core : Nat) (value : Word) (s : State)
    (h : fit (.coreSramDataWrite src core value) s = true) :
    exec (.coreSramDataWrite src core value) s = .next (if coreOff s core then s else sramDataWrite core value s) :=
  answer_eq h (by split <;> simp)

theorem exec_nummonClear (src : Src) (slot : Nat) (s : State)
    (h : fit (.nummonClear src slot) s = true) :
    exec (.nummonClear src slot) s = .next (nummonCtl slot 1 s) :=
  answer_eq h (by simp)

theorem exec_flitForward (dt core : Nat) (ch : Chan) (inp : Port) (s : State)
    (h : (Instr.flitForward dt core ch inp).wf = true) :
    exec (.flitForward dt core ch inp) s = .next (flitForward core ch inp (elapse dt s)) :=
  answer_eq (fit_event h rfl) (by simp)

theorem exec_flitArrive (dt core : Nat) (ch : Chan) (inp : Port) (ecc : Ecc) (s : State)
    (h : (Instr.flitArrive dt core ch inp ecc).wf = true) :
    exec (.flitArrive dt core ch inp ecc) s = .next (flitArrive core ch inp ecc (elapse dt s)) :=
  answer_eq (fit_event h rfl) (by simp)

theorem exec_creditReturn (dt core : Nat) (ch : Chan) (outp : Port) (s : State)
    (h : (Instr.creditReturn dt core ch outp).wf = true) :
    exec (.creditReturn dt core ch outp) s = .next (creditReturn core ch outp (elapse dt s)) :=
  answer_eq (fit_event h rfl) (by simp)

theorem exec_flitLand (dt core : Nat) (ch : Chan) (s : State)
    (h : (Instr.flitLand dt core ch).wf = true) :
    exec (.flitLand dt core ch) s = .next (flitLand core ch (elapse dt s)) :=
  answer_eq (fit_event h rfl) (by simp)

theorem exec_tokenArrive (dt core : Nat) (unit : Nat) (s : State)
    (h : (Instr.tokenArrive dt core unit).wf = true) :
    exec (.tokenArrive dt core unit) s = .next (tokenArrive core unit (elapse dt s)) :=
  answer_eq (fit_event h rfl) (by simp)

theorem exec_sealArrive (dt core : Nat) (ch : Chan) (a : SealIn) (s : State)
    (h : (Instr.sealArrive dt core ch a).wf = true) :
    exec (.sealArrive dt core ch a) s = .next (sealArrive core ch a (elapse dt s)) :=
  answer_eq (fit_event h rfl) (by simp)

theorem exec_spillModeRequest (src : Src) (core : Nat) (s : State)
    (h : fit (.spillModeRequest src core) s = true) :
    exec (.spillModeRequest src core) s = .next (if coreOff s core then s else spillRequest core s) :=
  answer_eq h (by split <;> simp)

theorem exec_spillModeExit (src : Src) (core : Nat) (s : State)
    (h : fit (.spillModeExit src core) s = true) :
    exec (.spillModeExit src core) s = .next (if coreOff s core then s else spillLeave core s) :=
  answer_eq h (by split <;> simp)

theorem exec_deadlockDetect (core : SpillCore) (s : State)
    (h : (Instr.deadlockDetect core).wf = true) :
    exec (.deadlockDetect core) s = .next (deadlockDetect core.core core.eccs core.bank s) :=
  answer_eq (fit_event h rfl) (by simp)

theorem exec_spillAreaClear (src : Src) (core : Nat) (s : State)
    (h : fit (.spillAreaClear src core) s = true) :
    exec (.spillAreaClear src core) s = .next (if coreOff s core then s else areaClear core s) :=
  answer_eq h (by split <;> simp)

theorem exec_reduceDescriptor (dt col engine : Nat) (inp : EngIn) (s : State)
    (h : (Instr.reduceDescriptor dt col engine inp).wf = true) :
    exec (.reduceDescriptor dt col engine inp) s = .next (reduceDescriptor col engine inp (elapse dt s)) :=
  answer_eq (fit_event h rfl) (by simp)

theorem exec_reduceContribution (dt col engine : Nat) (inp : EngIn) (s : State)
    (h : (Instr.reduceContribution dt col engine inp).wf = true) :
    exec (.reduceContribution dt col engine inp) s = .next (reduceContribution col engine inp (elapse dt s)) :=
  answer_eq (fit_event h rfl) (by simp)

theorem exec_reduceUnitDeliver (dt col engine slot unit : Nat) (s : State)
    (h : (Instr.reduceUnitDeliver dt col engine slot unit).wf = true) :
    exec (.reduceUnitDeliver dt col engine slot unit) s = .next (unitDeliver col engine slot unit (elapse dt s)) :=
  answer_eq (fit_event h rfl) (by simp)

theorem exec_moveIssue (cirque index : Nat) (s : State)
    (h : (Instr.moveIssue cirque index).wf = true) :
    exec (.moveIssue cirque index) s = .next (moveIssue cirque index s) :=
  answer_eq (fit_event h rfl) (by simp)

theorem exec_moveLineLand (dt cirque : Nat) (mv : MoveRef) (line : Nat) (errs : LineErrs) (s : State)
    (h : (Instr.moveLineLand dt cirque mv line errs).wf = true) :
    exec (.moveLineLand dt cirque mv line errs) s = .next (moveLine cirque mv line errs.syms errs.bridge (elapse dt s)) :=
  answer_eq (fit_event h rfl) (by simp)

theorem exec_moveComplete (dt cirque : Nat) (mv : Nat) (s : State)
    (h : (Instr.moveComplete dt cirque mv).wf = true) :
    exec (.moveComplete dt cirque mv) s = .next (moveComplete cirque mv (elapse dt s)) :=
  answer_eq (fit_event h rfl) (by simp)

theorem exec_deadlineMiss (cirque : Nat) (mv : Nat) (s : State)
    (h : (Instr.deadlineMiss cirque mv).wf = true) :
    exec (.deadlineMiss cirque mv) s = .next (deadlineMiss cirque mv s) :=
  answer_eq (fit_event h rfl) (by simp)

theorem exec_manualMove (src : Src) (cirque : Nat) (value : Word) (s : State)
    (h : fit (.manualMove src cirque value) s = true) :
    exec (.manualMove src cirque value) s = .next (manualMove cirque value s) :=
  answer_eq h (by simp)

theorem exec_manualMoveComplete (dt cirque : Nat) (s : State)
    (h : (Instr.manualMoveComplete dt cirque).wf = true) :
    exec (.manualMoveComplete dt cirque) s = .next (completeMove cirque .manual (elapse dt s)) :=
  answer_eq (fit_event h rfl) (by simp)

theorem exec_windowWrite (src : Src) (window : Nat) (reg : WinReg) (value : Word) (s : State)
    (h : fit (.windowWrite src window reg value) s = true) :
    exec (.windowWrite src window reg value) s = .next (windowWrite window reg value s) :=
  answer_eq h (by simp)

theorem exec_moveEngineReset (src : Src) (cirque : Nat) (s : State)
    (h : fit (.moveEngineReset src cirque) s = true) :
    exec (.moveEngineReset src cirque) s = .next (engineReset cirque s) :=
  answer_eq h (by simp)

theorem exec_scrubLine (dt stack line : Nat) (errs : SymErrs) (s : State)
    (h : (Instr.scrubLine dt stack line errs).wf = true) :
    exec (.scrubLine dt stack line errs) s = .next (scrubLine stack line errs (elapse dt s)) :=
  answer_eq (fit_event h rfl) (by simp)

theorem exec_keyLoad (src : Src) (slot : Nat) (s : State)
    (h : fit (.keyLoad src slot) s = true) :
    exec (.keyLoad src slot) s = .next (keyLoad slot s) :=
  answer_eq h (by simp)

theorem exec_keySwitch (src : Src) (slot : Nat) (s : State)
    (h : fit (.keySwitch src slot) s = true) :
    exec (.keySwitch src slot) s = .next (keySwitch slot s) :=
  answer_eq h (by simp)

theorem exec_keySweep (src : Src) (slot : Nat) (s : State)
    (h : fit (.keySweep src slot) s = true) :
    exec (.keySweep src slot) s = .next (keySweep slot s) :=
  answer_eq h (by simp)

theorem exec_keyClear (src : Src) (slot : Nat) (s : State)
    (h : fit (.keyClear src slot) s = true) :
    exec (.keyClear src slot) s = .next (keyClear slot s) :=
  answer_eq h (by simp)

theorem exec_sweepLine (dt slot stack line : Nat) (errs : SymErrs) (s : State)
    (h : (Instr.sweepLine dt slot stack line errs).wf = true) :
    exec (.sweepLine dt slot stack line errs) s = .next (sweepLine slot stack line errs (elapse dt s)) :=
  answer_eq (fit_event h rfl) (by simp)

theorem exec_sweepFinish (dt slot : Nat) (s : State)
    (h : (Instr.sweepFinish dt slot).wf = true) :
    exec (.sweepFinish dt slot) s = .next (sweepFinish slot (elapse dt s)) :=
  answer_eq (fit_event h rfl) (by simp)

theorem exec_keyErase (dt slot : Nat) (s : State)
    (h : (Instr.keyErase dt slot).wf = true) :
    exec (.keyErase dt slot) s = .next (keyErase slot (elapse dt s)) :=
  answer_eq (fit_event h rfl) (by simp)

theorem exec_colTake (dt core : Nat) (ch : Chan) (s : State)
    (h : (Instr.colTake dt core ch).wf = true) :
    exec (.colTake dt core ch) s = .next (colTake core ch (elapse dt s)) :=
  answer_eq (fit_event h rfl) (by simp)

theorem exec_linkFrameLaunch (dt link : Nat) (s : State)
    (h : (Instr.linkFrameLaunch dt link).wf = true) :
    exec (.linkFrameLaunch dt link) s = .next (frameLaunch link (elapse dt s)) :=
  answer_eq (fit_event h rfl) (by simp)

theorem exec_linkFrameVerdict (dt link : Nat) (frame : LinkFrame) (fec : Fec) (s : State)
    (h : (Instr.linkFrameVerdict dt link frame fec).wf = true) :
    exec (.linkFrameVerdict dt link frame fec) s = .next (frameVerdict link frame fec (elapse dt s)) :=
  answer_eq (fit_event h rfl) (by simp)

theorem exec_replayRelaunch (dt link : Nat) (s : State)
    (h : (Instr.replayRelaunch dt link).wf = true) :
    exec (.replayRelaunch dt link) s = .next (relaunch link (elapse dt s)) :=
  answer_eq (fit_event h rfl) (by simp)

theorem exec_linkSlotDeliver (dt link : Nat) (s : State)
    (h : (Instr.linkSlotDeliver dt link).wf = true) :
    exec (.linkSlotDeliver dt link) s = .next (slotDeliver link (elapse dt s)) :=
  answer_eq (fit_event h rfl) (by simp)

theorem exec_txLate (dt link : Nat) (s : State)
    (h : (Instr.txLate dt link).wf = true) :
    exec (.txLate dt link) s = .next (txLate link (elapse dt s)) :=
  answer_eq (fit_event h rfl) (by simp)

theorem exec_linkDown (dt link lane : Nat) (s : State)
    (h : (Instr.linkDown dt link lane).wf = true) :
    exec (.linkDown dt link lane) s = .next (linkDown link lane (elapse dt s)) :=
  answer_eq (fit_event h rfl) (by simp)

theorem exec_linkRetrain (src : Src) (link : Nat) (s : State)
    (h : fit (.linkRetrain src link) s = true) :
    exec (.linkRetrain src link) s = .next (retrain link s) :=
  answer_eq h (by simp)

theorem exec_linkPageReset (src : Src) (link : Nat) (s : State)
    (h : fit (.linkPageReset src link) s = true) :
    exec (.linkPageReset src link) s = .next (linkPageReset link s) :=
  answer_eq h (by simp)

theorem exec_linkDetectDone (dt link : Nat) (s : State)
    (h : (Instr.linkDetectDone dt link).wf = true) :
    exec (.linkDetectDone dt link) s = .next (toState link 1 2 (elapse dt s)) :=
  answer_eq (fit_event h rfl) (by simp)

theorem exec_linkEqualiseDone (dt link : Nat) (s : State)
    (h : (Instr.linkEqualiseDone dt link).wf = true) :
    exec (.linkEqualiseDone dt link) s = .next (toState link 2 3 (elapse dt s)) :=
  answer_eq (fit_event h rfl) (by simp)

theorem exec_linkCheckDone (dt link : Nat) (lanesPass : BitVec 8) (s : State)
    (h : (Instr.linkCheckDone dt link lanesPass).wf = true) :
    exec (.linkCheckDone dt link lanesPass) s = .next (checkDone link lanesPass (elapse dt s)) :=
  answer_eq (fit_event h rfl) (by simp)

theorem exec_linkNegotiateDone (dt link : Nat) (n : Negotiation) (s : State)
    (h : (Instr.linkNegotiateDone dt link n).wf = true) :
    exec (.linkNegotiateDone dt link n) s = .next (negotiateDone link n (elapse dt s)) :=
  answer_eq (fit_event h rfl) (by simp)

theorem exec_linkTrainTimeout (dt link : Nat) (s : State)
    (h : (Instr.linkTrainTimeout dt link).wf = true) :
    exec (.linkTrainTimeout dt link) s = .next (trainTimeout link (elapse dt s)) :=
  answer_eq (fit_event h rfl) (by simp)

theorem exec_ethFrameReceive (dt intf : Nat) (bytes : List Byte) (st : RxStatus) (s : State)
    (h : (Instr.ethFrameReceive dt intf bytes st).wf = true) :
    exec (.ethFrameReceive dt intf bytes st) s = .next (ethReceive intf bytes st (elapse dt s)) :=
  answer_eq (fit_event h rfl) (by simp)

theorem exec_ethLinkChange (dt intf : Nat) (up : Bool) (s : State)
    (h : (Instr.ethLinkChange dt intf up).wf = true) :
    exec (.ethLinkChange dt intf up) s = .next (linkChange intf up (elapse dt s)) :=
  answer_eq (fit_event h rfl) (by simp)

theorem exec_eventLand (e : PortCheck) (s : State)
    (h : (Instr.eventLand e).wf = true) :
    exec (.eventLand e) s = .next (eventLand e.table (elapse e.dt s)) :=
  answer_eq (fit_event h rfl) (by simp)

theorem exec_gatherBoundary (s : State)
    (h : (Instr.gatherBoundary).wf = true) :
    exec (.gatherBoundary) s = .next (gatherBoundary s) :=
  answer_eq (fit_event h rfl) (by simp)

theorem exec_stepHeaderLand (dt : Nat) (s : State)
    (h : (Instr.stepHeaderLand dt).wf = true) :
    exec (.stepHeaderLand dt) s = .next (stepHeaderLand (elapse dt s)) :=
  answer_eq (fit_event h rfl) (by simp)

theorem exec_insert (src : Src) (s : State)
    (h : fit (.insert src) s = true) :
    exec (.insert src) s = .next (inCmd 3 s) :=
  answer_eq h (by simp)

theorem exec_modify (src : Src) (s : State)
    (h : fit (.modify src) s = true) :
    exec (.modify src) s = .next (inCmd 4 s) :=
  answer_eq h (by simp)

theorem exec_delete (src : Src) (s : State)
    (h : fit (.delete src) s = true) :
    exec (.delete src) s = .next (inCmd 5 s) :=
  answer_eq h (by simp)

theorem exec_lookup (src : Src) (s : State)
    (h : fit (.lookup src) s = true) :
    exec (.lookup src) s = .next (inCmd 6 s) :=
  answer_eq h (by simp)

theorem exec_inRead (src : Src) (s : State)
    (h : fit (.inRead src) s = true) :
    exec (.inRead src) s = .next (inCmd 1 s) :=
  answer_eq h (by simp)

theorem exec_inWrite (src : Src) (s : State)
    (h : fit (.inWrite src) s = true) :
    exec (.inWrite src) s = .next (inCmd 2 s) :=
  answer_eq h (by simp)

theorem exec_join (cmd : SrvCmd) (s : State)
    (h : fit (.join cmd) s = true) :
    exec (.join cmd) s = .next (srvChecked 1 cmd.table s) :=
  answer_eq h (by simp)

theorem exec_leave (cmd : SrvCmd) (s : State)
    (h : fit (.leave cmd) s = true) :
    exec (.leave cmd) s = .next (srvChecked 2 cmd.table s) :=
  answer_eq h (by simp)

theorem exec_srvModelWrite (src : Src) (value : Word) (s : State)
    (h : fit (.srvModelWrite src value) s = true) :
    exec (.srvModelWrite src value) s = .next (srvModelWrite value s) :=
  answer_eq h (by simp)

theorem exec_srvGatherWrite (src : Src) (value : Word) (s : State)
    (h : fit (.srvGatherWrite src value) s = true) :
    exec (.srvGatherWrite src value) s = .next (srvGatherWrite value s) :=
  answer_eq h (by simp)

theorem exec_feedGeomWrite (src : Src) (geom : Bool) (value : Word) (s : State)
    (h : fit (.feedGeomWrite src geom value) s = true) :
    exec (.feedGeomWrite src geom value) s = .next (feedGeomWrite geom value s) :=
  answer_eq h (by simp)

theorem exec_srvCurWrite (src : Src) (value : Dword) (s : State)
    (h : fit (.srvCurWrite src value) s = true) :
    exec (.srvCurWrite src value) s = .next (srvCurWrite value s) :=
  answer_eq h (by simp)

theorem exec_srvPairWrite (src : Src) (value : Word) (s : State)
    (h : fit (.srvPairWrite src value) s = true) :
    exec (.srvPairWrite src value) s = .next (srvPairWrite value s) :=
  answer_eq h (by simp)

theorem exec_resultLine (dt core : Nat) (ch : Chan) (edge table : Ecc) (s : State)
    (h : (Instr.resultLine dt core ch edge table).wf = true) :
    exec (.resultLine dt core ch edge table) s = .next (resultLine core ch edge table (elapse dt s)) :=
  answer_eq (fit_event h rfl) (by simp)

theorem exec_decisionFrameTransmit (dt intf : Nat) (s : State)
    (h : (Instr.decisionFrameTransmit dt intf).wf = true) :
    exec (.decisionFrameTransmit dt intf) s = .next (frameTransmit intf (elapse dt s)) :=
  answer_eq (fit_event h rfl) (by simp)

theorem exec_egDataWrite (src : Src) (value : Word) (s : State)
    (h : fit (.egDataWrite src value) s = true) :
    exec (.egDataWrite src value) s = .next (egWrite value s) :=
  answer_eq h (by simp)

theorem exec_todSet (src : Src) (value : Word) (s : State)
    (h : fit (.todSet src value) s = true) :
    exec (.todSet src value) s = .next (todCtl value s) :=
  answer_eq h (by simp)

theorem exec_read (dt : Nat) (q : RegReq) (s : State)
    (h : (Instr.read dt q).wf = true) :
    exec (.read dt q) s = .next (frameOp [1] true q (elapse dt s)) :=
  answer_eq (fit_event h rfl) (by simp)

theorem exec_write (dt : Nat) (q : RegReq) (s : State)
    (h : (Instr.write dt q).wf = true) :
    exec (.write dt q) s = .next (frameOp [2] false q (elapse dt s)) :=
  answer_eq (fit_event h rfl) (by simp)

theorem exec_rmw (dt : Nat) (q : RegReq) (s : State)
    (h : (Instr.rmw dt q).wf = true) :
    exec (.rmw dt q) s = .next (frameOp [3] false q (elapse dt s)) :=
  answer_eq (fit_event h rfl) (by simp)

theorem exec_blockRead (dt : Nat) (q : RegReq) (s : State)
    (h : (Instr.blockRead dt q).wf = true) :
    exec (.blockRead dt q) s = .next (frameOp [4] false q (elapse dt s)) :=
  answer_eq (fit_event h rfl) (by simp)

theorem exec_sync (dt : Nat) (q : RegReq) (s : State)
    (h : (Instr.sync dt q).wf = true) :
    exec (.sync dt q) s = .next (frameOp [5] false q (elapse dt s)) :=
  answer_eq (fit_event h rfl) (by simp)

theorem exec_eventAck (dt : Nat) (q : RegReq) (s : State)
    (h : (Instr.eventAck dt q).wf = true) :
    exec (.eventAck dt q) s = .next (frameOp [7] false q (elapse dt s)) :=
  answer_eq (fit_event h rfl) (by simp)

theorem exec_sidebandRegisterFrame (dt : Nat) (m : SidebandMsg) (s : State)
    (h : (Instr.sidebandRegisterFrame dt m).wf = true) :
    exec (.sidebandRegisterFrame dt m) s = .next (sidebandMsg m (elapse dt s)) :=
  answer_eq (fit_event h rfl) (by simp)

theorem exec_budgetEffecter (watts frames : Nat) (s : State)
    (h : (Instr.budgetEffecter watts frames).wf = true) :
    exec (.budgetEffecter watts frames) s = .next (setBudget watts frames s) :=
  answer_eq (fit_event h rfl) (by simp)

theorem exec_rdmaWrite (dt : Nat) (m : RdmaPut) (s : State)
    (h : (Instr.rdmaWrite dt m).wf = true) :
    exec (.rdmaWrite dt m) s = .next (roceArrive m.msg m.errs (elapse dt s)) :=
  answer_eq (fit_event h rfl) (by simp)

theorem exec_rdmaWriteAck (dt qp : Nat) (s : State)
    (h : (Instr.rdmaWriteAck dt qp).wf = true) :
    exec (.rdmaWriteAck dt qp) s = .next (rdmaAck qp (elapse dt s)) :=
  answer_eq (fit_event h rfl) (by simp)

theorem exec_rdmaReadRequest (dt : Nat) (m : RdmaMsg) (errs : List (Nat × SymErrs)) (s : State)
    (h : (Instr.rdmaReadRequest dt m errs).wf = true) :
    exec (.rdmaReadRequest dt m errs) s = .next (roceArrive m errs (elapse dt s)) :=
  answer_eq (fit_event h rfl) (by simp)

theorem exec_qpReset (src : Src) (qp : Nat) (s : State)
    (h : fit (.qpReset src qp) s = true) :
    exec (.qpReset src qp) s = .next (qpReset qp s) :=
  answer_eq h (by simp)

theorem exec_eventFrameSend (dt : Nat) (s : State)
    (h : (Instr.eventFrameSend dt).wf = true) :
    exec (.eventFrameSend dt) s = .next (eventSend (elapse dt s)) :=
  answer_eq (fit_event h rfl) (by simp)

theorem exec_eventFrameResend (dt : Nat) (s : State)
    (h : (Instr.eventFrameResend dt).wf = true) :
    exec (.eventFrameResend dt) s = .next (eventResend (elapse dt s)) :=
  answer_eq (fit_event h rfl) (by simp)

theorem exec_prepare (src : Src) (s : State)
    (h : fit (.prepare src) s = true) :
    exec (.prepare src) s = .next (admCmd 1 s) :=
  answer_eq h (by simp)

theorem exec_install (src : Src) (s : State)
    (h : fit (.install src) s = true) :
    exec (.install src) s = .next (admCmd 2 s) :=
  answer_eq h (by simp)

theorem exec_admRevoke (src : Src) (s : State)
    (h : fit (.admRevoke src) s = true) :
    exec (.admRevoke src) s = .next (admCmd 3 s) :=
  answer_eq h (by simp)

theorem exec_sakInstall (intf an : Nat) (sak : Sak) (pn : Nat) (s : State)
    (h : (Instr.sakInstall intf an sak pn).wf = true) :
    exec (.sakInstall intf an sak pn) s = .next (sakInstall intf an sak pn s) :=
  answer_eq (fit_event h rfl) (by simp)

theorem exec_sourceReset (src : Src) (source : Nat) (s : State)
    (h : fit (.sourceReset src source) s = true) :
    exec (.sourceReset src source) s = .next (sourceReset source s) :=
  answer_eq h (by simp)

theorem exec_cairnSeal (dt slot : Nat) (s : State)
    (h : (Instr.cairnSeal dt slot).wf = true) :
    exec (.cairnSeal dt slot) s = .next (cairnSeal slot (elapse dt s)) :=
  answer_eq (fit_event h rfl) (by simp)

theorem exec_restore (src : CrestCmd) (value : Word) (s : State)
    (h : fit (.restore src value) s = true) :
    exec (.restore src value) s = .next (cairnRestore value src.errs s) :=
  answer_eq h (by simp)

theorem exec_void (src : CrestCmd) (value : Word) (s : State)
    (h : fit (.void src value) s = true) :
    exec (.void src value) s = .next (cairnVoid (field value 3 2) src.errs s) :=
  answer_eq h (by simp)

theorem exec_reinstateDone (dt : Nat) (errs : List (Nat × SymErrs)) (s : State)
    (h : (Instr.reinstateDone dt errs).wf = true) :
    exec (.reinstateDone dt errs) s = .next (reinstateDone errs (elapse dt s)) :=
  answer_eq (fit_event h rfl) (by simp)

theorem exec_restoreRestart (s : State)
    (h : (Instr.restoreRestart).wf = true) :
    exec (.restoreRestart) s = .next (restoreRestart s) :=
  answer_eq (fit_event h rfl) (by simp)

theorem exec_pairCommitMsg (dt link : Nat) (m : PairMsg) (s : State)
    (h : (Instr.pairCommitMsg dt link m).wf = true) :
    exec (.pairCommitMsg dt link m) s = .next (pairMsg 0x10 link m (elapse dt s)) :=
  answer_eq (fit_event h rfl) (by simp)

theorem exec_pairTraceMsg (dt link : Nat) (m : PairMsg) (s : State)
    (h : (Instr.pairTraceMsg dt link m).wf = true) :
    exec (.pairTraceMsg dt link m) s = .next (pairMsg 0x11 link m (elapse dt s)) :=
  answer_eq (fit_event h rfl) (by simp)

theorem exec_pairLossMsg (dt link : Nat) (m : PairMsg) (s : State)
    (h : (Instr.pairLossMsg dt link m).wf = true) :
    exec (.pairLossMsg dt link m) s = .next (pairMsg 0x12 link m (elapse dt s)) :=
  answer_eq (fit_event h rfl) (by simp)

theorem exec_pairSealMsg (dt link : Nat) (m : PairMsg) (s : State)
    (h : (Instr.pairSealMsg dt link m).wf = true) :
    exec (.pairSealMsg dt link m) s = .next (pairMsg 0x13 link m (elapse dt s)) :=
  answer_eq (fit_event h rfl) (by simp)

theorem exec_pairDivergenceMsg (dt link : Nat) (m : DivMsg) (s : State)
    (h : (Instr.pairDivergenceMsg dt link m).wf = true) :
    exec (.pairDivergenceMsg dt link m) s = .next (divergenceMsg link m (elapse dt s)) :=
  answer_eq (fit_event h rfl) (by simp)

theorem exec_pairTimeout (key : Nat) (s : State)
    (h : (Instr.pairTimeout key).wf = true) :
    exec (.pairTimeout key) s = .next (pairTimeout key s) :=
  answer_eq (fit_event h rfl) (by simp)

theorem exec_primaryFaultMsg (dt link : Nat) (cause : Word) (s : State)
    (h : (Instr.primaryFaultMsg dt link cause).wf = true) :
    exec (.primaryFaultMsg dt link cause) s = .next (onlyIf ((pairLinks s).contains link) (takeoverSignal (elapse dt s)) (elapse dt s)) :=
  answer_eq (fit_event h rfl) (by unfold onlyIf; split <;> simp)

theorem exec_pairSilence (dt : Nat) (s : State)
    (h : (Instr.pairSilence dt).wf = true) :
    exec (.pairSilence dt) s = .next (pairSilence (elapse dt s)) :=
  answer_eq (fit_event h rfl) (by simp)

theorem exec_handover (src : Src) (s : State)
    (h : fit (.handover src) s = true) :
    exec (.handover src) s = .next (primaryFault 3 s) :=
  answer_eq h (by simp)

theorem exec_release (src : Src) (s : State)
    (h : fit (.release src) s = true) :
    exec (.release src) s = .next (pairRelease s) :=
  answer_eq h (by simp)

theorem exec_recomputeDone (dt : Nat) (q : Recompute) (s : State)
    (h : (Instr.recomputeDone dt q).wf = true) :
    exec (.recomputeDone dt q) s = .next (recomputeDone q (elapse dt s)) :=
  answer_eq (fit_event h rfl) (by simp)

theorem exec_coreFail (dt : Nat) (core : PhysCore) (s : State)
    (h : (Instr.coreFail dt core).wf = true) :
    exec (.coreFail dt core) s = .next (coreFail core (elapse dt s)) :=
  answer_eq (fit_event h rfl) (by simp)

theorem exec_spareFillDone (dt : Nat) (fill : FillEnd) (s : State)
    (h : (Instr.spareFillDone dt fill).wf = true) :
    exec (.spareFillDone dt fill) s = .next (fillDone fill (elapse dt s)) :=
  answer_eq (fit_event h rfl) (by simp)

theorem exec_rngKeyCommit (src : Src) (stream : Nat) (value : Word) (s : State)
    (h : fit (.rngKeyCommit src stream value) s = true) :
    exec (.rngKeyCommit src stream value) s = .next (onlyIf (field (reg s 0x19 (stream / 64) 0x40) 5 0 == stream % 64) (rngKeyWrite (stream / 64) 3 value s) s) :=
  answer_eq h (by unfold onlyIf; split <;> simp)

theorem exec_coreReset (src : Src) (core : Nat) (s : State)
    (h : fit (.coreReset src core) s = true) :
    exec (.coreReset src core) s = .next (coreResetReq core s) :=
  answer_eq h (by simp)

theorem exec_clusterReset (src : Src) (cluster : Nat) (s : State)
    (h : fit (.clusterReset src cluster) s = true) :
    exec (.clusterReset src cluster) s = .next (clusterResetReq cluster s) :=
  answer_eq h (by simp)

theorem exec_partitionReset (src : Src) (part : Nat) (s : State)
    (h : fit (.partitionReset src part) s = true) :
    exec (.partitionReset src part) s = .next (partResetReq part s) :=
  answer_eq h (by simp)

theorem exec_drainEnd (dt : Nat) (region : Region) (s : State)
    (h : (Instr.drainEnd dt region).wf = true) :
    exec (.drainEnd dt region) s = .next (drainEnd region (elapse dt s)) :=
  answer_eq (fit_event h rfl) (by simp)

theorem exec_resetComplete (dt : Nat) (region : Region) (s : State)
    (h : (Instr.resetComplete dt region).wf = true) :
    exec (.resetComplete dt region) s = .next (resetComplete region (elapse dt s)) :=
  answer_eq (fit_event h rfl) (by simp)

theorem exec_powerStateRequest (src : Src) (part : Nat) (value : Word) (s : State)
    (h : fit (.powerStateRequest src part value) s = true) :
    exec (.powerStateRequest src part value) s = .next (powerRequest part (field value 1 0) s) :=
  answer_eq h (by simp)

theorem exec_powerTransitionDone (dt part : Nat) (s : State)
    (h : (Instr.powerTransitionDone dt part).wf = true) :
    exec (.powerTransitionDone dt part) s = .next (powerDone part (elapse dt s)) :=
  answer_eq (fit_event h rfl) (by simp)

theorem exec_stage (src : CrestCmd) (s : State)
    (h : fit (.stage src) s = true) :
    exec (.stage src) s = .next (if s.sec.staging.isSome then secCmd 1 s else secStage src.errs s) :=
  answer_eq h (by split <;> simp)

theorem exec_stageDone (dt : Nat) (ok : Bool) (s : State)
    (h : (Instr.stageDone dt ok).wf = true) :
    exec (.stageDone dt ok) s = .next (stageDone ok (elapse dt s)) :=
  answer_eq (fit_event h rfl) (by simp)

theorem exec_updateAbort (src : Src) (s : State)
    (h : fit (.updateAbort src) s = true) :
    exec (.updateAbort src) s = .next (secCmd 2 s) :=
  answer_eq h (by simp)

theorem exec_activate (src : Src) (s : State)
    (h : fit (.activate src) s = true) :
    exec (.activate src) s = .next (secCmd 3 s) :=
  answer_eq h (by simp)

theorem exec_commitSvn (src : Src) (s : State)
    (h : fit (.commitSvn src) s = true) :
    exec (.commitSvn src) s = .next (secCmd 4 s) :=
  answer_eq h (by simp)

theorem exec_revoke (src : Src) (s : State)
    (h : fit (.revoke src) s = true) :
    exec (.revoke src) s = .next (secCmd 5 s) :=
  answer_eq h (by simp)

theorem exec_challenge (src : Src) (s : State)
    (h : fit (.challenge src) s = true) :
    exec (.challenge src) s = .next (secCmd 6 s) :=
  answer_eq h (by simp)

theorem exec_jtagUnlock (src : Src) (s : State)
    (h : fit (.jtagUnlock src) s = true) :
    exec (.jtagUnlock src) s = .next (secCmd 7 s) :=
  answer_eq h (by simp)

theorem exec_extend (src : Src) (s : State)
    (h : fit (.extend src) s = true) :
    exec (.extend src) s = .next (secCmd 8 s) :=
  answer_eq h (by simp)

theorem exec_trialTimeout (dt : Nat) (s : State)
    (h : (Instr.trialTimeout dt).wf = true) :
    exec (.trialTimeout dt) s = .next (trialTimeout (elapse dt s)) :=
  answer_eq (fit_event h rfl) (by simp)

theorem exec_attestRequest (src : Src) (value : Word) (s : State)
    (h : fit (.attestRequest src value) s = true) :
    exec (.attestRequest src value) s = .next (nonceWrite 15 value s) :=
  answer_eq h (by simp)

theorem exec_attestReportDone (dt : Nat) (s : State)
    (h : (Instr.attestReportDone dt).wf = true) :
    exec (.attestReportDone dt) s = .next (reportDone (elapse dt s)) :=
  answer_eq (fit_event h rfl) (by simp)

theorem exec_bootReq (dt : Nat) (s : State)
    (h : (Instr.bootReq dt).wf = true) :
    exec (.bootReq dt) s = .next (bootReq (elapse dt s)) :=
  answer_eq (fit_event h rfl) (by simp)

theorem exec_bootData (block : Nat) (bytes : List Byte) (s : State)
    (h : (Instr.bootData block bytes).wf = true) :
    exec (.bootData block bytes) s = .next (bootData block bytes s) :=
  answer_eq (fit_event h rfl) (by simp)

theorem exec_coalescerTake (s : State)
    (h : (Instr.coalescerTake).wf = true) :
    exec (.coalescerTake) s = .next (coalescerTake s) :=
  answer_eq (fit_event h rfl) (by simp)

theorem exec_fatalEventLog (s : State)
    (h : (Instr.fatalEventLog).wf = true) :
    exec (.fatalEventLog) s = .next (fatalEventLog s) :=
  answer_eq (fit_event h rfl) (by simp)

theorem exec_intAck (src : Src) (s : State)
    (h : fit (.intAck src) s = true) :
    exec (.intAck src) s = .next (intAck s) :=
  answer_eq h (by simp)

theorem exec_fltClear (src : Src) (s : State)
    (h : fit (.fltClear src) s = true) :
    exec (.fltClear src) s = .next (fltClear s) :=
  answer_eq h (by simp)

theorem exec_stormClear (src : Src) (s : State)
    (h : fit (.stormClear src) s = true) :
    exec (.stormClear src) s = .next (stormClear s) :=
  answer_eq h (by simp)

theorem exec_fltLogRead (src : Src) (word : Nat) (s : State)
    (h : fit (.fltLogRead src word) s = true) :
    exec (.fltLogRead src word) s = .next ((readReg src 0x13 0 (0x80 + 4 * word) s).2) :=
  answer_eq h (by simp)

theorem exec_digestMsg (dt link : Nat) (frame : Word) (layout : Dword) (digest : Dword) (replayed : Bool) (s : State)
    (h : (Instr.digestMsg dt link frame layout digest replayed).wf = true) :
    exec (.digestMsg dt link frame layout digest replayed) s = .next (onlyIf (!replayed) (digestMessage link frame layout digest (elapse dt s)) (elapse dt s)) :=
  answer_eq (fit_event h rfl) (by unfold onlyIf; split <;> simp)

theorem exec_lossOfHbmTraining (dt stack pseudo : Nat) (s : State)
    (h : (Instr.lossOfHbmTraining dt stack pseudo).wf = true) :
    exec (.lossOfHbmTraining dt stack pseudo) s = .next (trainingLoss stack pseudo (elapse dt s)) :=
  answer_eq (fit_event h rfl) (by simp)

theorem exec_managementMemoryError (core : Nat) (corrected : Bool) (s : State)
    (h : (Instr.managementMemoryError core corrected).wf = true) :
    exec (.managementMemoryError core corrected) s = .next (managementError core corrected s) :=
  answer_eq (fit_event h rfl) (by simp)

theorem exec_bringupBound (step : Nat) (s : State)
    (h : (Instr.bringupBound step).wf = true) :
    exec (.bringupBound step) s = .next (boundPassed step s) :=
  answer_eq (fit_event h rfl) (by simp)

theorem exec_mkaSessionLoss (dt intf : Nat) (s : State)
    (h : (Instr.mkaSessionLoss dt intf).wf = true) :
    exec (.mkaSessionLoss dt intf) s = .next (mkaLoss intf (elapse dt s)) :=
  answer_eq (fit_event h rfl) (by simp)

end Sys2Proof.Machine
end

