-- ==== Sys2Proof/Laws/Issue.lean ====
section
/-! SUPPORT. What an issue does before the instruction's own effect (R96, R101, R105, R390). -/

namespace Sys2Proof.Machine

open Sys2Proof

/-- A head that issues has the effect of its instruction over the state once it has issued. -/
theorem issue_of_head {cls op dt c st w s} (h : HeadIssues cls op dt c st w s) :
    issue cls op c st .ok (elapse dt s) = issueEffect c (s.now + dt) (pcDetail (streamOf (core s c) st) st) st w (issuedState s dt c st w) := by
  obtain ⟨h1, h2, h3, h4, h5, h6, h7, h8⟩ := h
  have e5 : coreRuns (elapse dt s) c = true := h5
  have hm := h6
  unfold mayIssue at hm
  simp only [Bool.and_eq_true] at hm
  have hr := hm.1.1.1
  unfold streamReady at hr
  simp only [Bool.and_eq_true] at hr
  have ha : atHead (s.now + dt) (streamOf (core s c) st) = true := hr.1.1.1.1
  have hl : iLegal w = true := by have := hr.1.1.1.2; rw [show core (elapse dt s) c = core s c from rfl, h2] at this; exact this
  have h7' : issueChecks c (core (elapse dt s) c) (s.now + dt) w = none := h7
  have h8' : hubAllowed (elapse dt s) c (core (elapse dt s) c) w = true := h8
  unfold issue
  simp only [elapse_now, core_elapse, e5, ha, h2, hl, h3, h4, h6, fetchCheck, checkAndIssue, h7]
  have h8'' : hubAllowed (elapse dt s) c (core s c) w = true := h8
  simp only [h8'']
  simp [doIssue, issuedState, issuedCore]

/-- A counter that raises nothing changes registers only. -/
theorem bump48_none_eq (a b d e f : Nat) (x : State) : ∃ r, bump48 a b d e f none x = { x with regs := r } := by
  unfold bump48
  simp only []
  split
  all_goals
    unfold bump48Quiet
    simp only []
    split <;> exact ⟨_, rfl⟩

/-- Of the cores, the issue itself changes only the issuing one. -/
theorem issuedState_cores (s : State) (dt c st w) : (issuedState s dt c st w).cores = (setCore c (issuedCore s (s.now + dt) c st w) s).cores := by
  unfold issuedState
  obtain ⟨r, h⟩ := bump48_none_eq 5 c 0x50 0 1 (setCore c (issuedCore s (s.now + dt) c st w) (elapse dt s))
  rw [h]
  obtain ⟨r2, h2⟩ := bump48_none_eq 0x16 (1 + iJob w) 0x48 0 1 { setCore c (issuedCore s (s.now + dt) c st w) (elapse dt s) with regs := r }
  rw [h2]; rfl

/-- The issue itself leaves the fabric and core SRAM as they were. -/
theorem issuedState_fab (s : State) (dt c st w) : (issuedState s dt c st w).fab = s.fab ∧ (issuedState s dt c st w).sram = s.sram := by
  unfold issuedState
  obtain ⟨r, h⟩ := bump48_none_eq 5 c 0x50 0 1 (setCore c (issuedCore s (s.now + dt) c st w) (elapse dt s))
  rw [h]
  obtain ⟨r2, h2⟩ := bump48_none_eq 0x16 (1 + iJob w) 0x48 0 1 { setCore c (issuedCore s (s.now + dt) c st w) (elapse dt s) with regs := r }
  rw [h2]; exact ⟨rfl, rfl⟩

/-- The issuing core once the instruction has issued. -/
theorem core_issued {s dt c st w} (hc : s.Canonical) : core (issuedState s dt c st w) c = issuedCore s (s.now + dt) c st w := by
  unfold core; rw [issuedState_cores]; exact sget_sset_same hc.cores

/-- The cores stay in canonical form. -/
theorem issuedState_canonical {s dt c st w} (hc : s.Canonical) : swf (fun _ => Core.reset) (issuedState s dt c st w).cores = true := by
  rw [issuedState_cores]; exact swf_sset hc.cores

/-- The issuing core after a change by its instruction. -/
theorem core_modCore_issued {s dt c st w} (hc : s.Canonical) (f) : core (modCore c f (issuedState s dt c st w)) c = f (issuedCore s (s.now + dt) c st w) := by
  unfold modCore; rw [core_setCore (issuedState_canonical hc), core_issued hc]

end Sys2Proof.Machine
end

