-- ==== Sys2Proof/Laws/PerInstr.lean ====
section
/-! SUPPORT. What well-formedness says of each command: every unit number that it names lies below the number of such
units. -/

namespace Sys2Proof.Laws.Wf

open Sys2Proof

/-- A command is well formed exactly when every unit that it names exists. -/
def Statement (i : Instr) : Prop := i.wf = true ↔ ∀ u ∈ i.units, u.number < u.count

theorem of_units (i : Instr) : Statement i := by
  unfold Statement Instr.wf unitsOk
  simp [List.all_eq_true]

theorem registerWrite : ∀ x1 x2 x3, Statement (.registerWrite x1 x2 x3) := fun _ _ _ => of_units _
theorem w1cClear : ∀ x1 x2 x3, Statement (.w1cClear x1 x2 x3) := fun _ _ _ => of_units _
theorem readClear : ∀ x1 x2, Statement (.readClear x1 x2) := fun _ _ => of_units _
theorem loRead : ∀ x1 x2, Statement (.loRead x1 x2) := fun _ _ => of_units _
theorem loWrite : ∀ x1 x2 x3, Statement (.loWrite x1 x2 x3) := fun _ _ _ => of_units _
theorem hiWrite : ∀ x1 x2 x3, Statement (.hiWrite x1 x2 x3) := fun _ _ _ => of_units _
theorem pageFreeze : ∀ x1 x2 x3, Statement (.pageFreeze x1 x2 x3) := fun _ _ _ => of_units _
theorem pageEnable : ∀ x1 x2 x3, Statement (.pageEnable x1 x2 x3) := fun _ _ _ => of_units _
theorem coldBringup : ∀ x1, Statement (.coldBringup x1) := fun _ => of_units _
theorem coldReset : ∀ x1, Statement (.coldReset x1) := fun _ => of_units _
theorem railFault : ∀ x1, Statement (.railFault x1) := fun _ => of_units _
theorem warmReset : ∀ x1 x2, Statement (.warmReset x1 x2) := fun _ _ => of_units _
theorem watchdogExpiry : Statement .watchdogExpiry := of_units _
theorem thermalSample : ∀ x1, Statement (.thermalSample x1) := fun _ => of_units _
theorem defectLogWrite : ∀ x1 x2, Statement (.defectLogWrite x1 x2) := fun _ _ => of_units _
theorem tickBoundary : ∀ x1, Statement (.tickBoundary x1) := fun _ => of_units _
theorem frameBoundary : Statement .frameBoundary := of_units _
theorem tickStart : ∀ x1 x2, Statement (.tickStart x1 x2) := fun _ _ => of_units _
theorem tickMarker : ∀ x1 x2, Statement (.tickMarker x1 x2) := fun _ _ => of_units _
theorem holdoverExceeded : Statement .holdoverExceeded := of_units _
theorem fclkLock : ∀ x1, Statement (.fclkLock x1) := fun _ => of_units _
theorem load : ∀ x1, Statement (.load x1) := fun _ => of_units _
theorem verifyDone : Statement .verifyDone := of_units _
theorem arm : ∀ x1, Statement (.arm x1) := fun _ => of_units _
theorem abort : ∀ x1, Statement (.abort x1) := fun _ => of_units _
theorem shadowReady : Statement .shadowReady := of_units _
theorem imageActivation : Statement .imageActivation := of_units _
theorem nop : ∀ x1 x2 x3 x4, Statement (.nop x1 x2 x3 x4) := fun _ _ _ _ => of_units _
theorem fend : ∀ x1 x2 x3 x4, Statement (.fend x1 x2 x3 x4) := fun _ _ _ _ => of_units _
theorem jump : ∀ x1 x2 x3 x4, Statement (.jump x1 x2 x3 x4) := fun _ _ _ _ => of_units _
theorem loop : ∀ x1 x2 x3 x4, Statement (.loop x1 x2 x3 x4) := fun _ _ _ _ => of_units _
theorem mask : ∀ x1 x2 x3 x4, Statement (.mask x1 x2 x3 x4) := fun _ _ _ _ => of_units _
theorem ctok : ∀ x1 x2 x3 x4, Statement (.ctok x1 x2 x3 x4) := fun _ _ _ _ => of_units _
theorem mma : ∀ x1 x2 x3 x4, Statement (.mma x1 x2 x3 x4) := fun _ _ _ _ => of_units _
theorem mmaBegin : ∀ x1 x2 x3, Statement (.mmaBegin x1 x2 x3) := fun _ _ _ => of_units _
theorem mmaComplete : ∀ x1 x2, Statement (.mmaComplete x1 x2) := fun _ _ => of_units _
theorem add : ∀ x1 x2 x3 x4, Statement (.add x1 x2 x3 x4) := fun _ _ _ _ => of_units _
theorem sub : ∀ x1 x2 x3 x4, Statement (.sub x1 x2 x3 x4) := fun _ _ _ _ => of_units _
theorem mul : ∀ x1 x2 x3 x4, Statement (.mul x1 x2 x3 x4) := fun _ _ _ _ => of_units _
theorem max : ∀ x1 x2 x3 x4, Statement (.max x1 x2 x3 x4) := fun _ _ _ _ => of_units _
theorem min : ∀ x1 x2 x3 x4, Statement (.min x1 x2 x3 x4) := fun _ _ _ _ => of_units _
theorem fma : ∀ x1 x2 x3 x4, Statement (.fma x1 x2 x3 x4) := fun _ _ _ _ => of_units _
theorem scl : ∀ x1 x2 x3 x4, Statement (.scl x1 x2 x3 x4) := fun _ _ _ _ => of_units _
theorem cvt : ∀ x1 x2 x3 x4, Statement (.cvt x1 x2 x3 x4) := fun _ _ _ _ => of_units _
theorem exp : ∀ x1 x2 x3 x4, Statement (.exp x1 x2 x3 x4) := fun _ _ _ _ => of_units _
theorem log : ∀ x1 x2 x3 x4, Statement (.log x1 x2 x3 x4) := fun _ _ _ _ => of_units _
theorem rsqrt : ∀ x1 x2 x3 x4, Statement (.rsqrt x1 x2 x3 x4) := fun _ _ _ _ => of_units _
theorem recip : ∀ x1 x2 x3 x4, Statement (.recip x1 x2 x3 x4) := fun _ _ _ _ => of_units _
theorem tanh : ∀ x1 x2 x3 x4, Statement (.tanh x1 x2 x3 x4) := fun _ _ _ _ => of_units _
theorem sigmoid : ∀ x1 x2 x3 x4, Statement (.sigmoid x1 x2 x3 x4) := fun _ _ _ _ => of_units _
theorem rsum : ∀ x1 x2 x3 x4, Statement (.rsum x1 x2 x3 x4) := fun _ _ _ _ => of_units _
theorem rmax : ∀ x1 x2 x3 x4, Statement (.rmax x1 x2 x3 x4) := fun _ _ _ _ => of_units _
theorem ucall : ∀ x1 x2 x3 x4, Statement (.ucall x1 x2 x3 x4) := fun _ _ _ _ => of_units _
theorem qcrumb : ∀ x1 x2 x3 x4, Statement (.qcrumb x1 x2 x3 x4) := fun _ _ _ _ => of_units _
theorem vecBegin : ∀ x1 x2 x3, Statement (.vecBegin x1 x2 x3) := fun _ _ _ => of_units _
theorem vecComplete : ∀ x1 x2, Statement (.vecComplete x1 x2) := fun _ _ => of_units _
theorem send : ∀ x1 x2 x3 x4, Statement (.send x1 x2 x3 x4) := fun _ _ _ _ => of_units _
theorem recv : ∀ x1 x2 x3 x4, Statement (.recv x1 x2 x3 x4) := fun _ _ _ _ => of_units _
theorem hrd : ∀ x1 x2 x3 x4, Statement (.hrd x1 x2 x3 x4) := fun _ _ _ _ => of_units _
theorem hwr : ∀ x1 x2 x3 x4, Statement (.hwr x1 x2 x3 x4) := fun _ _ _ _ => of_units _
theorem ssend : ∀ x1 x2 x3 x4, Statement (.ssend x1 x2 x3 x4) := fun _ _ _ _ => of_units _
theorem srecv : ∀ x1 x2 x3 x4, Statement (.srecv x1 x2 x3 x4) := fun _ _ _ _ => of_units _
theorem movBegin : ∀ x1 x2 x3, Statement (.movBegin x1 x2 x3) := fun _ _ _ => of_units _
theorem sendComplete : ∀ x1 x2 x3 x4 x5, Statement (.sendComplete x1 x2 x3 x4 x5) := fun _ _ _ _ _ => of_units _
theorem recvComplete : ∀ x1 x2 x3 x4, Statement (.recvComplete x1 x2 x3 x4) := fun _ _ _ _ => of_units _
theorem hrdComplete : ∀ x1 x2 x3, Statement (.hrdComplete x1 x2 x3) := fun _ _ _ => of_units _
theorem hwrComplete : ∀ x1 x2 x3, Statement (.hwrComplete x1 x2 x3) := fun _ _ _ => of_units _
theorem li : ∀ x1 x2 x3 x4, Statement (.li x1 x2 x3 x4) := fun _ _ _ _ => of_units _
theorem addi : ∀ x1 x2 x3 x4, Statement (.addi x1 x2 x3 x4) := fun _ _ _ _ => of_units _
theorem tdb : ∀ x1 x2 x3 x4, Statement (.tdb x1 x2 x3 x4) := fun _ _ _ _ => of_units _
theorem tagSet : ∀ x1 x2 x3 x4, Statement (.tagSet x1 x2 x3 x4) := fun _ _ _ _ => of_units _
theorem tagClr : ∀ x1 x2 x3 x4, Statement (.tagClr x1 x2 x3 x4) := fun _ _ _ _ => of_units _
theorem vread : ∀ x1 x2 x3 x4, Statement (.vread x1 x2 x3 x4) := fun _ _ _ _ => of_units _
theorem vdone : ∀ x1 x2 x3 x4, Statement (.vdone x1 x2 x3 x4) := fun _ _ _ _ => of_units _
theorem vpub : ∀ x1 x2 x3 x4, Statement (.vpub x1 x2 x3 x4) := fun _ _ _ _ => of_units _
theorem notReady : ∀ x1 x2, Statement (.notReady x1 x2) := fun _ _ => of_units _
theorem coreSramDataRead : ∀ x1 x2 x3, Statement (.coreSramDataRead x1 x2 x3) := fun _ _ _ => of_units _
theorem coreSramDataWrite : ∀ x1 x2 x3, Statement (.coreSramDataWrite x1 x2 x3) := fun _ _ _ => of_units _
theorem nummonClear : ∀ x1 x2, Statement (.nummonClear x1 x2) := fun _ _ => of_units _
theorem flitForward : ∀ x1 x2 x3 x4, Statement (.flitForward x1 x2 x3 x4) := fun _ _ _ _ => of_units _
theorem flitArrive : ∀ x1 x2 x3 x4 x5, Statement (.flitArrive x1 x2 x3 x4 x5) := fun _ _ _ _ _ => of_units _
theorem creditReturn : ∀ x1 x2 x3 x4, Statement (.creditReturn x1 x2 x3 x4) := fun _ _ _ _ => of_units _
theorem flitLand : ∀ x1 x2 x3, Statement (.flitLand x1 x2 x3) := fun _ _ _ => of_units _
theorem tokenArrive : ∀ x1 x2 x3, Statement (.tokenArrive x1 x2 x3) := fun _ _ _ => of_units _
theorem sealArrive : ∀ x1 x2 x3 x4, Statement (.sealArrive x1 x2 x3 x4) := fun _ _ _ _ => of_units _
theorem spillModeRequest : ∀ x1 x2, Statement (.spillModeRequest x1 x2) := fun _ _ => of_units _
theorem spillModeExit : ∀ x1 x2, Statement (.spillModeExit x1 x2) := fun _ _ => of_units _
theorem deadlockDetect : ∀ x1, Statement (.deadlockDetect x1) := fun _ => of_units _
theorem spillAreaClear : ∀ x1 x2, Statement (.spillAreaClear x1 x2) := fun _ _ => of_units _
theorem reduceDescriptor : ∀ x1 x2 x3 x4, Statement (.reduceDescriptor x1 x2 x3 x4) := fun _ _ _ _ => of_units _
theorem reduceContribution : ∀ x1 x2 x3 x4, Statement (.reduceContribution x1 x2 x3 x4) := fun _ _ _ _ => of_units _
theorem reduceUnitDeliver : ∀ x1 x2 x3 x4 x5, Statement (.reduceUnitDeliver x1 x2 x3 x4 x5) :=
  fun _ _ _ _ _ => of_units _
theorem moveIssue : ∀ x1 x2, Statement (.moveIssue x1 x2) := fun _ _ => of_units _
theorem moveLineLand : ∀ x1 x2 x3 x4 x5, Statement (.moveLineLand x1 x2 x3 x4 x5) := fun _ _ _ _ _ => of_units _
theorem moveComplete : ∀ x1 x2 x3, Statement (.moveComplete x1 x2 x3) := fun _ _ _ => of_units _
theorem deadlineMiss : ∀ x1 x2, Statement (.deadlineMiss x1 x2) := fun _ _ => of_units _
theorem manualMove : ∀ x1 x2 x3, Statement (.manualMove x1 x2 x3) := fun _ _ _ => of_units _
theorem manualMoveComplete : ∀ x1 x2, Statement (.manualMoveComplete x1 x2) := fun _ _ => of_units _
theorem windowWrite : ∀ x1 x2 x3 x4, Statement (.windowWrite x1 x2 x3 x4) := fun _ _ _ _ => of_units _
theorem moveEngineReset : ∀ x1 x2, Statement (.moveEngineReset x1 x2) := fun _ _ => of_units _
theorem scrubLine : ∀ x1 x2 x3 x4, Statement (.scrubLine x1 x2 x3 x4) := fun _ _ _ _ => of_units _
theorem keyLoad : ∀ x1 x2, Statement (.keyLoad x1 x2) := fun _ _ => of_units _
theorem keySwitch : ∀ x1 x2, Statement (.keySwitch x1 x2) := fun _ _ => of_units _
theorem keySweep : ∀ x1 x2, Statement (.keySweep x1 x2) := fun _ _ => of_units _
theorem keyClear : ∀ x1 x2, Statement (.keyClear x1 x2) := fun _ _ => of_units _
theorem sweepLine : ∀ x1 x2 x3 x4 x5, Statement (.sweepLine x1 x2 x3 x4 x5) := fun _ _ _ _ _ => of_units _
theorem sweepFinish : ∀ x1 x2, Statement (.sweepFinish x1 x2) := fun _ _ => of_units _
theorem keyErase : ∀ x1 x2, Statement (.keyErase x1 x2) := fun _ _ => of_units _
theorem colTake : ∀ x1 x2 x3, Statement (.colTake x1 x2 x3) := fun _ _ _ => of_units _
theorem linkFrameLaunch : ∀ x1 x2, Statement (.linkFrameLaunch x1 x2) := fun _ _ => of_units _
theorem linkFrameVerdict : ∀ x1 x2 x3 x4, Statement (.linkFrameVerdict x1 x2 x3 x4) := fun _ _ _ _ => of_units _
theorem replayRelaunch : ∀ x1 x2, Statement (.replayRelaunch x1 x2) := fun _ _ => of_units _
theorem linkSlotDeliver : ∀ x1 x2, Statement (.linkSlotDeliver x1 x2) := fun _ _ => of_units _
theorem txLate : ∀ x1 x2, Statement (.txLate x1 x2) := fun _ _ => of_units _
theorem linkDown : ∀ x1 x2 x3, Statement (.linkDown x1 x2 x3) := fun _ _ _ => of_units _
theorem linkRetrain : ∀ x1 x2, Statement (.linkRetrain x1 x2) := fun _ _ => of_units _
theorem linkPageReset : ∀ x1 x2, Statement (.linkPageReset x1 x2) := fun _ _ => of_units _
theorem linkDetectDone : ∀ x1 x2, Statement (.linkDetectDone x1 x2) := fun _ _ => of_units _
theorem linkEqualiseDone : ∀ x1 x2, Statement (.linkEqualiseDone x1 x2) := fun _ _ => of_units _
theorem linkCheckDone : ∀ x1 x2 x3, Statement (.linkCheckDone x1 x2 x3) := fun _ _ _ => of_units _
theorem linkNegotiateDone : ∀ x1 x2 x3, Statement (.linkNegotiateDone x1 x2 x3) := fun _ _ _ => of_units _
theorem linkTrainTimeout : ∀ x1 x2, Statement (.linkTrainTimeout x1 x2) := fun _ _ => of_units _
theorem ethFrameReceive : ∀ x1 x2 x3 x4, Statement (.ethFrameReceive x1 x2 x3 x4) := fun _ _ _ _ => of_units _
theorem ethLinkChange : ∀ x1 x2 x3, Statement (.ethLinkChange x1 x2 x3) := fun _ _ _ => of_units _
theorem eventLand : ∀ x1, Statement (.eventLand x1) := fun _ => of_units _
theorem gatherBoundary : Statement .gatherBoundary := of_units _
theorem stepHeaderLand : ∀ x1, Statement (.stepHeaderLand x1) := fun _ => of_units _
theorem insert : ∀ x1, Statement (.insert x1) := fun _ => of_units _
theorem modify : ∀ x1, Statement (.modify x1) := fun _ => of_units _
theorem delete : ∀ x1, Statement (.delete x1) := fun _ => of_units _
theorem lookup : ∀ x1, Statement (.lookup x1) := fun _ => of_units _
theorem inRead : ∀ x1, Statement (.inRead x1) := fun _ => of_units _
theorem inWrite : ∀ x1, Statement (.inWrite x1) := fun _ => of_units _
theorem join : ∀ x1, Statement (.join x1) := fun _ => of_units _
theorem leave : ∀ x1, Statement (.leave x1) := fun _ => of_units _
theorem srvModelWrite : ∀ x1 x2, Statement (.srvModelWrite x1 x2) := fun _ _ => of_units _
theorem srvGatherWrite : ∀ x1 x2, Statement (.srvGatherWrite x1 x2) := fun _ _ => of_units _
theorem feedGeomWrite : ∀ x1 x2 x3, Statement (.feedGeomWrite x1 x2 x3) := fun _ _ _ => of_units _
theorem srvCurWrite : ∀ x1 x2, Statement (.srvCurWrite x1 x2) := fun _ _ => of_units _
theorem srvPairWrite : ∀ x1 x2, Statement (.srvPairWrite x1 x2) := fun _ _ => of_units _
theorem resultLine : ∀ x1 x2 x3 x4 x5, Statement (.resultLine x1 x2 x3 x4 x5) := fun _ _ _ _ _ => of_units _
theorem decisionFrameTransmit : ∀ x1 x2, Statement (.decisionFrameTransmit x1 x2) := fun _ _ => of_units _
theorem egDataWrite : ∀ x1 x2, Statement (.egDataWrite x1 x2) := fun _ _ => of_units _
theorem todSet : ∀ x1 x2, Statement (.todSet x1 x2) := fun _ _ => of_units _
theorem read : ∀ x1 x2, Statement (.read x1 x2) := fun _ _ => of_units _
theorem write : ∀ x1 x2, Statement (.write x1 x2) := fun _ _ => of_units _
theorem rmw : ∀ x1 x2, Statement (.rmw x1 x2) := fun _ _ => of_units _
theorem blockRead : ∀ x1 x2, Statement (.blockRead x1 x2) := fun _ _ => of_units _
theorem sync : ∀ x1 x2, Statement (.sync x1 x2) := fun _ _ => of_units _
theorem eventAck : ∀ x1 x2, Statement (.eventAck x1 x2) := fun _ _ => of_units _
theorem sidebandRegisterFrame : ∀ x1 x2, Statement (.sidebandRegisterFrame x1 x2) := fun _ _ => of_units _
theorem budgetEffecter : ∀ x1 x2, Statement (.budgetEffecter x1 x2) := fun _ _ => of_units _
theorem rdmaWrite : ∀ x1 x2, Statement (.rdmaWrite x1 x2) := fun _ _ => of_units _
theorem rdmaWriteAck : ∀ x1 x2, Statement (.rdmaWriteAck x1 x2) := fun _ _ => of_units _
theorem rdmaReadRequest : ∀ x1 x2 x3, Statement (.rdmaReadRequest x1 x2 x3) := fun _ _ _ => of_units _
theorem qpReset : ∀ x1 x2, Statement (.qpReset x1 x2) := fun _ _ => of_units _
theorem eventFrameSend : ∀ x1, Statement (.eventFrameSend x1) := fun _ => of_units _
theorem eventFrameResend : ∀ x1, Statement (.eventFrameResend x1) := fun _ => of_units _
theorem prepare : ∀ x1, Statement (.prepare x1) := fun _ => of_units _
theorem install : ∀ x1, Statement (.install x1) := fun _ => of_units _
theorem admRevoke : ∀ x1, Statement (.admRevoke x1) := fun _ => of_units _
theorem sakInstall : ∀ x1 x2 x3 x4, Statement (.sakInstall x1 x2 x3 x4) := fun _ _ _ _ => of_units _
theorem sourceReset : ∀ x1 x2, Statement (.sourceReset x1 x2) := fun _ _ => of_units _
theorem cairnSeal : ∀ x1 x2, Statement (.cairnSeal x1 x2) := fun _ _ => of_units _
theorem restore : ∀ x1 x2, Statement (.restore x1 x2) := fun _ _ => of_units _
theorem void : ∀ x1 x2, Statement (.void x1 x2) := fun _ _ => of_units _
theorem reinstateDone : ∀ x1 x2, Statement (.reinstateDone x1 x2) := fun _ _ => of_units _
theorem restoreRestart : Statement .restoreRestart := of_units _
theorem pairCommitMsg : ∀ x1 x2 x3, Statement (.pairCommitMsg x1 x2 x3) := fun _ _ _ => of_units _
theorem pairTraceMsg : ∀ x1 x2 x3, Statement (.pairTraceMsg x1 x2 x3) := fun _ _ _ => of_units _
theorem pairLossMsg : ∀ x1 x2 x3, Statement (.pairLossMsg x1 x2 x3) := fun _ _ _ => of_units _
theorem pairSealMsg : ∀ x1 x2 x3, Statement (.pairSealMsg x1 x2 x3) := fun _ _ _ => of_units _
theorem pairDivergenceMsg : ∀ x1 x2 x3, Statement (.pairDivergenceMsg x1 x2 x3) := fun _ _ _ => of_units _
theorem pairTimeout : ∀ x1, Statement (.pairTimeout x1) := fun _ => of_units _
theorem primaryFaultMsg : ∀ x1 x2 x3, Statement (.primaryFaultMsg x1 x2 x3) := fun _ _ _ => of_units _
theorem pairSilence : ∀ x1, Statement (.pairSilence x1) := fun _ => of_units _
theorem handover : ∀ x1, Statement (.handover x1) := fun _ => of_units _
theorem release : ∀ x1, Statement (.release x1) := fun _ => of_units _
theorem recomputeDone : ∀ x1 x2, Statement (.recomputeDone x1 x2) := fun _ _ => of_units _
theorem coreFail : ∀ x1 x2, Statement (.coreFail x1 x2) := fun _ _ => of_units _
theorem spareFillDone : ∀ x1 x2, Statement (.spareFillDone x1 x2) := fun _ _ => of_units _
theorem rngKeyCommit : ∀ x1 x2 x3, Statement (.rngKeyCommit x1 x2 x3) := fun _ _ _ => of_units _
theorem coreReset : ∀ x1 x2, Statement (.coreReset x1 x2) := fun _ _ => of_units _
theorem clusterReset : ∀ x1 x2, Statement (.clusterReset x1 x2) := fun _ _ => of_units _
theorem partitionReset : ∀ x1 x2, Statement (.partitionReset x1 x2) := fun _ _ => of_units _
theorem drainEnd : ∀ x1 x2, Statement (.drainEnd x1 x2) := fun _ _ => of_units _
theorem resetComplete : ∀ x1 x2, Statement (.resetComplete x1 x2) := fun _ _ => of_units _
theorem powerStateRequest : ∀ x1 x2 x3, Statement (.powerStateRequest x1 x2 x3) := fun _ _ _ => of_units _
theorem powerTransitionDone : ∀ x1 x2, Statement (.powerTransitionDone x1 x2) := fun _ _ => of_units _
theorem stage : ∀ x1, Statement (.stage x1) := fun _ => of_units _
theorem stageDone : ∀ x1 x2, Statement (.stageDone x1 x2) := fun _ _ => of_units _
theorem updateAbort : ∀ x1, Statement (.updateAbort x1) := fun _ => of_units _
theorem activate : ∀ x1, Statement (.activate x1) := fun _ => of_units _
theorem commitSvn : ∀ x1, Statement (.commitSvn x1) := fun _ => of_units _
theorem revoke : ∀ x1, Statement (.revoke x1) := fun _ => of_units _
theorem challenge : ∀ x1, Statement (.challenge x1) := fun _ => of_units _
theorem jtagUnlock : ∀ x1, Statement (.jtagUnlock x1) := fun _ => of_units _
theorem extend : ∀ x1, Statement (.extend x1) := fun _ => of_units _
theorem trialTimeout : ∀ x1, Statement (.trialTimeout x1) := fun _ => of_units _
theorem attestRequest : ∀ x1 x2, Statement (.attestRequest x1 x2) := fun _ _ => of_units _
theorem attestReportDone : ∀ x1, Statement (.attestReportDone x1) := fun _ => of_units _
theorem bootReq : ∀ x1, Statement (.bootReq x1) := fun _ => of_units _
theorem bootData : ∀ x1 x2, Statement (.bootData x1 x2) := fun _ _ => of_units _
theorem coalescerTake : Statement .coalescerTake := of_units _
theorem fatalEventLog : Statement .fatalEventLog := of_units _
theorem intAck : ∀ x1, Statement (.intAck x1) := fun _ => of_units _
theorem fltClear : ∀ x1, Statement (.fltClear x1) := fun _ => of_units _
theorem stormClear : ∀ x1, Statement (.stormClear x1) := fun _ => of_units _
theorem fltLogRead : ∀ x1 x2, Statement (.fltLogRead x1 x2) := fun _ _ => of_units _
theorem digestMsg : ∀ x1 x2 x3 x4 x5 x6, Statement (.digestMsg x1 x2 x3 x4 x5 x6) := fun _ _ _ _ _ _ => of_units _
theorem lossOfHbmTraining : ∀ x1 x2 x3, Statement (.lossOfHbmTraining x1 x2 x3) := fun _ _ _ => of_units _
theorem managementMemoryError : ∀ x1 x2, Statement (.managementMemoryError x1 x2) := fun _ _ => of_units _
theorem bringupBound : ∀ x1, Statement (.bringupBound x1) := fun _ => of_units _
theorem mkaSessionLoss : ∀ x1 x2, Statement (.mkaSessionLoss x1 x2) := fun _ _ => of_units _

end Sys2Proof.Laws.Wf
end

