-- ==== Sys2Proof/Laws/Report.lean ====
section
/-! SUPPORT. What recording and reporting a cause can change when no master freezes: registers, and the coalescer with the
event log (R23, R24, R420, R425, R427). -/

namespace Sys2Proof.Machine

open Sys2Proof

/-- Registers, the coalescer and the event log apart, two states agree. -/
def SameButReports (s t : State) : Prop := t = { s with regs := t.regs, faults := t.faults }

theorem SameButReports.refl (s : State) : SameButReports s s := rfl

theorem SameButReports.trans {s t u : State} (h : SameButReports s t) (g : SameButReports t u) : SameButReports s u := by
  unfold SameButReports at *
  rw [g, h]

theorem rset_same (k : Nat) (v : Word) (s : State) : SameButReports s (rset k v s) := rfl

theorem setReg_same (cls inst off : Nat) (v : Word) (s : State) : SameButReports s (setReg cls inst off v s) := rfl

theorem rset64_same (k : Nat) (v : Dword) (s : State) : SameButReports s (rset64 k v s) := rfl

theorem setFreshPage_same (f : FreshPage) (s : State) : SameButReports s (setFreshPage f s) := rfl

theorem recordCause_same (cls inst bit fclass detail : Nat) (s : State) :
    SameButReports s (recordCause cls inst bit fclass detail s) := by
  unfold recordCause
  extract_lets sum cnt first fr s1 s2 s3
  have h : SameButReports s s3 :=
    ((setFreshPage_same _ s).trans (setReg_same cls inst 0x10 _ s1)).trans (setReg_same cls inst 0x1C _ s2)
  clear_value s3
  split
  · exact h.trans (setReg_same cls inst 0x18 _ s3)
  · exact (h.trans (setReg_same cls inst 0x18 _ s3)).trans (rset64_same _ _ _)

theorem bump48Quiet_same (k n : Nat) (s : State) : SameButReports s (bump48Quiet k n s) := by
  unfold bump48Quiet
  dsimp only
  split <;> rfl

theorem logEvent_same (code cls inst fclass : Nat) (d : List Byte) (s : State) :
    SameButReports s (logEvent code cls inst fclass d s) := by
  unfold logEvent
  lift_lets
  intro f pos gone e u
  have hu : SameButReports s u := rfl
  clear_value u
  dsimp only
  split
  · have h1 := hu.trans (bump48Quiet_same (regKey 0x13 0 0x70 0) 1 u)
    split <;> split
    · exact (h1.trans (recordCause_same ..)).trans (recordCause_same ..)
    · exact h1.trans (recordCause_same ..)
    · exact h1.trans (recordCause_same ..)
    · exact h1
  · exact hu

theorem dropReport_same (key : Nat) (s : State) : SameButReports s (dropReport key s) := by
  unfold dropReport
  dsimp only
  have h1 := (bump48Quiet_same (regKey 0x13 0 0x60 0) 1 s).trans (recordCause_same 0x13 0 0 0 key _)
  split <;> split
  · exact h1.trans (recordCause_same ..)
  · refine ((h1.trans (recordCause_same 0x13 0 2 0 0 _)).trans ?_).trans (logEvent_same ..)
    rfl
  · exact h1
  · refine (h1.trans ?_).trans (logEvent_same ..)
    rfl

theorem enqueueReport_same (r : Report) (s : State) : SameButReports s (enqueueReport r s) := by
  unfold enqueueReport
  split
  · exact dropReport_same ..
  · rfl

theorem enqueueReports_same (mk : Nat → Report) (l : List Nat) (s : State) : SameButReports s (enqueueReports mk l s) := by
  induction l generalizing s with
  | nil => rfl
  | cons k t ih => exact (enqueueReport_same _ s).trans (ih _)

/-- Recording and reporting a cause freezes nothing by itself. -/
theorem record_same (cls inst bit fclass detail : Nat) (keys : List Nat) (s : State) :
    SameButReports s (record cls inst bit fclass detail keys s) := by
  unfold record
  dsimp only
  have h := recordCause_same cls inst bit fclass detail s
  split
  · exact h
  · split
    · refine h.trans ?_
      rfl
    · exact h.trans (enqueueReports_same ..)

/-- A correctable cause changes registers, the coalescer and the event log only. -/
theorem raiseCe_same (cls inst bit detail : Nat) (s : State) : SameButReports s (raiseCe cls inst bit detail s) := by
  unfold raiseCe raise
  split
  · rfl
  · exact record_same ..

theorem bump48_same (cls inst off bank n : Nat) (o : Option (Nat × Nat)) (s : State) :
    SameButReports s (bump48 cls inst off bank n o s) := by
  unfold bump48
  dsimp only
  split
  · split
    · exact (bump48Quiet_same ..).trans (raiseCe_same ..)
    · exact bump48Quiet_same ..
  · exact bump48Quiet_same ..

theorem bump32_same (cls inst off bank n : Nat) (o : Option (Nat × Nat)) (s : State) :
    SameButReports s (bump32 cls inst off bank n o s) := by
  unfold bump32
  dsimp only
  split
  · rfl
  · split
    · split
      · exact (rset_same ..).trans (raiseCe_same ..)
      · exact rset_same ..
    · exact rset_same ..

end Sys2Proof.Machine
end

