-- ==== Sys2Proof/Tests/Slice0.lean ====
section
/-! SUPPORT. Tests: the checks of WellFormed, small steps of some commands, and for every statement states and operands that
meet its hypotheses. -/

namespace Sys2Proof.Tests

open Sys2Proof Sys2Proof.Machine

set_option maxRecDepth 8000
set_option Elab.async false

/-! ## WellFormed: each kind of unit number is refused at its count, and accepted below it -/

theorem test_wf_core : (Instr.coreReset .trotos 9215).wf = true ∧ (Instr.coreReset .trotos 9216).wf = false := by decide

theorem test_wf_source : (Instr.release (.frame 31)).wf = true ∧ (Instr.release (.frame 32)).wf = false := by decide

theorem test_wf_cluster : (Instr.clusterReset .trotos 575).wf = true ∧ (Instr.clusterReset .trotos 576).wf = false := by decide

theorem test_wf_partition :
    (Instr.partitionReset .trotos 15).wf = true ∧ (Instr.partitionReset .trotos 16).wf = false := by decide

theorem test_wf_region : (Instr.drainEnd 0 (.cluster 575)).wf = true ∧ (Instr.drainEnd 0 (.partition 16)).wf = false ∧
    (Instr.drainEnd 0 (.core 9216)).wf = false := by decide

theorem test_wf_rail : (Instr.railFault 8).wf = true ∧ (Instr.railFault 9).wf = false := by decide

theorem test_wf_physical_core : (Instr.coreFail 0 ⟨15, 23, 25⟩).wf = true ∧ (Instr.coreFail 0 ⟨16, 0, 0⟩).wf = false ∧
    (Instr.coreFail 0 ⟨0, 24, 0⟩).wf = false ∧ (Instr.coreFail 0 ⟨0, 0, 26⟩).wf = false := by decide

theorem test_wf_plane :
    (Instr.recvComplete 0 0 1 ⟨[]⟩).wf = true ∧ (Instr.recvComplete 0 0 2 ⟨[]⟩).wf = false := by decide

theorem test_wf_engine : (Instr.reduceDescriptor 0 13 3 (.grid 7)).wf = true ∧
    (Instr.reduceDescriptor 0 14 0 (.grid 0)).wf = false ∧ (Instr.reduceDescriptor 0 0 4 (.grid 0)).wf = false ∧
    (Instr.reduceDescriptor 0 0 0 (.grid 8)).wf = false ∧ (Instr.reduceDescriptor 0 0 0 (.link 4)).wf = false ∧
    (Instr.reduceUnitDeliver 0 0 0 16 0).wf = false := by decide

theorem test_wf_memory : (Instr.moveIssue 7 0).wf = true ∧ (Instr.moveIssue 8 0).wf = false ∧
    (Instr.windowWrite .trotos 256 .base 0).wf = false ∧ (Instr.scrubLine 0 24 0 []).wf = false ∧
    (Instr.keyLoad .trotos 64).wf = false ∧ (Instr.sweepLine 0 0 24 0 []).wf = false := by decide

theorem test_wf_links : (Instr.linkDown 0 55 0).wf = true ∧ (Instr.linkDown 0 56 0).wf = false ∧
    (Instr.ethLinkChange 0 7 true).wf = true ∧ (Instr.ethLinkChange 0 8 true).wf = false ∧
    (Instr.sakInstall 0 4 ⟨[], [], 0, 0, 0, 0⟩ 0).wf = false ∧ (Instr.qpReset .trotos 1024).wf = false ∧
    (Instr.sourceReset .trotos 32).wf = false := by decide

theorem test_wf_others : (Instr.cairnSeal 0 4).wf = false ∧ (Instr.rngKeyCommit .trotos 4096 0).wf = false ∧
    (Instr.nummonClear .trotos 4096).wf = false ∧ (Instr.fltLogRead .trotos 8).wf = false ∧
    (Instr.managementMemoryError 4 true).wf = false ∧ (Instr.spareFillDone 0 ⟨16, [], []⟩).wf = false := by decide

/-- A command that names an absent unit stops with the fault that names it. -/
theorem test_absent_unit : exec (.coreReset .trotos 9216) State.reset = .fault (.noSuchUnit "core" 9216) := rfl

/-- The opcode table gives no row bits, so no word spells a command. -/
theorem test_decode_none : decodeTableWord 32 0 = none ∧ State.reset.withFetchWord 32 0 = State.reset := by decide +kernel

/-! ## States that the tests and witnesses share -/

/-- What a command leaves, seen through `f`. -/
def after {α : Type} (i : Instr) (s : State) (f : State → α) : Option α :=
  match exec i s with
  | .next t => some (f t)
  | _ => none

/-- The state after reset, with some registers set, in rising order of their keys. -/
def withRegs (l : List (Nat × Word)) : State := { State.reset with regs := l }

/-- A device that is up, with some registers set. -/
def upWith (l : List (Nat × Word)) : State :=
  { withRegs l with dev := { DevSt.reset with up := true, trotos := true } }

/-- An image that gives every Ridge to partition 0, with one training job, which has
windows 0 and 1. -/
def image : Image := ⟨0, 4096, 1, 0, 1, 4, 1, 0, List.replicate 16 0, [⟨0, false, 1, 3⟩]⟩

/-- Window 0 over the hub cache of Cirque 0 and window 1 over the first 4,096 pages of HBM, both of job 0, with every right. -/
def windows : List (Nat × Word) :=
  [(regKey 6 0 0x200 0, 0xF000000), (regKey 6 0 0x204 0, 0xF003FFF), (regKey 6 0 0x208 0, 0x83F1),
   (regKey 6 0 0x214 0, 0xFFF), (regKey 6 0 0x218 0, 0x3F1)]

/-- A device that runs the image, partition 0 RUNNING, core 0 as given, at cycle 100 of a tick that began at 96. -/
def withCore (x : Core) : State :=
  { upWith ([(regKey 3 0 8 0, 1), (regKey 4 0 8 0, 1), (regKey 5 0 8 0, 1), (regKey 6 0 8 0, 1)] ++ windows) with
    now := 100, cores := [(0, x)], parts := [(0, ⟨1, none, false, false⟩)],
    sched := { Sched.reset with active := some image },
    tick := { Tick.reset with running := true, boundAt := 96, frameAt := 64, frameDone := true } }

/-- A parked stream. -/
def parked : StreamSt := ⟨0, 100, some 100, none, none⟩

/-- A core with a word at the head of its forward stream, tiles 1 to 5 in SRAM and every tag valid. -/
def headCore (w : Dword) (tiles : List (Nat × Dword)) : Core :=
  { Core.reset with ist := [(0, w)], f := .reset 100, b := parked, u := parked, tiles := tiles, valid := BitVec.allOnes 512 }

/-- A descriptor of `n` lines from line `b` in a format. -/
def tile (b n fmt : Nat) : Dword := BitVec.ofNat 64 (b + 2 ^ 13 * n + 2 ^ 26 * fmt)

/-- Tiles 1 to 5, of 64 lines each, in FP32. -/
def fp32Tiles : List (Nat × Dword) := (List.range 5).map fun k => (k + 1, tile (64 * k) 64 0)

/-! ## The words of the core rows, written out from Tables 3.6 to 3.14 -/

/-- The word of a CTL instruction: class 0, op in [46:43], operands in [15:0]. -/
def ctlWord (op rest : Nat) : Dword := BitVec.ofNat 64 (2 ^ 43 * op + rest)

/-- The word of a VEC instruction: class 2, op in [46:41], dst 3, srcA 1, srcB 2, imm in [7:0]. -/
def vecWord (op imm : Nat) : Dword := BitVec.ofNat 64 (2 ^ 60 * 2 + 2 ^ 41 * op + 2 ^ 32 * 3 + 2 ^ 23 * 1 + 2 ^ 14 * 2 + imm)

/-- The word of a MOV instruction: class 3, op in [46:44], tag 1. -/
def movWord (op : Nat) : Dword := BitVec.ofNat 64 (2 ^ 60 * 3 + 2 ^ 44 * op + 2 ^ 35 * 1)

/-- The word of a SCAL instruction: class 4, op in [46:43], d 1, a 2, tag 3, imm in [19:0]. -/
def scalWord (op imm : Nat) : Dword := BitVec.ofNat 64 (2 ^ 60 * 4 + 2 ^ 43 * op + 2 ^ 39 * 1 + 2 ^ 35 * 2 + 2 ^ 26 * 3 + imm)

/-- The word of a TAG instruction: class 5, op in [46:44], tag in [43:35]. -/
def tagWord (op tag : Nat) : Dword := BitVec.ofNat 64 (2 ^ 60 * 5 + 2 ^ 44 * op + 2 ^ 35 * tag)

/-- The word of a VER instruction: class 6, op in [46:44], tag 7, ring 2, stamp 1. -/
def verWord (op : Nat) : Dword := BitVec.ofNat 64 (2 ^ 60 * 6 + 2 ^ 44 * op + 2 ^ 35 * 7 + 2 ^ 29 * 2 + 2 ^ 25 * 1)

/-- The word of an MMA: class 1, dst 3, A 1, B 2, shape 0, one K step. -/
def mmaWord : Dword := BitVec.ofNat 64 (2 ^ 60 * 1 + 2 ^ 38 * 3 + 2 ^ 29 * 1 + 2 ^ 20 * 2)

/-- A state in which the row of a class and opcode issues. -/
def issuing (cls op : Nat) : State :=
  match cls with
  | 0 => withCore (headCore (ctlWord op 0) [])
  | 1 => withCore (headCore mmaWord [(1, tile 0 512 1), (2, tile 512 512 1), (3, tile 1024 1024 0)])
  | 2 =>
    if op = 0x20 then withCore { headCore (vecWord op 1) [(1, tile 0 64 0), (2, tile 64 64 0), (3, tile 128 32 1),
      (4, tile 192 64 0), (5, tile 256 1 0)] with sregs := [(0, BitVec.ofNat 32 (4 + 2 ^ 18 * 5))] }
    else if op = 0x21 then withCore (headCore (vecWord op 0) [(1, tile 0 64 0), (2, tile 64 32 1), (3, tile 128 16 6),
      (4, tile 192 2 0xB)])
    else withCore (headCore (vecWord op 0) fp32Tiles)
  | 3 => withCore (headCore (movWord op) fp32Tiles)
  | 4 => withCore (headCore (scalWord op 5) [])
  | 5 => withCore (headCore (tagWord op 9) [])
  | _ => withCore { headCore (verWord op) [] with
      slots := if op = 2 then [⟨7, 2, .filling, 4, 0⟩] else [⟨7, 2, .current, 4, 1⟩],
      stamps := if op = 1 then [⟨1, 2, 7, 4⟩] else [] }

/-- The word at the head in that state. -/
def issuingWord (cls op : Nat) : Dword := headWord (Machine.core (issuing cls op) 0) .f

/-- Every core row issues somewhere. -/
theorem witness_CoreInstructionsIssue : ∀ k ∈ coreRows.map (·.2),
    HeadIssues k.1 k.2 0 0 .f (issuingWord k.1 k.2) (issuing k.1 k.2) := by
  unfold HeadIssues; decide +kernel

/-- TAG_CLR at the head, of a tag that a completion of the same cycle sets. -/
def tagSetNow : State := withCore { headCore (tagWord 1 9) [] with tagAt := [(9, ⟨101, 101, 0⟩)] }

/-- The premises of the statements about single core rows. -/
theorem witness_ControlAndScalarInstructionsAct : (issuing 4 2).Canonical ∧
    sregOf (issuedCore (issuing 0 3) 100 0 .f (issuingWord 0 3)) 0 ≠ 1 ∧
    (sget (fun _ => TagTime.zero) (issuedCore (issuing 5 1) 100 0 .f (issuingWord 5 1)).tagAt
      (tagTag (issuingWord 5 1))).setAt ≠ 101 ∧
    HeadIssues 5 1 0 0 .f (issuingWord 5 1) tagSetNow ∧
    (sget (fun _ => TagTime.zero) (issuedCore tagSetNow 100 0 .f (issuingWord 5 1)).tagAt
      (tagTag (issuingWord 5 1))).setAt = 101 :=
  ⟨⟨by decide +kernel, by decide +kernel, by decide +kernel, by decide +kernel, by decide +kernel, by decide +kernel,
    by decide +kernel, by decide +kernel, by decide +kernel⟩, by decide +kernel, by decide +kernel,
    by unfold HeadIssues; decide +kernel, by decide +kernel⟩

theorem witness_VersionInstructionsMoveTheRing :
    ringSlot (issuedCore (issuing 6 0) 100 0 .f (issuingWord 6 0)) (tagTag (issuingWord 6 0)) = some ⟨7, 2, .current, 4, 1⟩ ∧
    ringSlot (issuedCore (issuing 6 2) 100 0 .f (issuingWord 6 2)) (tagTag (issuingWord 6 2)) = some ⟨7, 2, .filling, 4, 0⟩ := by
  decide +kernel

/-- A word of a reserved class at the head, and one whose source is not valid by its bound. -/
def badHead : State := withCore (headCore (BitVec.ofNat 64 (2 ^ 60 * 9)) [])
def lateHead : State := withCore { headCore (vecWord 0 0) fp32Tiles with valid := 0 }

theorem witness_HeadsFaultSlipOrWait : coreRuns badHead 0 = true ∧ atHead badHead.now (streamOf (Machine.core badHead 0) .f) = true ∧
    iLegal (headWord (Machine.core badHead 0) .f) = false ∧
    iLegal (headWord (Machine.core (issuing 0 0) 0) .u) = true ∧
    mayIssue (issuing 0 0) 0 100 .u (headWord (Machine.core (issuing 0 0) 0) .u) = false ∧
    coreRuns lateHead 0 = true ∧ heldByDeferral lateHead 0 (iJob (headWord (Machine.core lateHead 0) .f)) = false ∧
    notReadyAt (Machine.core lateHead 0) .f = some 100 := by decide +kernel

/-! ## Core instructions, one step each -/

/-- LI writes its sign-extended immediate (Table 3.13). -/
theorem test_li : after (.li 0 0 .f .ok) (withCore (headCore (scalWord 0 0xFFFFF) [])) (fun t => sregOf (Machine.core t 0) 1) =
    some 0xFFFFFFFF := by decide +kernel

/-- ADDI wraps (Table 3.13). -/
theorem test_addi : after (.addi 0 0 .f .ok)
    (withCore { headCore (scalWord 1 1) [] with sregs := [(2, 0xFFFFFFFF)] }) (fun t => sregOf (Machine.core t 0) 1) = some 0 := by
  decide +kernel

/-- TDB changes the base line alone. -/
theorem test_tdb : after (.tdb 0 0 .f .ok)
    (withCore { headCore (scalWord 2 3) [(3, tile 1 64 1)] with sregs := [(2, 5)] }) (fun t => tileOf (Machine.core t 0) 3) =
    some (tile 8 64 1) := by decide +kernel

/-- LOOP falls through as its register reaches 0 (Table 3.8). -/
theorem test_loop_ends : after (.loop 0 0 .f .ok)
    (withCore { headCore (ctlWord 3 (2 ^ 10 * 4 + 17)) [] with sregs := [(4, 1)] })
    (fun t => ((Machine.core t 0).f.pc, sregOf (Machine.core t 0) 4)) = some (1, 0) := by decide +kernel

/-- LOOP from 0 counts down to 2^32 − 1 and jumps. -/
theorem test_loop_wraps : after (.loop 0 0 .f .ok) (withCore (headCore (ctlWord 3 (2 ^ 10 * 4 + 17)) []))
    (fun t => ((Machine.core t 0).f.pc, sregOf (Machine.core t 0) 4)) = some (17, 0xFFFFFFFF) := by decide +kernel

theorem test_jump : after (.jump 0 0 .f .ok) (withCore (headCore (ctlWord 2 0x3FF) [])) (fun t => (Machine.core t 0).f.pc) =
    some 0x3FF := by decide +kernel

theorem test_fend : after (.fend 0 0 .f .ok) (withCore (headCore (ctlWord 1 0) [])) (fun t => (Machine.core t 0).f.parked) =
    some (some 100) := by decide +kernel

theorem test_mask : after (.mask 0 0 .f .ok) (withCore (headCore (ctlWord 4 0x8001) [])) (fun t => (Machine.core t 0).mask) =
    some 0x8001 := by decide +kernel

/-- CTOK sends its payload on its route into the core's own switch. -/
theorem test_ctok : after (.ctok 0 0 .f .ok) (withCore (headCore (ctlWord 5 (2 ^ 8 * 5 + 3)) []))
    (fun t => t.fab.wires.map fun y => (y.ch, y.inp, y.flit.route, y.flit.payload, y.due)) =
    some [(.control, .l, 5, 3, 101)] := by decide +kernel

theorem test_tag_clr : after (.tagClr 0 0 .f .ok) (withCore (headCore (tagWord 1 9) [])) (fun t => (Machine.core t 0).valid.getLsbD 9) =
    some false := by decide +kernel

/-- A tag set in the cycle of the TAG_CLR stays valid (R93). -/
theorem test_tag_clr_after_set : after (.tagClr 0 0 .f .ok) tagSetNow (fun t => (Machine.core t 0).valid.getLsbD 9) =
    some true := by decide +kernel

/-- VPUB gives the version after the ring's last one (Table 7.3). -/
theorem test_vpub : after (.vpub 0 0 .f .ok) (issuing 6 2) (fun t => (ringSlot (Machine.core t 0) 7).map fun y => (y.st, y.ver)) =
    some (some (.current, 0)) := by decide +kernel

theorem test_vread : after (.vread 0 0 .f .ok) (issuing 6 0) (fun t => (ringSlot (Machine.core t 0) 7).map (·.readers)) =
    some (some 2) := by decide +kernel

theorem test_mma_queues : after (.mma 0 0 .f .ok) (issuing 1 0) (fun t => (Machine.core t 0).arrayQ.map (·.word)) =
    some [mmaWord] := by decide +kernel

theorem test_send_queues : after (.send 0 0 .f .ok) (issuing 3 0) (fun t => (Machine.core t 0).movQ.length) = some 1 := by
  decide +kernel

/-- A reserved class freezes the core with illegal_instr (R98). -/
theorem test_illegal : after (.nop 0 0 .f .ok) badHead (fun t => (reg t 5 0 0x10, (Machine.core t 0).frozen)) = some (0x10, true) := by
  decide +kernel

/-- An uncorrectable word freezes the core with ist_ue (R97). -/
theorem test_ist_ue : after (.nop 0 0 .f (.uncorrectable 0)) (issuing 0 0) (fun t => (reg t 5 0 0x10, (Machine.core t 0).frozen)) =
    some (8, true) := by decide +kernel

/-- B goes before F (R102). -/
theorem test_b_first : after (.nop 0 0 .f .ok) (withCore { headCore (ctlWord 0 0) [] with b := .reset 100 })
    (fun t => (Machine.core t 0).f.pc) = some 0 := by decide +kernel

/-! ## The block and the device -/

theorem witness_StepTakesTheFrontCommand :
    ({ State.reset with pending := [.gatherBoundary, .coalescerTake] } : State).pending = .gatherBoundary :: [.coalescerTake] ∧
    State.reset.pending = [] := by decide

theorem witness_CommandsStopOnlyOnAbsentUnits : (Instr.keyErase 0 63).wf = true ∧ (Instr.keyErase 0 64).wf = false ∧
    (∃ u ∈ (Instr.keyErase 0 64).units, u.count ≤ u.number) ∧ step State.reset = .next State.reset :=
  ⟨by decide, by decide, by decide, rfl⟩

theorem witness_EveryStepKeepsTheCanonicalForm : (issuing 2 0).Canonical ∧
    step (issuing 2 0) = .next (issuing 2 0) :=
  ⟨⟨by decide +kernel, by decide +kernel, by decide +kernel, by decide +kernel, by decide +kernel, by decide +kernel,
    by decide +kernel, by decide +kernel, by decide +kernel⟩, rfl⟩

theorem witness_CommandsChangeOnlyWhatTheyWrite : (after (.intAck .trotos) State.reset fun _ => ()) = some () ∧
    Fld.sram ∉ writes (.intAck .trotos) ∧ Fld.regs ∉ writes (.intAck .trotos) := by decide +kernel

theorem witness_WellFormedQueuesDrain :
    ({ State.reset with pending := [.railFault 8, .moveIssue 7 65535] } : State).QueueWf := by
  unfold State.QueueWf; decide

theorem witness_ResetStateIsTheSpecs : (regRow? 5 9215 8).isSome = true ∧ regAddr 5 9215 8 < 2 ^ 32 ∧
    regAddr 5 9215 8 ≠ regAddr 0x12 0 0x54 ∧ (regRow? 0 0 0x40).isSome = true := by decide +kernel

/-- What a bring-up finds: nothing fails, and the fuses are blank. -/
def bringup : Bringup :=
  { bootSrc := 0, boardPos := 0, sbSel := false, fuseError := false, fuses := fusesBlank, flash := none, bistFail := [],
    dieBistFail := [], training := [], bridges := [], saddles := [], microErrs := [], flashWriteOk := true, ms := 0 }

theorem witness_ColdResetStartsAnew : (upWith []).dev.up = true ∧ State.reset.dev.up = false ∧
    ({ bringup with fuseError := true } : Bringup).fuseError = true := by decide

theorem witness_WarmResetClearsTheDevice : (withCore Core.reset).dev.up = true ∧
    (WarmCause.pin = .pin ∨ WarmCause.pin = .register ∨ WarmCause.pin = .sideband) ∧
    ({ upWith [] with dev := { (upWith []).dev with warm := some .watchdog } } : State).dev.warm = some .watchdog ∧
    (upWith []).dev.warm ≠ some .fatal := by decide

/-- Every stack trained. -/
def trained : State :=
  { upWith [(regKey 1 0 0x4C 0, 0x10000)] with mem := { Mem.reset with stk := [(23, { Stack.reset with trained := true })] } }

/-- A reading of 104 °C, and a core that failed in service. -/
def warmDie : Thermal := ⟨[(0, 0, 104 * 16)], [], [], [], []⟩
def failedCore : State :=
  { upWith [] with dev := { (upWith []).dev with toLog := [(⟨15, 23, 25⟩, 7)], bad := [⟨15, 23, 25⟩] } }

theorem witness_DeviceReportsAreTaken : trained.dev.up = true ∧ (stackOf trained 23).trained = true ∧
    trained.dev.trotos = true ∧ (reg trained 1 0 0x4C).getLsbD 16 = true ∧ devReady trained = false ∧
    warmDie.bad = [] ∧ warmDie.hbmTemps = [] ∧
    (∀ d ∈ dieCodes, (hottest (modDev (storeReadings warmDie) trained) d).2 < 105 * 16) ∧
    (Instr.defectLogWrite ⟨15, 23, 25⟩ true).wf = true ∧ failedCore.dev.trotos = true ∧
    (failedCore.dev.toLog.find? (·.1 == ⟨15, 23, 25⟩)) = some (⟨15, 23, 25⟩, 7) ∧
    logNames (defectLog failedCore) ⟨15, 23, 25⟩ = false ∧ (defectLog failedCore).entries.length < 1024 := by decide +kernel

/-- Readings at the thresholds: a die at 105 °C, one at 115 °C, a sensor out of range, and a temperature of stack 23. -/
def dieAt (d temp : Nat) : Thermal := ⟨[(d, 3, (temp * 16 : Int))], [], [], [], []⟩
def outOfRange : Thermal := ⟨[], [(4, 7)], [], [], []⟩
def stackAt (temp : Nat) : Thermal := ⟨[], [], [], [(23, temp)], []⟩
/-- `trained` where CREST_HEART has not been written for the timeout. -/
def stale : State := { trained with now := 940000 }

theorem witness_DeviceReportsAreTaken_thresholds : 0 ∈ dieCodes ∧ (hottest trained 0).2 < 105 * 16 ∧
    105 * 16 ≤ (hottest (modDev (storeReadings (dieAt 0 105)) trained) 0).2 ∧
    (hottest (modDev (storeReadings (dieAt 0 105)) trained) 0).2 < 115 * 16 ∧
    115 * 16 ≤ (hottest (modDev (storeReadings (dieAt 0 115)) trained) 0).2 ∧
    (∀ e ∈ dieCodes, e ≠ 0 → (hottest (modDev (storeReadings (dieAt 0 115)) trained) e).2 < 105 * 16) ∧
    trained.dev.sensorBad.contains (16 * 4 + 7) = false ∧ (dieCauses 4).fault ≠ none ∧
    (∀ e ∈ dieCodes, (hottest (modDev (fun x => { x with sensorBad := x.sensorBad ++ [16 * 4 + 7] })
      (modDev (storeReadings outOfRange) trained)) e).2 < 105 * 16) ∧
    (∀ temp ∈ [84, 85, 95, 104, 105], (stackAt temp).hbmTemps = [(23, temp)] ∧ (stackAt temp).bad = [] ∧
      ∀ e ∈ dieCodes, (hottest (modDev (storeReadings (stackAt temp)) trained) e).2 < 105 * 16) ∧
    stackEnabled trained 23 = true ∧ (stackOf trained 23).temp < 95 := by decide +kernel

theorem witness_DeviceReportsAreTaken_bounds : stale.dev.up = true ∧ (reg stale 1 0 0x4C).getLsbD 16 = true ∧
    stale.dev.heartAt + 940000 * max 1 (field (reg stale 1 0 0x4C) 15 0) ≤ stale.now ∧ devReady stale = false := by decide +kernel

/-- A stack at 85 °C takes the double refresh rate, and one at 95 °C its warning (R41). -/
theorem test_stack_temperatures : after (.thermalSample (stackAt 85)) trained (fun t => ((stackOf t 23).doubleRefresh, reg t 7 23 0x10)) =
      some (true, 0) ∧
    after (.thermalSample (stackAt 95)) trained (fun t => reg t 7 23 0x10) = some 0x10 := by decide +kernel

/-- A loss of training is device-fatal (R251), and a bad cause bit stays in its own page. -/
theorem test_loss_of_training : after (.lossOfHbmTraining 0 23 1) trained
    (fun t => ((stackOf t 23).trained, reg t 7 23 0x10, reg t 7 22 0x10)) = some (false, 8, 0) := by decide +kernel

theorem test_rail_fault : after (.railFault 8) (upWith []) (fun t => reg t 0 0 0x10) = some 0x80 := by decide +kernel

/-- Cold reset keeps fuses and flash only (R375). -/
theorem test_cold_reset : after (.coldReset false)
    { withRegs [(regKey 0x12 0 0x48 0, 1)] with dev := { DevSt.reset with fuses := { fusesBlank with rollback := 5 } } }
    (fun t => (t.regs, t.dev.fuses.rollback)) = some ([], 5) := by decide +kernel

/-! ## Security, ticks and faults -/

/-- A package that holds nothing but headers. -/
def package : Package := ⟨⟨[], []⟩, ⟨[], []⟩, ⟨[], []⟩, []⟩

/-- Update states STAGED and FALLBACK, and a copy in progress. -/
def staged : State := upWith [(regKey 0x10 0 0x48 0, 1)]
def fallback : State := upWith [(regKey 0x10 0 0x48 0, 3)]
def copying : State := { upWith [] with sec := { SecSt.reset with staging := some package } }
/-- A newer version runs than the fused rollback version. -/
def newer : State := { upWith [] with sec := { SecSt.reset with svn := 1 } }

/-- The neutral element of the curve as a public key, and a signature of any message under it. -/
def anyKey : List Byte := 1 :: List.replicate 56 0
def anySig : List Byte := anyKey ++ List.replicate 57 0

/-- A SEC_BLOB of a command, for a key slot, with the challenge that is up. -/
def blobBytes (cmd slot : Byte) : List Byte :=
  [0, 0, 0, 0, cmd, 0, slot, 0] ++ List.replicate 32 5 ++ anyKey ++ List.replicate 3 0 ++ anySig
def blobbed (cmd slot : Byte) : State :=
  { upWith ((List.range 64).map fun i => (regKey 0x10 0 (0x100 + 4 * i) 0, BitVec.ofNat 32 (leNat ((blobBytes cmd slot).drop (4 * i) |>.take 4)))) with
    sec := { SecSt.reset with chal := some (List.replicate 32 5) },
    dev := { (upWith []).dev with fuses := { fusesBlank with programmed := 7, keyDigests := [shake256 64 anyKey] } } }

theorem edMul_zero_point (n k : Nat) : edMul n k edZero = edZero := by
  induction n generalizing k with
  | zero => rfl
  | succ n ih =>
    have h : edAdd edZero edZero = edZero := by decide +kernel
    simp only [edMul, h, ih]; split <;> rfl

theorem edMul_zero_scalar (n : Nat) (p : EdPoint) : edMul n 0 p = edZero := by
  induction n generalizing p with
  | zero => rfl
  | succ n ih => simp [edMul, ih]

/-- The neutral element as key verifies its signature of any message: witnesses need no secret. -/
theorem edVerify_any (m : List Byte) : edVerify anyKey m anySig = true := by
  have a : edDecode anyKey = some edZero := by decide +kernel
  have r : anySig.take 57 = anyKey := by decide +kernel
  have z : leNat (anySig.drop 57) = 0 := by decide +kernel
  have e : edEq edZero (edAdd edZero edZero) = true := by decide +kernel
  have l : (anySig.length == 114) = true := by decide +kernel
  have p : decide (0 < edL) = true := by decide +kernel
  simp only [edVerify, r, a, z, edMul_zero_point, Nat.mul_zero, edMul_zero_scalar, e, l, p, Bool.and_self]

theorem keyFused_blobbed (cmd slot : Byte) : keyFused (blobbed cmd slot) 0 anyKey = true := by
  show (shake256 64 anyKey == shake256 64 anyKey) = true
  exact beq_self_eq_true _

theorem slotUsable_blobbed (cmd slot : Byte) : slotUsable (blobbed cmd slot) 0 = true := by
  show (decide (0 ≤ 2) && (7 : BitVec 3).getLsbD 0 && !fusesBlank.revoked.getLsbD 0) = true
  decide

theorem blobCode_blobbed (cmd slot : Byte) (h : (cmd = 5 ∧ slot = 2) ∨ (cmd = 7 ∧ slot = 0)) :
    blobCode (blobbed cmd slot) cmd.toNat = 0 := by
  have b : secBlob (blobbed cmd slot) = blobBytes cmd slot ++ List.replicate 42 0 := by
    rcases h with ⟨rfl, rfl⟩ | ⟨rfl, rfl⟩ <;> decide +kernel
  have f : ((blobBytes cmd slot ++ List.replicate 42 0).drop 8).take 32 =
      List.replicate 32 5 ∧ leField (blobBytes cmd slot ++ List.replicate 42 0) 5 1 = 0 ∧
      ((blobBytes cmd slot ++ List.replicate 42 0).drop 0x28).take 57 = anyKey ∧
      ((blobBytes cmd slot ++ List.replicate 42 0).drop 0x64).take 114 = anySig ∧
      leField (blobBytes cmd slot ++ List.replicate 42 0) 4 1 = cmd.toNat := by
    rcases h with ⟨rfl, rfl⟩ | ⟨rfl, rfl⟩ <;> decide +kernel
  obtain ⟨f1, f2, f3, f4, f5⟩ := f
  have c : (blobbed cmd slot).sec.chal = some (List.replicate 32 5) := rfl
  simp only [blobCode, b, f1, f2, f3, f4, f5, slotUsable_blobbed, keyFused_blobbed, c, edVerify_any, beq_self_eq_true, firstCode,
    if_true]

theorem witness_SecurityCommandsTakeEffect_blobs : blobCode (blobbed 5 2) 5 = 0 ∧ leField (secBlob (blobbed 5 2)) 6 1 = 2 ∧
    leField (secBlob (blobbed 5 2)) 5 1 = 0 ∧ activeKeySlot (blobbed 5 2) = none ∧ blobCode (blobbed 7 0) 7 = 0 ∧
    secretsPresent (blobbed 7 0) = false :=
  ⟨blobCode_blobbed 5 2 (by decide), by decide +kernel, by decide +kernel, rfl, blobCode_blobbed 7 0 (by decide), rfl⟩

/-- A component of a kind, and a package whose components verify, in the hub cache of Cirque 0. -/
def header (kind : Byte) (body digest : List Byte) : List Byte :=
  leBytes 4 0x4D495746 ++ [kind, 0, 0, 0] ++ List.replicate 4 0 ++ leBytes 4 body.length ++ List.replicate 48 0 ++
  digest ++ anyKey ++ List.replicate 7 0 ++ anySig ++ List.replicate 14 0
/-- SHAKE256 of nothing, and of `microBody`. -/
def noDigest : List Byte :=
  beBytes 64 0x46b9dd2b0ba88d13233b3feb743eeb243fcd52ea62b81b82b50c27646ed5762fd75dc4ddd8c0f200cb05019d67b592f6fc821c49479ab48640292eacb3b7c4be
def microDigest : List Byte :=
  beBytes 64 0x1838b40fd82513698610e8891324bda6face154cf83c2ea09d72571fec771b908b7ff935c2edb675f8a6a19d86d9a00ba494f779383990d2c51548467ad1172f
def microBody : List Byte := header 3 [] noDigest
def goodPackage : Package := ⟨⟨header 1 [] noDigest, []⟩, ⟨header 2 microBody microDigest, microBody⟩, ⟨microBody, []⟩,
  Config.eventCharges microBody⟩
def packageBytes : List Byte := header 1 [] noDigest ++ header 2 microBody microDigest ++ microBody
def offered : State :=
  { blobbed 5 0 with
    hub := memPut [] 0 packageBytes,
    regs := [(regKey 0x10 0 0x4C 0, 0), (regKey 0x10 0 0x50 0, 0xF0), (regKey 0x10 0 0x54 0, 960)] }

theorem goodPackage_read : packageOf packageBytes = goodPackage := by
  have h : componentAt packageBytes = goodPackage.stage1 ∧
      componentAt (packageBytes.drop (320 + bodyLen goodPackage.stage1)) = goodPackage.stage2 ∧
      microHeaders 0 goodPackage.stage2.body = [0] ∧ componentAt goodPackage.stage2.body = goodPackage.microcode := by decide +kernel
  simp only [packageOf, microPlace, h.1, h.2.1, h.2.2.1, List.length_singleton, Nat.mod_one, List.getD_cons_zero, List.drop_zero,
    h.2.2.2]
  rfl

/-- A component verifies whose fields are right, with the neutral key in slot 0 and security version 0. -/
theorem verifyCode_any (s : State) (p : Package) (k : Nat) (u : slotUsable s 0 = true) (v : keyFused s 0 anyKey = true)
    (h1 : (complete (componentOf p k) && leField (componentOf p k).header 0 4 == 0x4D495746 &&
      leField (componentOf p k).header 4 1 == k && zeroRange (componentOf p k).header 7 8 &&
      zeroRange (componentOf p k).header 0x10 0x40 && zeroRange (componentOf p k).header 0xB9 0xC0 &&
      zeroRange (componentOf p k).header 0x132 0x140) = true)
    (h2 : keySlotOf (componentOf p k) = 0)
    (h3 : (decide (s.dev.fuses.rollback ≤ svnOf (componentOf p k)) &&
      (svnOf p.stage1 == svnOf p.stage2 && svnOf p.stage1 == svnOf p.microcode)) = true)
    (h4 : ((componentOf p k).header.drop 0x80).take 57 = anyKey) (h5 : ((componentOf p k).header.drop 0xC0).take 114 = anySig)
    (h6 : (shake256 64 (componentOf p k).body == ((componentOf p k).header.drop 0x40).take 64) = true) :
    verifyCode s p k = 0 := by
  simp only [verifyCode, firstCode, h1, h2, h3, h4, h5, h6, u, v, edVerify_any, if_true]

theorem goodPackage_verifies : packageCode offered goodPackage = 0 := by
  have u : slotUsable offered 0 = true := by decide +kernel
  have v : keyFused offered 0 anyKey = true := by
    show (shake256 64 anyKey == shake256 64 anyKey) = true
    exact beq_self_eq_true _
  have a : verifyCode offered goodPackage 1 = 0 :=
    verifyCode_any _ _ _ u v (by decide +kernel) (by decide +kernel) (by decide +kernel) (by decide +kernel) (by decide +kernel) (by decide +kernel)
  have b : verifyCode offered goodPackage 2 = 0 :=
    verifyCode_any _ _ _ u v (by decide +kernel) (by decide +kernel) (by decide +kernel) (by decide +kernel) (by decide +kernel) (by decide +kernel)
  have c : verifyCode offered goodPackage 3 = 0 :=
    verifyCode_any _ _ _ u v (by decide +kernel) (by decide +kernel) (by decide +kernel) (by decide +kernel) (by decide +kernel) (by decide +kernel)
  simp only [packageCode, List.map, a, b, c, firstCode, beq_self_eq_true, if_true]

theorem memBytes_memPut (l : List Byte) (a n : Nat) (h : a + n ≤ l.length) : memBytes (memPut [] 0 l) a n = (l.drop a).take n := by
  induction n generalizing a with
  | zero => simp [memBytes]
  | succ n ih =>
    have g : sget memZero (memPut [] 0 l) a = l.getD a 0 := by
      simpa using Machine.sget_memPut_in (m := []) (a := 0) (i := a) (l := l) rfl (by omega)
    rw [memBytes, g, ih (a + 1) (by omega), List.drop_eq_getElem_cons (by omega : a < l.length), List.take_succ_cons]
    simp [List.getD_eq_getElem?_getD, List.getElem?_eq_getElem (by omega : a < l.length)]

theorem offered_holds : physBytes offered 0xF000000000 960 = packageBytes := by
  have p : ∀ i ∈ List.range 15, isHubAddr (64 * (0xF000000000 / 64 + i)) = true ∧
      hubKey (64 * (0xF000000000 / 64 + i)) / 64 * 64 = 64 * i ∧ 64 * i + 64 ≤ packageBytes.length := by decide +kernel
  have q : ∀ i ∈ List.range 15, physLine offered (64 * (0xF000000000 / 64 + i)) = (packageBytes.drop (64 * i)).take 64 := by
    intro i hi
    rw [physLine, if_pos (p i hi).1, (p i hi).2.1]
    exact memBytes_memPut packageBytes _ 64 (p i hi).2.2
  have n : (0xF000000000 + 960 + 63) / 64 - 0xF000000000 / 64 = 15 := rfl
  rw [physBytes, n, List.map_congr_left q]
  decide +kernel

theorem witness_SecurityCommandsTakeEffect_stage : noSlots offered = false ∧
    (rget64 offered (regKey 0x10 0 0x4C 0)).toNat % 2 ^ 40 = 0xF000000000 ∧ field (reg offered 0x10 0 0x54) 25 0 = 960 ∧
    packageCode offered (packageOf (physBytes offered 0xF000000000 960)) = 0 ∧
    (crestRead [(0xF000000000, 15)] [] offered).1 = true :=
  ⟨by decide +kernel, by decide +kernel, by decide +kernel,
    by rw [offered_holds, goodPackage_read]; exact goodPackage_verifies, rfl⟩

theorem witness_SecurityCommandsTakeEffect : (Instr.extend (.frame 31)).wf = true ∧ staged.sec.staging = none ∧
    noSlots staged = false ∧ updState staged = 1 ∧ updState fallback = 3 ∧
    newer.dev.fuses.rollback < newer.sec.svn ∧ updState newer ≠ 1 ∧ newer.sec.staging = none ∧ offered.sec.staging = none := by
  decide +kernel

/-- A package of version 0 is STAGED while version 1 runs. -/
def newerStaged : State := { staged with sec := { SecSt.reset with svn := 1 } }

theorem witness_SecurityCommandsTakeEffect_commit : fit (.commitSvn (.frame 0)) newerStaged = true ∧
    newerStaged.sec.staging = none ∧ updState newerStaged = 1 ∧ field (reg newerStaged 0x10 0 0x48) 10 4 < newerStaged.sec.svn ∧
    (upWith []).sec.svn ≤ (upWith []).dev.fuses.rollback ∧ fit (.commitSvn .trotos) newer = true ∧
    newer.dev.fuses.rollback < newer.sec.svn := by decide +kernel

theorem test_activate : after (.activate .trotos) staged (fun t => (updState t, t.dev.flash.record.trial, t.dev.warm)) =
    some (2, true, some .firmware) := by decide +kernel

theorem test_extend : after (.extend .trotos) (upWith []) (fun t => (t.sec.result, t.sec.last, t.sec.extensions)) =
    some (0, 8, 1) := by decide +kernel

/-- A trial that began at cycle 0, a report being signed, and a boot over the network. -/
def trialling : State := { upWith [] with dev := { (upWith []).dev with trial := some 0 } }
def signing : State := { upWith [] with sec := { SecSt.reset with nonce := some [] } }
def netBoot : State := { upWith [] with sec := { SecSt.reset with netWait := some (bringup, false) } }

theorem witness_UpdateReportAndNetworkBootProceed : copying.sec.staging = some package ∧ trialling.dev.trial = some 0 ∧
    (upWith []).dev.trotos = true ∧ (upWith []).sec.nonce = none ∧ signing.sec.nonce = some [] ∧
    netBoot.sec.netWait = some (bringup, false) ∧ packageWhole (netBoot.sec.netData ++ padTo 1024 (List.replicate 1024 255)) = false := by
  decide +kernel

theorem witness_UpdateReportAndNetworkBootProceed_answered : netBoot.sec.netData = [] ∧
    ({ netBoot with sec := { netBoot.sec with netData := [0] } } : State).sec.netData ≠ [] ∧
    fit (.attestRequest .trotos 7) (upWith []) = true ∧
    trialling.now + 1222000000 ≤ 0 + 1222000000 ∧ ¬ trialling.now + 1222000001 ≤ 0 + 1222000000 := by decide +kernel

theorem test_boot_data : after (.bootData 0 (List.replicate 1024 255)) netBoot (fun t => (t.sec.netNext, t.sec.netData.length)) = some (1, 1024) := by
  decide +kernel

/-- A tick master that counts, in the cycle of a frame boundary not yet worked. -/
def counting : State := { withCore Core.reset with tick := { (withCore Core.reset).tick with frameDone := false } }
def master : State := upWith [(regKey 2 0 0x44 0, 1)]
/-- A follower of link 0, which is in UP; it counts, locked. -/
def follower (run : Bool) : State :=
  { upWith [(regKey 2 0 0x44 0, 2)] with
    now := 1000, links := [(0, { Link.reset with st := 5 }), (1, { Link.reset with st := 5 })],
    tick := { Tick.reset with running := run, locked := run, boundAt := 900 } }

theorem witness_BoundariesAdvanceTheTick : (withCore Core.reset).dev.up = true ∧
    ((withCore Core.reset).tick.running = true → (withCore Core.reset).tick.frameDone = true) ∧
    counting.tick.running = true ∧ counting.tick.frameDone = false := by decide +kernel

/-- The canonical form, as a test. -/
def canonical (s : State) : Bool :=
  swf regReset s.regs && swf memZero s.sram && swf memZero s.hub && swf memZero s.hbm && swf (fun _ => Core.reset) s.cores &&
  swf (fun _ => Part.reset) s.parts && swf (fun _ => Link.reset) s.links && swf (fun _ => RedEngine.reset) s.engines &&
  swf (fun _ => RngSt.reset) s.rng

/-- The follower one cycle earlier. -/
def onTime : State := { follower true with now := 999 }

theorem canonical_of {s : State} (h : canonical s = true) : s.Canonical := by
  simp only [canonical, Bool.and_eq_true] at h
  obtain ⟨⟨⟨⟨⟨⟨⟨⟨a, b⟩, c⟩, d⟩, e⟩, f⟩, g⟩, i⟩, j⟩ := h
  exact ⟨a, b, c, d, e, f, g, i, j⟩

theorem witness_TickControlAndMarkersAct : (Instr.tickStart .trotos 1).wf = true ∧ master.tick.running = false ∧
    tickRole master = 1 ∧ tickRole (follower false) = 2 ∧ (link (follower false) (upstream (follower false))).st = 5 ∧
    (follower true).tick.running = true ∧ tickRole (follower true) = 2 ∧ (follower true).tick.locked = true ∧
    (Instr.nummonClear .trotos 4095).wf = true ∧ (Instr.tickMarker 0 ⟨1, 0, none, 0, 0, false⟩).wf = true ∧
    (link (follower true) 1).st = 5 ∧ (1 : Nat) ≠ upstream (follower true) ∧ upstream (follower true) = 0 ∧
    (follower false).tick.running = false ∧
    ((follower false).tick.lastMarker : Int) - (follower false).tick.lastOff - (link (follower false) 0).mIn = 0 ∧
    canonical (follower true) = true ∧ canonical onTime = true ∧ markOffset onTime ⟨0, 1, none, 0, 0, false⟩ = 2 ∧
    markOffset (follower true) ⟨0, 1, none, 0, 0, false⟩ = 3 ∧ 0 < ticT (follower true) := by decide +kernel

theorem witness_TickControlAndMarkersAct_numbers : fit (.tickStart .trotos 1) master = true ∧
    fit (.tickStart .trotos 1) (follower true) = true ∧ fit (.nummonClear .trotos 4095) master = true ∧
    (Instr.tickMarker 0 ⟨1, 0, some 5, 0, 0, false⟩).wf = true ∧ canonical (follower false) = true ∧
    (link (follower false) 1).st = 5 ∧ (Instr.tickMarker 0 ⟨1, 0, none, 0, 0, true⟩).wf = true := by decide +kernel

/-- N advances at the boundary, one tick length after the last (R46). -/
theorem test_tick_boundary : after (.tickBoundary ⟨[], 0⟩) (withCore Core.reset) (fun t => (t.tick.n, t.tick.boundAt, t.now)) =
    some (1, 128, 128) := by decide +kernel

theorem test_tick_start : after (.tickStart .trotos 1) master (fun t => t.tick.startPending) = some true := by decide +kernel

/-- On a device that is no master TICK_START only raises cmd_ignored (R75). -/
theorem test_tick_start_ignored : after (.tickStart .trotos 1) (follower true) (fun t => (t.tick.startPending, reg t 2 0 0x10)) =
    some (false, 8) := by decide +kernel

/-- A marker 3 cycles from its expected cycle, 900 + 3 ticks of 32 + 1, is a tick slip (R51). -/
theorem test_marker_slip : after (.tickMarker 0 ⟨0, 1, none, 0, 0, false⟩) (follower true) (fun t => reg t 2 0 0x10) =
    some 1 := by decide +kernel

/-- Reports: one whose key is new, one whose key has an entry, and one with no entry free. -/
def report : Report := ⟨7, 5, 7, 3, 1, 0, 0, 0⟩
def reported (l : List (Nat × FltEntry)) : State := { upWith [] with faults := { Faults.reset with queue := [report], entries := l } }
def entry (k : Nat) : FltEntry := ⟨k, 5, k, 3, 1, 0, 1, none⟩
def full : List (Nat × FltEntry) := (List.range 64).map fun i => (i, entry (100 + i))
/-- An event in the log, selected by FLT_LOG_IDX, an entry selected, and a device-fatal report that asks for a reset. -/
def logged : State := { reported [(0, entry 9)] with faults :=
  { Faults.reset with entries := [(0, entry 9)], log := [(0, ⟨0, 1, 5, 1, 0, 7, [], false, 0⟩)], head := 1 } }
def dying : State := { upWith [] with
  faults := { Faults.reset with fatal := [report] }, dev := { (upWith []).dev with warm := some .fatal } }

theorem witness_CoalescerAndLogTakeEffect : (reported []).faults.queue = [report] ∧
    entryOfKey (reported [(0, entry 7)]) 7 = some (0, entry 7) ∧ entryOfKey (reported []) 7 = none ∧
    ((List.range 64).find? fun i => (fltEntry (reported [(0, entry 9)]) i).isNone) = some 1 ∧
    entryOfKey (reported full) 7 = none ∧ ((List.range 64).find? fun i => (fltEntry (reported full) i).isNone) = none ∧
    dying.faults.fatal = [report] ∧ dying.dev.warm = some .fatal ∧ (Instr.intAck .trotos).wf = true ∧
    fit (.intAck .trotos) logged = true ∧ fit (.fltLogRead .trotos 7) logged = true ∧ (entry 7).cnt + 1 ≠ 2 ^ 32 - 1 ∧
    entryOfKey (reported [(0, { entry 7 with cnt := 2 ^ 32 - 2 })]) 7 = some (0, { entry 7 with cnt := 2 ^ 32 - 2 }) ∧
    fltEntry logged (field (reg logged 0x13 0 0x48) 5 0) = some (entry 9) ∧ (entry 9).freeFrom = none ∧
    (Instr.fltLogRead .trotos 7).wf = true ∧ (selectedEvent logged).isSome = true := by decide +kernel

/-- Cause 9 of core 0, recorded in this cycle, holds ERR_FIRST. -/
def causedNow : State :=
  { withRegs [(regKey 5 0 0x10 0, 0x200), (regKey 5 0 0x18 0, 0x80000009), (regKey 5 0 0x1C 0, 1)] with
    faults := { Faults.reset with fresh := ⟨0, [⟨2 ^ 14 * 5, 0x200, 1, 0, true, false⟩], []⟩ } }
/-- Cause 9 of core 0, recorded before and cleared by a write in this cycle. -/
def wipedNow : State :=
  { withRegs [(regKey 5 0 0x10 0, 0x200), (regKey 5 0 0x18 0, 9), (regKey 5 0 0x1C 0, 1)] with
    faults := { Faults.reset with fresh := ⟨0, [⟨2 ^ 14 * 5, 0, 0, 0, false, true⟩], []⟩ } }

theorem witness_CausesAreRecorded : State.reset.Canonical ∧ causedNow.Canonical ∧ (freshPage causedNow 5 0).latched = true ∧
    (reg causedNow 5 0 0x18).getLsbD 31 = true ∧ field (reg causedNow 5 0 0x18) 4 0 = 9 ∧ (reg State.reset 5 0 0x18).getLsbD 31 = false ∧
    (reg (withRegs [(regKey 5 0 0x18 0, 0x80000000), (regKey 5 0 0x1C 0, 0xFFFFFFFF)]) 5 0 0x18).getLsbD 31 = true :=
  ⟨canonical_of (by decide +kernel), canonical_of (by decide +kernel), by decide +kernel, by decide +kernel, by decide +kernel,
    by decide +kernel, by decide +kernel⟩

/-- Of two causes of one cycle ERR_FIRST holds that of the lower bit index (R23). -/
theorem test_lower_cause_first : field (reg (recordCause 5 0 3 0 0 causedNow) 5 0 0x18) 4 0 = 3 ∧
    field (reg (recordCause 5 0 11 0 0 causedNow) 5 0 0x18) 4 0 = 9 := by decide +kernel

theorem witness_CausesAreRecorded_wiped : wipedNow.Canonical ∧ (freshPage wipedNow 5 0).wiped = true ∧
    (freshPage wipedNow 5 0).latched = false ∧ field (reg wipedNow 5 0 0x18) 4 0 = 9 :=
  ⟨canonical_of (by decide +kernel), by decide +kernel, by decide +kernel, by decide +kernel⟩

/-- A cause recorded in the cycle of a write that clears it keeps ERR_FIRST as it was (R23). -/
theorem test_cause_over_clear : reg (recordCause 5 0 9 0 77 wipedNow) 5 0 0x18 = 0x80000009 := by decide +kernel

/-- The first report takes entry 0 and sets int_pending (R425). -/
theorem test_coalescer : after .coalescerTake (reported [(0, entry 9)])
    (fun t => ((fltEntry t 1).map (·.key), t.faults.intPending, t.faults.queue.length)) = some (some 7, true, 0) := by
  decide +kernel

/-- ERR_CNT stays at its largest value (R23). -/
theorem test_err_cnt_saturates :
    reg (recordCause 5 0 3 0 0 (withRegs [(regKey 5 0 0x1C 0, 0xFFFFFFFF)])) 5 0 0x1C = 0xFFFFFFFF := by decide +kernel

/-! ## The schedule -/

/-- A tick master that is ready, with registers of its own beside. -/
def ready (l : List (Nat × Word)) : State :=
  { upWith ((regKey 2 0 0x44 0, 1) :: ((List.range 16).map fun d => (regKey 3 d 8 0, 1)) ++ l) with
    dev := { (upWith []).dev with saddles := (List.range 16).map fun d => (d, 15) },
    mem := { Mem.reset with bridges := (List.range 8).map fun c => (c, 15),
                            stk := (List.range 24).map fun k => (k, { Stack.reset with trained := true }) } }

/-- A verified image, ready to be armed for tick 2^21. -/
def verified : State :=
  { ready [(regKey 0x16 0 0x50 0, 1), (regKey 0x16 0 0x58 0, 0x200000)] with sched := { Sched.reset with st := 2, staged := some image } }

/-- Armed for tick 3, which this cycle begins. -/
def armed : State :=
  { counting with tick := { counting.tick with n := 3, boundAt := 100, frameDone := true },
                  sched := { counting.sched with st := 3, armedTick := 3, shadowReady := true, staged := some image } }

theorem witness_ImagesAreLoadedAndSwitched : (Instr.load ⟨.trotos, []⟩).wf = true ∧ devReady (ready []) = true ∧
    (ready []).sched.st ≠ 1 ∧ (ready []).sched.st ≠ 3 ∧
    { Sched.reset with st := 1 }.st = 1 ∧ { armed.sched with shadowReady := false }.st = 3 ∧
    devReady verified = true ∧ verified.sched.staged = some image ∧ rget64 verified (regKey 0x16 0 0x50 0) = image.id ∧
    (rget64 verified (regKey 0x16 0 0x58 0)).toNat % armStep verified image = 0 ∧
    armEarliest verified image ≤ (rget64 verified (regKey 0x16 0 0x58 0)).toNat ∧
    (rget64 verified (regKey 0x16 0 0x58 0)).toNat ≠ 0 ∧ (partsNow verified).any (partFrozen verified) = false ∧
    armed.sched.st = 3 ∧ armed.tick.running = true ∧ tickN armed = armed.sched.armedTick ∧ armed.tick.frameDone = true ∧
    armed.now = armed.tick.boundAt ∧ armed.sched.staged = some image ∧
    tickN { armed with tick := { armed.tick with n := 2 } } < armed.sched.armedTick := by decide +kernel

/-- An address that no window holds is rejected with code 1 (Table 2.11). -/
theorem test_verify_rejects : after .verifyDone { ready [] with sched := { Sched.reset with st := 1, loadAddr := 64 } }
    (fun t => (t.sched.st, t.sched.reject, reg t 0x16 0 0x10)) = some (4, 1, 1) := by decide +kernel

/-- `verified`, to be armed for the earliest eligible tick. -/
def verifiedNow : State :=
  { ready [(regKey 0x16 0 0x50 0, 1)] with sched := { Sched.reset with st := 2, staged := some image } }

theorem witness_ImagesAreLoadedAndSwitched_earliest : fit (.load ⟨.trotos, []⟩) verifiedNow = true ∧
    fit (.arm .trotos) verifiedNow = true ∧ fit (.abort .trotos) verifiedNow = true ∧
    rget64 verifiedNow (regKey 0x16 0 0x50 0) = image.id ∧ rget64 verifiedNow (regKey 0x16 0 0x58 0) = 0 ∧
    devReady verifiedNow = true ∧ (partsNow verifiedNow).any (partFrozen verifiedNow) = false ∧
    armStep verifiedNow image = 256 ∧ ceilDiv 37600000 (ticT verifiedNow) = 1175000 ∧
    1175040 % 256 = 0 ∧ (tickN verifiedNow).toNat + 1175000 ≤ 1175040 := by decide +kernel

/-- With SCHED_ACT_TICK 0 the earliest eligible tick is taken (R66). -/
theorem test_arm_earliest : after (.arm .trotos) verifiedNow (fun t => (t.sched.st, t.sched.armedTick)) = some (3, 1175040) := by
  decide +kernel

theorem test_arm : after (.arm .trotos) verified (fun t => (t.sched.st, t.sched.armedTick)) = some (3, 0x200000) := by
  decide +kernel

/-- The queues' witness. -/
theorem witness_UnitInstructionsAreQueued : (issuing 1 0).Canonical ∧ (issuing 2 0x20).Canonical ∧ (issuing 3 5).Canonical ∧
    HeadIssues 1 0 0 0 .f (issuingWord 1 0) (issuing 1 0) ∧
    HeadIssues 2 0x20 0 0 .f (issuingWord 2 0x20) (issuing 2 0x20) ∧
    HeadIssues 3 5 0 0 .f (issuingWord 3 5) (issuing 3 5) :=
  ⟨canonical_of (by decide +kernel), canonical_of (by decide +kernel), canonical_of (by decide +kernel),
    by unfold HeadIssues; decide +kernel, by unfold HeadIssues; decide +kernel, by unfold HeadIssues; decide +kernel⟩

/-! ## Registers -/

theorem witness_RegistersAreAccessed : (Instr.registerWrite (.frame 31) 0x44 1).wf = true ∧
    addrPage 0x44 = (0, 0, 0x44) ∧ (0x44 : Word).toNat % 4 = 0 ∧ pageExists 0 0 = true ∧
    writesIgnored (upWith []) 0 0 = false ∧ (regRow? 0 0 0x44).isSome = true ∧ (regRow? 0 0 0x44).map (·.pair) = some 0 ∧
    recordOf 0 0 0x44 = none ∧
    writesIgnored { upWith [] with dev := { (upWith []).dev with fuses := { fusesBlank with variantH := true } } } 7 23 = true ∧ pageExists 7 23 = true ∧
    (0x46 : Word).toNat % 4 ≠ 0 ∧ pageExists (addrPage 0xFFFFFFFC).1 (addrPage 0xFFFFFFFC).2.1 = false := by decide +kernel

/-- Trotos has read the _LO of SCHED's second pair at 0x50, and holds a write of it. -/
def pairHeld : State := setLatch .trotos ⟨some (regAddr 0x16 0 0x50, 9), some (regAddr 0x16 0 0x50, 7)⟩ (upWith [])

/-- ERR_SUM of core 0 with two causes set, and ERR_FIRST valid. -/
def erring : State := upWith [(regKey 5 0 0x10 0, 3), (regKey 5 0 0x18 0, 0x80000000)]

theorem witness_ErrorAndPairRegistersAct :
    addrPage (BitVec.ofNat 32 (regAddr 5 0 0x10)) = (5, 0, 0x10) ∧ pageExists 5 0 = true ∧
    reg erring 5 0 0x10 &&& ~~~(1 : Word) ≠ 0 ∧ reg erring 5 0 0x10 &&& ~~~(3 : Word) = 0 ∧ canonical erring = true ∧
    (freshPage erring 5 0).bits = 0 ∧ (freshPage erring 5 0).count = 0 ∧ (freshPage causedNow 5 0).count = 1 ∧
    pageFused causedNow 5 0 = false ∧
    writesIgnored erring 5 0 = false ∧ pageFused erring 5 0 = false ∧
    addrPage 0x58000050 = (0x16, 0, 0x50) ∧ addrPage 0x58000054 = (0x16, 0, 0x50 + 4) ∧ pairHalf 0x16 0 0x50 = 1 ∧
    pairHalf 0x16 0 (0x50 + 4) = 2 ∧ writable 0x16 0 0x50 = true ∧ writable 0x16 0 (0x50 + 4) = true ∧
    (latchOf pairHeld .trotos).rd = some (regAddr 0x16 0 0x50, 9) ∧
    (latchOf pairHeld .trotos).wr = some (regAddr 0x16 0 0x50, 7) := by decide +kernel

/-- The latched _HI is returned whatever the pair holds now (R18). -/
theorem test_latched_hi : (regRead .trotos 0x58000054 pairHeld).2.1 = 9 := by decide +kernel

/-- The write of _HI commits both halves. -/
theorem test_hi_write : after (.hiWrite .trotos 0x58000054 3) pairHeld (fun t => (reg t 0x16 0 0x50, reg t 0x16 0 0x54)) =
    some (7, 3) := by decide +kernel

/-- A cause of the cycle of the W1C write stays set, and the count of that cycle stays (R17). -/
theorem test_same_cycle_cause : after (.w1cClear .trotos (BitVec.ofNat 32 (regAddr 5 0 0x10)) 0x200) causedNow
    (fun t => (reg t 5 0 0x10, (reg t 5 0 0x18).getLsbD 31)) = some (0x200, true) ∧
    after (.readClear .trotos (BitVec.ofNat 32 (regAddr 5 0 0x1C))) causedNow (fun t => reg t 5 0 0x1C) = some 1 := by
  decide +kernel

/-- Clearing the last bit of ERR_SUM clears ERR_FIRST.valid (R23). -/
theorem test_w1c : after (.w1cClear .trotos (BitVec.ofNat 32 (regAddr 5 0 0x10)) 3) erring
    (fun t => (reg t 5 0 0x10, reg t 5 0 0x18)) = some (0, 0) := by decide +kernel

/-- Core 0, move engine 0, link 3, partition 0 and queue pair 0 frozen. -/
def iced : State :=
  { upWith [(regKey 0xF 1 8 0, 2)] with
    cores := [(0, { Core.reset with frozen := true })], links := [(3, { Link.reset with frozen := true })],
    parts := [(0, ⟨2, none, false, false⟩)], mem := { Mem.reset with engFrozen := [(0, true)] } }

theorem witness_PagesFreezeAndEnable : canonical (upWith []) = true ∧ canonical iced = true ∧
    (2 : Word).getLsbD 1 = true ∧ (2 : Word).getLsbD 2 = false ∧ (6 : Word).getLsbD 2 = true ∧ (1 : Word).getLsbD 1 = false ∧
    (1 : Word).getLsbD 0 = true ∧ writesIgnored { upWith [] with dev := { (upWith []).dev with
      fuses := { fusesBlank with variantH := true } } } 7 23 = true ∧
    (∀ p ∈ [(5, 9215), (6, 7), (9, 55), (0x15, 15), (0xF, 1), (4, 3), (3, 15), (8, 1), (0xF, 0)],
      pageExists p.1 p.2 = true ∧ writesIgnored (upWith []) p.1 p.2 = false ∧ pageResetting (upWith []) p.1 p.2 = false ∧
      (Instr.pageFreeze .trotos ⟨p.1, p.2⟩ 2).wf = true) ∧
    (∀ p ∈ [(4, 3), (9, 55), (0xF, 0), (3, 15)], pageFrozen (upWith []) p.1 p.2 = false ∧ enableIgnored (upWith []) p.1 p.2 true = false) ∧
    (∀ p ∈ [(5, 0), (6, 0), (9, 3), (0x15, 0), (0xF, 1)], pageFrozen iced p.1 p.2 = true ∧ writesIgnored iced p.1 p.2 = false) ∧
    enableIgnored (upWith []) 0 0 true = true ∧ fit (.pageFreeze .trotos ⟨9, 55⟩ 2) (upWith []) = true ∧
    fit (.pageEnable .trotos ⟨4, 3⟩ 1) iced = true := by decide +kernel

theorem test_page_freeze : after (.pageFreeze .trotos ⟨9, 3⟩ 2) (upWith []) (fun t => ((link t 3).frozen, (link t 2).frozen)) =
    some (true, false) := by decide +kernel

theorem test_page_enable : after (.pageEnable .trotos ⟨4, 3⟩ 1) (upWith []) (fun t => reg t 4 3 8) = some 1 := by decide +kernel

/-- CORE_SRAM_ADDR at the last word, with no image. -/
def sramTop : State := upWith [(regKey 5 0 0x80 0, 458748)]
/-- A running core of an image. -/
def runningCore : State := withCore (headCore (ctlWord 0 0) fp32Tiles)

theorem witness_CoreSramDataIsAccessed : canonical sramTop = true ∧ sramDataOk sramTop 0 = true ∧
    coreOff sramTop 0 = false ∧ canonical (runningCore) = true ∧ sramDataOk runningCore 0 = false ∧
    fit (.coreSramDataWrite .trotos 0 7) sramTop = true ∧ fit (.coreSramDataWrite .trotos 0 7) runningCore = true := by
  decide +kernel

/-- Ridge 0 in Off. -/
def coreInOff : State := { runningCore with dev := { runningCore.dev with power := [(0, 8)] } }

theorem witness_CoreSramDataIsAccessed_off : canonical coreInOff = true ∧ coreOff coreInOff 0 = true ∧
    fit (.coreSramDataWrite .trotos 0 7) coreInOff = true := by decide +kernel

/-- A read gives the four bytes, little-endian (R109). -/
theorem test_sram_read : (sramDataRead 0 .ok { sramTop with sram := [(458748, 0x44), (458751, 0x11)] }).1 = 0x11000044 := by
  decide +kernel

/-- The address wraps at 448 KiB (R109). -/
theorem test_sram_write : after (.coreSramDataWrite .trotos 0 0x11223344) sramTop
    (fun t => (memBytes t.sram 458748 4, reg t 5 0 0x80)) = some ([0x44, 0x33, 0x22, 0x11], 0) := by decide +kernel

/-! ## The units of a core -/

/-- An operation issued at cycle 90 with tiles 1 to 5. -/
def op (w : Dword) (tiles : List (Nat × Dword)) : QOp := ⟨w, 0xFFFF, 0, tiles.map fun t => ⟨t.1, t.2⟩, 0, 0, 90, 0, 0⟩

/-- Two MXFP8 tiles and their FP32 result, for an MMA of one K step that writes it. -/
def mmaTiles : List (Nat × Dword) := [(1, tile 0 512 1), (2, tile 512 512 1), (3, tile 1024 1024 0)]
def mmaOp : QOp := op mmaWord mmaTiles

/-- The array's queue holds an MMA; and the array runs one. -/
def mmaWaits : State := withCore { headCore (ctlWord 0 0) mmaTiles with arrayQ := [mmaOp] }
def mmaRuns : State := withCore { headCore (ctlWord 0 0) mmaTiles with array := some ⟨mmaOp, 95, 100, 130, false⟩ }

/-- The same, of an MMA that writes its result. -/
def mmaEnds : State := withCore { headCore (ctlWord 0 0) mmaTiles with
  array := some ⟨op (mmaWord ||| 0x2000) mmaTiles, 95, 100, 130, false⟩ }

theorem witness_MatrixMultipliesRun : canonical mmaWaits = true ∧ (Machine.core mmaWaits 0).arrayQ = mmaOp :: [] ∧
    (Machine.core mmaWaits 0).array = none ∧ coreHalted mmaWaits 0 = false ∧
    max (mmaOp.issuedAt + 1) ((Machine.core mmaWaits 0).arrayLast.2 + 1) ≤ mmaWaits.now + 0 ∧ mmaAcc mmaOp.word = false ∧
    fmtInt (dFmt (mmaCtx 0 mmaOp).db) = false ∧ canonical mmaRuns = true ∧ mmaFin mmaWord = false ∧
    mmaFin (mmaWord ||| 0x2000) = true ∧ anyWithheld [] = false ∧ anyWithheld [.uncorrectable 1] = true ∧
    canonical mmaEnds = true ∧ (Machine.core mmaEnds 0).array = some ⟨op (mmaWord ||| 0x2000) mmaTiles, 95, 100, 130, false⟩ ∧
    coreInReset mmaEnds 0 = false ∧
    (Machine.core mmaRuns 0).array = some ⟨mmaOp, 95, 100, 130, false⟩ ∧ coreInReset mmaRuns 0 = false := by decide +kernel

/-- A vector addition queued, and the same one begun. -/
def addOp : QOp := op (vecWord 0 0) fp32Tiles
def vecWaits : State := withCore { headCore (ctlWord 0 0) fp32Tiles with vecQ := [addOp] }
def addRun : VecRun := ⟨addOp, 110, [⟨3, tile 128 64 0, [⟨0, 0x3F800000, false, false, some 0⟩], true⟩], false⟩
def vecRuns : State := withCore { headCore (ctlWord 0 0) fp32Tiles with vecs := [addRun], valid := 0 }

theorem witness_VectorInstructionsRun : (Machine.core vecWaits 0).vecQ = addOp :: [] ∧ coreHalted vecWaits 0 = false ∧
    max (addOp.issuedAt + 1) (Machine.core vecWaits 0).vecFree ≤ vecWaits.now + 0 ∧
    (ucallNeeds addOp).all (tagSeen (Machine.core vecWaits 0) (vecWaits.now + 0)) = true ∧ canonical vecRuns = true ∧
    nextVec (Machine.core vecRuns 0).vecs = some addRun ∧ coreInReset vecRuns 0 = false := by decide +kernel

/-- The result of VEC_COMPLETE lands, little-endian, and its tag becomes valid. -/
theorem test_vec_complete : after (.vecComplete 0 ⟨[]⟩) vecRuns
    (fun t => (memBytes t.sram (64 * 128) 4, (Machine.core t 0).valid.getLsbD 3, (Machine.core t 0).valid.getLsbD 2)) =
    some ([0, 0, 0x80, 0x3F], true, false) := by decide +kernel

/-- A MOV of each kind over tile 1 of four lines, waiting at the head of the mover's queue. -/
def movTiles : List (Nat × Dword) := [(1, tile 0 4 0)]
def movOp (k : Nat) : QOp := op (movWord k) movTiles
def movWaits (k : Nat) : State := withCore { headCore (ctlWord 0 0) movTiles with movQ := [movOp k] }

/-- The same, begun, with `m` lines moved. -/
def movRun (k m : Nat) : MovRun := ⟨movOp k, m, 95, noChecks, false⟩
def movRuns (k m : Nat) : State :=
  { withCore { headCore (ctlWord 0 0) movTiles with movs := [movRun k m], valid := 0 } with
    hub := [(0, 5), (64, 5), (128, 5), (192, 5)] }

/-- The second hub line of the HRD is VOID. -/
def movVoid : State := { movRuns 2 0 with mem := { Mem.reset with lineSt := [(1, 2)] } }

theorem witness_TransfersComplete :
    (∀ k ∈ [0, 1, 2, 3, 4, 5], canonical (movWaits k) = true ∧ (Machine.core (movWaits k) 0).movQ = movOp k :: [] ∧
      coreHalted (movWaits k) 0 = false ∧ (movOp k).issuedAt < (movWaits k).now + 0 ∧ iOp (movOp k).word = k ∧
      (movOp k).landed ≤ movLines (movOp k)) ∧
    (reg (movWaits 2) 4 (clusterOf 0) 8).getLsbD 0 = true ∧
    (∀ i < movLines (movOp 2), lineSt (movWaits 2) (coreCirque 0) (movHub (movOp 2).word + i) = 0) ∧ (movOp 5).landed = 0 ∧
    canonical (movRuns 0 3) = true ∧ sendOf (Machine.core (movRuns 0 3) 0) (planeChan 0) = some (movRun 0 3) ∧
    coreInReset (movRuns 0 3) 0 = false ∧ (movRun 0 3).moved + 1 = movLines (movRun 0 3).op ∧
    (queueOf (Machine.core (movRuns 0 3) 0) (qCode (planeChan 0) .l)).length < 8 ∧
    (movRun 0 3).begun + (movRun 0 3).moved ≤ (movRuns 0 3).now + 0 ∧ canonical (movRuns 1 4) = true ∧
    ((Machine.core (movRuns 1 4) 0).movs.find? fun r => (iOp r.op.word == 1 && planeChan (movPlane r.op.word) == planeChan 0) &&
      r.moved == movLines r.op) = some (movRun 1 4) := by decide +kernel

theorem test_recv_complete : after (.recvComplete 0 0 0 ⟨[]⟩) (movRuns 1 4)
    (fun t => ((Machine.core t 0).movs.length, (Machine.core t 0).valid.getLsbD 1)) = some (0, true) := by decide +kernel

theorem witness_HubTransfersComplete : canonical movVoid = true ∧ runningMov (Machine.core movVoid 0) 2 (fun _ => true) =
      some (movRun 2 0) ∧ hrdStop movVoid 0 (movRun 2 0) = some (1, 3) ∧
    hrdStop (movRuns 2 4) 0 (movRun 2 4) = none ∧
    canonical (movRuns 2 4) = true ∧ canonical (movRuns 3 0) = true ∧
    runningMov (Machine.core (movRuns 2 4) 0) 2 (fun _ => true) = some (movRun 2 4) ∧ coreInReset (movRuns 2 4) 0 = false ∧
    runningMov (Machine.core (movRuns 3 0) 0) 3 (fun _ => true) = some (movRun 3 0) ∧ coreInReset (movRuns 3 0) 0 = false ∧
    hwrStop (movRuns 3 0) 0 (movRun 3 0) [] [] = none ∧
    (hwrStop (movRuns 3 0) 0 (movRun 3 0) [.ok, .uncorrectable 1] []).map (·.1) = some 1 := by
  decide +kernel

/-- The second line of the HRD comes to the vertical port with an error: the lines before it have landed. -/
theorem witness_HubTransfersComplete_withheld :
    [Ecc.ok, .uncorrectable 1, .ok, .ok].findIdx? dataWithheld = some 1 ∧ 1 < movLines (movRun 2 4).op ∧ anyWithheld [] = false := by
  decide +kernel

theorem test_hrd_withheld : after (.hrdComplete 0 [.ok, .uncorrectable 1] ⟨[]⟩) (movRuns 2 4)
    (fun t => (memBytes t.sram 0 1, memBytes t.sram 64 1, (Machine.core t 0).valid.getLsbD 1)) = some ([5], [0], false) := by
  decide +kernel

/-- An HRD's four lines land in its tile (R226). -/
theorem test_hrd_complete : after (.hrdComplete 0 [] ⟨[]⟩) (movRuns 2 4)
    (fun t => (memBytes t.sram 192 2, memBytes t.sram 256 1, (Machine.core t 0).valid.getLsbD 1, t.now)) =
    some ([5, 0], [0], true, 110) := by decide +kernel

/-! ## The fabric -/

/-- A route entry: network, outputs (bits N E S W L), every phase, bound 8. -/
def entryWord (net out : Nat) : Word := BitVec.ofNat 32 (net + 8 * out + 2 ^ 12 * 255 + 2 ^ 24 * 8)

/-- A flit of job 0 on route 0. -/
def flit (last : Bool) : Flit := mkFlit (some 0) 0 0 last 7

/-- Core 0 with a flit in the queue of its input L of plane 0, whose route leads to `out`. -/
def switching (out : Nat) (x : Core) : State :=
  withCore { x with routes := [(0, entryWord 1 out)], queues := [(4, [⟨flit true, 99⟩])] }

/-- East and into the landing buffer; and the buffer full, in the T9's mode and in spill mode. -/
def bothWays : State := switching 18 Core.reset
def fullLanding : State := switching 16 { Core.reset with landing := [(0, [⟨flit true, 90⟩, ⟨flit true, 91⟩])] }
def fullSpill : State := switching 16 { Core.reset with
  spill := true, landing := [(0, [⟨flit true, 90⟩, ⟨flit true, 91⟩])] }

/-- A wire into core 0 from the east, of the core's colour or another; partition 0 RUNNING or FROZEN. -/
def arriving (colour : BitVec 2) (st : Nat) : State :=
  { withCore { Core.reset with routes := [(0, entryWord 1 16)] } with
    fab := { Fabric.reset with wires := [⟨0, .v0, .e, mkFlit (some 0) 0 colour true 7, 100⟩] }, parts := [(0, ⟨st, none, false, false⟩)] }

/-- The same, where the neighbour lies in another partition: FROZEN traffic comes from outside. -/
def boundary : State :=
  let s := arriving 0 2
  { s with sched := { s.sched with active := some { image with parts := 0 :: List.replicate 15 1 } },
           fab := { Fabric.reset with wires := [⟨23, .v0, .e, flit true, 100⟩] } }

/-- A SEND that has moved no line, with its route. -/
def feeding : State :=
  withCore { headCore (ctlWord 0 0) movTiles with movs := [movRun 0 0], valid := 0, routes := [(0, entryWord 1 16)] }

theorem witness_FlitsMove : (Instr.flitForward 0 0 .v0 .l).wf = true ∧ switchRuns bothWays 0 = true ∧
    (couldGo bothWays 0 .v0 .n).isNone = true ∧ (couldGo bothWays 0 .v0 .l).map (·.out) = some 18 ∧
    (couldGo bothWays 0 .v0 .l).map (yields bothWays 0 .v0 .l) = some false ∧
    (couldGo fullLanding 0 .v0 .l).map (yields fullLanding 0 .v0 .l) = some false ∧
    landingFull (Machine.core bothWays 0) .v0 = false ∧ landingFull (Machine.core fullLanding 0) .v0 = true ∧
    (couldGo fullLanding 0 .v0 .l).map (·.out) = some 16 ∧ spillRules fullLanding 0 = false ∧ switchRuns fullLanding 0 = true ∧
    (headOutputs fullSpill 0 .v0 .l).map (·.out) = some 16 ∧ landingFull (Machine.core fullSpill 0) .v0 = true ∧ spillRules fullSpill 0 = true ∧ switchRuns fullSpill 0 = true ∧
    wireInto feeding 0 .v0 .l = none ∧ (sendNext 0 .v0 feeding).map (·.1) = some (movRun 0 0) ∧
    coreInReset feeding 0 = false ∧ canonical feeding = true ∧ (queueOf (Machine.core feeding 0) (qCode .v0 .l)).length = 0 ∧
    (sendNext 0 .v0 feeding).map (fun x => (rNet (entryOf (Machine.core feeding 0) x.2), rBound (entryOf (Machine.core feeding 0) x.2))) =
      some (netCode .v0, 8) ∧
    (wireInto (arriving 0 1) 0 .v0 .e).isSome = true ∧ absorbed (arriving 0 1) 0 (neighbour 0 .e) = .no ∧
    unsealed 0 (Machine.core (arriving 0 1) 0) .v0 .e = false ∧
    rNet (entryOf (Machine.core (arriving 0 1) 0) (flit true)) = netCode .v0 ∧
    (queueOf (Machine.core (arriving 0 1) 0) (qCode .v0 .e)).length < rBound (entryOf (Machine.core (arriving 0 1) 0) (flit true)) ∧
    (wireInto boundary 23 .v0 .e).isSome = true ∧ absorbed boundary 23 (neighbour 23 .e) = .part 0 ∧
    (wireInto (arriving 2 1) 0 .v0 .e).map (·.flit.colour) = some 2 ∧ absorbed (arriving 2 1) 0 (neighbour 0 .e) = .no := by
  decide +kernel

/-- One flit leaves on both outputs (R166): a wire one cycle later, and a landing entry. -/
theorem test_forward : after (.flitForward 0 0 .v0 .l) bothWays
    (fun t => (t.fab.wires.map fun y => (y.core, y.inp, y.due), (landingOf (Machine.core t 0) .v0).length,
      creditsOf (Machine.core t 0) .v0 .e)) = some ([(1, .w, 101)], 1, 7) := by decide +kernel

/-- A full landing buffer is slip 0x01 (R83). -/
theorem test_landing_full : after (.flitForward 0 0 .v0 .l) fullLanding
    (fun t => (reg t 5 0 0x10, (queueOf (Machine.core t 0) 4).length)) = some (0x20000, 1) := by decide +kernel

/-- Traffic from outside into a frozen partition is dropped and counted, and its credit goes back (R423). -/
theorem test_absorb : after (.flitArrive 0 23 .v0 .e .ok) boundary
    (fun t => ((Machine.core t 23).queues.length, reg t 0x15 0 0x58, t.fab.credits.length)) = some (0, 1, 1) := by decide +kernel

/-- Another colour is an epoch fault (R183). -/
theorem test_epoch_fault : after (.flitArrive 0 0 .v0 .e .ok) (arriving 2 1) (fun t => reg t 5 0 0x10) = some 0x80000 := by
  decide +kernel

/-- A credit and a token on their way; a seal that has not been consumed; a RECV and an SRECV that wait for their flits. -/
def credited : State := { withCore { Core.reset with credits := [(1, 7)] } with
  fab := { Fabric.reset with credits := [⟨0, .v0, .e, 100⟩], toks := [⟨0, 3, flit true, 100⟩] } }
def tokenHeld : State := { withCore { Core.reset with steer := [⟨3, flit true, 1⟩] } with fab := credited.fab }
def unsealedCore : State := { withCore { Core.reset with sealing := true } with
  sched := { (withCore Core.reset).sched with activeAt := 90 } }
def landingCore (ch k : Nat) : State :=
  withCore { headCore 0 movTiles with movQ := [movOp k], landing := [(ch, [⟨flit false, 100⟩])] }

/-- No image: a switch may be spilled; a running one may not, but clears its area. A switch that has waited. -/
def spilled : State := { upWith [] with cores := [(0, { Core.reset with spill := true, queues := [(4, [⟨flit true, 0⟩])] })] }

theorem witness_CreditsTokensSealsAndSpills :
    (credited.fab.credits.find? fun y => y.core == 0 && y.ch == .v0 && y.out == .e && decide (y.due ≤ credited.now + 0)).isSome = true ∧
    canonical credited = true ∧ coreInReset credited 0 = false ∧ steerTok (Machine.core credited 0) 3 = none ∧
    (credited.fab.toks.find? fun y => y.core == 0 && y.unit == 3 && decide (y.due ≤ credited.now + 0)).map (·.flit.colour) =
      some (Machine.core credited 0).colour ∧ (Machine.core credited 0).tokQ = [] ∧ canonical tokenHeld = true ∧
    (steerTok (Machine.core tokenHeld 0) 3).isSome = true ∧ (tokQueue (Machine.core tokenHeld 0) 3).length < 4 ∧
    unsealed 0 (Machine.core unsealedCore 0) .v0 .e = true ∧ neighbour 0 .e = some 1 ∧
    (Machine.core unsealedCore 1).colour = (Machine.core unsealedCore 0).colour ∧
    unsealedCore.sched.activeAt + (if ridgeOf 0 = ridgeOf 1 then 1 else 5) ≤ unsealedCore.now + 0 ∧
    landingOf (Machine.core (landingCore 0 1) 0) .v0 = ⟨flit false, 100⟩ :: [] ∧ coreInReset (landingCore 0 1) 0 = false ∧
    landInto (Machine.core (landingCore 0 1) 0) .v0 (flit false) = some (.queued (movOp 1)) ∧
    ((flit false).last = ((landState (.queued (movOp 1))).2 + 1 == movLines (landState (.queued (movOp 1))).1)) ∧
    landingOf (Machine.core (landingCore 2 5) 0) .scalar = ⟨flit false, 100⟩ :: [] ∧
    landInto (Machine.core (landingCore 2 5) 0) .scalar (flit false) = some (.queued (movOp 5)) ∧
    spillAllowed spilled 0 = true ∧ spillAllowed (withCore Core.reset) 0 = false ∧
    (Machine.core (withCore Core.reset) 0).spill = false ∧ (Machine.core spilled 0).spill = true ∧
    spillList (Machine.core spilled 0) = (4, flit true) :: [] := by decide +kernel

/-- The credit of an edge attachment on its way to the die; a swap at cycle 90 that has left an edge input unsealed; and a switch
whose spill mode ends with the departure of its last flit. -/
def dieCredited : State := { withCore Core.reset with
  fab := { Fabric.reset with credits := [⟨0, .v0, .l, 100⟩], dieSpent := [(0, 1)] } }
def spillEnding : State := switching 18 { Core.reset with spill := true, spillExit := true }

theorem witness_CreditsTokensSealsAndSpills_edges :
    (dieCredited.fab.credits.find? fun y => y.core == 0 && y.ch == .v0 && y.out == .l && decide (y.due ≤ dieCredited.now + 0)).isSome =
      true ∧ (Instr.creditReturn 0 0 .v0 .l).wf = true ∧
    unsealed 0 (Machine.core unsealedCore 0) .v0 .n = true ∧ neighbour 0 .n = none ∧ edgePort 0 .n = true ∧
    unsealedCore.sched.activeAt + 9 ≤ unsealedCore.now + 0 ∧
    (Machine.core unsealedCore 0).lostSeals.getLsbD (qCode .v0 .n) = false ∧ (Instr.sealArrive 0 0 .v0 ⟨.n, .ok⟩).wf = true := by
  decide +kernel

theorem witness_CreditsTokensSealsAndSpills_modes : coreOff spilled 0 = false ∧ fit (.spillModeRequest .trotos 0) spilled = true ∧
    coreOff coreInOff 0 = true ∧ fit (.spillModeRequest .trotos 0) coreInOff = true ∧
    fit (.spillModeRequest .trotos 0) (withCore Core.reset) = true ∧ coreOff (withCore Core.reset) 0 = false ∧
    (Machine.core spillEnding 0).spillExit = true ∧ (couldGo spillEnding 0 .v0 .l).map (yields spillEnding 0 .v0 .l) = some false := by
  decide +kernel

/-- A write of 0 ends spill mode at once where every queue is empty, and otherwise waits (R185). -/
theorem test_spill_exit : after (.spillModeExit .trotos 0) spilled (fun t => ((Machine.core t 0).spill, (Machine.core t 0).spillExit)) =
      some (true, true) ∧
    after (.flitForward 0 0 .v0 .l) spillEnding (fun t => (Machine.core t 0).spill) = some false := by decide +kernel

/-- At most 8 credits (R167). -/
theorem test_credit : after (.creditReturn 0 0 .v0 .e) credited (fun t => (creditsOf (Machine.core t 0) .v0 .e, t.fab.credits.length)) =
    some (8, 0) := by decide +kernel

/-- SRECV lands bits [31:0] in its register (R168). -/
theorem test_srecv : after (.flitLand 0 0 .scalar) (landingCore 2 5) (fun t => sregOf (Machine.core t 0) 0) = some 7 := by
  decide +kernel

theorem test_recv_line : after (.flitLand 0 0 .v0) (landingCore 0 1) (fun t => memBytes t.sram 0 2) = some [7, 0] := by
  decide +kernel

/-! ## Reduction -/

/-- The header line of a descriptor or contribution for slot 5 of engine 2. -/
def redLine (kind device unit : Nat) (last : Bool) : RedLine :=
  ⟨some 0, BitVec.ofNat 512 (5 + 2 ^ 4 * 2 + 2 ^ 6 * kind + 2 ^ 8 * device + 2 ^ 18 * unit), last, 0⟩

/-- Engine 2 of Col die 0, enabled, with an input as given; its slot 5 takes two units from device 3. -/
def reducing (i : RedInput) (slots : List RedSlot) (units : List RedUnit) : State :=
  { upWith [(regKey 0x1B 0 8 0, 1)] with now := 100, engines := [(2, ⟨slots, units, [(0, i)], 0⟩)] }

def slot5 : RedSlot := ⟨5, 0, 2, 0, false, 8, [], [], [], false, none, none⟩
def unit0 (n : Nat) (full : Bool) : RedUnit := ⟨5, 0, some 3, !full, n, full, 99, [], none⟩
def inputAt (n : Nat) (kind : Nat) (last : Bool) : RedInput :=
  ⟨[⟨some 0, 0, last, 0⟩], n, (redLine kind 3 0 last).payload, [0, 0], false⟩
def inputHead (kind : Nat) (last : Bool) : RedInput := ⟨[redLine kind (if kind = 1 then 0 else 3) 0 last], 0, 0, [], false⟩

theorem witness_ReductionUnitsAreSummed : canonical (reducing (inputHead 1 false) [] []) = true ∧
    nextLine (reducing (inputHead 1 false) [] []) 0 2 (.grid 0) = some (inputHead 1 false, redLine 1 0 0 false) ∧
    (redHdr (redLine 1 0 0 false).payload).kind = 1 ∧ (redHdr (redLine 1 0 0 false).payload).rsvd = 0 ∧
    (redHdr (redLine 1 0 0 false).payload).device = 0 ∧ (redHdr (redLine 1 0 0 false).payload).engine = 2 ∧
    nextLine (reducing (inputAt 1 1 true) [] []) 0 2 (.grid 0) = some (inputAt 1 1 true, ⟨some 0, 0, true, 0⟩) ∧
    (redHdr (inputAt 1 1 true).hdr).kind = 1 ∧
    nextLine (reducing (inputHead 0 true) [slot5] []) 0 2 (.grid 0) = some (inputHead 0 true, redLine 0 3 0 true) ∧
    (redHdr (redLine 0 3 0 true).payload).kind = 0 ∧
    contribFault 100 2 (popLine 100 0 (engine (reducing (inputHead 0 true) [slot5] []) 0 2)) (redHdr (redLine 0 3 0 true).payload)
      true = none ∧ slotOf (engine (reducing (inputHead 0 true) [slot5] []) 0 2) 5 = some slot5 ∧
    slot5.bad.contains 0 = false ∧
    (∀ n ∈ [2, 3, 66], (nextLine (reducing (inputAt n 0 (n == 2 || n == 66)) [slot5] [unit0 0 false]) 0 2 (.grid 0)).isSome = true) ∧
    unitOf (engine (reducing (inputAt 3 0 false) [slot5] [unit0 0 false]) 0 2) 5 0 = some (unit0 0 false) ∧
    slotOf (engine (reducing (inputAt 3 0 false) [slot5] [unit0 1 true]) 0 2) 5 = some slot5 ∧
    (unit0 1 true).complete = true ∧ swf (fun _ => (0 : Word)) (unit0 0 false).acc = true := by decide +kernel

/-- A slot that another descriptor has opened, a contribution whose slot is no longer active, and the last unit of a slot. -/
theorem witness_ReductionUnitsAreSummed_faults :
    (nextLine (reducing (inputAt 1 1 true) [slot5] []) 0 2 (.grid 0)).map (·.2) = some ⟨some 0, 0, true, 0⟩ ∧
    (slotOf (popLine 100 0 (engine (reducing (inputAt 1 1 true) [slot5] []) 0 2)) 5).isSome = true ∧
    (nextLine (reducing (inputAt 3 0 false) [] []) 0 2 (.grid 0)).isSome = true ∧ (inputAt 3 0 false).skip = false ∧
    (redHdr (inputAt 3 0 false).hdr).kind = 0 ∧ (redHdr (inputAt 3 0 false).hdr).slot = 5 ∧
    slotOf (popLine 100 0 (engine (reducing (inputAt 3 0 false) [] []) 0 2)) 5 = none ∧
    slotOf (engine (reducing (inputAt 3 0 false) [{ slot5 with delivered := [1] }] [unit0 1 true]) 0 2) 5 =
      some { slot5 with delivered := [1] } ∧ [1].length + 1 = slot5.units ∧
    canonical (reducing (inputAt 3 0 false) [{ slot5 with delivered := [1] }] [unit0 1 true]) = true ∧
    (reducing (inputAt 3 0 false) [] []).now + 0 ≤ (unit0 1 true).doneAt + 279 := by decide +kernel

/-- A second descriptor for an open slot, and a line of a contribution without one, are slot faults (R212). -/
theorem test_slot_faults : after (.reduceDescriptor 0 0 2 (.grid 0)) (reducing (inputAt 1 1 true) [slot5] [])
      (fun t => (engine t 0 2).slots) = some [slot5] ∧
    after (.reduceContribution 0 0 2 (.grid 0)) (reducing (inputAt 3 0 false) [] []) (fun t => reg t 0x1B 0 0x10 != 0) = some true := by
  decide +kernel

/-- A descriptor's second line opens its slot. -/
theorem test_descriptor : after (.reduceDescriptor 0 0 2 (.grid 0)) (reducing (inputAt 1 1 true) [] [])
    (fun t => (engine t 0 2).slots.map fun y => (y.slot, y.units)) = some [(5, 1)] := by decide +kernel

/-! ## Moves, windows, scrub and keys -/

/-- A move from HBM of one line of job 0, and the manual move. -/
def move (toHbm : Bool) (index : Option Nat) (landed : List Nat) : Move := ⟨0, index, 0, toHbm, 0, 0, 1, landed, 9, 0⟩
def moving (m : Move) : State := { withCore Core.reset with mem := { Mem.reset with moves := [m], lineSt := [] } }

/-- A move of Cirque 0 from a stack of Cirque 1, over the bridge. -/
def farMove : Move := ⟨0, some 0, 0, false, groupBytes, 0, 1, [], 9, 0⟩

/-- Partition 0 stopped, and a manual move of one line prepared. -/
def stillRidges : State :=
  { upWith ([(regKey 6 0 0x78 0, 0), (regKey 6 0 0x7C 0, 1)]) with now := 100, sched := { Sched.reset with active := some image } }

theorem witness_WindowsAreChecked : (Instr.windowWrite .trotos 255 .attr 0).wf = true ∧
    (window (withCore Core.reset) 0).enable = true ∧ winBusy (withCore Core.reset) (window (withCore Core.reset) 0) = true ∧
    (window State.reset 0).enable = false ∧
    (window (setReg 6 0 (winOff 0 .attr) (0x10 : Word) State.reset) 0).enable = false := by decide +kernel

theorem test_window_busy : after (.windowWrite .trotos 0 .base 5) (withCore Core.reset)
    (fun t => (reg t 6 0 0x10, (window t 0).base)) = some (0x1000, (window (withCore Core.reset) 0).base) := by decide +kernel

/-- An image in the hub cache of Cirque 0, line 4,096, whose move list for Cirque 0 names one line from HBM address 0 to
hub line 0, in tick 0 of a frame, due 5 ticks later. -/
def listBytes : List Byte := leBytes 160 (64 * 2 ^ (8 * 0x18) + 2 ^ (8 * 0x1C) +
  2 ^ (8 * 64) * (0x20 + 2 * 2 ^ 64 + 32 * 2 ^ 96) + 2 ^ (8 * 128) * (2 ^ 96 + 5 * 2 ^ 160))

/-- A device that runs it; with windows that grant the move, or none. -/
def listing (wins : List (Nat × Word)) : State :=
  let s := withCore Core.reset
  { s with
    regs := [(regKey 4 0 8 0, 1), (regKey 5 0 8 0, 1), (regKey 6 0 8 0, 1)] ++ wins,
    hub := memPut [] (64 * 4096) listBytes,
    sched := { s.sched with active := some { image with addr := hubAddr 0 4096 } } }

def listed : MoveEnt := ⟨0, 0, false, 0, 1, 0, 0, 5, 0, 0⟩

/-- A device whose Ridges stand still, for a manual move of one line. -/
def still : State :=
  { upWith ([(regKey 6 0 0x7C 0, 1)] ++ windows) with sched := { Sched.reset with active := some image } }

theorem witness_MovesRun : (moveList (listing windows) 0)[0]? = some listed ∧ (reg (listing windows) 6 0 8).getLsbD 0 = true ∧
    engineFrozen (listing windows) 0 = false ∧ issuedBelow (listing windows) 0 ≤ 0 ∧ moveDue (listing windows) listed = true ∧
    moveAllowed (listing windows) 0 0 false 0 0 1 = true ∧ moveDue (listing []) listed = true ∧
    (moveList (listing []) 0)[0]? = some listed ∧ moveAllowed (listing []) 0 0 false 0 0 1 = false ∧
    (∀ i < listed.lines, lineSt (listing windows) 0 (listed.hub + i) ≠ 1) ∧
    moveOf (moving (move false (some 0) [])) 0 (.entry 0) = some (move false (some 0) []) ∧
    (move false (some 0) []).landed.contains 0 = false ∧ worksOn (moving (move false (some 0) [])) (move false (some 0) []) = true ∧
    worksOn (moving (move true (some 0) [])) (move true (some 0) []) = true ∧
    moveOf (moving (move true (some 0) [])) 0 (.entry 0) = some (move true (some 0) []) ∧
    lineSt { moving (move true (some 0) []) with mem := { (moving (move true (some 0) [])).mem with lineSt := [(0, 1)] } } 0 0 = 1 ∧
    wordErrors [.symbol 0 1] = 1 ∧ wordErrors [.symbol 0 1, .symbol 1 1] = 2 ∧
    moveOf (moving farMove) 0 (.entry 0) = some farMove ∧ worksOn (moving farMove) farMove = true ∧
    movePath (moving farMove) farMove 0 = [(0, 1)] ∧
    (hbmRead (0 + 64 * 0) [] (.parts (jobParts (moving (move false (some 0) [])) 0))
      (chargeMove 0 10 1 (moving (move false (some 0) [])))).1.isSome = true ∧
    moveOf (moving (move true (some 0) [])) 0 (.entry 0) = some (move true (some 0) []) ∧
    lineSt (moving (move true (some 0) [])) 0 0 = 0 ∧
    moveOf (moving (move false (some 0) [0])) 0 (.entry 0) = some (move false (some 0) [0]) ∧
    allLanded (move false (some 0) [0]) = true ∧
    (tickN (moving (move false (some 0) [0]))).toNat < (move false (some 0) [0]).deadline.toNat ∧
    (move false (some 0) []).deadline.toNat ≤
      (tickN { moving (move false (some 0) []) with tick := { counting.tick with n := 9 } }).toNat ∧
    (1 : Word).getLsbD 0 = true ∧ ridgesStill still 0 = true ∧ moveOf still 0 .manual = none ∧
    (rget64 still (regKey 6 0 0x70 0)).toNat % 64 = 0 ∧
    moveAllowed still 0 (field (1 : Word) 4 2) ((1 : Word).getLsbD 1) (rget64 still (regKey 6 0 0x70 0)).toNat
      (field (reg still 6 0 0x78) 19 0) (field (reg still 6 0 0x7C) 20 0) = true ∧
    ridgesStill (withCore Core.reset) 0 = false ∧
    moveOf (moving (move false none [0])) 0 .manual = some (move false none [0]) ∧ allLanded (move false none [0]) = true := by
  decide +kernel

/-- The move engine enabled, and frozen. -/
def stillRuns : State :=
  { upWith ([(regKey 6 0 8 0, 1), (regKey 6 0 0x7C 0, 1)] ++ windows) with sched := { Sched.reset with active := some image } }
def stillFrozen : State := { stillRuns with mem := { stillRuns.mem with engFrozen := [(0, true)] } }

theorem witness_MovesRun_manual : engineRuns stillRuns 0 = true ∧ ridgesStill stillRuns 0 = true ∧ moveOf stillRuns 0 .manual = none ∧
    fit (.manualMove .trotos 0 1) stillRuns = true ∧ moveAllowed stillRuns 0 (field (1 : Word) 4 2) ((1 : Word).getLsbD 1)
      (rget64 stillRuns (regKey 6 0 0x70 0)).toNat (field (reg stillRuns 6 0 0x78) 19 0) (field (reg stillRuns 6 0 0x7C) 20 0) = true ∧
    engineRuns stillFrozen 0 = false ∧ fit (.moveEngineReset .trotos 0) stillFrozen = true := by decide +kernel

/-- A frozen engine issues no move (Table 16.2). -/
theorem test_manual_frozen : after (.manualMove .trotos 0 1) stillFrozen (fun t => t.mem.moves.length) = some 0 ∧
    after (.manualMove .trotos 0 1) stillRuns (fun t => t.mem.moves.length) = some 1 := by decide +kernel

/-- A line of HBM that cannot be corrected abandons the move (R243). -/
theorem witness_MovesRun_bad : (hbmRead 0 [.symbol 0 1, .symbol 1 1] (.parts []) (upWith [])).1 = none := by decide +kernel

/-- An issued move makes its hub line PENDING, and a landed line READY (Table 8.2). -/
theorem test_move_issue : after (.moveIssue 0 0) (listing windows) (fun t => (t.mem.moves.map (·.deadline), lineSt t 0 0)) =
    some ([5], 1) := by decide +kernel

theorem test_move_land : after (.moveLineLand 0 0 (.entry 0) 0 ⟨[.symbol 0 5], .ok⟩)
    { moving (move false (some 0) []) with mem := { Mem.reset with moves := [move false (some 0) []], lineSt := [(0, 1)] } }
    (fun t => (lineSt t 0 0, t.mem.moves.map (·.landed), memBytes t.hub 0 1)) = some (0, [[0]], [0]) := by decide +kernel

/-- An uncorrectable line on the bridge abandons the move and raises bridge_ue (R250). -/
theorem test_bridge : after (.moveLineLand 0 0 (.entry 0) 0 ⟨[], .uncorrectable 0⟩) (moving farMove)
    (fun t => (t.mem.moves.length, reg t 6 0 0x10)) = some (0, 0x800) := by decide +kernel

/-- A miss is slip 0x03 of the move engine (R233). -/
theorem test_deadline : after (.deadlineMiss 0 0)
    { moving (move false (some 0) []) with tick := { counting.tick with n := 9 } }
    (fun t => (t.mem.moves.length, reg t 6 0 0x10, lineSt t 0 0)) = some (0, 0x100, 2) := by decide +kernel

/-- Key slot 0 with a key in generation 0, both, or none; and a sweep that has passed everything. -/
def keyed (k : KeySlot) : State := { upWith [(regKey 7 0 0x44 0, 4)] with
  mem := { Mem.reset with keys := [(0, k)], stk := [(0, { Stack.reset with trained := true })] } }
def oneKey : KeySlot := { KeySlot.reset with g0 := some [1] }
def twoKeys : KeySlot := { oneKey with g1 := some [2], current := true, switched := true }
def sweeping (l : List Nat) : State := { keyed { twoKeys with sweep := some ⟨l, []⟩ } with regs := windows }

theorem witness_KeyCommandsTakeEffect : genLoaded KeySlot.reset KeySlot.reset.current = false ∧
    genLoaded oneKey (!oneKey.current) = false ∧ genLoaded oneKey oneKey.current = true ∧
    genLoaded twoKeys (!twoKeys.current) = true ∧ twoKeys.sweep = none ∧ twoKeys.erasePending = false ∧ twoKeys.switched = true ∧
    oneKey.switched = false ∧ (windowsNaming (keyed twoKeys) 0).isEmpty = true ∧
    keySlot (keyed twoKeys) 0 = twoKeys ∧ (windowsNaming (sweeping []) 0).isEmpty = false := by decide +kernel

/-- A sweep that runs with both keys loaded, an erase pending, and a switched slot whose old key is gone. -/
def swept : KeySlot := { twoKeys with sweep := some ⟨[1], []⟩ }
def emptied : KeySlot := { twoKeys with g0 := none }

theorem witness_KeyCommandsTakeEffect_reasons : fit (.keyLoad .trotos 0) (keyed swept) = true ∧ keySlot (keyed swept) 0 = swept ∧
    (∀ g, genLoaded { oneKey with sweep := some ⟨[1], []⟩ } (!oneKey.current) = g → g = false) ∧ swept.sweep.isSome = true ∧
    swept.switched = true ∧ genLoaded swept (!swept.current) = true ∧
    genLoaded { twoKeys with erasePending := true } (!twoKeys.current) = true ∧ emptied.switched = true ∧
    genLoaded emptied (!emptied.current) = false := by decide +kernel

/-- SWEEP during a sweep is rejected with reason 3, and SWITCH with an erase pending with 5 (Table 8.14). -/
theorem test_key_reasons : exec (.keySweep .trotos 0) (keyed swept) = .next (keyReject 0 3 3 (keyed swept)) ∧
    exec (.keySwitch .trotos 0) (keyed { twoKeys with erasePending := true }) =
      .next (keyReject 0 2 5 (keyed { twoKeys with erasePending := true })) := ⟨rfl, rfl⟩

theorem test_key_switch : after (.keySwitch .trotos 0) (keyed twoKeys) (fun t => (keySlot t 0).current) = some false := by
  decide +kernel

/-- CLEAR is rejected while an enabled window names the slot (Table 8.14). -/
theorem test_key_clear : after (.keyClear .trotos 0) { keyed twoKeys with regs := windows } (fun t => (keySlot t 0).g0.isSome) =
    some true := by decide +kernel

theorem witness_ScrubsAndSweepsRun : (reg (keyed twoKeys) 7 0 0x44).getLsbD 2 = true ∧ (stackOf (keyed twoKeys) 0).trained = true ∧
    (stackOf (keyed twoKeys) 0).selfRefresh = false ∧ (stackOf (keyed twoKeys) 0).scrubbed = 0 ∧
    (keySlot (sweeping [1]) 0).sweep = some ⟨[1], []⟩ ∧ sweepPassed ⟨[1], []⟩ 0 = 0 ∧
    (sweepShare (sweeping [1]) ⟨[1], []⟩ 0)[0 / 64]? = some 0 ∧ (keySlot (sweeping []) 0).sweep = some ⟨[], []⟩ ∧
    (∀ st < 24, sweepPassed ⟨[], []⟩ st = 64 * (sweepShare (sweeping []) ⟨[], []⟩ st).length) ∧
    (keySlot (keyed { twoKeys with erasePending := true }) 0).erasePending = true ∧
    (keySlot (keyed { twoKeys with erasePending := true }) 0).oldReads = [] ∧
    (keySlot (keyed { twoKeys with erasePending := true, oldReads := [(0, some 0, 0)] }) 0).oldReads ≠ [] := by decide +kernel

/-- The state in which a scrub and a sweep line are decoded. -/
def scrubbing (errs : SymErrs) : State :=
  countHbmRead 0 (hbmParity 0 0 errs (setStack 0 { stackOf (keyed twoKeys) 0 with scrubbed := 1 } (keyed twoKeys)))
def sweepingLine (errs : SymErrs) : State :=
  countHbmRead 0 (hbmParity 0 0 errs (setKeySlot 0 { keySlot (sweeping [1]) 0 with
    sweep := some ⟨[1], sset (fun _ => 0) [] 0 1⟩ } (sweeping [1])))

/-- What they find: a good line, one wrong symbol, and two (R242). -/
theorem witness_ScrubsAndSweepsRun_lines : ∀ u ∈ [scrubbing, sweepingLine],
    (match rsDecode (hbmSymbols (u []) 0 0 []) with | .good _ => true | _ => false) = true ∧
    (match rsDecode (hbmSymbols (u [.symbol 5 9]) 0 0 [.symbol 5 9]) with | .corrected _ => true | _ => false) = true ∧
    (match rsDecode (hbmSymbols (u [.symbol 0 1, .symbol 1 1]) 0 0 [.symbol 0 1, .symbol 1 1]) with | .bad => true | _ => false)
      = true := by
  intro u h
  simp only [List.mem_cons, List.not_mem_nil, or_false] at h
  rcases h with rfl | rfl <;> decide +kernel

theorem test_scrub : after (.scrubLine 0 0 0 [.symbol 5 9]) (keyed twoKeys) (fun t => ((stackOf t 0).scrubbed, t.hbm)) = some (1, []) := by
  decide +kernel

/-- The erase waits for the reads under the old generation (R248). -/
theorem test_key_erase_waits : after (.keyErase 0 0) (keyed { twoKeys with erasePending := true, oldReads := [(0, some 0, 0)] })
    (fun t => (keySlot t 0).g0) = some (some [1]) := by decide +kernel

theorem witness_HbmLinesReadBack : canonical State.reset = true ∧ (List.replicate 64 (0xA5 : Byte)).length = 64 ∧
    windowHolding State.reset 64 64 = none := by decide +kernel

/-- Window 1 encrypts with key slot 0, which has a key in both generations. -/
def encrypting : State := { keyed twoKeys with
  regs := [(regKey 6 0 0x214 0, 0xFFF), (regKey 6 0 0x218 0, 0x103F1)] }

theorem witness_HbmLinesReadBack_encrypted : canonical encrypting = true ∧
    (windowHolding encrypting 64 64).map (fun w => (w.idx, w.encrypt, w.slot)) = some (1, true, 0) ∧
    (keySlot encrypting 0).current = true := by decide +kernel

theorem test_key_erase : after (.keyErase 0 0) (keyed { twoKeys with erasePending := true })
    (fun t => ((keySlot t 0).g0, (keySlot t 0).g1)) = some (none, some [2]) := by decide +kernel

/-! ## Links -/

/-- Link 0 as given, at cycle 100. -/
def linked (x : Link) : State := { upWith [] with now := 100, links := [(0, x)] }

/-- A link in UP, and one frozen. -/
def upLink : Link := { Link.reset with st := 5, width := 8, lanes := 0xFF }
def stuckLink : Link := { upLink with frozen := true }

/-- A flit that has reached the Col die of core `colCore 0 0`, on a route. -/
def atCol (route : Nat) (x : Link) : State :=
  { linked x with fab := { Fabric.reset with edge := [⟨colCore 0 0, .v0, mkFlit (some 0) route 0 true 7, 100⟩] } }

/-- A slot that waits in the outbound queue since cycle `t`, and a sent frame whose relaunch is asked. -/
def txSlot (t : Nat) : TxSlot := ⟨⟨0x200, 1, 0, false, 7⟩, t, colCore 0 0, none⟩
def late : State := linked { upLink with outQ := [txSlot 68] }
def sentFrame : LinkFrame := ⟨List.replicate 4 emptySlot, 0, 3, false, 0, false, false, 0⟩
def asked : Link := { upLink with sent := [⟨sentFrame, 90, false⟩], relaunch := some (3, 100) }
def askedStuck : Link := { asked with frozen := true }

theorem witness_FramesAreLaunched : colOf (colCore 0 0) = some (0, 0) ∧
    ((atCol 3 upLink).fab.edge.find? fun y => y.core == colCore 0 0 && y.ch == .v0 && decide (y.due ≤ (atCol 3 upLink).now + 0)).isSome
      = true ∧ (link (atCol 3 upLink) 0).frozen = false ∧ (link (atCol 3 upLink) 0).outQ.length < 64 ∧
    (link (atCol 3 stuckLink) 0).frozen = true ∧
    ((atCol 49 upLink).fab.edge.find? fun y => y.core == colCore 0 0 && y.ch == .v0 && decide (y.due ≤ (atCol 49 upLink).now + 0)).map
      (·.flit.route) = some 49 ∧
    ((link late 0).outQ.find? fun y => decide (y.take + 32 ≤ late.now + 0)) = some (txSlot 68) ∧ canonical (linked asked) = true ∧
    mayLaunch (linked upLink) (link (linked upLink) 0) = true ∧ (link (linked upLink) 0).relaunch = none ∧
    mayLaunch (linked asked) (link (linked asked) 0) = true ∧ (link (linked asked) 0).relaunch = some (3, 100) ∧
    mayLaunch (linked askedStuck) (link (linked askedStuck) 0) = true ∧ (link (linked askedStuck) 0).relaunch = some (3, 100) ∧
    canonical (linked askedStuck) = true ∧
    ((keepSent 100 (link (linked askedStuck) 0).sent).find? fun y => y.frame.seq == 3 && !y.replayed) = some ⟨sentFrame, 90, false⟩ ∧
    ((keepSent 100 (link (linked asked) 0).sent).find? fun y => y.frame.seq == 3 && !y.replayed) = some ⟨sentFrame, 90, false⟩ := by
  decide +kernel

/-- A flit that has waited 32 cycles goes out as a slip (R266). -/
theorem test_tx_late : after (.txLate 0 0) late (fun t => (reg t 8 0 0x10, (link t 0).outQ.length)) = some (4, 0) := by
  decide +kernel

/-- The relaunched frame is the one sent (R267). -/
theorem test_relaunch : after (.replayRelaunch 0 0) (linked asked)
    (fun t => (t.out, (link t 0).relaunch)) = some ([.linkFrame 0 sentFrame], none) := by decide +kernel

/-- A frame with a right CRC, and one whose CRC is wrong; a link that awaits its replay. -/
def goodFrame : LinkFrame := { sentFrame with crc := frameCrc sentFrame }
def awaiting : Link := { upLink with await := [(3, 90)] }

/-- Frame 3 with a flit, and a link that awaits its replay although the flit's delivery is past. -/
def flitFrame : LinkFrame :=
  let f := { sentFrame with slots := ⟨0x200, 1, 0, false, 7⟩ :: List.replicate 3 emptySlot }
  { f with crc := frameCrc f }

/-- A slot that is due at cycle 100 on a route, available in time or late. -/
def rxSlot (route avail : Nat) : RxSlot := ⟨⟨BitVec.ofNat 10 (0x200 + route), 1, 0, false, 7⟩, 100, avail⟩
def receiving (x : Link) (route avail : Nat) : State := linked { x with elastic := [rxSlot route avail] }

theorem witness_FramesAreJudged : (Instr.linkFrameVerdict 0 0 goodFrame .clean).wf = true ∧ canonical (linked upLink) = true ∧
    (link (linked upLink) 0).st = 5 ∧ (link (linked upLink) 0).await.any (·.1 == goodFrame.seq) = false ∧
    goodFrame.crc = frameCrc goodFrame ∧ (link (linked upLink) 0).rxSeq = none ∧ sentFrame.crc ≠ frameCrc sentFrame ∧
    canonical (linked { upLink with rxSeq := some 2 }) = true ∧ goodFrame.seq = (2 : BitVec 10) + 1 ∧
    canonical (linked { upLink with rxSeq := some 9 }) = true ∧ goodFrame.seq ≠ (9 : BitVec 10) + 1 ∧
    (link (linked awaiting) 0).await.any (·.1 == sentFrame.seq) = true ∧ canonical (linked awaiting) = true ∧
    (link (linked awaiting) 0).st = 5 ∧ flitFrame.seq = 3 ∧ flitFrame.crc = frameCrc flitFrame ∧
    replayLate (setLink 0 { awaiting with lastRx := 100 } (linked awaiting)) 0 flitFrame = true ∧
    (∀ r ∈ [0, 16, 32, 40, 47, 48, 50], dueSlot 100 (link (serviceDue 0 (receiving upLink r 99)) 0) = some (rxSlot r 99) ∧
      (slotFlit (rxSlot r 99).slot).route.toNat = r ∧ (link (serviceDue 0 (receiving upLink r 99)) 0).frozen = false) ∧
    dueSlot 100 (link (serviceDue 0 (receiving upLink 0 101)) 0) = some (rxSlot 0 101) ∧
    dueSlot 100 (link (serviceDue 0 (receiving stuckLink 0 99)) 0) = some (rxSlot 0 99) ∧
    (link (serviceDue 0 (receiving stuckLink 0 99)) 0).frozen = true ∧
    0 < dieCredit (receiving upLink 0 99) (linkCores 0).1 (kindChan (rxSlot 0 99).slot.kind) ∧
    0 < dieCredit (receiving upLink 16 99) (linkCores 0).2 (kindChan (rxSlot 16 99).slot.kind) := by decide +kernel

/-- The edge core of link 0 has no credit left, and the awaited frame is the successor of the last good one. -/
def unpaid : State :=
  { receiving upLink 0 99 with fab := { Fabric.reset with dieSpent := [(4 * (linkCores 0).1 + chanCode (kindChan 1), 8)] } }
def awaitingNext : Link := { awaiting with rxSeq := some 2 }

theorem witness_FramesAreJudged_more : dieCredit unpaid (linkCores 0).1 (kindChan (rxSlot 0 99).slot.kind) = 0 ∧
    dueSlot 100 (link (serviceDue 0 unpaid) 0) = some (rxSlot 0 99) ∧
    replayLate (setLink 0 { awaiting with lastRx := 100 } (linked awaiting)) 0 goodFrame = false ∧ frameIds goodFrame = [] ∧
    (link (linked awaitingNext) 0).rxSeq = some (goodFrame.seq - 1) ∧ canonical (linked awaitingNext) = true ∧
    (link (linked awaitingNext) 0).await.any (·.1 == goodFrame.seq) = true := by decide +kernel

/-- The replay of the frame after the last good one moves the sequence on (R259). -/
theorem test_replay_in_order : after (.linkFrameVerdict 0 0 goodFrame .clean) (linked awaitingNext)
    (fun t => ((link t 0).rxSeq, (link t 0).await)) = some (some 3, []) := by decide +kernel

/-- A replay that comes once its flit's delivery is past is slip 0x04 (R268). -/
theorem test_late_replay : after (.linkFrameVerdict 0 0 flitFrame .clean) (linked awaiting)
    (fun t => ((link t 0).await.length, reg t 9 0 0x10, (link t 0).elastic.length)) = some (0, 4, 0) := by decide +kernel

/-- A stray frame leaves the sequence where it was, so that the successor of the last good one is good (R259). -/
theorem test_stray_frame : after (.linkFrameVerdict 0 0 goodFrame .clean) (linked { upLink with rxSeq := some 9 })
    (fun t => ((link t 0).rxSeq, (link t 0).await)) = some (some 9, [(3, 100)]) := by decide +kernel

/-- A wrong CRC is counted and its replay awaited (R259, R267). -/
theorem test_bad_crc : after (.linkFrameVerdict 0 0 sentFrame .clean) (linked upLink)
    (fun t => (reg t 9 0 0x10, (link t 0).await, reg t 9 0 0x78)) = some (2, [(3, 100)], 1) := by decide +kernel

/-- A slot reaches its edge core nine cycles after it was due (R262). -/
theorem test_slot_deliver : after (.linkSlotDeliver 0 0) (receiving upLink 16 99)
    (fun t => t.fab.wires.map fun y => (y.core, y.ch, y.flit.route, y.due)) =
    some [((linkCores 0).2, .v0, 16, 109)] := by decide +kernel

theorem test_slot_late : after (.linkSlotDeliver 0 0) (receiving upLink 0 101)
    (fun t => (reg t 8 0 0x10, t.fab.wires.length)) = some (8, 0) := by decide +kernel

/-- A link in a training state, of which lanes have passed, with what the peer has told. -/
def trainingIn (st : Nat) (passed : BitVec 8) (p : Option LinkId) : State :=
  { linked { upLink with st := st, width := 0, lanes := 0, passed := passed, peerId := p } with now := 100000000 }
/-- The peer's word: its L8, its lanes and its M. -/
def peer (l8 : Nat) (lanes : BitVec 8) (m : Nat) : LinkId := ⟨1, 2, l8, lanes, some m, ⟨false, 0, 0⟩⟩
/-- The L8 of the link's page after reset. -/
def l8Reset : Nat := field (reg (trainingIn 4 0xFF none) 9 0 0x44) 11 0

theorem witness_LinksTrain : (∀ st ∈ [1, 2, 3, 4], (link (trainingIn st 0xFF none) 0).st = st) ∧
    canonical (trainingIn 4 0xFF none) = true ∧ (link (trainingIn 4 0xFF none) 0).peerId = none ∧
    canonical (trainingIn 4 0xFF (some (peer l8Reset 0xFF 20))) = true ∧ ceilDiv 20 2 + 2 = 12 ∧
    widthOf (0xFF &&& 0) ((reg (trainingIn 4 0xFF (some (peer l8Reset 0 20))) 9 0 0x44).getLsbD 24) = none ∧
    widthOf (0xFF &&& 0x7E) ((reg (trainingIn 4 0xFF (some (peer l8Reset 0x7E 20))) 9 0 0x44).getLsbD 24) = some (2, 0x0C) ∧
    widthOf (0xFF &&& 0xFF) ((reg (trainingIn 4 0xFF (some (peer l8Reset 0xFF 20))) 9 0 0x44).getLsbD 24) = some (8, 0xFF) ∧
    (peer (l8Reset + 1) 0xFF 20).l8 ≠ l8Reset ∧ l8Reset + widthDelta 8 + 44 < 2 * 12 + 2000 ∧
    2 * 12 + 20 ≤ l8Reset + widthDelta 8 + 44 ∧ 2 * 20 + 12 ≤ l8Reset + widthDelta 8 + 44 ∧
    (link (trainingIn 1 0 none) 0).since + 940000 * trainBound 1 < (trainingIn 1 0 none).now + 0 ∧
    retrainBusy (linked upLink) 0 = none ∧ retrainBusy (follower true) 0 = some 1 := by decide +kernel

/-- A peer that has told its L8 and its lanes, and no M yet (it failed at once); and a lane check that leaves no width. -/
def peerEarly (l8 : Nat) (lanes : BitVec 8) : LinkId := ⟨1, 2, l8, lanes, none, ⟨false, 0, 0⟩⟩

theorem witness_LinksTrain_early : (link (trainingIn 4 0xFF (some (peerEarly (l8Reset + 1) 0xFF))) 0).peerId =
      some (peerEarly (l8Reset + 1) 0xFF) ∧ (peerEarly (l8Reset + 1) 0xFF).transit = none ∧
    (peerEarly (l8Reset + 1) 0xFF).l8 ≠ l8Reset ∧ canonical (trainingIn 4 0xFF (some (peerEarly (l8Reset + 1) 0xFF))) = true ∧
    widthOf (0 &&& BitVec.ofNat 8 (field (reg (trainingIn 3 0 none) 9 0 0x44) 23 16)) ((reg (trainingIn 3 0 none) 9 0 0x44).getLsbD 24) =
      none ∧ fit (.linkRetrain .trotos 0) (linked upLink) = true ∧ fit (.linkRetrain .trotos 0) (follower true) = true := by
  decide +kernel

/-- A lane check without a width fails the link with reason 2, and a differing L8 with reason 3 (R272, R273). -/
theorem test_training_fails : after (.linkCheckDone 0 0 0) (trainingIn 3 0 none) (fun t => ((link t 0).st, reg t 9 0 0x10 != 0)) =
      some (6, true) ∧
    after (.linkNegotiateDone 0 0 ⟨20⟩) (trainingIn 4 0xFF (some (peerEarly (l8Reset + 1) 0xFF))) (fun t => (link t 0).st) =
      some 6 := by decide +kernel

/-- Only lanes that pass at both ends count: with two of the peer's failing, a width of 2 (R272). -/
theorem test_lane_check : after (.linkNegotiateDone 0 0 ⟨20⟩) (trainingIn 4 0xFF (some (peer l8Reset 0x7E 20)))
    (fun t => ((link t 0).st, (link t 0).width, (link t 0).lanes)) = some (5, 2, 0x0C) := by decide +kernel

/-- The lanes that pass go to the peer in a service slot (R273). -/
theorem test_lanes_told : after (.linkCheckDone 0 0 0x7E) (trainingIn 3 0 none)
    (fun t => ((link t 0).st, (link t 0).passed,
      match t.out with | [.linkFrame 0 f] => (frameIds f).map (·.lanes) | _ => [])) = some (4, 0x7E, [0x7E]) := by decide +kernel

/-- The upstream link of a follower may not be retrained (R275). -/
theorem test_retrain_busy : after (.linkRetrain .trotos 0) (follower true) (fun t => (reg t 9 0 0x10, (link t 0).st)) =
    some (0x80, 5) := by decide +kernel

theorem test_link_down : after (.linkDown 0 0 3) (linked upLink) (fun t => ((link t 0).st, reg t 9 0 0x10)) = some (7, 8) := by
  decide +kernel

/-! ## The serving lane -/

/-- Partition 0 serves: job 0 is the serving job of an image. -/
def serving (sv : ServeSt) (l : List (Nat × Word)) : State :=
  { upWith l with
    now := 100, serve := sv, parts := [(0, ⟨1, none, false, false⟩)],
    sched := { Sched.reset with active := some { image with servRidges := 1, jobs := [⟨0, true, 1, 3⟩] } },
    tick := { Tick.reset with running := true, boundAt := 96, frameDone := true } }

/-- An IPv4 UDP frame to 10.0.0.1, of a port, with a right header checksum and eighteen bytes of payload. -/
def udpHeader : List Byte := [0x45, 0, 0, 46, 0, 0, 0, 0, 64, 17, 0, 0, 10, 0, 0, 2, 10, 0, 0, 1]
def ipSum : Nat := 0xFFFF - (((List.range 10).map fun k => beNat (bytesAt udpHeader (2 * k) 2)).sum % 65536 +
  ((List.range 10).map fun k => beNat (bytesAt udpHeader (2 * k) 2)).sum / 65536)
def ipHeader : List Byte := udpHeader.take 10 ++ beBytes 2 ipSum ++ udpHeader.drop 12
def udpTo (port : Nat) : List Byte := List.replicate 6 1 ++ List.replicate 6 2 ++ [8, 0] ++ ipHeader ++
  [0x10, 0] ++ beBytes 2 port ++ [0, 26, 0, 0] ++ List.replicate 18 0
def market : List Byte := udpTo 5000
def clean : RxStatus := ⟨true, 0, 0, 0, .ok, [], []⟩

/-- Interface 0 up, filter entry 5 for that address and port, and register frames over UDP port 6000. -/
def listeningWith (more : List (Nat × Word)) : State := serving { ServeSt.reset with
    ethUp := [(0, true)],
    tab := [(40, 0x0100000A), (44, BitVec.ofNat 32 (2 ^ 18 + 2 ^ 16 + 5000))] }
  ([(regKey 0xB 0 8 0, 1), (regKey 0xC 0 8 0, 1), (regKey 0xF 0 8 0, 1), (regKey 0xF 0 0x40 0, BitVec.ofNat 32 (6000 * 2 ^ 16 + 2))] ++ more)
def listening : State := listeningWith []
/-- The same with MACsec: no session, and a live one with a key of zeros. -/
def guarded (live : Bool) : State :=
  { listeningWith [(regKey 0xF 0 0x90 0, 1)] with
    host := { HostSt.reset with macsec := [(0, ⟨none, live, [(0, ⟨⟨List.replicate 32 0, List.replicate 12 0, 0, 0, 0, 0⟩, 0⟩)], 0⟩)] } }
/-- A protected frame whose integrity check value is wrong. -/
def forged : List Byte := List.replicate 12 1 ++ [0x88, 0xE5, 0x2C, 0, 0, 0, 0, 1] ++ List.replicate 40 0

/-- The state in which a clean frame is judged. -/
def counted (s : State) : State := ethCount 0 6 0 (ethCount 0 0 1 s)

/-- What a frame is to the port: its destination port, whether it is a register frame, a RoCE frame, and its filter entry. -/
def seenAs (b : List Byte) : Option (Nat × Bool × Bool × Option Nat) :=
  match netOf b with
  | (vlan, .udp l3 dst _) =>
    let h : FrameHdr := ⟨0, BitVec.ofNat 48 (beNat (bytesAt b 6 6)), vlan, l3⟩
    some (dstPort l3, regFrameOn (counted listening) h, roceOn (counted listening) h, filterOf (counted listening) 0 l3 dst)
  | _ => none

theorem witness_FramesAndLinkChangesArrive : (reg listening 0xB 0 0x8).getLsbD 0 = true ∧ intfProvided listening 0 = true ∧
    intfUp listening 0 = true ∧ intfUp listening 1 = false ∧ clean.fcsOk = true ∧
    (∀ p ∈ [319, 6000, 5000], 60 ≤ (udpTo p).length ∧ (udpTo p).length ≤ 9212 ∧
      (macsecStage 0 (udpTo p) (counted listening)).1 = .pass (udpTo p)) ∧
    (seenAs (udpTo 319)).map (·.1) = some 319 ∧ (seenAs (udpTo 6000)).map (fun x => (x.1, x.2.1)) = some (6000, true) ∧
    seenAs market = some (5000, false, false, some 5) ∧ (reg (counted listening) 0xC 0 0x8).getLsbD 0 = true ∧
    (macsecStage 0 market (counted (guarded true))).1 = .refuse ∧ intfUp (guarded true) 0 = true ∧
    60 ≤ forged.length ∧ (macsecStage 0 forged (counted (guarded true))).1 = .icv := by decide +kernel

/-- On an interface enabled for MACsec without a session a market frame is discarded and counted (R331). -/
theorem test_macsec_refuses : after (.ethFrameReceive 0 0 market clean) (guarded false)
    (fun t => (t.serve.feedIn, rget t (regKey 0xB 0 0x58 8), intfSends t 0)) = some (0, 1, false) := by decide +kernel

/-- A PTP event message goes to Trotos with its timestamp (R284). -/
theorem test_ptp : after (.ethFrameReceive 0 0 (udpTo 319) { clean with timestamp := 77 }) listening (fun t => t.out) =
    some [.ptp 0 77 (udpTo 319)] := by decide +kernel

theorem test_link_change : after (.ethLinkChange 0 0 false) listening (fun t => (intfUp t 0, reg t 0xB 0 0x10)) =
    some (false, 1) := by decide +kernel

/-- A wrong FCS is counted and no more (R284). -/
theorem test_fcs : after (.ethFrameReceive 0 0 market { clean with fcsOk := false }) listening
    (fun t => (t.serve.landing.length, t.serve.feedIn)) = some (0, 0) := by decide +kernel

/-- Entry 3 of the map, in a state, for model slot 0, which is valid. -/
def entry3 (st : Nat) : MapEntry := ⟨9, 1, 2, 0, 0, st, false, false, []⟩
def mapped (st : Nat) (l : List (Nat × Word)) : State :=
  serving { ServeSt.reset with map := [(3, some (entry3 st))], models := [(0, 1)] } l

theorem witness_ServingCommandsAct : (Instr.insert .trotos).wf = true ∧ (mapped 0 []).serve.cmd = none ∧
    { ServeSt.reset with cmd := some ⟨3, 0, []⟩ }.cmd ≠ none ∧
    field (reg (mapped 0 [(regKey 0xC 0 0x40 0, 0x33)]) 0xC 0 0x40) 1 0 = 3 ∧
    field (reg (mapped 0 [(regKey 0xC 0 0x40 0, 0x33)]) 0xC 0 0x40) 18 4 = 3 ∧ mapEntry (mapped 0 []) 3 = some (entry3 0) ∧
    field (reg (mapped 0 []) 0xC 0 0x40) 1 0 < 3 ∧
    field (reg (mapped 0 []) 0xC 0 0x40) 18 4 < tabSize (field (reg (mapped 0 []) 0xC 0 0x40) 1 0) ∧
    tabEntryOk 0 (inData (mapped 0 [])) = true ∧
    tabSize 2 ≤ field (reg (mapped 0 [(regKey 0xC 0 0x40 0, 0x7FFF2)]) 0xC 0 0x40) 18 4 ∧
    field (reg (mapped 0 [(regKey 0xE 0 0x5C 0, 3)]) 0xE 0 0x5C) 14 0 = 3 ∧ (entry3 0).st = 0 ∧
    (mapped 0 []).serve.joinQ.length < 256 ∧ modelValid (mapped 0 []) (entry3 0).slot = true ∧ (entry3 3).st ≠ 0 := by
  decide +kernel

theorem test_join : after (.join ⟨.trotos, .ok⟩) (mapped 0 [(regKey 0xE 0 0x5C 0, 3)])
    (fun t => ((mapEntry t 3).map (·.st), t.serve.joinQ.map (·.entry))) = some (some 1, [3]) := by decide +kernel

theorem witness_ServingCommandsAct_fit : fit (.insert .trotos) (mapped 0 []) = true ∧ fit (.inRead .trotos) (mapped 0 []) = true ∧
    fit (.join ⟨.trotos, .uncorrectable 4⟩) (mapped 0 []) = true ∧ (mapped 0 []).serve.lateLooks = [] := by decide +kernel

/-- An entry that error checking withholds joins nothing (Table 10.10). -/
theorem test_join_withheld : after (.join ⟨.trotos, .uncorrectable 4⟩) (mapped 0 [(regKey 0xE 0 0x5C 0, 3)])
    (fun t => (t.serve.joinQ.length, reg t 0xA 0 0x10)) = some (0, 0x40) := by decide +kernel

/-- JOIN of an entry that is not IDLE is refused (Table 10.12). -/
theorem test_join_refused : after (.join ⟨.trotos, .ok⟩) (mapped 3 [(regKey 0xE 0 0x5C 0, 3)])
    (fun t => (t.serve.joinQ.length, reg t 0xE 0 0x10)) = some (0, 1) := by decide +kernel

/-- An INSERT of a new pair waits; a DELETE of entry 3; nothing waits, with a step being composed and without. -/
def inserting : State := { mapped 0 [] with serve := { (mapped 0 []).serve with cmd := some ⟨3, 0, [8, 0, 1, 0]⟩ } }
def deleting : State := { mapped 0 [] with serve := { (mapped 0 []).serve with cmd := some ⟨5, 3, []⟩ } }
def composed (c : Option StepRec) : State := serving { ServeSt.reset with comp := c } [(regKey 0xE 0 8 0, 1)]
def step0 : StepRec := ⟨0, 8, 7168, [], 0, 0⟩

theorem witness_GatherBoundariesAct : inserting.tick.running = true ∧ inserting.serve.nextStep ≤ stepOfNow inserting ∧
    mapLookup inserting (entryOfData [8, 0, 1, 0]).key (entryOfData [8, 0, 1, 0]).feed = none ∧
    ((List.range 32768).find? fun i => (mapEntry inserting i).isNone) = some 0 ∧
    modelValid inserting (entryOfData [8, 0, 1, 0]).slot = true ∧ mapEntry deleting 3 = some (entry3 0) ∧ (entry3 0).st ≤ 1 ∧
    composing (composed none) = true ∧ (composed none).sched.st ≠ 3 ∧ (composed none).serve.nextStep ≤ stepOfNow (composed none) ∧
    mapEntries (composed none) = [] ∧ (composed (some step0)).serve.comp = some step0 ∧
    step0.step < stepOfNow (composed (some step0)) := by decide +kernel

/-- The map after an INSERT, and the header of a closed step. -/
theorem test_insert : after .gatherBoundary inserting (fun t => ((mapEntry t 0).map (·.key), t.serve.cmd)) =
    some (some 8, none) := by decide +kernel

theorem test_delete : after .gatherBoundary deleting (fun t => mapEntry t 3) = some none := by decide +kernel

theorem test_step_closes : after .gatherBoundary (composed (some step0))
    (fun t => (t.serve.headers.map (·.line), t.serve.comp.map (·.step))) = some ([7168], some 1) := by decide +kernel

theorem witness_ServingRegistersAreWritten : (Instr.egDataWrite .trotos 0).wf = true ∧
    (∀ x ∈ (mapped 0 []).serve.fills, (mapped 0 []).now < x.due) ∧
    (∀ w ∈ [0, 79, 80, 81], field (reg (mapped 0 [(regKey 0xD 0 0x40 0, BitVec.ofNat 32 (2 ^ 16 * w))]) 0xD 0 0x40) 22 16 = w) ∧
    (5 : Nat) ∉ (mapped 0 []).serve.tplPend := by decide +kernel

theorem test_eg_data : after (.egDataWrite .trotos 0xAB) (mapped 0 [(regKey 0xD 0 0x40 0, 0x500003)])
    (fun t => (t.serve.tplPend, field (reg t 0xD 0 0x40) 22 16)) = some ([3], 81) := by decide +kernel

theorem witness_CursorIsWrittenOnlyWhileStill : assigned State.reset = false ∧ assigned (mapped 0 []) = true ∧
    partFrozen (mapped 0 []) 0 = false ∧ partInReset (mapped 0 []) 0 = false ∧
    partFrozen { mapped 0 [] with parts := [(0, ⟨2, none, false, false⟩)] } 0 = true := by decide +kernel

theorem test_cursor : after (.srvCurWrite .trotos 7) (mapped 0 []) (fun t => (rget64 t (regKey 0xE 0 0x80 0), reg t 0xE 0 0x10)) =
    some (0, 0x10) := by decide +kernel

/-- A gather line and a header on their way; a decision line at an attachment core; a frame to send. -/
def gatherLine : GatherLine := ⟨0, 16, 7169, 3, 4, 100⟩
def headerLine : HeaderLine := ⟨0, 8, 7168, 5, 1⟩
def landingLines : State := serving { ServeSt.reset with landing := [gatherLine] } []
def landingHeader : State := serving { ServeSt.reset with headers := [headerLine] } []
def resulting (ch : Chan) (p : Nat) : State :=
  { serving { ServeSt.reset with tx := [(0, [[1, 2]])], ethUp := [(0, true)] } [(regKey 0xB 0 8 0, 1), (regKey 0xD 0 8 0, 1)] with
    fab := { Fabric.reset with edge := [⟨16, ch, mkFlit (some 0) 0 0 true (BitVec.ofNat 512 p), 100⟩] } }

/-- Two decision frames wait, and a host frame behind them. -/
def sendingTwo : State :=
  { resulting .v0 0 with serve := { (resulting .v0 0).serve with tx := [(0, [[1, 2], [3]])], txHost := [(0, [[9]])] } }

theorem witness_LinesLandAndDecisionsLeave :
    (landingLines.serve.landing.find? fun g => decide (g.due ≤ landingLines.now + 0)) = some gatherLine ∧
    absorbed landingLines gatherLine.core none = .no ∧
    (landingHeader.serve.headers.find? fun h => !landingHeader.serve.landing.any fun g => g.step == h.step) = some headerLine ∧
    ((resulting .v0 0).fab.edge.find? fun y => y.core == 16 && y.ch == .v0 && decide (y.due ≤ 100)).isSome = true ∧
    usedAttachment (resulting .v0 0) 16 = true ∧ usedAttachment (resulting .scalar 0) 16 = true ∧ stopsResults (resulting .v0 0) = false ∧ (resulting .v0 0).serve.fills = [] ∧
    ((resulting .scalar 0).fab.edge.find? fun y => y.core == 16 && y.ch == .scalar && decide (y.due ≤ 100)).isSome = true ∧
    (reg (resulting .v0 0) 0xD 0 0x8).getLsbD 0 = true ∧ bitOf (0x8003 : Nat) 15 = true ∧ bitOf (0 : Nat) 15 = false ∧
    intfSends (resulting .v0 0) 0 = true ∧ sget (fun _ => []) (resulting .v0 0).serve.tx 0 = [1, 2] :: [] ∧
    intfSends sendingTwo 0 = true ∧ sendingTwo.serve.fills = [] ∧ sget (fun _ => []) sendingTwo.serve.tx 0 = [1, 2] :: [[3]] ∧
    macsecOn sendingTwo 0 = false := by decide +kernel

theorem test_event_land : after (.eventLand ⟨0, .ok⟩) landingLines
    (fun t => (memBytes t.sram (2 ^ 19 * 16 + 64 * 7169) 1, memBytes t.sram (2 ^ 19 * 16 + 64 * 7170) 1)) = some ([3], [4]) := by
  decide +kernel

theorem test_transmit : after (.decisionFrameTransmit 0 0) (resulting .v0 0) (fun t => t.out) = some [.frame 0 [1, 2]] := by
  decide +kernel

/-- The host frame stays behind the second decision frame (R306). -/
theorem test_transmit_first : after (.decisionFrameTransmit 0 0) sendingTwo (fun t => t.out) = some [.frame 0 [1, 2]] := by
  decide +kernel

/-- Template 3 builds a frame for interface 0, whose decisions are enabled. -/
def filling : State :=
  { resulting .v0 0x8003 with
    regs := (resulting .v0 0).regs.take 1 ++ [(regKey 0xB 0 0x40 0, 4)] ++ (resulting .v0 0).regs.drop 1,
    serve := { (resulting .v0 0).serve with tpl := [(82 * 3 + 80, 0x200)] } }

theorem witness_LinesLandAndDecisionsLeave_fill : (reg filling 0xD 0 0x8).getLsbD 0 = true ∧ templateFault filling 3 = none := by
  decide +kernel

/-- The frame is in the MAC 48 cycles later (R305). -/
theorem test_result : after (.resultLine 0 16 .v0 .ok .ok) filling
    (fun t => (t.serve.fills.map (·.due), t.fab.credits.map (·.due))) = some ([148], [110]) := by decide +kernel

/-! ## Host access -/

/-- Interface 0 up, source 0 with MAC address 7 on it and the given control word, its state as given, requests waiting. -/
def hosting (ctl : Word) (x : SourceSt) (path : List RegReq) (more : List (Nat × Word)) : State :=
  { upWith ([(regKey 0xB 0 8 0, 1), (regKey 0xF 0 8 0, 1), (regKey 0xF 0 0x4C 0, 7), (regKey 0xF 0 0x54 0, ctl)] ++ more) with
    now := 100, serve := { ServeSt.reset with ethUp := [(0, true)] },
    host := { HostSt.reset with sources := [(0, x)], path := path.map fun q => ⟨q, false, 90⟩ } }

def hdr : FrameHdr := ⟨0, 7, none, .raw⟩
def synced : SourceSt := ⟨false, true, 5, some [1, 2], 0⟩

/-- A request of seq 5 at the SERVE page's SRV_GATHER, which is readable and writable. -/
def req (op : Byte) (seq : Word) : RegReq :=
  ⟨hdr, false, 1, op, 0, seq, 0x38000044, if op = 2 ∨ op = 3 then 7168 else 0, if op = 3 then 0xFFFF else 0, if op = 4 then 2 else 0, 0⟩

/-- A valid source with every right, and one that may not write. -/
def hosted (op : Byte) : State := hosting 0x3F synced [req op 5] []
def readOnly (op : Byte) : State := hosting 0x23 synced [req op 5] []

/-- Nothing waits, and interface 0 takes raw register frames. -/
def direct : State :=
  { hosting 0x3F synced [] [] with
    regs := [(regKey 0xB 0 8 0, 1), (regKey 0xF 0 8 0, 1), (regKey 0xF 0 0x40 0, 1), (regKey 0xF 0 0x4C 0, 7), (regKey 0xF 0 0x54 0, 0x3F)] }

theorem witness_RegisterFramesArePerformed : (∀ op ∈ [(1 : Byte), 2, 3, 4, 5, 7],
      (hosted op).host.path = ⟨req op 5, false, 90⟩ :: [] ∧ matchSource (hosted op) (req op 5).hdr = some 0 ∧
      unprotectedIntf (hosted op) (req op 5).hdr.intf = false ∧ (sourceSt (hosted op) 0).frozen = false ∧
      malformed (req op 5) = false ∧ allowed (sourceRights (hosted op) 0) (req op 5) = true) ∧
    (sourceSt (hosted 1) 0).synced = true ∧ (sourceSt (hosted 1) 0).expected = (req 1 5).seq ∧
    (regRead (.frame 0) (req 1 5).addr (hosted 1)).1 = 0 ∧ (regRead (.frame 0) 0xFFFFFFFC (hosted 1)).1 ≠ 0 ∧
    (Instr.blockRead 0 (req 4 5)).wf = true ∧ direct.host.path = [] ∧ intfSends direct 0 = true ∧ regFrameOn direct hdr = true ∧
    matchSource (counted direct) hdr = some 0 ∧ unprotectedIntf (counted direct) 0 = false := by decide +kernel

/-- A request that arrives while none waits is performed at once. -/
theorem test_direct : after (.write 0 (req 2 5)) direct (fun t => (reg t 0xE 0 0x44, t.out.length)) = some (7168, 1) := by
  decide +kernel

/-- A WRITE of the expected seq is performed, uses the seq and is answered (R322). -/
theorem test_write : after (.write 0 (req 2 5)) (hosted 2)
    (fun t => (reg t 0xE 0 0x44, (sourceSt t 0).expected, t.out.length, t.host.path.length)) = some (7168, 6, 1, 0) := by
  decide +kernel

/-- EVENT_ACK of the pending frame. -/
def evented (t : Nat) (sends : Nat) : State :=
  let s := hosting 0x3F synced [req 7 5] [(regKey 0xF 0 0x6C 0, 1)]
  { s with host := { s.host with evtSeq := 5, evtFrame := some ⟨10, 3, sends, t, []⟩ } }

theorem witness_RegisterFramesArePerformed_events : (evented 0 1).host.evtFrame = some ⟨10, 3, 1, 0, []⟩ ∧
    (req 7 5).seq = (evented 0 1).host.evtSeq := by decide +kernel

theorem test_event_ack : after (.eventAck 0 (req 7 5)) (evented 0 1)
    (fun t => (t.host.evtNext, t.host.evtSeq, t.host.evtFrame.isNone, t.out.length)) = some (13, 6, true, 0) := by
  decide +kernel

/-- HA_CFG.require_macsec is 1. -/
def strict : State :=
  { hosting 0x3F synced [req 1 5] [] with
    regs := [(regKey 0xB 0 8 0, 1), (regKey 0xF 0 8 0, 1), (regKey 0xF 0 0x40 0, 5), (regKey 0xF 0 0x4C 0, 7), (regKey 0xF 0 0x54 0, 0x3F)] }

theorem witness_RegisterFramesAreRefused : (∀ op ∈ [(1 : Byte), 2, 3, 4],
      matchSource (hosting 0 synced [req op 5] []) (req op 5).hdr = none ∧
      unprotectedIntf (hosting 0x3F synced [req op 5] [(regKey 0xF 0 0x90 0, 0)]) 0 = false ∧
      allowed ⟨false, false, false, false⟩ (req op 5) = false ∧ malformed { req op 5 with flags := 1 } = true) ∧
    matchSource strict (req 1 5).hdr = some 0 ∧ strict.host.path = ⟨req 1 5, false, 90⟩ :: [] ∧ unprotectedIntf strict 0 = true ∧
    openUnprotected (req 1 5) = false ∧
    allowed (sourceRights (readOnly 2) 0) (req 2 5) = false ∧ 0 < ((req 2 9).seq - synced.expected).toNat ∧
    ((req 2 9).seq - synced.expected).toNat < 2 ^ 31 ∧ 2 ^ 31 ≤ ((req 2 3).seq - synced.expected).toNat ∧
    (req 2 3).seq + 1 ≠ synced.expected ∧ { synced with frozen := true }.frozen = true ∧ { synced with synced := false }.synced = false ∧
    allowed (sourceRights (readOnly 2) 0) (req 2 5) = false ∧ (req 2 5).seq = synced.expected ∧
    (hosting 0x3F synced [req 2 4] []).host.path = ⟨req 2 4, false, 90⟩ :: [] ∧ (req 2 4).seq + 1 = synced.expected ∧ synced.stored = some [1, 2] := by
  decide +kernel

/-- A write without its right freezes the source with status 0x03 (R323). -/
theorem test_rights : after (.write 0 (req 2 5)) (readOnly 2)
    (fun t => ((sourceSt t 0).frozen, reg t 0xE 0 0x44, reg t 0xF 0 0x10, (sourceSt t 0).status)) =
    some (true, reg (readOnly 2) 0xE 0 0x44, 1, 3) := by decide +kernel

/-- The last request again gets the stored response (R322). -/
theorem test_resend : after (.read 0 (req 1 4)) (hosting 0x3F synced [req 1 4] [])
    (fun t => ((sourceSt t 0).expected, t.out.length)) = some (5, 1) := by decide +kernel

/-- A sideband request at the head of the path. -/
def sidePath : State := { upWith [] with now := 100, host := { HostSt.reset with path := [⟨req 1 5, true, 90⟩] } }

/-- A sideband request waits behind one from an interface (R321). -/
theorem test_sideband_waits : after (.sidebandRegisterFrame 0 (.registerFrame (req 1 5))) (hosted 1)
    (fun t => (t.out.length, t.host.path.map (·.sideband))) = some (0, [false, true]) := by decide +kernel

theorem witness_SidebandAndSourceCommandsAct : (upWith []).dev.up = true ∧
    malformed { req 1 0 with flags := 1 } = true ∧ malformed (req 1 0) = false ∧ (req 1 0).op ≠ 7 ∧
    allowed ⟨true, true, false, true⟩ (req 1 0) = true ∧ (hosted 1).host.path ≠ [] ∧
    (∀ e ∈ (hosted 1).host.path, ¬(e.q = req 1 5 ∧ e.sideband = true)) ∧
    (sidePath.host.path = ⟨req 1 5, true, 90⟩ :: []) ∧
    allowed ⟨true, true, false, true⟩ { req 2 0 with addr := 0x40000040 } = false ∧ malformed { req 2 0 with addr := 0x40000040 } = false ∧
    (Instr.budgetEffecter 5000 9).wf = true ∧ (Instr.sourceReset .trotos 31).wf = true := by decide +kernel

theorem witness_SidebandAndSourceCommandsAct_base : (Instr.sidebandRegisterFrame 0 (.readSensor (.temperature 0))).wf = true ∧
    (Instr.sidebandRegisterFrame 0 (.setEndpointId 9)).wf = true ∧ fit (.sourceReset .trotos 31) (upWith []) = true := by decide +kernel

/-- The endpoint ID that is set is told (R334). -/
theorem test_endpoint : after (.sidebandRegisterFrame 0 .getEndpointId) { upWith [] with host := { HostSt.reset with eid := 9 } }
    (fun t => t.out) = some [.sidebandValue 9] := by decide +kernel

/-- The power is clamped to the package limit (R391). -/
theorem test_budget : after (.budgetEffecter 5000 9) (upWith []) (fun t => reg t 0x12 0 0x40) = some 0x91130 := by decide +kernel

/-- A packet to queue pair 0, which is READY with r_key 3 on window 1. -/
def roceHdr : FrameHdr := ⟨0, 7, none, .v4 1 2 0 3 4791⟩
def rdma (op : RdmaOp) (psn : BitVec 24) (len : Nat) : RdmaMsg :=
  ⟨roceHdr, op, 2, psn, 0xFFFF, true, false, 3, 64, len, List.replicate (min len 1024) 9, 0⟩
def pairedWith (x : QpSt) : State :=
  { upWith ([(regKey 6 0 0x214 0, 0xFFF), (regKey 6 0 0x218 0, 0x3F1)] ++
      [(regKey 0xB 0 8 0, 1), (regKey 0xF 0 8 0, 1), (regKey 0xF 1 8 0, 1), (regKey 0xF 1 0x48 0, 3), (regKey 0xF 1 0x4C 0, 0x301),
       (regKey 0xF 1 0x50 0, 20)]) with
    serve := { ServeSt.reset with ethUp := [(0, true)] }, host := { HostSt.reset with qps := [(0, x)] } }
def paired : State := pairedWith QpSt.reset
/-- A WRITE in progress; a WRITE to be acknowledged; a NAK sent. -/
def writing : State := pairedWith { QpSt.reset with writing := some ⟨20, 64, 64, []⟩ }
def acking : State := pairedWith { QpSt.reset with acks := [⟨18, 19, roceHdr, [(roceHdr, 18)]⟩] }
def naked : State := pairedWith { QpSt.reset with nakHeld := true }
/-- The state in which a packet of queue pair 0 is judged. -/
def judged (s : State) : State := qpCount 0 0 1 (ethCount 0 3 1 (ethCount 0 0 1 s))

theorem witness_RdmaMessagesArePerformed : (∀ s ∈ [paired, writing, acking, naked], intfSends s 0 = true ∧ roceOn s roceHdr = true ∧
      unprotectedIntf (ethCount 0 3 1 (ethCount 0 0 1 s)) 0 = false ∧ qpState (judged s) 0 = 1) ∧
    qpState (judged (pairedWith QpSt.reset)) 0 = 1 ∧ (rdma .discarded 20 0).op = .discarded ∧
    (∀ len ∈ [0, 64], rdmaCheck (judged paired) 0 true (rdma .writeOnly 20 len) = 0 ∧
      writeFits (judged paired) 0 (rdma .writeOnly 20 len) ⟨20, 64, len, []⟩ = true ∧
      rdmaCheck (judged paired) 0 false (rdma .readRequest 20 len) = 0 ∧
      rdmaCheck (judged paired) 0 false (rdma .readRequest 19 len) = 0) ∧
    writeFits (judged paired) 0 (rdma .writeFirst 20 1084) ⟨20, 64, 1084, []⟩ = true ∧ opBegins .writeFirst = true ∧
    opBegins .writeLast = false ∧ (qpSt (judged writing) 0).writing = some ⟨20, 64, 64, []⟩ ∧ (qpSt (judged paired) 0).writing = none ∧
    writeFits (judged writing) 0 (rdma .writeLast 20 64) ⟨20, 64, 64, []⟩ = true ∧
    psnPlace (judged paired) 0 20 = .expected ∧ psnPlace (judged writing) 0 20 = .expected ∧ psnPlace (judged paired) 0 19 = .duplicate ∧
    (qpSt (judged paired) 0).acks = [] ∧ psnPlace (judged naked) 0 21 = .ahead ∧ (qpSt (judged naked) 0).nakHeld = true ∧
    rdmaCheck (judged paired) 0 true { rdma .writeOnly 20 64 with rkey := 4 } = 1 ∧ rdmaCheck (judged paired) 0 true (rdma .unsupported 20 0) = 6 ∧
    (qpSt acking 0).acks = ⟨18, 19, roceHdr, [(roceHdr, 18)]⟩ :: [] ∧ qpState acking 0 = 1 ∧ (Instr.qpReset .trotos 1023).wf = true := by
  decide +kernel

theorem test_rdma_write : after (.rdmaWrite 0 ⟨(rdma .writeOnly 20 64), []⟩) paired
    (fun t => (t.hbm.length, reg t 0xF 1 0x50, (qpSt t 0).acks.map (·.psn))) = some (67, 21, [20]) := by decide +kernel

/-- The last packet of a WRITE ends it, and it waits to be acknowledged (R327). -/
theorem test_rdma_last : after (.rdmaWrite 0 ⟨(rdma .writeLast 20 64), []⟩) writing
    (fun t => (reg t 0xF 1 0x50, (qpSt t 0).acks.map (·.first), (qpSt t 0).writing)) = some (21, [20], none) := by
  decide +kernel

/-- The acknowledgement, and that of the duplicate that waited for it, leave (R327). -/
theorem test_rdma_ack : after (.rdmaWriteAck 0 0) acking (fun t => (t.out.length, (qpSt t 0).msn, (qpSt t 0).acks.length)) =
    some (2, 1, 0) := by decide +kernel

theorem test_qp_reset : after (.qpReset .trotos 0) naked (fun t => (qpState t 0, reg t 0xF 1 0x50, (qpSt t 0).nakHeld)) =
    some (0, 0, false) := by decide +kernel

/-- Forty entries unsent, and none pending. -/
def unsent : State :=
  let s := hosting 0x3F synced [] [(regKey 0xF 0 0x6C 0, 1)]
  { s with faults := { s.faults with head := 40 } }

theorem witness_EventFramesAreSent : evtMaySend unsent = true ∧ unsent.host.evtFrame = none ∧ 32 ≤ min 32 (evtUnsent unsent) ∧
    (evented 0 1).host.evtFrame ≠ none ∧ (evented 0 1).host.evtStalled = false ∧ (evented 0 1).now + 0 < 0 + 1880000 ∧
    0 + 1880000 ≤ (evented 0 1).now + 1880000 ∧ evtMaySend (evented 0 1) = true ∧ 8 ≤ (⟨10, 3, 8, 0, []⟩ : EventFrame).sends := by
  decide +kernel

/-- Three entries unsent, the oldest of which was logged at cycle 53,000; and a duplicate packet of an unsupported operation. -/
def fewUnsent : State :=
  let s := hosting 0x3F synced [] [(regKey 0xF 0 0x6C 0, 1)]
  { s with now := 100000, faults := { s.faults with
      head := 3, log := (List.range 3).map fun i => (i, ⟨BitVec.ofNat 32 i, 1, 5, 1, 0, 7, [], false, 53000⟩) } }

theorem witness_EventFramesAreSent_few : evtMaySend fewUnsent = true ∧ fewUnsent.host.evtFrame = none ∧ min 32 (evtUnsent fewUnsent) = 3 ∧
    (logAt fewUnsent (evtStart fewUnsent)).map (fun e => decide (e.at_ + 47000 ≤ fewUnsent.now + 0)) = some true ∧
    (logAt { fewUnsent with now := 99999 } (evtStart fewUnsent)).map (fun e => decide (99999 < e.at_ + 47000)) = some true ∧
    psnPlace (judged paired) 0 (rdma .unsupported 19 0).psn = .duplicate := by decide +kernel

/-- Fewer than 32 entries are sent 50 µs after the oldest of them (R328). -/
theorem test_event_few : after (.eventFrameSend 0) fewUnsent (fun t => (t.host.evtFrame.map fun f => (f.first, f.count, f.sends))) =
    some (some (0, 3, 1)) := by decide +kernel

/-- An unsupported operation is a violation at a PSN that was seen before too (R326). -/
theorem test_rdma_unsupported : after (.rdmaWrite 0 ⟨rdma .unsupported 19 0, []⟩) paired (fun t => ((qpState t 0), reg t 0xF 1 0x10 != 0)) = some (2, true) := by
  decide +kernel

theorem test_event_send : after (.eventFrameSend 0) unsent (fun t => (t.host.evtFrame.map fun f => (f.first, f.count, f.sends))) =
    some (some (0, 32, 1)) := by decide +kernel

theorem test_event_stall : after (.eventFrameResend 1880000) (evented 0 8) (fun t => (t.host.evtStalled, reg t 0xF 0 0x10)) =
    some (true, 8) := by decide +kernel

/-- A private key is held; HA_ADM_DATA has a reserved byte that is not 0; an interface with MACsec. -/
def prepared (l : List (Nat × Word)) : State :=
  { upWith l with host := { HostSt.reset with adm := 1, admPriv := some [1], macsec := [(3, ⟨some ([1], [2]), true, [], 0⟩)] } }

theorem witness_AdmissionAndMacsecAct : State.reset.host.admPriv = none ∧ (prepared []).host.admPriv = some [1] ∧
    ((admRecord (prepared [(regKey 0xF 0 0x13C 0, 1)])).drop 133).any (· != 0) = true ∧
    ((admRecord (prepared [])).drop 133).all (· == 0) = true ∧
    macsecOn (prepared [(regKey 0xF 0 0x90 3, 1)]) 3 = true ∧ (macsec (prepared []) 3).cak ≠ none ∧
    (Instr.sakInstall 7 3 ⟨[], [], 0, 0, 0, 0⟩ 0).wf = true ∧ (Instr.mkaSessionLoss 0 7).wf = true := by decide +kernel

theorem test_install_rejected : after (.install .trotos) (prepared [(regKey 0xF 0 0x13C 0, 1)])
    (fun t => (t.host.adm, t.host.admPriv, reg t 0xF 0 0x13C, reg t 0xF 0 0x10)) = some (0, none, 0, 0x10) := by decide +kernel

theorem test_mka_loss : after (.mkaSessionLoss 0 3) (prepared []) (fun t => ((macsec t 3).live, (macsec t 3).cak)) =
    some (false, some ([1], [2])) := by decide +kernel

/-! ## Cairns, pairs and spares -/

/-- The Cairn area in the hub cache of Cirque 0 from line 8,192 on, slots of one 4,096-byte block; slot 0 with a magic and
a seal byte, or empty. -/
def cairnRegs : List (Nat × Word) :=
  [(regKey 0x17 0 0x40 0, BitVec.ofNat 32 (hubAddr 0 8192)), (regKey 0x17 0 0x44 0, 0xF0), (regKey 0x17 0 0x48 0, 1)]
def cairns (magic : List Byte) (x : CairnSt) : State :=
  let s := withCore Core.reset
  { s with
    regs := windows ++ cairnRegs, hub := memPut [] (64 * 8192) magic, cairn := x,
    sched := { s.sched with active := some { image with jobs := [⟨0, false, 1, 3⟩, ⟨1, false, 0, 0⟩] } } }
def sealed0 : List Byte := [0x43, 0x41, 0x52, 0x4E, 0, 0, 1]

/-- A capture of slot 0 that waits for nothing, and one whose job's loss stamp is missing; a restore of job 1, which runs in no
partition, in its first phase; a restore of job 0 held in phase 2. -/
def captured (jobs : BitVec 8) : Capture := ⟨0, jobs, 0, 0, [], 0, [], 0⟩
def capturing (jobs : BitVec 8) : State := cairns [] { CairnSt.reset with captures := [captured jobs] }
def restore1 (phase : Nat) (jobs : BitVec 8) : Restore := ⟨0, jobs, phase, 0, 0, 0⟩
def restoringAt (phase : Nat) (jobs : BitVec 8) : State := cairns sealed0 { CairnSt.reset with restore := some (restore1 phase jobs) }

/-- The restart boundary that CAIRN_RESTART names, and this frame boundary is it. -/
def restarting : State :=
  { restoringAt 2 1 with regs := [(regKey 0x17 0 0x70 0, 2)], tick := { Tick.reset with
      running := true, n := 2, boundAt := 100, frameAt := 100, frameDone := true } }

/-- A Cairn area in the last 32 KiB of HBM, whose slot 0 reinstates one line, line 300 of the slot, to HBM address 2^20. -/
def reinstating : State :=
  let a := 8 * groupBytes - 0x8000
  let s := { withCore Core.reset with
    regs := [(regKey 0x17 0 0x40 0, BitVec.ofNat 32 a), (regKey 0x17 0 0x44 0, BitVec.ofNat 32 (a / 2 ^ 32)), (regKey 0x17 0 0x48 0, 1)] }
  { hbmWrite (a + 0x2000) (padTo 64 (leBytes 32 (300 + 2 ^ 64 * 2 ^ 14 + 2 ^ 128)))
      (hbmWrite a (padTo 64 (padTo 0x24 sealed0 ++ [1])) s) with
    cairn := { CairnSt.reset with restore := some (restore1 1 2) } }

/-- The checks before the digest pass for a sealed slot of the active layout. -/
theorem restore_reaches_digest : restoreCheck (cairns sealed0 CairnSt.reset) 0 2 ∉ [1, 2, 3] := by
  have a : slotSt (cairns sealed0 CairnSt.reset) 0 = 2 := by decide +kernel
  have b : (rget64 (cairns sealed0 CairnSt.reset) (regKey 0x17 0 0x4C 0)).toNat = slotField (cairns sealed0 CairnSt.reset) 0 8 8 := by
    decide +kernel
  have c : ((partsOfJobs (cairns sealed0 CairnSt.reset) 2).any fun p => !partFrozen (cairns sealed0 CairnSt.reset) p) = false := by
    decide +kernel
  have d : slotField (cairns sealed0 CairnSt.reset) 0 4 1 ≠ 1 := by decide +kernel
  unfold restoreCheck
  rw [if_neg (by rw [a]; decide), if_neg (by rw [b]; simp), if_neg (by rw [c]; decide), if_neg d]
  split
  · decide
  · decide

theorem witness_CairnsAreSealedAndRestored :
    ((capturing 0).cairn.captures.find? (·.slot == 0)) = some (captured 0) ∧ sealReady (capturing 0) (captured 0) = true ∧
    sealReady (capturing 1) (captured 1) = false ∧ restoring (restoringAt 1 2) (field (0 : Word) 3 2) = true ∧
    restoring (capturing 0) (field (0 : Word) 3 2) = false ∧ slotSt (cairns sealed0 CairnSt.reset) 0 = 2 ∧
    slotSt (cairns [] CairnSt.reset) 0 = 0 ∧ restoring (cairns sealed0 CairnSt.reset) 0 = false ∧
    restoreCheck (cairns [] CairnSt.reset) 0 0 = 1 ∧ (restoringAt 1 2).cairn.restore = some (restore1 1 2) ∧
    (reinsts reinstating 0).length = 1 ∧ reinstating.cairn.restore = some (restore1 1 2) ∧
    (reinstRead 0 (partsOfJobs reinstating 2) (firstJob 2) [(0, [.symbol 0 1, .symbol 1 1])] reinstating).1 = false ∧
    (reinstRead 0 (partsOfJobs reinstating 2) (firstJob 2) [] reinstating).1 = true ∧
    slotField (restoringAt 1 2) 0 4 1 = 0 ∧ restarting.cairn.restore = some (restore1 2 1) ∧
    restartDue restarting (restore1 2 1) = true ∧ trainingOf restarting (1 : BitVec 8) ≠ [] ∧
    restartDue (restoringAt 2 1) (restore1 2 1) = false := by decide +kernel

/-- A VOID of a SEALED slot writes its seal byte, and of an empty one nothing (R345). -/
theorem test_void : after (.void ⟨.trotos, []⟩ 0) (cairns sealed0 CairnSt.reset) (fun t => (slotSt t 0, reg t 0x17 0 0x10)) =
    some (3, 1) := by decide +kernel

theorem test_restore_rejected : after (.restore ⟨.trotos, []⟩ 0) (cairns [] CairnSt.reset)
    (fun t => (t.cairn.reason, t.cairn.restore.isNone, reg t 0x17 0 0x10)) = some (1, true, 2) := by decide +kernel

/-- A formed pair over link 0, which is in UP; values kept, and the state of the pair. -/
def pairOf (x : PairSt) (l : List (Nat × Word)) : State :=
  { upWith ([(regKey 0x18 0 0x40 0, 0x600), (regKey 0x18 0 0x44 0, 1)] ++ l) with
    links := [(0, upLink)], pair := { x with formed := true } }
def value (done : Bool) : PairVal := ⟨0x13, 2, 5, 6, 7, 0, 0, 0, done⟩
def pairMessage : PairMsg := ⟨2, 5, 6, 7⟩
def kept : State := pairOf { PairSt.reset with own := [value false], st := 1 } []

theorem witness_PairMessagesAreCompared : onPairLink kept 0 = true ∧ onPairLink kept 1 = false ∧
    (PairSt.reset.own.find? (sameKey (value false))) = none ∧ PairSt.reset.peer.any (sameKey (value false)) = false ∧
    kept.pair.own.find? (sameKey ⟨0x13, pairMessage.place, pairMessage.step, pairMessage.value, pairMessage.value2,
      frameNo kept, 0, 0, false⟩) = some (value false) ∧ (value false).done = false ∧ (value false).value = pairMessage.value ∧
    (value false).value2 = pairMessage.value2 ∧ kept.pair.st ≠ 3 ∧ kept.pair.candidate = none ∧ kept.pair.tiles = none ∧
    kept.pair.own[0]? = some (value false) ∧ frameNo kept < (value false).frame + 64 ∧
    (value false).frame + 64 ≤ frameNo { kept with tick := { Tick.reset with running := true, n := 1048576 } } := by decide +kernel

/-- A loss of job 2 and step 5 kept, and the partner's that differs; after a rollback, and when this divergence was the last. -/
def lossKept (rollbacks : Nat) (l : List (Nat × Word)) : State :=
  pairOf { PairSt.reset with st := 1, rollbacks := rollbacks, own := [⟨0x12, 2, 5, 6, 7, 0, 0, 0, false⟩] } l
def otherLoss : PairMsg := ⟨2, 5, 8, 7⟩
/-- A Cairn area whose slot 0 is sealed and matched, and a loss kept. -/
def lossCairn : State :=
  { cairns sealed0 { CairnSt.reset with matched := [(0, true)] } with
    regs := windows ++ cairnRegs ++ [(regKey 0x18 0 0x40 0, 0x600), (regKey 0x18 0 0x44 0, 1)], links := [(0, upLink)],
    pair := (lossKept 0 []).pair }
def proposed : State := pairOf { PairSt.reset with st := 2, candidate := some (0, 3) } []

theorem witness_PairMessagesAreCompared_diverge : onPairLink (lossKept 0 []) 0 = true ∧
    ((lossKept 0 []).pair.own.find? (sameKey ⟨0x12, 2, 5, 8, 7, 0, 0, 0, false⟩)).map (·.value) = some 6 ∧ otherLoss.value ≠ 6 ∧
    (lossKept 0 []).pair.st < 4 ∧ sameDivergence (lossKept 0 []) 3 2 5 = false ∧ (lossKept 0 []).pair.rollbacks < maxRollback (lossKept 0 []) ∧
    maxRollback (lossKept 1 []) ≤ (lossKept 1 []).pair.rollbacks ∧
    sameDivergence (lossKept 0 [(regKey 0x18 0 0x54 0, 0x20003), (regKey 0x18 0 0x58 0, 5)]) 3 2 5 = true ∧
    newestMatched (lossKept 0 []) = none ∧ newestMatched lossCairn = some (0, 0) ∧
    onPairLink proposed 0 = true ∧ proposed.pair.candidate = some (0, 3) ∧ isCopy proposed 0 (.candidate 1 4) = false ∧
    isCopy { proposed with pair := { proposed.pair with heard := [(.candidate 1 4, [1])] } } 0 (.candidate 1 4) = true := by
  decide +kernel

/-- A loss that differs proposes the newest slot that both hold (R357), and is HELD after too many rollbacks, or at once where it
was the last divergence too (R358). -/
theorem test_loss_differs : after (.pairLossMsg 0 0 otherLoss) lossCairn (fun t => (t.pair.st, t.pair.candidate, t.pair.rollbacks)) =
      some (2, some (0, 0), 1) ∧
    after (.pairLossMsg 0 0 otherLoss) (lossKept 1 []) (fun t => t.pair.st) = some 4 ∧
    after (.pairLossMsg 0 0 otherLoss) (lossKept 0 [(regKey 0x18 0 0x54 0, 0x20003), (regKey 0x18 0 0x58 0, 5)])
      (fun t => t.pair.st) = some 4 := by decide +kernel

/-- Equal seals match the slot (R355). -/
theorem test_pair_seal : after (.pairSealMsg 0 0 pairMessage) kept
    (fun t => (sget (fun _ => false) t.cairn.matched 2, t.pair.own.map (·.done))) = some (true, [true]) := by decide +kernel

theorem test_pair_unknown : after (.pairTraceMsg 0 0 pairMessage) kept (fun t => t.pair.peer.map (·.code)) = some [0x11] := by
  decide +kernel

/-- The primary and the secondary of a pair. -/
def inRole (role : Word) (x : PairSt) : State :=
  { upWith [(regKey 0xE 0 0x74 0, role), (regKey 0x18 0 0x40 0, 0x600), (regKey 0x18 0 0x44 0, 1)] with
    links := [(0, upLink)], pair := { x with formed := true } }

theorem witness_TakeoversAndVerdictsAct : (pairLinks (inRole 2 PairSt.reset)).contains 0 = true ∧
    (reg (inRole 2 PairSt.reset) 0x18 0 0x40).getLsbD 10 = true ∧ pairRole (inRole 2 PairSt.reset) = 2 ∧
    (reg (inRole 2 PairSt.reset) 0x18 0 0x40).getLsbD 9 = true ∧ PairSt.reset.taken = false ∧
    pairRole (inRole 1 PairSt.reset) = 1 ∧ (reg (inRole 1 PairSt.reset) 0x18 0 0x40).getLsbD 9 = true ∧ PairSt.reset.fault = none ∧
    (inRole 1 { PairSt.reset with st := 4 }).pair.st = 4 ∧ (inRole 1 { PairSt.reset with st := 3 }).pair.st = 3 ∧
    (inRole 1 { PairSt.reset with st := 3 }).pair.verdict = none ∧
    (∀ v ∈ [none, some none, some (some false), some (some true)],
      (inRole 1 { PairSt.reset with st := 3, peerVerdict := v }).pair.peerVerdict = v) ∧
    (∀ k ∈ pairLinks (inRole 2 PairSt.reset), (link (inRole 2 PairSt.reset) k).markAt + 2 * ticT (inRole 2 PairSt.reset) ≤ 64) ∧
    0 ∈ pairLinks (inRole 2 PairSt.reset) ∧
    63 < (link (inRole 2 PairSt.reset) 0).markAt + 2 * ticT (inRole 2 PairSt.reset) := by decide +kernel

/-- Two ticks without a marker signal the takeover, and no less (R356). -/
theorem test_silence : after (.pairSilence 64) (inRole 2 PairSt.reset) (fun t => t.pair.taken) = some true ∧
    after (.pairSilence 63) (inRole 2 PairSt.reset) (fun t => t.pair.taken) = some false := by decide +kernel

/-- A dispute over a granule of one line, which holds the given byte where the update of weights of zero gives zeros. -/
def disputing (stored : Byte) (peer : Option (Option Bool)) : State :=
  { inRole 1 { PairSt.reset with
      st := 3, peerVerdict := peer, disputed := some ⟨0x10, 2, 5, 6, 7, 0, hubAddr 0 9, 1, false⟩ } with
    hub := if stored = 0 then [] else [(64 * 9, stored)] }
def update (errs : List (Nat × SymErrs)) : Recompute := ⟨0, 0, 64, 128, 192, 256, errs⟩

theorem witness_TakeoversAndVerdictsAct_recompute : (disputing 0 none).pair.st = 3 ∧ (disputing 0 none).pair.verdict = none ∧
    disputedGranule (disputing 0 none) = (hubAddr 0 9, 1) ∧
    (crestRead (recomputeExtents (disputing 0 none) (update [])) [] (disputing 0 none)).1 = true ∧
    recomputeEquals (disputing 0 none) (update []) = true ∧ recomputeEquals (disputing 5 none) (update []) = false ∧
    (crestRead (recomputeExtents (disputing 0 none) (update [])) [(0, [.symbol 0 1, .symbol 1 1])] (disputing 0 none)).1 = false ∧
    fit (.handover .trotos) (inRole 1 PairSt.reset) = true := by decide +kernel

/-- Equal verdicts hold the pair, and a device that finds itself wrong is faulty (Table 12.7, R356). -/
theorem test_recompute_holds :
    after (.recomputeDone 0 (update [])) (disputing 0 (some (some true))) (fun t => t.pair.st) = some 4 ∧
    after (.recomputeDone 0 (update [])) (disputing 5 none) (fun t => (t.pair.st, reg t 0x18 0 0x10)) = some (5, 0x60) := by
  decide +kernel

theorem test_takeover : after (.primaryFaultMsg 0 0 2) (inRole 2 PairSt.reset) (fun t => (t.pair.taken, t.pair.takePending)) =
    some (true, true) := by decide +kernel

theorem test_takeover_primary : after (.primaryFaultMsg 0 0 2) (inRole 1 PairSt.reset) (fun t => t.pair.taken) = some false := by
  decide +kernel

theorem test_release : after (.release .trotos) (inRole 1 { PairSt.reset with st := 4 }) (fun t => t.pair.st) = some 0 := by
  decide +kernel

/-- A core of a column with none unusable, and with two. -/
def failing (bad : List PhysCore) : State := { upWith [] with dev := { (upWith []).dev with bad := bad } }

/-- A fill of Ridge 0 with no image, whose core is row 3. -/
def filled : State := { failing [⟨0, 0, 3⟩] with dev := { (failing [⟨0, 0, 3⟩]).dev with fills := [⟨[⟨0, 0, 3⟩], [288], true⟩] } }

/-- Fills of five columns. -/
def fillingFive : State := { failing [] with dev := { (failing []).dev with fills := (List.range 5).map fun k => ⟨[⟨0, k, 3⟩], [288 + k], false⟩ } }

theorem witness_SparesAndStreamKeysAct : inService (failing []) ⟨0, 0, 3⟩ = true ∧ inService (failing []) ⟨0, 0, 25⟩ = false ∧
    (badRows (failing [⟨0, 0, 1⟩, ⟨0, 0, 2⟩, ⟨0, 0, 3⟩]) 0 0).length = 3 ∧
    inService (failing [⟨0, 0, 1⟩, ⟨0, 0, 2⟩]) ⟨0, 0, 3⟩ = true ∧ (badRows (failing [⟨0, 0, 3⟩]) 0 0).length < 3 ∧
    (failing []).dev.fills = [] ∧
    (raise 3 0 4 1 (0 + 2 ^ 8 * 3) (.parts [partOfRidge (failing []) 0]) (failing [⟨0, 0, 3⟩])).dev.fills = [] ∧
    filled.dev.fills = ⟨[⟨0, 0, 3⟩], [288], true⟩ :: [] ∧ (Fill.mk [⟨0, 0, 3⟩] [288] true).ridge = 0 ∧
    inService filled ⟨0, 0, 4⟩ = true ∧ filled.dev.fills.any (fillsColumn ⟨0, 0, 4⟩) = true ∧
    inService filled ⟨0, 1, 4⟩ = true ∧ filled.dev.fills.any (fillsColumn ⟨0, 1, 4⟩) = false ∧
    (fillingFive.dev.fills.any (fillsColumn ⟨0, 9, 4⟩) = false) ∧ 5 ≤ fillingFive.dev.fills.length ∧ inService fillingFive ⟨0, 9, 4⟩ = true ∧
    (badRows (failing [⟨0, 1, 4⟩]) 0 1).length < 3 ∧ filled.sched.active = none ∧
    field (reg (upWith [(regKey 0x19 1 0x40 0, 3)]) 0x19 (67 / 64) 0x40) 5 0 = 67 % 64 ∧
    canonical (upWith [(regKey 0x19 1 0x40 0, 3)]) = true ∧ (Instr.rngKeyCommit .trotos 67 5).wf = true := by decide +kernel

theorem witness_SparesAndStreamKeysAct_jobs : ∀ j, (jobParts filled j).contains (partOfRidge filled 0) = false := by
  intro j; rfl

/-- The same under an image whose job 0 has a sealed slot in partition 0. -/
def filledJob : State :=
  { cairns (sealed0.set 5 1) CairnSt.reset with dev := { (cairns [] CairnSt.reset).dev with bad := [⟨0, 0, 3⟩], fills := filled.dev.fills } }

theorem witness_SparesAndStreamKeysAct_cairn : partOfRidge filledJob 0 = 0 ∧ (jobParts filledJob 0).contains 0 = true ∧
    (List.range 8).filter (fun j => (jobParts filledJob j).contains 0) = [0] ∧ lastSealed filledJob 1 = some 0 ∧
    fit (.rngKeyCommit .trotos 67 5) (upWith [(regKey 0x19 1 0x40 0, 3)]) = true := by decide +kernel

/-- A third unusable core of a column leaves no spare (R362). -/
theorem test_core_fail : after (.coreFail 0 ⟨0, 0, 3⟩) (failing [⟨0, 0, 1⟩, ⟨0, 0, 2⟩])
    (fun t => (t.dev.bad.length, reg t 3 0 0x10, t.dev.fills.length)) = some (3, 0x20, 0) := by decide +kernel

/-- A failure while five columns are filled ends the fills (R361). -/
theorem test_sixth_column : after (.coreFail 0 ⟨0, 9, 4⟩) fillingFive (fun t => (reg t 3 0 0x10, t.dev.fills.length)) =
    some (0x20, 0) := by decide +kernel

theorem test_rng_key : after (.rngKeyCommit .trotos 67 5) (upWith [(regKey 0x19 1 0x40 0, 3)])
    (fun t => ((rngOf t 67).commit, (rngOf t 67).keySet)) = some (some (BitVec.ofNat 128 (5 * 2 ^ 96)), false) := by decide +kernel

/-! ## Resets, power states and digests -/

/-- A frozen partition, one that runs, and one with a cluster under reset; a partition that is parked. -/
def stopped (st : Nat) (r : List ResetRun) : State :=
  { withCore Core.reset with parts := [(0, ⟨st, none, false, false⟩)], resets := r }

/-- A partition whose Ridges are in a power state. -/
def asleep (code : Nat) : State :=
  { stopped code [] with dev := { (stopped code []).dev with power := (List.range 16).map fun d => (d, code) } }

theorem witness_ResetsBegin : covered (stopped 2 []) (.core 9215) = false ∧ covered (stopped 2 []) (.cluster 575) = false ∧
    (stopped 2 []).sched.st ≠ 3 ∧ (part (stopped 2 []) (regionPart (stopped 2 []) (.core 9215))).st ∈ [0, 2, 4] ∧
    covered (stopped 2 [⟨.cluster 0, 90, false, false⟩]) (.core 0) = true ∧
    (part (stopped 1 []) (partOf (stopped 1 []) 0)).st ∉ [0, 2, 4] ∧
    (part (stopped 1 []) (partOfCluster (stopped 1 []) 0)).st ∉ [0, 2, 4] ∧ partRidges (stopped 1 []) 0 ≠ [] ∧
    covered (stopped 1 []) (.partition 0) = false ∧ (part (stopped 1 []) 0).move = none ∧ powered (stopped 1 []) 0 = true ∧
    powered (asleep 7) 0 = false ∧ (part (asleep 7) 0).move = none ∧ fit (.partitionReset .trotos 0) (asleep 7) = true ∧
    { (part (stopped 1 []) 0) with move := some (1, 110) }.move ≠ none := by decide +kernel

theorem test_core_reset : after (.coreReset .trotos 0) (stopped 2 []) (fun t => t.resets.map (·.region)) = some [.core 0] := by
  decide +kernel

/-- A core of a RUNNING partition is not reset (Table 13.5). -/
theorem test_core_reset_ignored : after (.coreReset .trotos 0) (stopped 1 []) (fun t => (t.resets.length, reg t 5 0 0x10)) =
    some (0, 0x1000) := by decide +kernel

/-- A reset of core 0 whose drain ends, with a flit held or none; one that is drained; and a partition's. -/
def drain (d : Bool) : ResetRun := ⟨.core 0, 90, d, false⟩
def draining (x : Core) (d : Bool) : State := { withCore x with parts := [(0, ⟨2, none, false, false⟩)], resets := [drain d] }
def partDrained : State := stopped 3 [⟨.partition 0, 90, true, false⟩]

theorem witness_ResetsComplete :
    ((draining Core.reset false).resets.find? fun x => x.region == .core 0 && !x.drained) = some (drain false) ∧
    heldFlits (draining Core.reset false) (regionCores (draining Core.reset false) (.core 0)) = 0 ∧
    heldFlits (draining { Core.reset with queues := [(4, [⟨flit true, 0⟩])] } false)
      (regionCores (draining { Core.reset with queues := [(4, [⟨flit true, 0⟩])] } false) (.core 0)) ≠ 0 ∧
    ((draining Core.reset true).resets.find? fun x => x.region == .core 0 && x.drained) = some (drain true) ∧
    (partDrained.resets.find? fun x => x.region == .partition 0 && x.drained) = some ⟨.partition 0, 90, true, false⟩ := by
  decide +kernel

/-- The reset of cluster 0, drained, with a core of it and one outside it that hold something. -/
def clusterDrained : State :=
  { stopped 2 [⟨.cluster 0, 90, true, false⟩] with
    cores := [(0, { Core.reset with frozen := true }), (8, { Core.reset with frozen := true })], sram := [(0, 7), (2 ^ 19 * 8, 7)] }

theorem witness_ResetsComplete_cluster : canonical clusterDrained = true ∧
    (clusterDrained.resets.find? fun x => x.region == .cluster 0 && x.drained) = some ⟨.cluster 0, 90, true, false⟩ ∧
    0 ∈ regionCores clusterDrained (.cluster 0) ∧ 8 ∉ regionCores clusterDrained (.cluster 0) ∧ retClass 5 0 0x10 = 4 ∧
    retClass 4 0 0x10 = 4 := by decide +kernel

/-- A cluster's reset clears its cores and leaves the next cluster alone (R378). -/
theorem test_cluster_reset : after (.resetComplete 0 (.cluster 0)) clusterDrained
    (fun t => ((Machine.core t 0).frozen, (Machine.core t 8).frozen, t.sram, t.resets.length)) =
    some (false, true, [(2 ^ 19 * 8, 7)], 0) := by decide +kernel

/-- A held flit is discarded at the end of the drain window and counted (R377). -/
theorem test_drain_end : after (.drainEnd 0 (.core 0)) (draining { Core.reset with queues := [(4, [⟨flit true, 0⟩])] } false)
    (fun t => ((Machine.core t 0).queues.length, reg t 0x15 0 0x60, t.now)) = some (0, 1, 154) := by decide +kernel

/-- A transition in progress. -/
def transit (st target : Nat) (frozen : Bool) : State :=
  { stopped 0 [] with parts := [(0, ⟨st, some (target, 110), frozen, false⟩)], cores := [] }

theorem witness_PowerStatesChange : (part (stopped 7 []) 0).move = none ∧ resetWithin (stopped 7 []) 0 = false ∧
    recovering (stopped 7 []) 0 = false ∧ partRidges (stopped 7 []) 0 ≠ [] ∧ powered (asleep 7) 0 = false ∧
    field (0 : Word) 1 0 = 0 ∧ field (2 : Word) 1 0 ≠ 0 ∧ (part (stopped 2 []) 0).st ∈ [0, 2, 4] ∧
    resetWithin (stopped 2 []) 0 = false ∧ (part (stopped 1 []) 0).st ∈ [1, 3, 5] ∧
    resetWithin (stopped 2 [⟨.core 0, 90, false, false⟩]) 0 = true ∧ canonical (transit 2 1 false) = true ∧
    (part (transit 2 1 false) 0).move = some (1, 110) ∧ (part (transit 2 1 false) 0).resetAfter = false ∧
    (part (transit 6 0 true) 0).move = some (0, 110) ∧ (part (transit 6 0 true) 0).st = 6 ∧ canonical (transit 6 0 true) = true ∧
    (part (transit 6 0 true) 0).resetAfter = false ∧ partRidges (stopped 2 []) 3 = [] := by decide +kernel

/-- An entry into Retain and into Off, and the exits from them. -/
def changing (code target : Nat) : State :=
  { asleep code with parts := [(0, { Part.reset with st := code, move := some (target, 110) })], cores := [], sram := [(0, 7)] }

theorem witness_PowerStatesChange_deep : (∀ x ∈ [changing 0 2, changing 0 3, changing 7 0, changing 8 0],
      canonical x = true ∧ (part x 0).resetAfter = false ∧ (part x 0).move.isSome = true) ∧
    7 ≤ partPower (changing 7 0) 0 ∧ coreOff (changing 7 0) 0 = false ∧ coreOff (changing 8 0) 0 = true ∧
    partPower (transit 6 0 true) 0 ≤ 6 ∧ (changing 8 0).cairn.captures = [] ∧
    fit (.powerStateRequest .trotos 0 2) (asleep 7) = true := by decide +kernel

/-- A partition parked when frozen is FROZEN again after its exit (Table 13.7). -/
theorem test_park : after (.powerTransitionDone 0 0) (transit 2 1 false) (fun t => ((part t 0).st, (part t 0).wasFrozen)) =
    some (6, true) ∧ after (.powerTransitionDone 0 0) (transit 6 0 true) (fun t => (part t 0).st) = some 2 := by decide +kernel

/-- Link 0 to device 9 is in UP, the layouts agree, and frame 4 has the digest 8; the peer's row as given. -/
def publishing (row : List DigPeer) : State :=
  { upWith [(regKey 0x17 0 0x4C 0, 3)] with
    links := [(0, { upLink with peerDevice := 9 })], dig := { DigSt.reset with own := [(4, 8)], peers := row } }

theorem witness_DigestsAreCompared : (link (publishing []) 0).st = 5 ∧ comparable (publishing []) 0 3 = true ∧
    comparable (publishing []) 0 4 = false ∧ ((publishing []).dig.own.find? fun o => BitVec.ofNat 32 o.1 == 4) = some (4, 8) ∧
    (publishing []).dig.compared.contains 9 = false ∧ (peerRow (publishing []) 9).raised = false ∧
    (peerRow (publishing []) 9).run < 3 ∧ 3 ≤ (peerRow (publishing [⟨9, 0, 3, false, 0⟩]) 9).run ∧
    (peerRow (publishing [⟨9, 0, 3, false, 0⟩]) 9).raised = false ∧ (peerRow (publishing [⟨9, 0, 4, true, 0⟩]) 9).raised = true ∧
    4 < (peerRow (publishing [⟨9, 0, 3, false, 5⟩]) 9).last ∧
    ((publishing []).dig.own.find? fun o => BitVec.ofNat 32 o.1 == 5) = none := by decide +kernel

/-- The fourth frame in a row that differs raises config_diverge (R432); the third does not. -/
theorem test_diverge : after (.digestMsg 0 0 4 3 7 false) (publishing [⟨9, 0, 3, false, 0⟩])
    (fun t => (reg t 0x14 0 0x10, t.dig.lastPeer, t.faults.head)) = some (1, 9, 1) ∧
    after (.digestMsg 0 0 4 3 7 false) (publishing [⟨9, 0, 2, false, 0⟩]) (fun t => (reg t 0x14 0 0x10, t.dig.lastPeer)) =
    some (0, 0) := by decide +kernel

/-- An idle block takes no command and stays as it is (log entry 8). -/
theorem test_idle : step State.reset = .next State.reset := rfl

end Sys2Proof.Tests
end

/-! # The registers and the block: what holds of every command, cause and register access -/

namespace Sys2Proof.Machine

open Sys2Proof

/-! ## Commands and units -/

/-- Every command is the answer of some effect. -/
theorem exec_eq_answer (i : Instr) (s : State) : ∃ t, exec i s = answer i s t := by
  cases i <;> exact ⟨_, rfl⟩

/-- A command that names only units that exist completes, and leaves the queue to the step (log entry 92). -/
theorem answer_of_wf {i : Instr} (h : i.wf = true) (s t : State) :
    ∃ u, answer i s t = .next u ∧ u.pending = s.pending := by
  have hnone : (i.units.find? fun u => !decide (u.number < u.count)) = none := by
    simpa using (Laws.Wf.of_units i).mp h
  unfold answer
  rw [hnone]
  exact ⟨_, rfl, rfl⟩

/-- A command that names an absent unit stops with the fault of the first of them (log entry 92). -/
theorem answer_of_not_wf {i : Instr} (h : i.wf = false) (s t : State) :
    ∃ u ∈ i.units, u.count ≤ u.number ∧ answer i s t = .fault (.noSuchUnit u.kind u.number) := by
  unfold answer
  cases hfind : i.units.find? fun u => !decide (u.number < u.count) with
  | none =>
    have hwf : i.wf = true := (Laws.Wf.of_units i).mpr (by simpa using hfind)
    simp [hwf] at h
  | some u => exact ⟨u, List.mem_of_find?_eq_some hfind, by simpa using List.find?_some hfind, rfl⟩

/-- What every change of the state keeps, and a change of the queue with it, every step keeps. -/
theorem step_keeps {P : State → Prop} (C : Closed (fun _ => True) P)
    (hq : ∀ (s : State) q, P s → P { s with pending := q }) {s t : State} (hs : P s) (h : step s = .next t) : P t := by
  unfold step at h
  split at h
  · cases h
    exact hs
  · exact exec_keeps C hq (fun _ _ => trivial) (hq s _ hs) h

/-- Settles O2: every command is an `answer`, and `exec_keeps` carries both counters through a step. -/
theorem commandsStopOnlyOnAbsentUnits : Obligations.CommandsStopOnlyOnAbsentUnits := by
  refine ⟨fun i s => ?_, fun s t h => ⟨?_, ?_⟩⟩
  · obtain ⟨t, ht⟩ := exec_eq_answer i s
    rw [ht]
    exact ⟨fun hwf => answer_of_wf hwf s t, fun hwf => answer_of_not_wf hwf s t⟩
  · exact step_keeps (closed_clock s.now) (fun _ _ h => h) le_rfl h
  · exact step_keeps (closed_free s.free) (fun _ _ h => h) le_rfl h

/-! ## Bits of a register word -/

/-- Bit n of a word, by arithmetic. -/
theorem getLsbD_eq_decide (w : Word) (n : Nat) : w.getLsbD n = decide (w.toNat / 2 ^ n % 2 = 1) :=
  Nat.testBit_eq_decide_div_mod_eq

theorem toNat_setField_bit31 (w : Word) (v : Nat) :
    (setField w 31 31 v).toNat = w.toNat % 2 ^ 31 + v % 2 * 2 ^ 31 := by
  have := w.isLt
  simp only [setField, field, bitsOf, BitVec.toNat_ofNat]
  omega

/-- A bit 31 that is set again is left as it was. -/
theorem setField_bit31_of_set {w : Word} (h : w.getLsbD 31 = true) : setField w 31 31 1 = w := by
  have := w.isLt
  have hbit : w.toNat / 2 ^ 31 % 2 = 1 := by
    rw [getLsbD_eq_decide] at h
    exact of_decide_eq_true h
  apply BitVec.eq_of_toNat_eq
  rw [toNat_setField_bit31]
  omega

theorem getLsbD_setField_bit31 (w : Word) (v : Nat) :
    (setField w 31 31 v).getLsbD 31 = decide (v % 2 = 1) := by
  rw [getLsbD_eq_decide, toNat_setField_bit31, decide_eq_decide]
  omega

/-- Bit 31 is no part of a bit index. -/
@[simp] theorem field_setField_bit31 (w : Word) (v : Nat) : field (setField w 31 31 v) 4 0 = field w 4 0 := by
  simp only [field, bitsOf, toNat_setField_bit31]
  omega

/-- A bit 1 that is set is set. -/
theorem getLsbD_setField_bit1 (w : Word) : (setField w 1 1 1).getLsbD 1 = true := by
  have := w.isLt
  rw [getLsbD_eq_decide, decide_eq_true_eq]
  simp only [setField, field, bitsOf, BitVec.toNat_ofNat]
  omega

theorem toNat_append_word (v w : Word) : (v ++ w : BitVec 64).toNat = v.toNat * 2 ^ 32 + w.toNat := by
  rw [BitVec.toNat_append, ← Nat.shiftLeft_add_eq_or_of_lt w.isLt, Nat.shiftLeft_eq]

/-! ## Registers of one page -/

@[simp] theorem regKey_inj {cls inst a b : Nat} : regKey cls inst a 0 = regKey cls inst b 0 ↔ a = b := by
  simp [regKey, regAddr]

@[simp] theorem regKey_hi (cls inst off : Nat) : regKey cls inst off 0 + 4 = regKey cls inst (off + 4) 0 := by
  simp only [regKey, regAddr]
  omega

@[simp] theorem swf_rset {s : State} {k : Nat} {v : Word} (h : swf regReset s.regs = true) :
    swf regReset (rset k v s).regs = true :=
  swf_sset h

/-- What a stored register holds after a write of one. -/
theorem rget_rset_ite {s : State} (h : swf regReset s.regs = true) (k j : Nat) (v : Word) :
    rget (rset k v s) j = if j = k then v else rget s j := by
  split
  · next hjk => rw [hjk, rget_rset h]
  · next hjk => exact rget_rset_other h hjk v

theorem rget_rset64_other {s : State} (h : swf regReset s.regs = true) {k j : Nat} (hlo : j ≠ k) (hhi : j ≠ k + 4)
    (v : Dword) : rget (rset64 k v s) j = rget s j := by
  rw [rset64, rget_rset_other (swf_rset h) hhi, rget_rset_other h hlo]

theorem rget64_rset64 {s : State} (h : swf regReset s.regs = true) (k : Nat) (v : Dword) :
    rget64 (rset64 k v s) k = v := by
  rw [rget64, rset64, rget_rset (swf_rset h), rget_rset_other (swf_rset h) (by omega), rget_rset h]
  apply BitVec.eq_of_toNat_eq
  have := v.isLt
  rw [toNat_append_word, BitVec.toNat_ofNat, BitVec.toNat_ofNat]
  omega

/-! ## What a cause leaves in its page (R23) -/

/-- ERR_FIRST as a cause finds it: valid again where a write of its cycle has cleared it. -/
def firstFound (s : State) (cls inst : Nat) : Word :=
  if (freshPage s cls inst).wiped then setField (reg s cls inst 0x18) 31 31 1 else reg s cls inst 0x18

/-- A cause of bit index `bit` leaves ERR_FIRST and ERR_TICK to the one recorded before it. -/
def leavesFirst (s : State) (cls inst bit : Nat) : Bool :=
  (firstFound s cls inst).getLsbD 31 &&
    !((freshPage s cls inst).latched && decide (bit < field (firstFound s cls inst) 4 0))

/-- The state once a cause is in ERR_SUM and ERR_CNT, before ERR_FIRST. -/
def causeCounted (s : State) (cls inst bit : Nat) : State :=
  let fr := freshPage s cls inst
  setReg cls inst 0x1C (if reg s cls inst 0x1C = 0xFFFFFFFF then reg s cls inst 0x1C else reg s cls inst 0x1C + 1)
    (setReg cls inst 0x10 (reg s cls inst 0x10 ||| BitVec.ofNat 32 (2 ^ bit))
      (setFreshPage ⟨fr.page, fr.bits ||| BitVec.ofNat 32 (2 ^ bit), fr.count + 1,
        if fr.count = 0 then reg s cls inst 0x1C else fr.before,
        fr.latched || !(firstFound s cls inst).getLsbD 31, false⟩ s))

/-- The two ways in which `recordCause` ends: ERR_FIRST stays with the earlier cause, or the new one takes it. -/
theorem recordCause_of_leaves {s : State} {cls inst bit : Nat} (h : leavesFirst s cls inst bit = true) (f detail : Nat) :
    recordCause cls inst bit f detail s =
      setReg cls inst 0x18 (firstFound s cls inst) (causeCounted s cls inst bit) :=
  if_pos h

theorem recordCause_of_takes {s : State} {cls inst bit : Nat} (h : leavesFirst s cls inst bit = false) (f detail : Nat) :
    recordCause cls inst bit f detail s =
      rset64 (regKey cls inst 0x20 0) (tickN s) (setReg cls inst 0x18
        (BitVec.ofNat 32 (2 ^ 31 + 2 ^ 29 * f + 2 ^ 8 * (detail % 2 ^ 16) + bit)) (causeCounted s cls inst bit)) :=
  if_neg (Bool.eq_false_iff.mp h)

theorem swf_causeCounted {s : State} (h : swf regReset s.regs = true) (cls inst bit : Nat) :
    swf regReset (causeCounted s cls inst bit).regs = true :=
  swf_rset (swf_rset (s := setFreshPage _ s) h)

theorem rget_causeCounted {s : State} (h : swf regReset s.regs = true) (cls inst bit k : Nat) :
    rget (causeCounted s cls inst bit) k =
      if k = regKey cls inst 0x1C 0 then
        (if reg s cls inst 0x1C = 0xFFFFFFFF then reg s cls inst 0x1C else reg s cls inst 0x1C + 1)
      else if k = regKey cls inst 0x10 0 then reg s cls inst 0x10 ||| BitVec.ofNat 32 (2 ^ bit)
      else rget s k := by
  have hf : ∀ x, swf regReset (setFreshPage x s).regs = true := fun _ => h
  simp only [causeCounted, setReg]
  rw [rget_rset_ite (swf_rset (hf _)), rget_rset_ite (hf _)]
  rfl

/-- A valid record keeps its place before a cause that is not of a lower bit index in its own cycle. -/
theorem leavesFirst_of_later {s : State} {cls inst bit : Nat} (hv : (firstFound s cls inst).getLsbD 31 = true)
    (hb : (freshPage s cls inst).latched = false ∨ field (firstFound s cls inst) 4 0 ≤ bit) :
    leavesFirst s cls inst bit = true := by
  unfold leavesFirst
  rw [hv]
  rcases hb with hb | hb <;> simp [hb]

theorem field_firstFound (s : State) (cls inst : Nat) :
    field (firstFound s cls inst) 4 0 = field (reg s cls inst 0x18) 4 0 := by
  unfold firstFound
  split <;> simp

theorem firstFound_of_valid {s : State} {cls inst : Nat} (h : (reg s cls inst 0x18).getLsbD 31 = true) :
    firstFound s cls inst = reg s cls inst 0x18 := by
  unfold firstFound
  split
  · exact setField_bit31_of_set h
  · rfl

theorem recordCause_keeps_first {s : State} (hs : swf regReset s.regs = true) {cls inst bit : Nat} (f detail : Nat)
    (h : leavesFirst s cls inst bit = true) :
    reg (recordCause cls inst bit f detail s) cls inst 0x18 = firstFound s cls inst ∧
      rget64 (recordCause cls inst bit f detail s) (regKey cls inst 0x20 0) = rget64 s (regKey cls inst 0x20 0) := by
  rw [recordCause_of_leaves h]
  have hc := swf_causeCounted hs cls inst bit
  simp [reg, setReg, rget64, rget_rset_ite hc, rget_causeCounted hs]

theorem recordCause_sets_first {s : State} (hs : swf regReset s.regs = true) {cls inst bit : Nat} (f detail : Nat)
    (h : leavesFirst s cls inst bit = false) :
    reg (recordCause cls inst bit f detail s) cls inst 0x18 =
        BitVec.ofNat 32 (2 ^ 31 + 2 ^ 29 * f + 2 ^ 8 * (detail % 2 ^ 16) + bit) ∧
      rget64 (recordCause cls inst bit f detail s) (regKey cls inst 0x20 0) = tickN s := by
  rw [recordCause_of_takes h]
  have hc := swf_causeCounted hs cls inst bit
  refine ⟨?_, rget64_rset64 (swf_rset hc) _ _⟩
  exact (rget_rset64_other (swf_rset hc) (by simp) (by simp) _).trans (rget_rset hc _ _)

/-- But for ERR_FIRST and ERR_TICK the state holds what counting the cause has left. -/
theorem rget_recordCause {s : State} (hs : swf regReset s.regs = true) (cls inst bit f detail : Nat) {k : Nat}
    (h18 : k ≠ regKey cls inst 0x18 0) (h20 : k ≠ regKey cls inst 0x20 0) (h24 : k ≠ regKey cls inst 0x24 0) :
    rget (recordCause cls inst bit f detail s) k = rget (causeCounted s cls inst bit) k := by
  have hc := swf_causeCounted hs cls inst bit
  cases h : leavesFirst s cls inst bit with
  | false =>
    rw [recordCause_of_takes h]
    exact (rget_rset64_other (swf_rset hc) h20 (by simpa using h24) _).trans (rget_rset_other hc h18 _)
  | true =>
    rw [recordCause_of_leaves h]
    exact rget_rset_other hc h18 _

theorem leavesFirst_of_takes {s : State} {cls inst bit : Nat}
    (h : (reg s cls inst 0x18).getLsbD 31 = false ∧ (freshPage s cls inst).wiped = false ∨
      (freshPage s cls inst).latched = true ∧ bit < field (reg s cls inst 0x18) 4 0) :
    leavesFirst s cls inst bit = false := by
  unfold leavesFirst
  rw [field_firstFound]
  rcases h with ⟨hv, hw⟩ | ⟨hl, hb⟩
  · rw [firstFound, if_neg (by simp [hw]), hv]
    rfl
  · simp [hl, hb]

/-- Settles O16: `recordCause` leaves ERR_FIRST or takes it, and in both cases counts the cause first. -/
theorem causesAreRecorded : Obligations.CausesAreRecorded := by
  intro cls inst bit f detail s t hs rfl
  have hregs := hs.regs
  refine ⟨?_, ?_, ?_, ?_, ?_, ?_⟩
  · simp [reg, rget_recordCause hregs, rget_causeCounted hregs]
  · rw [reg, rget_recordCause hregs _ _ _ _ _ (by simp) (by simp) (by simp), rget_causeCounted hregs, if_pos rfl]
    split
    · assumption
    · rfl
  · intro hv hb
    have hfound := firstFound_of_valid hv
    rw [← hfound] at hv hb ⊢
    exact recordCause_keeps_first hregs f detail (leavesFirst_of_later hv hb)
  · intro hw hb
    have hfound : firstFound s cls inst = setField (reg s cls inst 0x18) 31 31 1 := if_pos hw
    rw [← field_firstFound] at hb
    rw [← hfound]
    refine recordCause_keeps_first hregs f detail (leavesFirst_of_later ?_ hb)
    rw [hfound, getLsbD_setField_bit31]
    rfl
  · intro h
    exact recordCause_sets_first hregs f detail (leavesFirst_of_takes h)
  · intro k hk
    simp only [List.mem_cons, List.not_mem_nil, or_false, not_or] at hk
    obtain ⟨h10, h18, h1C, h20, h24⟩ := hk
    rw [rget_recordCause hregs _ _ _ _ _ h18 h20 h24, rget_causeCounted hregs, if_neg h1C, if_neg h10]

/-! ## Register accesses -/

section
variable {src : Src} {a v : Word} {s : State} {cls inst off : Nat}

/-- A command of a source is fit where another of it is, unless it alone needs the right key (R323). -/
theorem fit_of_registerWrite {i : Instr} (hunits : i.units = src.units) (hsender : i.sender = some src)
    (hkey : keyAddr a = false → i.needsKey = false) (h : fit (.registerWrite src a v) s = true) : fit i s = true := by
  unfold fit at h ⊢
  obtain ⟨hwf, hadm⟩ := Bool.and_eq_true_iff.mp h
  refine Bool.and_eq_true_iff.mpr ⟨by rw [Instr.wf, hunits]; exact hwf, ?_⟩
  unfold admitted at hadm ⊢
  rw [hsender]
  cases src with
  | frame n => rfl
  | sideband =>
    have ha : (!keyAddr a) = true := hadm
    simp [hkey (by simpa using ha)]
  | trotos => exact hadm

theorem keyAddr_of_page (ha : addrPage a = (cls, inst, off)) :
    keyAddr a = (cls == 0x10 || cls == 0x1C || (cls == 0x11 && !(decide (0x80 ≤ off) && decide (off < 0xC0)))) := by
  obtain ⟨rfl, -, rfl⟩ : field a 31 26 = cls ∧ field a 25 12 = inst ∧ field a 11 0 = off := by simpa [addrPage] using ha
  have hcls : field a 31 26 = a.toNat / 2 ^ 26 := Nat.mod_eq_of_lt (by have := a.isLt; omega)
  have hoff : field a 11 0 = a.toNat % 2 ^ 12 := by simp [field, bitsOf]
  rw [hcls, hoff]
  rfl

/-- Of the ATTEST page only the header holds pairs. -/
theorem header_of_attest_pair (h : pairHalf 0x11 inst off ≠ 0) : off < 0x40 := by
  have hsingle : ∀ r ∈ regsAttest, r.pair = 0 := by decide
  by_contra hoff
  apply h
  unfold pairHalf
  split
  · next r hr =>
    rw [regRow?, if_neg hoff] at hr
    exact hsingle r (List.mem_of_find?_eq_some hr)
  · rfl

/-- The halves of a pair need the right key alike. -/
theorem keyAddr_hi {b : Word} (ha : addrPage a = (cls, inst, off)) (hb : addrPage b = (cls, inst, off + 4))
    (hpair : pairHalf cls inst off ≠ 0) : keyAddr b = keyAddr a := by
  rw [keyAddr_of_page ha, keyAddr_of_page hb]
  by_cases hcls : cls = 0x11
  · subst hcls
    have := header_of_attest_pair hpair
    simp [show ¬ 0x80 ≤ off by omega, show ¬ 0x80 ≤ off + 4 by omega]
  · simp [beq_eq_false_iff_ne.mpr hcls]

theorem regWrite_of_page (ha : addrPage a = (cls, inst, off)) (halign : a.toNat % 4 = 0)
    (hpage : pageExists cls inst = true) : (regWrite src a v s).2 = writeReg src cls inst off v s := by
  simp [regWrite, ha, halign, hpage]

theorem regRead_of_page (ha : addrPage a = (cls, inst, off)) (halign : a.toNat % 4 = 0)
    (hpage : pageExists cls inst = true) : regRead src a s = (0, readReg src cls inst off s) := by
  simp [regRead, ha, halign, hpage]

theorem writeReg_of_ignored (h : writesIgnored s cls inst = true) : writeReg src cls inst off v s = s :=
  if_pos h

theorem pageWrite_of_page (hpage : pageExists cls inst = true) :
    pageWrite src ⟨cls, inst⟩ v s = writeReg src cls inst 8 v s :=
  if_pos hpage

theorem writeReg_single (h : writesIgnored s cls inst = false) (hpair : pairHalf cls inst off = 0) :
    writeReg src cls inst off v s = singleWrite src cls inst off v s := by
  simp [writeReg, h, hpair]

theorem writeReg_lo (h : writesIgnored s cls inst = false) (hpair : pairHalf cls inst off = 1) :
    writeReg src cls inst off v s = loWriteReg src cls inst off v s := by
  simp [writeReg, h, hpair]

theorem writeReg_hi (h : writesIgnored s cls inst = false) (hpair : pairHalf cls inst off = 2) :
    writeReg src cls inst off v s = hiWriteReg src cls inst off v s := by
  simp [writeReg, h, hpair]

/-- No register of FLT_LOG_DATA is a half of a pair. -/
theorem pairHalf_fltLogData (h : inWords off 0x80 8 = true) : pairHalf 0x13 inst off = 0 := by
  have hall : ∀ k < 32, pairHalf 0x13 0 (0x80 + k) = 0 := by decide
  simp only [inWords, Bool.and_eq_true, decide_eq_true_eq] at h
  obtain ⟨hlo, hhi⟩ := h
  have hword := hall (off - 0x80) (by omega)
  rwa [Nat.add_sub_cancel' hlo] at hword

/-- A read of a half of a pair has no other effect. -/
theorem readEffect_of_pair (h : pairHalf cls inst off ≠ 0) : readEffect cls inst off s = s := by
  unfold readEffect
  rw [if_neg, if_neg, if_neg]
  · rintro ⟨rfl, hoff⟩
    exact h (pairHalf_fltLogData hoff)
  · rintro ⟨rfl, rfl⟩
    exact h rfl
  · rintro rfl
    exact h rfl

/-- A read of a half of a pair is a latched read. -/
theorem readReg_of_pair (hfused : pageFused s cls inst = false) (hpair : pairHalf cls inst off ≠ 0) :
    readReg src cls inst off s = latchedRead src cls inst off s := by
  have hdata : ¬ (cls = 5 ∧ off = 0x84) := by
    rintro ⟨rfl, rfl⟩
    exact hpair rfl
  simp [readReg, hfused, hdata, readEffect_of_pair hpair]

theorem latchedRead_lo (h : pairHalf cls inst off = 1) :
    latchedRead src cls inst off s = (readValue s cls inst off, setLatch src { latchOf s src with
      rd := some (regAddr cls inst off, readValue s cls inst (off + 4)) } s) := by
  simp [latchedRead, h]

theorem latchedRead_hi {x : Word} (h : pairHalf cls inst (off + 4) = 2)
    (hlatch : (latchOf s src).rd = some (regAddr cls inst off, x)) :
    latchedRead src cls inst (off + 4) s = (x, s) := by
  simp [latchedRead, h, hlatch, regAddr, Nat.add_assoc]

theorem readReg_errCnt (hfused : pageFused s cls inst = false) :
    (readReg src cls inst 0x1C s).2 = setReg cls inst 0x1C (BitVec.ofNat 32 (freshPage s cls inst).count)
      (if (freshPage s cls inst).count = 0 then s else setFreshPage { freshPage s cls inst with before := 0 } s) := by
  have hpair : pairHalf cls inst 0x1C = 0 := rfl
  simp [readReg, hfused, latchedRead, hpair, readEffect]

theorem loWriteReg_of_writable (h : writable cls inst off = true) :
    loWriteReg src cls inst off v s =
      setLatch src { latchOf s src with wr := some (regAddr cls inst off, v) } s := by
  simp [loWriteReg, h]

@[simp] theorem halfOf_append (hi : Bool) (v w : Word) :
    halfOf hi (v ++ w : BitVec 64) = if hi then v else w := by
  have := v.isLt
  have := w.isLt
  apply BitVec.eq_of_toNat_eq
  rw [halfOf, BitVec.toNat_ofNat, toNat_append_word]
  cases hi <;> simp only [if_true, Bool.false_eq_true, if_false] <;> omega

theorem hiWriteReg_of_held {w : Word} (h : writable cls inst (off + 4) = true)
    (hlatch : (latchOf s src).wr = some (regAddr cls inst off, w)) :
    hiWriteReg src cls inst (off + 4) v s =
      pairWrite cls inst off (v ++ w : BitVec 64) (setLatch src { latchOf s src with wr := none } s) := by
  simp [hiWriteReg, h, hlatch]

theorem pairWrite_plain (hcls : cls ∉ [0xE, 0x17, 0x18]) (v w : Word) :
    pairWrite cls inst off (v ++ w : BitVec 64) s =
      plainWrite cls inst (off + 4) v (plainWrite cls inst off w s) := by
  simp only [List.mem_cons, List.not_mem_nil, or_false, not_or] at hcls
  obtain ⟨hserve, hcairn, hpair⟩ := hcls
  simp [pairWrite, hserve, hcairn, hpair]

theorem singleWrite_errSum : singleWrite src cls inst 0x10 v s = errSumWrite cls inst v s := rfl

/-- What a write of ERR_SUM leaves in it. -/
def errSumLeft (s : State) (cls inst : Nat) (v : Word) : Word :=
  reg s cls inst 0x10 &&& ~~~(v &&& ~~~(freshPage s cls inst).bits)

theorem errSumWrite_of_left (h : errSumLeft s cls inst v ≠ 0) :
    errSumWrite cls inst v s = setReg cls inst 0x10 (errSumLeft s cls inst v) s :=
  if_neg fun hzero => h hzero.1

theorem errSumWrite_of_none_left (hs : swf regReset s.regs = true) (h : errSumLeft s cls inst v = 0) :
    reg (errSumWrite cls inst v s) cls inst 0x10 = 0 ∧
      (reg (errSumWrite cls inst v s) cls inst 0x18).getLsbD 31 = false := by
  have hsum : reg (setReg cls inst 0x10 (errSumLeft s cls inst v) s) cls inst 0x10 = 0 :=
    (rget_rset hs _ _).trans h
  unfold errSumWrite
  extract_lets x t
  have ht : swf regReset t.regs = true := swf_rset hs
  split
  · constructor
    · exact (rget_rset_other (s := setFreshPage _ t) ht (by simp) _).trans hsum
    · rw [reg, setReg, rget_rset (s := setFreshPage _ t) ht, getLsbD_setField_bit31]
      rfl
  · next hvalid =>
    refine ⟨hsum, ?_⟩
    simpa using fun hv => hvalid ⟨h, hv⟩

end

/-- A write of Trotos is what CREST_HEART shows from then on, though no field of the register is writable (Table 13.14). -/
theorem writeReg_crestHeart (v : Word) (s : State) : writeReg .trotos 1 0 0x48 v s = heartWrite v s := rfl

/-- Refutes O22: CREST_HEART has no writable field, is no half of a pair and no record, and lies in one of the pages named,
and yet a write of Trotos has an effect of its own there (log entry 79): from reset, a write of 1 changes the value kept
beside the registers, where the statement has it change stored registers only. -/
theorem not_registersAreAccessed : ¬ Obligations.RegistersAreAccessed := by
  intro h
  have hfit : fit (.registerWrite .trotos 0x4000048 1) State.reset = true := by decide
  have hpage : addrPage 0x4000048 = (1, 0, 0x48) := by decide
  have hrow : regRow? 1 0 0x48 = some ⟨0x48, 4, 1, 0, 0, 0, 0, 5, 0⟩ := by decide
  obtain ⟨-, hstore⟩ := h.1 .trotos 0x4000048 1 State.reset 1 0 0x48 hfit hpage (by decide) (by decide)
  have hplain := hstore _ (by decide) hrow rfl (by decide) (by decide) (by decide) (.inr (by decide))
  rw [exec_registerWrite _ _ _ _ hfit, regWrite_of_page hpage (by decide) (by decide), writeReg_crestHeart] at hplain
  have hheart : (heartWrite 1 State.reset).dev.heart = State.reset.dev.heart :=
    congrArg (fun t : State => t.dev.heart) (Host.Outcome.next.inj hplain)
  exact absurd hheart (by decide)

/-- Settles O23, access by access: each command is the access of its page, of which the laws above say what it leaves. -/
theorem errorAndPairRegistersAct : Obligations.ErrorAndPairRegistersAct := by
  constructor
  · intro src a v x s cls inst off fr hfit ha halign hpage hfr hx
    subst hfr
    replace hx : x = errSumLeft s cls inst v := hx
    subst hx
    have hclear : off = 0x10 → writesIgnored s cls inst = false →
        exec (.w1cClear src a v) s = .next (errSumWrite cls inst v s) := by
      rintro rfl hw
      rw [exec_w1cClear src a v s hfit, regWrite_of_page ha halign hpage, writeReg_single hw rfl, singleWrite_errSum]
    refine ⟨fun hoff hw hx => ?_, fun hoff hw hx hs => ?_, ?_⟩
    · rw [hclear hoff hw, errSumWrite_of_left hx]
    · exact ⟨_, hclear hoff hw, errSumWrite_of_none_left hs.regs hx⟩
    · rintro rfl hfused
      have hread := exec_readClear src a s (fit_of_registerWrite rfl rfl (fun _ => rfl) hfit)
      rw [regRead_of_page ha halign hpage, readReg_errCnt hfused] at hread
      constructor <;> intro hcount <;> simpa [hcount] using hread
  · intro src a b v w s cls inst off hfit ha halign hbalign hb hpage hlo hhi
    refine ⟨fun hfused => ?_, fun h hfused hrd => ?_, fun hw hwr => ?_, fun hw hwr hheld hcls => ?_⟩
    · rw [exec_loRead src a s (fit_of_registerWrite rfl rfl (fun _ => rfl) hfit), regRead_of_page ha halign hpage,
        readReg_of_pair hfused (by simp [hlo]), latchedRead_lo hlo]
    · rw [regRead_of_page hb hbalign hpage, readReg_of_pair hfused (by simp [hhi]), latchedRead_hi hhi hrd]
    · rw [exec_loWrite src a v s hfit, regWrite_of_page ha halign hpage, writeReg_lo hw hlo,
        loWriteReg_of_writable hwr]
    · have hfitb : fit (.hiWrite src b v) s = true :=
        fit_of_registerWrite rfl rfl (keyAddr_hi ha hb (by simp [hlo])).trans hfit
      rw [exec_hiWrite src b v s hfitb, regWrite_of_page hb hbalign hpage, writeReg_hi hw hhi,
        hiWriteReg_of_held hwr hheld, pairWrite_plain hcls]

/-! ## PAGE_CTL -/

section
variable {v : Word} {s : State} {cls inst : Nat}

/-- A write of PAGE_CTL, once its freeze and its enable have given `u`. -/
theorem pageCtlWrite_eq {f u : State} (hf : (if v.getLsbD 1 then freezeMaster cls inst s else s) = f)
    (hu : (if pageFrozen f cls inst then f else enableWrite cls inst (v.getLsbD 0) f) = u) :
    pageCtlWrite cls inst v s = if v.getLsbD 2 then resetWrite cls inst (v.getLsbD 1) u else u := by
  subst hf hu
  rfl

/-- A frozen master, or a page that ignores the enable, keeps its enable. -/
theorem enable_kept (h : pageFrozen s cls inst = true ∨ enableIgnored s cls inst (v.getLsbD 0) = true) :
    (if pageFrozen s cls inst then s else enableWrite cls inst (v.getLsbD 0) s) = s := by
  split
  · rfl
  · next hf => exact if_pos (h.resolve_left hf)

/-- A freeze that leaves the master frozen, or comes to a page that takes no enable, is all that a write does before its
reset. -/
theorem pageCtlWrite_of_freeze {u : State} (hv : v.getLsbD 1 = true) (hf : freezeMaster cls inst s = u)
    (hkept : pageFrozen u cls inst = true ∨ enableIgnored u cls inst (v.getLsbD 0) = true) :
    pageCtlWrite cls inst v s = if v.getLsbD 2 then resetWrite cls inst (v.getLsbD 1) u else u :=
  pageCtlWrite_eq ((if_pos hv).trans hf) (enable_kept hkept)

/-- The freeze does nothing to a unit in reset, and on a page without a master. -/
theorem freezeMaster_none
    (h : pageResetting s cls inst = true ∨ cls ∉ [5, 6, 9, 0xF, 0x15] ∨ (cls = 0xF ∧ inst = 0)) :
    freezeMaster cls inst s = s := by
  unfold freezeMaster
  split
  · rfl
  · next hr =>
    rcases h with h | h | ⟨rfl, rfl⟩
    · exact absurd h hr
    · split <;> simp_all
    · rfl

theorem pageCtlWrite_without_freeze {u : State} (h : v.getLsbD 1 = false ∨ pageResetting s cls inst = true ∨
      cls ∉ [5, 6, 9, 0xF, 0x15] ∨ (cls = 0xF ∧ inst = 0))
    (hu : (if pageFrozen s cls inst then s else enableWrite cls inst (v.getLsbD 0) s) = u) :
    pageCtlWrite cls inst v s = if v.getLsbD 2 then resetWrite cls inst (v.getLsbD 1) u else u := by
  refine pageCtlWrite_eq (f := s) ?_ hu
  split
  · next hv => exact freezeMaster_none (h.resolve_left (by simp [hv]))
  · rfl

/-- An enable that the page takes is stored. -/
theorem enable_stored (hcls : cls ≠ 9) {on : Bool} (hf : pageFrozen s cls inst = false)
    (he : enableIgnored s cls inst on = false) :
    (if pageFrozen s cls inst then s else enableWrite cls inst on s) =
      setReg cls inst 8 (setField (reg s cls inst 8) 0 0 (bit01 on)) s := by
  simp [hf, enableWrite, he, hcls]

/-- A link trains or goes OFF with the enable that it takes (R271). -/
theorem enable_link {on : Bool} (hf : pageFrozen s 9 inst = false) (he : enableIgnored s 9 inst on = false) :
    (if pageFrozen s 9 inst then s else enableWrite 9 inst on s) =
      linkEnable inst on (setReg 9 inst 8 (setField (reg s 9 inst 8) 0 0 (bit01 on)) s) := by
  simp [hf, enableWrite, he]

theorem freezeMaster_core (hr : pageResetting s 5 inst = false) :
    freezeMaster 5 inst s = setCore inst (freezeCore s.now (core s inst)) s :=
  if_neg (Bool.eq_false_iff.mp hr)

theorem freezeMaster_engine (hr : pageResetting s 6 inst = false) :
    freezeMaster 6 inst s =
      { s with mem := { s.mem with engFrozen := sset (fun _ => false) s.mem.engFrozen inst true } } :=
  if_neg (Bool.eq_false_iff.mp hr)

theorem freezeMaster_link (hr : pageResetting s 9 inst = false) :
    freezeMaster 9 inst s = setLink inst { link s inst with frozen := true } s :=
  if_neg (Bool.eq_false_iff.mp hr)

theorem freezeMaster_part (hr : pageResetting s 0x15 inst = false) :
    freezeMaster 0x15 inst s = freezeParts [inst] s :=
  if_neg (Bool.eq_false_iff.mp hr)

theorem freezeMaster_qp (hr : pageResetting s 0xF inst = false) (hinst : inst ≠ 0) :
    freezeMaster 0xF inst s = setReg 0xF inst 8 (setField (reg s 0xF inst 8) 1 1 1) s := by
  have hqp : 1 + (inst - 1) = inst := by omega
  simp [freezeMaster, hr, hinst, respond, hqp]

theorem coreFrozen_freezeCore (hs : swf (fun _ => Core.reset) s.cores = true) (t : Nat) :
    coreFrozen (setCore inst (freezeCore t (core s inst)) s) inst = true := by
  simp [coreFrozen, core_setCore hs, freezeCore]

theorem engineFrozen_set :
    engineFrozen { s with mem := { s.mem with engFrozen := sset (fun _ => false) s.mem.engFrozen inst true } } inst =
      true :=
  sget_sset_nondefault (by decide)

theorem linkFrozen_set (hs : swf (fun _ => Link.reset) s.links = true) :
    (link (setLink inst { link s inst with frozen := true } s) inst).frozen = true := by
  rw [link_setLink hs]

theorem qpFrozen_set (hs : swf regReset s.regs = true) (hinst : inst ≠ 0) :
    pageFrozen (setReg 0xF inst 8 (setField (reg s 0xF inst 8) 1 1 1) s) 0xF inst = true := by
  have hreg : reg (setReg 0xF inst 8 (setField (reg s 0xF inst 8) 1 1 1) s) 0xF inst 8 = _ := rget_rset hs _ _
  rw [pageFrozen, hreg, getLsbD_setField_bit1]
  simp [hinst]

/-- PAGE_FREEZE and PAGE_ENABLE are both the write of PAGE_CTL of a page. -/
theorem exec_pageCtl {src : Src} {i : Instr}
    (hi : i ∈ [Instr.pageFreeze src ⟨cls, inst⟩ v, .pageEnable src ⟨cls, inst⟩ v]) (hfit : fit i s = true)
    (hpage : pageExists cls inst = true) : exec i s = .next (writeReg src cls inst 8 v s) := by
  rw [← pageWrite_of_page hpage]
  simp only [List.mem_cons, List.not_mem_nil, or_false] at hi
  rcases hi with rfl | rfl
  · exact exec_pageFreeze src ⟨cls, inst⟩ v s hfit
  · exact exec_pageEnable src ⟨cls, inst⟩ v s hfit

end

/-- Settles O24: both commands are the write of PAGE_CTL, whose freeze, enable and reset follow each other. -/
theorem pagesFreezeAndEnable : Obligations.PagesFreezeAndEnable := by
  intro src v cls inst i s hi hfit hpage
  have hexec := exec_pageCtl hi hfit hpage
  refine ⟨fun hw => by rw [hexec, writeReg_of_ignored hw], fun u t hw hs ht => ?_⟩
  have hctl : exec i s = .next (pageCtlWrite cls inst v s) := by
    rw [hexec, writeReg_single hw rfl]
    rfl
  rw [hctl, ht]
  refine ⟨fun hv hr => ?_, fun hnone => ?_⟩
  · refine ⟨?_, ?_, ?_, ?_, ?_⟩
    · rintro rfl rfl
      rw [pageCtlWrite_of_freeze hv (freezeMaster_core hr) (.inl (coreFrozen_freezeCore hs.cores _))]
    · rintro rfl rfl
      rw [pageCtlWrite_of_freeze hv (freezeMaster_engine hr) (.inl engineFrozen_set)]
    · rintro rfl rfl
      rw [pageCtlWrite_of_freeze hv (freezeMaster_link hr) (.inl (linkFrozen_set hs.links))]
    · rintro rfl rfl
      rw [pageCtlWrite_of_freeze hv (freezeMaster_part hr) (.inr rfl)]
    · rintro rfl hinst rfl
      rw [pageCtlWrite_of_freeze hv (freezeMaster_qp hr hinst) (.inl (qpFrozen_set hs.regs hinst))]
  · refine ⟨?_, fun hf he => ⟨?_, ?_⟩⟩
    · rintro hkept rfl
      rw [pageCtlWrite_without_freeze hnone (enable_kept hkept)]
    · rintro hcls rfl
      rw [pageCtlWrite_without_freeze hnone (enable_stored hcls hf he)]
    · rintro rfl rfl
      rw [pageCtlWrite_without_freeze hnone (enable_link hf he)]

end Sys2Proof.Machine

/-! # What the Crest watches: reports of rails, sensors, stacks, management cores and failed cores -/

namespace Sys2Proof.Machine

open Sys2Proof

/-! ## Reports of one cause -/

section
variable {s : State}

theorem railFault_of_up (hup : s.dev.up = true) (rail : Nat) :
    railFault rail s = raise 0 0 7 2 rail (.fatal true) s := if_pos hup

theorem trainingLoss_of_trained {k : Nat} (h : (stackOf s k).trained = true) (pseudo : Nat) :
    trainingLoss k pseudo s =
      raise 7 k 3 2 pseudo (.fatal false) (setStack k { stackOf s k with trained := false } s) := if_pos h

theorem heartLost_iff : heartLost s = true ↔ (reg s 1 0 0x4C).getLsbD 16 = true ∧
    s.dev.heartAt + 940000 * max 1 (field (reg s 1 0 0x4C) 15 0) ≤ s.now := by
  simp [heartLost]

theorem watchdogExpiry_of_lost (hup : s.dev.up = true) (hlost : heartLost s = true) :
    watchdogExpiry s =
      modDev (fun d => { d with warm := some .watchdog }) (raise 1 0 2 2 0 (.fatal false) s) := by
  simp [watchdogExpiry, hup, hlost]

theorem boundPassed_of_waiting (hup : s.dev.up = true) (hwait : devReady s = false) :
    boundPassed s.dev.step s = raiseCe 0 0 9 s.dev.step s := by
  simp [boundPassed, hup, hwait]

end

/-! ## What a sample reads of a die (R41, R44) -/

@[simp] theorem raise_dev {cls inst bit f detail : Nat} {r : Resp} {s : State} :
    (raise cls inst bit f detail r s).dev = s.dev :=
  keep_raise (closed_same .dev s) (by constructor <;> decide) rfl

@[simp] theorem raiseCe_dev {cls inst bit detail : Nat} {s : State} : (raiseCe cls inst bit detail s).dev = s.dev := raise_dev

section
variable {s t : State}

/-- The hottest sensor depends on the readings and on which sensors are excluded, and on nothing else. -/
theorem hottest_congr (hread : t.dev.sensors = s.dev.sensors) (hbad : t.dev.sensorBad = s.dev.sensorBad) (die : Nat) :
    hottest t die = hottest s die := by
  simp only [hottest, goodSensors, sensorAt, hread, hbad]
  rfl

@[simp] theorem hottest_raiseCe {cls inst bit detail die : Nat} : hottest (raiseCe cls inst bit detail s) die = hottest s die :=
  hottest_congr (by rw [raiseCe_dev]) (by rw [raiseCe_dev]) die

@[simp] theorem hottest_tempCrit {cls inst bit detail die : Nat} : hottest (tempCrit cls inst bit detail s) die = hottest s die :=
  hottest_congr (by rw [tempCrit, raise_dev]; rfl) (by rw [tempCrit, raise_dev]; rfl) die

/-! ## Thresholds -/

theorem risesTo_of_below {a old new : Int} (h : new < a) : risesTo a old new = false := by
  simp [risesTo, h]

theorem risesTo_of_reached {a old new : Int} (hold : old < a) (hnew : a ≤ new) : risesTo a old new = true := by
  simp [risesTo, hold, hnew]

@[simp] theorem hottest_dieThreshold {die e : Nat} {old : Int} : hottest (dieThreshold die old s) e = hottest s e := by
  unfold dieThreshold
  dsimp only
  split <;> split <;> simp

theorem dieThreshold_of_below {die : Nat} (h : (hottest s die).2 < 105 * 16) (old : Int) : dieThreshold die old s = s := by
  have hcrit : (hottest s die).2 < 115 * 16 := h.trans (by decide)
  simp only [dieThreshold, risesTo_of_below h, risesTo_of_below hcrit, Bool.false_eq_true, if_false]

/-- A die that was cooler rises to 105 °C, or on to 115 °C. -/
theorem dieThreshold_of_rise {die : Nat} {old : Int} (hold : old < 105 * 16) (h : 105 * 16 ≤ (hottest s die).2) :
    dieThreshold die old s =
      if (hottest s die).2 < 115 * 16 then
        raiseCe (dieCauses die).cls (dieCauses die).inst (dieCauses die).warn (hottest s die).1 s
      else
        tempCrit (dieCauses die).cls (dieCauses die).inst (dieCauses die).crit (hottest s die).1
          (raiseCe (dieCauses die).cls (dieCauses die).inst (dieCauses die).warn (hottest s die).1 s) := by
  simp only [dieThreshold, risesTo_of_reached hold h, if_true]
  by_cases hcool : (hottest s die).2 < 115 * 16
  · rw [if_pos hcool, risesTo_of_below hcool]
    rfl
  · have holdCrit : old < 115 * 16 := hold.trans (by decide)
    rw [if_neg hcool, risesTo_of_reached holdCrit (not_lt.mp hcool), if_pos rfl]

theorem dieThresholds_of_below {l : List (Nat × Int)} (h : ∀ e ∈ l, (hottest s e.1).2 < 105 * 16) : dieThresholds l s = s := by
  induction l with
  | nil => rfl
  | cons e l ih =>
    obtain ⟨he, hl⟩ := List.forall_mem_cons.mp h
    rw [dieThresholds, dieThreshold_of_below he, ih hl]

theorem nodup_dieCodes : dieCodes.Nodup := List.nodup_range

/-- Where every other die stays below 105 °C, the thresholds of all dies are those of one. -/
theorem dieThresholds_of_others_below {dies : List Nat} {d : Nat} (hnodup : dies.Nodup) (hd : d ∈ dies) (old : Nat → Int)
    (h : ∀ e ∈ dies, e ≠ d → (hottest s e).2 < 105 * 16) :
    dieThresholds (dies.map fun e => (e, old e)) s = dieThreshold d (old d) s := by
  induction dies with
  | nil => cases hd
  | cons e dies ih =>
    obtain ⟨hnot, hnodup⟩ := List.nodup_cons.mp hnodup
    obtain ⟨he, hrest⟩ := List.forall_mem_cons.mp h
    rw [List.map_cons, dieThresholds]
    by_cases hed : e = d
    · subst hed
      refine dieThresholds_of_below fun x hx => ?_
      obtain ⟨a, ha, rfl⟩ := List.mem_map.mp hx
      rw [hottest_dieThreshold]
      exact hrest a ha (ne_of_mem_of_not_mem ha hnot)
    · rw [dieThreshold_of_below (he hed)]
      exact ih hnodup ((List.mem_cons.mp hd).resolve_left (Ne.symm hed)) hrest

/-! ## Sensors out of range -/

@[simp] theorem excludeSensors_nil : excludeSensors [] s = s := rfl

/-- The state without a sensor's readings. -/
def withoutSensor (die i : Nat) (s : State) : State :=
  modDev (fun x => { x with sensorBad := x.sensorBad ++ [16 * die + i] }) s

theorem excludeSensors_of_fault {die i b : Nat} (hnew : s.dev.sensorBad.contains (16 * die + i) = false)
    (hb : (dieCauses die).fault = some b) :
    excludeSensors [(die, i)] s = raiseCe (dieCauses die).cls (dieCauses die).inst b i (withoutSensor die i s) := by
  simp only [excludeSensors, hnew, hb]
  rfl

theorem excludeSensors_of_no_fault {die i : Nat} (hnew : s.dev.sensorBad.contains (16 * die + i) = false)
    (hb : (dieCauses die).fault = none) : excludeSensors [(die, i)] s = withoutSensor die i s := by
  simp only [excludeSensors, hnew, hb]
  rfl

/-! ## Stacks -/

section
variable {k temp : Nat}

@[simp] theorem stackEnabled_storeReadings (m : Thermal) : stackEnabled (modDev (storeReadings m) s) k = stackEnabled s k := rfl

@[simp] theorem stackOf_modDev (f : DevSt → DevSt) : stackOf (modDev f s) k = stackOf s k := rfl

@[simp] theorem stackTemps_nil : stackTemps [] s = s := rfl

/-- The state with a stack's temperature, at 85 °C or above with the double refresh rate. -/
def withTemp (k temp : Nat) (s : State) : State :=
  setStack k { stackOf s k with temp := temp, doubleRefresh := decide (85 ≤ temp) } s

theorem stackTemps_single (h : stackEnabled s k = true) : stackTemps [(k, temp)] s = stackTemp k temp s := by
  simp [stackTemps, h]

theorem stackTemp_of_cool (h : temp < 95) : stackTemp k temp s = withTemp k temp s := by
  have hwarn : (temp : Int) < 95 := by omega
  have hcrit : (temp : Int) < 105 := by omega
  simp [stackTemp, withTemp, risesTo_of_below hwarn, risesTo_of_below hcrit]

theorem stackTemp_of_warn (hold : (stackOf s k).temp < 95) (h : 95 ≤ temp) (hcool : temp < 105) :
    stackTemp k temp s = raiseCe 7 k 4 temp (withTemp k temp s) := by
  have hwarn : risesTo 95 (stackOf s k).temp temp = true := risesTo_of_reached (by omega) (by omega)
  have hcrit : (temp : Int) < 105 := by omega
  simp [stackTemp, withTemp, hwarn, risesTo_of_below hcrit]

theorem stackTemp_of_crit (hold : (stackOf s k).temp < 95) (h : 105 ≤ temp) :
    stackTemp k temp s = tempCrit 7 k 5 temp (raiseCe 7 k 4 temp (withTemp k temp s)) := by
  have hwarn : risesTo 95 (stackOf s k).temp temp = true := risesTo_of_reached (by omega) (by omega)
  have hcrit : risesTo 105 (stackOf s k).temp temp = true := risesTo_of_reached (by omega) (by omega)
  simp [stackTemp, withTemp, hwarn, hcrit]

end

/-! ## A sample -/

section
variable {m : Thermal} {u : State}

/-- A sample with no current sensor out of range: with `u` the state that has its readings and `t` that without the sensors out of
range, the thresholds of the dies against the readings of before, the stacks and the vote. -/
theorem exec_thermalSample_of_up (hup : s.dev.up = true) (hu : u = modDev (storeReadings m) s) (hcur : m.badCurrents = [])
    (ht : excludeSensors m.bad u = t) :
    exec (.thermalSample m) s = .next (thermalVote (stackTemps m.hbmTemps
      (dieThresholds (dieCodes.map fun d => (d, (hottest s d).2)) t))) := by
  subst hu ht
  rw [exec_thermalSample m s rfl, thermalSample, hcur, hup]
  rfl

/-- Where every die stays below 105 °C, only the stacks and the vote are left. -/
theorem exec_thermalSample_of_below (hup : s.dev.up = true) (hu : u = modDev (storeReadings m) s) (hcur : m.badCurrents = [])
    (ht : excludeSensors m.bad u = t) (hbelow : ∀ d ∈ dieCodes, (hottest t d).2 < 105 * 16) :
    exec (.thermalSample m) s = .next (thermalVote (stackTemps m.hbmTemps t)) := by
  rw [exec_thermalSample_of_up hup hu hcur ht, dieThresholds_of_below]
  intro e he
  obtain ⟨d, hd, rfl⟩ := List.mem_map.mp he
  exact hbelow d hd

end

/-! ## The field defect log (R373) -/

theorem defectLogWrite_of_failed {p : PhysCore} {tick : Word} (htrotos : s.dev.trotos = true)
    (hfailed : s.dev.toLog.find? (·.1 == p) = some (p, tick)) (hnew : logNames (defectLog s) p = false)
    (hroom : (defectLog s).entries.length < 1024) (flashOk : Bool) :
    defectLogWrite p flashOk s =
      writeLog { defectLog s with entries := (defectLog s).entries ++ [⟨p, 2, (defectLog s).boot, tick⟩] } flashOk
        (modDev (fun d => { d with toLog := d.toLog.filter (·.1 != p) }) s) := by
  simp [defectLogWrite, htrotos, hfailed, hnew, Nat.not_le.mpr hroom]

end

theorem railFault_wf {rail : Nat} (h : rail < 9) : (Instr.railFault rail).wf = true :=
  (Laws.Wf.railFault rail).mpr (by simpa [Instr.units] using h)

theorem lossOfHbmTraining_wf {dt k pseudo : Nat} (h : k < 24) : (Instr.lossOfHbmTraining dt k pseudo).wf = true :=
  (Laws.Wf.lossOfHbmTraining dt k pseudo).mpr (by simpa [Instr.units] using h)

theorem managementMemoryError_wf {core : Nat} (h : core < 4) (corrected : Bool) :
    (Instr.managementMemoryError core corrected).wf = true :=
  (Laws.Wf.managementMemoryError core corrected).mpr (by simpa [Instr.units] using h)

/-- Settles O9: each report by the law of its function, and a sample by the law of the die, sensor or stack that it changes. -/
theorem deviceReportsAreTaken : Obligations.DeviceReportsAreTaken := by
  refine ⟨⟨?rail, ?training, ?memory, ?watchdog, ?bound⟩, ?sample, ?defect⟩
  case rail =>
    intro rail s hrail hup
    rw [exec_railFault rail s (railFault_wf hrail), railFault_of_up hup]
  case training =>
    intro dt k pseudo s hk htrained
    rw [exec_lossOfHbmTraining dt k pseudo s (lossOfHbmTraining_wf hk),
      trainingLoss_of_trained (s := elapse dt s) htrained pseudo]
    rfl
  case memory =>
    intro m s hm
    rw [exec_managementMemoryError m true s (managementMemoryError_wf hm true),
      exec_managementMemoryError m false s (managementMemoryError_wf hm false)]
    exact ⟨rfl, rfl⟩
  case watchdog =>
    intro s hup hon hkept
    rw [exec_watchdogExpiry s rfl, watchdogExpiry_of_lost hup (heartLost_iff.mpr ⟨hon, hkept⟩)]
  case bound =>
    intro s hup hwait
    rw [exec_bringupBound s.dev.step s rfl, boundPassed_of_waiting hup hwait]
  case defect =>
    intro p s tick hwf htrotos hfailed hnew hroom
    rw [exec_defectLogWrite p true s hwf, defectLogWrite_of_failed htrotos hfailed hnew hroom]
  case sample =>
    intro m s u hup hu hcur
    refine ⟨?cool, ?die, ?sensor, ?stack⟩
    case cool =>
      intro hbad htemps hbelow
      rw [exec_thermalSample_of_below hup hu hcur (by rw [hbad, excludeSensors_nil]) hbelow, htemps, stackTemps_nil]
    case die =>
      rintro d c hd rfl hbad htemps hothers hold hrise
      rw [exec_thermalSample_of_up hup hu hcur (by rw [hbad, excludeSensors_nil]), htemps, stackTemps_nil,
        dieThresholds_of_others_below nodup_dieCodes hd (fun e => (hottest s e).2) hothers, dieThreshold_of_rise hold hrise]
      rfl
    case sensor =>
      intro d i v hv hbad htemps hnew hbelow
      replace hv : v = withoutSensor d i u := hv
      replace hnew : u.dev.sensorBad.contains (16 * d + i) = false := by rw [hu]; exact hnew
      subst hv
      cases hfault : (dieCauses d).fault with
      | none =>
        have ht := excludeSensors_of_no_fault hnew hfault
        rw [← hbad] at ht
        rw [exec_thermalSample_of_below hup hu hcur ht hbelow, htemps, stackTemps_nil]
      | some b =>
        have ht := excludeSensors_of_fault hnew hfault
        rw [← hbad] at ht
        rw [exec_thermalSample_of_below hup hu hcur ht (by simpa using hbelow), htemps, stackTemps_nil]
    case stack =>
      rintro k temp v hbad htemps hon hbelow rfl
      have hof : stackOf s k = stackOf u k := by rw [hu, stackOf_modDev]
      replace hon : stackEnabled u k = true := by rw [hu, stackEnabled_storeReadings, hon]
      rw [exec_thermalSample_of_below hup hu hcur (by rw [hbad, excludeSensors_nil]) hbelow, htemps, stackTemps_single hon, hof]
      refine ⟨fun hcool => ?_, fun hold hwarm hcool => ?_, fun hold hhot => ?_⟩
      · rw [stackTemp_of_cool hcool]
        rfl
      · rw [stackTemp_of_warn hold hwarm hcool]
        rfl
      · rw [stackTemp_of_crit hold hhot]
        rfl

end Sys2Proof.Machine

/-! # Ticks and frames: boundaries, start, markers and lock (R46 to R52, R75, R277, R278, R436) -/

namespace Sys2Proof.Machine

open Sys2Proof

/-! ## The clock through a held core reset

A reset writes the lines that an HWR has sent in the cycles in which they were sent, and so goes back in time to them; it
leaves the clock as it found it. -/

section
variable {s : State}

theorem hwrPutLine_now (q h w : Nat) (x : Line) : (hwrPutLine q h w x s).now = s.now := by
  unfold hwrPutLine
  split <;> rfl

theorem hwrPutLines_now (q h : Nat) (l : List (Nat × Line)) : (hwrPutLines q h l s).now = s.now := by
  induction l generalizing h s with
  | nil => rfl
  | cons p t ih => rw [hwrPutLines, ih, hwrPutLine_now]

theorem hwrWrite_now (c : Nat) (r : MovRun) (k : Nat) : (hwrWrite c r k s).now = s.now :=
  keep_chargePort (closed_same .now s) (by decide)
    (keep_bump48 (closed_same .now s) (raiseSet_ne (by decide)) (hwrPutLines_now _ _ _))

theorem hwrFlush_now (c : Nat) (l : List MovRun) : (hwrFlush c l s).now = s.now := by
  induction l generalizing s with
  | nil => rfl
  | cons r t ih =>
    rw [hwrFlush, ih]
    split
    · exact hwrWrite_now ..
    · rfl

theorem drainCore_now (r : Region) (c : Nat) : (drainCore r c s).now = s.now := by
  have C := closed_same .now s
  have hflush : Fld.now.same s (hwrFlush c (core s c).movs (dropCoreWires c s)) := hwrFlush_now ..
  have hinner := keep_discardInner C (by decide) (by decide) (x1 := c) (x2 := allInputs)
    (keep_modCore C (by decide) (x1 := c) (x2 := stopWork) hflush)
  unfold drainCore
  extract_lets n drained
  split
  · exact hinner
  · exact keep_countAbsorb C (raiseSet_ne (by decide)) hinner

theorem drainCores_now (r : Region) (l : List Nat) : (drainCores r l s).now = s.now := by
  induction l generalizing s with
  | nil => rfl
  | cons c t ih => rw [drainCores, ih, drainCore_now]

theorem startReset_now (r : Region) (keepP : Bool) : (startReset r keepP s).now = s.now :=
  keep_discardWires (closed_same .now s) (by decide) (drainCores_now r _)

theorem coreResetReq_now (c : Nat) : (coreResetReq c s).now = s.now := by
  unfold coreResetReq
  split
  · rfl
  · split
    · exact startReset_now ..
    · exact keep_raiseCe (closed_same .now s) (raiseSet_ne (by decide)) rfl

theorem heldResets_now (l : List Nat) : (heldResets l s).now = s.now := by
  induction l generalizing s with
  | nil => rfl
  | cons c t ih =>
    rw [heldResets, ih, heldReset]
    split
    · exact coreResetReq_now c
    · rfl

end

/-! ## The tick boundary -/

/-- What a tick boundary does once N has advanced. -/
def afterAdvance (m : Measured) (s : State) : State :=
  let s := commitTemplates s.serve.tplPend (modServe (fun v => { v with tplPend := [] }) s)
  let s := takeover (todLoad s)
  let s := heldResets (s.cores.map (·.1)) (freezeParts (freezeReached s) s)
  let s := resendFault (accountTick m s)
  if s.tick.running then mapCores (releaseTick s) s else s

/-- The end of the tick before: fills due in it, and moves that frozen engines did not issue. -/
def endTick (s : State) : State := noteUnissued (settleFills (s.tick.boundAt + ticT s - 1) s)

section
variable {s : State}

theorem tickBoundary_of_due {u : State} (hup : s.dev.up = true)
    (hdone : s.tick.running = true → s.tick.frameDone = true)
    (hu : u = passTo (s.tick.boundAt + ticT s) (holdDigest (endTick s))) (m : Measured) :
    tickBoundary m s = afterAdvance m (modTick (advanceTick (s.tick.boundAt + ticT s)
      (rget64 u (regKey 2 0 0x58 0)).toNat (ticF u) (ticT u) (upstreamReg u)) u) := by
  unfold tickBoundary
  rw [if_neg (by simpa [hup] using hdone)]
  extract_lets +onlyGivenNames t v advanced
  change afterAdvance m advanced = _
  subst hu
  rfl

/-- What keeps a property through the held resets keeps it through the rest of the boundary. -/
theorem afterAdvance_keeps {w : Fld → Prop} {P : State → Prop} (C : Closed w P) (kR : RaiseSet w) (kenergy : w .energy)
    (hheld : ∀ l t, P t → P (heldResets l t)) (m : Measured) (h : P s) : P (afterAdvance m s) := by
  unfold afterAdvance
  extract_lets committed taken reset sent
  have hcommitted : P committed := keep_commitTemplates C kR.serve (keep_modServe C kR.serve h)
  have htaken : P taken := keep_takeover C kR (keep_todLoad C kR.serve hcommitted)
  have hreset : P reset := hheld _ _
    (keep_freezeParts C kR.regs kR.hub kR.hbm kR.parts kR.faults kR.mem kR.links kR.serve kR.cairn kR.pair htaken)
  have hsent : P sent := keep_resendFault C kR.links kR.pair (keep_accountTick C kR kenergy hreset)
  split
  · exact keep_mapCores C kR.cores hsent
  · exact hsent

theorem afterAdvance_tick (m : Measured) (s : State) : (afterAdvance m s).tick = s.tick :=
  have C := closed_same .tick s
  afterAdvance_keeps C (raiseSet_ne (by decide)) (by decide)
    (fun _ _ => keep_heldResets C (raiseSet_ne (by decide)) (by decide) (by decide) (by decide) (by decide)) m rfl

theorem afterAdvance_now (m : Measured) (s : State) : (afterAdvance m s).now = s.now :=
  afterAdvance_keeps (closed_same .now s) (raiseSet_ne (by decide)) (by decide)
    (fun l _ h => (heldResets_now l).trans h) m rfl

theorem endTick_same {f : Fld} (h : f ∉ reportFields) (s : State) : f.same s (endTick s) :=
  have kR := raiseSet_ne h
  keep_noteUnissued (closed_same f s) kR.mem (keep_settleFills (closed_same f s) kR (by cases f <;> rfl))

theorem holdDigest_eq (s : State) : ∃ d, holdDigest s = { s with dig := d } := by
  unfold holdDigest
  split
  · exact ⟨_, rfl⟩
  · exact ⟨_, rfl⟩

theorem tickBoundary_tick (hup : s.dev.up = true) (hdone : s.tick.running = true → s.tick.frameDone = true)
    (m : Measured) : (tickBoundary m s).tick =
      advanceTick (s.tick.boundAt + ticT s) (rget64 (endTick s) (regKey 2 0 0x58 0)).toNat (ticF (endTick s))
        (ticT (endTick s)) (upstreamReg (endTick s)) s.tick := by
  have hend : (endTick s).tick = s.tick := endTick_same (f := .tick) (by decide) s
  obtain ⟨d, hd⟩ := holdDigest_eq (endTick s)
  rw [tickBoundary_of_due hup hdone rfl, afterAdvance_tick, hd, ← hend]
  rfl

theorem tickBoundary_now (hup : s.dev.up = true) (hdone : s.tick.running = true → s.tick.frameDone = true)
    (m : Measured) : (tickBoundary m s).now = max s.now (s.tick.boundAt + ticT s) := by
  have hend : (endTick s).now = s.now := endTick_same (f := .now) (by decide) s
  obtain ⟨d, hd⟩ := holdDigest_eq (endTick s)
  rw [tickBoundary_of_due hup hdone rfl, afterAdvance_now, hd, ← hend]
  rfl

/-- A count that runs goes on by one. -/
theorem advanceTick_of_running {k : Tick} (h : k.running = true) (t base frameLen tickLen up : Nat) :
    (advanceTick t base frameLen tickLen up k).n = k.n + 1 ∧
      (advanceTick t base frameLen tickLen up k).running = true := by
  simp [advanceTick, h]

/-! ## The frame boundary -/

theorem switchUpstream_tick (s : State) : ∃ l, (switchUpstream s).tick = { s.tick with upstream := l } := by
  unfold switchUpstream
  extract_lets l switched
  split
  · exact ⟨s.tick.upstream, rfl⟩
  · refine ⟨l, ?_⟩
    split
    · rfl
    · exact keep_tickSlip (closed_same .tick switched) (raiseSet_ne (by decide)) rfl

/-- Of the tick logic a frame boundary changes no more than that its work is done, and the upstream link. -/
theorem frameBoundary_tick (hrun : s.tick.running = true) (hdue : s.tick.frameDone = false) :
    ∃ l, (frameBoundary s).tick = { s.tick with frameDone := true, upstream := l } := by
  unfold frameBoundary
  rw [if_neg (by simp [hrun, hdue])]
  extract_lets ended marked checked traced slotted advanced settled published
  obtain ⟨l, hl⟩ := switchUpstream_tick marked
  refine ⟨l, .trans ?_ hl⟩
  have C := closed_same .tick (switchUpstream marked)
  have kR : RaiseSet fun f => f ≠ .tick := raiseSet_ne (by decide)
  have htraced : Fld.tick.same (switchUpstream marked) traced := keep_mapCores C kR.cores (keep_overrunChecks C kR rfl)
  have hslotted : Fld.tick.same (switchUpstream marked) slotted := keep_slotsAtFrame C kR (by decide) (by decide)
    (keep_closeSlack C kR.mem (keep_rngCommits C (by decide)
      (keep_monitorFrame C kR (by decide) (by decide) (by decide) htraced)))
  have hadvanced : Fld.tick.same (switchUpstream marked) advanced := keep_advancePositions C (by decide)
    (keep_closeEnergy C (by decide) (keep_countJobs C (by decide) hslotted))
  have hsettled : Fld.tick.same (switchUpstream marked) settled :=
    keep_settleLooks C kR (keep_feedSettle C kR.hub kR.mem kR.serve hadvanced)
  have hpublished : Fld.tick.same (switchUpstream marked) published := keep_pairTrace C kR (by decide)
    (keep_publishDigest C kR (by decide) (keep_readLosses C kR (by decide) hsettled))
  split
  · exact hpublished
  · exact keep_captures C kR.regs kR.hub kR.hbm kR.faults kR.cairn
      (keep_resumeCores C kR.cores (keep_castVote C (by decide) (keep_decideFrame C kR (by decide) hpublished)))

theorem frameBoundary_now (s : State) : (frameBoundary s).now = s.now :=
  keep_frameBoundary (closed_same .now s) (raiseSet_ne (by decide)) (by decide) (by decide) (by decide) (by decide)
    (by decide) (by decide) (by decide) (by decide) (by decide) (by decide) rfl

end

/-- Settles O12: what a boundary does after the advance of N keeps the tick logic and the clock, and of a frame boundary's work
only a new upstream link shows in the tick logic. -/
theorem boundariesAdvanceTheTick : Obligations.BoundariesAdvanceTheTick := by
  constructor
  · intro m s u hup hdone hu
    replace hu : u = endTick s := hu
    subst hu
    have htick := tickBoundary_tick hup hdone m
    refine ⟨_, exec_tickBoundary m s rfl, tickBoundary_now hup hdone m, htick, fun hrun => ?_⟩
    rw [htick]
    exact advanceTick_of_running hrun ..
  · intro s hrun hdue
    obtain ⟨l, htick⟩ := frameBoundary_tick hrun hdue
    refine ⟨_, exec_frameBoundary s rfl, ?_, ?_, ?_, frameBoundary_now s⟩
    · rw [htick]
    · rw [htick]
    · rw [htick]
      exact hrun

/-! ## Start, holdover and lock -/

section
variable {s : State}

theorem tickStart_of_master {v : Word} (hv : v.getLsbD 0 = true) (hstill : s.tick.running = false)
    (hmaster : tickRole s = 1) : tickStart v s = modTick (fun k => { k with startPending := true }) s := by
  simp [tickStart, hv, hstill, hmaster]

theorem tickStart_of_ignored (h : s.tick.running = true ∨ tickRole s ≠ 1) (v : Word) :
    tickStart v s = raiseCe 2 0 3 0 s :=
  if_pos h

theorem holdoverExceeded_of_locked (hrole : tickRole s = 2) (hrun : s.tick.running = true)
    (hlocked : s.tick.locked = true) : holdoverExceeded s =
      tickSlip 2 (upstream s) (modTick (fun k => { k with locked := false, freqLocked := false })
        (passTo (s.tick.lastMarker + 940000) s)) :=
  if_pos ⟨hrole, hrun, hlocked⟩

theorem ticT_pos (s : State) : 0 < ticT s := Nat.two_pow_pos _

theorem fclkLock_of_running (hrole : tickRole s = 2) (hup : (link s (upstream s)).st = 5)
    (hrun : s.tick.running = true) : fclkLock s = modTick (fun k => { k with freqLocked := true }) s := by
  simp [fclkLock, hrole, hup, hrun]

/-- The boundary that a device which does not count takes at its lock: the last cycle, up to now, that lies whole ticks after
cycle `b`. -/
def lockedBound (s : State) (b : Int) : Nat := s.now - (((s.now : Int) - b) % (ticT s : Int)).toNat

theorem fclkLock_of_still {b : Int} (hrole : tickRole s = 2) (hup : (link s (upstream s)).st = 5)
    (hstill : s.tick.running = false)
    (hb : b = (s.tick.lastMarker : Int) - s.tick.lastOff - (link s (upstream s)).mIn) :
    fclkLock s = modTick (fun k => { k with freqLocked := true, boundAt := lockedBound s b }) s := by
  simp [fclkLock, hrole, hup, hstill, hb, lockedBound]

theorem lockedBound_spec {b : Int} (hpast : b ≤ s.now) (hpos : 0 ≤ b) :
    lockedBound s b ≤ s.now ∧ s.now < lockedBound s b + ticT s ∧
      ((lockedBound s b : Int) - b) % (ticT s : Int) = 0 := by
  have htick : (0 : Int) < ticT s := by exact_mod_cast ticT_pos s
  have hnonneg := Int.emod_nonneg ((s.now : Int) - b) htick.ne'
  have hlt := Int.emod_lt_of_pos ((s.now : Int) - b) htick
  have hle : ((s.now : Int) - b) % (ticT s : Int) ≤ s.now - b := by
    have hquot : 0 ≤ (ticT s : Int) * (((s.now : Int) - b) / ticT s) :=
      mul_nonneg htick.le (Int.ediv_nonneg (by omega) htick.le)
    have hsum := Int.emod_add_mul_ediv ((s.now : Int) - b) (ticT s)
    omega
  have hbound : (lockedBound s b : Int) = s.now - ((s.now : Int) - b) % (ticT s : Int) := by
    rw [lockedBound]
    omega
  refine ⟨by omega, by omega, Int.emod_eq_zero_of_dvd ?_⟩
  rw [hbound, sub_right_comm]
  exact Int.dvd_self_sub_emod

/-! ## Markers -/

/-- The distance of a marker is its balanced residue modulo the tick length. -/
theorem markOffset_eq_bmod (s : State) (m : Marker) :
    markOffset s m = ((s.now : Int) - (link s m.link).mIn - m.off - s.tick.boundAt).bmod (ticT s) := by
  simp only [markOffset, Int.bmod]
  split <;> split <;> omega

theorem markOffset_spec (s : State) (m : Marker) :
    ((s.now : Int) - ((s.tick.boundAt : Int) + m.off + (link s m.link).mIn) - markOffset s m) % (ticT s : Int) = 0 ∧
      -(ticT s : Int) ≤ 2 * markOffset s m ∧ 2 * markOffset s m < ticT s := by
  have hsum : (s.now : Int) - ((s.tick.boundAt : Int) + m.off + (link s m.link).mIn) =
      (s.now : Int) - (link s m.link).mIn - m.off - s.tick.boundAt := by omega
  rw [hsum, markOffset_eq_bmod]
  generalize (s.now : Int) - (link s m.link).mIn - m.off - s.tick.boundAt = x
  have hlow := Int.le_bmod (x := x) (ticT_pos s)
  have hhigh := Int.bmod_lt (x := x) (ticT_pos s)
  exact ⟨Int.emod_eq_zero_of_dvd Int.dvd_self_sub_bmod, by omega, by omega⟩

theorem tickMarker_of_replayed {m : Marker} (h : m.replayed = true) : tickMarker m s = s :=
  if_pos (.inl h)

/-- The state with a marker's distance and cycle in its link. -/
def markSeen (m : Marker) (s : State) : State :=
  setLink m.link { link s m.link with mark := markOffset s m, markAt := s.now } s

theorem markOffset_markSeen (h : swf (fun _ => Link.reset) s.links = true) (m : Marker) :
    markOffset (markSeen m s) m = markOffset s m := by
  rw [markOffset, markSeen, link_setLink h]
  rfl

/-- A marker that is used: its distance stays in its link, and on the upstream link of a follower it counts for the lock. -/
def markTaken (m : Marker) (s : State) : State :=
  if tickRole s = 2 ∧ m.link = upstream s then upstreamMark m (markSeen m s) else markSeen m s

theorem markTaken_of_other {m : Marker} (h : m.link ≠ upstream s) : markTaken m s = markSeen m s :=
  if_neg fun hboth => h hboth.2

theorem markTaken_of_upstream {m : Marker} (hlink : m.link = upstream s) (hrole : tickRole s = 2) :
    markTaken m s = upstreamMark m (markSeen m s) :=
  if_pos ⟨hrole, hlink⟩

theorem tickMarker_of_silent {m : Marker} (hreplayed : m.replayed = false) (hup : (link s m.link).st = 5)
    (hnumber : m.number = none) : tickMarker m s = markTaken m s := by
  unfold tickMarker
  rw [if_neg (by simp [hreplayed, hup]), hnumber]
  rfl

theorem tickMarker_of_numbered {m : Marker} {v : Dword} (hreplayed : m.replayed = false)
    (hup : (link s m.link).st = 5) (hnumber : m.number = some v) :
    tickMarker m s = markVotes m v (markTaken m s) := by
  unfold tickMarker
  rw [if_neg (by simp [hreplayed, hup]), hnumber]
  rfl

/-- The state with a marker of the upstream link as the last one, at distance `d`. -/
def lastMark (m : Marker) (d : Int) (s : State) : State :=
  modTick (fun k => { k with lastMarker := s.now, lastOff := m.off, offset := d }) s

theorem upstreamMark_of_near {m : Marker} (hnumber : m.number = none)
    (hnear : -2 ≤ markOffset s m ∧ markOffset s m ≤ 2) : upstreamMark m s = lastMark m (markOffset s m) s := by
  simp [upstreamMark, hnumber, hnear, lastMark]

theorem upstreamMark_of_far {m : Marker} (hnumber : m.number = none) (hrun : s.tick.running = true)
    (hfar : markOffset s m < -2 ∨ 2 < markOffset s m) :
    upstreamMark m s = tickSlip 0 (toBits 16 (markOffset s m)) (lastMark m (markOffset s m) s) := by
  have hwindow : (decide (-2 ≤ markOffset s m) && decide (markOffset s m ≤ 2)) = false := by
    rcases hfar with h | h <;> simp [Int.not_le.mpr h]
  simp [upstreamMark, hnumber, hwindow, lastMark, modTick, hrun]

end

/-- Settles O13: each command by the law of its function; that the distances and the boundary taken at the lock are whole ticks
off is arithmetic. -/
theorem tickControlAndMarkersAct : Obligations.TickControlAndMarkersAct := by
  refine ⟨⟨?start, ?ignored, ?lock, ?holdover, ?clear⟩, ?marker⟩
  case start =>
    intro src v s hfit hv hstill hmaster
    rw [exec_tickStart src v s hfit, tickStart_of_master hv hstill hmaster]
  case ignored =>
    intro src v s hfit hignored
    rw [exec_tickStart src v s hfit, tickStart_of_ignored hignored]
  case lock =>
    intro dt s hrole hup
    rw [exec_fclkLock dt s rfl]
    refine ⟨fun hrun => ?_, fun b hstill hb hpos hpast => ?_⟩
    · rw [fclkLock_of_running (s := elapse dt s) hrole hup hrun]
    · refine ⟨lockedBound (elapse dt s) b, ?_, lockedBound_spec (s := elapse dt s) (by simpa using hpast) hpos⟩
      rw [fclkLock_of_still (s := elapse dt s) hrole hup hstill hb]
  case holdover =>
    intro s hrole hrun hlocked
    rw [exec_holdoverExceeded s rfl, holdoverExceeded_of_locked hrole hrun hlocked]
  case clear =>
    intro src slot s hfit
    exact exec_nummonClear src slot s hfit
  case marker =>
    intro dt m d s u hwf hs hd hu
    replace hu : u = markSeen m (elapse dt s) := by rw [hu, hd]; rfl
    subst hd hu
    have hlinks : swf (fun _ => Link.reset) (elapse dt s).links = true := hs.links
    have hoffset := markOffset_markSeen hlinks m
    rw [exec_tickMarker dt m s hwf]
    refine ⟨fun hreplayed => ?replayed, fun hreplayed hnumber hup hother => ?silent,
      fun v hreplayed hnumber hup hother => ?number,
      fun hreplayed hnumber hup hlink hrole => ⟨fun hnear => ?near, fun hfar hrun => ?far⟩, fun _ => ?distance⟩
    case replayed => rw [tickMarker_of_replayed hreplayed]
    case silent =>
      rw [tickMarker_of_silent (s := elapse dt s) hreplayed hup hnumber, markTaken_of_other (s := elapse dt s) hother]
    case number =>
      rw [tickMarker_of_numbered (s := elapse dt s) hreplayed hup hnumber, markTaken_of_other (s := elapse dt s) hother]
    case near =>
      rw [tickMarker_of_silent (s := elapse dt s) hreplayed hup hnumber,
        markTaken_of_upstream (s := elapse dt s) hlink hrole, upstreamMark_of_near hnumber (by rwa [hoffset]), hoffset]
      rfl
    case far =>
      rw [tickMarker_of_silent (s := elapse dt s) hreplayed hup hnumber,
        markTaken_of_upstream (s := elapse dt s) hlink hrole,
        upstreamMark_of_far (s := markSeen m (elapse dt s)) hnumber hrun (by rwa [hoffset]), hoffset]
      rfl
    case distance =>
      have hspec := markOffset_spec (elapse dt s) m
      rw [elapse_now, Nat.cast_add] at hspec
      exact hspec

end Sys2Proof.Machine

/-! # The schedule: images loaded, armed and switched (R62 to R68) -/

namespace Sys2Proof.Machine

open Sys2Proof

section
variable {s : State}

/-! ## SCHED_CMD -/

theorem schedLoad_of_ready (hloading : s.sched.st ≠ 1) (harmed : s.sched.st ≠ 3) (hready : devReady s = true)
    (errs : List (Nat × SymErrs)) :
    schedLoad errs s = modSched (fun x => { unstage 1 x with
      loadAddr := (rget64 s (regKey 0x16 0 0x40 0)).toNat, loadErrs := errs,
      lockWin := (windowHolding s (rget64 s (regKey 0x16 0 0x40 0)).toNat ((rget64 s (regKey 0x16 0 0x40 0)).toNat +
        physNat s ((rget64 s (regKey 0x16 0 0x40 0)).toNat + 0x10) 8 - 1)).map (·.idx) }) s := by
  simp [schedLoad, hloading, harmed, hready]

/-- VERIFY_DONE stages the image where no check fails, and rejects it with the code of the first that does. -/
theorem verifyDone_of_read {a code : Nat} {ok : Bool} {u : State} (hloading : s.sched.st = 1) (ha : a = s.sched.loadAddr)
    (hread : crestRead [(a / 64 * 64, if headerOk s a then ceilDiv (physNat s (a + 0x10) 8) 64 else 2)]
      s.sched.loadErrs s = (ok, u))
    (hcode : code = if headerOk s a = true ∧ ok = false then 2 else loadCode s a) :
    verifyDone s =
      if code = 0 then
        modSched (fun x => { x with st := 2, staged := some (imageAt u a), lockWin := some (imageAt u a).window }) u
      else
        raiseCe 0x16 0 0 code (modSched (fun x => { unstage 4 x with
          reject := code, link := if code = 6 then (linkMismatch u (sysDesc u a)).getD 0 else u.sched.link }) u) := by
  have hsame : (if (headerOk s a && !ok) = true then 2 else loadCode s a) = code := by simp [hcode]
  subst ha
  simp only [verifyDone, hloading, hread, hsame, ne_eq, not_true_eq_false, if_false]
  cases code <;> rfl

/-- ARM takes the tick that it names, or the earliest eligible one where it names 0. -/
theorem schedArm_of_legal {im : Image} {a : Nat} (hloading : s.sched.st ≠ 1) (harmed : s.sched.st ≠ 3)
    (hready : devReady s = true) (himage : s.sched.staged = some im) (hid : rget64 s (regKey 0x16 0 0x50 0) = im.id)
    (ha : a = if (rget64 s (regKey 0x16 0 0x58 0)).toNat = 0 then armEarliest s im
      else (rget64 s (regKey 0x16 0 0x58 0)).toNat)
    (hstep : a % armStep s im = 0) (hearly : armEarliest s im ≤ a) (hparts : (partsNow s).any (partFrozen s) = false) :
    schedArm s = modSched (fun x => { x with st := 3, armedTick := BitVec.ofNat 64 a, shadowReady := false }) s := by
  simp [schedArm, hloading, harmed, hready, himage, hid, ← ha, hstep, Nat.not_lt.mpr hearly, hparts]

theorem ceilDiv_eq_library (x m : Nat) : ceilDiv x m = x ⌈/⌉ m := (Nat.ceilDiv_eq_add_pred_div x m).symm

/-- The least multiple of the step that leaves the Crest its 40 ms is the earliest tick that ARM may choose (R66). -/
theorem armEarliest_eq {im : Image} {a : Nat} (hstep : 0 < armStep s im) (ha : a % armStep s im = 0)
    (hlate : (tickN s).toNat + ceilDiv 37600000 (ticT s) ≤ a)
    (hleast : ∀ b, b % armStep s im = 0 → (tickN s).toNat + ceilDiv 37600000 (ticT s) ≤ b → a ≤ b) :
    armEarliest s im = a := by
  apply Nat.le_antisymm
  · obtain ⟨k, rfl⟩ := Nat.dvd_of_mod_eq_zero ha
    rw [armEarliest, ceilDiv_eq_library _ (armStep s im), Nat.mul_comm]
    exact Nat.mul_le_mul_left _ ((ceilDiv_le_iff_le_mul hstep).mpr hlate)
  · refine hleast _ (Nat.mul_mod_left _ _) ?_
    rw [armEarliest, ceilDiv_eq_library _ (armStep s im), Nat.mul_comm]
    exact le_smul_ceilDiv hstep

theorem schedAbort_of_armed (harmed : s.sched.st = 3)
    (hbefore : s.tick.running = false ∨ (tickN s).toNat < s.sched.armedTick.toNat) :
    schedAbort s = modSched (fun x => { x with st := 2, armedTick := 0, shadowReady := false }) s := by
  have hlate : (s.tick.running && decide (s.sched.armedTick.toNat ≤ (tickN s).toNat)) = false := by
    rcases hbefore with h | h <;> simp [h]
  simp [schedAbort, harmed, hlate]

theorem schedAbort_of_unarmed (hempty : s.sched.st ≠ 0) (harmed : s.sched.st ≠ 3) :
    schedAbort s = modSched (unstage 0) s := by
  unfold schedAbort
  split <;> simp_all

theorem shadowDone_of_waiting (harmed : s.sched.st = 3) (hwait : s.sched.shadowReady = false) :
    shadowDone s =
      modSched (fun x => { x with shadowReady := true }) (placeCores s.sched.staged (List.range 9216) s) := by
  simp [shadowDone, harmed, hwait]

/-! ## The activation -/

theorem imageActivation_of_due {im : Image} (harmed : s.sched.st = 3) (hrun : s.tick.running = true)
    (htick : tickN s = s.sched.armedTick) (hplaced : s.sched.shadowReady = true) (hframe : s.tick.frameDone = true)
    (hfirst : s.now = s.tick.boundAt) (himage : s.sched.staged = some im) : imageActivation s = activate im s := by
  simp [imageActivation, activationTick, harmed, hrun, htick, hplaced, hframe, hfirst, himage]

theorem tickN_congr {t : State} (h : t.tick = s.tick) : tickN t = tickN s := by
  rw [tickN, h, tickN]

/-- The schedule after an activation: nothing but taking the image changes it. -/
theorem activate_sched (im : Image) (s : State) :
    (activate im s).sched = { unstage 0 s.sched with
      active := some im, activeTick := tickN s, activeAt := s.now, colour := s.sched.colour + 1 } := by
  unfold activate
  extract_lets old stays cores serving checked taken cleared ps parted swapped measured served
  have hnow : checked.now = s.now := keep_overrunChecks (closed_same .now s) (raiseSet_ne (by decide)) rfl
  have htick : checked.tick = s.tick := keep_overrunChecks (closed_same .tick s) (raiseSet_ne (by decide)) rfl
  have hsched : checked.sched = s.sched := keep_overrunChecks (closed_same .sched s) (raiseSet_ne (by decide)) rfl
  have htaken : taken.sched = { unstage 0 s.sched with
      active := some im, activeTick := tickN s, activeAt := s.now, colour := s.sched.colour + 1 } := by
    simp only [taken, modSched, hsched, hnow, tickN_congr htick]
  rw [← htaken]
  have C := closed_same .sched taken
  have kR : RaiseSet fun f => f ≠ .sched := raiseSet_ne (by decide)
  have hparted : Fld.sched.same taken parted := foldl_keep (fun t p ht => keep_setPart C kR.parts ht) rfl
  have hswapped : Fld.sched.same taken swapped := keep_edgeSeals C (by decide) (keep_swapCores C kR hparted)
  have hmeasured : Fld.sched.same taken measured := keep_measureCounted C (by decide) hswapped
  have hserved : Fld.sched.same taken served := keep_activateServing C kR.regs kR.serve
    (keep_zeroIssued C kR.regs (keep_castVote C (by decide) (keep_activateEnergy C kR.regs (by decide) hmeasured)))
  exact keep_captures C kR.regs kR.hub kR.hbm kR.faults kR.cairn
    (foldl_keep (fun t p ht => keep_skipReport C kR ht) hserved)

/-- An activation leaves alone what neither it nor a cause that it reports changes. -/
theorem imageActivation_same {f : Fld} (hreport : f ∉ reportFields) (hf : f ∉ [.fab, .sched, .energy, .sec]) (s : State) :
    f.same s (imageActivation s) := by
  simp only [List.mem_cons, List.not_mem_nil, or_false, not_or] at hf
  obtain ⟨hfab, hsched, henergy, hsec⟩ := hf
  exact keep_imageActivation (closed_same f s) (raiseSet_ne hreport) (Ne.symm hfab) (Ne.symm hsched) (Ne.symm henergy)
    (Ne.symm hsec) (by cases f <;> rfl)

end

/-- Settles O14: each command by the law of its function, and the activation by what it does to the schedule. -/
theorem imagesAreLoadedAndSwitched : Obligations.ImagesAreLoadedAndSwitched := by
  refine ⟨⟨?load, ?verify, ?arm, ?earliest, ?abortArmed, ?abort, ?shadow⟩, ?activation⟩
  case load =>
    intro src errs s hfit hloading harmed hready
    rw [exec_load ⟨src, errs⟩ s hfit, schedLoad_of_ready hloading harmed hready]
    rfl
  case verify =>
    intro a ok code s u hloading ha hread hcode
    rw [exec_verifyDone s rfl, verifyDone_of_read hloading ha hread hcode]
    rfl
  case arm =>
    intro src im s hfit hloading harmed hready himage hid hstep hearly hnamed hparts
    rw [exec_arm src s hfit,
      schedArm_of_legal hloading harmed hready himage hid (if_neg hnamed).symm hstep hearly hparts]
    simp
  case earliest =>
    intro src im a s hfit hloading harmed hready himage hid hnone hpos hparts hstep hlate hleast
    have ha := armEarliest_eq hpos hstep hlate hleast
    rw [exec_arm src s hfit,
      schedArm_of_legal hloading harmed hready himage hid (by simp [hnone, ha]) hstep ha.le hparts]
  case abortArmed =>
    intro src s hfit harmed hbefore
    rw [exec_abort src s hfit, schedAbort_of_armed harmed hbefore]
  case abort =>
    intro src s hfit hempty harmed
    rw [exec_abort src s hfit, schedAbort_of_unarmed hempty harmed]
    rfl
  case shadow =>
    intro s harmed hwait
    rw [exec_shadowReady s rfl, shadowDone_of_waiting harmed hwait]
  case activation =>
    intro im s harmed hrun htick hplaced hframe hfirst himage
    refine ⟨_, exec_imageActivation s rfl, ?_, imageActivation_same (f := .tick) (by decide) (by decide) s,
      imageActivation_same (f := .now) (by decide) (by decide) s,
      imageActivation_same (f := .sram) (by decide) (by decide) s⟩
    rw [imageActivation_of_due harmed hrun htick hplaced hframe hfirst himage, activate_sched]
    rfl

end Sys2Proof.Machine

/-! # The cores: instructions issue, fault, slip or wait -/

namespace Sys2Proof.Machine

open Sys2Proof

section
variable {k : (Nat → Nat → Stream → Ecc → Instr) × Nat × Nat} {cls op dt c : Nat} {st : Stream} {w : Dword} {s : State}

/-! ## The rows of the core instructions -/

theorem unitsOk_core (hc : c < 9216) : unitsOk [⟨"core", c, 9216⟩] = true := by simpa [unitsOk] using hc

/-- A core instruction names its core, and no access source sends it. -/
theorem fit_coreRow (hk : k ∈ coreRows) (hc : c < 9216) (dt : Nat) (st : Stream) (ecc : Ecc) (s : State) :
    fit (k.1 dt c st ecc) s = true := by
  have hsender : (k.1 dt c st ecc).sender = none := by fin_cases hk <;> rfl
  have hunits : (k.1 dt c st ecc).units = [⟨"core", c, 9216⟩] := by fin_cases hk <;> rfl
  exact fit_event (by rw [Instr.wf, hunits, unitsOk_core hc]) hsender

/-- Each row of `coreRows` is the issue cycle of the class and opcode that it stands for. -/
theorem exec_coreRow (hk : k ∈ coreRows) (hc : c < 9216) (dt : Nat) (st : Stream) (ecc : Ecc) (s : State) :
    exec (k.1 dt c st ecc) s = .next (issue k.2.1 k.2.2 c st ecc (elapse dt s)) := by
  have hanswer : exec (k.1 dt c st ecc) s = answer (k.1 dt c st ecc) s (issue k.2.1 k.2.2 c st ecc (elapse dt s)) := by
    fin_cases hk <;> rfl
  rw [hanswer, answer_eq (fit_coreRow hk hc dt st ecc s) (by simp)]

theorem exec_of_headIssues (hk : k ∈ coreRows) (h : HeadIssues k.2.1 k.2.2 dt c st w s) :
    exec (k.1 dt c st .ok) s = .next
      (issueEffect c (s.now + dt) (pcDetail (streamOf (core s c) st) st) st w (issuedState s dt c st w)) := by
  have hc : c < 9216 := h.1
  rw [exec_coreRow hk hc, issue_of_head h]

end

/-- Settles O17: every row is the issue cycle of its class and opcode, and `issue_of_head` says what a head that issues does. -/
theorem coreInstructionsIssue : Obligations.CoreInstructionsIssue :=
  fun _ hk _ _ _ _ _ h => exec_of_headIssues hk h

/-! ## What each class does in its issue cycle -/

section
variable {row : Nat → Nat → Stream → Ecc → Instr} {cls op dt c : Nat} {st : Stream} {w : Dword} {s : State}

/-- An instruction that only changes its core leaves there its own effect on the core that has issued. -/
theorem exec_changes_core (hrow : (row, cls, op) ∈ coreRows) (h : HeadIssues cls op dt c st w s) (hs : s.Canonical)
    {f : Core → Core} (hf : issueEffect c (s.now + dt) (pcDetail (streamOf (core s c) st) st) st w (issuedState s dt c st w) =
      modCore c f (issuedState s dt c st w)) :
    ∃ t, exec (row dt c st .ok) s = .next t ∧ core t c = f (issuedCore s (s.now + dt) c st w) ∧ t.sram = s.sram :=
  ⟨_, exec_of_headIssues hrow h, by rw [hf, core_modCore_issued hs], by rw [hf]; exact (issuedState_fab s dt c st w).2⟩

theorem class_of_headIssues (h : HeadIssues cls op dt c st w s) : iClass w = cls ∧ iOp w = op := by
  obtain ⟨-, -, hcls, hop, -⟩ := h
  exact ⟨hcls, hop⟩

variable {t tag origin : Nat} {u : State} {x : Core}

theorem issueEffect_ctl (hcls : iClass w = 0) (hop : iOp w ≠ 5) :
    issueEffect c t origin st w u = modCore c (ctlEffect t st w) u := by
  simp [issueEffect, hcls, hop]

theorem issueEffect_ctok (hcls : iClass w = 0) (hop : iOp w = 5) :
    issueEffect c t origin st w u = addWire ⟨c, .control, .l, mkFlit (some (iJob w)) (wbits w 13 8) (core u c).colour false
      (BitVec.ofNat 512 (wbits w 7 0)), t + 1⟩ u := by
  simp [issueEffect, hcls, hop]

theorem issueEffect_scal (hcls : iClass w = 4) : issueEffect c t origin st w u = modCore c (scalEffect w) u := by
  simp [issueEffect, hcls]

theorem issueEffect_tagSet (hcls : iClass w = 5) (hop : iOp w = 0) :
    issueEffect c t origin st w u = modCore c (setTag t (tagTag w)) u := by
  simp [issueEffect, hcls, hop]

theorem issueEffect_tagClr (hcls : iClass w = 5) (hop : iOp w = 1) :
    issueEffect c t origin st w u = modCore c (clearTag t (tagTag w)) u := by
  simp [issueEffect, hcls, hop]

theorem ctlEffect_nop (hop : iOp w = 0) : ctlEffect t st w x = x := by
  simp [ctlEffect, hop]

theorem ctlEffect_fend (hop : iOp w = 1) :
    ctlEffect t st w x = setStream st { streamOf x st with parked := some t } x := by
  simp [ctlEffect, hop]

theorem ctlEffect_jump (hop : iOp w = 2) :
    ctlEffect t st w x = setStream st { streamOf x st with pc := BitVec.ofNat 10 (wbits w 9 0) } x := by
  simp [ctlEffect, hop]

theorem ctlEffect_loop_ends (hop : iOp w = 3) (hlast : sregOf x (wbits w 13 10) = 1) :
    ctlEffect t st w x = setSreg (wbits w 13 10) 0 x := by
  simp [ctlEffect, hop, hlast]

theorem ctlEffect_loop_again (hop : iOp w = 3) (hmore : sregOf x (wbits w 13 10) ≠ 1) :
    ctlEffect t st w x = setStream st { streamOf x st with pc := BitVec.ofNat 10 (wbits w 9 0) }
      (setSreg (wbits w 13 10) (sregOf x (wbits w 13 10) - 1) x) := by
  have hleft : sregOf x (wbits w 13 10) - 1 ≠ 0 := fun h => hmore (by simpa using sub_eq_zero.mp h)
  simp only [ctlEffect, hop, if_neg hleft]

theorem ctlEffect_mask (hop : iOp w = 4) : ctlEffect t st w x = { x with mask := BitVec.ofNat 16 (wbits w 15 0) } := by
  simp [ctlEffect, hop]

/-- The descriptor of a tile with its base line replaced (Table 3.13). -/
def rebased (d : Dword) (base : Nat) : Dword := BitVec.ofNat 64 (d.toNat - dBase d + base % 2 ^ 13)

theorem toNat_rebased (d : Dword) (base : Nat) : (rebased d base).toNat = d.toNat / 2 ^ 13 * 2 ^ 13 + base % 2 ^ 13 := by
  have := d.isLt
  simp only [rebased, dBase, wbits, bitsOf, BitVec.toNat_ofNat]
  omega

theorem dBase_rebased (d : Dword) (base : Nat) : dBase (rebased d base) = base % 2 ^ 13 := by
  simp only [dBase, wbits, bitsOf, toNat_rebased]
  omega

/-- A new base line leaves the other fields of a descriptor. -/
theorem getLsbD_rebased {d : Dword} {i : Nat} (hi : 13 ≤ i) (base : Nat) : (rebased d base).getLsbD i = d.getLsbD i := by
  obtain ⟨j, rfl⟩ := Nat.exists_eq_add_of_le hi
  rw [BitVec.getLsbD, BitVec.getLsbD, Nat.add_comm, ← Nat.testBit_div_two_pow, ← Nat.testBit_div_two_pow, toNat_rebased]
  congr 1
  omega

theorem scalEffect_li (hop : iOp w = 0) : scalEffect w x = setSreg (scalD w) (scalImm w) x := by
  simp [scalEffect, hop]

theorem scalEffect_addi (hop : iOp w = 1) :
    scalEffect w x = setSreg (scalD w) (sregOf x (scalA w) + scalImm w) x := by
  simp [scalEffect, hop]

theorem scalEffect_tdb (hop : iOp w = 2) :
    scalEffect w x = { ringWrite x (scalTag w) with
      tiles := sset (fun _ => (0 : Dword)) x.tiles (512 * bit01 x.half + scalTag w)
        (rebased (tileOf x (scalTag w)) (sregOf x (scalA w) + scalImm w).toNat) } := by
  simp [scalEffect, hop, rebased]

theorem valid_setTag (t tag : Nat) (x : Core) : (setTag t tag x).valid = x.valid ||| BitVec.ofNat 512 (2 ^ tag) := rfl

theorem clearTag_of_set (h : (sget (fun _ => TagTime.zero) x.tagAt tag).setAt = t + 1) : clearTag t tag x = x :=
  if_pos h

theorem valid_clearTag (h : (sget (fun _ => TagTime.zero) x.tagAt tag).setAt ≠ t + 1) :
    (clearTag t tag x).valid = x.valid &&& ~~~BitVec.ofNat 512 (2 ^ tag) := by
  rw [clearTag, if_neg h]

end

/-- Settles O18: each instruction by the law of its effect on the core; the descriptor that TDB leaves is arithmetic. -/
theorem controlAndScalarInstructionsAct : Obligations.ControlAndScalarInstructionsAct := by
  refine ⟨?ctl, ?scal⟩
  case ctl =>
    rintro dt c st w s _ hs rfl
    have ctl {row op} (hrow : (row, 0, op) ∈ coreRows) (h : HeadIssues 0 op dt c st w s) (hop : op ≠ 5) :=
      exec_changes_core hrow h hs (issueEffect_ctl (class_of_headIssues h).1 ((class_of_headIssues h).2 ▸ hop))
    refine ⟨fun h => ?nop, fun h => ?fend, fun h => ?jump, fun h => ?loop, fun h => ?mask, fun h => ?ctok⟩
    all_goals obtain ⟨hcls, hop⟩ := class_of_headIssues h
    case nop =>
      obtain ⟨t, ht, hcore, -⟩ := ctl (row := .nop) (by simp [coreRows]) h (by decide)
      exact ⟨t, ht, by rw [hcore, ctlEffect_nop hop]⟩
    case fend =>
      obtain ⟨t, ht, hcore, -⟩ := ctl (row := .fend) (by simp [coreRows]) h (by decide)
      exact ⟨t, ht, by rw [hcore, ctlEffect_fend hop]⟩
    case jump =>
      obtain ⟨t, ht, hcore, -⟩ := ctl (row := .jump) (by simp [coreRows]) h (by decide)
      exact ⟨t, ht, by rw [hcore, ctlEffect_jump hop]⟩
    case loop =>
      obtain ⟨t, ht, hcore, -⟩ := ctl (row := .loop) (by simp [coreRows]) h (by decide)
      refine ⟨t, ht, fun hlast => ?_, fun hmore => ?_⟩
      · rw [hcore, ctlEffect_loop_ends hop hlast]
      · rw [hcore, ctlEffect_loop_again hop hmore]
    case mask =>
      obtain ⟨t, ht, hcore, -⟩ := ctl (row := .mask) (by simp [coreRows]) h (by decide)
      exact ⟨t, ht, by rw [hcore, ctlEffect_mask hop]⟩
    case ctok =>
      refine ⟨_, exec_of_headIssues (k := (.ctok, 0, 5)) (by simp [coreRows]) h, ?_, ?_⟩
      · rw [issueEffect_ctok hcls hop]
        exact core_issued hs
      · rw [issueEffect_ctok hcls hop, core_issued hs, addWire, (issuedState_fab s dt c st w).1]
  case scal =>
    rintro dt c st w s _ hs rfl
    have scal {row op} (hrow : (row, 4, op) ∈ coreRows) (h : HeadIssues 4 op dt c st w s) :=
      exec_changes_core hrow h hs (issueEffect_scal (class_of_headIssues h).1)
    refine ⟨fun h => ?li, fun h => ?addi, fun h => ?tdb, fun h => ?set, fun h hset => ?clr, fun h hset => ?kept⟩
    all_goals obtain ⟨hcls, hop⟩ := class_of_headIssues h
    case li =>
      obtain ⟨t, ht, hcore, -⟩ := scal (row := .li) (by simp [coreRows]) h
      exact ⟨t, ht, by rw [hcore, scalEffect_li hop]⟩
    case addi =>
      obtain ⟨t, ht, hcore, -⟩ := scal (row := .addi) (by simp [coreRows]) h
      exact ⟨t, ht, by rw [hcore, scalEffect_addi hop]⟩
    case tdb =>
      obtain ⟨t, ht, hcore, -⟩ := scal (row := .tdb) (by simp [coreRows]) h
      exact ⟨t, _, ht, by rw [hcore, scalEffect_tdb hop], dBase_rebased _ _, fun _ hi => getLsbD_rebased hi _⟩
    case set =>
      obtain ⟨t, ht, hcore, -⟩ := exec_changes_core (row := .tagSet) (by simp [coreRows]) h hs (issueEffect_tagSet hcls hop)
      exact ⟨t, ht, by rw [hcore, valid_setTag]⟩
    all_goals
      obtain ⟨t, ht, hcore, -⟩ := exec_changes_core (row := .tagClr) (by simp [coreRows]) h hs (issueEffect_tagClr hcls hop)
    case clr => exact ⟨t, ht, by rw [hcore, valid_clearTag hset]⟩
    case kept => exact ⟨t, ht, by rw [hcore, clearTag_of_set hset]⟩

/-! ## The unit queues -/

section
variable {row : Nat → Nat → Stream → Ecc → Instr} {op dt c t origin : Nat} {st : Stream} {w : Dword} {s u : State} {x : Core}

/-- A write that issues changes the ring slots of its core only. -/
theorem foldl_ringWrite (tags : List Nat) (x : Core) : ∃ l, tags.foldl ringWrite x = { x with slots := l } := by
  induction tags generalizing x with
  | nil => exact ⟨x.slots, rfl⟩
  | cons tag tags ih =>
    have hwrite : ∃ l, ringWrite x tag = { x with slots := l } := by
      unfold ringWrite
      split
      · exact ⟨_, rfl⟩
      · exact ⟨x.slots, rfl⟩
    obtain ⟨l, hl⟩ := hwrite
    obtain ⟨l', hl'⟩ := ih { x with slots := l }
    exact ⟨l', by rw [List.foldl_cons, hl, hl']⟩

@[simp] theorem foldl_ringWrite_arrayQ (tags : List Nat) (x : Core) : (tags.foldl ringWrite x).arrayQ = x.arrayQ := by
  obtain ⟨l, hl⟩ := foldl_ringWrite tags x
  rw [hl]

@[simp] theorem foldl_ringWrite_vecQ (tags : List Nat) (x : Core) : (tags.foldl ringWrite x).vecQ = x.vecQ := by
  obtain ⟨l, hl⟩ := foldl_ringWrite tags x
  rw [hl]

@[simp] theorem foldl_ringWrite_movQ (tags : List Nat) (x : Core) : (tags.foldl ringWrite x).movQ = x.movQ := by
  obtain ⟨l, hl⟩ := foldl_ringWrite tags x
  rw [hl]

/-- The issue of an instruction moves its stream on and leaves its core what the instruction itself takes. -/
theorem issuedCore_eq (s : State) (t c : Nat) (st : Stream) (w : Dword) :
    ∃ f b u tr, issuedCore s t c st w = { core s c with f := f, b := b, u := u, trace := tr, issued := t + 1 } := by
  cases st <;> exact ⟨_, _, _, _, rfl⟩

@[simp] theorem issuedCore_arrayQ : (issuedCore s t c st w).arrayQ = (core s c).arrayQ := by cases st <;> rfl

@[simp] theorem issuedCore_vecQ : (issuedCore s t c st w).vecQ = (core s c).vecQ := by cases st <;> rfl

@[simp] theorem issuedCore_movQ : (issuedCore s t c st w).movQ = (core s c).movQ := by cases st <;> rfl

theorem issueEffect_mma (hcls : iClass w = 1) :
    issueEffect c t origin st w u = modCore c (fun x =>
      { (writeTags w (sregOf (core u c) (vecSreg w))).foldl ringWrite x with
        arrayQ := x.arrayQ ++ [mkOp u (core u c) t origin w], lastMma := some ⟨mmaShape w, iJob w, mmaInt x w⟩ }) u := by
  simp [issueEffect, hcls]

theorem issueEffect_vec (hcls : iClass w = 2) :
    issueEffect c t origin st w u = modCore c (fun x =>
      { (writeTags w (sregOf (core u c) (vecSreg w))).foldl ringWrite x with
        vecQ := x.vecQ ++ [mkOp u (core u c) t origin w] }) u := by
  simp [issueEffect, hcls]

theorem issueEffect_mov (hcls : iClass w = 3) :
    issueEffect c t origin st w u = modCore c (fun x =>
      { (writeTags w (sregOf (core u c) (vecSreg w))).foldl ringWrite x with
        movQ := x.movQ ++ [mkOp u (core u c) t origin w] }) u := by
  simp [issueEffect, hcls]

/-- The issue itself leaves alone what neither a counter nor a charge changes. -/
theorem issuedState_same {f : Fld} (hreport : f ∉ reportFields) (hnow : f ≠ .now) (henergy : f ≠ .energy) :
    f.same s (issuedState s dt c st w) := by
  have C := closed_same f s
  have kR : RaiseSet fun g => g ≠ f := raiseSet_ne hreport
  have hstart : f.same s (setCore c (issuedCore s (s.now + dt) c st w) (elapse dt s)) :=
    keep_setCore C kR.cores (C.elapse hnow.symm (by cases f <;> rfl))
  exact keep_charge C henergy.symm (keep_bump48 C kR (keep_bump48 C kR hstart))

/-- What an instruction takes into its unit's queue is not changed by its own issue. -/
theorem mkOp_issued (hs : s.Canonical) :
    mkOp (issuedState s dt c st w) (core (issuedState s dt c st w) c) t origin w = mkOp s (core s c) t origin w := by
  have hframes : (issuedState s dt c st w).jobFrames = s.jobFrames :=
    issuedState_same (f := .jobFrames) (by decide) (by decide) (by decide)
  have htick : (issuedState s dt c st w).tick = s.tick :=
    issuedState_same (f := .tick) (by decide) (by decide) (by decide)
  obtain ⟨f, b, u, tr, hcore⟩ := issuedCore_eq s (s.now + dt) c st w
  rw [core_issued hs, hcore]
  simp only [mkOp, hframes, htick]
  rfl

end

/-- Settles O20: each class by the law of its effect; its issue changes neither the queues nor what the instruction takes. -/
theorem unitInstructionsAreQueued : Obligations.UnitInstructionsAreQueued := by
  rintro ⟨row, cls, op⟩ hrow dt c st w s hs h _ o rfl ho
  have hcls : iClass w = cls := (class_of_headIssues h).1
  have hmk : mkOp s (core s c) (s.now + dt) (pcDetail (streamOf (core s c) st) st) w = o := by
    rw [ho, ← hcls, apply_ite (sregOf _)]
    rfl
  refine ⟨fun hunit => ?array, fun hunit => ?vector, fun hunit => ?mover⟩
  case array =>
    obtain ⟨t, ht, hcore, hsram⟩ := exec_changes_core hrow h hs (issueEffect_mma (hcls.trans hunit))
    rw [mkOp_issued hs, hmk] at hcore
    exact ⟨t, ht, by simp [hcore], by simp [hcore], by simp [hcore], hsram⟩
  case vector =>
    obtain ⟨t, ht, hcore, hsram⟩ := exec_changes_core hrow h hs (issueEffect_vec (hcls.trans hunit))
    rw [mkOp_issued hs, hmk] at hcore
    exact ⟨t, ht, by simp [hcore], by simp [hcore], by simp [hcore], hsram⟩
  case mover =>
    obtain ⟨t, ht, hcore, hsram⟩ := exec_changes_core hrow h hs (issueEffect_mov (hcls.trans hunit))
    rw [mkOp_issued hs, hmk] at hcore
    exact ⟨t, ht, by simp [hcore], by simp [hcore], by simp [hcore], hsram⟩

/-! ## Heads that do not issue -/

section
variable {cls op c : Nat} {st : Stream} {s : State}

/-- An uncorrectable word at the head of a running core is ist_ue, whatever row names it (R97). -/
theorem issue_of_uncorrectable (hrun : coreRuns s c = true) (hhead : atHead s.now (streamOf (core s c) st) = true) (l : Nat) :
    issue cls op c st (.uncorrectable l) s =
      raise 5 c 3 1 (pcDetail (streamOf (core s c) st) st + 4096 * bit01 (core s c).half) (.core c) s := by
  simp [issue, hrun, hhead, fetchCheck]

/-- An illegal word at the head of a running core is illegal_instr, whatever row names it (R98). -/
theorem issue_of_illegal (hrun : coreRuns s c = true) (hhead : atHead s.now (streamOf (core s c) st) = true)
    (hword : iLegal (headWord (core s c) st) = false) :
    issue cls op c st .ok s = raise 5 c 4 1 (pcDetail (streamOf (core s c) st) st) (.core c) s := by
  simp [issue, hrun, hhead, hword, fetchCheck, raiseFail]

/-- A legal head that may not issue in this cycle waits. -/
theorem issue_of_waiting (hword : iLegal (headWord (core s c) st) = true)
    (hwait : mayIssue s c s.now st (headWord (core s c) st) = false) : issue cls op c st .ok s = s := by
  simp [issue, hword, hwait]

theorem notReady_of_late {u : Nat} (hrun : coreRuns s c = true)
    (hheld : heldByDeferral s c (iJob (headWord (core s c) st)) = false) (hlate : notReadyAt (core s c) st = some u) :
    notReady c st s = coreSlip c 5 (pcDetail (streamOf (core s c) st) st) 2 (passTo u s) := by
  simp [notReady, hlate, hrun, hheld]

end

/-- Settles O21: every row is an issue cycle, which says what it makes of each head that does not issue. -/
theorem headsFaultSlipOrWait : Obligations.HeadsFaultSlipOrWait := by
  intro k hrow dt c st s hc
  refine ⟨fun hrun hhead => ⟨fun l => ?uncorrectable, fun hword => ?illegal⟩, fun hword hwait => ?waiting,
    fun u hrun hheld hlate => ?late⟩
  case uncorrectable =>
    rw [exec_coreRow hrow hc, issue_of_uncorrectable (s := elapse dt s) hrun hhead]
    rfl
  case illegal =>
    rw [exec_coreRow hrow hc, issue_of_illegal (s := elapse dt s) hrun hhead hword]
    rfl
  case waiting => rw [exec_coreRow hrow hc, issue_of_waiting (s := elapse dt s) hword hwait]
  case late =>
    rw [exec_notReady c st s (unitsOk_core hc), notReady_of_late hrun hheld hlate]

end Sys2Proof.Machine

/-! # Core SRAM over its register (R109) -/

namespace Sys2Proof.Machine

open Sys2Proof

/-! ## Stored bytes -/

@[simp] theorem length_leBytes (n x : Nat) : (leBytes n x).length = n := by
  induction n generalizing x with
  | zero => rfl
  | succ n ih => rw [leBytes, List.length_cons, ih]

/-- Bytes that were stored are read back. -/
theorem memBytes_memPut_same {m : List (Nat × Byte)} (h : swf memZero m = true) (a : Nat) (l : List Byte) :
    memBytes (memPut m a l) a l.length = l := by
  induction l generalizing m a with
  | nil => rfl
  | cons b t ih =>
    have hb : sget memZero (memPut (sset memZero m a b) (a + 1) t) a = b := by
      rw [sget_memPut_other (swf_sset h) (by omega), sget_sset_same h]
    rw [memPut, List.length_cons, memBytes, hb, ih (swf_sset h)]

section
variable {s : State} {c : Nat}

/-- Keeping lines as they were changes nothing else. -/
theorem noteSram_eq (c : Nat) (ls : List Nat) (s : State) : ∃ m, noteSram c ls s = { s with mem := m } := by
  unfold noteSram
  split
  · exact ⟨_, rfl⟩
  · exact ⟨s.mem, rfl⟩

theorem sramDataRead_of_ok (h : sramDataOk s c = true) :
    sramDataRead c .ok s = (BitVec.ofNat 32 (leNat (memBytes s.sram (sramDataAddr s c) 4)), sramAdvance c s) :=
  if_pos h

theorem sramDataRead_of_refused (h : sramDataOk s c = false) (ecc : Ecc) :
    sramDataRead c ecc s = (0, raiseCe 5 c 12 0 s) :=
  if_neg (Bool.eq_false_iff.mp h)

theorem sramDataWrite_of_ok (h : sramDataOk s c = true) (v : Word) :
    ∃ m, sramDataWrite c v s =
      sramAdvance c { s with mem := m, sram := memPut s.sram (sramDataAddr s c) (leBytes 4 v.toNat) } := by
  obtain ⟨m, hm⟩ := noteSram_eq c [sramDataAddr s c / 64 % 2 ^ 13] s
  exact ⟨m, by rw [sramDataWrite, if_pos h, hm]; rfl⟩

theorem sramDataWrite_of_refused (h : sramDataOk s c = false) (v : Word) :
    sramDataWrite c v s = raiseCe 5 c 12 0 s :=
  if_neg (Bool.eq_false_iff.mp h)

end

/-- Settles O25: a word that is stored reads back, and nothing but it and the address changes. -/
theorem coreSramDataIsAccessed : Obligations.CoreSramDataIsAccessed := by
  intro src c v s hfit hs
  have hread := exec_coreSramDataRead src c .ok s hfit
  have hwrite := exec_coreSramDataWrite src c v s hfit
  refine ⟨fun hok => ?granted, fun hok => ?refused, fun hoff => ?off⟩
  case granted =>
    rw [sramDataRead_of_ok hok] at hread ⊢
    refine ⟨rfl, hread, fun hoff => ?_⟩
    obtain ⟨m, hm⟩ := sramDataWrite_of_ok hok v
    rw [hoff, if_neg Bool.false_ne_true, hm] at hwrite
    refine ⟨_, hwrite, ?_, rget_rset (s := { s with mem := m, sram := _ }) hs.regs _ _, fun a ha => ?_, rfl, rfl⟩
    · have hstored := memBytes_memPut_same hs.sram (sramDataAddr s c) (leBytes 4 v.toNat)
      rwa [length_leBytes] at hstored
    · exact sget_memPut_other hs.sram (by rw [length_leBytes]; omega)
  case refused =>
    rw [sramDataRead_of_refused hok] at hread ⊢
    refine ⟨rfl, hread, fun hoff => ?_⟩
    rw [hwrite, hoff, if_neg Bool.false_ne_true, sramDataWrite_of_refused hok]
  case off => rw [hwrite, hoff, if_pos rfl]

end Sys2Proof.Machine

/-! # What the units of a core leave in core SRAM and in the valid bits -/

namespace Sys2Proof.Machine

open Sys2Proof

/-! ## Sparse storage in any form -/

section
variable {α : Type} [DecidableEq α] {dflt : Nat → α} {l : List (Nat × α)} {k j : Nat} {v : α}

/-- A value that is not the default, once stored, leaves every other key of any list. -/
theorem sget_sset_nondefault_other (hv : v ≠ dflt k) (hj : j ≠ k) : sget dflt (sset dflt l k v) j = sget dflt l j := by
  induction l with
  | nil => simp [sset, sconsNonDefault, hv, sget, hj]
  | cons e t ih =>
    obtain ⟨k', v'⟩ := e
    unfold sset
    split
    · next hk =>
      subst hk
      simp [sconsNonDefault, hv, sget, hj]
    · split
      · next hlt =>
        simp only [sconsNonDefault, hv, if_false, sget, if_neg hj]
        split_ifs <;> first | rfl | omega
      · simp only [sget, ih]

/-- A key of any list that reads as another value than its default keeps it whatever is stored elsewhere. -/
theorem sget_sset_of_nondefault (h : sget dflt l j ≠ dflt j) (hj : j ≠ k) :
    sget dflt (sset dflt l k v) j = sget dflt l j := by
  induction l with
  | nil => exact absurd rfl h
  | cons e t ih =>
    obtain ⟨k', v'⟩ := e
    by_cases hlt : j < k'
    · exact absurd (by rw [sget, if_neg (by omega), if_pos hlt]) h
    unfold sset sconsNonDefault
    split
    · next hk =>
      have htail : sget dflt ((k', v') :: t) j = sget dflt t j := by rw [sget, if_neg (hk ▸ hj), if_neg hlt]
      split
      · exact htail.symm
      · rw [htail, sget, if_neg hj, if_neg (hk ▸ hlt)]
    · split
      · next hbelow =>
        split
        · rfl
        · rw [sget, if_neg hj, if_neg (by omega)]
      · by_cases hjk : j = k'
        · simp only [sget, if_pos hjk]
        · simp only [sget, if_neg hjk, if_neg hlt] at h ⊢
          exact ih h

end
/-! ## Valid bits at the end of an instruction (R93) -/

section
variable {x : Core} {t d tag : Nat}

/-- The valid bit of a tag is set, by a set of cycle t. -/
def SetIn (t d : Nat) (x : Core) : Prop :=
  x.valid.getLsbD d = true ∧ (sget (fun _ => TagTime.zero) x.tagAt d).setAt = t + 1

theorem SetIn.tagAt_ne_zero (h : SetIn t d x) : sget (fun _ => TagTime.zero) x.tagAt d ≠ TagTime.zero := fun hzero => by
  have hset := h.2
  rw [hzero] at hset
  exact Nat.succ_ne_zero t hset.symm

theorem getLsbD_tagBit (tag d : Nat) :
    (BitVec.ofNat 512 (2 ^ tag)).getLsbD d = (decide (d < 512) && decide (tag = d)) := by
  rw [BitVec.getLsbD_ofNat, Nat.testBit_two_pow]

theorem setIn_setTag (hd : d < 512) (x : Core) : SetIn t d (setTag t d x) := by
  constructor
  · rw [valid_setTag, BitVec.getLsbD_or, getLsbD_tagBit]
    simp [hd]
  · rw [setTag, sget_sset_nondefault (fun h => Nat.succ_ne_zero t (congrArg TagTime.setAt h))]

/-- A set of another tag leaves a tag set. -/
theorem SetIn.setTag_other (h : SetIn t d x) (htag : tag ≠ d) : SetIn t d (setTag t tag x) := by
  constructor
  · rw [valid_setTag, BitVec.getLsbD_or, h.1, Bool.true_or]
  · rw [setTag, sget_sset_of_nondefault h.tagAt_ne_zero htag.symm]
    exact h.2

/-- A clear of the same cycle leaves a tag that was set in it (R93). -/
theorem SetIn.clearTag (h : SetIn t d x) (tag : Nat) : SetIn t d (clearTag t tag x) := by
  by_cases htag : (sget (fun _ => TagTime.zero) x.tagAt tag).setAt = t + 1
  · rwa [clearTag_of_set htag]
  · have hne : tag ≠ d := fun heq => htag (heq ▸ h.2)
    constructor
    · have hd : d < 512 := BitVec.lt_of_getLsbD h.1
      rw [valid_clearTag htag, BitVec.getLsbD_and, BitVec.getLsbD_not, getLsbD_tagBit, h.1]
      simp [hd, hne]
    · rw [Machine.clearTag, if_neg htag, sget_sset_of_nondefault h.tagAt_ne_zero hne.symm]
      exact h.2

theorem SetIn.setTags (h : SetIn t d x) (tags : List Nat) : SetIn t d (setTags t tags x) := by
  induction tags generalizing x with
  | nil => exact h
  | cons tag tags ih =>
    refine ih ?_
    by_cases htag : tag = d
    · rw [htag]
      exact setIn_setTag (BitVec.lt_of_getLsbD h.1) x
    · exact h.setTag_other htag

theorem SetIn.clearTags (h : SetIn t d x) (tags : List Nat) : SetIn t d (clearTags t tags x) := by
  induction tags generalizing x with
  | nil => exact h
  | cons tag tags ih => exact ih (h.clearTag tag)

theorem setIn_setTags {tags : List Nat} (hmem : d ∈ tags) (hd : d < 512) (x : Core) : SetIn t d (setTags t tags x) := by
  induction tags generalizing x with
  | nil => cases hmem
  | cons tag tags ih =>
    rcases List.mem_cons.mp hmem with rfl | hmem
    · exact (setIn_setTag hd x).setTags tags
    · exact ih hmem _

/-- An instruction that ends sets the valid bits of what it wrote, whichever tags it releases in the same cycle. -/
theorem valid_retireSlots_clearTags {tags releases : List Nat} (hmem : d ∈ tags) (hd : d < 512) (x : Core) :
    (retireSlots (clearTags t releases (setTags t tags x))).valid.getLsbD d = true :=
  ((setIn_setTags hmem hd x).clearTags releases).1

/-- Valid bits and their times apart, setting tags changes nothing of a core. -/
theorem setTags_eq (t : Nat) (tags : List Nat) (x : Core) : ∃ v a, setTags t tags x = { x with valid := v, tagAt := a } := by
  induction tags generalizing x with
  | nil => exact ⟨_, _, rfl⟩
  | cons tag tags ih => exact ih _

/-- Nor does clearing them. -/
theorem clearTags_eq (t : Nat) (tags : List Nat) (x : Core) : ∃ v a, clearTags t tags x = { x with valid := v, tagAt := a } := by
  induction tags generalizing x with
  | nil => exact ⟨_, _, rfl⟩
  | cons tag tags ih =>
    rw [clearTags, clearTag]
    split
    · exact ih x
    · exact ih _

end

/-! ## Reports and counters -/

section
variable {s u : State} {c : Nat}

theorem Fld.same.trans {f : Fld} {v : State} (h : f.same s u) (g : f.same u v) : f.same s v := by
  cases f <;> exact Eq.trans g h

/-- A report leaves every piece of state but the registers and the coalescer with the event log. -/
theorem SameButReports.same (h : SameButReports s u) {f : Fld} (hregs : f ≠ .regs) (hfaults : f ≠ .faults) : f.same s u := by
  rw [h]
  cases f
  case regs => exact absurd rfl hregs
  case faults => exact absurd rfl hfaults
  all_goals rfl

theorem countBanks_same (c : Nat) (b : BankRun) (s : State) : SameButReports s (countBanks c b s) :=
  (bump48_same ..).trans (bump48_same ..)

/-- The checks of lines none of which is withheld only report. -/
theorem sramChecks_same {eccs : List Ecc} (h : anyWithheld eccs = false) (s : State) : SameButReports s (sramChecks c eccs s) := by
  induction eccs generalizing s with
  | nil => rfl
  | cons ecc eccs ih =>
    simp only [anyWithheld, List.any_cons, Bool.or_eq_false_iff] at h
    have hcheck : SameButReports s (sramCheck c ecc s) := by
      cases ecc with
      | ok => rfl
      | corrected l => exact raiseCe_same ..
      | uncorrectable l => cases h.1
    exact hcheck.trans (ih h.2 _)

end

/-! ## Elements written (R87, R135) -/

section
variable {s u : State} {c w a v b : Nat} {d : Dword}

theorem putBits_sram_congr (h : u.sram = s.sram) : (putBits c a w v u).sram = (putBits c a w v s).sram := by
  simp only [putBits, h]

/-- Bits that are stored change no byte but those that hold them. -/
theorem sget_putBits_other (hs : swf memZero s.sram = true)
    (hb : ¬ (2 ^ 19 * c + a / 8 ≤ b ∧ b < 2 ^ 19 * c + a / 8 + ceilDiv w 8)) :
    sget memZero (putBits c a w v s).sram b = sget memZero s.sram b :=
  sget_memPut_other hs (by rw [length_leBytes]; omega)

theorem swf_putBits (hs : swf memZero s.sram = true) : swf memZero (putBits c a w v s).sram = true := swf_memPut hs

theorem countElem_sram (slot : Option Nat) (e : ElemOut) (s : State) : (countElem slot e s).sram = s.sram :=
  keep_countElem (closed_same .sram s) (by decide) rfl

/-- One element of a tile: stored, and counted where it is monitored. -/
def writeElem (c : Nat) (d : Dword) (counted : Bool) (e : ElemOut) (s : State) : State :=
  let u := putBits c (elemBit d (fmtWidth (dFmt d)) e.idx) (fmtWidth (dFmt d)) e.bits s
  if counted then countElem (monSlot d) e u else u

theorem writeElems_cons (counted : Bool) (e : ElemOut) (l : List ElemOut) (s : State) :
    writeElems c d counted (e :: l) s = writeElems c d counted l (writeElem c d counted e s) := rfl

theorem writeElem_sram (counted : Bool) (e : ElemOut) (s : State) : (writeElem c d counted e s).sram =
    (putBits c (elemBit d (fmtWidth (dFmt d)) e.idx) (fmtWidth (dFmt d)) e.bits s).sram := by
  unfold writeElem
  split
  · exact countElem_sram ..
  · rfl

/-- What elements leave in core SRAM depends on core SRAM only. -/
theorem writeElems_sram_congr {counted : Bool} {l : List ElemOut} (h : u.sram = s.sram) :
    (writeElems c d counted l u).sram = (writeElems c d counted l s).sram := by
  induction l generalizing s u with
  | nil => exact h
  | cons e l ih =>
    rw [writeElems_cons, writeElems_cons]
    exact ih (by rw [writeElem_sram, writeElem_sram, putBits_sram_congr h])

theorem swf_writeElems {counted : Bool} {l : List ElemOut} (hs : swf memZero s.sram = true) :
    swf memZero (writeElems c d counted l s).sram = true := by
  induction l generalizing s with
  | nil => exact hs
  | cons e l ih => exact ih (by rw [← writeElem, writeElem_sram]; exact swf_putBits hs)

/-- A byte that holds no element written is left as it was. -/
theorem sget_writeElems_other {counted : Bool} {l : List ElemOut} (hs : swf memZero s.sram = true)
    (hb : ∀ e ∈ l, ∀ k, k = 2 ^ 19 * c + elemBit d (fmtWidth (dFmt d)) e.idx / 8 →
      ¬ (k ≤ b ∧ b < k + ceilDiv (fmtWidth (dFmt d)) 8)) :
    sget memZero (writeElems c d counted l s).sram b = sget memZero s.sram b := by
  induction l generalizing s with
  | nil => rfl
  | cons e l ih =>
    obtain ⟨he, hl⟩ := List.forall_mem_cons.mp hb
    have hwrite : swf memZero (writeElem c d counted e s).sram = true := by
      rw [writeElem_sram]
      exact swf_putBits hs
    rw [writeElems_cons, ih hwrite hl, writeElem_sram, sget_putBits_other hs (he _ rfl)]

/-- What tiles leave in core SRAM depends on core SRAM only. -/
theorem writeTiles_sram_congr {l : List TileOut} (h : u.sram = s.sram) :
    (writeTiles c l u).sram = (writeTiles c l s).sram := by
  induction l generalizing s u with
  | nil => exact h
  | cons o l ih => exact ih (writeElems_sram_congr h)

theorem sget_writeTiles_other {l : List TileOut} (hs : swf memZero s.sram = true)
    (hb : ∀ o ∈ l, ∀ e ∈ o.elems, ∀ k, k = 2 ^ 19 * c + elemBit o.desc (fmtWidth (dFmt o.desc)) e.idx / 8 →
      ¬ (k ≤ b ∧ b < k + ceilDiv (fmtWidth (dFmt o.desc)) 8)) :
    sget memZero (writeTiles c l s).sram b = sget memZero s.sram b := by
  induction l generalizing s with
  | nil => rfl
  | cons o l ih =>
    obtain ⟨ho, hl⟩ := List.forall_mem_cons.mp hb
    exact (ih (swf_writeElems hs) hl).trans (sget_writeElems_other hs ho)

/-- What counting the banks at the end of an instruction, keeping lines, writing core SRAM and charging can change. -/
def endFields : List Fld := [.now, .regs, .sram, .faults, .live, .mem, .energy]

/-- Counting what the banks made of an instruction changes no other piece of state. -/
theorem countBanks_passTo_same {f : Fld} (hf : f ∉ endFields) (c : Nat) (b : BankRun) (t : Nat) (s : State) :
    f.same s (countBanks c b (passTo t s)) := by
  simp only [endFields, List.mem_cons, List.not_mem_nil, or_false, not_or] at hf
  obtain ⟨hnow, hregs, -, hfaults, -⟩ := hf
  have hpass : f.same s (passTo t s) := (closed_same f s).passTo (Ne.symm hnow) (by cases f <;> rfl)
  exact hpass.trans ((countBanks_same c b _).same hregs hfaults)

theorem countBanks_passTo_now (c : Nat) (b : BankRun) (t : Nat) (s : State) :
    (countBanks c b (passTo t s)).now = max s.now t :=
  (countBanks_same c b (passTo t s)).same (f := .now) (by decide) (by decide)

theorem countBanks_passTo_sram (c : Nat) (b : BankRun) (t : Nat) (s : State) :
    (countBanks c b (passTo t s)).sram = s.sram :=
  (countBanks_same c b (passTo t s)).same (f := .sram) (by decide) (by decide)

theorem noteTiles_sram (c : Nat) (ds : List Dword) (s : State) : (noteTiles c ds s).sram = s.sram :=
  keep_noteTiles (closed_same .sram s) (by decide) rfl

end

end Sys2Proof.Machine

/-! # The vector unit (R100) -/

namespace Sys2Proof.Machine

open Sys2Proof

section
variable {s : State} {x : Core} {c : Nat}

/-- VEC_BEGIN of a head whose unit is free and whose moments are seen. -/
theorem vecBegin_of_free {o : QOp} {rest : List QOp} (hhead : (core s c).vecQ = o :: rest) (hhalted : coreHalted s c = false)
    (hfree : max (o.issuedAt + 1) (core s c).vecFree ≤ s.now) (hseen : (ucallNeeds o).all (tagSeen (core s c) s.now) = true)
    (eccs : List Ecc) :
    vecBegin c eccs s = sramChecks c eccs (setCore c { core s c with
      vecQ := rest, vecFree := s.now + vecOccupancy o,
      vecs := (core s c).vecs ++ [⟨o, s.now + vecOccupancy o - 1 + vecLatency o.word,
        if anyWithheld eccs then [] else vecOuts (coreSees s) c o, anyWithheld eccs⟩] } s) := by
  simp [vecBegin, hhead, hhalted, Nat.not_lt.mpr hfree, hseen]

/-- What the end of a vector instruction in cycle t leaves of its core. -/
def vecEnded (t : Nat) (r : VecRun) (x : Core) : Core :=
  retireSlots (clearTags t (vecReleases r.op.word)
    (setTags t (r.outs.map (·.tag)) { noteRing t x with vecs := eraseFirst (fun q => q == r) x.vecs }))

theorem vecEnded_vecs (t : Nat) (r : VecRun) (x : Core) : (vecEnded t r x).vecs = eraseFirst (fun q => q == r) x.vecs := by
  obtain ⟨v, a, hset⟩ := setTags_eq t (r.outs.map (·.tag)) { noteRing t x with vecs := eraseFirst (fun q => q == r) x.vecs }
  rw [vecEnded, hset]
  obtain ⟨v', a', hclear⟩ := clearTags_eq t (vecReleases r.op.word)
    { { noteRing t x with vecs := eraseFirst (fun q => q == r) x.vecs } with valid := v, tagAt := a }
  rw [hclear]
  rfl

theorem vecEnded_valid {t : Nat} {r : VecRun} {o : TileOut} (ho : o ∈ r.outs) (htag : o.tag < 512) (x : Core) :
    (vecEnded t r x).valid.getLsbD o.tag = true :=
  valid_retireSlots_clearTags (List.mem_map_of_mem ho) htag _

/-- VEC_COMPLETE ends the run that is due next: its results are written, and else only reports, counts and charges change. -/
theorem vecComplete_of_next {r : VecRun} (hnext : nextVec (core s c).vecs = some r) (hreset : coreInReset s c = false)
    (b : BankEvents) : ∃ u, vecComplete c b s = modCore c (vecEnded (r.due + (bankCount userOfVec b).retries) r) u ∧
      u.now = max s.now (r.due + (bankCount userOfVec b).retries) ∧ u.sram = (writeTiles c r.outs s).sram ∧
      ∀ f : Fld, f ∉ endFields → f.same s u := by
  have hcompletes : vecComplete c b s = modCore c (vecEnded (r.due + (bankCount userOfVec b).retries) r)
      (charge (iJob r.op.word) 3 (vecLanes r.op) (charge (iJob r.op.word) 4 (vecAccesses r.op)
        (writeTiles c r.outs (noteTiles c (r.outs.map (·.desc))
          (countBanks c (bankCount userOfVec b) (passTo (r.due + (bankCount userOfVec b).retries) s)))))) := by
    simp only [vecComplete, hnext, hreset, Bool.false_eq_true, if_false]
    rfl
  refine ⟨_, hcompletes, ?_, ?_, fun f hf => ?_⟩
  · rw [← countBanks_passTo_now c (bankCount userOfVec b)]
    have C := closed_same .now (countBanks c (bankCount userOfVec b) (passTo (r.due + (bankCount userOfVec b).retries) s))
    exact keep_writeTiles C (by decide) (by decide) (keep_noteTiles C (by decide) rfl)
  · exact writeTiles_sram_congr ((noteTiles_sram ..).trans (countBanks_passTo_sram ..))
  · have C := closed_same f s
    have hcounted := countBanks_passTo_same hf c (bankCount userOfVec b) (r.due + (bankCount userOfVec b).retries) s
    simp only [endFields, List.mem_cons, List.not_mem_nil, or_false, not_or] at hf
    obtain ⟨-, -, hsram, -, hlive, hmem, henergy⟩ := hf
    exact keep_charge C (Ne.symm henergy) (keep_charge C (Ne.symm henergy)
      (keep_writeTiles C (Ne.symm hsram) (Ne.symm hlive) (keep_noteTiles C (Ne.symm hmem) hcounted)))

end

/-- Settles O27: both commands by the law of their function; the bytes that a completion leaves are those of no element. -/
theorem vectorInstructionsRun : Obligations.VectorInstructionsRun := by
  refine ⟨?begins, ?completes⟩
  case begins =>
    rintro dt c eccs o rest s _ hc rfl hhead hhalted hfree hseen
    rw [exec_vecBegin dt c eccs s (unitsOk_core hc),
      vecBegin_of_free (s := elapse dt s) hhead hhalted hfree hseen]
    rfl
  case completes =>
    intro c b r s hc hs hnext hreset
    obtain ⟨u, hu, hnow, hsram, hsame⟩ := vecComplete_of_next hnext hreset b
    have hcores : u.cores = s.cores := hsame .cores (by decide)
    have hended : core (vecComplete c b s) c = vecEnded (r.due + (bankCount userOfVec b).retries) r (core s c) := by
      rw [hu, modCore, core_setCore (hcores ▸ hs.cores), core, hcores, core]
    refine ⟨_, exec_vecComplete c b s (unitsOk_core hc), ?_, ?_, ?_, ?_, ?_, ?_, ?_⟩
    · rw [hended, vecEnded_vecs]
    · rw [hu]
      exact hnow
    · rw [hu]
      exact hsram
    · intro o ho htag
      rw [hended, vecEnded_valid ho htag]
    · intro a ha
      rw [hu, modCore_sram, hsram]
      exact sget_writeTiles_other hs.sram ha
    · rw [hu]
      exact hsame .hub (by decide)
    · rw [hu]
      exact hsame .hbm (by decide)

end Sys2Proof.Machine

/-! # The matrix array: begin and completion (R115 to R126) -/

namespace Sys2Proof.Machine

open Sys2Proof

section
variable {s u : State} {c : Nat}

/-- MMA_BEGIN of a head whose cycle has come. -/
theorem mmaBegin_of_head {o : QOp} {rest : List QOp} {b lB : Nat} (hhead : (core s c).arrayQ = o :: rest)
    (hidle : (core s c).array = none) (hhalted : coreHalted s c = false)
    (hb : b = max (o.issuedAt + 1) ((core s c).arrayLast.2 + 1)) (hdue : b ≤ s.now)
    (hlB : lB = if (core s c).arrayLast.2 + 1 = b ∧ o.issuedAt ≤ (core s c).arrayLast.1 ∧ (core s c).arrayLast.1 ≠ 0 then 0
      else fillCycles (mmaCtx c o)) (eccs : List Ecc) :
    mmaBegin c eccs s =
      if anyWithheld eccs then
        sramChecks c eccs (setCore c
          { core s c with arrayQ := rest, array := some { mmaRun (mmaCtx c o) o b lB with stopped := true } } s)
      else
        sramChecks c eccs (setCore c
          { feedSteps (coreSees s) (mmaCtx c o) o.mask (List.range (mmaSteps o.word))
              (if mmaAcc o.word then core s c else { core s c with acc := [], accSat := [] }) with
            arrayQ := rest, array := some (mmaRun (mmaCtx c o) o b lB) } s) := by
  have hnow : ¬ s.now < b := Nat.not_lt.mpr hdue
  simp only [mmaBegin, hhead, hidle, hhalted, ← hb, hnow, Option.isSome_none, Bool.or_self, decide_false, Bool.false_eq_true,
    if_false, ← Bool.decide_and, decide_eq_true_eq, and_assoc, ← hlB]

/-- What the end of an MMA in cycle t, with its last K step begun in cycle `last`, leaves of its core. -/
def mmaEnded (last t : Nat) (o : QOp) (x : Core) : Core :=
  retireSlots (clearTags t (mmaReleases o.word) (setTags t (if mmaFin o.word then [mmaDst o.word] else [])
    { noteRing t x with array := none, arrayLast := (last, t) }))

theorem mmaEnded_array (last t : Nat) (o : QOp) (x : Core) : (mmaEnded last t o x).array = none := by
  obtain ⟨v, a, hset⟩ := setTags_eq t (if mmaFin o.word then [mmaDst o.word] else [])
    { noteRing t x with array := none, arrayLast := (last, t) }
  rw [mmaEnded, hset]
  obtain ⟨v', a', hclear⟩ := clearTags_eq t (mmaReleases o.word)
    { { noteRing t x with array := none, arrayLast := (last, t) } with valid := v, tagAt := a }
  rw [hclear]
  rfl

theorem mmaDst_lt (w : Dword) : mmaDst w < 512 := by
  unfold mmaDst wbits bitsOf
  omega

theorem mmaEnded_valid {o : QOp} (hfin : mmaFin o.word = true) (last t : Nat) (x : Core) :
    (mmaEnded last t o x).valid.getLsbD (mmaDst o.word) = true :=
  valid_retireSlots_clearTags (by simp [hfin]) (mmaDst_lt _) _

/-- An output is taken from the accumulator, with the random draws of its stream. -/
theorem mmaOut_congr (hrng : u.rng = s.rng) (hbase : u.jobBase = s.jobBase) (o : QOp) (x : Core) (isInt : Bool) :
    mmaOut u c o x isInt = mmaOut s c o x isInt := by
  funext p
  simp only [mmaOut, rndOf, rngOf, hrng, hbase]

/-- The outputs of an MMA as its dst takes them. -/
def mmaOuts (s : State) (c : Nat) (o : QOp) : List ElemOut :=
  (fedOutputs (mmaCtx c o).code o.mask).map (mmaOut s c o (core s c) (fmtInt (dFmt (mmaCtx c o).db)))

/-- What the banks made of the requests of the MMA of a core. -/
def arrayBanks (s : State) (c : Nat) (r : MmaRun) (b : BankEvents) : BankRun :=
  mmaBanks (mmaCtx c r.op) r.op r
    (((core s c).arrayQ.find? fun n => decide (n.issuedAt ≤ r.lastStep)).map (mmaCtx c)) b

/-- The state once the results of an MMA are in dst, if fin is set. -/
def mmaWritten (c : Nat) (o : QOp) (outs : List ElemOut) (s : State) : State :=
  if mmaFin o.word then
    writeElems c (opDesc o (mmaDst o.word)) true outs (noteTiles c [opDesc o (mmaDst o.word)] s)
  else s

theorem mmaWritten_same {f : Fld} (hsram : f ≠ .sram) (hlive : f ≠ .live) (hmem : f ≠ .mem) (h : f.same s u) (o : QOp)
    (outs : List ElemOut) : f.same s (mmaWritten c o outs u) := by
  have C := closed_same f s
  unfold mmaWritten
  split
  · exact keep_writeElems C hsram.symm hlive.symm (keep_noteTiles C hmem.symm h)
  · exact h

theorem mmaWritten_sram (h : u.sram = s.sram) (o : QOp) (outs : List ElemOut) : (mmaWritten c o outs u).sram =
    if mmaFin o.word then (writeElems c (opDesc o (mmaDst o.word)) true outs s).sram else s.sram := by
  unfold mmaWritten
  split
  · exact writeElems_sram_congr ((noteTiles_sram ..).trans h)
  · exact h

/-- MMA_COMPLETE ends the run: its outputs are written where fin is set, and else only reports, counts and charges change. -/
theorem mmaComplete_of_running {r : MmaRun} (hrun : (core s c).array = some r) (hgoes : r.stopped = false)
    (hreset : coreInReset s c = false) (b : BankEvents) :
    ∃ u, mmaComplete c b s = modCore c (mmaEnded (arrayBanks s c r b).lastStep (mmaDone r.op r (arrayBanks s c r b)) r.op) u ∧
      u.now = max s.now (mmaDone r.op r (arrayBanks s c r b)) ∧
      u.sram = (if mmaFin r.op.word then (writeElems c (opDesc r.op (mmaDst r.op.word)) true (mmaOuts s c r.op) s).sram
        else s.sram) ∧
      ∀ f : Fld, f ∉ endFields → f.same s u := by
  have hcounted {f : Fld} (hf : f ∉ endFields) :=
    countBanks_passTo_same hf c (arrayBanks s c r b) (mmaDone r.op r (arrayBanks s c r b)) s
  have houts : (fedOutputs (mmaCtx c r.op).code r.op.mask).map
      (mmaOut (countBanks c (arrayBanks s c r b) (passTo (mmaDone r.op r (arrayBanks s c r b)) s)) c r.op (core s c)
        (fmtInt (dFmt (mmaCtx c r.op).db))) = mmaOuts s c r.op := by
    rw [mmaOuts, mmaOut_congr (hcounted (f := .rng) (by decide)) (hcounted (f := .jobBase) (by decide))]
  have hcompletes : mmaComplete c b s = modCore c
      (mmaEnded (arrayBanks s c r b).lastStep (mmaDone r.op r (arrayBanks s c r b)) r.op)
      (charge (iJob r.op.word) 4 (mmaAccesses (mmaCtx c r.op) r.op)
        (charge (iJob r.op.word) (mmaUpdates (mmaCtx c r.op) r.op).2 (mmaUpdates (mmaCtx c r.op) r.op).1
          (mmaWritten c r.op (mmaOuts s c r.op)
            (countBanks c (arrayBanks s c r b) (passTo (mmaDone r.op r (arrayBanks s c r b)) s))))) := by
    rw [← houts]
    simp only [mmaComplete, hrun, hgoes, hreset, Bool.or_self, Bool.false_eq_true, if_false]
    rfl
  refine ⟨_, hcompletes, ?_, ?_, fun f hf => ?_⟩
  · rw [← countBanks_passTo_now c (arrayBanks s c r b)]
    exact mmaWritten_same (f := .now) (by decide) (by decide) (by decide) rfl _ _
  · exact mmaWritten_sram (countBanks_passTo_sram ..) _ _
  · have hbanks := hcounted hf
    simp only [endFields, List.mem_cons, List.not_mem_nil, or_false, not_or] at hf
    obtain ⟨-, -, hsram, -, hlive, hmem, henergy⟩ := hf
    have C := closed_same f s
    exact keep_charge C (Ne.symm henergy) (keep_charge C (Ne.symm henergy) (mmaWritten_same hsram hlive hmem hbanks _ _))

end

end Sys2Proof.Machine

/-! # What an MMA accumulates (R113 to R115, R120, R143) -/

namespace Sys2Proof.Machine

open Sys2Proof

/-! ## Rows and slots of a shape (Tables 4.1, 4.2) -/

/-- The six shapes of Table 4.2. -/
def shapes : List Shape := (List.range 6).map shapeOf

theorem shapeOf_mem_shapes (code : Nat) : shapeOf code ∈ shapes :=
  match code with
  | 0 | 1 | 2 | 3 | 4 => by decide
  | n + 5 => show shapeOf 5 ∈ shapes by decide

theorem k_pos_of_shape : ∀ h ∈ shapes, 0 < h.k := by decide

section
variable {h : Shape}

/-- Two rows of S share no entry of the row registers. -/
theorem rowKeys_disjoint (hh : h ∈ shapes) {q m q' m' e : Nat} (hq : q < h.problems) (hm : m < h.m) (hq' : q' < h.problems)
    (hm' : m' < h.m) (he : e ∈ rowKeys h q m) (he' : e ∈ rowKeys h q' m') : (q, m) = (q', m') := by
  rw [Prod.mk.injEq]
  fin_cases hh <;> simp [shapeOf, rowKeys, physRows] at * <;> omega

theorem headD_mem_rowKeys (hh : h ∈ shapes) (q m : Nat) : (rowKeys h q m).headD 0 ∈ rowKeys h q m := by
  fin_cases hh <;> simp [shapeOf, rowKeys, physRows, List.range_succ_eq_map]

/-- Two outputs of a shape lie in different slots. -/
theorem accKey_injective (hh : h ∈ shapes) {q m n q' m' n' : Nat} (hq : q < h.problems) (hm : m < h.m) (hn : n < h.n)
    (hq' : q' < h.problems) (hm' : m' < h.m) (hn' : n' < h.n) (heq : accKey h q m n = accKey h q' m' n') :
    (q, m, n) = (q', m', n') := by
  rw [Prod.mk.injEq, Prod.mk.injEq]
  fin_cases hh <;> simp [shapeOf, accKey, physCell] at * <;> omega

end

/-- The rows of S are those of each problem. -/
theorem mmaRows_eq_product (h : Shape) : mmaRows h = List.range h.problems ×ˢ List.range h.m := rfl

theorem mem_mmaRows {h : Shape} {p : Nat × Nat} : p ∈ mmaRows h ↔ p.1 < h.problems ∧ p.2 < h.m := by
  obtain ⟨q, m⟩ := p
  simp [mmaRows_eq_product]

/-- The outputs fed are those of each problem, each unmasked row and each column. -/
theorem fedOutputs_eq_product (code : Nat) (mask : BitVec 16) : fedOutputs code mask =
    List.range (shapeOf code).problems ×ˢ
      (((List.range (shapeOf code).m).filter fun m => mask.getLsbD (maskBit code m)) ×ˢ List.range (shapeOf code).n) := by
  simp only [fedOutputs, SProd.sprod, List.product, List.map_flatMap, List.map_map]
  rfl

theorem mem_fedOutputs {code : Nat} {mask : BitVec 16} {p : Nat × Nat × Nat} : p ∈ fedOutputs code mask ↔
    p.1 < (shapeOf code).problems ∧ (p.2.1 < (shapeOf code).m ∧ mask.getLsbD (maskBit code p.2.1) = true) ∧
      p.2.2 < (shapeOf code).n := by
  obtain ⟨q, m, n⟩ := p
  simp [fedOutputs_eq_product]

/-- No two outputs that are fed share a slot. -/
theorem nodup_accKeys (code : Nat) (mask : BitVec 16) :
    ((fedOutputs code mask).map fun p => accKey (shapeOf code) p.1 p.2.1 p.2.2).Nodup := by
  refine List.Nodup.map_on (fun p hp p' hp' heq => ?_) ?_
  · obtain ⟨hq, ⟨hm, -⟩, hn⟩ := mem_fedOutputs.mp hp
    obtain ⟨hq', ⟨hm', -⟩, hn'⟩ := mem_fedOutputs.mp hp'
    exact accKey_injective (shapeOf_mem_shapes code) hq hm hn hq' hm' hn' heq
  · rw [fedOutputs_eq_product]
    exact List.nodup_range.product ((List.nodup_range.filter _).product List.nodup_range)

/-! ## The stationary registers -/

theorem sget_putRow {v : List Nat} (hv : v ≠ []) (keys : List Nat) (r : List (Nat × List Nat)) (e : Nat) :
    sget (fun _ => []) (putRow v keys r) e = if e ∈ keys then v else sget (fun _ => []) r e := by
  induction keys generalizing r with
  | nil => rfl
  | cons k keys ih =>
    rw [putRow, ih]
    by_cases hek : e = k
    · rw [hek, sget_sset_nondefault hv]
      simp
    · rw [sget_sset_nondefault_other hv hek]
      simp [hek]

/-- Some rows put into their register entries, one after another. -/
def putRows (h : Shape) (val : Nat × Nat → List Nat) (rows : List (Nat × Nat)) (r : List (Nat × List Nat)) :
    List (Nat × List Nat) :=
  rows.foldl (fun r p => putRow (val p) (rowKeys h p.1 p.2) r) r

/-- An entry of a row holds that row once it has been put, for no other row has the entry. -/
theorem sget_putRows {h : Shape} {val : Nat × Nat → List Nat} {rows : List (Nat × Nat)} {p : Nat × Nat} {e : Nat}
    (hval : ∀ p' ∈ rows, val p' ≠ []) (he : e ∈ rowKeys h p.1 p.2) (hdisj : ∀ p' ∈ rows, e ∈ rowKeys h p'.1 p'.2 → p' = p)
    {r : List (Nat × List Nat)} (hp : p ∈ rows ∨ sget (fun _ => []) r e = val p) :
    sget (fun _ => []) (putRows h val rows r) e = val p := by
  induction rows generalizing r with
  | nil => exact hp.resolve_left (List.not_mem_nil)
  | cons p' rows ih =>
    obtain ⟨hv, hval⟩ := List.forall_mem_cons.mp hval
    obtain ⟨hd, hdisj⟩ := List.forall_mem_cons.mp hdisj
    refine ih hval hdisj ?_
    rw [sget_putRow hv]
    by_cases hp' : p' = p
    · right
      rw [hp', if_pos he]
    · rw [if_neg fun h => hp' (hd h)]
      exact hp.imp_left fun h => (List.mem_cons.mp h).resolve_left (Ne.symm hp')

/-- A row of S within a K step, as the stationary port reads it. -/
def stationaryRow (u : State) (k : MmaCtx) (step : Nat) (p : Nat × Nat) : List Nat :=
  (List.range k.shape.k).map (mmaS u k p.1 step p.2)

/-- A row of S as the staging registers hold it. -/
def stagedRow (k : MmaCtx) (r : List (Nat × List Nat)) (p : Nat × Nat) : List Nat :=
  sget (fun _ => []) r ((rowKeys k.shape p.1 p.2).headD 0)

/-- The row of S takes part in the broadcast (R126). -/
def rowFed (k : MmaCtx) (mask : BitVec 16) (p : Nat × Nat) : Bool := mask.getLsbD (maskBit k.code p.2)

theorem fillStaging_eq (u : State) (k : MmaCtx) (step : Nat) (rows : List (Nat × Nat)) (x : Core) :
    fillStaging u k step rows x = { x with staging := putRows k.shape (stationaryRow u k step) rows x.staging } := by
  induction rows generalizing x with
  | nil => rfl
  | cons p rows ih => exact ih _

theorem broadcast_eq (k : MmaCtx) (mask : BitVec 16) (rows : List (Nat × Nat)) (x : Core) :
    broadcast k mask rows x =
      { x with rowRegs := putRows k.shape (stagedRow k x.staging) (rows.filter (rowFed k mask)) x.rowRegs } := by
  induction rows generalizing x with
  | nil => rfl
  | cons p rows ih =>
    rw [broadcast, List.filter_cons, rowFed]
    split
    · exact ih _
    · exact ih _

/-- The core with a slice of S filled and broadcast. -/
def sliceLoaded (u : State) (k : MmaCtx) (mask : BitVec 16) (step : Nat) (x : Core) : Core :=
  broadcast k mask (mmaRows k.shape) (fillStaging u k step (mmaRows k.shape) x)

theorem sliceLoaded_acc (u : State) (k : MmaCtx) (mask : BitVec 16) (step : Nat) (x : Core) :
    (sliceLoaded u k mask step x).acc = x.acc := by
  rw [sliceLoaded, broadcast_eq, fillStaging_eq]

section
variable {u : State} {k : MmaCtx} {mask : BitVec 16} {step q m : Nat}

/-- An unmasked row stands in its row register as the stationary port has read it (R120, R126). -/
theorem rowRegs_sliceLoaded (hk : k.shape ∈ shapes) (hq : q < k.shape.problems) (hm : m < k.shape.m)
    (hfed : mask.getLsbD (maskBit k.code m) = true) (x : Core) :
    sget (fun _ => []) (sliceLoaded u k mask step x).rowRegs ((rowKeys k.shape q m).headD 0) = stationaryRow u k step (q, m) := by
  have hrow : ∀ p, stationaryRow u k step p ≠ [] := fun p => by
    simp [stationaryRow, (k_pos_of_shape _ hk).ne']
  have hdisj {p p' : Nat × Nat} (hp : p ∈ mmaRows k.shape) (hp' : p' ∈ mmaRows k.shape)
      (he : (rowKeys k.shape p.1 p.2).headD 0 ∈ rowKeys k.shape p'.1 p'.2) : p' = p := by
    obtain ⟨hq, hm⟩ := mem_mmaRows.mp hp
    obtain ⟨hq', hm'⟩ := mem_mmaRows.mp hp'
    exact rowKeys_disjoint hk hq' hm' hq hm he (headD_mem_rowKeys hk _ _)
  have hstaged {p : Nat × Nat} (hp : p ∈ mmaRows k.shape) :
      stagedRow k (putRows k.shape (stationaryRow u k step) (mmaRows k.shape) x.staging) p = stationaryRow u k step p :=
    sget_putRows (fun p' _ => hrow p') (headD_mem_rowKeys hk _ _) (fun p' hp' => hdisj hp hp') (.inl hp)
  have hmem : (q, m) ∈ mmaRows k.shape := mem_mmaRows.mpr ⟨hq, hm⟩
  rw [sliceLoaded, broadcast_eq, fillStaging_eq, ← hstaged hmem]
  refine sget_putRows (p := (q, m)) (fun p' hp' => ?_) (headD_mem_rowKeys hk _ _)
    (fun p' hp' => hdisj hmem (List.mem_of_mem_filter hp')) (.inl (List.mem_filter.mpr ⟨hmem, hfed⟩))
  rw [hstaged (List.mem_of_mem_filter hp')]
  exact hrow p'

theorem rowElem_sliceLoaded (hk : k.shape ∈ shapes) (hq : q < k.shape.problems) (hm : m < k.shape.m)
    (hfed : mask.getLsbD (maskBit k.code m) = true) {kk : Nat} (hkk : kk < k.shape.k) (x : Core) :
    rowElem (sliceLoaded u k mask step x) k.shape q m kk = mmaS u k q step m kk := by
  rw [rowElem, rowRegs_sliceLoaded hk hq hm hfed]
  simp [stationaryRow, hkk]

/-! ## The updates of a slot -/

/-- Where the cells read a row of S as core SRAM gives it, a K step adds its updates as `stepValue` says. -/
theorem slotFp_eq_stepValue {x : Core} (hrow : ∀ kk < k.shape.k, rowElem x k.shape q m kk = mmaS u k q step m kk) (n : Nat)
    (v : Word) : slotFp u k x q step m n v = stepValue u k q m n v step := by
  have hnum : ∀ kk < k.shape.k, mmaSnum u k x q step m kk = stationary u k q step m kk := fun kk hkk => by
    simp only [mmaSnum, stationary, hrow kk hkk]
  refine List.foldl_ext _ _ _ fun v j hj => ?_
  have hupdate : perUpdate k.w * (j + 1) ≤ k.shape.k :=
    (Nat.mul_le_mul_left _ (List.mem_range.mp hj)).trans (Nat.mul_div_le _ _)
  have hpos : 0 < perUpdate k.w := Nat.pos_of_ne_zero fun hzero => by simp [hzero] at hj
  have hlt : ∀ i < perUpdate k.w, perUpdate k.w * j + i < k.shape.k := fun i hi => by
    rw [Nat.mul_succ] at hupdate
    omega
  congr 2
  dsimp only [updateSum]
  rw [hnum _ (hlt 0 hpos)]
  refine List.foldl_ext _ _ _ fun a i hi => ?_
  rw [hnum _ (hlt (i + 1) (by have := List.mem_range.mp hi; omega))]

/-- A slot with a value in it. -/
def setAcc (k : MmaCtx) (p : Nat × Nat × Nat) (v : Word) (x : Core) : Core :=
  { x with acc := sset (fun _ => (0 : Word)) x.acc (accKey k.shape p.1 p.2.1 p.2.2) v }

theorem feedSlots_fp_cons (p : Nat × Nat × Nat) (l : List (Nat × Nat × Nat)) (x : Core) :
    feedSlots u k step false (p :: l) x = feedSlots u k step false l (setAcc k p (slotFp u k x p.1 step p.2.1 p.2.2
      (sget (fun _ => (0 : Word)) x.acc (accKey k.shape p.1 p.2.1 p.2.2))) x) := rfl

/-- Feeding some outputs of different slots gives each its updates of the K step, and no other slot any. -/
theorem feedSlots_fp {l : List (Nat × Nat × Nat)} (hkeys : (l.map fun p => accKey k.shape p.1 p.2.1 p.2.2).Nodup) {x : Core}
    (hx : swf (fun _ => (0 : Word)) x.acc = true)
    (hrow : ∀ p ∈ l, ∀ kk < k.shape.k, rowElem x k.shape p.1 p.2.1 kk = mmaS u k p.1 step p.2.1 kk) :
    swf (fun _ => (0 : Word)) (feedSlots u k step false l x).acc = true ∧
    (∀ p ∈ l, sget (fun _ => (0 : Word)) (feedSlots u k step false l x).acc (accKey k.shape p.1 p.2.1 p.2.2) =
      stepValue u k p.1 p.2.1 p.2.2 (sget (fun _ => (0 : Word)) x.acc (accKey k.shape p.1 p.2.1 p.2.2)) step) ∧
    (∀ j, (∀ p ∈ l, accKey k.shape p.1 p.2.1 p.2.2 ≠ j) →
      sget (fun _ => (0 : Word)) (feedSlots u k step false l x).acc j = sget (fun _ => (0 : Word)) x.acc j) := by
  induction l generalizing x with
  | nil => exact ⟨hx, fun p hp => absurd hp List.not_mem_nil, fun _ _ => rfl⟩
  | cons p l ih =>
    obtain ⟨hp, hl⟩ := List.forall_mem_cons.mp hrow
    obtain ⟨hfirst, hkeys⟩ := List.nodup_cons.mp hkeys
    have hother : ∀ p' ∈ l, accKey k.shape p'.1 p'.2.1 p'.2.2 ≠ accKey k.shape p.1 p.2.1 p.2.2 := fun p' hp' heq =>
      hfirst (List.mem_map.mpr ⟨p', hp', heq⟩)
    rw [feedSlots_fp_cons, slotFp_eq_stepValue hp]
    obtain ⟨hwf, hfed, hkept⟩ := ih hkeys (x := setAcc k p _ x) (swf_sset hx) hl
    refine ⟨hwf, List.forall_mem_cons.mpr ⟨?_, fun p' hp' => ?_⟩, fun j hj => ?_⟩
    · rw [hkept _ hother, setAcc, sget_sset_same hx]
    · rw [hfed p' hp', setAcc, sget_sset_other hx (hother p' hp')]
    · obtain ⟨hj, hjl⟩ := List.forall_mem_cons.mp hj
      rw [hkept j hjl, setAcc, sget_sset_other hx hj.symm]

/-- The K steps of an MMA give each slot fed its updates of every step in order, and no other slot any. -/
theorem feedSteps_fp (hshape : k.shape = shapeOf k.code) (hfp : fmtInt (dFmt k.db) = false) (steps : List Nat) {x : Core}
    (hx : swf (fun _ => (0 : Word)) x.acc = true) :
    (∀ p ∈ fedOutputs k.code mask,
      sget (fun _ => (0 : Word)) (feedSteps u k mask steps x).acc (accKey k.shape p.1 p.2.1 p.2.2) =
        steps.foldl (stepValue u k p.1 p.2.1 p.2.2) (sget (fun _ => (0 : Word)) x.acc (accKey k.shape p.1 p.2.1 p.2.2))) ∧
    (∀ j, (∀ p ∈ fedOutputs k.code mask, accKey k.shape p.1 p.2.1 p.2.2 ≠ j) →
      sget (fun _ => (0 : Word)) (feedSteps u k mask steps x).acc j = sget (fun _ => (0 : Word)) x.acc j) := by
  have hk : k.shape ∈ shapes := hshape ▸ shapeOf_mem_shapes k.code
  have hkeys : ((fedOutputs k.code mask).map fun p => accKey k.shape p.1 p.2.1 p.2.2).Nodup := hshape ▸ nodup_accKeys k.code mask
  induction steps generalizing x with
  | nil => exact ⟨fun _ _ => rfl, fun _ _ => rfl⟩
  | cons step steps ih =>
    have hrow : ∀ p ∈ fedOutputs k.code mask, ∀ kk < k.shape.k,
        rowElem (sliceLoaded u k mask step x) k.shape p.1 p.2.1 kk = mmaS u k p.1 step p.2.1 kk := fun p hp kk hkk => by
      obtain ⟨hq, ⟨hm, hmask⟩, -⟩ := mem_fedOutputs.mp hp
      exact rowElem_sliceLoaded hk (hshape ▸ hq) (hshape ▸ hm) hmask hkk x
    have hslice : feedSteps u k mask (step :: steps) x =
        feedSteps u k mask steps (feedSlots u k step false (fedOutputs k.code mask) (sliceLoaded u k mask step x)) := by
      rw [feedSteps, hfp, sliceLoaded]
    obtain ⟨hwf, hfed, hkept⟩ := feedSlots_fp hkeys (x := sliceLoaded u k mask step x) (by rwa [sliceLoaded_acc]) hrow
    obtain ⟨hsum, hrest⟩ := ih hwf
    rw [sliceLoaded_acc] at hfed hkept
    rw [hslice]
    refine ⟨fun p hp => ?_, fun j hj => ?_⟩
    · rw [hsum p hp, hfed p hp, List.foldl_cons]
    · rw [hrest j hj, hkept j hj]

end

/-- Settles O26: both commands by the law of their function, and the sums by induction on the K steps: each slice is filled and
broadcast to the rows fed, and each slot takes its own updates of it. -/
theorem matrixMultipliesRun : Obligations.MatrixMultipliesRun := by
  refine ⟨?begins, ?completes, ?sums⟩
  case begins =>
    rintro dt c eccs o rest b s _ hc rfl hhead hidle hhalted hb hdue lB hlB
    have hbegins := exec_mmaBegin dt c eccs s (unitsOk_core hc)
    rw [mmaBegin_of_head (s := elapse dt s) hhead hidle hhalted hb hdue hlB] at hbegins
    refine ⟨fun hread => ?_, fun hwithheld => ?_⟩
    · rw [hbegins, hread]
      rfl
    · rw [hbegins, hwithheld]
      rfl
  case completes =>
    rintro c b r _ s _ hc hs hrun hgoes hreset rfl rfl
    obtain ⟨u, hu, hnow, hsram, hsame⟩ := mmaComplete_of_running hrun hgoes hreset b
    have hcores : u.cores = s.cores := hsame .cores (by decide)
    have hended : core (mmaComplete c b s) c =
        mmaEnded (arrayBanks s c r b).lastStep (mmaDone r.op r (arrayBanks s c r b)) r.op (core s c) := by
      rw [hu, modCore, core_setCore (hcores ▸ hs.cores), core, hcores, core]
    refine ⟨_, exec_mmaComplete c b s (unitsOk_core hc), ?_, ?_, fun hfin => ?_, fun hfin => ⟨?_, ?_, fun a ha => ?_⟩⟩
    · rw [hended, mmaEnded_array]
    · rw [hu]
      exact hnow
    · rw [hu, modCore_sram, hsram, hfin, if_neg Bool.false_ne_true]
    · rw [hended, mmaEnded_valid hfin]
    · rw [hu, modCore_sram, hsram, if_pos hfin]
      rfl
    · rw [hu, modCore_sram, hsram, if_pos hfin]
      exact sget_writeElems_other hs.sram ha
  case sums =>
    rintro dt c eccs o rest s _ hc hs hhead hidle hhalted hdue hread hfresh hfp rfl
    have hbegins := exec_mmaBegin dt c eccs s (unitsOk_core hc)
    rw [mmaBegin_of_head (s := elapse dt s) hhead hidle hhalted rfl hdue rfl, hread, if_neg Bool.false_ne_true,
      hfresh] at hbegins
    refine ⟨_, hbegins, ?_⟩
    have hcore : ∀ x, core (sramChecks c eccs (setCore c x (elapse dt s))) c = x := fun x => by
      have hcores : (sramChecks c eccs (setCore c x (elapse dt s))).cores = (setCore c x (elapse dt s)).cores :=
        (sramChecks_same hread _).same (f := .cores) (by decide) (by decide)
      rw [core, hcores]
      exact sget_sset_same hs.cores
    rw [hcore]
    exact feedSteps_fp (x := { core s c with acc := [], accSat := [] }) rfl hfp _ rfl

end Sys2Proof.Machine

/-! # The vertical port: an HWR stopped by a PENDING hub line -/

namespace Sys2Proof.Machine

open Sys2Proof

/-! ## The counterexample to `HubTransfersComplete` -/

/-- An HWR of the one-line tile 0 to hub line 0, begun in cycle 1. -/
def conflictRun : MovRun :=
  ⟨{ word := 0x3000300000000000, mask := 0, scalar := 0, descs := [⟨0, 0x2000⟩], jobFrames := 0, pos := 0, issuedAt := 0,
     origin := 0, landed := 0 }, 0, 1, noChecks, false⟩

/-- Core 0 runs the HWR, hub line 0 is PENDING, and job 0, which runs in the core's partition, has an open capture of Cairn
slot 0. -/
def conflictState : State :=
  { State.reset with
    cores := [(0, { Core.reset with movs := [conflictRun] })]
    sched := { Sched.reset with active := some ⟨0, 0, 1, 0, 1, 4, 1, 0, [], [⟨0, false, 1, 0⟩]⟩ }
    mem := { State.reset.mem with lineSt := [(0, 1)] }
    cairn := { State.reset.cairn with captures := [⟨0, 1, 0, 0, [], 0, [], 0⟩] } }

theorem conflictState_canonical : conflictState.Canonical := by constructor <;> decide +kernel

/-- The write conflict freezes the partition, which ends the capture and marks its slot VOID in HBM (R342). -/
theorem hwrComplete_conflict_hbm : (hwrComplete 0 [] [] conflictState).hbm ≠ conflictState.hbm := by decide +kernel

/-- Refutes O29: an HWR that a PENDING line stops freezes its partition, and an open capture of a job there ends with a write of
its Cairn slot in HBM (R227, R342), where the statement has the HWR leave HBM alone. -/
theorem not_hubTransfersComplete : ¬ Obligations.HubTransfersComplete := by
  rintro ⟨-, hhwr⟩
  obtain ⟨t, ht, -, -, -, hhbm, -⟩ := hhwr 0 [] [] conflictRun conflictState _ (by decide) conflictState_canonical
    (by decide +kernel) (by decide) rfl
  rw [exec_hwrComplete 0 [] [] conflictState (by decide)] at ht
  obtain rfl := Host.Outcome.next.inj ht
  exact hwrComplete_conflict_hbm hhbm

end Sys2Proof.Machine

/-! # The fabric: a head on an idle edge port -/

namespace Sys2Proof.Machine

open Sys2Proof

/-! ## The counterexample to `FlitsMove` -/

/-- A flit of route 0 and colour 0. -/
def edgeFlit : Flit := mkFlit none 0 0 false 0

/-- The entry of route 0: network 1, output n, in every phase. -/
def edgeEntry : Word := 0x000FF009

/-- Core 16 holds one flit in its L queue, with no image in force: the Port attachment at its n output is not in use. -/
def idleEdgeState : State :=
  { State.reset with cores := [(16, { Core.reset with routes := [(0, edgeEntry)], queues := [(4, [⟨edgeFlit, 0⟩])] })] }

theorem idleEdgeState_canonical : idleEdgeState.Canonical := by constructor <;> decide

/-- Its head may go, on output n. -/
theorem couldGo_idleEdgeState : couldGo (elapse 0 idleEdgeState) 16 .v0 .l = some ⟨edgeFlit, edgeEntry, none, 1⟩ := by
  decide +kernel

/-- A flit for a Port attachment that is not in use leaves no edge wire: the die takes it, and only its credit returns (log
entry 83). -/
theorem flitForward_idleEdge_edge : (flitForward 16 .v0 .l (elapse 0 idleEdgeState)).fab.edge = [] := by
  decide +kernel

/-- Refutes O30: a head forwarded to an edge port whose Port attachment is not in use goes onto no edge wire (log entry 83),
where the statement puts one for every edge port. -/
theorem not_flitsMove : ¬ Obligations.FlitsMove := by
  rintro ⟨hforward, -⟩
  obtain ⟨-, -, hgo⟩ := hforward 0 16 .v0 .l idleEdgeState (by decide) idleEdgeState_canonical (by decide)
  obtain ⟨-, hsent⟩ := hgo _ couldGo_idleEdgeState (by decide)
  obtain ⟨t, ht, -, -, hedge, -⟩ := hsent (.inr (.inl (by decide)))
  rw [exec_flitForward 0 16 .v0 .l idleEdgeState (by decide)] at ht
  obtain rfl := Host.Outcome.next.inj ht
  rw [flitForward_idleEdge_edge] at hedge
  exact absurd hedge (by decide)

end Sys2Proof.Machine

/-! # The mover: begin, and the ends of SEND and RECV (R111, R165, R168) -/

namespace Sys2Proof.Machine

open Sys2Proof

/-! ## MOV_BEGIN (Table 3.12) -/

/-- How a MOV begins that is not done at once: with the flits that have landed for it, and with what it meets on its way. -/
inductive MovStarts (s : State) (c : Nat) (chk : MovChecks) (o : QOp) : Nat → MovChecks → Prop
  | send (hop : iOp o.word = 0) : MovStarts s c chk o 0 noChecks
  | recv (hop : iOp o.word = 1) (hlanded : o.landed ≤ movLines o) : MovStarts s c chk o o.landed noChecks
  | port (hop : iOp o.word = 2 ∨ iOp o.word = 3) (hport : (reg s 4 (clusterOf c) 8).getLsbD 0 = true) :
    MovStarts s c chk o 0 chk
  | srecv (hop : iOp o.word = 5) (hlanded : o.landed = 0) : MovStarts s c chk o 0 noChecks

/-- The head of the mover's queue has been taken. -/
def movTaken (c : Nat) (rest : List QOp) (s : State) : State := setCore c { core s c with movQ := rest } s

section
variable {s : State} {c : Nat} {chk : MovChecks} {o : QOp} {rest : List QOp}

theorem modCore_setCore (hs : swf (fun _ => Core.reset) s.cores = true) (f : Core → Core) (x : Core) :
    modCore c f (setCore c x s) = setCore c (f x) (setCore c x s) := by rw [modCore, core_setCore hs]

variable (hhead : (core s c).movQ = o :: rest) (hhalted : coreHalted s c = false) (hissued : o.issuedAt < s.now)
include hhead hhalted hissued

/-- MOV_BEGIN of a MOV that runs on joins it to those that are begun. -/
theorem movBegin_starts (hs : swf (fun _ => Core.reset) s.cores = true) {n : Nat} {k : MovChecks} (h : MovStarts s c chk o n k) :
    movBegin c chk s = setCore c { core s c with movQ := rest, movs := (core s c).movs ++ [⟨o, n, s.now, k, false⟩] }
      (movTaken c rest s) := by
  have hwait : ¬ s.now ≤ o.issuedAt := Nat.not_le.mpr hissued
  refine Eq.trans ?_ (modCore_setCore hs (fun x => { x with movs := x.movs ++ [⟨o, n, s.now, k, false⟩] })
    { core s c with movQ := rest })
  cases h with
  | send hop => simp [movBegin, hhead, hhalted, hwait, hop]
  | recv hop hlanded => simp [movBegin, hhead, hhalted, hwait, hop, Nat.not_lt.mpr hlanded]
  | port hop hport =>
    rw [BitVec.getLsbD_eq_getElem (by decide)] at hport
    rcases hop with hop | hop
    · simp [movBegin, hhead, hhalted, hwait, hop, hport]
    · simp [movBegin, hhead, hhalted, hwait, hop, hport]
  | srecv hop hlanded => simp [movBegin, hhead, hhalted, hwait, hop, hlanded]

/-- An SSEND puts its register on the scalar channel, and is done. -/
theorem movBegin_ssend (hop : iOp o.word = 4) :
    movBegin c chk s = addWire ⟨c, .scalar, .l, mkFlit (some (iJob o.word)) (movRoute o.word) (core s c).colour false
      (BitVec.ofNat 512 o.scalar.toNat), s.now + 1⟩ (movTaken c rest s) := by
  simp [movBegin, movTaken, hhead, hhalted, Nat.not_le.mpr hissued, hop]

end

/-! ## The valid bit of a MOV's tag -/

section
variable {s : State} {c t : Nat}

theorem movTag_lt (w : Dword) : movTag w < 512 := by
  unfold movTag wbits bitsOf
  omega

theorem noteRing_tagAt (x : Core) : (noteRing t x).tagAt = x.tagAt := by
  unfold noteRing
  split <;> rfl

theorem noteRing_movs (x : Core) : (noteRing t x).movs = x.movs := by
  unfold noteRing
  split <;> rfl

/-- A clear takes the valid bit of its tag, where the cycle did not set it. -/
theorem getLsbD_clearTag {x : Core} {tag : Nat} (h : (sget (fun _ => TagTime.zero) x.tagAt tag).setAt ≠ t + 1) :
    (clearTag t tag x).valid.getLsbD tag = false := by
  rw [valid_clearTag h, BitVec.getLsbD_and, BitVec.getLsbD_not, getLsbD_tagBit]
  by_cases htag : tag < 512 <;> simp [htag]

/-! ## SEND_COMPLETE -/

/-- What the end of a SEND in cycle t leaves of its core: rel releases the tag. -/
def sendEnded (t : Nat) (r : MovRun) (x : Core) : Core :=
  retireSlots (clearTags t (if movRel r.op.word then [movTag r.op.word] else []) (dropMov r (noteRing t x)))

theorem sendEnded_movs (r : MovRun) (x : Core) : (sendEnded t r x).movs = eraseFirst (fun q => q == r) x.movs := by
  obtain ⟨v, a, hclear⟩ := clearTags_eq t (if movRel r.op.word then [movTag r.op.word] else []) (dropMov r (noteRing t x))
  rw [sendEnded, hclear, ← noteRing_movs (t := t) x]
  rfl

theorem sendEnded_valid {r : MovRun} {x : Core} (hrel : movRel r.op.word = true)
    (hset : (sget (fun _ => TagTime.zero) x.tagAt (movTag r.op.word)).setAt ≠ t + 1) :
    (sendEnded t r x).valid.getLsbD (movTag r.op.word) = false := by
  rw [sendEnded, if_pos hrel]
  refine getLsbD_clearTag (x := dropMov r (noteRing t x)) ?_
  rwa [dropMov, noteRing_tagAt]

/-- A check that withholds nothing only reports. -/
theorem sramCheck_same {ecc : Ecc} (h : dataWithheld ecc = false) (s : State) : SameButReports s (sramCheck c ecc s) :=
  sramChecks_same (eccs := [ecc]) (by simpa [anyWithheld] using h) s

theorem sramForget_same {f : Fld} (hf : f ≠ .mem) (s : State) : f.same s (sramForget c s) :=
  keep_sramForget (closed_same f s) hf.symm (by cases f <;> rfl)

/-- The flit of a line does not depend on what has been reported. -/
theorem sendFlit_reports {u : State} (h : SameButReports s u) (o : QOp) (i t : Nat) :
    sendFlit u c o i t = sendFlit s c o i t := by
  rw [h]
  rfl

/-- The line that a SEND has come to, on its way into the L queue of its plane. -/
def sendWire (s : State) (c plane : Nat) (r : MovRun) : Wire :=
  ⟨c, planeChan plane, .l, sendFlit s c r.op r.moved s.now, s.now + 1⟩

/-- SEND_COMPLETE of a last line that its check lets pass: it goes onto the plane, and the SEND ends; else only reports and
charges change. -/
theorem sendComplete_of_last {plane : Nat} {ecc : Ecc} {r : MovRun} (hsend : sendOf (core s c) (planeChan plane) = some r)
    (hreset : coreInReset s c = false) (hlast : r.moved + 1 = movLines r.op)
    (hroom : (queueOf (core s c) (qCode (planeChan plane) .l)).length < 8) (hdue : r.begun + r.moved ≤ s.now)
    (hecc : dataWithheld ecc = false) (b : BankEvents) :
    ∃ u, sendComplete c plane ecc b s = sramForget c (modCore c (sendEnded s.now r) u) ∧ u.cores = s.cores ∧
      u.sram = s.sram ∧ u.fab = { s.fab with wires := s.fab.wires ++ [sendWire s c plane r] } := by
  have hcount := countBanks_same c (bankCount userOfNet b) s
  have hcheck := sramCheck_same (c := c) hecc (addWire (sendWire s c plane r) (countBanks c (bankCount userOfNet b) s))
  refine ⟨charge (iJob r.op.word) 4 1 (sramCheck c ecc (addWire (sendWire s c plane r)
    (countBanks c (bankCount userOfNet b) s))), ?_, ?_, ?_, ?_⟩
  · simp only [sendComplete, hsend, hreset, hlast, hroom, Nat.not_lt.mpr hdue, hecc, sendFlit_reports hcount,
      bne_self_eq_false, decide_true, decide_false, Bool.not_true, Bool.or_false, Bool.false_eq_true, if_false]
    rfl
  · exact Eq.trans (hcheck.same (f := .cores) (by decide) (by decide)) (hcount.same (f := .cores) (by decide) (by decide))
  · exact Eq.trans (hcheck.same (f := .sram) (by decide) (by decide)) (hcount.same (f := .sram) (by decide) (by decide))
  · refine Eq.trans (hcheck.same (f := .fab) (by decide) (by decide)) ?_
    rw [addWire_fab, hcount.same (f := .fab) (by decide) (by decide)]

/-! ## RECV_COMPLETE -/

/-- RECV_COMPLETE of a begun RECV whose lines have all landed. -/
theorem recvComplete_of_landed {plane : Nat} {r : MovRun} (hreset : coreInReset s c = false)
    (hfound : ((core s c).movs.find? fun r => (iOp r.op.word == 1 && planeChan (movPlane r.op.word) == planeChan plane) &&
      r.moved == movLines r.op) = some r) (b : BankEvents) :
    recvComplete c plane b s = modCore c (fun x => setTag s.now (movTag r.op.word) (dropMov r x))
      (countBanks c (bankCount userOfNet b) s) := by
  simp only [recvComplete, hreset, hfound, Bool.false_eq_true, if_false]

end

theorem unitsOk_plane {c plane : Nat} (hc : c < 9216) (hplane : plane < 2) :
    unitsOk [⟨"core", c, 9216⟩, ⟨"plane", plane, 2⟩] = true := by simp [unitsOk, hc, hplane]

/-- Settles O28: each command by the law of its function; the reports on the way leave cores, core SRAM and wires alone. -/
theorem transfersComplete : Obligations.TransfersComplete := by
  refine ⟨?begins, ?sends, ?receives⟩
  case begins =>
    rintro dt c chk o rest s u _ hc hs rfl hhead hhalted hissued
    have hstarts := @movBegin_starts (elapse dt s) c chk o rest hhead hhalted hissued hs.cores
    rw [exec_movBegin dt c chk s (unitsOk_core hc)]
    refine ⟨?_, fun hop => ?_⟩
    · rintro n k rfl
      refine ⟨?_, ?_, ?_⟩
      · rintro (hop | ⟨hop, hlanded⟩) rfl rfl
        · rw [hstarts (.send hop)]
          rfl
        · rw [hstarts (.srecv hop hlanded)]
          rfl
      · rintro hop hlanded rfl rfl
        rw [hstarts (.recv hop hlanded)]
        rfl
      · rintro hop hport rfl rfl
        rw [hstarts (.port hop hport)]
        rfl
    · rw [movBegin_ssend (s := elapse dt s) hhead hhalted hissued hop]
      rfl
  case sends =>
    intro dt c plane ecc b r s hc hplane hs hsend hreset hlast hroom hdue hecc
    obtain ⟨u, hu, hcores, hsram, hfab⟩ :=
      sendComplete_of_last (s := elapse dt s) hsend hreset hlast hroom hdue hecc b
    have hcore : core (sendComplete c plane ecc b (elapse dt s)) c = sendEnded (s.now + dt) r (core s c) := by
      rw [hu, core, sramForget_same (f := .cores) (by decide), modCore_cores, hcores, core, hcores]
      exact sget_sset_same hs.cores
    refine ⟨_, exec_sendComplete dt c plane ecc b s (unitsOk_plane hc hplane), ?_, ?_, ?_, ?_⟩
    · rw [hcore, sendEnded_movs]
    · rw [hu, sramForget_same (f := .fab) (by decide), modCore_fab, hfab]
      rfl
    · intro hrel hset
      rw [hcore, sendEnded_valid hrel hset]
    · rw [hu, sramForget_same (f := .sram) (by decide), modCore_sram, hsram]
      rfl
  case receives =>
    intro dt c plane b r s hc hplane hs hreset hfound
    have hcount := countBanks_same c (bankCount userOfNet b) (elapse dt s)
    have hcores : (countBanks c (bankCount userOfNet b) (elapse dt s)).cores = s.cores :=
      hcount.same (f := .cores) (by decide) (by decide)
    have hcore : core (recvComplete c plane b (elapse dt s)) c =
        setTag (s.now + dt) (movTag r.op.word) (dropMov r (core s c)) := by
      rw [recvComplete_of_landed (s := elapse dt s) hreset hfound, core, modCore_cores, hcores, core, hcores]
      exact sget_sset_same hs.cores
    refine ⟨_, exec_recvComplete dt c plane b s (unitsOk_plane hc hplane), ?_, ?_, ?_⟩
    · rw [hcore]
      rfl
    · rw [hcore]
      exact (setIn_setTag (movTag_lt _) _).1
    · rw [recvComplete_of_landed (s := elapse dt s) hreset hfound, modCore_sram]
      exact hcount.same (f := .sram) (by decide) (by decide)

end Sys2Proof.Machine

/-! # The fabric: credits, tokens, seals, landings and spills (R167, R168, R174, R182, R185 to R191) -/

namespace Sys2Proof.Machine

open Sys2Proof

section
variable {s : State} {c : Nat} {ch : Chan} {p : Port}

/-! ## Credits (R167) -/

/-- The credit that CREDIT_RETURN takes. -/
def takeCredit (y : CreditWire) (s : State) : State :=
  { s with fab := { s.fab with credits := eraseFirst (fun z => z == y) s.fab.credits } }

section
variable {y : CreditWire}
  (hdue : (s.fab.credits.find? fun y => y.core == c && y.ch == ch && y.out == p && decide (y.due ≤ s.now)) = some y)
include hdue

theorem creditReturn_core (hp : p ≠ .l) : creditReturn c ch p s =
    modCore c (fun x => setCredits ch p (min 8 (creditsOf x ch p + 1)) x) (takeCredit y s) := by
  simp only [creditReturn, hdue, if_neg hp]
  rfl

theorem creditReturn_die (hp : p = .l) : creditReturn c ch p s =
    { s with fab := { s.fab with
        credits := eraseFirst (fun z => z == y) s.fab.credits,
        dieSpent := sset (fun _ => 0) s.fab.dieSpent (4 * c + chanCode ch)
          (sget (fun _ => 0) s.fab.dieSpent (4 * c + chanCode ch) - 1) } } := by
  simp only [creditReturn, hdue, if_pos hp]

end

/-! ## Tokens (R174) -/

/-- The token that TOKEN_ARRIVE takes. -/
def takeToken (y : TokWire) (s : State) : State :=
  { s with fab := { s.fab with toks := eraseFirst (fun z => z == y) s.fab.toks } }

/-- The queue of a unit once a token has arrived, which a unit without a current token takes at once. -/
def tokenQueued (k : Nat) (f : Flit) (x : Core) : Core :=
  promoteTok k { x with tokQ := sset (fun _ => []) x.tokQ k (tokQueue x k ++ [f]) }

/-- The highest occupancy of a unit's token queue (SW_QHIGH). -/
def noteTokens (k n : Nat) (x : Core) : Core :=
  { x with high := sset (fun _ => 0) x.high (20 + k) (max n (sget (fun _ => 0) x.high (20 + k))) }

/-- With no token queued, the one that arrives becomes current. -/
theorem tokenQueued_idle {k : Nat} {f : Flit} {x : Core} (hidle : steerTok x k = none) (hempty : x.tokQ = []) :
    tokenQueued k f x = { x with tokQ := [], steer := x.steer ++ [⟨k, f, tokenOf f / 2 + 1⟩] } := by
  rw [steerTok] at hidle
  simp [tokenQueued, promoteTok, steerTok, tokQueue, hidle, hempty, sset, sconsNonDefault, sget]

/-- Behind a current token, it waits. -/
theorem tokenQueued_busy {k : Nat} {f : Flit} {x : Core} (hbusy : (steerTok x k).isSome = true) :
    tokenQueued k f x = { x with tokQ := sset (fun _ => []) x.tokQ k (tokQueue x k ++ [f]) } :=
  if_pos hbusy

theorem tokQueue_append {k : Nat} {f : Flit} (x : Core) :
    tokQueue { x with tokQ := sset (fun _ => []) x.tokQ k (tokQueue x k ++ [f]) } k = tokQueue x k ++ [f] :=
  sget_sset_nondefault (by simp)

/-- TOKEN_ARRIVE of a token of the current colour that finds room in its queue. -/
theorem tokenArrive_of_room (hs : swf (fun _ => Core.reset) s.cores = true) {k : Nat} {y : TokWire}
    (hreset : coreInReset s c = false)
    (hdue : (s.fab.toks.find? fun y => y.core == c && y.unit == k && decide (y.due ≤ s.now)) = some y)
    (hcolour : y.flit.colour = (core s c).colour) (hroom : (tokQueue (tokenQueued k y.flit (core s c)) k).length ≤ 4) :
    ∃ n, core (tokenArrive c k s) c = noteTokens k n (tokenQueued k y.flit (core s c)) := by
  let n := (tokQueue (tokenQueued k y.flit (core s c)) k).length - bit01 (runEnds (settled (takeToken y s) c) c k)
  have harrive : tokenArrive c k s = setCore c (noteTokens k n (tokenQueued k y.flit (core s c))) (takeToken y s) := by
    have hout : ¬ coreInReset s c = true := Bool.eq_false_iff.mp hreset
    have hfits : ¬ 4 < n := Nat.not_lt.mpr ((Nat.sub_le ..).trans hroom)
    simp only [tokenArrive, hdue]
    exact (if_neg hout).trans ((if_neg (not_not_intro hcolour)).trans (if_neg fun h => hfits h.1))
  rw [harrive]
  exact ⟨n, core_setCore (s := takeToken y s) hs c _⟩

/-! ## Seals (R182, R437) -/

/-- SEAL_ARRIVE of a seal that is due. -/
theorem sealArrive_of_due (hdue : sealDue s c ch p = true) : sealArrive c ch ⟨p, .ok⟩ s =
    modCore c (fun x => { x with
      sealed := x.sealed ||| BitVec.ofNat 20 (2 ^ qCode ch p),
      sealing := (x.sealed ||| BitVec.ofNat 20 (2 ^ qCode ch p)) != BitVec.allOnes 20 }) s := by
  simp only [sealArrive, hdue]
  rfl

/-- A seal of a die at the edge is due 9 cycles after the swap. -/
theorem sealDue_edge (hun : unsealed c (core s c) ch p = true) (hlost : (core s c).lostSeals.getLsbD (qCode ch p) = false)
    (hedge : neighbour c p = none) (hport : edgePort c p = true) (hdue : s.sched.activeAt + 9 ≤ s.now) :
    sealDue s c ch p = true := by simp [sealDue, hun, hlost, hedge, hport, hdue]

/-- A seal of a neighbour is due once that has taken the colour, 1 cycle after the swap or 5 over a saddle edge. -/
theorem sealDue_neighbour {d : Nat} (hun : unsealed c (core s c) ch p = true)
    (hlost : (core s c).lostSeals.getLsbD (qCode ch p) = false) (hnext : neighbour c p = some d)
    (hcolour : (core s d).colour = (core s c).colour)
    (hdue : s.sched.activeAt + (if ridgeOf c = ridgeOf d then 1 else 5) ≤ s.now) :
    sealDue s c ch p = true := by simp [sealDue, hun, hlost, hnext, hcolour, hdue]

/-! ## Landings (R168) -/

theorem core_noteSram (ls : List Nat) (d : Nat) : core (noteSram c ls s) d = core s d := by
  unfold noteSram
  split <;> rfl

section
variable {f : QFlit} {rest : List QFlit} {dest : LandInto}
  (hlanding : landingOf (core s c) ch = f :: rest) (hat : f.at_ ≤ s.now) (hreset : coreInReset s c = false)
  (hinto : landInto (core s c) ch f.flit = some dest)
include hlanding hat hreset hinto

/-- FLIT_LAND into the register of an SRECV. -/
theorem flitLand_scalar (hch : ch = .scalar) : flitLand c ch s =
    modCore c (fun x => landed dest (setSreg (movSreg (landState dest).1.word) (BitVec.ofNat 32 f.flit.payload.toNat)
      (setLanding ch rest x))) s := by
  subst hch
  simp [flitLand, hlanding, Nat.not_lt.mpr hat, hreset, hinto]

/-- FLIT_LAND of a line of a RECV, whose last line carries last = 1 and no other. -/
theorem flitLand_line (hch : ch ≠ .scalar) (hlast : f.flit.last = ((landState dest).2 + 1 == movLines (landState dest).1)) :
    flitLand c ch s = charge (iJob (landState dest).1.word) 4 1
      (setTileLine c (movDesc (landState dest).1) (landState dest).2 f.flit.payload
        (modCore c (fun x => landed dest (setLanding ch rest x))
          (noteSram c [dBase (movDesc (landState dest).1) + (landState dest).2] s))) := by
  simp [flitLand, hlanding, Nat.not_lt.mpr hat, hreset, hinto, hch, hlast]

end

/-! ## Spill mode (R185 to R191) -/

/-- The three writes of SW_CTL come from one sender and name one core. -/
theorem fit_spillModeExit {src : Src} (h : fit (.spillModeRequest src c) s = true) : fit (.spillModeExit src c) s = true := h

theorem fit_spillAreaClear {src : Src} (h : fit (.spillModeRequest src c) s = true) : fit (.spillAreaClear src c) s = true := h

theorem deadlockDetect_wf {src : Src} (h : fit (.spillModeRequest src c) s = true) (eccs : List Ecc) (bank : BankEvents) :
    (Instr.deadlockDetect ⟨c, eccs, bank⟩).wf = true := by
  rw [fit, Bool.and_eq_true] at h
  obtain ⟨hwf, -⟩ := h
  rw [Instr.wf, unitsOk, Instr.units, List.all_append, Bool.and_eq_true] at hwf
  exact hwf.2

/-- SPILL_MODE_EXIT: the mode ends at once where every queue is empty, and else waits for that. -/
theorem spillTry_asked (x : Core) : spillTry { x with spillExit := x.spill } =
    if x.spill && switchEmpty x then { x with spill := false, spillExit := false } else { x with spillExit := x.spill } := rfl

theorem areaClear_of_off (h : (core s c).spill = false) : areaClear c s = setReg 5 c 0x154 0 s := by
  rw [areaClear, h]
  rfl

theorem spillTry_queues (x : Core) : (spillTry x).queues = x.queues := by
  unfold spillTry
  split <;> rfl

theorem spillTry_tokQ (x : Core) : (spillTry x).tokQ = x.tokQ := by
  unfold spillTry
  split <;> rfl

/-- DEADLOCK_DETECT of a switch in spill mode that holds something. -/
theorem deadlockDetect_of_held {q : Nat} {f : Flit} {l : List (Nat × Flit)} (hspill : (core s c).spill = true)
    (hheld : spillList (core s c) = (q, f) :: l) (eccs : List Ecc) (bank : BankEvents) :
    deadlockDetect c eccs bank s = fillRemap (spill c eccs bank
      (bump48 5 c 0x138 0 1 none (raiseCe 5 c 20 q (passTo ((core s c).lastDeq + 4096) s)))) := by
  simp [deadlockDetect, hheld, hspill]

/-- The switch of a spill once its queues and tokens are in the spill area. -/
def spilledOut (t : Nat) (x : Core) : Core := spillTry { x with queues := [], tokQ := [], lastDeq := t }

/-- A spill empties the switch; else only its reports, registers, core SRAM, hub lines and credits change. -/
theorem spill_cores (hs : s.Canonical) (eccs : List Ecc) (bank : BankEvents) :
    ∃ u, u.Canonical ∧ (spill c eccs bank s).cores = (modCore c (spilledOut u.now) u).cores := by
  unfold spill
  extract_lets x l vec area fits s1 s2
  have h1 : s1.Canonical := keep_countBanks closed_canonical raiseSet_true hs
  have h2 : s2.Canonical := by
    unfold s2
    split
    · exact h1
    · exact keep_appendArea closed_canonical raiseSet_true h1
  have h3 : (spillInto c (area s2).1 (area s2).2 0 l s2).2.2.2.Canonical := keep_spillInto closed_canonical trivial h2
  generalize spillInto c (area s2).1 (area s2).2 0 l s2 = r at h3 ⊢
  obtain ⟨slots, recs, lost, s3⟩ := r
  let u := returnAll c x allInputs (setReg 5 c 0x154 (BitVec.ofNat 32 (slots + 256 * recs)) s3)
  have hu : u.Canonical := keep_returnAll closed_canonical trivial (keep_setReg closed_canonical trivial h3)
  have hcount := bump48_same 5 c 0x130 0 (l.length - lost) none (modCore c (spilledOut u.now) u)
  refine ⟨u, hu, ?_⟩
  dsimp only
  split
  · exact hcount.same (f := .cores) (by decide) (by decide)
  · exact ((hcount.trans (bump48_same ..)).trans (raiseCe_same ..)).same (f := .cores) (by decide) (by decide)

theorem spill_empties (hs : s.Canonical) (eccs : List Ecc) (bank : BankEvents) :
    (core (spill c eccs bank s) c).queues = [] ∧ (core (spill c eccs bank s) c).tokQ = [] := by
  obtain ⟨u, hu, hcores⟩ := spill_cores (c := c) hs eccs bank
  have hcore : core (spill c eccs bank s) c = spilledOut u.now (core u c) := by
    rw [core, hcores, modCore_cores]
    exact sget_sset_same hu.cores
  rw [hcore, spilledOut, spillTry_queues, spillTry_tokQ]
  exact ⟨rfl, rfl⟩

end

/-- Settles O31: each command by the law of its function. -/
theorem creditsTokensSealsAndSpills : Obligations.CreditsTokensSealsAndSpills := by
  refine ⟨⟨?credits, ?tokens, ?seals, ?lands⟩, ?spills⟩
  case credits =>
    intro dt c ch p y s hwf hdue
    rw [exec_creditReturn dt c ch p s hwf]
    refine ⟨fun hp => ?_, fun hp => ?_⟩
    · rw [creditReturn_core (s := elapse dt s) hdue hp]
      rfl
    · rw [creditReturn_die (s := elapse dt s) hdue hp]
      rfl
  case tokens =>
    intro dt c k y s hwf hs hreset hdue hcolour
    have hexec := exec_tokenArrive dt c k s hwf
    refine ⟨fun hidle hempty => ⟨_, hexec, ?_⟩, fun hbusy hroom => ⟨_, hexec, ?_⟩⟩
    · have hqueued := tokenQueued_idle (f := y.flit) hidle hempty
      obtain ⟨n, hcore⟩ := tokenArrive_of_room (s := elapse dt s) hs.cores hreset hdue hcolour
        (by rw [core_elapse, hqueued]; exact Nat.zero_le 4)
      rw [hcore, core_elapse, hqueued]
      exact ⟨rfl, rfl⟩
    · have hqueued := tokenQueued_busy (f := y.flit) hbusy
      obtain ⟨n, hcore⟩ := tokenArrive_of_room (s := elapse dt s) hs.cores hreset hdue hcolour
        (by rw [core_elapse, hqueued, tokQueue_append, List.length_append]; exact hroom)
      rw [hcore, core_elapse, hqueued]
      exact ⟨rfl, tokQueue_append _⟩
  case seals =>
    intro dt c ch p late s hwf hun hlost hfrom hat
    have hdue : sealDue (elapse dt s) c ch p = true := by
      rcases hfrom with ⟨hedge, hport, rfl⟩ | ⟨d, hnext, hcolour, rfl⟩
      · exact sealDue_edge (s := elapse dt s) hun hlost hedge hport hat
      · exact sealDue_neighbour (s := elapse dt s) hun hlost hnext hcolour hat
    rw [exec_sealArrive dt c ch _ s hwf, sealArrive_of_due hdue]
    rfl
  case lands =>
    intro dt c ch f rest dest s hwf hlanding hat hreset hinto
    rw [exec_flitLand dt c ch s hwf]
    refine ⟨fun hch => ?_, fun hch hlast => ?_⟩
    · rw [flitLand_scalar (s := elapse dt s) hlanding hat hreset hinto hch]
      rfl
    · rw [flitLand_line (s := elapse dt s) hlanding hat hreset hinto hch hlast, modCore, core_noteSram, core_elapse]
  case spills =>
    intro src c eccs bank s hfit
    have hexit := exec_spillModeExit src c s (fit_spillModeExit hfit)
    have hclear := exec_spillAreaClear src c s (fit_spillAreaClear hfit)
    have hrequest := exec_spillModeRequest src c s hfit
    refine ⟨fun hon => ?_, fun hoff i hi => ?_, fun q f l hspill hheld => ?_, fun t ht => spill_empties ht eccs bank⟩
    · rw [if_neg (by rw [hon]; decide)] at hrequest hexit hclear
      rw [hrequest, hexit, hclear]
      refine ⟨fun hallowed => ?_, fun hrefused => ?_, ?_, fun hidle => ?_⟩
      · rw [spillRequest, if_pos hallowed]
        rfl
      · rw [spillRequest, if_neg (by rw [hrefused]; decide)]
      · rw [spillLeave, modCore, spillTry_asked]
      · rw [areaClear_of_off hidle]
    · simp only [List.mem_cons, List.not_mem_nil, or_false] at hi
      rcases hi with rfl | rfl | rfl
      · rw [hrequest, if_pos hoff]
      · rw [hexit, if_pos hoff]
      · rw [hclear, if_pos hoff]
    · rw [exec_deadlockDetect _ s (deadlockDetect_wf hfit eccs bank), deadlockDetect_of_held hspill hheld]

end Sys2Proof.Machine

/-! # Reduction: descriptors, contributions, deliveries (R207 to R212) -/

namespace Sys2Proof.Machine

open Sys2Proof

/-! ## Engines and their inputs -/

/-- A slot is active in cycle t (R209). -/
def slotActive (t : Nat) (y : RedSlot) : Bool :=
  match y.endAt with
  | some e => decide (t ≤ e)
  | none => true

section
variable {s : State} {n k : Nat} {x : RedEngine}

theorem engine_slots : (engine s n k).slots =
    (sget (fun _ => RedEngine.reset) s.engines (4 * n + k)).slots.filter (slotActive s.now) := rfl

theorem engine_setEngine (hs : swf (fun _ => RedEngine.reset) s.engines = true) (x : RedEngine) :
    engine (setEngine n k x s) n k = { x with slots := x.slots.filter (slotActive s.now) } := by
  have hget : sget (fun _ => RedEngine.reset) (setEngine n k x s).engines (4 * n + k) = x := sget_sset_same hs
  rw [engine, hget]
  rfl

/-- An engine whose slots are active is what is read of it. -/
theorem engine_setEngine_active (hs : swf (fun _ => RedEngine.reset) s.engines = true)
    (hslots : x.slots = (engine s n k).slots) : engine (setEngine n k x s) n k = x := by
  have hactive : x.slots.filter (slotActive s.now) = x.slots := by
    rw [hslots, engine_slots, List.filter_filter]
    simp only [Bool.and_self]
  rw [engine_setEngine hs, hactive]

/-- The input from which the engine takes its next line. -/
theorem input_of_nextLine {inp : EngIn} {i : RedInput} {line : RedLine} (h : nextLine s n k inp = some (i, line)) :
    i = inputOf (engine s n k) (inpKey inp) := by
  unfold nextLine at h
  extract_lets x j at h
  split at h
  · cases h
  · split at h
    · cases h
    · exact (congrArg Prod.fst (Option.some.inj h)).symm

/-- Within a contribution or descriptor, the input that a line has been taken off. -/
theorem inputOf_popLine {i : RedInput} {key : Nat} (hi : i = inputOf x key) (hparsed : i.parsed ≠ 0) (t : Nat) :
    inputOf (popLine t key x) key = { i with queue := i.queue.drop 1 } := by
  subst hi
  exact sget_sset_nondefault fun h => hparsed (congrArg RedInput.parsed h)

end

/-! ## REDUCE_DESCRIPTOR (R209) -/

/-- The state once an engine has taken a line off an input. -/
def lineTaken (n k : Nat) (inp : EngIn) (s : State) : State :=
  setEngine n k (popLine s.now (inpKey inp) (engine s n k)) s

/-- The first line of a contribution or descriptor is kept by its input. -/
def keepHdr (key : Nat) (hdr : Line) (x : RedEngine) : RedEngine :=
  setInput key { inputOf x key with hdr := hdr, parsed := 1 } x

section
variable {s : State} {n k : Nat} {inp : EngIn} {i : RedInput} {line : RedLine} {x : RedEngine} {h : RedHdr}

/-- The slot that the last line of a descriptor opens. -/
def newSlot (s : State) (h : RedHdr) (line : RedLine) : RedSlot :=
  ⟨h.slot, partOf s line.core, h.unit + 1, BitVec.ofNat 6 h.route, h.plane, line.payload, [], [], [], false, none, line.job⟩

theorem engine_lineTaken (hs : swf (fun _ => RedEngine.reset) s.engines = true) :
    engine (lineTaken n k inp s) n k = popLine s.now (inpKey inp) (engine s n k) := engine_setEngine_active hs rfl

variable (hnext : nextLine s n k inp = some (i, line)) (hx : x = popLine s.now (inpKey inp) (engine s n k))
include hnext hx

theorem reduceDescriptor_head (hparsed : i.parsed = 0) (hh : h = redHdr line.payload) (hkind : h.kind = 1)
    (hlast : line.last = false) (hrsvd : h.rsvd = 0) (hdevice : h.device = 0) (hengine : h.engine = k)
    (hgrid : isLinkIn inp = false) (hslot : slotOf x h.slot = none) :
    reduceDescriptor n k inp s = setEngine n k (keepHdr (inpKey inp) line.payload x) (lineTaken n k inp s) := by
  subst hx hh
  simp [reduceDescriptor, hnext, hparsed, hkind, hlast, hrsvd, hdevice, hengine, hgrid, hslot]
  rfl

theorem reduceDescriptor_busy (hparsed : i.parsed ≠ 0) (hh : h = redHdr i.hdr) (hkind : h.kind = 1) (hskip : i.skip = false)
    (hlast : line.last = true) (hslot : (slotOf x h.slot).isSome = true) :
    reduceDescriptor n k inp s =
      advance n k (inpKey inp) (redFault n k (inpKey inp) 2 0 h line.core (lineTaken n k inp s)) := by
  subst hx hh
  simp [reduceDescriptor, hnext, hparsed, hkind, hskip, hlast, hslot]
  rfl

theorem reduceDescriptor_opens (hparsed : i.parsed ≠ 0) (hh : h = redHdr i.hdr) (hkind : h.kind = 1) (hskip : i.skip = false)
    (hlast : line.last = true) (hslot : slotOf x h.slot = none) :
    reduceDescriptor n k inp s = advance n k (inpKey inp)
      (setEngine n k { x with slots := x.slots ++ [newSlot s h line] } (lineTaken n k inp s)) := by
  subst hx hh
  simp [reduceDescriptor, hnext, hparsed, hkind, hskip, hlast, hslot]
  rfl

end

/-! ## REDUCE_CONTRIBUTION (R210) -/

section
variable {s : State} {n k : Nat} {inp : EngIn} {i j : RedInput} {line : RedLine} {x : RedEngine} {h : RedHdr}

/-- A first line goes on as the head of a contribution. -/
theorem reduceContribution_head (hnext : nextLine s n k inp = some (i, line)) (hparsed : i.parsed = 0)
    (hkind : (redHdr line.payload).kind = 0) :
    reduceContribution n k inp s = contribHead n k (inpKey inp) line (lineTaken n k inp s) := by
  simp [reduceContribution, hnext, hparsed, hkind]
  rfl

/-- A later line goes on as a line of the contribution. -/
theorem reduceContribution_line (hnext : nextLine s n k inp = some (i, line)) (hparsed : i.parsed ≠ 0)
    (hkind : (redHdr i.hdr).kind = 0) :
    reduceContribution n k inp s = contribLine n k (inpKey inp) inp line (lineTaken n k inp s) := by
  simp [reduceContribution, hnext, hparsed, hkind]
  rfl

/-- A head that meets no fault begins its contribution. -/
theorem contribHead_begins {key : Nat} {y : RedSlot} (hx : x = engine s n k) (hh : h = redHdr line.payload)
    (hfault : contribFault s.now k x h line.last = none) (hslot : slotOf x h.slot = some y) (hdead : y.dead = false)
    (hbad : y.bad.contains h.unit = false) : contribHead n k key line s = contribBegin n k key h line s := by
  subst hx hh
  simp only [contribHead, hfault, hslot, hdead, hbad]
  rfl

section
variable {key : Nat} (hx : x = engine s n k) (hj : j = inputOf x key) (hh : h = redHdr j.hdr) (hskip : j.skip = false)
include hx hj hh hskip

/-- A line whose slot is no longer active is a slot fault, and the rest of its contribution is passed over. -/
theorem contribLine_inactive (hslot : slotOf x h.slot = none) :
    contribLine n k key inp line s = advance n k key (redFault n k key 1 0 h line.core
      (setEngine n k (setInput key { j with skip := true } x) s)) := by
  subst hx hj hh
  simp only [contribLine, hskip, hslot]
  rfl

variable {y : RedSlot} {z : RedUnit} (hslot : slotOf x h.slot = some y) (hunit : unitOf x h.slot h.unit = some z)
  (hlast : line.last = (j.parsed == 2 || j.parsed == 66))
include hslot hunit hlast

/-- Lines 1 and 2 are the scales of the contribution. -/
theorem contribLine_scales (hpos : j.parsed ≤ 2) : contribLine n k key inp line s =
    advance n k key (setEngine n k (setInput key { j with scales := j.scales ++ [line.payload] } x) s) := by
  subst hx hj hh
  simp [contribLine, hskip, hslot, hunit, hlast, hpos]

/-- A later line is added and charged; line 66 ends the contribution. -/
theorem contribLine_adds (hpos : 2 < j.parsed) : contribLine n k key inp line s =
    advance n k key (if j.parsed = 66 then contribEnd n k h inp
        (chargeRed y (setEngine n k (setUnit (addElems z j (j.parsed - 3) line.payload) x) s))
      else chargeRed y (setEngine n k (setUnit (addElems z j (j.parsed - 3) line.payload) x) s)) := by
  subst hx hj hh
  simp [contribLine, hskip, hslot, hunit, hlast, Nat.not_le.mpr hpos]

end

end

/-! ## Sums (R210) -/

/-- A unit's accumulator for element j of an element line, once it has been added. -/
def elemSum (i : RedInput) (n : Nat) (l : Line) (u : RedUnit) (j : Nat) : Word :=
  if u.count = 0 then contribElem i n l j
  else fadd (sget (fun _ => (0 : Word)) u.acc (64 * n + j)) (contribElem i n l j)

/-- Element j of an element line is added to a unit. -/
def addElem (i : RedInput) (n : Nat) (l : Line) (u : RedUnit) (j : Nat) : RedUnit :=
  { u with acc := sset (fun _ => (0 : Word)) u.acc (64 * n + j) (elemSum i n l u j) }

theorem addElems_eq (u : RedUnit) (i : RedInput) (n : Nat) (l : Line) :
    addElems u i n l = (List.range 64).foldl (addElem i n l) u := rfl

/-- After the first m elements of a line, each of them has been added once, and no other. -/
theorem foldl_addElem (u : RedUnit) (i : RedInput) (n : Nat) (l : Line) (hu : swf (fun _ => (0 : Word)) u.acc = true) (m : Nat) :
    let v := (List.range m).foldl (addElem i n l) u
    v.count = u.count ∧ swf (fun _ => (0 : Word)) v.acc = true ∧
    ∀ j, sget (fun _ => (0 : Word)) v.acc (64 * n + j) =
      if j < m then elemSum i n l u j else sget (fun _ => (0 : Word)) u.acc (64 * n + j) := by
  induction m with
  | zero => exact ⟨rfl, hu, fun j => rfl⟩
  | succ m ih =>
    obtain ⟨hcount, hwf, hread⟩ := ih
    rw [List.range_succ, List.foldl_append, List.foldl_cons, List.foldl_nil]
    refine ⟨hcount, swf_sset hwf, fun j => ?_⟩
    by_cases hj : j = m
    · subst hj
      rw [if_pos (Nat.lt_succ_self j)]
      refine (sget_sset_same hwf).trans ?_
      rw [elemSum, hcount, hread j, if_neg (Nat.lt_irrefl j), elemSum]
    · refine (sget_sset_other hwf (by omega)).trans ?_
      rw [hread j]
      simp only [show j < m + 1 ↔ j < m by omega]

/-! ## REDUCE_UNIT_DELIVER (R209, R211) -/

section
variable {x : RedEngine} {slot unit : Nat} {y : RedSlot} {z : RedUnit}

theorem slot_of_slotOf (h : slotOf x slot = some y) : y ∈ x.slots ∧ y.slot = slot :=
  ⟨List.mem_of_find?_eq_some h, by simpa using List.find?_some h⟩

theorem unit_of_unitOf (h : unitOf x slot unit = some z) :
    z ∈ x.units ∧ z.slot = slot ∧ z.unit = unit ∧ z.freeAt = none := by
  have hz := List.find?_some h
  simp only [Bool.and_eq_true, beq_iff_eq, Option.isNone_iff_eq_none] at hz
  exact ⟨List.mem_of_find?_eq_some h, hz.1.1, hz.1.2, hz.2⟩

/-- A slot that is replaced reads as its replacement, as far as it is active. -/
theorem slotOf_setRedSlot {q r : RedSlot} (p : RedSlot → Bool)
    (hq : q.slot = slot) (h : slotOf { setRedSlot q x with slots := (setRedSlot q x).slots.filter p } slot = some r) :
    r = q := by
  subst hq
  obtain ⟨hmem, hslot⟩ := slot_of_slotOf h
  obtain ⟨w, -, hw⟩ := List.mem_map.mp (List.mem_filter.mp hmem).1
  by_cases he : w.slot = q.slot
  · rw [← hw, if_pos (by simpa using he)]
  · rw [if_neg (by simpa using he)] at hw
    exact absurd (hw ▸ hslot) he

/-- A slot that is replaced by an active one is there. -/
theorem slotOf_setRedSlot_isSome {q : RedSlot} {p : RedSlot → Bool} (hy : slotOf x slot = some y) (hq : q.slot = slot)
    (hp : p q = true) : (slotOf { setRedSlot q x with slots := (setRedSlot q x).slots.filter p } slot).isSome = true := by
  subst hq
  obtain ⟨hmem, hslot⟩ := slot_of_slotOf hy
  rw [slotOf, List.find?_isSome]
  refine ⟨q, List.mem_filter.mpr ⟨List.mem_map.mpr ⟨y, hmem, ?_⟩, hp⟩, by simp⟩
  rw [if_pos (by simpa using hslot)]

theorem le_foldl_max {α : Type} (f : α → Nat) (l : List α) (t : Nat) :
    t ≤ l.foldl (fun m a => max m (f a)) t ∧ ∀ a ∈ l, f a ≤ l.foldl (fun m a => max m (f a)) t := by
  induction l generalizing t with
  | nil => exact ⟨le_rfl, fun a ha => nomatch ha⟩
  | cons a l ih =>
    obtain ⟨hstart, hall⟩ := ih (max t (f a))
    exact ⟨(le_max_left _ _).trans hstart, List.forall_mem_cons.mpr ⟨(le_max_right _ _).trans hstart, hall⟩⟩

/-- The last line of a slot leaves no earlier than those of any delivered unit of it. -/
theorem le_lastLeaves {w : RedUnit} (hw : w ∈ x.units) (hslot : w.slot = slot) : w.freeAt.getD 0 ≤ lastLeaves x slot :=
  (le_foldl_max (fun u : RedUnit => u.freeAt.getD 0) _ 0).2 w (List.mem_filter.mpr ⟨hw, by simpa using hslot⟩)

/-- A delivered unit is on its way until its last line has left. -/
def unitLeaving (z : RedUnit) (x : RedEngine) : RedEngine := setUnit { z with freeAt := some (z.doneAt + 24 + 255) } x

theorem le_lastLeaves_unitLeaving (hz : unitOf x slot unit = some z) :
    z.doneAt + 279 ≤ lastLeaves (unitLeaving z x) slot := by
  obtain ⟨hmem, hslot, hunit, hfree⟩ := unit_of_unitOf hz
  refine le_lastLeaves (w := { z with freeAt := some (z.doneAt + 24 + 255) }) (List.mem_map.mpr ⟨z, hmem, ?_⟩) hslot
  simp [hfree]

/-- The slot of a delivered unit: with its last unit, it ends once its last line has left. -/
def slotDelivered (x : RedEngine) (y : RedSlot) (z : RedUnit) (slot unit : Nat) : RedSlot :=
  { y with
    delivered := unit :: y.delivered,
    endAt := if (unit :: y.delivered).length = y.units then some (lastLeaves (unitLeaving z x) slot) else none }

/-- An engine that has delivered a unit. -/
def engineDelivered (x : RedEngine) (y : RedSlot) (z : RedUnit) (slot unit : Nat) : RedEngine :=
  setRedSlot (slotDelivered x y z slot unit) (unitLeaving z x)

theorem slotActive_slotDelivered (hz : unitOf x slot unit = some z) {t : Nat} (ht : t ≤ z.doneAt + 279) :
    slotActive t (slotDelivered x y z slot unit) = true := by
  have hle := le_lastLeaves_unitLeaving hz
  unfold slotActive slotDelivered
  split
  · next e he =>
    dsimp only at he
    split at he
    · cases he
      exact decide_eq_true (by omega)
    · cases he
  · rfl

variable {s : State} {n k : Nat}

/-- The lines of a unit are on their way, charged to the job of its slot and on the die's credits (R167). -/
def unitSent (n k : Nat) (y : RedSlot) (z : RedUnit) (s : State) : State :=
  spendUnit (4 * colCore n (2 * k) + bit01 y.plane)
    (chargeJob y.job 7 256 { s with fab := { s.fab with wires := s.fab.wires ++ unitWires s n k y z } })

/-- REDUCE_UNIT_DELIVER of a complete unit: its lines are on their way and its slot has it delivered; the rest is counters. -/
theorem unitDeliver_of_complete (hx : x = engine s n k) (hy : slotOf x slot = some y) (hz : unitOf x slot unit = some z)
    (hcomplete : z.complete = true) :
    SameButReports (setEngine n k (engineDelivered x y z slot unit) (unitSent n k y z s)) (unitDeliver n k slot unit s) := by
  subst hx
  have hcount := bump48_same 0x1B n 0x58 0 1 (some (5, 0))
    (setEngine n k (engineDelivered (engine s n k) y z slot unit) (unitSent n k y z s))
  simp only [unitDeliver, hy, hz]
  rw [if_neg (by rw [hcomplete]; decide)]
  split
  · exact hcount
  · exact (hcount.trans (bump48_same ..)).trans (raiseCe_same ..)

theorem unitSent_fab : (unitSent n k y z s).fab = { s.fab with
    wires := s.fab.wires ++ unitWires s n k y z
    dieSpent := sset (fun _ => 0) s.fab.dieSpent (4 * colCore n (2 * k) + bit01 y.plane)
      (sget (fun _ => 0) s.fab.dieSpent (4 * colCore n (2 * k) + bit01 y.plane) + 256) } := by
  have hcharge : (chargeJob y.job 7 256 { s with fab := { s.fab with wires := s.fab.wires ++ unitWires s n k y z } }).fab =
      { s.fab with wires := s.fab.wires ++ unitWires s n k y z } := keep_chargeJob (closed_same .fab _) (by decide) rfl
  rw [unitSent, spendUnit, hcharge]

/-- Sending a unit changes the fabric and the charges only. -/
theorem unitSent_same {f : Fld} (hfab : f ≠ .fab) (henergy : f ≠ .energy) : f.same s (unitSent n k y z s) := by
  have C := closed_same f s
  have hwires : f.same s { s with fab := { s.fab with wires := s.fab.wires ++ unitWires s n k y z } } :=
    C.fab hfab.symm (by cases f <;> rfl)
  exact C.fab hfab.symm (keep_chargeJob C henergy.symm hwires)

/-- The engine of a delivered unit, without the slots that are no longer active. -/
theorem engine_unitDeliver (hs : swf (fun _ => RedEngine.reset) s.engines = true) (hx : x = engine s n k)
    (hy : slotOf x slot = some y) (hz : unitOf x slot unit = some z) (hcomplete : z.complete = true) :
    engine (unitDeliver n k slot unit s) n k = { engineDelivered x y z slot unit with
      slots := (engineDelivered x y z slot unit).slots.filter (slotActive s.now) } := by
  have hsame := unitDeliver_of_complete hx hy hz hcomplete
  have hnow : (unitSent n k y z s).now = s.now := unitSent_same (f := .now) (by decide) (by decide)
  have hengines : (unitSent n k y z s).engines = s.engines := unitSent_same (f := .engines) (by decide) (by decide)
  have hread := engine_setEngine (s := unitSent n k y z s) (n := n) (k := k) (hengines ▸ hs) (engineDelivered x y z slot unit)
  rw [hnow] at hread
  rw [hsame]
  exact hread

end

theorem length_unitWires (s : State) (n k : Nat) (y : RedSlot) (z : RedUnit) : (unitWires s n k y z).length = 256 := by
  simp [unitWires]

/-- Settles O32: the lines of descriptors and contributions by the laws of their functions, deliveries by the engine that they
leave, sums by induction over the elements of a line. -/
theorem reductionUnitsAreSummed : Obligations.ReductionUnitsAreSummed := by
  refine ⟨?lines, ?delivers, ?sums⟩
  case lines =>
    intro dt n k inp i line s u x hwf hs hnext hx hu
    have hu' : lineTaken n k inp (elapse dt s) = u := by rw [hu, hx]; rfl
    have hengine : x = engine u n k := by rw [← hu', hx, engine_lineTaken (s := elapse dt s) hs.engines]; rfl
    have hinput : i.parsed ≠ 0 → { i with queue := i.queue.drop 1 } = inputOf x (inpKey inp) := fun hparsed => by
      rw [hx, inputOf_popLine (input_of_nextLine hnext) hparsed]
    rw [exec_reduceDescriptor dt n k inp s hwf, exec_reduceContribution dt n k inp s hwf, ← hu']
    refine ⟨?head, ?busy, ?opens, ?begins, ?inactive, ?adds⟩
    case head =>
      intro h hparsed hh hkind hlast hrsvd hdevice hk hgrid hslot
      rw [reduceDescriptor_head hnext hx hparsed hh hkind hlast hrsvd hdevice hk hgrid hslot]
      rfl
    case busy =>
      intro h hparsed hh hkind hskip hlast hslot
      rw [reduceDescriptor_busy hnext hx hparsed hh hkind hskip hlast hslot]
    case opens =>
      intro h hparsed hh hkind hskip hlast hslot
      rw [reduceDescriptor_opens hnext hx hparsed hh hkind hskip hlast hslot]
      rfl
    case begins =>
      intro h y hparsed hh hkind hfault hslot hdead hbad
      rw [reduceContribution_head hnext hparsed (hh ▸ hkind), hu',
        contribHead_begins hengine hh (hu ▸ hfault) hslot hdead hbad]
    case inactive =>
      intro h hparsed hh hkind hskip hslot
      rw [reduceContribution_line hnext hparsed (hh ▸ hkind), hu',
        contribLine_inactive hengine (hinput hparsed) hh hskip hslot]
    case adds =>
      rintro h y z j rfl hparsed hh hkind hskip hslot hunit hlast
      rw [reduceContribution_line hnext hparsed (hh ▸ hkind), hu']
      refine ⟨fun hpos => ?_, fun hpos hmid => ?_, fun hend => ?_⟩
      · rw [contribLine_scales hengine (hinput hparsed) hh hskip hslot hunit hlast hpos]
      · rw [contribLine_adds hengine (hinput hparsed) hh hskip hslot hunit hlast hpos, if_neg hmid]
      · rw [contribLine_adds hengine (hinput hparsed) hh hskip hslot hunit hlast (by rw [hend]; decide), if_pos hend]
  case delivers =>
    intro dt n k slot unit y z s hwf hs hy hz hcomplete
    have hsame := unitDeliver_of_complete (s := elapse dt s) rfl hy hz hcomplete
    have hengine := engine_unitDeliver (s := elapse dt s) hs.engines rfl hy hz hcomplete
    have hslot : (slotDelivered (engine (elapse dt s) n k) y z slot unit).slot = slot := (slot_of_slotOf hy).2
    have hfab : (unitDeliver n k slot unit (elapse dt s)).fab = (unitSent n k y z (elapse dt s)).fab :=
      hsame.same (f := .fab) (by decide) (by decide)
    rw [unitSent_fab] at hfab
    refine ⟨_, exec_reduceUnitDeliver dt n k slot unit s hwf, ?_, ?_, length_unitWires .., ?_, ?_, ?_⟩
    · rw [hfab]
      rfl
    · rw [hfab]
      rfl
    · exact Eq.trans (hsame.same (f := .sram) (by decide) (by decide))
        (unitSent_same (s := elapse dt s) (f := .sram) (by decide) (by decide))
    · intro q hq
      rw [hengine] at hq
      obtain rfl := slotOf_setRedSlot _ hslot hq
      exact ⟨rfl, fun hunits => ⟨_, if_pos hunits, le_lastLeaves_unitLeaving hz⟩⟩
    · intro hnow
      rw [hengine]
      exact slotOf_setRedSlot_isSome (x := unitLeaving z (engine (elapse dt s) n k)) hy hslot (slotActive_slotDelivered hz hnow)
  case sums =>
    intro u i n l j hj hu
    obtain ⟨-, -, hread⟩ := foldl_addElem u i n l hu 64
    rw [addElems_eq, hread j, if_pos hj, elemSum]

end Sys2Proof.Machine

/-! # Cairns: sealing, voiding, restoring, reinstating and restarting (R342 to R347) -/

namespace Sys2Proof.Machine

open Sys2Proof

section
variable {s u v t w : State} {i : Nat} {c : Capture} {r : Restore} {errs : List (Nat × SymErrs)}

/-! ## Sealing (R342, R343) -/

/-- The pieces of state that a write of the Crest to memory can change: an HBM write is counted, and its count may overflow. -/
def memoryFields : List Fld := [.regs, .hub, .hbm, .faults]

theorem ne_of_not_memoryField {f g : Fld} (hf : f ∉ memoryFields) (hg : g ∈ memoryFields) : g ≠ f :=
  fun h => hf (h ▸ hg)

theorem putPhysBytes_same {f : Fld} (hf : f ∉ memoryFields) (h : f.same s u) (a : Nat) (b : List Byte) :
    f.same s (putPhysBytes a b u) :=
  keep_putPhysBytes (closed_same f s) (ne_of_not_memoryField hf (by decide)) (ne_of_not_memoryField hf (by decide))
    (ne_of_not_memoryField hf (by decide)) (ne_of_not_memoryField hf (by decide)) h

theorem writeCorePart_same {f : Fld} (hf : f ∉ memoryFields) (h : f.same s u) (i : Nat) (l : List (Nat × List Byte)) :
    f.same s (writeCorePart i l u) :=
  keep_writeCorePart (closed_same f s) (ne_of_not_memoryField hf (by decide)) (ne_of_not_memoryField hf (by decide))
    (ne_of_not_memoryField hf (by decide)) (ne_of_not_memoryField hf (by decide)) h

theorem frameNo_congr (htick : u.tick = s.tick) (hsched : u.sched = s.sched) : frameNo u = frameNo s := by
  rw [frameNo, frameNo, tickN_congr htick, ticF, ticF, hsched]

/-- The slot of a capture with its core part, its digest `d` and its seal byte written. -/
def slotSealed (i : Nat) (c : Capture) (d : Dword) (s : State) : State :=
  putPhysBytes (cairnAddr s i + 6) [1] (putPhysBytes (cairnAddr s i + 0x30) (leBytes 8 d.toNat) (writeCorePart i c.latches s))

theorem slotSealed_same {f : Fld} (hf : f ∉ memoryFields) (i : Nat) (c : Capture) (d : Dword) (s : State) :
    f.same s (slotSealed i c d s) :=
  putPhysBytes_same hf (putPhysBytes_same hf (writeCorePart_same hf (by cases f <;> rfl) _ _) _ _) _ _

/-- The seal as it is counted and logged, once the slot is written. -/
def sealReported (i : Nat) (c : Capture) (d : Dword) (s : State) : State :=
  logEvent 0x0020 0x17 0 0 ([BitVec.ofNat 8 i, 0, 0, 0] ++ leBytes 8 d.toNat) (bump48 0x17 0 0x9C 0 1 (some (4, 0))
    { slotSealed i c d s with
      cairn := { s.cairn with captures := s.cairn.captures.filter (·.slot != i) } })

theorem sealReported_frameNo (i : Nat) (c : Capture) (d : Dword) (s : State) : frameNo (sealReported i c d s) = frameNo s := by
  have hreports := (bump48_same 0x17 0 0x9C 0 1 (some (4, 0)) { slotSealed i c d s with
      cairn := { s.cairn with captures := s.cairn.captures.filter (·.slot != i) } }).trans
    (logEvent_same 0x0020 0x17 0 0 ([BitVec.ofNat 8 i, 0, 0, 0] ++ leBytes 8 d.toNat) _)
  exact frameNo_congr
    (Eq.trans (hreports.same (f := .tick) (by decide) (by decide)) (slotSealed_same (f := .tick) (by decide) i c d s))
    (Eq.trans (hreports.same (f := .sched) (by decide) (by decide)) (slotSealed_same (f := .sched) (by decide) i c d s))

theorem cairnSeal_of_waiting (hfind : (s.cairn.captures.find? (·.slot == i)) = some c) (hwait : sealReady s c = false) :
    cairnSeal i s = s := by
  simp [cairnSeal, hfind, hwait]

theorem cairnSeal_of_ready (hfind : (s.cairn.captures.find? (·.slot == i)) = some c) (hready : sealReady s c = true)
    {d : Dword} (hd : d = headDigest (writeCorePart i c.latches s) i ^^^ c.digest) :
    cairnSeal i s = ownValue ⟨0x13, i, c.tick, d, 0, frameNo s, 0, 0, false⟩ (sealReported i c d s) := by
  have hcairn : (slotSealed i c d s).cairn = s.cairn := slotSealed_same (f := .cairn) (by decide) i c d s
  rw [← sealReported_frameNo i c d s, sealReported, ← hcairn, hd]
  simp only [cairnSeal, hfind, hready]
  rfl

/-! ## VOID and RESTORE (R345, R346) -/

theorem cairnVoid_of_restoring (h : restoring s i = true) : cairnVoid i errs s = restoreReject i 8 s :=
  if_pos h

theorem cairnVoid_of_open (h : restoring s i = false) (hfind : (s.cairn.captures.find? (·.slot == i)) = some c) :
    cairnVoid i errs s = voidCapture 3 c s := by
  simp [cairnVoid, h, hfind]

theorem cairnVoid_of_sealed (h : restoring s i = false) (hfind : (s.cairn.captures.find? (·.slot == i)) = none)
    (hst : slotSt s i = 2) {ok : Bool} (hread : crestRead [(cairnAddr s i, 1)] errs s = (ok, u)) :
    cairnVoid i errs s =
      if ok then raiseCe 0x17 0 0 (i + 12) (putPhysBytes (cairnAddr u i + 6) [2] u) else u := by
  cases ok <;> simp [cairnVoid, h, hfind, hst, hread]

theorem cairnVoid_of_unsealed (h : restoring s i = false) (hfind : (s.cairn.captures.find? (·.slot == i)) = none)
    (hst : slotSt s i ≠ 2) : cairnVoid i errs s = s := by
  simp [cairnVoid, h, hfind, hst]

/-- The state in which an accepted restore begins to reinstate. -/
def restoreBegun (i : Nat) (jobs : BitVec 8) (s : State) : State :=
  { s with cairn := { s.cairn with
    restore := some ⟨i, jobs, 1, 0, s.now, 0⟩, lastSlot := i, accepted := false, t7 := slotField s i 4 1 == 1, skew := 0 } }

/-- A restore that fails a check before the digest is rejected before anything is read. -/
theorem restoreStart_of_early {jobs : BitVec 8} (h : restoreCheck s i jobs ∈ [1, 2, 3]) :
    restoreStart i jobs errs s = restoreReject i (restoreCheck s i jobs) s := by
  have hpos : restoreCheck s i jobs ≠ 0 := by
    rintro h0
    simp [h0] at h
  obtain ⟨n, hn⟩ := Nat.exists_eq_succ_of_ne_zero hpos
  rw [hn] at h ⊢
  simp only [restoreStart, hn, List.contains_iff_mem.mpr h, if_true]

/-- A restore that comes to the digest has its slot read, and is rejected where a line cannot be read. -/
theorem restoreStart_of_read {jobs : BitVec 8} {ok : Bool} (h : restoreCheck s i jobs ∉ [1, 2, 3])
    (hread : crestRead (cairnExtents s i) errs s = (ok, u)) :
    restoreStart i jobs errs s =
      if ok = false then restoreReject i 4 u
      else if restoreCheck s i jobs ≠ 0 then restoreReject i (restoreCheck s i jobs) u
      else if slotField u i 4 1 = 1 then
        t7Set (slotField (restoreBegun i jobs u) i 0x38 8) (t7Recs (restoreBegun i jobs u) i) (restoreBegun i jobs u)
      else restoreBegun i jobs u := by
  have hlate : [1, 2, 3].contains (restoreCheck s i jobs) = false := by simpa using h
  simp only [restoreStart, hlate, Bool.false_eq_true, if_false, hread]
  cases ok with
  | false => rfl
  | true =>
    cases restoreCheck s i jobs with
    | zero => simp [restoreBegun]
    | succ n => rfl

/-! ## Reinstating (R347) -/

theorem reinstateDone_of_unread {ps : List Nat} (hrestore : s.cairn.restore = some r) (hphase : r.phase = 1)
    (hps : ps = partsOfJobs s r.jobs) (hread : reinstRead r.slot ps (firstJob r.jobs) errs s = (false, u)) :
    reinstateDone errs s = restoreReject r.slot 7 { u with cairn := { u.cairn with restore := none } } := by
  subst hps
  simp [reinstateDone, hrestore, hphase, hread]

/-- What reinstating leaves of a training Cairn: the partitions reset, the core parts and the jobs' J back, and each shard
decided. -/
theorem reinstateDone_of_training {ps named : List Nat} (hrestore : s.cairn.restore = some r) (hphase : r.phase = 1)
    (hps : ps = partsOfJobs s r.jobs) (hread : reinstRead r.slot ps (firstJob r.jobs) errs s = (true, u))
    (hmode : slotField u r.slot 4 1 = 0)
    (hnamed : named = ((List.range 8).filter fun j => r.jobs.getLsbD j))
    (hv : v = restoreParts ps { u with cairn := { u.cairn with restore := none } })
    (ht : t = restoreJobs r.slot 0 named (restoreCores r.slot (ps.flatMap fun p => regionCores v (.partition p)) v))
    (htrain : ∀ j ∈ named, (jobOf t j).isSome = true → isTraining t j = true) (hw : w = decideShards (reinsts t r.slot) t) :
    reinstateDone errs s =
      { w with cairn := { w.cairn with restore := some { r with phase := 2, readyAt := w.now } } } := by
  have hserving : (named.any fun j => (jobOf t j).isSome && !isTraining t j) = false := by
    simpa [List.any_eq_false] using htrain
  -- The state without its restore gets a name, so that the unfolded function stays small.
  obtain ⟨x, hx⟩ : ∃ x, x = { u with cairn := { u.cairn with restore := none } } := ⟨_, rfl⟩
  rw [← hx] at hv
  subst hps hnamed
  dsimp only at hx
  simp only [reinstateDone, hrestore, hphase, hread, hmode, ne_eq, not_true_eq_false, if_false, ← hx, ← hv,
    ← ht, hserving, Nat.reduceEqDiff, Bool.false_eq_true, ← hw]

/-! ## Restart (R347) -/

theorem trainingOf_congr (hsched : u.sched = s.sched) (jobs : BitVec 8) : trainingOf u jobs = trainingOf s jobs := by
  simp only [trainingOf, isTraining, jobOf, hsched]

theorem runParts_sched (ps : List Nat) (s : State) : (runParts ps s).sched = s.sched :=
  keep_runParts (closed_same .sched s) (by decide) (by decide) rfl

theorem restoreRestart_of_early (hrestore : s.cairn.restore = some r) (hdue : restartDue s r = false) :
    restoreRestart s = s := by
  simp [restoreRestart, hrestore, hdue]

theorem restoreRestart_of_due (hrestore : s.cairn.restore = some r) (hphase : r.phase = 2) (hdue : restartDue s r = true)
    (htrain : trainingOf s r.jobs ≠ []) :
    restoreRestart s = runParts (partsOfJobs s r.jobs)
      { s with
        cairn := { s.cairn with restore := some { r with phase := 3, restart := tickN s } },
        pair := { s.pair with own := [], peer := [], st := if s.pair.st = 2 then 1 else s.pair.st } } := by
  have hjobs (ps : List Nat) (x : CairnSt) (y : PairSt) :
      trainingOf (runParts ps { s with cairn := x, pair := y }) r.jobs = trainingOf s r.jobs :=
    trainingOf_congr (runParts_sched ps _) r.jobs
  simp [restoreRestart, hrestore, hphase, hdue, hjobs, htrain]

end

/-- Settles O53: each command by the law of its function; sealing leaves alone the frame number and, but for the capture that
ends, the Cairn state, and running partitions leaves alone which jobs train. -/
theorem cairnsAreSealedAndRestored : Obligations.CairnsAreSealedAndRestored := by
  refine ⟨⟨?seals, ?void, ?restore⟩, ?reinstate, ?restart⟩
  case seals =>
    intro dt i c s u d hwf hfind hu hd
    rw [exec_cairnSeal dt i s hwf]
    refine ⟨fun hwait => ?_, fun hready => ?_⟩
    · rw [cairnSeal_of_waiting (s := elapse dt s) hfind hwait]
    · rw [cairnSeal_of_ready (s := elapse dt s) hfind hready (hu ▸ hd), hu]
      rfl
  case void =>
    intro src errs w s hfit
    rw [exec_void ⟨src, errs⟩ w s hfit]
    refine ⟨fun h => ?_, fun c h hfind => ?_, fun h hfind => ⟨fun ok u hst hread => ?_, fun hst => ?_⟩⟩
    · rw [cairnVoid_of_restoring h]
      rfl
    · rw [cairnVoid_of_open h hfind]
    · rw [cairnVoid_of_sealed h hfind hst hread]
    · rw [cairnVoid_of_unsealed h hfind hst]
  case restore =>
    rintro src w errs i jobs r s hfit rfl rfl rfl
    rw [exec_restore ⟨src, errs⟩ w s hfit, cairnRestore]
    refine ⟨fun hearly => ?_, fun ok u v hlate hread hv => ?_⟩
    · rw [restoreStart_of_early hearly]
      rfl
    · rw [restoreStart_of_read hlate hread, hv]
      rfl
  case reinstate =>
    intro dt errs r s u ps hwf hrestore hphase hps
    rw [exec_reinstateDone dt errs s hwf]
    refine ⟨fun hread => ?_, fun v t w named hread hmode hnamed hv ht htrain hw => ?_⟩
    · rw [reinstateDone_of_unread (s := elapse dt s) hrestore hphase hps hread]
      rfl
    · rw [reinstateDone_of_training (s := elapse dt s) hrestore hphase hps hread hmode hnamed hv ht htrain hw]
  case restart =>
    intro r s hwf hrestore hphase
    rw [exec_restoreRestart s hwf]
    refine ⟨fun hdue => ?_, fun hdue htrain => ?_⟩
    · rw [restoreRestart_of_early hrestore hdue]
    · rw [restoreRestart_of_due hrestore hphase hdue htrain]

end Sys2Proof.Machine

/-! # The links: flits taken, frames launched and relaunched (R257 to R270) -/

namespace Sys2Proof.Machine

open Sys2Proof

section
variable {s t u : State} {cls inst : Nat}

/-! ## Registers that no cause reaches -/

/-- The registers that one address shows by item are those of `s`: causes and counts are kept in bank 0. -/
def SameBanked (s t : State) : Prop := s.Canonical → t.Canonical ∧ ∀ k, 2 ^ 32 ≤ k → rget t k = rget s k

theorem SameBanked.refl (s : State) : SameBanked s s := fun hs => ⟨hs, fun _ _ => rfl⟩

theorem SameBanked.trans (h : SameBanked s t) (g : SameBanked t u) : SameBanked s u := by
  intro hs
  obtain ⟨ht, hst⟩ := h hs
  obtain ⟨hu, htu⟩ := g ht
  exact ⟨hu, fun k hk => (htu k hk).trans (hst k hk)⟩

theorem faults_banked (s : State) (f : Faults) : SameBanked s { s with faults := f } :=
  fun hs => ⟨closed_canonical.faults trivial hs, fun _ _ => rfl⟩

theorem rset_banked {j : Nat} (hj : j < 2 ^ 32) (v : Word) (s : State) : SameBanked s (rset j v s) :=
  fun hs => ⟨closed_canonical.rset trivial hs, fun _ hk => rget_rset_other hs.regs (by omega) v⟩

theorem bump48Quiet_banked {j : Nat} (hj : j + 4 < 2 ^ 32) (n : Nat) (s : State) : SameBanked s (bump48Quiet j n s) := by
  unfold bump48Quiet
  dsimp only
  split
  all_goals exact (rset_banked (by omega) _ s).trans (rset_banked hj _ _)

/-- A page's registers of bank 0 lie below the banked ones. -/
def pageFits (cls inst : Nat) : Prop := regKey cls inst 0x1000 0 ≤ 2 ^ 32

theorem recordCause_banked (hpage : pageFits cls inst) (bit f detail : Nat) (s : State) :
    SameBanked s (recordCause cls inst bit f detail s) := by
  intro hs
  refine ⟨keep_recordCause closed_canonical trivial trivial hs, fun k hk => ?_⟩
  have hkey {off : Nat} (hoff : off < 0x1000) : k ≠ regKey cls inst off 0 := by
    simp only [pageFits, regKey, regAddr] at hpage ⊢
    omega
  rw [rget_recordCause hs.regs _ _ _ _ _ (hkey (by decide)) (hkey (by decide)) (hkey (by decide)),
    rget_causeCounted hs.regs, if_neg (hkey (by decide)), if_neg (hkey (by decide))]

theorem pageFits_fault : pageFits 0x13 0 := by unfold pageFits; decide

theorem ite_banked {p : Prop} [Decidable p] (h : SameBanked s t) : SameBanked s (if p then t else s) := by
  split
  · exact h
  · exact .refl s

theorem logEvent_banked (code cls inst fclass : Nat) (d : List Byte) (s : State) :
    SameBanked s (logEvent code cls inst fclass d s) := by
  unfold logEvent
  extract_lets f pos gone e logged k was counted lost
  have hlogged : SameBanked s logged := faults_banked s _
  split
  · have hlost : SameBanked s lost := hlogged.trans ((bump48Quiet_banked (by decide) _ _).trans
      (ite_banked (recordCause_banked pageFits_fault _ _ _ _)))
    exact hlost.trans (ite_banked (recordCause_banked pageFits_fault _ _ _ _))
  · exact hlogged

theorem dropReport_banked (key : Nat) (s : State) : SameBanked s (dropReport key s) := by
  unfold dropReport
  extract_lets k was counted storm dropped
  have hdropped : SameBanked s dropped := (bump48Quiet_banked (by decide) _ _).trans
    ((recordCause_banked pageFits_fault _ _ _ _).trans (ite_banked (recordCause_banked pageFits_fault _ _ _ _)))
  split
  · exact hdropped
  · exact (hdropped.trans (faults_banked _ _)).trans (logEvent_banked _ _ _ _ _ _)

theorem enqueueReport_banked (r : Report) (s : State) : SameBanked s (enqueueReport r s) := by
  unfold enqueueReport
  split
  · exact dropReport_banked _ s
  · exact faults_banked s _

theorem enqueueReports_banked (mk : Nat → Report) (l : List Nat) (s : State) : SameBanked s (enqueueReports mk l s) := by
  induction l generalizing s with
  | nil => exact .refl s
  | cons k l ih => exact (enqueueReport_banked _ s).trans (ih _)

theorem record_banked (hpage : pageFits cls inst) (bit f detail : Nat) (keys : List Nat) (s : State) :
    SameBanked s (record cls inst bit f detail keys s) := by
  unfold record
  extract_lets masked recorded ef mk
  have hrecorded : SameBanked s recorded := recordCause_banked hpage _ _ _ s
  split
  · exact hrecorded
  · split
    · exact hrecorded.trans (faults_banked _ _)
    · exact hrecorded.trans (enqueueReports_banked _ _ _)

theorem raiseCe_banked (hpage : pageFits cls inst) (bit detail : Nat) (s : State) :
    SameBanked s (raiseCe cls inst bit detail s) := by
  unfold raiseCe raise
  split
  · exact .refl s
  · exact record_banked hpage _ _ _ _ s

theorem bump48_banked (hpage : pageFits cls inst) {off : Nat} (hoff : off + 4 < 0x1000) (n : Nat) (o : Option (Nat × Nat))
    (s : State) : SameBanked s (bump48 cls inst off 0 n o s) := by
  have hkey : regKey cls inst off 0 + 4 < 2 ^ 32 := by
    simp only [pageFits, regKey, regAddr] at hpage ⊢
    omega
  unfold bump48
  extract_lets k was counted
  have hcounted : SameBanked s counted := bump48Quiet_banked hkey n s
  split
  · split
    · exact hcounted.trans (raiseCe_banked hpage _ _ _)
    · exact hcounted
  · exact hcounted

/-! ## The charge of a frame (Table 14.1) -/

/-- The charge of a slot rests on the charge table, the partitions and the energy so far. -/
theorem chargeSlots_congr {l : List TxSlot} (henergy : u.energy = s.energy) (hsched : u.sched = s.sched)
    (htable : rget u (regKey 0x12 0 0x54 12) = rget s (regKey 0x12 0 0x54 12)) :
    (chargeSlots l u).energy = (chargeSlots l s).energy := by
  induction l generalizing u s with
  | nil => exact henergy
  | cons x l ih =>
    have hpart (c : Nat) : partOf u c = partOf s c := by simp only [partOf, partOfRidge, hsched]
    unfold chargeSlots
    split
    · simp only [rget] at htable
      cases x.job with
      | none => exact ih (by simp only [chargeJob, chargePart, rget, hpart, henergy, htable]) hsched htable
      | some j => exact ih (by simp only [chargeJob, chargePart, charge, rget, hpart, henergy, htable]) hsched htable
    · exact ih henergy hsched htable

@[simp] theorem chargeSlots_out (l : List TxSlot) (s : State) : (chargeSlots l s).out = s.out :=
  keep_chargeSlots (closed_same .out s) (by decide) rfl

@[simp] theorem link_chargeSlots (l : List TxSlot) (s : State) (k : Nat) : link (chargeSlots l s) k = link s k := by
  have hlinks : (chargeSlots l s).links = s.links := keep_chargeSlots (closed_same .links s) (by decide) rfl
  rw [link, link, hlinks]

end

section
variable {s t : State} {c l n i : Nat} {ch : Chan} {x : Link}

/-! ## Flits taken (R260, R266, R270) -/

/-- The state once a Col die has taken a flit that is no seal: the flit is off its wire, and its credit on the way back. -/
def colTaken (c : Nat) (ch : Chan) (y : EdgeWire) (s : State) : State :=
  { s with fab := { s.fab with
    edge := eraseFirst (fun z => z == y) s.fab.edge, credits := s.fab.credits ++ [⟨c, ch, edgeInput c, s.now + 10⟩] } }

section
variable {y : EdgeWire}
  (hdue : (s.fab.edge.find? fun y => y.core == c && y.ch == ch && decide (y.due ≤ s.now)) = some y)
  (hcol : colOf c = some (n, i)) (hflit : y.flit.isSeal = false)
include hdue hcol hflit

theorem colTake_for_link (hroute : y.flit.route.toNat < 48) :
    colTake c ch s = takeForLink c (4 * n + i / 2) ch y.flit (colTaken c ch y s) := by
  simp only [colTake, hdue, hcol, hflit, hroute, Bool.false_eq_true, if_false, if_true, colTaken]

theorem colTake_for_engine (hroute : 48 ≤ y.flit.route.toNat) :
    colTake c ch s = engineArrive n (y.flit.route.toNat % 4) (.grid i) ⟨y.flit.job, y.flit.payload, y.flit.last, c⟩
      (colTaken c ch y s) := by
  simp only [colTake, hdue, hcol, hflit, Nat.not_lt.mpr hroute, Bool.false_eq_true, if_false, colTaken]

end

theorem takeForLink_of_frozen (h : (link s l).frozen = true) (f : Flit) : takeForLink c l ch f s = linkDrop l 1 s :=
  if_pos h

theorem takeForLink_of_room (hgoes : (link s l).frozen = false) (hroom : (link s l).outQ.length < 64) (f : Flit) :
    takeForLink c l ch f s = noteQHigh l (setLink l { link s l with
      outQ := txInsert ⟨⟨netHeader ch f, slotKind ch, 0, false, slotPayload ch f⟩, s.now, c, f.job⟩ (link s l).outQ } s) := by
  simp only [takeForLink, hgoes, Nat.not_le.mpr hroom, Bool.false_eq_true, if_false]

theorem txLate_of_waiting {y : TxSlot} (h : ((link s l).outQ.find? fun y => decide (y.take + 32 ≤ s.now)) = some y) :
    txLate l s = colSlip l 2 (l % 4 + 4 * (y.slot.net.toNat % 64)) [partOf s y.core]
      (setLink l { link s l with outQ := eraseFirst (fun z => z == y) (link s l).outQ } s) := by
  simp only [txLate, h]

/-! ## Frames sent (R257, R267) -/

/-- A link that has launched the frame `f`, with the flits `fl` and the service slots `sv` (R257, R260, R267). -/
def linkLaunched (s : State) (x : Link) (f : LinkFrame) (fl : List TxSlot) (sv : List Slot) : Link :=
  { x with
    outQ := x.outQ.filter fun y => !fl.contains y, svcQ := x.svcQ.drop sv.length, faultFirst := false, txSeq := x.txSeq + 1,
    lastLaunch := s.now, markSent := if f.mark then (tickN s).toNat + 1 else x.markSent,
    sent := ⟨f, s.now, false⟩ :: keepSent s.now x.sent }

/-- A link that has launched a kept frame again (R267). -/
def linkRelaunched (s : State) (x : Link) (y : Sent) : Link :=
  { x with
    relaunch := none, lastLaunch := s.now, sent := x.sent.map fun z => if z == y then { z with replayed := true } else z }

/-- A frame goes out on a link, which is then as `x`, and is counted. -/
def frameSent (l : Nat) (f : LinkFrame) (x : Link) (s : State) : State :=
  bump48 9 l 0x60 0 1 (some (8, 0)) (emit (.linkFrame l f) (setLink l x s))

theorem frameSent_same (l : Nat) (f : LinkFrame) (x : Link) (s : State) :
    SameButReports (emit (.linkFrame l f) (setLink l x s)) (frameSent l f x s) := bump48_same ..

theorem frameLaunch_of_next {f : LinkFrame} {fl : List TxSlot} {sv : List Slot} (hx : x = link s l)
    (hmay : mayLaunch s x = true) (hnone : x.relaunch = none) (hnext : (f, fl, sv) = nextFrame s x) :
    frameLaunch l s = chargeSlots fl (frameSent l f (linkLaunched s x f fl sv) s) := by
  subst hx
  simp only [frameLaunch, frameSent, linkLaunched, hmay, hnone, ← hnext]
  rfl

theorem relaunch_of_asked {q : BitVec 10} {d : Nat} {y : Sent} (hx : x = link s l) (hmay : mayLaunch s x = true)
    (hasked : x.relaunch = some (q, d)) (hdue : d ≤ s.now)
    (hkept : ((keepSent s.now x.sent).find? fun y => y.frame.seq == q && !y.replayed) = some y) :
    relaunch l s = bump48 9 l 0x70 0 1 (some (8, 2))
      (frameSent l (if x.frozen then strippedFrame y.frame else y.frame) (linkRelaunched s x y) s) := by
  subst hx
  simp only [relaunch, hasked, hmay, Nat.not_lt.mpr hdue, hkept]
  rfl

/-- A frame that goes out on a link touches no other link, and no energy. -/
theorem sent_of_reports (hs : s.Canonical) {f : LinkFrame} (h : SameButReports (emit (.linkFrame l f) (setLink l x s)) t) :
    t.out = s.out ++ [.linkFrame l f] ∧ link t l = x ∧ t.energy = s.energy ∧ ∀ k, k ≠ l → link t k = link s k := by
  have hlinks : t.links = (setLink l x s).links := h.same (f := .links) (by decide) (by decide)
  have hlink (k : Nat) : link t k = link (setLink l x s) k := by rw [link, link, hlinks]
  refine ⟨h.same (f := .out) (by decide) (by decide), ?_, h.same (f := .energy) (by decide) (by decide), fun k hk => ?_⟩
  · rw [hlink, link_setLink hs.links]
  · rw [hlink, link_setLink_other hs.links hk]

/-- A launched frame is charged as the table of the launch has it, which the count of the frame leaves alone. -/
theorem chargeSlots_frameSent (hs : s.Canonical) (hl : l < 56) (f : LinkFrame) (fl : List TxSlot) :
    (chargeSlots fl (frameSent l f x s)).energy = (chargeSlots fl s).energy := by
  have hreports := frameSent_same l f x s
  have hpage : pageFits 9 l := by
    simp only [pageFits, regKey, regAddr]
    omega
  have hemit : (emit (.linkFrame l f) (setLink l x s)).Canonical :=
    closed_canonical.out trivial (closed_canonical.links trivial hs)
  have hbanked := (bump48_banked hpage (by decide : 0x60 + 4 < 0x1000) 1 (some (8, 0)) _ hemit).2
  exact chargeSlots_congr (hreports.same (f := .energy) (by decide) (by decide))
    (hreports.same (f := .sched) (by decide) (by decide)) (hbanked _ (by decide))

theorem link_lt_of_wf {dt : Nat} (h : (Instr.linkFrameLaunch dt l).wf = true) : l < 56 := by
  simpa [Instr.wf, Instr.units, unitsOk] using h

end

/-- Settles O38: each command by the law of its function. A frame that goes out changes its own link and the counters, and the
charge table, which lies in banked registers, is out of reach of the counters and of the causes that they raise. -/
theorem framesAreLaunched : Obligations.FramesAreLaunched := by
  refine ⟨⟨?take, ?late⟩, ?frame⟩
  case take =>
    rintro dt c ch y n i s u hwf hdue hcol hflit rfl
    rw [exec_colTake dt c ch s hwf]
    refine ⟨fun hroute hgoes hroom => ?_, fun hroute hfrozen => ?_, fun hroute => ?_⟩
    · rw [colTake_for_link (s := elapse dt s) hdue hcol hflit hroute,
        takeForLink_of_room (s := colTaken c ch y (elapse dt s)) hgoes hroom]
      rfl
    · rw [colTake_for_link (s := elapse dt s) hdue hcol hflit hroute,
        takeForLink_of_frozen (s := colTaken c ch y (elapse dt s)) hfrozen]
      rfl
    · rw [colTake_for_engine (s := elapse dt s) hdue hcol hflit hroute]
      rfl
  case late =>
    intro dt l y s hwf hlate
    rw [exec_txLate dt l s hwf, txLate_of_waiting (s := elapse dt s) hlate]
    rfl
  case frame =>
    intro dt l x s hwf hs hx hmay
    have hs' : (elapse dt s).Canonical := closed_canonical.elapse trivial hs
    refine ⟨fun f fl sv hnone hnext => ?launch, fun q d y hasked hdue hkept => ?relaunch⟩
    case launch =>
      have hsent := frameSent_same l f (linkLaunched (elapse dt s) x f fl sv) (elapse dt s)
      obtain ⟨hout, hlink, -, hother⟩ := sent_of_reports hs' hsent
      rw [exec_linkFrameLaunch dt l s hwf, frameLaunch_of_next (s := elapse dt s) hx hmay hnone hnext]
      refine ⟨_, rfl, ?_, ?_, ?_, fun k hk => ?_⟩
      · rw [chargeSlots_out, hout]
        rfl
      · rw [link_chargeSlots, hlink]
        rfl
      · rw [chargeSlots_frameSent hs' (link_lt_of_wf hwf)]
        exact chargeSlots_congr rfl rfl rfl
      · rw [link_chargeSlots, hother k hk]
        rfl
    case relaunch =>
      rw [exec_replayRelaunch dt l s hwf, relaunch_of_asked (s := elapse dt s) hx hmay hasked hdue hkept]
      obtain ⟨hout, hlink, henergy, hother⟩ :=
        sent_of_reports hs' ((frameSent_same l _ _ (elapse dt s)).trans (bump48_same ..))
      exact ⟨_, rfl, hout, hlink, henergy, hother⟩

end Sys2Proof.Machine

/-! # The rings: a publication that finds its ring listed twice -/

namespace Sys2Proof.Machine

open Sys2Proof

/-! ## The counterexample to `VersionInstructionsMoveTheRing` -/

/-- VPUB of tag 7 in ring 2: class 6, op 2 in [46:44], tag in [43:35], ring in [34:29]. -/
def publishWord : Dword := BitVec.ofNat 64 (2 ^ 60 * 6 + 2 ^ 44 * 2 + 2 ^ 35 * 7 + 2 ^ 29 * 2)

/-- A stream that is parked. -/
def parkedStream : StreamSt := ⟨0, 100, some 100, none, none⟩

/-- A core with the VPUB at the head of its forward stream and the tag's slot FILLING. Its list of last publications has two
entries for ring 2: 0xFE, which a read finds, and 5 behind it. -/
def twiceListedCore : Core :=
  { Core.reset with
    ist := [(0, publishWord)], f := .reset 100, b := parkedStream, u := parkedStream, valid := BitVec.allOnes 512,
    slots := [⟨7, 2, .filling, 0xFD, 0⟩], ringLast := [(2, 0xFE), (2, 5)] }

/-- The core runs at cycle 100 under an image that gives every Ridge to partition 0. -/
def twiceListed : State :=
  { State.reset with
    regs := [(regKey 3 0 8 0, 1), (regKey 4 0 8 0, 1), (regKey 5 0 8 0, 1), (regKey 6 0 8 0, 1)],
    dev := { DevSt.reset with up := true, trotos := true }, now := 100, cores := [(0, twiceListedCore)],
    parts := [(0, ⟨1, none, false, false⟩)],
    sched := { Sched.reset with active := some ⟨0, 4096, 1, 0, 1, 4, 1, 0, List.replicate 16 0, [⟨0, false, 1, 3⟩]⟩ },
    tick := { Tick.reset with running := true, boundAt := 96, frameAt := 64, frameDone := true } }

theorem twiceListed_canonical : twiceListed.Canonical := by constructor <;> decide

theorem headIssues_twiceListed : HeadIssues 6 2 0 0 .f publishWord twiceListed := by
  unfold HeadIssues
  decide +kernel

theorem ringSlot_twiceListed :
    ringSlot (issuedCore twiceListed 100 0 .f publishWord) (tagTag publishWord) = some ⟨7, 2, .filling, 0xFD, 0⟩ := by
  decide +kernel

/-- The new version tag, 0xFF, is what an unlisted ring reads as: storing it takes the first entry away, and the second shows. -/
theorem verEffect_twiceListed :
    sget (fun _ => (0xFF : Byte)) (verEffect publishWord (issuedCore twiceListed 100 0 .f publishWord)).ringLast
      (verRing publishWord) = 5 := by
  decide +kernel

theorem lastPublished_twiceListed :
    sget (fun _ => (0xFF : Byte)) (issuedCore twiceListed 100 0 .f publishWord).ringLast (verRing publishWord) = 0xFE := by
  decide +kernel

theorem issueEffect_ver {c t origin : Nat} {st : Stream} {w : Dword} {u : State} (hcls : iClass w = 6) :
    issueEffect c t origin st w u = modCore c (verEffect w) u := by
  simp [issueEffect, hcls]

/-- Refutes O19: the list of a core's last publications is a sparse list of its own, of which `State.Canonical` says nothing.
Where it names a ring twice, the first time with 0xFE, VPUB does not leave the next tag 0xFF as the ring's last one. The model
writes that list by `sset` alone, which makes no such list from a canonical one: what the statement lacks is the premise that
the core's `ringLast` is in canonical form. -/
theorem not_versionInstructionsMoveTheRing : ¬ Obligations.VersionInstructionsMoveTheRing := by
  rintro ⟨hslot, -⟩
  obtain ⟨-, -, hpublish⟩ := hslot 0 0 .f publishWord _ twiceListed _ twiceListed_canonical rfl ringSlot_twiceListed
  obtain ⟨t, ht, -, hlast⟩ := hpublish headIssues_twiceListed
  obtain ⟨u, hu, hcore, -⟩ := exec_changes_core (row := .vpub) (by simp [coreRows]) headIssues_twiceListed
    twiceListed_canonical (issueEffect_ver (class_of_headIssues headIssues_twiceListed).1)
  obtain rfl := Host.Outcome.next.inj (ht.symm.trans hu)
  have hnext : (5 : Byte) = 0xFE + 1 := by
    calc (5 : Byte)
      _ = sget (fun _ => 0xFF) (core t 0).ringLast (verRing publishWord) := by rw [hcore]; exact verEffect_twiceListed.symm
      _ = 0xFE + 1 := by rw [hlast]; exact congrArg (· + 1) lastPublished_twiceListed
  exact absurd hnext (by decide)

end Sys2Proof.Machine

/-! # The memory system: windows, key slots, scrub and sweeps (R230, R231, R242 to R248) -/

namespace Sys2Proof.Machine

open Sys2Proof

section
variable {s t u : State} {src : Src} {k : Nat}

/-! ## Windows (R230, R231) -/

/-- What a write of a window's register leaves in it: the bits that the register has. -/
def winBits (r : WinReg) (v : Word) : Word := if r = .attr then v &&& 0x7FFFFF else v &&& 0xFFFFFFF

section
variable {w : Nat} {r : WinReg} {v : Word}

theorem windowWrite_of_busy (hon : (window s w).enable = true) (hbusy : winBusy s (window s w) = true) :
    windowWrite w r v s = raiseCe 6 (w / 32) 12 (2 * (w % 32) + 64) s := by
  simp [windowWrite, hon, hbusy]

theorem windowWrite_of_free (hfree : (window s w).enable = false ∨ winBusy s (window s w) = false)
    (ht : t = setReg 6 (w / 32) (winOff w r) (winBits r v) s) :
    windowWrite w r v s =
      if (window t w).enable && !winValid s (window t w) then raiseCe 6 (w / 32) 12 (2 * (w % 32)) s else t := by
  have hopen : ((window s w).enable && winBusy s (window s w)) = false := by
    rwa [Bool.and_eq_false_iff]
  subst ht
  rw [windowWrite, hopen]
  rfl

end

/-! ## Key commands (R246, R247, Table 8.14) -/

/-- The four writes of KEY_CMD come from one sender and name one slot. -/
theorem fit_keySwitch (h : fit (.keyLoad src k) s = true) : fit (.keySwitch src k) s = true := h

theorem fit_keySweep (h : fit (.keyLoad src k) s = true) : fit (.keySweep src k) s = true := h

theorem fit_keyClear (h : fit (.keyLoad src k) s = true) : fit (.keyClear src k) s = true := h

/-- The generation that LOAD fills: the one that is not current where the current one is loaded. -/
def loadGen (x : KeySlot) : Bool := if genLoaded x x.current then !x.current else x.current

theorem keyLoad_of_room (hroom : genLoaded (keySlot s k) (loadGen (keySlot s k)) = false)
    (hstill : (keySlot s k).sweep = none) :
    keyLoad k s = zeroKeyData k (setReg 0x1C k (labelOff (loadGen (keySlot s k))) (reg s 0x1C k 0x48)
      (setKeySlot k (setGen (loadGen (keySlot s k)) (some (keyData s k)) (keySlot s k)) s)) := by
  rw [loadGen] at hroom
  simp [keyLoad, loadGen, hroom, hstill]

theorem keyLoad_of_full (hfull : genLoaded (keySlot s k) (loadGen (keySlot s k)) = true) :
    keyLoad k s = keyReject k 1 1 s := by
  rw [loadGen] at hfull
  simp [keyLoad, hfull]

theorem keyLoad_of_sweeping (hroom : genLoaded (keySlot s k) (loadGen (keySlot s k)) = false)
    (hsweep : (keySlot s k).sweep.isSome = true) : keyLoad k s = keyReject k 1 3 s := by
  rw [loadGen] at hroom
  simp [keyLoad, hroom, hsweep]

theorem keySwitch_of_empty (hempty : genLoaded (keySlot s k) (!(keySlot s k).current) = false) :
    keySwitch k s = keyReject k 2 2 s := by
  simp [keySwitch, hempty]

section
variable (hother : genLoaded (keySlot s k) (!(keySlot s k).current) = true)
include hother

theorem keySwitch_of_sweeping (hsweep : (keySlot s k).sweep.isSome = true) : keySwitch k s = keyReject k 2 3 s := by
  simp [keySwitch, hother, hsweep]

theorem keySwitch_of_erasing (hstill : (keySlot s k).sweep = none) (herase : (keySlot s k).erasePending = true) :
    keySwitch k s = keyReject k 2 5 s := by
  simp [keySwitch, hother, hstill, herase]

theorem keySwitch_of_ready (hstill : (keySlot s k).sweep = none) (herase : (keySlot s k).erasePending = false) :
    keySwitch k s = setKeySlot k { keySlot s k with current := !(keySlot s k).current, switched := true } s := by
  simp [keySwitch, hother, hstill, herase]

theorem keySweep_of_sweeping (hswitched : (keySlot s k).switched = true) (hsweep : (keySlot s k).sweep.isSome = true) :
    keySweep k s = keyReject k 3 3 s := by
  simp [keySweep, hswitched, hother, hsweep]

/-- The sweep starts over every HBM window that names the slot, with no line passed. -/
theorem keySweep_of_ready (hswitched : (keySlot s k).switched = true) (hstill : (keySlot s k).sweep = none) :
    keySweep k s = setKeySlot k { keySlot s k with
      sweep := some ⟨((windowsNaming s k).filter fun w => !w.hub).map (·.idx), []⟩, swept := 0,
      total := ((windowsNaming s k).filter fun w => !w.hub).foldl (fun n w => n + (w.limit + 1 - w.base)) 0 } s := by
  simp [keySweep, hswitched, hother, hstill]

end

theorem keySweep_of_unswitched (h : (keySlot s k).switched = false) : keySweep k s = keyReject k 3 4 s := by
  simp [keySweep, h]

theorem keySweep_of_empty (hswitched : (keySlot s k).switched = true)
    (hempty : genLoaded (keySlot s k) (!(keySlot s k).current) = false) : keySweep k s = keyReject k 3 2 s := by
  simp [keySweep, hswitched, hempty]

theorem keyClear_of_unnamed (h : (windowsNaming s k).isEmpty = true) :
    keyClear k s = setReg 0x1C k 0x4C 0 (setReg 0x1C k 0x50 0 (setKeySlot k { keySlot s k with
      g0 := none, g1 := none, current := false, erasePending := false, oldReads := [] } s)) := by
  simp only [keyClear, h, Bool.not_true, Bool.false_eq_true, if_false]

theorem keyClear_of_named (h : (windowsNaming s k).isEmpty = false) : keyClear k s = keyReject k 4 6 s := by
  simp [keyClear, h]

/-! ## Patrol scrub (R244) -/

/-- The stack once its controller has read the line that it scrubs, before what the read finds is acted on. -/
def scrubRead (k line : Nat) (errs : SymErrs) (s : State) : State :=
  countHbmRead k (hbmParity k line errs (setStack k { stackOf s k with scrubbed := (line + 1) % 2 ^ 29 } s))

section
variable {line : Nat} {errs : SymErrs} {y : List Nat}
  (hon : (reg s 7 k 0x44).getLsbD 2 = true) (htrained : (stackOf s k).trained = true)
  (hawake : (stackOf s k).selfRefresh = false) (hline : (stackOf s k).scrubbed = line)
include hon htrained hawake hline

/-- The controller scrubs: its patrol is on, its stack is trained and awake, and the line is the next one. -/
theorem scrub_goes : (!(reg s 7 k 0x44).getLsbD 2 || !(stackOf s k).trained || (stackOf s k).selfRefresh ||
    decide (line ≠ (stackOf s k).scrubbed)) = false := by
  rw [hon, htrained, hawake, hline]
  simp

variable (hu : u = scrubRead k line errs s)
include hu

theorem scrubLine_of_good (h : rsDecode (hbmSymbols u k line errs) = .good y) : scrubLine k line errs s = u := by
  rw [hu, scrubRead] at h ⊢
  simp only [scrubLine, scrub_goes hon htrained hawake hline, Bool.false_eq_true, if_false, h]

theorem scrubLine_of_corrected (h : rsDecode (hbmSymbols u k line errs) = .corrected y) :
    scrubLine k line errs s = hbmCorrected k line (countHbmWrite k (putSymbols k line y u)) := by
  rw [hu, scrubRead] at h ⊢
  simp only [scrubLine, scrub_goes hon htrained hawake hline, Bool.false_eq_true, if_false, h]

theorem scrubLine_of_bad (h : rsDecode (hbmSymbols u k line errs) = .bad) :
    scrubLine k line errs s = hbmUncorrectable (physOf u k line) k line true .none u := by
  rw [hu, scrubRead] at h ⊢
  simp only [scrubLine, scrub_goes hon htrained hawake hline, Bool.false_eq_true, if_false, h]

end

/-! ## Sweeps and the erase (R247, R248) -/

/-- The slot and the stack once a controller has read line `p` of its share, before what the read finds is acted on. -/
def sweepRead (k st line p : Nat) (w : Sweep) (errs : SymErrs) (s : State) : State :=
  countHbmRead st (hbmParity st line errs (setKeySlot k { keySlot s k with
    swept := if p % 64 = 63 then (keySlot s k).swept + 1 else (keySlot s k).swept,
    sweep := some { w with passed := sset (fun _ => 0) w.passed st (p + 1) } } s))

section
variable {st line g p : Nat} {w : Sweep} {errs : SymErrs} {y : List Nat}
  (hsweep : (keySlot s k).sweep = some w) (hp : p = sweepPassed w st) (hg : (sweepShare s w st)[p / 64]? = some g)
  (hline : line = 64 * g + p % 64) (hu : u = sweepRead k st line p w errs s)
include hsweep hp hg hline hu

theorem sweepLine_of_good (h : rsDecode (hbmSymbols u st line errs) = .good y) :
    sweepLine k st line errs s = reencrypt k st line y u := by
  subst hp hline hu
  rw [sweepRead] at h ⊢
  simp [sweepLine, hsweep, hg, h]

theorem sweepLine_of_corrected (h : rsDecode (hbmSymbols u st line errs) = .corrected y) :
    sweepLine k st line errs s = reencrypt k st line y (hbmCorrected st line u) := by
  subst hp hline hu
  rw [sweepRead] at h ⊢
  simp [sweepLine, hsweep, hg, h]

theorem sweepLine_of_bad (h : rsDecode (hbmSymbols u st line errs) = .bad) :
    sweepLine k st line errs s = raiseCe 0x1C k 1 st (bump32 0x1C k 0x60 0 1 (some (2, 0))
      (putSymbols st line (hbmSymbols u st line errs) u)) := by
  subst hp hline hu
  rw [sweepRead] at h ⊢
  simp [sweepLine, hsweep, hg, h]

end

theorem sweepFinish_of_passed {w : Sweep} (hsweep : (keySlot s k).sweep = some w)
    (hpassed : ∀ st < 24, sweepPassed w st = 64 * (sweepShare s w st).length) :
    sweepFinish k s = setKeySlot k { keySlot s k with
      sweep := none, switched := false, erasePending := true, oldReads := readsOut s k } s := by
  have hall : ((List.range 24).all fun st => decide (sweepPassed w st = 64 * (sweepShare s w st).length)) = true := by
    simpa using hpassed
  simp only [sweepFinish, hsweep, hall, if_true]

theorem keyErase_of_returned (hpending : (keySlot s k).erasePending = true) (hreads : (keySlot s k).oldReads = []) :
    keyErase k s = setReg 0x1C k (labelOff (!(keySlot s k).current)) 0
      (setKeySlot k { setGen (!(keySlot s k).current) none (keySlot s k) with erasePending := false } s) := by
  simp [keyErase, hpending, hreads]

theorem keyErase_of_outstanding (hreads : (keySlot s k).oldReads ≠ []) : keyErase k s = s := by
  simp [keyErase, hreads]

end

/-- Settles O34: `windowWrite` is rejected for a window in use before it looks at the configuration that it would produce. -/
theorem windowsAreChecked : Obligations.WindowsAreChecked := by
  intro src w r v s t hfit ht
  rw [exec_windowWrite src w r v s hfit]
  refine ⟨fun hon hbusy => ?busy, fun hfree => ⟨fun hon hbad => ?invalid, fun hgood => ?stored⟩⟩
  case busy => rw [windowWrite_of_busy hon hbusy]
  case invalid => simp [windowWrite_of_free hfree ht, hon, hbad]
  case stored =>
    have hkeeps : ((window t w).enable && !winValid s (window t w)) = false := by
      rwa [Bool.and_eq_false_iff, Bool.not_eq_false']
    simp [windowWrite_of_free hfree ht, hkeeps]

/-- Settles O37: each command by the laws of its function, one for each reason and one for what it does without any. -/
theorem keyCommandsTakeEffect : Obligations.KeyCommandsTakeEffect := by
  rintro src k s x hfit rfl
  rw [exec_keyLoad src k s hfit, exec_keySwitch src k s (fit_keySwitch hfit), exec_keySweep src k s (fit_keySweep hfit),
    exec_keyClear src k s (fit_keyClear hfit)]
  refine ⟨?load, fun ho hs he => ?switch, fun he => ?switchEmpty, fun ho hs => ?switchSweeping, fun ho hs he => ?switchErasing,
    fun hsw ho hs => ?sweep, fun hsw => ?sweepUnswitched, fun hsw he => ?sweepEmpty, fun hsw ho hs => ?sweepSweeping,
    fun h => ?clear, fun h => ?clearNamed⟩
  case load =>
    rintro g rfl
    refine ⟨fun hroom hstill => ?_, fun hfull => ?_, fun hroom hsweep => ?_⟩
    · rw [keyLoad_of_room hroom hstill, loadGen]
    · rw [keyLoad_of_full hfull]
    · rw [keyLoad_of_sweeping hroom hsweep]
  case switch => rw [keySwitch_of_ready ho hs he]
  case switchEmpty => rw [keySwitch_of_empty he]
  case switchSweeping => rw [keySwitch_of_sweeping ho hs]
  case switchErasing => rw [keySwitch_of_erasing ho hs he]
  case sweep => rw [keySweep_of_ready ho hsw hs]
  case sweepUnswitched => rw [keySweep_of_unswitched hsw]
  case sweepEmpty => rw [keySweep_of_empty hsw he]
  case sweepSweeping => rw [keySweep_of_sweeping ho hsw hs]
  case clear => rw [keyClear_of_unnamed h]
  case clearNamed => rw [keyClear_of_named h]

/-- Settles O35: each command by the laws of its function, one for each thing that the read of a line can find; letting time
pass changes neither the registers nor the memory system that they look at. -/
theorem scrubsAndSweepsRun : Obligations.ScrubsAndSweepsRun := by
  refine ⟨?scrub, ?sweep, ?finish, ?erase⟩
  case scrub =>
    intro dt k line errs s u hwf hon htrained hawake hline hu
    rw [exec_scrubLine dt k line errs s hwf]
    refine ⟨fun y h => ?_, fun y h => ?_, fun h => ?_⟩
    · rw [scrubLine_of_good (s := elapse dt s) hon htrained hawake hline hu h]
    · rw [scrubLine_of_corrected (s := elapse dt s) hon htrained hawake hline hu h]
    · rw [scrubLine_of_bad (s := elapse dt s) hon htrained hawake hline hu h]
  case sweep =>
    intro dt k st errs w g p s u hwf hsweep hp hg hu
    rw [exec_sweepLine dt k st (64 * g + p % 64) errs s hwf]
    refine ⟨fun y h => ?_, fun y h => ?_, fun h => ?_⟩
    · rw [sweepLine_of_good (s := elapse dt s) hsweep hp hg rfl hu h]
    · rw [sweepLine_of_corrected (s := elapse dt s) hsweep hp hg rfl hu h]
    · rw [sweepLine_of_bad (s := elapse dt s) hsweep hp hg rfl hu h]
  case finish =>
    intro dt k w s hwf hsweep hpassed
    rw [exec_sweepFinish dt k s hwf, sweepFinish_of_passed (s := elapse dt s) hsweep hpassed]
    rfl
  case erase =>
    intro dt k s hwf hpending
    rw [exec_keyErase dt k s hwf]
    refine ⟨fun hreads => ?_, fun hreads => ?_⟩
    · rw [keyErase_of_returned (s := elapse dt s) hpending hreads]
      rfl
    · rw [keyErase_of_outstanding (s := elapse dt s) hreads]

end Sys2Proof.Machine

/-! # The moves: a line that a running HWR has already put into the hub -/

namespace Sys2Proof.Machine

open Sys2Proof

/-! ## The counterexample to `MovesRun` -/

/-- An HWR of core 0 of the one-line tile 0 to hub line 0, begun in cycle 1. -/
def hwrUnderWay : MovRun :=
  ⟨{ word := 0x3000300000000000, mask := 0, scalar := 0, descs := [⟨0, 0x2000⟩], jobFrames := 0, pos := 0, issuedAt := 0,
     origin := 0, landed := 0 }, 0, 1, noChecks, false⟩

/-- A manual move of hub line 0 of Cirque 0 to HBM address 0. -/
def readingMove : Move := ⟨0, none, 0, true, 0, 0, 1, [], 0, 0⟩

/-- In cycle 100 the HWR has put its line, which is 0, into hub line 0, where the byte 5 stood; the engine of Cirque 0 runs
the move. -/
def overtakenState : State :=
  { State.reset with
    now := 100, regs := [(regKey 6 0 8 0, 1)], cores := [(0, { Core.reset with movs := [hwrUnderWay] })], hub := [(0, 5)],
    mem := { State.reset.mem with moves := [readingMove] } }

/-- The bank of the hub serves the HWR's line before cycle 100, so the move reads the 0 that it put there. -/
theorem moveLine_overtaken_hbm : (moveLine 0 .manual 0 [] .ok (elapse 0 overtakenState)).hbm = [] := by
  decide +kernel

/-- Refutes O33: a move to HBM reads the hub line as it stands with what the HWRs under way have put into it (R111, `hubNow`).
Where a running HWR has already put its line there, that line goes to HBM, and not the bytes that the hub's store still holds,
from which the statement takes the data of MOVE_LINE_LAND. -/
theorem not_movesRun : ¬ Obligations.MovesRun := by
  rintro ⟨-, hland, -⟩
  obtain ⟨-, -, hwritten, -⟩ := hland 0 0 .manual 0 [] readingMove overtakenState (by decide) (by decide) (by decide)
    (by decide) (by decide +kernel)
  have hexec := hwritten _ _ _ _ rfl (by decide) (by decide) rfl rfl rfl rfl
  rw [exec_moveLineLand 0 0 .manual 0 ⟨[], .ok⟩ overtakenState (by decide)] at hexec
  have hhbm := congrArg State.hbm (Host.Outcome.next.inj hexec)
  dsimp only at hhbm
  rw [moveLine_overtaken_hbm] at hhbm
  exact absurd hhbm (by decide +kernel)

end Sys2Proof.Machine

/-! # HBM lines: a window whose key is too short -/

namespace Sys2Proof.Machine

open Sys2Proof

/-! ## The counterexample to `HbmLinesReadBack` -/

/-- A window of one granule at address 0 that encrypts with key slot 0. -/
def shortKeyWindow : Win := winOf 0 0 0 0x10001

/-- That window, with a key of one byte in the slot's current generation. -/
def shortKeyState : State :=
  { State.reset with
    regs := [(regKey 6 0 (winOff 0 .attr) 0, 0x10001)],
    mem := { State.reset.mem with keys := [(0, { KeySlot.reset with g0 := some [1] })] } }

theorem shortKeyState_canonical : shortKeyState.Canonical := by constructor <;> decide +kernel

theorem windowHolding_shortKey : windowHolding shortKeyState 0 0 = some shortKeyWindow := by decide +kernel

/-- AES with a key of no whole word has empty round keys, so the ciphertext of a line is empty. -/
theorem xtsEnc_shortKey : xtsEnc [1] 0 (List.replicate 64 0) = [] := by decide +kernel

/-- A read that finds no error gives the symbols that it read. -/
theorem eq_of_rsDecode_good {l y : List Nat} (h : rsDecode l = .good y) : y = l := by
  unfold rsDecode at h
  dsimp only at h
  split at h
  · exact (Symbols.good.inj h).symm
  · split at h <;> cases h

/-- A line without errors is read as 68 symbols. -/
theorem length_hbmSymbols (s : State) (stack line : Nat) : (hbmSymbols s stack line []).length = 68 := rfl

/-- Refutes O36: `State.Canonical` says nothing of key slots, and a key whose length is not that of an AES key gives a ciphertext
that fills no line. A read has 68 symbols, and those of the empty ciphertext with its tag and check symbols are four. KEY_CMD
LOAD stores 64 bytes alone (`keyData`): what the statement lacks is the premise that every loaded key has 64 bytes. -/
theorem not_hbmLinesReadBack : ¬ Obligations.HbmLinesReadBack := by
  intro h
  obtain ⟨-, hencrypted⟩ := h 0 (List.replicate 64 0) shortKeyState shortKeyState_canonical (by decide)
  obtain ⟨hgood, -⟩ := hencrypted shortKeyWindow false [] (withCheck [] 2) windowHolding_shortKey (by decide) (by decide)
    xtsEnc_shortKey.symm rfl
  have hlength := congrArg List.length (eq_of_rsDecode_good hgood)
  rw [length_hbmSymbols] at hlength
  exact absurd hlength (by decide)

end Sys2Proof.Machine

/-! # Links: frames judged, slots delivered, and training -/

namespace Sys2Proof.Machine

open Sys2Proof

section
variable {s t u w : State} {l : Nat} {x : Link} {f : LinkFrame} {q : BitVec 10}

/-! ## What counters and correctable causes leave alone -/

theorem SameButReports.link_eq (h : SameButReports s t) (k : Nat) : link t k = link s k := by
  have hlinks : t.links = s.links := h.same (f := .links) (by decide) (by decide)
  rw [link, link, hlinks]

theorem SameButReports.now_eq (h : SameButReports s t) : t.now = s.now := h.same (f := .now) (by decide) (by decide)

/-! ## A frame is judged (R259, R267) -/

/-- The state in which a frame of link `l` is judged: the link has heard from its peer. -/
def heard (l : Nat) (s : State) : State := setLink l { link s l with lastRx := s.now } s

@[simp] theorem link_elapse (n k : Nat) (s : State) : link (elapse n s) k = link s k := rfl

theorem link_heard (hs : s.Canonical) (h : SameButReports (heard l s) t) :
    link t l = { link s l with lastRx := s.now } := by
  rw [h.link_eq, heard, link_setLink hs.links]

/-- A frame follows the last good one, or is the first (R259). -/
def inOrder (x : Link) (f : LinkFrame) : Bool :=
  match x.rxSeq with
  | some p => f.seq == p + 1
  | none => true

/-- The place of a frame whose bits are wrong (log entry 27). -/
def nextPlace (x : Link) (f : LinkFrame) : BitVec 10 :=
  match x.rxSeq with
  | some p => p + 1
  | none => f.seq

theorem inOrder_of_next (h : ∀ p, x.rxSeq = some p → f.seq = p + 1) : inOrder x f = true := by
  unfold inOrder
  split
  · next p hp => exact beq_iff_eq.mpr (h p hp)
  · rfl

theorem inOrder_of_stray {p : BitVec 10} (hp : x.rxSeq = some p) (h : f.seq ≠ p + 1) : inOrder x f = false := by
  unfold inOrder
  rw [hp]
  exact beq_eq_false_iff_ne.mpr h

section
variable (hup : (link s l).st = 5)
include hup

/-- A frame that FEC leaves clean is good where its CRC is right and it is in order or awaited; a bad one is counted. -/
theorem frameVerdict_of_up : frameVerdict l f .clean s =
    if f.crc == frameCrc f && (inOrder (link s l) f || (link s l).await.any (·.1 == f.seq)) then
      frameGood l f ((link s l).await.any (·.1 == f.seq)) (heard l s)
    else
      frameBad l (if f.crc == frameCrc f || (link s l).await.any (·.1 == f.seq) then f.seq else nextPlace (link s l) f)
        (f.crc == frameCrc f) (bump32 9 l 0x88 0 1 (some (8, 6)) (heard l s)) := by
  unfold frameVerdict inOrder nextPlace heard
  dsimp only
  rw [if_neg (by rw [hup]; decide), if_neg (not_not.mpr hup)]
  cases (link s l).rxSeq with
  | none => cases f.crc == frameCrc f <;> simp [Fec.clean, countFec]
  | some p =>
    obtain hcrc | hcrc := Bool.eq_false_or_eq_true (f.crc == frameCrc f) <;>
      obtain hnext | hnext := Bool.eq_false_or_eq_true (f.seq == p + 1) <;>
        obtain hasked | hasked := Bool.eq_false_or_eq_true ((link s l).await.any (·.1 == f.seq)) <;>
          simp only [hcrc, hnext, hasked] <;> rfl

theorem frameVerdict_of_good (hcrc : f.crc = frameCrc f) {replay : Bool}
    (hreplay : (link s l).await.any (·.1 == f.seq) = replay) (hplace : (inOrder (link s l) f || replay) = true) :
    frameVerdict l f .clean s = frameGood l f replay (heard l s) := by
  rw [frameVerdict_of_up hup, hreplay, hplace, hcrc, beq_self_eq_true]
  rfl

theorem frameVerdict_of_stray (hcrc : f.crc = frameCrc f) (hnew : (link s l).await.any (·.1 == f.seq) = false)
    (hplace : inOrder (link s l) f = false) :
    frameVerdict l f .clean s = frameBad l f.seq true (bump32 9 l 0x88 0 1 (some (8, 6)) (heard l s)) := by
  rw [frameVerdict_of_up hup, hnew, hplace, hcrc, beq_self_eq_true]
  rfl

theorem frameVerdict_of_wrong (hcrc : f.crc ≠ frameCrc f) {replay : Bool}
    (hreplay : (link s l).await.any (·.1 == f.seq) = replay) :
    frameVerdict l f .clean s = frameBad l (if replay then f.seq else nextPlace (link s l) f) false
      (bump32 9 l 0x88 0 1 (some (8, 6)) (heard l s)) := by
  rw [frameVerdict_of_up hup, hreplay, beq_eq_false_iff_ne.mpr hcrc]
  rfl

end

theorem frameBad_of_new (hx : link s l = x) (hnew : x.await.any (·.1 == q) = false) (whole : Bool) :
    frameBad l q whole s = raiseCe 9 l 1 q.toNat (bump48 9 l 0x78 0 1 (some (8, 3))
      (setLink l { x with await := x.await ++ [(q, s.now)], rxSeq := seqAfterBad whole q x } s)) := by
  simp only [frameBad, hx, hnew, Bool.false_eq_true, if_false]

theorem frameBad_of_awaited (hx : link s l = x) (hreplay : x.await.any (·.1 == q) = true) (whole : Bool) :
    frameBad l q whole s = linkSlip l 2 q.toNat (setLink l { x with await := x.await.filter (·.1 != q) } s) := by
  simp only [frameBad, hx, hreplay, if_true]

/-! ## A good frame (R259, R268, R270, R273) -/

/-- A good frame is counted. -/
def goodCounted (l : Nat) (s : State) : State := bump48 9 l 0x68 0 1 (some (8, 1)) s

theorem goodCounted_same (l : Nat) (s : State) : SameButReports s (goodCounted l s) := bump48_same ..

/-- What a good frame brings to a link, once it is noted: the peer's identity, where no slot breaks the protocol, its slots and
its request. -/
def contentTaken (l : Nat) (f : LinkFrame) (s : State) : State :=
  takeRequest l f (acceptSlots l f
    (if (f.slots.all fun y => !slotFaulty (link s l) y) = true ∧ frameIds f ≠ [] then
      pairCheck (takeIds l f (checkSlots l f s)) else checkSlots l f s))

theorem frameGood_in_order (hx : link (goodCounted l s) l = x) (hnew : x.await.any (·.1 == f.seq) = false) :
    frameGood l f false s = contentTaken l f (setLink l { x with rxSeq := some f.seq } (goodCounted l s)) := by
  have hkept : x.await.filter (·.1 != f.seq) = x.await := by simpa [List.filter_eq_self] using hnew
  have hnoted : modLink l (fun x => { x with await := x.await.filter (·.1 != f.seq), rxSeq := some f.seq }) (goodCounted l s) =
      setLink l { x with rxSeq := some f.seq } (goodCounted l s) := by
    rw [modLink, hx, hkept]
  rw [← hnoted]
  simp only [contentTaken, ← List.isEmpty_eq_false_iff, ← Bool.not_eq_true', ← Bool.and_eq_true]
  rfl

theorem frameGood_replay (hx : link (goodCounted l s) l = x)
    (hw : w = setLink l { x with
      await := x.await.filter (·.1 != f.seq), rxSeq := if x.rxSeq = some (f.seq - 1) then some f.seq else x.rxSeq }
      (goodCounted l s)) :
    frameGood l f true s =
      if replayLate w l f then takeRequest l f (linkSlip l 2 f.seq.toNat w) else contentTaken l f w := by
  have hnoted : modLink l (fun x => { x with
      await := x.await.filter (·.1 != f.seq),
      rxSeq := if true && x.rxSeq != some (f.seq - 1) then x.rxSeq else some f.seq }) (goodCounted l s) = w := by
    rw [modLink, hx, hw]
    simp only [Bool.true_and, bne_iff_ne, ite_not]
  rw [← hnoted]
  simp only [contentTaken, ← List.isEmpty_eq_false_iff, ← Bool.not_eq_true', ← Bool.and_eq_true]
  rfl

theorem contentTaken_without_ids (h : frameIds f = []) :
    contentTaken l f s = takeRequest l f (acceptSlots l f (checkSlots l f s)) := by
  rw [contentTaken, if_neg fun hids => hids.2 h]

theorem sharedCycle_congr (hnow : t.now = s.now) (htick : t.tick = s.tick) (hsched : t.sched = s.sched) :
    sharedCycle t = sharedCycle s := by
  rw [sharedCycle, sharedCycle, ticT, ticT, tickN_congr htick, hnow, htick, hsched]

/-- The count of a good frame moves neither the clock nor the ticks, so a replay is as late after it as before. -/
theorem replayLate_counted (hs : s.Canonical) (hword : x.word = (link s l).word) :
    replayLate (setLink l x (goodCounted l s)) l f = replayLate s l f := by
  have hsame := goodCounted_same l s
  have hlink : link (setLink l x (goodCounted l s)) l = x :=
    link_setLink (keep_bump48 closed_canonical raiseSet_true hs).links l x
  have hnow : (setLink l x (goodCounted l s)).now = s.now := hsame.now_eq
  have hshared : sharedCycle (setLink l x (goodCounted l s)) = sharedCycle s :=
    sharedCycle_congr hnow (hsame.same (f := .tick) (by decide) (by decide)) (hsame.same (f := .sched) (by decide) (by decide))
  unfold replayLate rxSlot takeCycle
  rw [hlink, hword, hshared, hnow]

/-! ## Delivery (R261, R262, R266) -/

section
variable {y : RxSlot} {r : Nat}

theorem slotDeliver_of_due (hw : w = serviceDue l s) (hdue : dueSlot s.now (link w l) = some y)
    (hu : u = setLink l { link w l with elastic := eraseFirst (fun z => z == y) (link w l).elastic } w) :
    slotDeliver l s = if (link w l).frozen then linkDrop l 1 u else deliverSlot l y u := by
  have hnow : w.now = s.now := by rw [hw]; exact keep_serviceDue (closed_same .now s) (raiseSet_ne (by decide)) rfl
  rw [← hnow] at hdue
  subst hu hw
  simp only [slotDeliver, hdue]

variable (hr : (slotFlit y.slot).route.toNat = r)
include hr

theorem deliverSlot_off_route (hroute : 48 ≤ r) :
    deliverSlot l y s = raise 8 (l / 4) 0 1 (l % 4 + 4 * r) (.link l) s := by
  simp only [deliverSlot, hr, hroute, if_true]

theorem deliverSlot_late (hroute : r < 48) (hlate : y.due < y.avail) :
    deliverSlot l y s = colSlip l 3 (l % 4 + 4 * r) (lateParts s l y.slot) s := by
  simp only [deliverSlot, hr, Nat.not_le.mpr hroute, hlate, if_true, if_false]

variable (htimely : y.avail ≤ y.due)
include htimely

theorem deliverSlot_to_engine (hlow : 32 ≤ r) (hroute : r < 48) :
    deliverSlot l y s = engineArrive (l / 4) (r % 4) (.link (l % 4))
      ⟨none, (slotFlit y.slot).payload, (slotFlit y.slot).last, (linkCores l).1⟩ s := by
  simp only [deliverSlot, hr, Nat.not_le.mpr hroute, Nat.not_lt.mpr htimely, hlow, if_true, if_false]

variable {c : Nat} (hroute : r < 32) (hc : c = if r < 16 then (linkCores l).1 else (linkCores l).2)
include hroute hc

theorem deliverSlot_without_credit (hcredit : dieCredit s c (kindChan y.slot.kind) = 0) :
    deliverSlot l y s = colSlip l 3 (l % 4 + 4 * r + 2 ^ 8) (lateParts s l y.slot) s := by
  have hgrid : ¬ 48 ≤ r := by omega
  simp only [deliverSlot, hr, hgrid, Nat.not_lt.mpr htimely, Nat.not_le.mpr hroute, ← hc, hcredit, if_true, if_false]

theorem deliverSlot_to_core (hcredit : 0 < dieCredit s c (kindChan y.slot.kind)) {j : Option Nat} {v : State}
    (hj : j = jobOfPart s (partOf s c))
    (hv : v = if kindChan y.slot.kind = .v0 ∨ kindChan y.slot.kind = .v1 then chargeJob j 7 1 s else s) :
    deliverSlot l y s =
      addWire ⟨c, kindChan y.slot.kind, edgeInput c, { slotFlit y.slot with job := j }, y.due + 9⟩ { v with fab := { v.fab with
        dieSpent := sset (fun _ => 0) v.fab.dieSpent (4 * c + chanCode (kindChan y.slot.kind))
          (sget (fun _ => 0) v.fab.dieSpent (4 * c + chanCode (kindChan y.slot.kind)) + 1) } } := by
  have hgrid : ¬ 48 ≤ r := by omega
  subst hj hv
  simp only [deliverSlot, hr, hgrid, Nat.not_lt.mpr htimely, Nat.not_le.mpr hroute, ← hc, Nat.ne_of_gt hcredit, if_false]

end

end

/-- Settles O39: a verdict by the law of the frame that it finds, good in order, good as a replay, or bad; a delivery by the law of
the place to which the slot goes. -/
theorem framesAreJudged : Obligations.FramesAreJudged := by
  refine ⟨?verdict, ?deliver⟩
  case verdict =>
    rintro dt l f x s u hwf hs rfl hup hu
    replace hu : u = heard l (elapse dt s) := hu
    subst hu
    have hs' : (elapse dt s).Canonical := closed_canonical.elapse trivial hs
    have hheard : (heard l (elapse dt s)).Canonical := closed_canonical.links trivial hs'
    have hgood := link_heard hs' (goodCounted_same l (heard l (elapse dt s)))
    have hbad := bump32_same 9 l 0x88 0 1 (some (8, 6)) (heard l (elapse dt s))
    rw [exec_linkFrameVerdict dt l f .clean s hwf]
    refine ⟨fun hnew hcrc hnext => ?order, fun p hnew hcrc hlast hstray => ?stray, fun q hnew hplace hcrc hq => ?wrong,
      fun hreplay hcrc => ?failed, fun w hreplay hcrc hw => ?replay⟩
    case order =>
      rw [frameVerdict_of_good (s := elapse dt s) hup hcrc hnew (by rw [link_elapse, inOrder_of_next hnext]; rfl),
        frameGood_in_order hgood hnew]
      exact ⟨_, _, rfl, rfl, rfl⟩
    case stray =>
      rw [frameVerdict_of_stray (s := elapse dt s) hup hcrc hnew (inOrder_of_stray hlast hstray),
        frameBad_of_new (link_heard hs' hbad) hnew, hbad.now_eq]
      exact ⟨_, rfl, rfl⟩
    case wrong =>
      have hnextPlace : nextPlace (link s l) f = q := hq.symm
      rw [frameVerdict_of_wrong (s := elapse dt s) hup hcrc hnew, if_neg Bool.false_ne_true, link_elapse, hnextPlace,
        frameBad_of_new (link_heard hs' hbad) hplace, hbad.now_eq]
      exact ⟨_, rfl, rfl⟩
    case failed =>
      rw [frameVerdict_of_wrong (s := elapse dt s) hup hcrc hreplay, if_pos rfl,
        frameBad_of_awaited (link_heard hs' hbad) hreplay]
      exact ⟨_, rfl, rfl⟩
    case replay =>
      have hlate : replayLate w l f = replayLate (heard l (elapse dt s)) l f := by
        rw [hw]
        exact replayLate_counted hheard (by rw [link_heard hs' (.refl _)]; rfl)
      rw [frameVerdict_of_good (s := elapse dt s) hup hcrc hreplay (Bool.or_true _), frameGood_replay hgood hw, hlate]
      refine ⟨fun h => ?_, fun h hids => ?_⟩
      · rw [if_pos h]
      · rw [if_neg (Bool.eq_false_iff.mp h), contentTaken_without_ids hids]
  case deliver =>
    intro dt l y s u w c r hwf hw hdue hr hu
    rw [exec_linkSlotDeliver dt l s hwf, slotDeliver_of_due hw hdue hu]
    refine ⟨fun hfrozen => ?frozen, fun hgoes hroute htimely hc hcredit j v hj hv => ?core,
      fun hgoes hroute htimely hc hcredit => ?credit, fun hgoes hlow hroute htimely => ?engine, fun hgoes hroute hlate => ?late,
      fun hgoes hroute => ?off⟩
    case frozen => rw [if_pos hfrozen]
    all_goals rw [if_neg (Bool.eq_false_iff.mp hgoes)]
    case core => rw [deliverSlot_to_core hr.symm htimely hroute hc hcredit hj hv]
    case credit => rw [deliverSlot_without_credit hr.symm htimely hroute hc hcredit]
    case engine => rw [deliverSlot_to_engine hr.symm htimely hlow hroute]
    case late => rw [deliverSlot_late hr.symm hroute hlate]
    case off => rw [deliverSlot_off_route hr.symm hroute]

end Sys2Proof.Machine

/-! # Links: training -/

namespace Sys2Proof.Machine

open Sys2Proof

section
variable {s : State} {k : Nat} {v : Word}

/-! ## Registers that no report reaches -/

/-- The offsets at which a report changes its page or the FAULT page: the recorded cause, the reports dropped and the log entries
lost (R23, R425, R427). -/
def reportOffsets : List Nat := [0x10, 0x18, 0x1C, 0x20, 0x24, 0x60, 0x64, 0x70, 0x74]

/-- A register holds a value in a canonical state. -/
def HoldsReg (k : Nat) (v : Word) (s : State) : Prop := s.Canonical ∧ rget s k = v

theorem holdsReg_faults (h : HoldsReg k v s) (x : Faults) : HoldsReg k v { s with faults := x } :=
  ⟨closed_canonical.faults trivial h.1, h.2⟩

theorem holdsReg_rset (h : HoldsReg k v s) {j : Nat} (hj : k ≠ j) (x : Word) : HoldsReg k v (rset j x s) :=
  ⟨closed_canonical.rset trivial h.1, (rget_rset_other h.1.regs hj x).trans h.2⟩

theorem holdsReg_bump48Quiet (h : HoldsReg k v s) {j : Nat} (hlo : k ≠ j) (hhi : k ≠ j + 4) (n : Nat) :
    HoldsReg k v (bump48Quiet j n s) := by
  unfold bump48Quiet
  dsimp only
  split
  all_goals exact holdsReg_rset (holdsReg_rset h hlo _) hhi _

theorem reportOffsets_lt : ∀ off ∈ reportOffsets, off < 2 ^ 12 := by decide

theorem regKey_mod {off : Nat} (hoff : off < 2 ^ 12) (cls inst : Nat) : regKey cls inst off 0 % 2 ^ 12 = off := by
  simp only [regKey, regAddr]
  omega

section
variable (hk : k % 2 ^ 12 ∉ reportOffsets)
include hk

theorem ne_reportKey (cls inst : Nat) {off : Nat} (hoff : off ∈ reportOffsets) : k ≠ regKey cls inst off 0 := by
  rintro rfl
  rw [regKey_mod (reportOffsets_lt off hoff)] at hk
  exact hk hoff

theorem holdsReg_recordCause (h : HoldsReg k v s) (cls inst bit f detail : Nat) :
    HoldsReg k v (recordCause cls inst bit f detail s) := by
  have hne {off : Nat} (hoff : off ∈ reportOffsets) := ne_reportKey hk cls inst hoff
  refine ⟨keep_recordCause closed_canonical trivial trivial h.1, ?_⟩
  rw [rget_recordCause h.1.regs _ _ _ _ _ (hne (by decide)) (hne (by decide)) (hne (by decide)),
    rget_causeCounted h.1.regs, if_neg (hne (by decide)), if_neg (hne (by decide)), h.2]

theorem holdsReg_ite_recordCause {p : Prop} [Decidable p] (h : HoldsReg k v s) (cls inst bit f detail : Nat) :
    HoldsReg k v (if p then recordCause cls inst bit f detail s else s) := by
  split
  · exact holdsReg_recordCause hk h ..
  · exact h

theorem holdsReg_bump48Quiet_fault {off : Nat} (hlo : off ∈ reportOffsets) (hhi : off + 4 ∈ reportOffsets)
    (h : HoldsReg k v s) (n : Nat) : HoldsReg k v (bump48Quiet (regKey 0x13 0 off 0) n s) :=
  holdsReg_bump48Quiet h (ne_reportKey hk _ _ hlo) (by rw [regKey_hi]; exact ne_reportKey hk _ _ hhi) n

theorem holdsReg_logEvent (h : HoldsReg k v s) (code cls inst f : Nat) (d : List Byte) :
    HoldsReg k v (logEvent code cls inst f d s) := by
  unfold logEvent
  extract_lets faults pos gone e logged j was counted lost
  have hlogged : HoldsReg k v logged := holdsReg_faults h _
  split
  · have hcounted : HoldsReg k v counted := holdsReg_bump48Quiet_fault hk (by decide) (by decide) hlogged 1
    exact holdsReg_ite_recordCause hk (holdsReg_ite_recordCause hk hcounted ..) ..
  · exact hlogged

theorem holdsReg_dropReport (h : HoldsReg k v s) (key : Nat) : HoldsReg k v (dropReport key s) := by
  unfold dropReport
  extract_lets j was counted caused dropped
  have hcounted : HoldsReg k v counted := holdsReg_bump48Quiet_fault hk (by decide) (by decide) h 1
  have hdropped : HoldsReg k v dropped := holdsReg_ite_recordCause hk (holdsReg_recordCause hk hcounted ..) ..
  split
  · exact hdropped
  · exact holdsReg_logEvent hk (holdsReg_faults hdropped _) ..

theorem holdsReg_enqueueReports (h : HoldsReg k v s) (mk : Nat → Report) (l : List Nat) :
    HoldsReg k v (enqueueReports mk l s) := by
  induction l generalizing s with
  | nil => exact h
  | cons key l ih =>
    refine ih ?_
    unfold enqueueReport
    split
    · exact holdsReg_dropReport hk h _
    · exact holdsReg_faults h _

theorem holdsReg_raiseCe (h : HoldsReg k v s) (cls inst bit detail : Nat) :
    HoldsReg k v (raiseCe cls inst bit detail s) := by
  have hrecorded := holdsReg_recordCause hk h cls inst bit 0 detail
  unfold raiseCe raise record
  dsimp only
  split
  · exact h
  · split
    · exact hrecorded
    · exact holdsReg_enqueueReports hk hrecorded ..

theorem holdsReg_bump48 {cls inst off : Nat} (hlo : k ≠ regKey cls inst off 0) (hhi : k ≠ regKey cls inst (off + 4) 0)
    (h : HoldsReg k v s) (n : Nat) (o : Option (Nat × Nat)) : HoldsReg k v (bump48 cls inst off 0 n o s) := by
  have hcounted := holdsReg_bump48Quiet h hlo (by rwa [regKey_hi]) n
  unfold bump48
  dsimp only
  split
  · split
    · exact holdsReg_raiseCe hk hcounted ..
    · exact hcounted
  · exact hcounted

end

end

section
variable {s t u v : State} {l k m st w : Nat} {lanes : BitVec 8} {word : Word}

/-! ## States of a link (R271, R274, R354) -/

theorem link_modLink (hs : s.Canonical) (g : Link → Link) : link (modLink l g s) l = g (link s l) := link_setLink hs.links ..

theorem link_modLink_other (hs : s.Canonical) (hk : k ≠ l) (g : Link → Link) : link (modLink l g s) k = link s k :=
  link_setLink_other hs.links hk _

theorem pairCheck_links (s : State) : (pairCheck s).links = s.links := by
  unfold pairCheck
  dsimp only
  split
  · split <;> rfl
  · split
    · split
      · exact (raiseCe_same ..).same (f := .links) (by decide) (by decide)
      · rfl
    · rfl

/-- Reporting the change and forming the pair touch no link. -/
theorem link_setLinkState_eq (k : Nat) : link (setLinkState l st w lanes word s) k =
    link (setLink l { link s l with st := st, width := w, lanes := lanes, word := word, since := s.now } s) k := by
  rw [link, setLinkState, pairCheck_links]
  split
  · exact (raiseCe_same ..).link_eq k
  · rfl

theorem link_setLinkState (hs : s.Canonical) : link (setLinkState l st w lanes word s) l =
    { link s l with st := st, width := w, lanes := lanes, word := word, since := s.now } := by
  rw [link_setLinkState_eq, link_setLink hs.links]

theorem link_setLinkState_other (hs : s.Canonical) (hk : k ≠ l) :
    link (setLinkState l st w lanes word s) k = link s k := by
  rw [link_setLinkState_eq, link_setLink_other hs.links hk]

theorem link_startTraining (hs : s.Canonical) : link (startTraining l s) l = { (link s l).fresh with
    st := 1, width := 0, lanes := 0, word := 0, since := s.now, trainFrom := s.now } := by
  rw [startTraining, link_setLinkState (keep_modLink closed_canonical trivial hs), link_modLink hs]
  rfl

theorem toState_of_at {now : Nat} (h : (link s l).st = now) (next : Nat) :
    toState l now next s = setLinkState l next 0 0 0 s := if_pos h

theorem linkDown_of_up (h : (link s l).st = 5) (lane : Nat) : linkDown l lane s =
    setLinkState l 7 0 0 0 (raise 9 l 3 1 (lane % 8) .none (setLink l { link s l with missed := false } s)) :=
  if_neg (not_not.mpr h)

theorem trainTimeout_of_expired (hlo : 1 ≤ (link s l).st) (hhi : (link s l).st ≤ 4)
    (hlate : (link s l).since + 940000 * trainBound (link s l).st < s.now) :
    trainTimeout l s = trainFail l (if (link s l).st = 1 then 1 else 5) s := if_pos ⟨hlo, hhi, hlate⟩

/-! ## Retrain and page reset (R275, R281) -/

/-- The two commands come from one sender and name one link. -/
theorem fit_linkPageReset {src : Src} (h : fit (.linkRetrain src l) s = true) : fit (.linkPageReset src l) s = true := h

theorem retrain_of_free (h : retrainBusy s l = none) : retrain l s = startTraining l s := by
  simp only [retrain, h]

theorem retrain_of_busy {d : Nat} (h : retrainBusy s l = some d) : retrain l s = raiseCe 9 l 7 d s := by
  simp only [retrain, h]

theorem linkPageReset_of_free (h : retrainBusy s l = none) :
    linkPageReset l s = startTraining l (setLink l { link s l with frozen := false } s) := by
  simp only [linkPageReset, h, modLink]

theorem linkPageReset_of_busy {d : Nat} (h : retrainBusy s l = some d) : linkPageReset l s = raiseCe 9 l 7 d s := by
  simp only [linkPageReset, h]

/-! ## The lane check (R272) -/

section
variable {pass ok : BitVec 8} (hst : (link s l).st = 3)
  (hok : ok = pass &&& BitVec.ofNat 8 (field (reg s 9 l 0x44) 23 16)) (hu : u = setLink l { link s l with passed := ok } s)
include hst hok hu

theorem checkDone_of_width (hwidth : (widthOf ok ((reg s 9 l 0x44).getLsbD 24)).isSome = true) :
    checkDone l pass s = sendId l none (setLinkState l 4 0 0 0 u) := by
  subst hok hu
  exact (if_neg (not_not.mpr hst)).trans (if_neg (Bool.eq_false_iff.mp (Option.isNone_eq_false_iff.mpr hwidth)))

theorem checkDone_without_width (hwidth : widthOf ok ((reg s 9 l 0x44).getLsbD 24) = none) :
    checkDone l pass s = trainFail l 2 u := by
  subst hok hu
  exact (if_neg (not_not.mpr hst)).trans (if_pos (Option.isNone_iff_eq_none.mpr hwidth))

end

/-! ## The end of the negotiation (R272, R273) -/

/-- LINK_CFG is out of reach of the count of frames and of the cause that its overflow raises. -/
theorem linkCfg_frameSent (hs : s.Canonical) (f : LinkFrame) (x : Link) :
    reg (frameSent l f x s) 9 l 0x44 = reg s 9 l 0x44 := by
  have hplain : regKey 9 l 0x44 0 % 2 ^ 12 ∉ reportOffsets := by
    rw [regKey_mod (by decide)]
    decide
  have hready : HoldsReg (regKey 9 l 0x44 0) (reg s 9 l 0x44) (emit (.linkFrame l f) (setLink l x s)) :=
    ⟨closed_canonical.out trivial (closed_canonical.links trivial hs), rfl⟩
  exact (holdsReg_bump48 hplain (by simp) (by simp) hready 1 (some (8, 0))).2

/-- The state once this end has its own M and has told it. -/
def ownTold (l m : Nat) (s : State) : State := sendId l (some m) (setLink l { link s l with mIn := m } s)

theorem negotiateDone_of_at (hst : (link s l).st = 4) (n : Negotiation) :
    negotiateDone l n s = negotiateEnd l (ownTold l (ceilDiv n.roundTrip 2 + 2) s) := if_neg (not_not.mpr hst)

/-- The identity goes out in a frame of its own. -/
theorem sendId_eq_frameSent (l : Nat) (transit : Option Nat) (s : State) : ∃ f,
    sendId l transit s = frameSent l f { link s l with txSeq := (link s l).txSeq + 1 } s := ⟨_, rfl⟩

/-- Telling its identity leaves what the end of the negotiation reads. -/
theorem ownTold_spec (hs : s.Canonical) (hu : u = ownTold l m s) :
    u.Canonical ∧ link u l = { link s l with mIn := m, txSeq := (link s l).txSeq + 1 } ∧
      reg u 9 l 0x44 = reg s 9 l 0x44 ∧ ∀ k, k ≠ l → link u k = link s k := by
  have hs' : (setLink l { link s l with mIn := m } s).Canonical := closed_canonical.links trivial hs
  obtain ⟨f, hf⟩ := sendId_eq_frameSent l (some m) (setLink l { link s l with mIn := m } s)
  obtain ⟨-, hown, -, hother⟩ := sent_of_reports hs'
    (frameSent_same l f { link s l with mIn := m, txSeq := (link s l).txSeq + 1 } _)
  rw [link_setLink hs.links] at hf
  rw [hu, ownTold, hf]
  exact ⟨keep_bump48 closed_canonical raiseSet_true (closed_canonical.out trivial (closed_canonical.links trivial hs')), hown,
    linkCfg_frameSent hs' f _, fun k hk => (hother k hk).trans (link_setLink_other hs.links hk _)⟩

theorem negotiateEnd_of_unheard (h : (link s l).peerId = none) : negotiateEnd l s = s := by
  simp only [negotiateEnd, h]

section
variable {p : LinkId} (hpeer : (link s l).peerId = some p)
include hpeer

theorem negotiateEnd_without_width
    (hwidth : widthOf ((link s l).passed &&& p.lanes) ((reg s 9 l 0x44).getLsbD 24) = none) :
    negotiateEnd l s = trainFail l 2 s := by
  simp only [negotiateEnd, hpeer, hwidth, Option.isNone_none, if_true]

variable (hwidth : (widthOf ((link s l).passed &&& p.lanes) ((reg s 9 l 0x44).getLsbD 24)).isSome = true)
include hwidth

theorem negotiateEnd_of_other_latency (hl8 : p.l8 ≠ field (reg s 9 l 0x44) 11 0) : negotiateEnd l s = trainFail l 3 s := by
  rw [← Option.isNone_eq_false_iff] at hwidth
  simp only [negotiateEnd, hpeer, hwidth, Bool.false_eq_true, if_false, if_pos hl8]

variable (hl8 : p.l8 = field (reg s 9 l 0x44) 11 0)
include hl8

theorem negotiateEnd_of_waiting (htransit : p.transit = none) : negotiateEnd l s = s := by
  rw [← Option.isNone_eq_false_iff] at hwidth
  simp only [negotiateEnd, hpeer, hwidth, Bool.false_eq_true, if_false, if_neg (not_not.mpr hl8), htransit]

theorem negotiateEnd_of_known {tr : Nat} (htransit : p.transit = some tr) (hm : (link s l).mIn = m) (hpos : m ≠ 0) :
    negotiateEnd l s = negotiated l m tr p s := by
  rw [← Option.isNone_eq_false_iff] at hwidth
  simp only [negotiateEnd, hpeer, hwidth, Bool.false_eq_true, if_false, if_neg (not_not.mpr hl8), htransit, hm, if_neg hpos]

end

/-- The live word of a link in UP (R274). -/
def liveWord (w lat : Nat) (p : LinkId) : Word :=
  BitVec.ofNat 32 (w + 2 ^ 4 * (lat % 2 ^ 12) + 2 ^ 16 * (p.device % 2 ^ 10) + 2 ^ 26 * (p.link % 2 ^ 6))

theorem widthOf_lt {pass : BitVec 8} {degrade : Bool} (h : widthOf pass degrade = some (w, lanes)) : w < 16 := by
  unfold widthOf at h
  split at h
  · cases h
    decide
  · split at h
    · cases h
    · dsimp only at h
      split at h <;> cases h <;> decide

theorem latency_liveWord (h : w < 16) (lat : Nat) (p : LinkId) : field (liveWord w lat p) 15 4 = lat % 2 ^ 12 := by
  simp only [field, bitsOf, liveWord, BitVec.toNat_ofNat]
  omega

section
variable {tr lat : Nat} {p : LinkId} (hs : s.Canonical)
  (hwidth : widthOf ((link s l).passed &&& p.lanes) ((reg s 9 l 0x44).getLsbD 24) = some (w, lanes))
  (hlat : lat = field (reg s 9 l 0x44) 11 0 + widthDelta w) (hl8 : p.l8 = field (reg s 9 l 0x44) 11 0)
  (hv : v = setLink l { link s l with mIn := m, mOut := tr, peerDevice := p.device, peerLink := p.link } s)
include hs hwidth hlat hl8 hv

/-- With a width and one L8 the latencies decide (R273): the link fails with reason 4 or goes UP. -/
theorem negotiated_eq : negotiated l m tr p s =
    if lat + 44 < 2 * m + tr ∨ lat + 44 < 2 * tr + m then trainFail l 4 v
    else setLinkState l 5 w lanes (liveWord w lat p) (timeTraining l (modLink l (fun x => { x with lastRx := v.now }) v)) := by
  subst hv hlat
  have hpassed : (link (setLink l { link s l with mIn := m, mOut := tr, peerDevice := p.device, peerLink := p.link } s) l).passed =
      (link s l).passed := by rw [link_setLink hs.links]
  simp only [negotiated, modLink, hpassed, hwidth, if_neg (not_not.mpr hl8)]
  rfl

theorem negotiated_up (hin : 2 * m + tr ≤ lat + 44) (hout : 2 * tr + m ≤ lat + 44) :
    ∃ t, negotiated l m tr p s = t ∧ (link t l).st = 5 ∧ (link t l).mIn = m ∧ (link t l).mOut = tr ∧
      (link t l).width = w ∧ (link t l).lanes = lanes ∧ field (link t l).word 15 4 = lat % 2 ^ 12 ∧
      ∀ k, k ≠ l → link t k = link s k := by
  have hfits : ¬ (lat + 44 < 2 * m + tr ∨ lat + 44 < 2 * tr + m) := by omega
  have hvc : v.Canonical := by rw [hv]; exact keep_setLink closed_canonical trivial hs
  have hheard : (modLink l (fun x => { x with lastRx := v.now }) v).Canonical := keep_modLink closed_canonical trivial hvc
  have htimed : (timeTraining l (modLink l (fun x => { x with lastRx := v.now }) v)).Canonical :=
    keep_timeTraining closed_canonical trivial hheard
  have hown : link (timeTraining l (modLink l (fun x => { x with lastRx := v.now }) v)) l = { link v l with
      lastRx := v.now, trainMs := (v.now - (link v l).trainFrom) / 940000 } := by
    rw [timeTraining, link_modLink hheard, link_modLink hvc]
    rfl
  refine ⟨_, rfl, ?_⟩
  rw [negotiated_eq hs hwidth hlat hl8 hv, if_neg hfits, link_setLinkState htimed, hown, hv, link_setLink hs.links, ← hv]
  refine ⟨rfl, rfl, rfl, rfl, rfl, latency_liveWord (widthOf_lt hwidth) lat p, fun k hk => ?_⟩
  rw [link_setLinkState_other htimed hk, timeTraining, link_modLink_other hheard hk, link_modLink_other hvc hk, hv,
    link_setLink_other hs.links hk]

end

end

/-- Settles O40: each command by the law of its function. The identity that this end sends changes no register and no link but its
own number, so the end of the negotiation finds what the peer told and the configuration as they stood. -/
theorem linksTrain : Obligations.LinksTrain := by
  refine ⟨?detect, ?equalise, ?check, ?negotiate, ?down, ?timeout, ?retrain, fun l st w lanes word s hs => link_setLinkState hs,
    fun l s hs => link_startTraining hs⟩
  case detect =>
    intro dt l s hwf hst
    rw [exec_linkDetectDone dt l s hwf, toState_of_at (s := elapse dt s) hst]
  case equalise =>
    intro dt l s hwf hst
    rw [exec_linkEqualiseDone dt l s hwf, toState_of_at (s := elapse dt s) hst]
  case check =>
    intro dt l pass ok s u hwf hst hok hu
    rw [exec_linkCheckDone dt l pass s hwf]
    refine ⟨fun hwidth => ?_, fun hwidth => ?_⟩
    · rw [checkDone_of_width (s := elapse dt s) hst hok hu hwidth]
    · rw [checkDone_without_width (s := elapse dt s) hst hok hu hwidth]
  case negotiate =>
    intro dt l n m s u v hwf hs hst hm hu
    replace hu : u = ownTold l m (elapse dt s) := hu
    obtain ⟨huc, hown, hcfg, hother⟩ := ownTold_spec (closed_canonical.elapse trivial hs) hu
    have hcfg : reg u 9 l 0x44 = reg s 9 l 0x44 := hcfg
    have hpassed : (link u l).passed = (link s l).passed := by rw [hown]; rfl
    have hheard : (link u l).peerId = (link s l).peerId := by rw [hown]; rfl
    rw [exec_linkNegotiateDone dt l n s hwf, negotiateDone_of_at (s := elapse dt s) hst, ← hm, ← hu, ← hcfg, ← hpassed,
      ← hheard]
    refine ⟨fun hnone => ?_, fun p ok hpeer hok => ⟨fun hwidth => ?_, fun hwidth hl8 => ?_, fun hwidth hl8 htransit => ?_⟩,
      fun p tr ok hpeer htransit hok hv w lanes lat hwidth hlat => ?known⟩
    · rw [negotiateEnd_of_unheard hnone]
    all_goals rw [hok] at hwidth
    · rw [negotiateEnd_without_width hpeer hwidth]
    · rw [negotiateEnd_of_other_latency hpeer hwidth hl8]
    · rw [negotiateEnd_of_waiting hpeer hwidth hl8 htransit]
    case known =>
      have hmin : (link u l).mIn = m := by rw [hown]
      have hpos : m ≠ 0 := by omega
      have hsome : (widthOf ((link u l).passed &&& p.lanes) ((reg u 9 l 0x44).getLsbD 24)).isSome = true := by rw [hwidth]; rfl
      refine ⟨fun hl8 hfar => ?_, fun hl8 hin hout => ?_⟩
      · rw [negotiateEnd_of_known hpeer hsome hl8 htransit hmin hpos, negotiated_eq huc hwidth hlat hl8 hv, if_pos hfar]
      · obtain ⟨t, ht, hup, hmIn, hmOut, hw, hlanes, hword, hothers⟩ := negotiated_up huc hwidth hlat hl8 hv hin hout
        rw [negotiateEnd_of_known hpeer hsome hl8 htransit hmin hpos, ht]
        exact ⟨t, rfl, hup, hmIn, hmOut, hw, hlanes, hword, fun k hk => (hothers k hk).trans (hother k hk)⟩
  case down =>
    intro dt l lane s hwf hst
    rw [exec_linkDown dt l lane s hwf, linkDown_of_up (s := elapse dt s) hst]
    rfl
  case timeout =>
    intro dt l s hwf hlo hhi hlate
    rw [exec_linkTrainTimeout dt l s hwf, trainTimeout_of_expired (s := elapse dt s) hlo hhi hlate]
    rfl
  case retrain =>
    intro src l s hfit
    rw [exec_linkRetrain src l s hfit, exec_linkPageReset src l s (fit_linkPageReset hfit)]
    refine ⟨fun hfree => ?_, fun d hbusy => ?_⟩
    · rw [retrain_of_free hfree, linkPageReset_of_free hfree]
      exact ⟨rfl, rfl⟩
    · rw [retrain_of_busy hbusy, linkPageReset_of_busy hbusy]
      exact ⟨rfl, rfl⟩

end Sys2Proof.Machine

/-! # The serving lane: registers and commands -/

namespace Sys2Proof.Machine

open Sys2Proof

section
variable {s : State} {v : Word} {t : Nat}

/-! ## The cursor (R309) -/

theorem part0Still_iff : part0Still s = true ↔
    assigned s = false ∨ partFrozen s 0 = true ∨ partInReset s 0 = true := by
  simp [part0Still, or_assoc]

theorem srvCurWrite_of_still (h : part0Still s = true) (v : Dword) :
    srvCurWrite v s = rset64 (regKey 0xE 0 0x80 0) v s := if_pos h

theorem srvCurWrite_of_running (h : part0Still s = false) (v : Dword) :
    srvCurWrite v s = raiseCe 0xE 0 4 0 s := if_neg (Bool.eq_false_iff.mp h)

/-- Settles O45: the cursor is written where partition 0 is still, which is one of the three conditions. -/
theorem cursorIsWrittenOnlyWhileStill : Obligations.CursorIsWrittenOnlyWhileStill := by
  intro src v s hfit
  rw [exec_srvCurWrite src v s hfit]
  refine ⟨fun hstill => ?_, fun hassigned hfrozen hreset => ?_⟩
  · rw [srvCurWrite_of_still (part0Still_iff.mpr hstill)]
  · rw [srvCurWrite_of_running (Bool.eq_false_iff.mpr fun h => ?_)]
    simpa [hassigned, hfrozen, hreset] using part0Still_iff.mp h

/-! ## Fills on their way to the MAC (R305) -/

/-- Where no fill is due, settling the fills changes nothing. -/
theorem settleFills_of_none_due (h : ∀ x ∈ s.serve.fills, t < x.due) : settleFills t s = s := by
  have hdue : s.serve.fills.filter (fun x => decide (x.due ≤ t)) = [] := by simpa using h
  have hkept : s.serve.fills.filter (fun x => !decide (x.due ≤ t)) = s.serve.fills := by
    simpa [List.filter_eq_self] using h
  simp only [settleFills, modServe, hdue, hkept, enterAll]

/-! ## Writes of the SERVE and EGRESS pages (R294, R305, R307) -/

theorem gatherOk_iff {e line : Nat} : gatherOk e line = true ↔ 7168 ≤ line ∧ line + 8 * areaLines e ≤ 7304 := by
  simp [gatherOk]

/-- The feed ring ends within the hub cache of 1,048,576 lines, whichever of its two registers is written. -/
theorem feedGeomWrite_geom (v : Word) (s : State) : feedGeomWrite true v s =
    if field (reg s 0xE 0 0x4C) 19 0 + (field v 7 0 + 1) * (1 + 2 * field v 22 8) ≤ 1048576
    then setReg 0xE 0 0x50 (BitVec.ofNat 32 (field v 22 0)) s else raiseCe 0xE 0 0 (16 * 6) s := by
  simp only [feedGeomWrite, feedGeom, if_true, ← Nat.not_le, ite_not]

theorem feedGeomWrite_line {nb rb : Nat} (h : (nb, rb) = feedGeom (reg s 0xE 0 0x50)) (v : Word) : feedGeomWrite false v s =
    if field v 19 0 + nb * (1 + 2 * rb) ≤ 1048576
    then setReg 0xE 0 0x4C (BitVec.ofNat 32 (field v 19 0)) s else raiseCe 0xE 0 0 (16 * 6) s := by
  simp only [feedGeomWrite, Bool.false_eq_true, if_false, ← h, ← Nat.not_le, ite_not]

section
variable {w : Nat} (hw : w = field (reg s 0xD 0 0x40) 22 16)
include hw

/-- EG_SEL advances past the word that it selected when the access began. -/
theorem egAdvance_modServe (f : ServeSt → ServeSt) : egAdvance (modServe f s) =
    setReg 0xD 0 0x40 (setField (reg s 0xD 0 0x40) 22 16 (if 81 ≤ w then 0 else w + 1)) (modServe f s) := by
  subst hw
  rfl

variable (ht : t = field (reg s 0xD 0 0x40) 9 0)
include ht

/-- A staging word; word 80 marks its template for the next tick boundary. -/
theorem egWrite_of_staging (h : w < 81) (v : Word) : egWrite v s =
    setReg 0xD 0 0x40 (setField (reg s 0xD 0 0x40) 22 16 (w + 1)) { s with serve := { s.serve with
      tplStage := sset (fun _ => 0) s.serve.tplStage (82 * t + w) v,
      tplPend := if w = 80 ∧ !s.serve.tplPend.contains t then s.serve.tplPend ++ [t] else s.serve.tplPend } } := by
  rw [egWrite, ← hw, ← ht, if_neg (by omega), if_pos h, egAdvance_modServe hw, if_neg (by omega)]
  rfl

/-- Word 81 is the committed sequence counter, and EG_SEL wraps. -/
theorem egWrite_of_counter (h : w = 81) (v : Word) : egWrite v s =
    setReg 0xD 0 0x40 (setField (reg s 0xD 0 0x40) 22 16 0)
      { s with serve := { s.serve with tpl := sset (fun _ => 0) s.serve.tpl (82 * t + 81) v } } := by
  rw [egWrite, ← hw, ← ht, if_pos h, setTpl, egAdvance_modServe hw, if_pos (by omega)]
  rfl

end

theorem todCtl_eq (v : Word) (s : State) : todCtl v s = { s with serve := { s.serve with
    todPend := if v.getLsbD 0 then true else s.serve.todPend } } := by
  unfold todCtl
  split <;> rfl

/-- Settles O44, register by register. -/
theorem servingRegistersAreWritten : Obligations.ServingRegistersAreWritten := by
  intro src s
  refine ⟨?model, ?gather, ?geom, ?line, ?pair, ?egress, ?tod⟩
  case model =>
    rintro v slot hfit rfl
    exact exec_srvModelWrite src v s hfit
  case gather =>
    intro v hfit
    rw [exec_srvGatherWrite src v s hfit]
    simp only [srvGatherWrite, gatherOk_iff]
  case geom =>
    intro v hfit
    rw [exec_feedGeomWrite src true v s hfit, feedGeomWrite_geom]
  case line =>
    intro v nb rb hfit hgeom
    rw [exec_feedGeomWrite src false v s hfit, feedGeomWrite_line hgeom]
  case pair =>
    intro v hfit hfills
    rw [exec_srvPairWrite src v s hfit, srvPairWrite, settleFills_of_none_due hfills]
  case egress =>
    intro v t w hfit ht hw
    rw [exec_egDataWrite src v s hfit]
    refine ⟨fun hlow => ?_, fun hlast hnew => ?_, fun hcounter => ?_⟩
    · rw [egWrite_of_staging hw ht (by omega), if_neg (by omega)]
    · rw [egWrite_of_staging hw ht (by omega), hlast, if_pos (by simpa using hnew)]
    · rw [egWrite_of_counter hw ht hcounter]
  case tod =>
    intro v hfit
    rw [exec_todSet src v s hfit, todCtl_eq]

/-! ## IN_CMD (R291) -/

section
variable {n i : Nat}

theorem inCmd_of_busy (hn : 1 ≤ n ∧ n < 7) (hbusy : s.serve.cmd ≠ none) : inCmd n s = raiseCe 0xC 0 0 n s := by
  rw [inCmd, if_neg (by omega), if_pos (Option.isSome_iff_ne_none.mpr hbusy)]

theorem inCmd_of_waiting (hn : 3 ≤ n ∧ n < 7) (hidle : s.serve.cmd = none) : inCmd n s = { s with serve := { s.serve with
    cmd := some ⟨n, field (reg s 0xC 0 0x40) 18 4, inData s⟩ } } := by
  rw [inCmd, if_neg (by omega), if_neg (by simp [hidle]), if_neg (by omega), if_neg (by omega)]
  rfl

theorem inCmd_read (hidle : s.serve.cmd = none) : inCmd 1 s = inRead s := by simp [inCmd, hidle]

theorem inCmd_write (hidle : s.serve.cmd = none) : inCmd 2 s = inWrite s := by simp [inCmd, hidle]

section
variable (hi : i = field (reg s 0xC 0 0x40) 18 4) (ht : t = field (reg s 0xC 0 0x40) 1 0)
include hi ht

theorem inRead_of_entry {e : MapEntry} (hmap : t = 3) (hin : i < 32768) (he : mapEntry s i = some e) :
    inRead s = putInData 0 (entryWords e) (setResult true 0 i s) := by
  have hsize : ¬ tabSize 3 ≤ i := Nat.not_le.mpr hin
  simp only [inRead, ← hi, ← ht, hmap, if_neg hsize, if_true, he]

theorem inRead_of_table (htab : t < 3) (hin : i < tabSize t) :
    inRead s = putInData 0 ((List.range 8).map (tabWord s t i)) (setResult true 0 i s) := by
  simp only [inRead, ← hi, ← ht, if_neg (Nat.not_le.mpr hin), if_neg (Nat.ne_of_lt htab)]

theorem inRead_of_outside (hout : tabSize t ≤ i) : inRead s = inReject 1 6 s := by
  simp only [inRead, ← hi, ← ht, if_pos hout]

theorem inWrite_of_table (htab : t < 3) (hin : i < tabSize t) (hok : tabEntryOk t (inData s) = true) :
    inWrite s = setResult true 0 i (putTab t i 0 (inData s) s) := by
  simp only [inWrite, ← hi, ← ht]
  exact if_neg (by simp [hok, hin, Nat.ne_of_lt htab])

theorem inWrite_of_refused (h : t = 3 ∨ tabSize t ≤ i ∨ tabEntryOk t (inData s) = false) :
    inWrite s = inReject 2 6 s := by
  simp only [inWrite, ← hi, ← ht]
  exact if_pos (by simpa using h)

end

end

/-! ## SRV_CMD (R298, R299) -/

theorem srvChecked_of_ok (c : Nat) (s : State) : srvChecked c .ok s = srvCmd c s := rfl

theorem srvChecked_of_withheld (c n : Nat) (s : State) :
    srvChecked c (.uncorrectable n) s = raise 0xA 0 6 1 (n % 8) (.parts [0]) s := rfl

section
variable {i : Nat} {e : MapEntry} (hi : i = field (reg s 0xE 0 0x5C) 14 0) (he : mapEntry s i = some e)
include hi he

theorem srvJoin_of_idle (hst : e.st = 0) (hroom : s.serve.joinQ.length < 256) (hmodel : modelValid s e.slot = true) :
    srvJoin s = { s with serve := { s.serve with
      map := sset (fun _ => none) s.serve.map i (some { e with st := 1 }),
      joinQ := s.serve.joinQ ++ [⟨i, field (reg s 0xE 0 0x60) 19 0, min 4096 (field (reg s 0xE 0 0x64) 12 0), false⟩],
      joined := s.serve.joined ++ [i] } } := by
  simp only [srvJoin, ← hi, he, hst, ne_eq, not_true, if_false, Nat.not_le.mpr hroom, hmodel, Bool.not_true,
    Bool.false_eq_true]
  rfl

theorem srvJoin_of_active (hst : e.st ≠ 0) : srvJoin s = raiseCe 0xE 0 0 (1 + 16 * 2) s := by
  simp only [srvJoin, ← hi, he, if_pos hst]

theorem srvLeave_of_active (hst : e.st ≠ 0) : srvLeave s = { s with serve := { s.serve with
    map := sset (fun _ => none) s.serve.map i (some { e with leave := true }) } } := by
  simp only [srvLeave, ← hi, he, if_neg hst]
  rfl

theorem srvLeave_of_idle (hst : e.st = 0) : srvLeave s = raiseCe 0xE 0 0 (2 + 16 * 2) s := by
  simp only [srvLeave, ← hi, he, if_pos hst]

end

theorem exec_mapCommand {src : Src} {i : Instr} {n : Nat}
    (h : (i, n) ∈ [(Instr.insert src, 3), (.modify src, 4), (.delete src, 5), (.lookup src, 6)]) (hfit : fit i s = true) :
    exec i s = .next (inCmd n s) ∧ 3 ≤ n ∧ n < 7 := by
  simp only [List.mem_cons, List.not_mem_nil, or_false, Prod.mk.injEq] at h
  obtain ⟨rfl, rfl⟩ | ⟨rfl, rfl⟩ | ⟨rfl, rfl⟩ | ⟨rfl, rfl⟩ := h
  · exact ⟨exec_insert src s hfit, by decide⟩
  · exact ⟨exec_modify src s hfit, by decide⟩
  · exact ⟨exec_delete src s hfit, by decide⟩
  · exact ⟨exec_lookup src s hfit, by decide⟩

/-- Settles O42: the map commands wait or are refused alike; READ, WRITE, JOIN and LEAVE by the laws of their functions. -/
theorem servingCommandsAct : Obligations.ServingCommandsAct := by
  intro src s
  refine ⟨?map, ?tables, ?sequences, ?withheld⟩
  case map =>
    intro i n hi hfit
    obtain ⟨hexec, hn⟩ := exec_mapCommand hi hfit
    rw [hexec]
    refine ⟨fun hidle => ?_, fun hbusy => ?_⟩
    · rw [inCmd_of_waiting hn hidle]
    · rw [inCmd_of_busy (by omega) hbusy]
  case tables =>
    intro i t hi ht hidle
    refine ⟨fun hfit => ?_, fun hfit => ?_⟩
    · rw [exec_inRead src s hfit, inCmd_read hidle]
      refine ⟨fun e hmap hin he => ?_, fun htab hin => ?_, fun hout => ?_⟩
      · rw [inRead_of_entry hi ht hmap hin he]
      · rw [inRead_of_table hi ht htab hin]
      · rw [inRead_of_outside hi ht hout]
    · rw [exec_inWrite src s hfit, inCmd_write hidle]
      refine ⟨fun htab hin hok => ?_, fun hrefused => ?_⟩
      · rw [inWrite_of_table hi ht htab hin hok]
      · rw [inWrite_of_refused hi ht hrefused]
  case sequences =>
    intro i e hi he
    refine ⟨fun hfit hst hroom hmodel => ?_, fun hfit hst => ?_, fun hfit hst => ?_, fun hfit hst => ?_⟩
    · rw [exec_join _ s hfit, srvChecked_of_ok]
      exact congrArg _ (srvJoin_of_idle hi he hst hroom hmodel)
    · rw [exec_join _ s hfit, srvChecked_of_ok]
      exact congrArg _ (srvJoin_of_active hi he hst)
    · rw [exec_leave _ s hfit, srvChecked_of_ok]
      exact congrArg _ (srvLeave_of_active hi he hst)
    · rw [exec_leave _ s hfit, srvChecked_of_ok]
      exact congrArg _ (srvLeave_of_idle hi he hst)
  case withheld =>
    intro t i hi hfit
    simp only [List.mem_cons, List.not_mem_nil, or_false] at hi
    obtain rfl | rfl := hi
    · rw [exec_join _ s hfit, srvChecked_of_withheld]
    · rw [exec_leave _ s hfit, srvChecked_of_withheld]

end

end Sys2Proof.Machine

/-! # Ethernet interfaces: link changes and received frames (R284, R285) -/

namespace Sys2Proof.Machine

open Sys2Proof

section
variable {s u v : State} {intf : Nat} {b c : List Byte} {st : RxStatus}

/-! ## Changes of a link -/

theorem linkChange_of_change {up : Bool} (hon : (reg s 0xB (intf / 4) 0x8).getLsbD 0 = true)
    (hprov : intfProvided s intf = true) (hnew : intfUp s intf ≠ up) : linkChange intf up s =
      raiseCe 0xB (intf / 4) 0 (intf % 4 + 4 * bit01 up)
        { s with serve := { s.serve with ethUp := sset (fun _ => false) s.serve.ethUp intf up } } :=
  if_neg (by simp [hon, hprov, hnew])

theorem linkChange_of_same {up : Bool} (hsame : intfUp s intf = up) : linkChange intf up s = s :=
  if_pos (by simp [hsame])

/-! ## The stages before the class -/

@[simp] theorem ethCount_zero (p i : Nat) (s : State) : ethCount p i 0 s = s := if_pos rfl

/-- The state in which a frame of an interface that is up is judged: counted, with the code words that FEC corrected. -/
def frameCounted (intf : Nat) (st : RxStatus) (s : State) : State :=
  ethCount (intf / 4) 6 st.fecCorrected (ethCount (intf / 4) 0 1 s)

/-- What the verdict of the MACsec stage makes of a whole frame: discarded and counted, reported, or classified. -/
def macsecJudged (intf : Nat) (st : RxStatus) : MacsecVerdict × State → State
  | (.refuse, v) => ethCount (intf / 4) 8 1 v
  | (.icv, v) => raiseCe 0xF 0 5 intf (haCount 9 1 v)
  | (.pass c, v) => classify intf c st v

theorem ethReceive_of_down (h : intfUp s intf = false) : ethReceive intf b st s = s :=
  if_pos (by simp [h])

section
variable (hup : intfUp s intf = true)
include hup

theorem ethReceive_of_uncorrectable (h : 0 < st.fecUncorrectable) : ethReceive intf b st s =
    raiseCe 0xB (intf / 4) 1 (intf % 4) (ethCount (intf / 4) 7 st.fecUncorrectable (frameCounted intf st s)) := by
  simp only [ethReceive, hup, Bool.not_true, Bool.false_eq_true, if_false, h, if_true, frameCounted]

variable (hfec : st.fecUncorrectable = 0)
include hfec

theorem ethReceive_of_bad_fcs (h : st.fcsOk = false) :
    ethReceive intf b st s = ethCount (intf / 4) 5 1 (frameCounted intf st s) := by
  simp only [ethReceive, hup, hfec, h, Bool.not_true, Bool.not_false, Bool.false_eq_true, if_false, if_true,
    Nat.lt_irrefl, ethCount_zero, frameCounted]

variable (hfcs : st.fcsOk = true)
include hfcs

theorem ethReceive_of_bad_length (h : b.length < 60 ∨ 9212 < b.length) :
    ethReceive intf b st s = ethCount (intf / 4) 8 1 (frameCounted intf st s) := by
  simp only [ethReceive, hup, hfec, hfcs, h, Bool.not_true, Bool.false_eq_true, if_false, if_true,
    Nat.lt_irrefl, ethCount_zero, frameCounted, discard]

theorem ethReceive_of_whole (hmin : 60 ≤ b.length) (hmax : b.length ≤ 9212) :
    ethReceive intf b st s = macsecJudged intf st (macsecStage intf b (frameCounted intf st s)) := by
  have hlength : ¬ (b.length < 60 ∨ 9212 < b.length) := by omega
  simp only [ethReceive, hup, hfec, hfcs, if_neg hlength, Bool.not_true, Bool.false_eq_true, if_false,
    Nat.lt_irrefl, ethCount_zero, frameCounted]
  rfl

end

/-! ## The class of a UDP frame -/

section
variable {vlan : Option (BitVec 16)} {l3 : L3} {dst p : List Byte} {h : FrameHdr} (hnet : netOf c = (vlan, .udp l3 dst p))
include hnet

theorem classify_ptp (hport : dstPort l3 = 319 ∨ dstPort l3 = 320) :
    classify intf c st s = emit (.ptp intf st.timestamp c) s := by
  simp only [classify, hnet, if_pos hport]

variable (hh : h = ⟨intf, BitVec.ofNat 48 (beNat (bytesAt c 6 6)), vlan, l3⟩)
  (hport : ¬ (dstPort l3 = 319 ∨ dstPort l3 = 320))
include hh hport

theorem classify_register_frame (hreg : regFrameOn s h = true) :
    classify intf c st s = queueFrame (regReqOf h p) (ethCount (intf / 4) 3 1 s) := by
  simp only [classify, hnet, if_neg hport, ← hh, hreg, if_true]

theorem classify_market {e : Nat} (hreg : regFrameOn s h = false) (hroce : roceOn s h = false)
    (hfilter : filterOf s intf l3 dst = some e) (hon : (reg s 0xC 0 0x8).getLsbD 0 = true) :
    classify intf c st s = marketFrame intf e st.timestamp st.table st.looks p s := by
  simp only [classify, hnet, if_neg hport, ← hh, hreg, hroce, hfilter, hon, Bool.false_eq_true, if_false, if_true]

end

end

/-- Settles O41: a link change by its two laws; a frame by the stage that discards it, or by its class. -/
theorem framesAndLinkChangesArrive : Obligations.FramesAndLinkChangesArrive := by
  constructor
  · intro dt intf up s hwf
    rw [exec_ethLinkChange dt intf up s hwf]
    refine ⟨fun hon hprov hnew => ?_, fun hsame => ?_⟩
    · rw [linkChange_of_change (s := elapse dt s) hon hprov hnew]
      rfl
    · rw [linkChange_of_same (s := elapse dt s) hsame]
  · intro dt intf b st s u hwf hu
    replace hu : u = frameCounted intf st (elapse dt s) := hu
    rw [exec_ethFrameReceive dt intf b st s hwf]
    refine ⟨fun hdown => ?_, fun hup hfec => ?_, fun hup hfec => ⟨fun hfcs => ?_, fun hfcs hlength => ?_,
      fun c v h vlan l3 dst p hfcs hmin hmax hpass hnet hh => ?classes,
      fun v hfcs hmin hmax => ?macsec⟩⟩
    · rw [ethReceive_of_down (s := elapse dt s) hdown]
    · rw [ethReceive_of_uncorrectable (s := elapse dt s) hup hfec, hu]
    · rw [ethReceive_of_bad_fcs (s := elapse dt s) hup hfec hfcs, hu]
    · rw [ethReceive_of_bad_length (s := elapse dt s) hup hfec hfcs hlength, hu]
    all_goals rw [ethReceive_of_whole (s := elapse dt s) hup hfec hfcs hmin hmax, ← hu]
    case classes =>
      rw [hpass, macsecJudged]
      refine ⟨fun hport => ?_, fun hport => ⟨fun hreg => ?_, fun e hreg hroce hfilter hon => ?_⟩⟩
      · rw [classify_ptp hnet hport]
      · rw [classify_register_frame hnet hh hport hreg]
      · rw [classify_market hnet hh hport hreg hroce hfilter hon]
    case macsec =>
      refine ⟨fun hrefuse => ?_, fun hicv => ?_⟩
      · rw [hrefuse, macsecJudged]
      · rw [hicv, macsecJudged]

end Sys2Proof.Machine

/-! # Lines that land, result lines and decision frames (R294 to R306) -/

namespace Sys2Proof.Machine

open Sys2Proof

section
variable {s u v : State}

/-! ## Gather lines and headers (R294 to R296) -/

/-- The oldest lines due have left the crossing, and their edge core takes no other event in their cycle. -/
def linesTaken (g : GatherLine) (s : State) : State :=
  modServe (fun v => { v with
    landing := eraseFirst (fun h => h == g) v.landing, edgeFree := sset (fun _ => 0) v.edgeFree g.core (g.due + 1) }) s

section
variable {g : GatherLine} (hdue : (s.serve.landing.find? fun g => decide (g.due ≤ s.now)) = some g)
include hdue

theorem eventLand_of_taken (hopen : absorbed s g.core none = .no) : eventLand .ok s = chargeGather 2
    (setGatherLine g.core (g.line + 1) g.feature (setGatherLine g.core g.line g.head
      (noteSram g.core [g.line, g.line + 1]
        (if g.due < s.now then crossingLate g.core 0x26 (linesTaken g s) else linesTaken g s)))) := by
  have hopen : absorbed (linesTaken g s) g.core none = .no := hopen
  unfold linesTaken at hopen ⊢
  simp only [eventLand, hdue, tableEcc, dataWithheld, hopen, Bool.false_eq_true, if_false]
  rfl

theorem eventLand_of_withheld (n : Nat) :
    eventLand (.uncorrectable n) s = raise 0xA 0 6 1 (n % 8) (.parts [0]) (linesTaken g s) := by
  simp only [eventLand, hdue]
  rfl

end

theorem stepHeaderLand_of_landed {h : HeaderLine}
    (hfind : (s.serve.headers.find? fun h => !s.serve.landing.any fun g => g.step == h.step) = some h) :
    stepHeaderLand s = landHeader h ((List.range h.ports).map (16 + ·))
      { s with serve := { s.serve with headers := eraseFirst (fun x => x == h) s.serve.headers } } := by
  simp only [stepHeaderLand, hfind]
  rfl

/-! ## Result lines (R302, R305) -/

/-- A flit has left its attachment core, whose entry is free again 10 cycles later. -/
def flitTaken (y : EdgeWire) (c : Nat) (ch : Chan) (s : State) : State :=
  { s with fab := { s.fab with
    edge := eraseFirst (fun z => z == y) s.fab.edge, credits := s.fab.credits ++ [⟨c, ch, .n, s.now + 10⟩] } }

/-- A result line is charged and counted. -/
def resultCounted (y : EdgeWire) (s : State) : State :=
  egCount 0 1 (chargePart 0 14 1 (match y.flit.job with | some j => charge j 14 1 s | none => s))

section
variable {c : Nat} {ch : Chan} {y : EdgeWire}
  (hdue : (s.fab.edge.find? fun y => y.core == c && y.ch == ch && decide (y.due ≤ s.now)) = some y)
  (hused : usedAttachment s c = true) (hgoes : stopsResults s = false) (hfills : ∀ x ∈ s.serve.fills, s.now < x.due)
  (hflit : y.flit.isSeal = false)
include hdue hused hgoes hfills hflit

theorem resultLine_eq : resultLine c ch .ok .ok s =
    if ch = .scalar ∨ ch = .control then egCount 5 1 (flitTaken y c ch s)
    else fillLine y.flit.payload .ok (resultCounted y (flitTaken y c ch s)) := by
  have hsettled := settleFills_of_none_due (t := s.now)
    (s := { s with fab := { s.fab with edge := eraseFirst (fun z => z == y) s.fab.edge } }) hfills
  simp only [resultLine, hdue, hused, hgoes, hsettled, hflit, Bool.not_true, Bool.or_false, Bool.false_eq_true, if_false]
  rfl

end

theorem fillLine_without_decision {line : Line} (hon : (reg s 0xD 0 0x8).getLsbD 0 = true)
    (hbit : bitOf line.toNat 15 = false) (e : Ecc) : fillLine line e s = egCount 2 1 s := by
  simp only [fillLine, hon, hbit, Bool.not_true, Bool.not_false, Bool.false_eq_true, if_false, if_true]

theorem fillLine_of_template {line : Line} {t : Nat} (hon : (reg s 0xD 0 0x8).getLsbD 0 = true)
    (hbit : bitOf line.toNat 15 = true) (ht : t = line.toNat % 1024) (hsound : templateFault s t = none) :
    fillLine line .ok s = setTpl t 81 (tplWord s t 81 + BitVec.ofNat 32 (seqUses ((List.range 81).map (tplWord s t))))
      { s with serve := { s.serve with fills := s.serve.fills ++
        [⟨s.now + 48, (List.range 81).map (tplWord s t), tplWord s t 81, line⟩] } } := by
  simp only [fillLine, hon, hbit, ← ht, tableEcc, dataWithheld, hsound, Bool.not_true, Bool.false_eq_true, if_false]
  rfl

/-! ## Decision frames (R306) -/

theorem launchFrame_of_plain {intf : Nat} (h : macsecOn s intf = false) (f : List Byte) :
    launchFrame intf f s = ethCount (intf / 4) 1 1 { s with out := s.out ++ [.frame intf f] } := by
  simp only [launchFrame, sealFrame, h, Bool.false_eq_true, if_false]
  rfl

/-- The oldest decision frame of an interface has left its buffer. -/
def frameSentOut (intf : Nat) (f : List Byte) (rest : List (List Byte)) (s : State) : State :=
  ethCount (intf / 4) 4 1 (launchFrame intf f
    { s with serve := { s.serve with tx := sset (fun _ => []) s.serve.tx intf rest } })

section
variable {intf : Nat} {f : List Byte} {rest : List (List Byte)}

theorem frameTransmit_of_waiting (hsends : intfSends s intf = true) (hfills : ∀ x ∈ s.serve.fills, s.now < x.due)
    (htx : sget (fun _ => []) s.serve.tx intf = f :: rest) (hu : u = frameSentOut intf f rest s) :
    frameTransmit intf s = if rest = [] then
        launchHost intf (sget (fun _ => []) u.serve.txHost intf)
          { u with serve := { u.serve with txHost := sset (fun _ => []) u.serve.txHost intf [] } }
      else u := by
  subst hu
  simp only [frameTransmit, settleFills_of_none_due hfills, htx, hsends, if_true]
  rfl

end

end

/-- Settles O46: landings by the lines that the command takes, a result line by its channel, its decision bit and its template,
and a frame by what stands behind it. -/
theorem linesLandAndDecisionsLeave : Obligations.LinesLandAndDecisionsLeave := by
  refine ⟨?lands, ?header, ?result, ?transmit, fun intf f s hplain => launchFrame_of_plain hplain f⟩
  case lands =>
    intro dt g s u hwf hdue hu
    replace hu : u = linesTaken g (elapse dt s) := hu
    refine ⟨fun hopen => ?_, fun n => ?_⟩
    · rw [exec_eventLand ⟨dt, .ok⟩ s hwf, hu]
      exact congrArg _ (eventLand_of_taken (s := elapse dt s) hdue hopen)
    · rw [exec_eventLand ⟨dt, .uncorrectable n⟩ s hwf, hu]
      exact congrArg _ (eventLand_of_withheld (s := elapse dt s) hdue n)
  case header =>
    intro dt h s hwf hfind
    rw [exec_stepHeaderLand dt s hwf, stepHeaderLand_of_landed (s := elapse dt s) hfind]
    rfl
  case result =>
    intro dt c ch y s u v hwf hdue hused hgoes hfills hflit hu hv
    replace hu : u = flitTaken y c ch (elapse dt s) := hu
    replace hv : v = resultCounted y u := hv
    rw [exec_resultLine dt c ch .ok .ok s hwf,
      resultLine_eq (s := elapse dt s) hdue hused hgoes hfills hflit, ← hu, ← hv]
    refine ⟨fun hnarrow => ?_, fun hscalar hcontrol hon => ?_⟩
    · rw [if_pos hnarrow]
    · rw [if_neg (not_or.mpr ⟨hscalar, hcontrol⟩)]
      refine ⟨fun hbit => ?_, fun t ht hbit hsound => ?_⟩
      · rw [fillLine_without_decision hon hbit]
      · rw [fillLine_of_template hon hbit ht hsound]
  case transmit =>
    intro dt intf f rest s u hwf hsends hfills htx hu
    rw [exec_decisionFrameTransmit dt intf s hwf,
      frameTransmit_of_waiting (s := elapse dt s) hsends hfills htx hu]
    refine ⟨fun hmore => ?_, fun hlast => ?_⟩
    · rw [if_neg hmore]
    · rw [if_pos hlast]

end Sys2Proof.Machine

/-! # Gather boundaries: a register hidden by an unsorted store -/

namespace Sys2Proof.Machine

open Sys2Proof

/-! ## The counterexample to `GatherBoundariesAct` -/

/-- An image with one serving job, in partition 0 and served by one Ridge. -/
def servingImage : Image := ⟨0, 4096, 1, 0, 1, 4, 1, 1, List.replicate 16 0, [⟨0, true, 1, 3⟩]⟩

/-- Step 0, which the Port is composing for eight cores. -/
def openedStep : StepRec := ⟨0, 8, 7168, [], 0, 0⟩

/-- The Port serves and composes step 0. The store lists its registers out of order, the counter of closed steps, about to carry
into its high half, before SRV_GATHER: a read of SRV_GATHER stops at the counter and gives the reset value, 7168. -/
def unsortedState : State :=
  { State.reset with
    regs := [(regKey 0xE 0 8 0, 1), (regKey 0xE 0 0x8C 0, 0xFFFFFFFF), (regKey 0xE 0 0x44 0, 7200)],
    sched := { Sched.reset with active := some servingImage }, parts := [(0, ⟨1, none, false, false⟩)],
    tick := { Tick.reset with running := true }, serve := { ServeSt.reset with comp := some openedStep } }

theorem srvGather_unsorted : reg unsortedState 0xE 0 0x44 = 7168 := by decide +kernel

/-- Closing step 0 counts it: the low half of the counter becomes 0 and leaves the store, and SRV_GATHER reads 7200. -/
theorem gatherBoundary_unsorted :
    (gatherBoundary unsortedState).serve.comp.map (·.base) = some 7200 := by decide +kernel

/-- Refutes O43: the statement takes the base of the step that opens from SRV_GATHER before the boundary, but the model reads it
after it has counted the step that closes. In a state whose register store is not in canonical form the count uncovers another
value of SRV_GATHER. What the statement lacks is the premise `s.Canonical`, under which no counter moves another register. -/
theorem not_gatherBoundariesAct : ¬ Obligations.GatherBoundariesAct := by
  intro h
  obtain ⟨-, -, hnone⟩ := h unsortedState (by decide) rfl (by decide +kernel)
  obtain ⟨-, hclose⟩ := hnone _ _ rfl rfl rfl rfl rfl rfl (by decide) (by decide) (by decide +kernel) rfl rfl
  obtain ⟨t, ht, hserve⟩ := hclose openedStep rfl (by decide +kernel)
  rw [exec_gatherBoundary unsortedState (by decide)] at ht
  have hbase := gatherBoundary_unsorted
  rw [Host.Outcome.next.inj ht, hserve] at hbase
  dsimp only [Option.map_some] at hbase
  rw [srvGather_unsorted] at hbase
  exact absurd hbase (by decide)

end Sys2Proof.Machine

/-! # The pair: takeover, handover, release and verdicts (R310, R356 to R359) -/

namespace Sys2Proof.Machine

open Sys2Proof

section
variable {s t u r : State}

/-! ## The takeover signal (R310, R356) -/

theorem takeoverSignal_of_secondary (hrole : pairRole s = 2) (hon : (reg s 0x18 0 0x40).getLsbD 9 = true)
    (hfirst : s.pair.taken = false) :
    takeoverSignal s = { s with pair := { s.pair with taken := true, takePending := true } } :=
  if_pos ⟨hrole, hon, by simp [hfirst]⟩

theorem takeoverSignal_of_ignored (h : pairRole s ≠ 2 ∨ s.pair.taken = true) : takeoverSignal s = s :=
  if_neg fun ⟨hrole, _, hfirst⟩ => by rcases h with h | h <;> simp_all

theorem pairSilence_of_silent (hon : (reg s 0x18 0 0x40).getLsbD 10 = true)
    (hsilent : ∀ k ∈ pairLinks s, (link s k).markAt + 2 * ticT s ≤ s.now) : pairSilence s = takeoverSignal s :=
  if_pos (by simpa [hon] using hsilent)

theorem pairSilence_of_heard {k : Nat} (hk : k ∈ pairLinks s) (hheard : s.now < (link s k).markAt + 2 * ticT s) :
    pairSilence s = s :=
  if_neg fun h => absurd hheard (Nat.not_lt.mpr (by
    obtain ⟨-, hall⟩ := Bool.and_eq_true_iff.mp h
    exact of_decide_eq_true (List.all_eq_true.mp hall k hk)))

/-- The two commands that can signal a takeover are the signal, on a pair link or after the silence. -/
theorem exec_takeover {dt l : Nat} {cause : Word} {i : Instr}
    (h : (i = .primaryFaultMsg dt l cause ∧ (pairLinks s).contains l = true) ∨
      (i = .pairSilence dt ∧ (reg s 0x18 0 0x40).getLsbD 10 = true ∧
        ∀ k ∈ pairLinks s, (link s k).markAt + 2 * ticT s ≤ s.now + dt)) (hwf : i.wf = true) :
    exec i s = .next (takeoverSignal (elapse dt s)) := by
  obtain ⟨rfl, hlink⟩ | ⟨rfl, hon, hsilent⟩ := h
  · rw [exec_primaryFaultMsg dt l cause s hwf, onlyIf, if_pos hlink]
  · rw [exec_pairSilence dt s hwf, pairSilence_of_silent (s := elapse dt s) hon hsilent]

/-! ## HANDOVER and RELEASE -/

theorem primaryFault_of_primary (hrole : pairRole s = 1) (hon : (reg s 0x18 0 0x40).getLsbD 9 = true) (cause : Nat) :
    primaryFault cause s = record 0x18 0 6 0 cause [keyOf 0x18 0]
      (faultNext (pairLinks s) (sendFirst (mgmtSlot 0x7F [BitVec.ofNat 8 cause]) (pairLinks s)
        { s with pair := { s.pair with fault := some (cause, 64) } })) := if_pos ⟨hrole, hon⟩

theorem primaryFault_of_other (hrole : pairRole s ≠ 1) (cause : Nat) : primaryFault cause s = s :=
  if_neg fun h => hrole h.1

theorem pairRelease_of_held (h : s.pair.st = 4) : pairRelease s =
    pairCheck { s with pair := { s.pair with st := if s.pair.formed then 1 else 0 } } := if_pos h

theorem pairRelease_of_other (h : s.pair.st ≠ 4) : pairRelease s = s := if_neg h

/-! ## What a read by the Crest leaves alone (R242, log entry 48) -/

theorem setRegs_same (l : List (Nat × Word)) (s : State) : SameButReports s (setRegs l s) := by
  induction l generalizing s with
  | nil => rfl
  | cons e l ih => exact (rset_same ..).trans (ih _)

theorem noteRecord_same (key rank : Nat) (vals : List (Nat × Word)) (s : State) :
    SameButReports s (noteRecord key rank vals s) := by
  unfold noteRecord
  extract_lets valid noted
  have hset (x : Fresh) : SameButReports s (setRegs vals (setFresh x s)) :=
    SameButReports.trans (t := setFresh x s) rfl (setRegs_same ..)
  split
  · split
    · rfl
    · exact hset _
  · split
    · split
      · exact hset _
      · rfl
    · rfl

theorem hbmParity_same (stack line : Nat) (errs : SymErrs) (s : State) : SameButReports s (hbmParity stack line errs s) := by
  induction errs generalizing s with
  | nil => rfl
  | cons e errs ih =>
    cases e with
    | parity => exact ((bump32_same ..).trans (raiseCe_same ..)).trans (ih _)
    | symbol k x => exact ih s

theorem hbmCorrected_same (stack line : Nat) (s : State) : SameButReports s (hbmCorrected stack line s) :=
  (bump32_same ..).trans (raiseCe_same ..)

/-- An uncorrectable line that stops no master is reported and no more. -/
theorem hbmUncorrectable_same (a stack line : Nat) (scrub : Bool) (s : State) :
    SameButReports s (hbmUncorrectable a stack line scrub .none s) := by
  unfold hbmUncorrectable raise
  extract_lets counted noted
  have hnoted : SameButReports s noted := (bump32_same ..).trans (noteRecord_same ..)
  split
  · exact hnoted
  · exact hnoted.trans (record_same ..)

theorem foldl_same {α : Type} {f : State → α → State} (hf : ∀ s x, SameButReports s (f s x)) (l : List α) (s : State) :
    SameButReports s (l.foldl f s) := by
  induction l generalizing s with
  | nil => rfl
  | cons x l ih => exact (hf s x).trans (ih _)

theorem countCrest_same (a n : Nat) (s : State) : SameButReports s (countCrest a n s) := by
  refine foldl_same (fun s g => ?_) _ s
  dsimp only
  split
  · exact bump48_same ..
  · rfl

theorem crestStep_same (exts : List (Nat × Nat)) (r : Bool × State) (e : Nat × SymErrs) :
    SameButReports r.2 (crestStep exts r e).2 := by
  unfold crestStep
  split
  · split
    · dsimp only
      split
      · exact hbmParity_same ..
      · exact (hbmParity_same ..).trans (hbmCorrected_same ..)
      · exact (hbmParity_same ..).trans (hbmUncorrectable_same ..)
    · rfl
  · rfl

/-- A read by the Crest freezes no master. -/
theorem crestRead_same (exts : List (Nat × Nat)) (errs : List (Nat × SymErrs)) (s : State) :
    SameButReports s (crestRead exts errs s).2 := by
  have hsteps : ∀ r : Bool × State, SameButReports r.2 (errs.foldl (crestStep exts) r).2 := by
    induction errs with
    | nil => exact fun r => rfl
    | cons e errs ih => exact fun r => (crestStep_same exts r e).trans (ih _)
  have hcounted : SameButReports s (exts.foldl (fun s x => countCrest x.1 x.2 s) s) := by
    refine foldl_same (fun s x => ?_) exts s
    exact countCrest_same ..
  exact hcounted.trans (hsteps (true, _))

theorem pairSend_pair (code : Nat) (b : List Byte) (s : State) : (pairSend code b s).pair = s.pair :=
  keep_pairSend (closed_same .pair s) (by decide) rfl

/-! ## Verdicts (R359, Table 12.7) -/

@[simp] theorem physLine_elapse (n a : Nat) (s : State) : physLine (elapse n s) a = physLine s a := rfl

@[simp] theorem disputedGranule_elapse (n : Nat) (s : State) : disputedGranule (elapse n s) = disputedGranule s := rfl

/-- What lies in memory does not change while time passes, and so neither does the verdict. -/
@[simp] theorem recomputeEquals_elapse (n : Nat) (s : State) (q : Recompute) :
    recomputeEquals (elapse n s) q = recomputeEquals s q := by
  simp only [recomputeEquals, recomputedLine, physLine_elapse, disputedGranule_elapse]

section
variable (hst : s.pair.st = 3)
include hst

theorem verdictsKnown_of_own_fault (h : s.pair.verdict = some (some false)) : verdictsKnown s = selfFault s := by
  simp only [verdictsKnown, hst, ne_eq, not_true, if_false, h]

theorem verdictsKnown_of_unreadable (h : s.pair.verdict = some none) : verdictsKnown s = pairHeld 1 s := by
  simp only [verdictsKnown, hst, ne_eq, not_true, if_false, h]

section
variable (hown : s.pair.verdict = some (some true))
include hown

theorem verdictsKnown_of_waiting (h : s.pair.peerVerdict = none) : verdictsKnown s = s := by
  simp only [verdictsKnown, hst, ne_eq, not_true, if_false, hown, h]

theorem verdictsKnown_of_partner_sound (h : s.pair.peerVerdict = some (some true) ∨ s.pair.peerVerdict = some none) :
    verdictsKnown s = pairHeld 1 s := by
  rcases h with h | h <;> simp only [verdictsKnown, hst, ne_eq, not_true, if_false, hown, h]

theorem verdictsKnown_of_partner_fault (h : s.pair.peerVerdict = some (some false)) : verdictsKnown s =
    { s with pair := { s.pair with st := 4, formed := false, own := [], peer := [], seeking := none } } := by
  simp only [verdictsKnown, hst, ne_eq, not_true, if_false, hown, h]

end

end

/-- The code of a verdict in its message. -/
def verdictCode (e : Option Bool) : Byte :=
  match e with
  | some true => 1
  | some false => 0
  | none => 2

/-- A device's own verdict is known and on its way to the partner. -/
def verdictSent (e : Option Bool) (s : State) : State :=
  pairSend 0x14 [4, verdictCode e] { s with pair := { s.pair with verdict := some e } }

theorem verdictSent_pair (e : Option Bool) (s : State) : (verdictSent e s).pair = { s.pair with verdict := some e } :=
  pairSend_pair ..

theorem recomputeDone_of_disputing {q : Recompute} {ok : Bool} {e : Option Bool} (hst : s.pair.st = 3)
    (hnew : s.pair.verdict = none) (hread : crestRead (recomputeExtents s q) q.errs s = (ok, r))
    (he : e = if ok then some (recomputeEquals s q) else none) :
    recomputeDone q s = verdictsKnown (verdictSent e r) := by
  simp only [recomputeDone, hst, hnew, Option.isNone_none, and_self, if_true, hread, ← he]
  rfl

/-- The read changes nothing of the pair, so only this device's verdict is new when the verdicts are judged. -/
theorem verdictSent_after_read {q : Recompute} {ok : Bool} (hread : crestRead (recomputeExtents s q) q.errs s = (ok, r))
    (e : Option Bool) : (verdictSent e r).pair = { s.pair with verdict := some e } := by
  have hsame := crestRead_same (recomputeExtents s q) q.errs s
  rw [hread] at hsame
  have hpair : r.pair = s.pair := hsame.same (f := .pair) (by decide) (by decide)
  rw [verdictSent_pair, hpair]

end

/-- Settles O55: the signal acts by its law, whichever command brings it; a verdict decides by the pair that the read and the
message leave as it was. -/
theorem takeoversAndVerdictsAct : Obligations.TakeoversAndVerdictsAct := by
  refine ⟨?takeover, ?heard, ?handover, ?release, ?verdict⟩
  case takeover =>
    intro dt l cause i s hi hwf
    rw [exec_takeover hi hwf]
    refine ⟨fun hrole hon hfirst => ?_, fun hignored => ?_⟩
    · rw [takeoverSignal_of_secondary (s := elapse dt s) hrole hon hfirst]
      rfl
    · rw [takeoverSignal_of_ignored (s := elapse dt s) hignored]
  case heard =>
    intro dt k s hwf hk hheard
    rw [exec_pairSilence dt s hwf, pairSilence_of_heard (s := elapse dt s) hk hheard]
  case handover =>
    intro src s hfit
    rw [exec_handover src s hfit]
    refine ⟨fun hrole hon => ?_, fun hrole => ?_⟩
    · rw [primaryFault_of_primary hrole hon]
      rfl
    · rw [primaryFault_of_other hrole]
  case release =>
    intro src s hfit
    rw [exec_release src s hfit]
    refine ⟨fun hheld => ?_, fun hother => ?_⟩
    · rw [pairRelease_of_held hheld]
    · rw [pairRelease_of_other hother]
  case verdict =>
    intro dt q ok e code s r u hwf hst hnew hread he hcode hu
    rw [← recomputeEquals_elapse dt] at he
    have hsent : u = verdictSent e r := by rw [hu, hcode]; rfl
    have hpair : u.pair = { s.pair with verdict := some e } := hsent ▸ verdictSent_after_read (s := elapse dt s) hread e
    have hstu : u.pair.st = 3 := by rw [hpair]; exact hst
    have hpeer : u.pair.peerVerdict = s.pair.peerVerdict := by rw [hpair]
    have hown : u.pair.verdict = some e := by rw [hpair]
    rw [exec_recomputeDone dt q s hwf, recomputeDone_of_disputing (s := elapse dt s) hst hnew hread he, ← hsent]
    refine ⟨fun hsound hwait => ?_, fun hfault => ?_, fun hheld => ?_, fun hsound hwrong => ?_⟩
    · rw [verdictsKnown_of_waiting hstu (hsound ▸ hown) (hpeer.trans hwait)]
    · rw [verdictsKnown_of_own_fault hstu (hfault ▸ hown)]
      rfl
    · obtain hblind | ⟨hsound, hagree⟩ := hheld
      · rw [verdictsKnown_of_unreadable hstu (hblind ▸ hown)]
        rfl
      · rw [verdictsKnown_of_partner_sound hstu (hsound ▸ hown) (hpeer ▸ hagree)]
        rfl
    · rw [verdictsKnown_of_partner_fault hstu (hsound ▸ hown) (hpeer.trans hwrong)]

end Sys2Proof.Machine

/-! # Register frames on the register path (R318 to R323, R329, R333) -/

namespace Sys2Proof.Machine

open Sys2Proof

section
variable {s u : State} {q : RegReq} {n : Nat}

/-! ## The register path (R321) -/

theorem pathTake_of_head {e : PathEntry} {rest : List PathEntry} (hpath : s.host.path = e :: rest) (hq : e.q = q)
    (hside : e.sideband = false) : pathTake q s = some { s with host := { s.host with path := rest } } := by
  simp only [pathTake, hpath, hq, hside, and_self, if_true]
  rfl

theorem pathTake_of_arrival (hpath : s.host.path = []) (hsends : intfSends s q.hdr.intf = true)
    (hon : regFrameOn s q.hdr = true) :
    pathTake q s = some (ethCount (q.hdr.intf / 4) 3 1 (ethCount (q.hdr.intf / 4) 0 1 s)) := by
  simp only [pathTake, hpath, hsends, hon, Bool.and_self, if_true]

/-- The rows that register frames come by, with the op that each takes (Table 11.2). -/
def frameRows (dt : Nat) (q : RegReq) : List (Instr × Byte) :=
  [(.read dt q, 1), (.write dt q, 2), (.rmw dt q, 3), (.blockRead dt q, 4), (.sync dt q, 5), (.eventAck dt q, 7)]

/-- A row of its own op gives the request that the path takes to `takeFrame`. -/
theorem exec_frameRow {dt : Nat} {i : Instr} {op : Byte} (hrow : (i, op) ∈ frameRows dt q) (hop : q.op = op)
    (hwf : i.wf = true) (htake : pathTake q (elapse dt s) = some u) : exec i s = .next (takeFrame q u) := by
  have htaken {ops : List Nat} (hmem : ops.contains q.op.toNat = true) (other : Bool) :
      frameOp ops other q (elapse dt s) = takeFrame q u := by
    simp only [frameOp, hmem, htake, Bool.true_or, if_true]
  simp only [frameRows, List.mem_cons, Prod.mk.injEq, List.not_mem_nil, or_false] at hrow
  obtain ⟨rfl, rfl⟩ | ⟨rfl, rfl⟩ | ⟨rfl, rfl⟩ | ⟨rfl, rfl⟩ | ⟨rfl, rfl⟩ | ⟨rfl, rfl⟩ := hrow
  · rw [exec_read dt q s hwf, htaken (by rw [hop]; decide)]
  · rw [exec_write dt q s hwf, htaken (by rw [hop]; decide)]
  · rw [exec_rmw dt q s hwf, htaken (by rw [hop]; decide)]
  · rw [exec_blockRead dt q s hwf, htaken (by rw [hop]; decide)]
  · rw [exec_sync dt q s hwf, htaken (by rw [hop]; decide)]
  · rw [exec_eventAck dt q s hwf, htaken (by rw [hop]; decide)]

/-! ## What the source and the interface decide (R320, R323, R333) -/

theorem takeFrame_of_unknown (h : matchSource s q.hdr = none) : takeFrame q s = unknownSource q.hdr s := by
  simp only [takeFrame, h]

section
variable (hsource : matchSource s q.hdr = some n)
include hsource

theorem takeFrame_of_unprotected (hintf : unprotectedIntf s q.hdr.intf = true) (hopen : openUnprotected q = false) :
    takeFrame q s = reply n q ⟨7, []⟩ (haCount 8 1 s) := by
  simp only [takeFrame, hsource, hintf, hopen, Bool.not_false, Bool.and_self, if_true]

theorem takeFrame_of_protected (hintf : unprotectedIntf s q.hdr.intf = false) : takeFrame q s = acceptedFrame n q s := by
  simp only [takeFrame, hsource, hintf, Bool.false_and, Bool.false_eq_true, if_false]

end

theorem acceptedFrame_of_frozen (hop : q.op ≠ 7) (h : (sourceSt s n).frozen = true) :
    acceptedFrame n q s = reply n q ⟨6, []⟩ (haCount 4 1 s) := by
  simp only [acceptedFrame, h, hop, if_true, if_false]

section
variable (hfrozen : (sourceSt s n).frozen = false)
include hfrozen

theorem acceptedFrame_of_malformed (hop : q.op ≠ 7) (h : malformed q = true) :
    acceptedFrame n q s = reply n q ⟨5, []⟩ s := by
  simp only [acceptedFrame, hfrozen, h, hop, Bool.false_eq_true, if_true, if_false]

variable (hform : malformed q = false)
include hform

theorem acceptedFrame_of_eventAck (hop : q.op = 7) : acceptedFrame n q s = eventAcked q.seq s := by
  simp only [acceptedFrame, hfrozen, hform, hop, Bool.false_eq_true, if_true, if_false]

theorem acceptedFrame_of_sync (hop : q.op = 5) : acceptedFrame n q s = syncSource n q s := by
  have hack : (5 : Byte) ≠ 7 := by decide
  simp only [acceptedFrame, hfrozen, hform, hop, hack, Bool.false_eq_true, if_true, if_false]

theorem acceptedFrame_of_request (hack : q.op ≠ 7) (hsync : q.op ≠ 5) : acceptedFrame n q s = sequenced n q s := by
  simp only [acceptedFrame, hfrozen, hform, hack, hsync, Bool.false_eq_true, if_false]

end

/-! ## A request against the expected seq (R322) -/

theorem sequenced_of_expected (hsynced : (sourceSt s n).synced = true) (hseq : q.seq = (sourceSt s n).expected) :
    sequenced n q s = performSource n q s :=
  if_pos ⟨hsynced, by simp [hseq]⟩

/-- The request before the expected one is 2^32 − 1 ahead of it. -/
theorem seq_distance_of_last {a b : Word} (h : a + 1 = b) : (a - b).toNat = 2 ^ 32 - 1 := by
  subst h
  bv_omega

theorem last_of_seq_distance {a b : Word} (h : (a - b).toNat = 2 ^ 32 - 1) : a + 1 = b := by
  bv_omega

theorem sequenced_of_last {b : List Byte} (hsynced : (sourceSt s n).synced = true) (hseq : q.seq + 1 = (sourceSt s n).expected)
    (hstored : (sourceSt s n).stored = some b) :
    sequenced n q s = sendFrame q.hdr.intf (answerBytes s q.hdr b) (haCount 3 1 s) := by
  simp only [sequenced, hsynced, seq_distance_of_last hseq, hstored, true_and, if_true]
  rfl

/-- Before SYNC, or ahead of the expected seq: the answer tells which is expected. -/
theorem sequenced_of_ahead (hplace : (sourceSt s n).synced = false ∨ 0 < (q.seq - (sourceSt s n).expected).toNat)
    (hnear : (q.seq - (sourceSt s n).expected).toNat < 2 ^ 31) :
    sequenced n q s = reply n q ⟨4, [(sourceSt s n).expected]⟩ (haCount 2 1 s) := by
  have hexpected : ¬ ((sourceSt s n).synced = true ∧ (q.seq - (sourceSt s n).expected).toNat = 0) := by
    rintro ⟨hsynced, hzero⟩
    rcases hplace with h | h
    · simp [h] at hsynced
    · omega
  have hlast : ¬ ((sourceSt s n).synced = true ∧ (q.seq - (sourceSt s n).expected).toNat = 2 ^ 32 - 1) := by omega
  simp only [sequenced, if_neg hexpected, if_neg hlast, if_pos hnear]

theorem sequenced_of_older (hfar : 2 ^ 31 ≤ (q.seq - (sourceSt s n).expected).toNat)
    (hplace : (sourceSt s n).synced = false ∨ q.seq + 1 ≠ (sourceSt s n).expected) : sequenced n q s = haCount 2 1 s := by
  have hexpected : ¬ ((sourceSt s n).synced = true ∧ (q.seq - (sourceSt s n).expected).toNat = 0) := by omega
  have hlast : ¬ ((sourceSt s n).synced = true ∧ (q.seq - (sourceSt s n).expected).toNat = 2 ^ 32 - 1) := by
    rintro ⟨hsynced, hdistance⟩
    rcases hplace with h | h
    · simp [h] at hsynced
    · exact h (last_of_seq_distance hdistance)
  simp only [sequenced, if_neg hexpected, if_neg hlast, if_neg (Nat.not_lt.mpr hfar)]

/-! ## Performing the expected request (R319, R323) -/

/-- The state in which the request of the expected seq is performed: it has used its seq, and is counted. -/
def seqUsed (n : Nat) (q : RegReq) (s : State) : State :=
  haCount 0 1 (setSource n { sourceSt s n with expected := q.seq + 1 } s)

theorem performSource_of_allowed (h : allowed (sourceRights s n) q = true) {r : Reply} {w : State}
    (hop : doOp (.frame n) q (seqUsed n q s) = (r, w)) : performSource n q s = reply n q r (storeReply n q r w) := by
  have hrights : allowed (sourceRights (setSource n { sourceSt s n with expected := q.seq + 1 } s) n) q = true := h
  simp only [seqUsed] at hop
  simp only [performSource, hrights, Bool.or_true, if_true, hop]

theorem performSource_of_refused (hintf : unprotectedIntf s q.hdr.intf = false) (h : allowed (sourceRights s n) q = false) :
    performSource n q s = reply n q ⟨3, []⟩ (storeReply n q ⟨3, []⟩
      (raise 0xF 0 0 1 n (.source n) (setSource n { sourceSt s n with expected := q.seq + 1 } s))) :=
  if_neg (by
    have hrights : allowed (sourceRights (setSource n { sourceSt s n with expected := q.seq + 1 } s) n) q = false := h
    have hopen : unprotectedIntf (setSource n { sourceSt s n with expected := q.seq + 1 } s) q.hdr.intf = false := hintf
    rw [hrights, hopen]
    decide)

section
variable {src : Src} {x : Word} {st : Nat} {w : State}

theorem doOp_read (hop : q.op = 1) (h : regRead src q.addr s = (0, x, w)) : doOp src q s = (⟨0, [x]⟩, w) := by
  simp only [doOp, hop, if_true, doRead, readBlock, h]

theorem doOp_read_of_failed (hop : q.op = 1) (h : regRead src q.addr s = (st, x, w)) (hst : st ≠ 0) :
    doOp src q s = (⟨st, []⟩, w) := by
  simp only [doOp, hop, if_true, doRead, readBlock, h]

theorem doOp_write (hop : q.op = 2) (h : regWrite src q.addr q.value s = (st, w)) : doOp src q s = (⟨st, []⟩, w) := by
  have h1 : (2 : Byte) ≠ 1 := by decide
  simp only [doOp, hop, h1, if_true, if_false, doWrite, h]

theorem doOp_rmw {old : Word} {v : State} (hop : q.op = 3) (hread : regRead src q.addr s = (0, old, v))
    (hwrite : regWrite src q.addr ((old &&& ~~~q.mask) ||| (q.value &&& q.mask)) v = (st, w)) :
    doOp src q s = (⟨st, [old]⟩, w) := by
  have h1 : (3 : Byte) ≠ 1 := by decide
  have h2 : (3 : Byte) ≠ 2 := by decide
  simp only [doOp, hop, h1, h2, if_true, if_false, doRmw, rmwValue, hread, hwrite]

theorem doOp_blockRead (hop : q.op = 4) : doOp src q s = readBlock src q.count.toNat q.addr s := by
  have h1 : (4 : Byte) ≠ 1 := by decide
  have h2 : (4 : Byte) ≠ 2 := by decide
  have h3 : (4 : Byte) ≠ 3 := by decide
  simp only [doOp, hop, h1, h2, h3, if_true, if_false, doBlock]

end

/-! ## EVENT_ACK (R329) -/

theorem eventAcked_of_pending {f : EventFrame} {seq : Word} (hframe : s.host.evtFrame = some f) (hseq : seq = s.host.evtSeq) :
    eventAcked seq s = { s with
      host := { s.host with
        evtNext := f.first + BitVec.ofNat 32 f.count, evtSeq := s.host.evtSeq + 1, evtFrame := none, evtStalled := false },
      faults := { s.faults with log := s.faults.log.map (markRead f.first f.count) } } := by
  simp only [eventAcked, hframe, hseq, ne_eq, not_true, if_false]
  rfl

end

/-- Settles O47: the path takes the request in one of two ways; from there the op decides what is performed. -/
theorem registerFramesArePerformed : Obligations.RegisterFramesArePerformed := by
  intro dt q n s u v hpath hsource hintf hfrozen hform hv
  replace hv : v = seqUsed n q u := hv
  have htake : pathTake q (elapse dt s) = some u := by
    obtain ⟨e, rest, hhead, hq, hside, hu⟩ | ⟨hempty, hsends, hon, hu⟩ := hpath
    · rw [pathTake_of_head (s := elapse dt s) hhead hq hside, hu]
      rfl
    · rw [pathTake_of_arrival (s := elapse dt s) hempty hsends hon, hu]
  have htaken {i : Instr} {op : Byte} (hrow : (i, op) ∈ frameRows dt q) (hop : q.op = op) (hwf : i.wf = true) :
      exec i s = .next (acceptedFrame n q u) := by
    rw [exec_frameRow hrow hop hwf htake, takeFrame_of_protected hsource hintf]
  refine ⟨fun hsynced hseq hrights => ?performed, fun hop hwf => ?sync, fun f hop hwf hframe hseq => ?ack⟩
  case performed =>
    have hperformed {i : Instr} {op : Byte} {r : Reply} {w : State} (hrow : (i, op) ∈ frameRows dt q) (hop : q.op = op)
        (hwf : i.wf = true) (hack : op ≠ 7) (hsync : op ≠ 5) (hdo : doOp (.frame n) q v = (r, w)) :
        exec i s = .next (reply n q r (storeReply n q r w)) := by
      rw [htaken hrow hop hwf, acceptedFrame_of_request hfrozen hform (hop ▸ hack) (hop ▸ hsync),
        sequenced_of_expected hsynced hseq.symm, performSource_of_allowed hrights (hv ▸ hdo)]
    refine ⟨fun hop hwf => ⟨fun x w hread => ?_, fun st x w hst hread => ?_⟩, fun hop hwf st w hwrite => ?_,
      fun hop hwf old w st x hread hwrite => ?_, fun hop hwf r w hblock => ?_⟩
    · exact hperformed (by simp [frameRows]) hop hwf (by decide) (by decide) (doOp_read hop hread)
    · exact hperformed (by simp [frameRows]) hop hwf (by decide) (by decide) (doOp_read_of_failed hop hread hst)
    · exact hperformed (by simp [frameRows]) hop hwf (by decide) (by decide) (doOp_write hop hwrite)
    · exact hperformed (by simp [frameRows]) hop hwf (by decide) (by decide) (doOp_rmw hop hread hwrite)
    · exact hperformed (by simp [frameRows]) hop hwf (by decide) (by decide) ((doOp_blockRead hop).trans hblock)
  case sync =>
    rw [htaken (by simp [frameRows]) hop hwf, acceptedFrame_of_sync hfrozen hform hop]
    rfl
  case ack =>
    rw [htaken (by simp [frameRows]) hop hwf, acceptedFrame_of_eventAck hfrozen hform hop,
      eventAcked_of_pending hframe hseq]

/-- Settles O48: the refusals in the order in which the path comes to them: source, interface, freeze, form, seq, rights. -/
theorem registerFramesAreRefused : Obligations.RegisterFramesAreRefused := by
  intro i op dt q e rest s u hrow hop hwf hhead hq hside hu
  have hrequest : op ≠ 7 ∧ op ≠ 5 := by
    simp only [List.mem_cons, Prod.mk.injEq, List.not_mem_nil, or_false] at hrow
    rcases hrow with ⟨-, rfl⟩ | ⟨-, rfl⟩ | ⟨-, rfl⟩ | ⟨-, rfl⟩ <;> decide
  obtain ⟨hack, hsync⟩ := hop ▸ hrequest
  have htake : pathTake q (elapse dt s) = some u := by
    rw [pathTake_of_head (s := elapse dt s) hhead hq hside, hu]
    rfl
  have hrow : (i, op) ∈ frameRows dt q := by
    simp only [frameRows, List.mem_cons] at hrow ⊢
    tauto
  rw [exec_frameRow hrow hop hwf htake]
  -- Taking the request off the path changes neither registers nor sources.
  have hmatch : matchSource u q.hdr = matchSource s q.hdr := by rw [hu]; rfl
  have hopen : unprotectedIntf u q.hdr.intf = unprotectedIntf s q.hdr.intf := by rw [hu]; rfl
  have hstate (n : Nat) : sourceSt u n = sourceSt s n := by rw [hu]; rfl
  have hrights (n : Nat) : sourceRights u n = sourceRights s n := by rw [hu]; rfl
  simp only [← hmatch, ← hopen, ← hstate, ← hrights]
  refine ⟨fun hnone => ?_, fun n hsource => ⟨fun hintf hclosed => ?_, fun hintf => ?_⟩⟩
  · rw [takeFrame_of_unknown hnone, unknownSource]
  · rw [takeFrame_of_unprotected hsource hintf hclosed]
  · rw [takeFrame_of_protected hsource hintf]
    refine ⟨fun hfrozen => ?_, fun hfrozen hform => ?_, fun x hx hfrozen hform => ?_⟩
    · rw [acceptedFrame_of_frozen hack hfrozen]
    · rw [acceptedFrame_of_malformed hfrozen hack hform]
    · subst hx
      rw [acceptedFrame_of_request hfrozen hform hack hsync]
      refine ⟨fun hunsynced hnear => ?_, fun _ hahead hnear => ?_, fun hfar hplace => ?_, fun b hsynced hlast hstored => ?_,
        fun hsynced hseq hrefused => ?_⟩
      · rw [sequenced_of_ahead (.inl hunsynced) hnear]
      · rw [sequenced_of_ahead (.inr hahead) hnear]
      · rw [sequenced_of_older hfar hplace]
      · rw [sequenced_of_last hsynced hlast hstored]
      · rw [sequenced_of_expected hsynced hseq, performSource_of_refused hintf hrefused]

end Sys2Proof.Machine

/-! # The sideband, the budget effecter and source reset (R321, R323, R334, R391) -/

namespace Sys2Proof.Machine

open Sys2Proof

section
variable {s : State} {q : RegReq}

theorem sidebandTaken_of_malformed (h : malformed q = true) :
    sidebandTaken q s = emit (.sideband (replyBody q ⟨5, []⟩)) s := by
  simp only [sidebandTaken, h, if_true]

section
variable (hform : malformed q = false) (hop : q.op ≠ 7)
include hform hop

theorem sidebandTaken_of_allowed (h : allowed sidebandRights q = true) {r : Reply} {w : State}
    (hdo : doOp .sideband q s = (r, w)) : sidebandTaken q s = emit (.sideband (replyBody q r)) w := by
  simp only [sidebandTaken, hform, hop, h, hdo, Bool.false_eq_true, if_true, if_false]

theorem sidebandTaken_of_refused (h : allowed sidebandRights q = false) :
    sidebandTaken q s = emit (.sideband (replyBody q ⟨3, []⟩)) s := by
  simp only [sidebandTaken, hform, hop, h, Bool.false_eq_true, if_false]

end

section
variable (hup : s.dev.up = true)
include hup

theorem sidebandFrame_of_empty (hpath : s.host.path = []) : sidebandFrame q s = sidebandTaken q s := by
  simp only [sidebandFrame, hup, hpath, Bool.not_true, Bool.false_eq_true, if_false]

theorem sidebandFrame_of_head {e : PathEntry} {rest : List PathEntry} (hpath : s.host.path = e :: rest) (hq : e.q = q)
    (hside : e.sideband = true) :
    sidebandFrame q s = sidebandTaken q { s with host := { s.host with path := rest } } := by
  simp only [sidebandFrame, hup, hpath, hq, hside, Bool.not_true, Bool.false_eq_true, if_false, and_self, if_true]
  rfl

theorem sidebandFrame_of_waiting (hpath : s.host.path ≠ []) (hnew : ∀ e ∈ s.host.path, ¬(e.q = q ∧ e.sideband = true)) :
    sidebandFrame q s = pathQueue true q s := by
  have hany : (s.host.path.any fun e => e.q == q && e.sideband) = false := by simpa using hnew
  cases hcase : s.host.path with
  | nil => exact absurd hcase hpath
  | cons e rest =>
    have hhead : ¬(e.q = q ∧ e.sideband = true) := hnew e (by simp [hcase])
    rw [hcase] at hany
    simp only [sidebandFrame, hup, hcase, hany, if_neg hhead, Bool.not_true, Bool.false_eq_true, if_false]

end

theorem sidebandMsg_readSensor (hup : s.dev.up = true) (x : Sensor) :
    sidebandMsg (.readSensor x) s = emit (.sidebandValue (sensorReading s x)) s := if_pos hup

end

/-- A sensor reads the same after cycles in which nothing happens. -/
@[simp] theorem sensorReading_elapse (n : Nat) (s : State) (x : Sensor) : sensorReading (elapse n s) x = sensorReading s x := by
  cases x <;> rfl

/-- Settles O49: a register frame by what waits on the path, the other messages each by its own meaning. -/
theorem sidebandAndSourceCommandsAct : Obligations.SidebandAndSourceCommandsAct := by
  refine ⟨?frame, ?message, fun w f s hwf => exec_budgetEffecter w f s hwf,
    fun src n s hfit => exec_sourceReset src n s hfit⟩
  case frame =>
    intro dt q s hwf hup
    rw [exec_sidebandRegisterFrame dt _ s hwf]
    have hframe : sidebandMsg (.registerFrame q) (elapse dt s) = sidebandFrame q (elapse dt s) := rfl
    rw [hframe]
    refine ⟨fun u hpath => ?_, fun hpath hnew => ?_⟩
    · have htaken : sidebandFrame q (elapse dt s) = sidebandTaken q u := by
        obtain ⟨hempty, hu⟩ | ⟨e, rest, hhead, hq, hside, hu⟩ := hpath
        · rw [sidebandFrame_of_empty (s := elapse dt s) hup hempty, hu]
        · rw [sidebandFrame_of_head (s := elapse dt s) hup hhead hq hside, hu]
          rfl
      rw [htaken]
      refine ⟨fun hform => ?_, fun r w hform hop hrights hdo => ?_, fun hform hop hrights => ?_⟩
      · rw [sidebandTaken_of_malformed hform]
      · rw [sidebandTaken_of_allowed hform hop hrights hdo]
      · rw [sidebandTaken_of_refused hform hop hrights]
    · rw [sidebandFrame_of_waiting (s := elapse dt s) hup hpath hnew]
      rfl
  case message =>
    intro dt b x s hwf
    have hexec (m : SidebandMsg) : exec (.sidebandRegisterFrame dt m) s = .next (sidebandMsg m (elapse dt s)) :=
      exec_sidebandRegisterFrame dt m s hwf
    refine ⟨fun hup => ?_, hexec _, hexec _, hexec _, hexec _⟩
    rw [hexec, sidebandMsg_readSensor (s := elapse dt s) hup, sensorReading_elapse]
    rfl

end Sys2Proof.Machine

/-! # RDMA packets: an interface that stops sending while a packet is counted -/

namespace Sys2Proof.Machine

open Sys2Proof

/-! ## The counterexample to `RdmaMessagesArePerformed` -/

/-- A WRITE packet of 64 bytes for queue pair 0, over interface 0, whose ICRC is wrong. -/
def badIcrcPacket : RdmaMsg :=
  ⟨⟨0, 7, none, .v4 1 2 0 3 4791⟩, .writeOnly, 2, 20, 0xFFFF, false, false, 3, 64, 64, List.replicate 64 9, 0⟩

/-- Interface 0 is up and takes RoCEv2; its counter of received frames is about to saturate, and the coalescer's queue is full.
The store lists its registers out of order: the counter of dropped reports, about to carry into its high half, stands before
HA_MS_CFG of interface 0. A read of HA_MS_CFG stops at the counter and finds MACsec off. -/
def saturatingState : State :=
  { State.reset with
    regs := [(regKey 0xB 0 8 0, 1), (regKey 0xB 0 0x58 0, 0xFFFFFFFF), (regKey 0xB 0 0x5C 0, 0xFFFF), (regKey 0xF 0 8 0, 1),
      (regKey 0x13 0 0x60 0, 0xFFFFFFFF), (regKey 0xF 0 0x90 0, 1)],
    serve := { ServeSt.reset with ethUp := [(0, true)] },
    faults := { State.reset.faults with queue := List.replicate 4096 ⟨0, 0, 0, 0, 0, 0, 0, 0⟩ } }

/-- The packet counted, and the report of the counter that saturates dropped: the low half of the counter of dropped reports
becomes 0 and leaves the store, and interface 0 waits for MKA. -/
theorem intfSends_saturatingState : intfSends saturatingState 0 = true ∧
    intfSends (ethCount 0 0 1 saturatingState) 0 = false := by decide +kernel

/-- The frame is discarded before it is looked at: queue pair 0 counts no wrong ICRC. -/
theorem roceArrive_saturatingState :
    rget (roceArrive badIcrcPacket [] saturatingState) (regKey 0xF 1 0x68 7) = 0 := by decide +kernel

/-- The state that the statement gives instead counts one. -/
theorem qpCount_saturatingState :
    rget (qpCount 0 7 1 (qpCount 0 0 1 (ethCount 0 3 1 (ethCount 0 0 1 saturatingState)))) (regKey 0xF 1 0x68 7) = 1 := by
  decide +kernel

/-- Refutes O50: the statement asks whether the interface sends before the packet is counted, but the model asks it of the state
in which the frame has been counted. In a state whose register store is not in canonical form the count uncovers another value of
HA_MS_CFG, and the packet is discarded. What the statement lacks is the premise `s.Canonical`, under which no counter moves
another register. -/
theorem not_rdmaMessagesArePerformed : ¬ Obligations.RdmaMessagesArePerformed := by
  intro h
  obtain ⟨hicrc, -⟩ := h.1 0 badIcrcPacket 0 [] saturatingState _ _ intfSends_saturatingState.1 (by decide +kernel) rfl
    (by decide +kernel) rfl (by decide) rfl
  have hexec := hicrc rfl (by decide)
  rw [exec_rdmaWrite 0 ⟨badIcrcPacket, []⟩ saturatingState (by decide)] at hexec
  have hstate : roceArrive badIcrcPacket [] saturatingState = _ := Host.Outcome.next.inj hexec
  have hcount := roceArrive_saturatingState
  rw [hstate] at hcount
  exact absurd (hcount.symm.trans qpCount_saturatingState) (by decide)

end Sys2Proof.Machine

/-! # Event frames (R328, R329) -/

namespace Sys2Proof.Machine

open Sys2Proof

section
variable {s : State} {f : EventFrame}

/-- The oldest unsent entries have become the pending frame. -/
def evtHeld (s : State) : State :=
  { s with host := { s.host with
    evtNext := evtStart s,
    evtFrame := some ⟨evtStart s, min 32 (evtUnsent s), 1, s.now, evtBody s (evtStart s) (min 32 (evtUnsent s))⟩ } }

theorem eventSend_of_ready (hmay : evtMaySend s = true) (hfree : s.host.evtFrame = none)
    (hready : 32 ≤ min 32 (evtUnsent s) ∨
      (0 < min 32 (evtUnsent s) ∧ ∃ e, logAt s (evtStart s) = some e ∧ e.at_ + 47000 ≤ s.now)) :
    eventSend s = haCount 6 1 (sendFrame (field (reg s 0xF 0 0x6C) 4 2)
      (evtBytes s (evtBody s (evtStart s) (min 32 (evtUnsent s)))) (evtHeld s)) := by
  refine if_pos ?_
  rw [hmay, hfree]
  obtain hfull | ⟨hsome, e, hentry, hold⟩ := hready
  · simp [hfull]
  · simp [hentry, hold, hsome]

theorem eventSend_of_pending (h : s.host.evtFrame ≠ none) : eventSend s = s :=
  if_neg (by simp [h])

theorem eventSend_of_few (hfew : min 32 (evtUnsent s) < 32)
    (hyoung : ∀ e, logAt s (evtStart s) = some e → s.now < e.at_ + 47000) : eventSend s = s := by
  refine if_neg ?_
  cases hentry : logAt s (evtStart s) with
  | none => simp [Nat.not_le.mpr hfew]
  | some e => simp [Nat.not_le.mpr hfew, hyoung e hentry]

section
variable (hframe : s.host.evtFrame = some f)
include hframe

theorem eventResend_of_early (h : s.now < f.at_ + 1880000) : eventResend s = s := by
  simp only [eventResend, hframe, h, or_true, if_true]

variable (hgoing : s.host.evtStalled = false) (hdue : f.at_ + 1880000 ≤ s.now)
include hgoing hdue

/-- A frame that is due is sent again, or is the eighth and stalls the sender. -/
theorem eventResend_eq : eventResend s =
    if 8 ≤ f.sends then raiseCe 0xF 0 3 0 { s with host := { s.host with evtStalled := true } }
    else if evtMaySend s then
      haCount 7 1 (sendFrame (field (reg s 0xF 0 0x6C) 4 2) (evtBytes s f.body)
        { s with host := { s.host with evtFrame := some { f with sends := f.sends + 1, at_ := s.now } } })
    else s := by
  have hgoes : ¬(s.host.evtStalled = true ∨ s.now < f.at_ + 1880000) := by simp [hgoing, hdue]
  unfold eventResend
  rw [hframe]
  exact if_neg hgoes

theorem eventResend_of_due (hsends : f.sends < 8) (hmay : evtMaySend s = true) : eventResend s =
    haCount 7 1 (sendFrame (field (reg s 0xF 0 0x6C) 4 2) (evtBytes s f.body)
      { s with host := { s.host with evtFrame := some { f with sends := f.sends + 1, at_ := s.now } } }) := by
  rw [eventResend_eq hframe hgoing hdue, if_neg (Nat.not_le.mpr hsends), if_pos hmay]

theorem eventResend_of_last (hsends : 8 ≤ f.sends) : eventResend s =
    raiseCe 0xF 0 3 0 { s with host := { s.host with evtStalled := true } } := by
  rw [eventResend_eq hframe hgoing hdue, if_pos hsends]

end

end

/-- Settles O51: a frame leaves for either of its two reasons and is held; the pending one is repeated, or stalls the sender. -/
theorem eventFramesAreSent : Obligations.EventFramesAreSent := by
  constructor
  · intro dt n i b s hwf hn hi hb
    subst hn hi hb
    rw [exec_eventFrameSend dt s hwf]
    refine ⟨fun hmay hfree hready => ?_, fun hfew hyoung => ?_, fun hpending => ?_⟩
    · rw [eventSend_of_ready (s := elapse dt s) hmay hfree hready]
      rfl
    · rw [eventSend_of_few (s := elapse dt s) hfew hyoung]
    · rw [eventSend_of_pending (s := elapse dt s) hpending]
  · intro dt f s hwf hframe hgoing
    rw [exec_eventFrameResend dt s hwf]
    refine ⟨fun hearly => ?_, fun hdue => ⟨fun hsends hmay => ?_, fun hsends => ?_⟩⟩
    · rw [eventResend_of_early (s := elapse dt s) hframe hearly]
    · rw [eventResend_of_due (s := elapse dt s) hframe hgoing hdue hsends hmay]
      rfl
    · rw [eventResend_of_last (s := elapse dt s) hframe hgoing hdue hsends]
      rfl

end Sys2Proof.Machine

/-! # Admission and MACsec sessions (R331, R332) -/

namespace Sys2Proof.Machine

open Sys2Proof

section
variable {s u : State}

/-- INSTALL has discarded the key of PREPARE and zeroed the record (R332). -/
def recordTaken (s : State) : State := zeroAdm { s with host := { s.host with admPriv := none } }

theorem admInstall_unprepared (h : s.host.admPriv = none) : admInstall s = admReject 1 (recordTaken s) := by
  simp only [admInstall, h]
  rfl

section
variable {k : List Byte} (hkey : s.host.admPriv = some k)
include hkey

theorem admInstall_of_reserved (h : ∃ b ∈ (admRecord s).drop 133, b ≠ 0) : admInstall s = admReject 3 (recordTaken s) := by
  have hany : (((admRecord s).drop 133).any fun b => b != 0) = true := by simpa using h
  simp only [admInstall, hkey, hany, if_true]
  rfl

/-- The tag of a record that is well formed decides, under the key that the two sides have agreed on. -/
theorem admInstall_of_record {r kek iv ct : List Byte} (hr : r = admRecord s) (hzero : ∀ b ∈ r.drop 133, b = 0)
    (hkek : kek = shake256 32 (x448 k (r.take 56) ++ s.host.admPub ++ r.take 56)) (hiv : iv = bytesAt r 72 12)
    (hct : ct = bytesAt r 84 32) : admInstall s =
      if gcmTag kek iv (r.take 72 ++ bytesAt r 132 1) ct = bytesAt r 116 16 then
        installCak (bytesAt r 56 16) (gcmCrypt kek iv ct) (r.getD 132 0) (List.range 8)
          { recordTaken s with host := { (recordTaken s).host with adm := 2 } }
      else admReject 2 (recordTaken s) := by
  have hany : ((r.drop 133).any fun b => b != 0) = false := by simpa using hzero
  subst hr hkek hiv hct
  simp only [admInstall, hkey, hany, Bool.false_eq_true, if_false]
  rfl

end

theorem sakInstall_of_cak {intf : Nat} (hon : macsecOn s intf = true) (hcak : (macsec s intf).cak ≠ none) (an : Nat)
    (sak : Sak) (pn : Nat) : sakInstall intf an sak pn s = setMacsec intf ⟨(macsec s intf).cak, true,
      (macsec s intf).saks.filter (·.1 != an) ++ [(an, ⟨sak, pn⟩)], an⟩ s :=
  if_pos (by simp [hon, Option.isSome_iff_ne_none.mpr hcak])

end

/-- Settles O52: INSTALL by the key of PREPARE, the reserved bytes and the tag; each other command has one meaning. -/
theorem admissionAndMacsecAct : Obligations.AdmissionAndMacsecAct := by
  intro src s
  refine ⟨fun hfit => exec_prepare src s hfit, fun hfit r u hr hu => ?install, fun hfit => exec_admRevoke src s hfit,
    fun intf an sak pn hwf hon hcak => ?sak, fun dt intf hwf => exec_mkaSessionLoss dt intf s hwf⟩
  case install =>
    replace hu : u = recordTaken s := hu
    have hinstall : admCmd 2 s = admInstall s := rfl
    rw [exec_install src s hfit, hinstall, hu]
    refine ⟨fun hnone => ?_, fun k hkey => ⟨fun hreserved => ?_, fun kek iv ct hzero hkek hiv hct => ?_⟩⟩
    · rw [admInstall_unprepared hnone]
    · rw [admInstall_of_reserved hkey (hr ▸ hreserved)]
    · rw [admInstall_of_record hkey hr hzero hkek hiv hct]
  case sak =>
    rw [exec_sakInstall intf an sak pn s hwf, sakInstall_of_cak hon hcak]
    rfl

end Sys2Proof.Machine

/-! # Pair messages: values kept and compared, divergences and rollbacks (R355, R357, R358) -/

namespace Sys2Proof.Machine

open Sys2Proof

/-! ## A register under one that shows

The statement asks nothing of the store, which may be unsorted: a write of one register could uncover another. It cannot
uncover one below a register that is found at its place, unless it writes one of those between the two. -/

section
variable {α : Type} {dflt : Nat → α} {l : List (Nat × α)} {k b i j : Nat}

theorem sget_cons_above (hi : i < k) (x : α) : sget dflt ((i, x) :: l) k = sget dflt l k := by
  rw [sget, if_neg (by omega), if_neg (by omega)]

theorem sget_sconsNonDefault_above [DecidableEq α] (hj : j < k) (x : α) :
    sget dflt (sconsNonDefault dflt j x l) k = sget dflt l k := by
  unfold sconsNonDefault
  split
  · rfl
  · exact sget_cons_above hj x

theorem sget_sset_outside [DecidableEq α] (hb : sget dflt l b ≠ dflt b) (hk : k ≤ b) (hj : j < k ∨ b < j) (v : α) :
    sget dflt (sset dflt l j v) k = sget dflt l k := by
  induction l with
  | nil => exact absurd rfl hb
  | cons e t ih =>
    obtain ⟨i, x⟩ := e
    -- A key above `b` in front of it would hide it.
    have hib : i ≤ b := by
      by_contra hbi
      exact hb (by rw [sget, if_neg (by omega), if_pos (by omega)])
    unfold sset
    split
    · next hji => rw [sget_sconsNonDefault_above (by omega), sget_cons_above (by omega)]
    · split
      · next hji => rw [sget_sconsNonDefault_above (by omega)]
      · next hne hij =>
        rcases Nat.lt_or_ge i k with hik | hki
        · rw [sget_cons_above (by omega)] at hb
          rw [sget_cons_above hik, sget_cons_above hik, ih hb]
        · rw [sget, sget]
          split
          · rfl
          · rw [if_pos (by omega), if_pos (by omega)]

end

section
variable {s u : State} {cls inst off : Nat}

/-- One of PAIR_CFG and PAIR_LINKS does not read as after a reset, and so is found at its place in the store. -/
def PairNamed (s : State) : Prop :=
  ∃ b, regKey 0x18 0 0x40 0 ≤ b ∧ b ≤ regKey 0x18 0 0x48 0 ∧ rget s b ≠ regReset b

/-- What a rollback asks of the pair is as it was: its state, the rollbacks in a row, and PAIR_CFG. -/
structure KeepsPairing (s t : State) : Prop where
  st : t.pair.st = s.pair.st
  rollbacks : t.pair.rollbacks = s.pair.rollbacks
  named : PairNamed s → PairNamed t
  config : PairNamed s → reg t 0x18 0 0x40 = reg s 0x18 0 0x40

theorem KeepsPairing.refl (s : State) : KeepsPairing s s := ⟨rfl, rfl, id, fun _ => rfl⟩

/-- An offset of a page that is none of PAIR_CFG and PAIR_LINKS. -/
abbrev BesidePairing (off : Nat) : Prop := off < 0x40 ∨ 0x48 < off ∧ off < 0x1000

section
variable (h : KeepsPairing s u)
include h

theorem keepsPairing_of_eq {t : State} (hregs : t.regs = u.regs) (hpair : t.pair = u.pair) : KeepsPairing s t := by
  have hget (k : Nat) : rget t k = rget u k := by rw [rget, rget, hregs]
  refine ⟨hpair ▸ h.st, hpair ▸ h.rollbacks, fun hs => ?_, fun hs => (hget _).trans (h.config hs)⟩
  obtain ⟨b, hlo, hhi, hb⟩ := h.named hs
  exact ⟨b, hlo, hhi, hget b ▸ hb⟩

theorem keepsPairing_ite {t : State} {p : Prop} [Decidable p] (ht : KeepsPairing s t) :
    KeepsPairing s (if p then t else u) := by
  split
  · exact ht
  · exact h

theorem keepsPairing_setReg (hoff : BesidePairing off) (v : Word) : KeepsPairing s (setReg cls inst off v u) := by
  have hkey : regKey cls inst off 0 < regKey 0x18 0 0x40 0 ∨ regKey 0x18 0 0x48 0 < regKey cls inst off 0 := by
    simp only [regKey, regAddr]
    omega
  have hget {b k : Nat} (hb : rget u b ≠ regReset b) (hhi : b ≤ regKey 0x18 0 0x48 0) (hk : k ≤ b)
      (hlo : regKey 0x18 0 0x40 0 ≤ k) : rget (setReg cls inst off v u) k = rget u k :=
    sget_sset_outside hb hk (by omega) v
  refine ⟨h.st, h.rollbacks, fun hs => ?_, fun hs => ?_⟩
  all_goals obtain ⟨b, hlo, hhi, hb⟩ := h.named hs
  · exact ⟨b, hlo, hhi, by rwa [hget hb hhi le_rfl hlo]⟩
  · exact (hget hb hhi hlo le_rfl).trans (h.config hs)

theorem keepsPairing_rset64 (hlo : BesidePairing off) (hhi : BesidePairing (off + 4)) (v : Dword) :
    KeepsPairing s (rset64 (regKey cls inst off 0) v u) := by
  rw [rset64, regKey_hi]
  exact keepsPairing_setReg (keepsPairing_setReg h hlo _) hhi _

theorem keepsPairing_bump48Quiet (hlo : BesidePairing off) (hhi : BesidePairing (off + 4)) (n : Nat) :
    KeepsPairing s (bump48Quiet (regKey cls inst off 0) n u) := by
  unfold bump48Quiet
  rw [regKey_hi]
  have hcount (lo hi : Word) : KeepsPairing s (setReg cls inst (off + 4) hi (setReg cls inst off lo u)) :=
    keepsPairing_setReg (keepsPairing_setReg h hlo lo) hhi hi
  exact keepsPairing_ite (hcount _ _) (hcount _ _)

/-! ## Causes and reports (R23, R425, R427) -/

theorem keepsPairing_causeCounted (cls inst bit : Nat) : KeepsPairing s (causeCounted u cls inst bit) := by
  unfold causeCounted
  extract_lets fr
  refine keepsPairing_setReg (keepsPairing_setReg ?_ (by decide) _) (by decide) _
  exact keepsPairing_of_eq h rfl rfl

theorem keepsPairing_recordCause (cls inst bit f detail : Nat) : KeepsPairing s (recordCause cls inst bit f detail u) := by
  have hcounted := keepsPairing_causeCounted h cls inst bit
  cases hfirst : leavesFirst u cls inst bit with
  | false =>
    rw [recordCause_of_takes hfirst]
    exact keepsPairing_rset64 (keepsPairing_setReg hcounted (by decide) _) (by decide) (by decide) _
  | true =>
    rw [recordCause_of_leaves hfirst]
    exact keepsPairing_setReg hcounted (by decide) _

/-- A cause of the FAULT page that is recorded in some cases. -/
theorem keepsPairing_ite_recordCause {p : Prop} [Decidable p] (cls inst bit f detail : Nat) :
    KeepsPairing s (if p then recordCause cls inst bit f detail u else u) :=
  keepsPairing_ite h (keepsPairing_recordCause h ..)

theorem keepsPairing_logEvent (code cls inst f : Nat) (d : List Byte) : KeepsPairing s (logEvent code cls inst f d u) := by
  unfold logEvent
  extract_lets faults pos gone e logged j was counted lost
  have hlogged : KeepsPairing s logged := keepsPairing_of_eq h rfl rfl
  have hcounted : KeepsPairing s counted := keepsPairing_bump48Quiet hlogged (by decide) (by decide) 1
  exact keepsPairing_ite hlogged (keepsPairing_ite_recordCause (keepsPairing_ite_recordCause hcounted ..) ..)

theorem keepsPairing_dropReport (key : Nat) : KeepsPairing s (dropReport key u) := by
  unfold dropReport
  extract_lets j was counted caused dropped cnt
  have hcounted : KeepsPairing s counted := keepsPairing_bump48Quiet h (by decide) (by decide) 1
  have hdropped : KeepsPairing s dropped := keepsPairing_ite_recordCause (keepsPairing_recordCause hcounted ..) ..
  clear_value dropped
  refine keepsPairing_ite (keepsPairing_logEvent ?_ ..) hdropped
  exact keepsPairing_of_eq hdropped rfl rfl

theorem keepsPairing_enqueueReport (r : Report) : KeepsPairing s (enqueueReport r u) := by
  unfold enqueueReport
  split
  · exact keepsPairing_dropReport h _
  · exact keepsPairing_of_eq h rfl rfl

theorem keepsPairing_enqueueReports (mk : Nat → Report) (l : List Nat) : KeepsPairing s (enqueueReports mk l u) := by
  induction l generalizing u with
  | nil => exact h
  | cons key l ih => exact ih (keepsPairing_enqueueReport h _)

theorem keepsPairing_record (cls inst bit f detail : Nat) (keys : List Nat) :
    KeepsPairing s (record cls inst bit f detail keys u) := by
  unfold record
  extract_lets masked caused ef mk
  have hcaused : KeepsPairing s caused := keepsPairing_recordCause h ..
  refine keepsPairing_ite (keepsPairing_ite (keepsPairing_enqueueReports hcaused ..) ?_) hcaused
  exact keepsPairing_of_eq hcaused rfl rfl

theorem keepsPairing_raiseCe (cls inst bit detail : Nat) : KeepsPairing s (raiseCe cls inst bit detail u) :=
  keepsPairing_ite (keepsPairing_record h ..) h

theorem keepsPairing_bump48 (hlo : BesidePairing off) (hhi : BesidePairing (off + 4)) (n : Nat) (o : Option (Nat × Nat)) :
    KeepsPairing s (bump48 cls inst off 0 n o u) := by
  have hcounted := keepsPairing_bump48Quiet (cls := cls) (inst := inst) h hlo hhi n
  refine keepsPairing_ite hcounted ?_
  cases o with
  | none => exact hcounted
  | some o => exact keepsPairing_raiseCe hcounted ..

/-! ## Freezes (R235, R342, R349, R356, R421) -/

theorem keepsPairing_countHbmWrite (stack : Nat) : KeepsPairing s (countHbmWrite stack u) := by
  unfold countHbmWrite
  extract_lets j was counted
  have hcounted : KeepsPairing s counted := keepsPairing_bump48Quiet h (by decide) (by decide) 1
  exact keepsPairing_ite hcounted (keepsPairing_record hcounted ..)

theorem keepsPairing_hbmWrite (a : Nat) (d : List Byte) : KeepsPairing s (hbmWrite a d u) :=
  keepsPairing_of_eq h (keep_hbmWrite (closed_same .regs u) (by decide) rfl)
    (keep_hbmWrite (closed_same .pair u) (by decide) rfl)

theorem keepsPairing_putPhysBytes (a : Nat) (b : List Byte) : KeepsPairing s (putPhysBytes a b u) := by
  unfold putPhysBytes putPhysLine
  exact keepsPairing_ite (keepsPairing_ite h (keepsPairing_countHbmWrite (keepsPairing_hbmWrite h ..) _))
    (keepsPairing_of_eq h rfl rfl)

theorem keepsPairing_voidCapture (why : Nat) (c : Capture) : KeepsPairing s (voidCapture why c u) := by
  unfold voidCapture
  extract_lets cairn ended
  have hended : KeepsPairing s ended := keepsPairing_of_eq h rfl rfl
  exact keepsPairing_record (keepsPairing_putPhysBytes hended ..) ..

theorem keepsPairing_voidCaptures (why : Nat) (l : List Capture) : KeepsPairing s (voidCaptures why l u) := by
  induction l generalizing u with
  | nil => exact h
  | cons c l ih => exact ih (keepsPairing_voidCapture h why c)

theorem keepsPairing_setLineSt (cirque st : Nat) (l : List Nat) : KeepsPairing s (setLineSt cirque st l u) :=
  keepsPairing_of_eq h (keep_setLineSt (closed_same .regs u) (by decide) rfl)
    (keep_setLineSt (closed_same .pair u) (by decide) rfl)

theorem keepsPairing_abandonMove (m : Move) : KeepsPairing s (abandonMove m u) := by
  unfold abandonMove
  extract_lets mem left ended returned
  have hleft : KeepsPairing s left := keepsPairing_of_eq h rfl rfl
  have hended : KeepsPairing s ended := by
    unfold ended
    clear_value left
    split
    · exact keepsPairing_voidCaptures hleft ..
    · exact hleft
  have hreturned : KeepsPairing s returned := keepsPairing_of_eq hended rfl rfl
  exact keepsPairing_ite (keepsPairing_ite (keepsPairing_setLineSt hreturned ..) hreturned) hended

theorem keepsPairing_abandonMoves (l : List Move) : KeepsPairing s (abandonMoves l u) := by
  induction l generalizing u with
  | nil => exact h
  | cons m l ih => exact ih (keepsPairing_abandonMove h m)

theorem keepsPairing_abandonPartMoves (p : Nat) : KeepsPairing s (abandonPartMoves p u) := by
  unfold abandonPartMoves
  extract_lets mine
  refine keepsPairing_abandonMoves ?_ _
  exact keepsPairing_of_eq h rfl rfl

theorem keepsPairing_primaryFault (cause : Nat) : KeepsPairing s (primaryFault cause u) := by
  have hnoted : KeepsPairing s { u with pair := { u.pair with fault := some (cause, 64) } } :=
    ⟨h.st, h.rollbacks, h.named, h.config⟩
  unfold primaryFault
  generalize { u with pair := { u.pair with fault := some (cause, 64) } } = v at hnoted ⊢
  refine keepsPairing_ite h (keepsPairing_record (keepsPairing_of_eq hnoted ?_ ?_) ..)
  · exact keep_faultNext (closed_same .regs v) (by decide) (keep_sendFirst (closed_same .regs v) (by decide) rfl)
  · exact keep_faultNext (closed_same .pair v) (by decide) (keep_sendFirst (closed_same .pair v) (by decide) rfl)

theorem keepsPairing_freezeOne (p : Nat) : KeepsPairing s (freezeOne p u) := by
  unfold freezeOne
  extract_lets x frozen stopped serve muted
  have hfrozen : KeepsPairing s frozen := keepsPairing_of_eq h rfl rfl
  have hstopped : KeepsPairing s stopped := keepsPairing_abandonPartMoves (keepsPairing_voidCaptures hfrozen ..) p
  have hmuted : KeepsPairing s muted := by
    unfold muted
    clear_value stopped
    refine keepsPairing_ite hstopped (keepsPairing_setReg ?_ (by decide) _)
    exact keepsPairing_of_eq hstopped rfl rfl
  exact keepsPairing_ite h (keepsPairing_ite hstopped (keepsPairing_primaryFault hmuted 0))

theorem keepsPairing_freezeEach (l : List Nat) : KeepsPairing s (freezeEach l u) := by
  induction l generalizing u with
  | nil => exact h
  | cons p l ih => exact ih (keepsPairing_freezeOne h p)

theorem keepsPairing_freezePart (p : Nat) : KeepsPairing s (freezePart p u) := by
  unfold freezePart
  extract_lets frozen
  have hfrozen : KeepsPairing s frozen := keepsPairing_freezeOne h p
  clear_value frozen
  split
  · refine keepsPairing_ite hfrozen ?_
    extract_lets ps job
    refine keepsPairing_record (keepsPairing_freezeEach ?_ ps) ..
    exact keepsPairing_of_eq hfrozen rfl rfl
  · exact hfrozen

theorem keepsPairing_freezeParts (l : List Nat) : KeepsPairing s (freezeParts l u) := by
  induction l generalizing u with
  | nil => exact h
  | cons p l ih => exact ih (keepsPairing_freezePart h p)

theorem keepsPairing_raise_parts (cls inst bit f detail : Nat) (ps : List Nat) :
    KeepsPairing s (raise cls inst bit f detail (.parts ps) u) :=
  keepsPairing_ite (keepsPairing_record (keepsPairing_freezeParts h ps) ..) h

end

end

section
variable {s u d : State} {l : Nat} {m : DivMsg} {v w : PairVal}

/-! ## Messages on a pair link (R355) -/

theorem formed_of_onPairLink (h : onPairLink s l = true) : s.pair.formed = true := (Bool.and_eq_true_iff.mp h).1

theorem regReset_pairLinks : regReset (regKey 0x18 0 0x44 0) = 0 ∧ regReset (regKey 0x18 0 0x48 0) = 0 := by decide

/-- A pair link is one that PAIR_LINKS names, which is 0 after a reset. -/
theorem pairNamed_of_onPairLink (h : onPairLink s l = true) : PairNamed s := by
  obtain ⟨-, hpartner⟩ := Bool.and_eq_true_iff.mp h
  have hlink : l ∈ pairLinks s := (List.mem_filter.mp (List.contains_iff_mem.mp hpartner)).1
  have hbit : (rget64 s (regKey 0x18 0 0x44 0)).getLsbD l = true :=
    (Bool.and_eq_true_iff.mp (List.mem_filter.mp hlink).2).1
  by_contra hnone
  have hreset {off : Nat} (hlo : 0x40 ≤ off) (hhi : off ≤ 0x48) :
      rget s (regKey 0x18 0 off 0) = regReset (regKey 0x18 0 off 0) := by
    by_contra hb
    refine hnone ⟨_, ?_, ?_, hb⟩ <;> (simp only [regKey, regAddr]; omega)
  have hhi : regKey 0x18 0 0x44 0 + 4 = regKey 0x18 0 0x48 0 := by decide
  rw [rget64, hhi, hreset (by decide) (by decide), hreset (by decide) (by decide), regReset_pairLinks.1,
    regReset_pairLinks.2] at hbit
  simp at hbit

/-- The partner's value of a comparison message (Table 12.6). -/
def peerVal (code : Nat) (m : PairMsg) (s : State) : PairVal :=
  ⟨code, m.place, m.step, m.value, m.value2, frameNo s, 0, 0, false⟩

/-- The four comparison messages differ in their code alone. -/
theorem exec_pairMsg {dt l code : Nat} {m : PairMsg} {i : Instr}
    (hi : (i, code) ∈ [(Instr.pairCommitMsg dt l m, 0x10), (.pairTraceMsg dt l m, 0x11), (.pairLossMsg dt l m, 0x12),
      (.pairSealMsg dt l m, 0x13)]) (hwf : i.wf = true) (s : State) :
    exec i s = .next (pairMsg code l m (elapse dt s)) := by
  simp only [List.mem_cons, Prod.mk.injEq, List.not_mem_nil, or_false] at hi
  obtain ⟨rfl, rfl⟩ | ⟨rfl, rfl⟩ | ⟨rfl, rfl⟩ | ⟨rfl, rfl⟩ := hi
  · exact exec_pairCommitMsg dt l m s hwf
  · exact exec_pairTraceMsg dt l m s hwf
  · exact exec_pairLossMsg dt l m s hwf
  · exact exec_pairSealMsg dt l m s hwf

theorem pairMsg_of_other_link {code : Nat} {m : PairMsg} (h : onPairLink s l = false) : pairMsg code l m s = s :=
  if_neg (Bool.eq_false_iff.mp h)

theorem pairMsg_of_pair_link {code : Nat} {m : PairMsg} (h : onPairLink s l = true) :
    pairMsg code l m s = peerValue (peerVal code m s) s := if_pos h

section
variable (hformed : s.pair.formed = true)
include hformed

theorem peerValue_of_unknown (hown : s.pair.own.find? (sameKey v) = none) (hpeer : s.pair.peer.any (sameKey v) = false) :
    peerValue v s = { s with pair := { s.pair with peer := s.pair.peer ++ [v] } } := by
  simp [peerValue, hformed, hown, hpeer]

/-- An own value meets the partner's of its key: it is done, and the comparison is counted. -/
def valueCompared (v : PairVal) (s : State) : State :=
  bump48 0x18 0 0x74 0 1 (some (7, 1)) { s with pair := { s.pair with
    own := s.pair.own.map fun x => if sameKey v x then { x with done := true } else x } }

/-- A slot whose seals are equal is matched, which ends a row of rollbacks. -/
def slotMatched (i : Nat) (s : State) : State :=
  { s with
    cairn := { s.cairn with matched := sset (fun _ => false) s.cairn.matched i true },
    pair := { s.pair with rollbacks := 0 } }

theorem peerValue_of_waiting (hown : s.pair.own.find? (sameKey v) = some w) (hwaits : w.done = false) :
    peerValue v s =
      if w.value = v.value ∧ w.value2 = v.value2 then
        if w.code = 0x13 then slotMatched w.place (valueCompared v s) else valueCompared v s
      else pairMismatch w (valueCompared v s) := by
  refine (if_neg (by simp [hformed])).trans ?_
  rw [hown]
  exact if_neg (Bool.eq_false_iff.mp hwaits)

end

theorem code_of_find {own : List PairVal} (h : own.find? (sameKey v) = some w) : w.code = v.code := by
  have hkey := List.find?_some h
  simp only [sameKey, Bool.and_eq_true, beq_iff_eq] at hkey
  exact hkey.1.1.symm

theorem keepsPairing_valueCompared (h : KeepsPairing s u) (v : PairVal) : KeepsPairing s (valueCompared v u) := by
  refine keepsPairing_bump48 ?_ (by decide) (by decide) _ _
  exact ⟨h.st, h.rollbacks, h.named, h.config⟩

/-! ## A difference (R357, R358) -/

theorem pairMismatch_commit (h : w.code = 0x10) : pairMismatch w s = diverge w 1 w.place s := by
  simp only [pairMismatch, h]

theorem pairMismatch_seal (h : w.code = 0x13) : pairMismatch w s = s := by
  simp only [pairMismatch, h]

/-- A divergence of a loss is recorded, without a granule. -/
def lossRecorded (w : PairVal) (again : Bool) (s : State) : State :=
  setReg 0x18 0 0x60 0 (recordDivergence 3 w.place w.step again s)

/-- It is raised, the training partitions freeze, and the values that wait are dropped. -/
def lossRaised (w : PairVal) (again : Bool) (s : State) : State :=
  raise 0x18 0 0 1 (3 + 4 * bit01 again) (.parts (trainingParts s))
    { lossRecorded w again s with pair := { s.pair with st := 2, own := [], peer := [] } }

theorem KeepsPairing.maxRollback_eq (h : KeepsPairing s u) (hs : PairNamed s) : maxRollback u = maxRollback s := by
  rw [maxRollback, maxRollback, h.config hs]

/-- Reporting and freezing leave the divergence, the rollbacks in a row and their bound as they are. -/
theorem lossRaised_pairing (hnamed : PairNamed s) (w : PairVal) (again : Bool) :
    (lossRaised w again s).pair.st = 2 ∧ (lossRaised w again s).pair.rollbacks = s.pair.rollbacks ∧
      maxRollback (lossRaised w again s) = maxRollback s := by
  have hrecorded : KeepsPairing s (lossRecorded w again s) :=
    keepsPairing_setReg (keepsPairing_rset64 (keepsPairing_setReg (.refl s) (by decide) _) (by decide) (by decide) _)
      (by decide) _
  have hraised := keepsPairing_raise_parts
    (.refl { lossRecorded w again s with pair := { s.pair with st := 2, own := [], peer := [] } })
    0x18 0 0 1 (3 + 4 * bit01 again) (trainingParts s)
  refine ⟨hraised.st, hraised.rollbacks, ?_⟩
  have hconfig : reg (lossRaised w again s) 0x18 0 0x40 = reg s 0x18 0 0x40 :=
    (hraised.config (hrecorded.named hnamed)).trans (hrecorded.config hnamed)
  rw [maxRollback, maxRollback, hconfig]

theorem diverge_of_loss (hnamed : PairNamed s) (hst : s.pair.st < 4) {again : Bool}
    (hagain : again = sameDivergence s 3 w.place w.step) :
    diverge w 3 w.place s = if again then pairHeld 3 (lossRaised w again s) else rollback 3 (lossRaised w again s) := by
  obtain ⟨hraised, -, -⟩ := lossRaised_pairing hnamed w again
  unfold diverge
  extract_lets same repeated recorded pair raised t
  have hrepeated : repeated = again := by simp [repeated, same, hagain]
  have hrecorded : recorded = lossRecorded w again s := by simp [recorded, lossRecorded, hrepeated]
  have hraise : raised = lossRaised w again s := by
    have hquiet : ¬4 ≤ pair.st := by
      unfold pair
      rw [hrecorded]
      exact Nat.not_le.mpr hst
    unfold raised
    rw [if_neg hquiet, hrepeated]
    unfold pair
    rw [hrecorded]
    rfl
  rw [hraise, hrepeated, if_neg (by omega)]
  rfl

/-- A rollback begins. -/
def rolledBack (s : State) : State :=
  bump48 0x18 0 0x6C 0 1 (some (7, 0)) { s with pair := { s.pair with st := 2, rollbacks := s.pair.rollbacks + 1 } }

theorem rollback_of_many {kind : Nat} (h : maxRollback s ≤ s.pair.rollbacks) : rollback kind s = pairHeld kind s := if_pos h

/-- The newest slot that both hold is proposed to the partner. -/
def slotProposed : Option (Nat × Nat) → State → State
  | some (k, t), s => rollbackIfAgreed (pairSend 0x14 ([1, BitVec.ofNat 8 k] ++ leBytes 8 t)
      { s with pair := { s.pair with candidate := some (k, BitVec.ofNat 64 t) } })
  | none, s => s

theorem rollback_of_few {kind : Nat} (h : s.pair.rollbacks < maxRollback s) :
    rollback kind s = slotProposed (newestMatched (rolledBack s)) (rolledBack s) := by
  refine (if_neg (Nat.not_le.mpr h)).trans ?_
  extract_lets pair f
  change _ = slotProposed (newestMatched f) f
  clear_value f
  cases newestMatched f <;> rfl

section
variable {again : Bool} (hnamed : PairNamed s) (hst : s.pair.st < 4) (hcode : w.code = 0x12)
  (hagain : again = sameDivergence s 3 w.place w.step) (hd : d = lossRaised w again s)
include hnamed hst hcode hagain hd

theorem pairMismatch_loss : pairMismatch w s = if again then pairHeld 3 d else rollback 3 d := by
  rw [hd, ← diverge_of_loss hnamed hst hagain]
  simp only [pairMismatch, hcode]

/-- A repeat, or one divergence too many in a row, ends in HELD (R358). -/
theorem pairMismatch_loss_held (h : again = true ∨ maxRollback s ≤ s.pair.rollbacks) :
    pairMismatch w s = pairHeld 3 d := by
  obtain ⟨-, hrollbacks, hmax⟩ := lossRaised_pairing hnamed w again
  rw [pairMismatch_loss hnamed hst hcode hagain hd]
  refine ite_eq_left_iff.mpr fun honce => rollback_of_many ?_
  rw [hd, hrollbacks, hmax]
  exact h.resolve_left honce

theorem pairMismatch_loss_rolledBack (honce : again = false) (hfew : s.pair.rollbacks < maxRollback s) :
    pairMismatch w s = slotProposed (newestMatched (rolledBack d)) (rolledBack d) := by
  obtain ⟨-, hrollbacks, hmax⟩ := lossRaised_pairing hnamed w again
  rw [pairMismatch_loss hnamed hst hcode hagain hd, if_neg (Bool.eq_false_iff.mp honce), rollback_of_few]
  rw [hd, hrollbacks, hmax]
  exact hfew

end

/-! ## What the partner reports (R357) -/

theorem tilesKnown_of_none (h : s.pair.tiles = none) : tilesKnown s = s := by
  unfold tilesKnown
  split
  · next htiles _ _ => rw [h] at htiles; cases htiles
  · rfl

section
variable (hlink : onPairLink s l = true)
include hlink

theorem divergenceMsg_of_copy (hcopy : isCopy s l m = true) : divergenceMsg l m s = hear l m s := by
  simp [divergenceMsg, hlink, hcopy]

section
variable {c : Nat} {t : Dword} (hnew : isCopy s l m = false)
include hnew

theorem divergenceMsg_of_verdict {e : Option Bool} (hm : m = .verdict e) (hst : s.pair.st ≠ 3) :
    divergenceMsg l m s = { hear l m s with pair := { (hear l m s).pair with peerVerdict := some e } } := by
  subst hm
  simp only [divergenceMsg, hlink, hnew, Bool.not_true, Bool.false_eq_true, if_false]
  exact if_pos hst

theorem divergenceMsg_of_candidate (hm : m = .candidate c t) : divergenceMsg l m s =
    rollbackIfAgreed { hear l m s with pair := { (hear l m s).pair with peerCandidate := some (c, t) } } := by
  subst hm
  simp only [divergenceMsg, hlink, hnew, Bool.not_true, Bool.false_eq_true, if_false]

theorem divergenceMsg_of_tiles {d : List Dword} (hm : m = .tileDigests d) (htiles : s.pair.tiles = none) :
    divergenceMsg l m s = { hear l m s with pair := { (hear l m s).pair with peerTiles := some d } } := by
  subst hm
  simp only [divergenceMsg, hlink, hnew, Bool.not_true, Bool.false_eq_true, if_false]
  exact tilesKnown_of_none htiles

end

end

theorem rollbackIfAgreed_of_no_candidate (h : s.pair.candidate = none) : rollbackIfAgreed s = s := by
  simp only [rollbackIfAgreed, h]

theorem rollbackIfAgreed_of_both {k c slot : Nat} {t t' : Dword} (hown : s.pair.candidate = some (k, t'))
    (hpeer : s.pair.peerCandidate = some (c, t)) (hslot : slot = if t'.toNat ≤ t.toNat then k else c) :
    rollbackIfAgreed s =
      restoreStart slot (BitVec.ofNat 8 ((trainingOf s (BitVec.ofNat 8 (slotField s slot 5 1))).map fun j => 2 ^ j).sum) []
        { s with pair := { s.pair with candidate := none, peerCandidate := none } } := by
  subst hslot
  simp only [rollbackIfAgreed, hown, hpeer]
  rfl

/-! ## A value that waits too long (R355) -/

theorem pairTimeout_of_late {k : Nat} (hown : s.pair.own[k]? = some v) (hwaits : v.done = false)
    (hlate : v.frame + 64 ≤ frameNo s) : pairTimeout k s = raiseCe 0x18 0 3 v.code
      { s with pair := { s.pair with own := eraseFirst (fun x => x == v) s.pair.own } } := by
  simp only [pairTimeout, hown, hwaits, Bool.false_eq_true, false_or, if_neg (Nat.not_lt.mpr hlate)]

theorem pairTimeout_of_early {k : Nat} (hown : s.pair.own[k]? = some v) (hearly : frameNo s < v.frame + 64) :
    pairTimeout k s = s := by
  simp only [pairTimeout, hown, hearly, or_true, if_true]

end

/-- Settles O54: a comparison by the values that wait; a loss that differs by the laws of a divergence and a rollback, between
which nothing touches PAIR_CFG or the count of rollbacks; a report of the partner and a timeout by the law of its function. -/
theorem pairMessagesAreCompared : Obligations.PairMessagesAreCompared := by
  refine ⟨?messages, ?reports, ?timeouts⟩
  case messages =>
    intro dt l m i code v s hi hwf hv
    replace hv : v = peerVal code m (elapse dt s) := hv
    rw [exec_pairMsg hi hwf]
    refine ⟨fun hother => ?other, fun hlink => ⟨fun hown hpeer => ?unknown, fun w u hown hwaits hu => ?compared⟩⟩
    case other => rw [pairMsg_of_other_link (s := elapse dt s) hother]
    all_goals
      have hformed := formed_of_onPairLink hlink
      rw [pairMsg_of_pair_link (s := elapse dt s) hlink, ← hv]
    case unknown =>
      rw [peerValue_of_unknown (s := elapse dt s) hformed hown hpeer]
      rfl
    case compared =>
      replace hu : u = valueCompared v (elapse dt s) := hu
      have hcode : w.code = code := (code_of_find hown).trans (by rw [hv, peerVal])
      rw [peerValue_of_waiting (s := elapse dt s) hformed hown hwaits, ← hu]
      refine ⟨fun hvalue hvalue2 => ?equal, fun hdiffers hst => ?differing⟩
      case equal =>
        rw [if_pos ⟨hvalue, hvalue2⟩, hcode]
        exact ⟨fun hother => by rw [if_neg hother], fun hseal => by rw [if_pos hseal]; rfl⟩
      case differing =>
        have helapsed : KeepsPairing s (elapse dt s) := keepsPairing_of_eq (.refl s) rfl rfl
        have hkept : KeepsPairing s u := hu ▸ keepsPairing_valueCompared helapsed v
        have hnamed : PairNamed s := pairNamed_of_onPairLink hlink
        rw [if_neg (not_and_or.mpr hdiffers)]
        refine ⟨fun hcommit => ?_, fun hseal => ?_, fun again x d f hloss hagain hx hd hf => ?loss⟩
        · rw [pairMismatch_commit (hcode.trans hcommit)]
        · rw [pairMismatch_seal (hcode.trans hseal)]
        case loss =>
          replace hd : d = lossRaised w again u := by rw [hd, hx]; rfl
          replace hf : f = rolledBack d := hf
          have hnamedNow := hkept.named hnamed
          have hstNow : u.pair.st < 4 := hkept.st ▸ hst
          rw [← hkept.maxRollback_eq hnamed, ← hkept.rollbacks]
          refine ⟨fun hheld => ?_, fun honce hfew => ?_⟩
          · rw [pairMismatch_loss_held hnamedNow hstNow (hcode.trans hloss) hagain hd hheld]
          · rw [pairMismatch_loss_rolledBack hnamedNow hstNow (hcode.trans hloss) hagain hd honce hfew, ← hf]
            exact ⟨fun hnone => by rw [hnone, slotProposed], fun k t hsome => by rw [hsome, slotProposed]⟩
  case reports =>
    intro dt l m s u hwf hlink hu
    rw [exec_pairDivergenceMsg dt l m s hwf]
    refine ⟨fun hcopy => ?copy, fun hnew => ⟨fun e hm hst => ?verdict, fun c t hm hnone => ?alone,
      fun c t k t' slot hm hown hslot => ?both, fun d hm htiles => ?tiles⟩⟩
    case copy => rw [divergenceMsg_of_copy (s := elapse dt s) hlink hcopy, hu]
    case verdict => rw [divergenceMsg_of_verdict (s := elapse dt s) hlink hnew hm hst, hu]
    case alone =>
      rw [divergenceMsg_of_candidate (s := elapse dt s) hlink hnew hm, ← hu,
        rollbackIfAgreed_of_no_candidate (hu ▸ hnone)]
    case both =>
      rw [divergenceMsg_of_candidate (s := elapse dt s) hlink hnew hm, ← hu,
        rollbackIfAgreed_of_both (hu ▸ hown) rfl hslot, hu]
      rfl
    case tiles => rw [divergenceMsg_of_tiles (s := elapse dt s) hlink hnew hm htiles, hu]
  case timeouts =>
    intro k v s hwf hown hwaits
    rw [exec_pairTimeout k s hwf]
    refine ⟨fun hlate => ?_, fun hearly => ?_⟩
    · rw [pairTimeout_of_late hown hwaits hlate]
    · rw [pairTimeout_of_early hown hearly]

end Sys2Proof.Machine

/-! # Spare fills and stream keys (R339, R360 to R362, R365) -/

namespace Sys2Proof.Machine

open Sys2Proof

section
variable {s v w z : State} {p : PhysCore}

/-! ## A core fails (R360 to R362) -/

theorem coreFail_of_ignored (h : s.dev.up = false ∨ inService s p = false) : coreFail p s = s :=
  if_pos (by simpa using h)

/-- A core in service has failed: it is unusable from now on, and the defect log is to name it. -/
def coreLost (p : PhysCore) (s : State) : State :=
  { s with dev := { s.dev with
    bad := s.dev.bad ++ [p], toLog := s.dev.toLog ++ [(p, BitVec.ofNat 32 (tickN s).toNat)] } }

/-- The fills once a core joins that of its column, or a new one behind the others (log entry 65). -/
def fillsWith (p : PhysCore) (spot : List Nat) (fills : List Fill) : List Fill :=
  if fills.any (fillsColumn p) then extendFill p spot fills else fills ++ [⟨[p], spot, false⟩]

/-- The fill that a failed core joins is at the head of the list. -/
def joinsHead (p : PhysCore) : List Fill → Bool
  | [] => true
  | f :: _ => fillsColumn p f

theorem joinsHead_of_forall {fills : List Fill} (h : ∀ f rest, fills = f :: rest → fillsColumn p f = true) :
    joinsHead p fills = true := by
  cases fills with
  | nil => rfl
  | cons f rest => exact h f rest rfl

/-- A core that fails is the third unusable one of its column, or belongs to a sixth column (R361, R362). -/
def NoSpareFor (p : PhysCore) (s : State) : Prop :=
  3 ≤ (badRows (coreLost p s) p.ridge p.col).length ∨ s.dev.fills.any (fillsColumn p) = false ∧ 5 ≤ s.dev.fills.length

theorem not_noSpareFor (hrows : (badRows (coreLost p s) p.ridge p.col).length < 3)
    (hfills : s.dev.fills.any (fillsColumn p) = true ∨ s.dev.fills.length < 5) : ¬NoSpareFor p s := by
  rintro (hthird | ⟨hnew, hsixth⟩)
  · omega
  · rcases hfills with hsame | hroom
    · rw [hsame] at hnew
      cases hnew
    · omega

/-- The test that CORE_FAIL makes. -/
theorem noSpareFor_iff : NoSpareFor p s ↔ (decide (3 ≤ (badRows (coreLost p s) p.ridge p.col).length) ||
    (!s.dev.fills.any (fillsColumn p) && decide (5 ≤ s.dev.fills.length))) = true := by
  simp [NoSpareFor]

section
variable (hup : s.dev.up = true) (hserves : inService s p = true)
include hup hserves

theorem serving_not_ignored : ¬(!s.dev.up || !inService s p) = true := by simp [hup, hserves]

theorem coreFail_of_noSpareFor (h : NoSpareFor p s) :
    coreFail p s = raise 3 p.ridge 5 1 p.col (.parts [partOfRidge s p.ridge])
      (abandonRestore (partOfRidge s p.ridge) (dropFills (partOfRidge s p.ridge) (coreLost p s))) :=
  (if_neg (serving_not_ignored hup hserves)).trans (if_pos (noSpareFor_iff.mp h))

theorem coreFail_of_spare (h : ¬NoSpareFor p s)
    (hv : v = raise 3 p.ridge 4 1 (p.col + 2 ^ 8 * p.row) (.parts [partOfRidge s p.ridge]) (coreLost p s))
    (hw : w = { v with dev := { v.dev with fills := fillsWith p (spotOf v p) s.dev.fills } }) :
    coreFail p s = if joinsHead p s.dev.fills then startFill w else w := by
  have hfills : v.dev.fills = s.dev.fills := by
    rw [hv, raise_dev]
    rfl
  refine ((if_neg (serving_not_ignored hup hserves)).trans (if_neg (mt noSpareFor_iff.mpr h))).trans ?_
  rw [hw, ← hfills, hv]
  rfl

end

/-! ## A fill ends (R360, R361) -/

/-- The restore that follows a fill, from the slot that holds the partition's jobs, where one does. -/
def restoredAfterFill (slot : Option Nat) (jobs : BitVec 8) (errs : List (Nat × SymErrs)) (s : State) : State :=
  match slot with
  | some i => restoreStart i jobs errs s
  | none => s

theorem fillDone_of_remapped {e : FillEnd} {q : Nat} {jobs : BitVec 8} {slot : Option Nat} {f : Fill} {rest : List Fill}
    (hfills : s.dev.fills = f :: rest) (hridge : f.ridge = e.ridge) (hremapped : f.remapped = true)
    (hq : q = partOfRidge s e.ridge)
    (hjobs : jobs = BitVec.ofNat 8 (((List.range 8).filter fun j => (jobParts s j).contains q).map fun j => 2 ^ j).sum)
    (hslot : slot = if jobs = 0 then none else lastSealed s jobs)
    (hv : v = fillCores q slot f.spots.eraseDups e.placed s) (hw : w = leaveSpill (regionCores v (.partition q)) v)
    (hz : z = startFill { w with dev := { w.dev with fills := rest } }) :
    fillDone e s = restoredAfterFill slot jobs e.errs z := by
  subst hq
  have hgoes : ¬(f.ridge ≠ e.ridge ∨ (!f.remapped) = true) := by simp [hridge, hremapped]
  simp only [fillDone, hfills, if_neg hgoes, ← hjobs, ← hslot, ← hv, ← hw, ← hz]
  rfl

/-! ## The key of a stream (R339, R365) -/

/-- Word 3 of a stream's key words is written, which commits the key. -/
def keyCommitted (v : Word) (x : RngSt) : RngSt :=
  let k := BitVec.ofNat 128 (x.words.toNat % 2 ^ 96 + v.toNat * 2 ^ 96)
  { x with words := k, commit := some k }

theorem rngKeyWrite_word3 {k : Nat} (hsel : field (reg s 0x19 (k / 64) 0x40) 5 0 = k % 64) (v : Word) :
    rngKeyWrite (k / 64) 3 v s = setRng k (keyCommitted v (rngOf s k)) s := by
  have hk : 64 * (k / 64) + field (reg s 0x19 (k / 64) 0x40) 5 0 = k := by rw [hsel, Nat.div_add_mod]
  have hlow (n : Nat) (hn : n < 2 ^ 128) : n - bitsOf n 127 96 * 2 ^ 96 = n % 2 ^ 96 := by
    unfold bitsOf
    omega
  simp only [rngKeyWrite, hk, Nat.reduceMul, Nat.reduceAdd, hlow _ (rngOf s k).words.isLt]
  rfl

theorem rngOf_setRng (hs : s.Canonical) (k : Nat) (x : RngSt) : rngOf (setRng k x s) k = x := sget_sset_same hs.rng

theorem rngOf_setRng_other (hs : s.Canonical) {k j : Nat} (hj : j ≠ k) (x : RngSt) : rngOf (setRng k x s) j = rngOf s j :=
  sget_sset_other hs.rng hj

end

/-- Settles O56: CORE_FAIL by whether the core serves and a spare is left, SPARE_FILL_DONE by the law of its function,
and the key by the stream that the page shows. -/
theorem sparesAndStreamKeysAct : Obligations.SparesAndStreamKeysAct := by
  refine ⟨?fails, ?filled, ?key⟩
  case fails =>
    rintro dt p s u hwf hu
    replace hu : u = coreLost p (elapse dt s) := hu
    rw [exec_coreFail dt p s hwf, hu]
    refine ⟨fun hignored => ?ignored, fun hup hserves same hsame =>
      ⟨fun hlost => ?lost, fun v w hrows hfills hv hw => ?joins⟩⟩
    case ignored => rw [coreFail_of_ignored (s := elapse dt s) hignored]
    case lost =>
      subst hsame
      rw [coreFail_of_noSpareFor (s := elapse dt s) hup hserves hlost]
      rfl
    case joins =>
      subst hsame
      rw [coreFail_of_spare (s := elapse dt s) hup hserves (not_noSpareFor hrows hfills) hv hw, elapse_dev]
      refine ⟨fun hhead => ?_, fun f rest hs hother => ?_⟩
      · rw [if_pos (joinsHead_of_forall hhead)]
      · rw [hs, joinsHead, hother, if_neg Bool.false_ne_true]
  case filled =>
    intro dt e q jobs slot f rest s v w z hwf hfills hridge hremapped hq hjobs hslot hv hw hz
    rw [exec_spareFillDone dt e s hwf,
      fillDone_of_remapped (s := elapse dt s) hfills hridge hremapped hq hjobs hslot hv hw hz]
    refine ⟨fun hnone => ?_, fun i hsome => ?_⟩
    · rw [hnone, restoredAfterFill]
    · rw [hsome, restoredAfterFill]
  case key =>
    rintro src k v x s hfit hsel rfl hs
    rw [exec_rngKeyCommit src k v s hfit, onlyIf, if_pos (by simpa using hsel), rngKeyWrite_word3 hsel]
    refine ⟨_, rfl, fun j hj => rngOf_setRng_other hs hj _, ?_, ?_⟩
    · rw [rngOf_setRng hs, keyCommitted]
    · rw [rngOf_setRng hs, keyCommitted]

end Sys2Proof.Machine

/-! # The block: one command at a time, its canonical form and its frame -/

namespace Sys2Proof.Machine

open Sys2Proof

/-! ## A step -/

theorem step_of_cons {s : State} {c : Instr} {rest : List Instr} (h : s.pending = c :: rest) :
    step s = exec c { s with pending := rest } := by
  rw [step, h]

theorem step_of_idle {s : State} (h : s.pending = []) : step s = .next s := by
  rw [step, h]

/-- Settles O1: the step by the two shapes of the queue. -/
theorem stepTakesTheFrontCommand : Obligations.StepTakesTheFrontCommand :=
  ⟨fun _ _ _ h => step_of_cons h, fun _ h => step_of_idle h⟩

theorem exec_of_wf {i : Instr} (h : i.wf = true) (s : State) : ∃ t, exec i s = .next t ∧ t.pending = s.pending := by
  obtain ⟨u, hu⟩ := exec_eq_answer i s
  rw [hu]
  exact answer_of_wf h s u

/-- Settles O5: a queue that is not empty gives up its front command, which is well formed and so completes. -/
theorem wellFormedQueuesDrain : Obligations.WellFormedQueuesDrain := by
  intro s hwf
  cases hq : s.pending with
  | nil => exact ⟨s, step_of_idle hq, hwf, hq⟩
  | cons c rest =>
    rw [State.QueueWf, hq, List.forall_mem_cons] at hwf
    obtain ⟨hc, hrest⟩ := hwf
    obtain ⟨t, ht, hpending⟩ := exec_of_wf hc { s with pending := rest }
    refine ⟨t, (step_of_cons hq).trans ht, ?_, hpending⟩
    rwa [State.QueueWf, hpending]

/-! ## What a command keeps -/

/-- The canonical form says nothing of the queue. -/
theorem canonical_pending {s : State} (h : s.Canonical) (q : List Instr) : { s with pending := q }.Canonical :=
  ⟨h.regs, h.sram, h.hub, h.hbm, h.cores, h.parts, h.links, h.engines, h.rng⟩

/-- Settles O3: every primitive change keeps the canonical form, and `step_keeps` carries that through the commands. -/
theorem everyStepKeepsTheCanonicalForm : Obligations.EveryStepKeepsTheCanonicalForm :=
  fun _ _ hs h => step_keeps closed_canonical (fun _ q hs => canonical_pending hs q) hs h

theorem Fld.same_refl (f : Fld) (s : State) : f.same s s := by cases f <;> rfl

/-- No piece of state is the queue. -/
theorem Fld.same_pending {f : Fld} {s t : State} (h : f.same s t) (q : List Instr) : f.same s { t with pending := q } := by
  cases f <;> exact h

/-- Settles O4: a piece of state that a command does not list survives the primitive changes of all the others, and
`exec_keeps` says that the command makes no other change. -/
theorem commandsChangeOnlyWhatTheyWrite : Obligations.CommandsChangeOnlyWhatTheyWrite := by
  intro i s t f h hf
  have hlisted (g : Fld) (hg : g ∈ writes i) : g ≠ f := fun heq => hf (heq ▸ hg)
  exact exec_keeps (closed_same f s) (fun _ q hu => Fld.same_pending hu q) hlisted (Fld.same_refl f s) h

end Sys2Proof.Machine

/-! # Cold and warm reset: what a device starts with (R368, R375, R381, R384) -/

namespace Sys2Proof.Machine

open Sys2Proof

section
variable {s u : State} {f : Fld} {b : Bringup} {c : WarmCause}

/-- The pieces of state that stand at their reset values when a bring-up ends, on every path. -/
def startFields : List Fld := [.tick, .sched, .jobFrames, .sram, .resets, .engines]

/-- The boot and its reports write none of them. -/
theorem startFields_unwritten : ∀ f ∈ startFields, f ∉ reportFields ∧ Fld.now ≠ f ∧ Fld.dev ≠ f ∧ Fld.sec ≠ f := by decide

section
variable (hf : f ∈ startFields)
include hf

theorem bootFirmware_start (h : f.same State.reset s) (cold : Bool) : f.same State.reset (bootFirmware cold b s) := by
  obtain ⟨hreport, hnow, hdev, hsec⟩ := startFields_unwritten f hf
  exact keep_bootFirmware (closed_same f State.reset) (raiseSet_ne hreport) hnow hdev hsec h

theorem setReg_start (h : f.same State.reset s) (cls inst off : Nat) (v : Word) :
    f.same State.reset (setReg cls inst off v s) :=
  keep_setReg (closed_same f State.reset) (raiseSet_ne (startFields_unwritten f hf).1).regs h

theorem resetLimits_start (h : f.same State.reset s) : f.same State.reset (resetLimits s) :=
  keep_resetLimits (closed_same f State.reset) (raiseSet_ne (startFields_unwritten f hf).1).regs h

theorem restoreUpd_start (h : f.same State.reset s) : f.same State.reset (restoreUpd s) :=
  keep_restoreUpd (closed_same f State.reset) (raiseSet_ne (startFields_unwritten f hf).1).regs h

theorem bump48_start (h : f.same State.reset s) (cls inst off bank n : Nat) (o : Option (Nat × Nat)) :
    f.same State.reset (bump48 cls inst off bank n o s) :=
  keep_bump48 (closed_same f State.reset) (raiseSet_ne (startFields_unwritten f hf).1) h

end

/-! ## Cold (R368, R375) -/

/-- The device as COLD_RST_N rises: up, with the fuses and the flash that it has from then on (log entries 6, 7). -/
def coldStart (b : Bringup) (s : State) : State :=
  { State.reset with
    pending := s.pending, now := s.now, free := s.free, out := s.out,
    dev := { DevSt.reset with up := true, fuses := mergeFuses s.dev.fuses b.fuses, flash := b.flash.getD s.dev.flash,
                              step := 2, fuseError := b.fuseError, bootAt := s.now } }

/-- The device once the boot ROM has written DEV_INFO, at the end of step 2. -/
def coldRead (b : Bringup) (s : State) : State :=
  resetLimits (setReg 0 0 0x40 (devInfo (mergeFuses s.dev.fuses b.fuses) b) (coldStart b s))

theorem coldBringup_of_up (h : s.dev.up = true) : coldBringup b s = s := if_pos h

theorem coldBringup_of_down (h : s.dev.up = false) :
    coldBringup b s = if b.fuseError then coldRead b s else bootFirmware true b (restoreUpd (coldRead b s)) := by
  unfold coldBringup coldRead coldStart
  rw [if_neg (by rw [h]; exact Bool.false_ne_true)]
  cases b.flash <;> rfl

theorem coldRead_start (hf : f ∈ startFields) : f.same State.reset (coldRead b s) := by
  refine resetLimits_start hf (setReg_start hf ?_ ..)
  fin_cases hf <;> rfl

theorem coldBringup_start (h : s.dev.up = false) (hf : f ∈ startFields) : f.same State.reset (coldBringup b s) := by
  rw [coldBringup_of_down h]
  split
  · exact coldRead_start hf
  · exact bootFirmware_start hf (restoreUpd_start hf (coldRead_start hf)) _

/-- The budget that a reset sets: the package limit of the part, with 16 frames (R391). -/
theorem setBudget_limit (s : State) : setBudget (packageLimit s) 16 s =
    setReg 0x12 0 0x40 (BitVec.ofNat 32 ((if s.dev.fuses.variantH then 3800 else 4400) + 2 ^ 16 * 16)) s := by
  rw [setBudget, min_self]
  rfl

/-! ## Warm (R381, R384) -/

theorem warmDue_of_external (h : c = .pin ∨ c = .register ∨ c = .sideband ∨ s.dev.warm = some c) : warmDue s c = true := by
  rcases h with rfl | rfl | rfl | h
  · rfl
  · rfl
  · rfl
  · cases c <;> simp [warmDue, h]

theorem warmDue_of_early (hc : c = .watchdog ∨ c = .fatal ∨ c = .firmware) (h : s.dev.warm ≠ some c) :
    warmDue s c = false := by
  rcases hc with rfl | rfl | rfl <;> simpa [warmDue] using h

theorem warmReset_of_early (h : warmDue s c = false) : warmReset c b s = s := by simp [warmReset, h]

/-- The device as its reset ends, with the primary's last message sent and the log of the device-fatal reports written. -/
def warmStart (c : WarmCause) (s : State) : State :=
  let noticed := primaryFault 2 (if s.faults.fatal.isEmpty then s else fatalEventLog s)
  let kept := warmKeep (launchAll (pairLinks noticed) noticed)
  bump48 0 0 0x54 0 1 none (setReg 0 0 0x4C (BitVec.ofNat 32 (causeCode c)) (resetLimits kept))

theorem warmReset_of_due (hup : s.dev.up = true) (hdue : warmDue s c = true) : warmReset c b s =
    if (warmStart c s).dev.fuseError then warmStart c s else bootFirmware false b (warmStart c s) := by
  simp only [warmReset, hup, hdue, Bool.not_true, Bool.or_self, Bool.false_eq_true, if_false]
  rfl

theorem warmKeep_start (hf : f ∈ startFields) : f.same State.reset (warmKeep s) := by fin_cases hf <;> rfl

theorem warmStart_start (hf : f ∈ startFields) : f.same State.reset (warmStart c s) :=
  bump48_start hf (setReg_start hf (resetLimits_start hf (warmKeep_start hf)) ..) ..

theorem warmReset_start (hup : s.dev.up = true) (hdue : warmDue s c = true) (hf : f ∈ startFields) :
    f.same State.reset (warmReset c b s) := by
  rw [warmReset_of_due hup hdue]
  split
  · exact warmStart_start hf
  · exact bootFirmware_start hf (warmStart_start hf) _

end

/-- Settles O7: the bring-up by the fuse error, and what it starts with piece by piece. -/
theorem coldResetStartsAnew : Obligations.ColdResetStartsAnew := by
  refine ⟨fun p s t ht => ?reset, fun b s => ⟨fun hup => ?ignored, fun hdown => ?started, fun hdown herror => ?stopped⟩⟩
  case reset =>
    subst ht
    rw [exec_coldReset p s rfl, coldReset, setBudget_limit]
  case ignored => rw [exec_coldBringup b s rfl, coldBringup_of_up hup]
  case started =>
    have hstart (f : Fld) (hf : f ∈ startFields) := coldBringup_start (b := b) hdown hf
    exact ⟨_, exec_coldBringup b s rfl, hstart .tick (by decide), hstart .sched (by decide), hstart .jobFrames (by decide),
      hstart .sram (by decide), hstart .resets (by decide), hstart .engines (by decide)⟩
  case stopped =>
    rw [exec_coldBringup b s rfl, coldBringup_of_down hdown, if_pos herror, coldRead, coldStart, herror]

/-- Settles O8: the reset by whether its cause is due, and what it starts with piece by piece. -/
theorem warmResetClearsTheDevice : Obligations.WarmResetClearsTheDevice := by
  intro b s c hup
  refine ⟨fun hcause => ?due, fun hcause hearly => ?early⟩
  case due =>
    have hstart (f : Fld) (hf : f ∈ startFields) := warmReset_start (b := b) hup (warmDue_of_external hcause) hf
    exact ⟨_, exec_warmReset c b s rfl, hstart .tick (by decide), hstart .sched (by decide), hstart .sram (by decide),
      hstart .jobFrames (by decide), hstart .resets (by decide), hstart .engines (by decide)⟩
  case early => rw [exec_warmReset c b s rfl, warmReset_of_early (warmDue_of_early hcause hearly)]

end Sys2Proof.Machine

/-! # Security: commands, updates, reports and network boot (R407, R409 to R417) -/

namespace Sys2Proof.Machine

open Sys2Proof

section
variable {s u : State} {src : Src}

/-! ## SEC_CMD (R409, R411, R412, R414, R415) -/

/-- Two commands of one sender that name the same units and need the right key alike are fit together. -/
theorem fit_of_alike {i j : Instr} (h : fit j s = true) (hunits : i.units = j.units) (hsender : i.sender = j.sender)
    (hkey : i.needsKey = j.needsKey) : fit i s = true := by
  unfold fit Instr.wf admitted at *
  rwa [hunits, hsender, hkey]

theorem secEnd_done (cmd : Nat) (s : State) : secEnd cmd 0 s = modSec (fun x => { x with result := 0, last := cmd }) s := rfl

section
variable (hstill : s.sec.staging = none)
include hstill

theorem secCmd_abort : secCmd 2 s = secAbort s := by simp [secCmd, hstill]

theorem secCmd_activate : secCmd 3 s = secActivate s := by simp [secCmd, hstill]

theorem secCmd_commit : secCmd 4 s = secCommit s := by simp [secCmd, hstill]

theorem secCmd_revoke : secCmd 5 s = secRevoke s := by simp [secCmd, hstill]

theorem secCmd_challenge : secCmd 6 s = secChallenge s := by simp [secCmd, hstill]

theorem secCmd_jtag : secCmd 7 s = secJtag s := by simp [secCmd, hstill]

theorem secCmd_extend : secCmd 8 s = secExtend s := by simp [secCmd, hstill]

end

section
variable (hslots : noSlots s = false)
include hslots

theorem secAbort_of_staged (hst : updState s = 1 ∨ updState s = 3) : secAbort s =
    secEnd 2 0 (setUpd 0 (modRecord (fun r => { r with staged := false, fallback := false }) s)) := by
  simp only [secAbort, hslots, Bool.false_eq_true, if_false, if_pos hst]

theorem secActivate_of_staged (hst : updState s = 1) : secActivate s =
    secEnd 3 0 (setUpd 2 (modDev (fun d => { d with warm := some .firmware })
      (modRecord (fun r => { r with trial := true, staged := false }) s))) := by
  simp only [secActivate, hslots, Bool.false_eq_true, if_false, if_pos hst]

/-- A package that reads and verifies is on its way into the inactive slot, which is empty from now on. -/
theorem secStage_of_verified {errs : List (Nat × SymErrs)} {a n : Nat} {p : Package}
    (ha : a = (rget64 s (regKey 0x10 0 0x4C 0)).toNat % 2 ^ 40) (haligned : a % 64 = 0)
    (hn : n = field (reg s 0x10 0 0x54) 25 0) (hsize : n ≤ 2 ^ 25) (hp : p = packageOf (physBytes s a n))
    (hcode : packageCode s p = 0) (hread : crestRead [(a, ceilDiv n 64)] errs s = (true, u)) : secStage errs s =
    modSec (fun x => { x with staging := some p, last := 1 }) (setFlashSlot (inactiveSlot u) none
      (modRecord (fun r => { r with staged := false, fallback := false }) (setUpd 0 u))) := by
  have hfits : (decide (a % 64 = 0) && decide (n ≤ 2 ^ 25)) = true := by
    rw [decide_eq_true haligned, decide_eq_true hsize, Bool.and_self]
  simp only [secStage, hslots, Bool.false_eq_true, if_false, ← ha, ← hn, ← hp, hfits, if_true, hread, Bool.not_true, hcode]

end

theorem secCommit_of_refused
    (h : s.sec.svn ≤ s.dev.fuses.rollback ∨ updState s = 1 ∧ field (reg s 0x10 0 0x48) 10 4 < s.sec.svn) :
    secCommit s = secEnd 4 8 s := by
  refine if_neg ?_
  rintro ⟨hrise, hst⟩
  omega

/-- How far the blow of the rollback fuses gets is a free value (log entry 3). -/
theorem secCommit_of_rise (hrise : s.dev.fuses.rollback < s.sec.svn)
    (hst : updState s ≠ 1 ∨ s.sec.svn ≤ field (reg s 0x10 0 0x48) 10 4) :
    ∃ n, s.dev.fuses.rollback ≤ n ∧ n ≤ s.sec.svn ∧ secCommit s =
      if n = s.sec.svn then secEnd 4 0 (drawFree (modFuses (fun f => { f with rollback := n }) s))
      else secEnd 4 9 (raiseCe 0x10 0 3 0 (drawFree (modFuses (fun f => { f with rollback := n }) s))) := by
  have hblown : Config.freeNat s.free % (min 64 s.sec.svn - s.dev.fuses.rollback + 1) <
    min 64 s.sec.svn - s.dev.fuses.rollback + 1 := Nat.mod_lt _ (Nat.succ_pos _)
  exact ⟨_, Nat.le_add_right _ _, by omega, if_pos ⟨hrise, hst⟩⟩

/-- Whether the blow of the revocation fuse succeeds is a free value (log entry 3). -/
theorem secRevoke_of_accepted {slot : Nat} (hslot : slot = leField (secBlob s) 6 1) (hcode : blobCode s 5 = 0)
    (hrange : slot ≤ 2) (hother : slot ≠ leField (secBlob s) 5 1) (hidle : activeKeySlot s ≠ some slot) :
    secRevoke s = secEnd 5 0 (drawFree
      (modFuses (fun f => { f with revoked := f.revoked ||| BitVec.ofNat 3 (2 ^ slot) }) (useChallenge s))) ∨
    secRevoke s = secEnd 5 9 (raiseCe 0x10 0 3 1 (drawFree (useChallenge s))) := by
  simp only [secRevoke, ← hslot, hcode, ne_eq, not_true_eq_false, if_false, if_neg (Nat.not_lt.mpr hrange),
    if_neg (not_or.mpr ⟨hother, hidle⟩)]
  exact ite_eq_or_eq ..

theorem secJtag_of_accepted (hcode : blobCode s 7 = 0) (hclear : secretsPresent s = false) : secJtag s =
    secEnd 7 0 (raiseCe 0x10 0 2 (leField (secBlob s) 5 1) (measureCounted 7 (shake256 64 ((secBlob s).take 0x64))
      (modSec (fun x => { x with jtag := true }) (useChallenge s)))) := by
  simp only [secJtag, hcode, hclear, ne_eq, not_true_eq_false, Bool.false_eq_true, if_false]

end

/-- Settles O10: each command by the law of its function. -/
theorem securityCommandsTakeEffect : Obligations.SecurityCommandsTakeEffect := by
  refine ⟨fun src s hfit hstill => ⟨?extend, ?challenge, fun hslots hst => ?abort, fun hslots hst => ?activate,
    fun errs a n p u hslots ha haligned hn hsize hp hcode hread => ?stage⟩, fun src s hfit hstill =>
    ⟨fun hrefused => ?refused, fun hrise hst => ?commit, fun slot hslot hcode hrange hother hidle => ?revoke,
      fun hcode hclear => ?jtag⟩⟩
  case extend => rw [exec_extend src s hfit, secCmd_extend hstill, secExtend, secEnd_done]
  case challenge =>
    rw [exec_challenge src s (fit_of_alike hfit rfl rfl rfl), secCmd_challenge hstill, secChallenge, secEnd_done]
    rfl
  case abort =>
    rw [exec_updateAbort src s (fit_of_alike hfit rfl rfl rfl), secCmd_abort hstill, secAbort_of_staged hslots hst,
      secEnd_done]
  case activate =>
    rw [exec_activate src s (fit_of_alike hfit rfl rfl rfl), secCmd_activate hstill, secActivate_of_staged hslots hst,
      secEnd_done]
  case stage =>
    rw [exec_stage ⟨src, errs⟩ s (fit_of_alike hfit rfl rfl rfl), hstill, Option.isSome_none, if_neg Bool.false_ne_true,
      secStage_of_verified hslots ha haligned hn hsize hp hcode hread]
  case refused => rw [exec_commitSvn src s hfit, secCmd_commit hstill, secCommit_of_refused hrefused]
  case commit =>
    obtain ⟨n, hlow, hhigh, hcommit⟩ := secCommit_of_rise hrise hst
    refine ⟨n, _, hlow, hhigh, rfl, ?_⟩
    rw [exec_commitSvn src s hfit, secCmd_commit hstill, hcommit, secEnd_done]
  case revoke =>
    rw [exec_revoke src s (fit_of_alike hfit rfl rfl rfl), secCmd_revoke hstill]
    refine (secRevoke_of_accepted hslot hcode hrange hother hidle).imp (fun h => ?_) (fun h => ?_)
    · rw [h, secEnd_done]
      rfl
    · rw [h]
  case jtag =>
    rw [exec_jtagUnlock src s (fit_of_alike hfit rfl rfl rfl), secCmd_jtag hstill, secJtag_of_accepted hcode hclear,
      secEnd_done]
    rfl

section
variable {s : State}

/-! ## Updates, reports and network boot (R407, R411, R412, R416, R417) -/

theorem stageDone_of_staging {p : Package} (h : s.sec.staging = some p) (ok : Bool) : stageDone ok s =
    if ok then modSec (fun x => { x with result := 0, last := 1 })
      (setStaged p (modRecord (fun r => { r with staged := true }) (setFlashSlot (inactiveSlot s) (some p)
        (modSec (fun x => { x with staging := none }) s))))
    else secEnd 1 9 (setUpdReason 9 (modSec (fun x => { x with staging := none }) s)) := by
  simp only [stageDone, h, secEnd_done]
  rfl

theorem trialTimeout_of_trial {t : Nat} (h : s.dev.trial = some t) : trialTimeout s =
    if trialOk (passTo (t + 1222000000) s) ∧ s.now ≤ t + 1222000000 then trialSuccess (passTo (t + 1222000000) s)
    else raiseCe 0 0 9 s.dev.step (trialFail 0 (passTo (t + 1222000000) s)) := by
  simp only [trialTimeout, h, Bool.and_eq_true, Bool.not_eq_true', decide_eq_false_iff_not, Nat.not_lt]
  rfl

theorem nonceWrite_last (htrotos : s.dev.trotos = true) (hnone : s.sec.nonce = none) (v : Word) : nonceWrite 15 v s =
    modSec (fun x => { x with nonce := some (nonceBytes (setReg 0x11 0 0xBC v s)) }) (setReg 0x11 0 0xBC v s) := by
  simp [nonceWrite, htrotos, hnone]

theorem reportDone_of_asked {n : List Byte} (h : s.sec.nonce = some n) : reportDone s =
    modSec (fun x => { x with
      nonce := none, reports := x.reports + 1,
      report := some (reportBody s n ++ edSign (identitySeed s) (shake256 64 (reportBody s n))) }) s := by
  simp only [reportDone, h]

section
variable {w : Bringup × Bool} (hwait : s.sec.netWait = some w)
include hwait

theorem bootReq_of_unanswered (h : s.sec.netData = []) : ∃ dst : BitVec 48, bootReq s =
    drawFree (emit (.frame 0 (padFrame (macHeader dst (intfMac s 0) none 0x88B5 ++ bootReqBody))) s) := by
  simp only [bootReq, hwait, h, List.isEmpty_nil, Bool.not_true, Bool.false_eq_true, if_false]
  exact ⟨_, rfl⟩

theorem bootReq_of_answered (h : s.sec.netData ≠ []) : bootReq s = s := by simp [bootReq, hwait, h]

theorem bootData_of_next {bytes : List Byte} (h : packageWhole (s.sec.netData ++ padTo 1024 bytes) = false) :
    bootData s.sec.netNext bytes s = modSec (fun x =>
      { x with netNext := x.netNext + 1, netData := x.netData ++ padTo 1024 bytes }) s := by
  simp only [bootData, hwait, h, ne_eq, not_true_eq_false, Bool.not_false, if_true, if_false]
  rfl

end

end

/-- Settles O11: each command by the law of its function. -/
theorem updateReportAndNetworkBootProceed : Obligations.UpdateReportAndNetworkBootProceed := by
  refine ⟨fun dt p s h => ⟨?stored, ?failed⟩, fun dt t s h => ?trial, fun src v s hfit htrotos hnone => ?request,
    fun dt n s h => ?report, fun dt w s h => ⟨fun hnone => ?asked, fun hsome => ?answered⟩, fun bytes w s h hpart => ?block⟩
  case stored =>
    rw [exec_stageDone dt true s rfl, stageDone_of_staging (s := elapse dt s) h, if_pos rfl]
    rfl
  case failed =>
    rw [exec_stageDone dt false s rfl, stageDone_of_staging (s := elapse dt s) h, if_neg Bool.false_ne_true]
  case trial => rw [exec_trialTimeout dt s rfl, trialTimeout_of_trial (s := elapse dt s) h, elapse_now, elapse_dev]
  case request => rw [exec_attestRequest src v s hfit, nonceWrite_last htrotos hnone]
  case report =>
    rw [exec_attestReportDone dt s rfl, reportDone_of_asked (s := elapse dt s) h]
    rfl
  case asked =>
    obtain ⟨dst, hdst⟩ := bootReq_of_unanswered (s := elapse dt s) h hnone
    exact ⟨dst, by rw [exec_bootReq dt s rfl, hdst]; rfl⟩
  case answered => rw [exec_bootReq dt s rfl, bootReq_of_answered (s := elapse dt s) h hsome]
  case block => rw [exec_bootData _ bytes s rfl, bootData_of_next h hpart]

end Sys2Proof.Machine

/-! # The coalescer, the log of device-fatal faults, and the comparison of digests (R425 to R433, R439) -/

namespace Sys2Proof.Machine

open Sys2Proof

section
variable {s t u : State} {r : Report} {src : Src}

/-! ## COALESCER_TAKE (R425, R428) -/

/-- The report at the head of the queue leaves it, and none other is taken in its cycle. -/
def reportTaken (rest : List Report) (s : State) : State :=
  modFaults (fun f => { f with queue := rest, takeFrom := max s.now s.faults.takeFrom + 1 }) (passTo s.faults.takeFrom s)

theorem coalescerTake_of_queued {rest : List Report} (h : s.faults.queue = r :: rest) :
    coalescerTake s = takeReport r (reportTaken rest s) := by
  simp only [coalescerTake, h]
  rfl

section
variable {i : Nat} {e : FltEntry}

theorem takeReport_of_full (h : entryOfKey s r.key = some (i, e)) (hfull : e.cnt + 1 = 2 ^ 32 - 1) :
    takeReport r s = drawFree (recordCause 0x13 0 2 0 (Config.freeNat s.free % 2 ^ 16)
      (setFltEntry i { e with cnt := 2 ^ 32 - 1 } s)) := by
  simp only [takeReport, h, hfull, min_self, if_true]

theorem takeReport_of_counted (h : entryOfKey s r.key = some (i, e)) (hroom : e.cnt + 1 ≠ 2 ^ 32 - 1) :
    takeReport r s = setFltEntry i { e with cnt := min (2 ^ 32 - 1) (e.cnt + 1) } s := by
  simp only [takeReport, h, if_neg hroom]

theorem takeReport_of_new (h : entryOfKey s r.key = none)
    (hfree : ((List.range 64).find? fun i => (fltEntry s i).isNone) = some i) :
    takeReport r s = logEvent 0x0001 r.cls r.inst r.fclass (reportDetail r) (modFaults (fun f => { f with intPending := true })
      (setFltEntry i ⟨r.key, r.cls, r.inst, r.bit, r.fclass, r.tick, 1, none⟩ s)) := by
  simp only [takeReport, h, hfree]

theorem takeReport_of_none_free (h : entryOfKey s r.key = none)
    (hfree : ((List.range 64).find? fun i => (fltEntry s i).isNone) = none) : takeReport r s = dropReport r.key s := by
  simp only [takeReport, h, hfree]

end

/-! ## FATAL_EVENT_LOG (R439) -/

/-- The only report of a device-fatal cause is logged in the cycle after it. -/
def fatalLogged (r : Report) (s : State) : State :=
  logEvent 0x0003 r.cls r.inst 2 (reportDetail r)
    (modFaults (fun f => { f with fatal := [], fatalLogged := true }) (passTo (r.at_ + 1) s))

theorem fatalLogged_same {f : Fld} (hregs : f ≠ .regs) (hfaults : f ≠ .faults) :
    f.same (passTo (r.at_ + 1) s) (fatalLogged r s) := by
  have hcleared : SameButReports (passTo (r.at_ + 1) s)
      (modFaults (fun f => { f with fatal := [], fatalLogged := true }) (passTo (r.at_ + 1) s)) := rfl
  exact (hcleared.trans (logEvent_same ..)).same hregs hfaults

/-- Where a warm reset is to start already, the log asks for none. -/
theorem fatalEventLog_of_single (h : s.faults.fatal = [r]) (hwarm : s.dev.warm.isNone = false) :
    fatalEventLog s = enqueueReport { r with at_ := max s.now (r.at_ + 1) } (fatalLogged r s) := by
  have hnow : (fatalLogged r s).now = max s.now (r.at_ + 1) := fatalLogged_same (f := .now) (by decide) (by decide)
  have hlogged : (fatalLogged r s).dev = s.dev := fatalLogged_same (f := .dev) (by decide) (by decide)
  have hqueued (x : Report) : (enqueueReport x (fatalLogged r s)).dev = (fatalLogged r s).dev :=
    (enqueueReport_same x _).same (f := .dev) (by decide) (by decide)
  simp only [fatalEventLog, h, List.takeWhile_cons, List.dropWhile_cons, beq_self_eq_true, if_true, List.takeWhile_nil,
    List.dropWhile_nil, logFatal, queueReports]
  rw [← fatalLogged, hnow, hqueued, hlogged, hwarm, Bool.and_false, Bool.false_and, if_neg Bool.false_ne_true]

/-! ## FLT_CTL and the read of the log (R425 to R427, R433) -/

theorem fltClear_of_live {e : FltEntry} (h : fltEntry s (field (reg s 0x13 0 0x48) 5 0) = some e) (hlive : e.freeFrom = none) :
    fltClear s = setFltEntry (field (reg s 0x13 0 0x48) 5 0) { e with freeFrom := some (s.now + 1) } s := by
  simp only [fltClear, h, hlive]

/-- A word of FLT_LOG_DATA is no half of a pair, so its read only marks the entry. -/
theorem readReg_fltLogData {off : Nat} {e : LogEntry} (hoff : inWords off 0x80 8 = true) (h : selectedEvent s = some e) :
    (readReg src 0x13 0 off s).2 = modFaults (fun f => { f with log := f.log.map (markRead e.idx 1) }) s := by
  have hcnt : off ≠ 0x1C := by
    rintro rfl
    exact absurd hoff (by decide)
  simp [readReg, pageFused, latchedRead, pairHalf_fltLogData hoff, readEffect, hcnt, hoff, h]

theorem inWords_of_lt {word : Nat} (h : word < 8) : inWords (0x80 + 4 * word) 0x80 8 = true := by
  simp only [inWords, Bool.and_eq_true, decide_eq_true_eq]
  omega

theorem fltLogRead_word_lt {word : Nat} (h : fit (.fltLogRead src word) s = true) : word < 8 := by
  have hwf : (Instr.fltLogRead src word).wf = true := (Bool.and_eq_true_iff.mp h).1
  have hunit := List.all_eq_true.mp hwf ⟨"log word", word, 8⟩ (List.mem_append_right _ (List.mem_singleton.mpr rfl))
  exact of_decide_eq_true hunit

end

/-- Settles O15: a report by the entry that it finds, the log by its only report, and the rest by the laws of their functions. -/
theorem coalescerAndLogTakeEffect : Obligations.CoalescerAndLogTakeEffect := by
  refine ⟨fun r rest s u hqueue hu => ?take, fun r s hfatal hwarm => ?fatal,
    fun src s hfit => ⟨?ack, ?storm, fun e hentry hlive => ?clear⟩, fun src word e s hfit hselected => ?read⟩
  case take =>
    replace hu : u = reportTaken rest s := hu
    rw [exec_coalescerTake s rfl, coalescerTake_of_queued hqueue, ← hu]
    refine ⟨fun i e h hfull => ⟨Config.freeNat u.free % 2 ^ 16, Nat.mod_lt _ (by decide), ?_⟩, fun i e h hroom => ?_,
      fun i h hfree => ?_, fun h hfree => ?_⟩
    · rw [takeReport_of_full h hfull]
    · rw [takeReport_of_counted h hroom]
    · rw [takeReport_of_new h hfree]
    · rw [takeReport_of_none_free h hfree]
  case fatal =>
    rw [exec_fatalEventLog s rfl, fatalEventLog_of_single hfatal (by rw [hwarm]; rfl), fatalLogged]
  case ack => rw [exec_intAck src s hfit, intAck, modFaults]
  case storm => rw [exec_stormClear src s (fit_of_alike hfit rfl rfl rfl), stormClear, modFaults]
  case clear => rw [exec_fltClear src s (fit_of_alike hfit rfl rfl rfl), fltClear_of_live hentry hlive]
  case read =>
    rw [exec_fltLogRead src word s hfit, readReg_fltLogData (inWords_of_lt (fltLogRead_word_lt hfit)) hselected]

section
variable {s t : State} {d l g : Nat} {mine theirs layout : Dword}

/-! ## DIGEST_MSG (R431, R432) -/

/-- The peer is among those whose digest of this frame has been compared. -/
def peerCompared (d : Nat) (s : State) : State :=
  modDig (fun x => { x with compared := if x.compared.contains d then x.compared else x.compared ++ [d] }) s

section
variable (hlast : (peerRow s d).last ≤ g)
include hlast

theorem compareDigest_of_equal (h : mine = theirs) :
    compareDigest d l g mine theirs s = setPeerRow ⟨d, l, 0, false, g + 1⟩ (peerCompared d s) := by
  rw [compareDigest, if_neg (Nat.not_lt.mpr hlast), if_pos h]
  rfl

theorem compareDigest_of_raised (h : mine ≠ theirs) (hraised : (peerRow s d).raised = true) :
    compareDigest d l g mine theirs s = setPeerRow { peerRow s d with last := g + 1 } (peerCompared d s) := by
  rw [compareDigest, if_neg (Nat.not_lt.mpr hlast), if_neg h, if_pos hraised]
  rfl

variable (hdiffers : mine ≠ theirs) (hquiet : (peerRow s d).raised = false)
include hdiffers hquiet

theorem compareDigest_of_differs : compareDigest d l g mine theirs s =
    if (peerRow s d).run + 1 < 4 then setPeerRow ⟨d, l, (peerRow s d).run + 1, false, g + 1⟩ (peerCompared d s)
    else configDiverge d l g (peerCompared d s) := by
  rw [compareDigest, if_neg (Nat.not_lt.mpr hlast), if_neg hdiffers, hquiet, if_neg Bool.false_ne_true]
  rfl

theorem compareDigest_of_few (hrun : (peerRow s d).run < 3) : compareDigest d l g mine theirs s =
    setPeerRow ⟨d, l, (peerRow s d).run + 1, false, g + 1⟩ (peerCompared d s) := by
  rw [compareDigest_of_differs hlast hdiffers hquiet, if_pos (by omega)]

theorem compareDigest_of_fourth (hrun : 3 ≤ (peerRow s d).run) :
    compareDigest d l g mine theirs s = configDiverge d l g (peerCompared d s) := by
  rw [compareDigest_of_differs hlast hdiffers hquiet, if_neg (by omega)]

end

theorem compareDigest_of_done (h : g < (peerRow s d).last) : compareDigest d l g mine theirs s = s := if_pos h

variable {frame : Word}

theorem digestMessage_of_unheard (h : (link s l).st ≠ 5 ∨ comparable s l layout = false) :
    digestMessage l frame layout theirs s = s := if_pos (h.imp_right fun hc => by rw [hc]; rfl)

section
variable (hup : (link s l).st = 5) (hcomparable : comparable s l layout = true)
include hup hcomparable

theorem digestMessage_heard : ¬((link s l).st ≠ 5 ∨ (!comparable s l layout) = true) := by simp [hup, hcomparable]

theorem digestMessage_of_published (h : (s.dig.own.find? fun o => BitVec.ofNat 32 o.1 == frame) = some (g, mine)) :
    digestMessage l frame layout theirs s = compareDigest (link s l).peerDevice l g mine theirs s := by
  simp only [digestMessage, if_neg (digestMessage_heard hup hcomparable), h]

theorem digestMessage_of_early (h : (s.dig.own.find? fun o => BitVec.ofNat 32 o.1 == frame) = none) :
    digestMessage l frame layout theirs s = modDig (fun x =>
      { x with waiting := (x.waiting ++ [(frame, layout, theirs, (link s l).peerDevice, l)]).take 4096 }) s := by
  simp only [digestMessage, if_neg (digestMessage_heard hup hcomparable), h]

end

end

/-- Settles O60: a message that counts by whether its frame is published, and a comparison by the peer's row. -/
theorem digestsAreCompared : Obligations.DigestsAreCompared := by
  rintro dt l f layout d rep s u peer hwf rfl
  rw [exec_digestMsg dt l f layout d rep s hwf]
  refine ⟨fun hunheard => ?unheard, fun hnew hup hcomparable => ?heard⟩
  case unheard =>
    cases rep with
    | true => rfl
    | false =>
      have hunheard := hunheard.resolve_left Bool.false_ne_true
      rw [digestMessage_of_unheard (s := elapse dt s) hunheard, onlyIf, ite_self]
  case heard =>
    subst hnew
    rw [Bool.not_false, onlyIf, if_pos rfl]
    refine ⟨fun g mine hown hlast hu => ?compared, fun g mine hown hlast => ?done, fun hnone => ?waits⟩
    case compared =>
      replace hu : u = peerCompared (link s l).peerDevice (elapse dt s) := hu
      have hrow : peerRow (elapse dt s) (link s l).peerDevice = peerRow s (link s l).peerDevice := rfl
      rw [digestMessage_of_published (s := elapse dt s) hup hcomparable hown, link_elapse, hu, ← hrow]
      rw [← hrow] at hlast
      refine ⟨fun hequal => ?_, fun hdiffers hquiet hfew => ?_, fun hdiffers hquiet hfourth => ?_, fun hdiffers hraised => ?_⟩
      · rw [compareDigest_of_equal hlast hequal]
      · rw [compareDigest_of_few hlast hdiffers hquiet hfew]
      · rw [compareDigest_of_fourth hlast hdiffers hquiet hfourth]
        rfl
      · rw [compareDigest_of_raised hlast hdiffers hraised]
    case done =>
      rw [digestMessage_of_published (s := elapse dt s) hup hcomparable hown, link_elapse,
        compareDigest_of_done (s := elapse dt s) hlast]
    case waits =>
      rw [digestMessage_of_early (s := elapse dt s) hup hcomparable hnone]
      rfl

end Sys2Proof.Machine

/-! # Resets of cores, clusters and partitions: how they begin (R376, R377, Table 13.5) -/

namespace Sys2Proof.Machine

open Sys2Proof

section
variable {s u v : State} {r : Region} {c k p : Nat} {src : Src}

/-- The state once the cores of a region have begun their drain, with the wires within it still to be discarded. -/
def drainBegun (r : Region) (s : State) : State :=
  drainCores r (regionCores s r)
    { s with resets := (s.resets.filter fun x => !within s x.region r) ++ [⟨r, s.now, false, false⟩] }

theorem startReset_of_drained (hu : u = drainBegun r s) :
    startReset r false s = discardWires (u.fab.wires.filter (innerWire u r)) u := by
  rw [hu]
  rfl

/-- A core or cluster reset is permitted with no image ARMED, in a partition that stands still (R376). -/
theorem lowResetOk_iff : lowResetOk s p = true ↔ s.sched.st ≠ 3 ∧ (part s p).st ∈ [0, 2, 4] := by
  simp [lowResetOk, armed, or_assoc]

theorem lowResetOk_eq_false (h : s.sched.st = 3 ∨ (part s p).st ∉ [0, 2, 4]) : lowResetOk s p = false := by
  rw [Bool.eq_false_iff, ne_eq, lowResetOk_iff, not_and_or, not_not]
  exact h

/-! ## Requests for a core or a cluster -/

theorem coreResetReq_of_covered (h : covered s (.core c) = true) : coreResetReq c s = s := if_pos h

theorem clusterResetReq_of_covered (h : covered s (.cluster k) = true) : clusterResetReq k s = s := if_pos h

theorem coreResetReq_of_open (h : covered s (.core c) = false) : coreResetReq c s =
    if lowResetOk s (partOf s c) then startReset (.core c) false s else raiseCe 5 c 12 0 s := by
  rw [coreResetReq, h, if_neg Bool.false_ne_true]

section
variable (h : covered s (.cluster k) = false)
include h

theorem clusterResetReq_of_open (hok : lowResetOk s (partOfCluster s k) = true) :
    clusterResetReq k s = startReset (.cluster k) false s := by
  rw [clusterResetReq, h, if_neg Bool.false_ne_true, if_pos hok]

/-- The record says whether the partition stands still. -/
theorem clusterResetReq_of_refused (hok : lowResetOk s (partOfCluster s k) = false) {still : Bool}
    (hstill : decide ((part s (partOfCluster s k)).st ∈ [0, 2, 4]) = still) :
    clusterResetReq k s = raiseCe 0x15 (partOfCluster s k) 0 (k + 2 ^ 15 * bit01 still) s := by
  have hst : ((part s (partOfCluster s k)).st == 0 || (part s (partOfCluster s k)).st == 2 ||
      (part s (partOfCluster s k)).st == 4) = still := by
    rw [← hstill, Bool.eq_iff_iff]
    simp [or_assoc]
  rw [clusterResetReq, h, if_neg Bool.false_ne_true, hok, if_neg Bool.false_ne_true, ← hst]

end

/-! ## Requests for a partition -/

section
variable (hridges : partRidges s p ≠ []) (hopen : covered s (.partition p) = false)
include hridges hopen

theorem partReset_goes : ¬((partRidges s p).isEmpty || covered s (.partition p)) = true := by
  simp [hridges, hopen]

theorem partResetReq_of_moving (h : (part s p).move ≠ none) :
    partResetReq p s = setPart p { part s p with resetAfter := true } s :=
  (if_neg (partReset_goes hridges hopen)).trans (if_pos (Option.isSome_iff_ne_none.mpr h))

variable (hmove : (part s p).move = none)
include hmove

theorem partResetReq_still : partResetReq p s = if powered s p then
      startReset (.partition p) false (setPart p { part s p with st := 3, wasFrozen := false } (partBegin p s))
    else setPart p { part s p with resetAfter := true, move := some (0, s.now + exitCycles (partPower s p)) } s :=
  (if_neg (partReset_goes hridges hopen)).trans (if_neg (by rw [hmove]; exact Bool.false_ne_true))

end

end

/-- Settles O57: a request by whether its region is covered, whether it is permitted, and the partition's power state. -/
theorem resetsBegin : Obligations.ResetsBegin := by
  refine ⟨?low, fun src c s hfit hopen href => ?core, fun src k s hfit hopen hst => ?moving,
    fun src k s hfit hopen hst harmed => ?armed, fun src p s u v hfit hridges hopen =>
      ⟨fun hmove hpower hu hv => ?begins, fun hmove => ?waits, fun hmove hpower => ?exits⟩⟩
  case low =>
    rintro src r i s u hrow hfit
    rcases hrow with ⟨c, rfl, rfl⟩ | ⟨k, rfl, rfl⟩
    · rw [exec_coreReset src c s hfit]
      refine ⟨fun hcovered => ?_, fun hopen harmed hst hu => ?_⟩
      · rw [coreResetReq_of_covered hcovered]
      · rw [coreResetReq_of_open hopen, if_pos (lowResetOk_iff (p := partOf s c).mpr ⟨harmed, hst⟩), startReset_of_drained hu]
    · rw [exec_clusterReset src k s hfit]
      refine ⟨fun hcovered => ?_, fun hopen harmed hst hu => ?_⟩
      · rw [clusterResetReq_of_covered hcovered]
      · rw [clusterResetReq_of_open hopen (lowResetOk_iff.mpr ⟨harmed, hst⟩), startReset_of_drained hu]
  case core =>
    rw [exec_coreReset src c s hfit, coreResetReq_of_open hopen, lowResetOk_eq_false href, if_neg Bool.false_ne_true]
  case moving =>
    rw [exec_clusterReset src k s hfit,
      clusterResetReq_of_refused hopen (lowResetOk_eq_false (.inr hst)) (decide_eq_false hst)]
    rfl
  case armed =>
    rw [exec_clusterReset src k s hfit,
      clusterResetReq_of_refused hopen (lowResetOk_eq_false (.inl harmed)) (decide_eq_true hst)]
    rfl
  case begins =>
    rw [exec_partitionReset src p s hfit, partResetReq_still hridges hopen hmove, if_pos hpower, ← hu, startReset_of_drained hv]
  case waits => rw [exec_partitionReset src p s hfit, partResetReq_of_moving hridges hopen hmove]
  case exits =>
    rw [exec_partitionReset src p s hfit, partResetReq_still hridges hopen hmove, hpower, if_neg Bool.false_ne_true]

end Sys2Proof.Machine

/-! # Resets of cores, clusters and partitions: how they end (R377, R378, R384) -/

namespace Sys2Proof.Machine

open Sys2Proof

/-! ## Removing cells -/

section
variable {α : Type} [DecidableEq α] {dflt : Nat → α}

/-- A removed cell reads as its default, every other one as before. -/
theorem sget_sdrop {l : List (Nat × α)} (h : swf dflt l = true) (p : Nat → Bool) (k : Nat) :
    sget dflt (sdrop p l) k = if p k then dflt k else sget dflt l k := by
  induction l with
  | nil => simp [sdrop, sget]
  | cons e t ih =>
    obtain ⟨a, v⟩ := e
    obtain ⟨-, habove, ht⟩ := swf_cons.mp h
    have hbelow (hk : k ≤ a) : sget dflt t k = dflt k := sget_below habove hk
    rw [sdrop, List.filter_cons]
    cases hp : p a with
    | true =>
      rw [if_neg (by simp), ← sdrop, ih ht, sget]
      rcases lt_trichotomy k a with hlt | rfl | hgt
      · rw [if_neg hlt.ne, if_pos hlt, hbelow hlt.le]
      · rw [hp, if_pos rfl, if_pos rfl]
      · rw [if_neg hgt.ne', if_neg hgt.not_gt]
    | false =>
      rw [if_pos (by simp), ← sdrop, sget, sget, ih ht]
      rcases lt_trichotomy k a with hlt | rfl | hgt
      · simp only [if_neg hlt.ne, if_pos hlt, ite_self]
      · rw [if_pos rfl, if_pos rfl, hp, if_neg Bool.false_ne_true]
      · simp only [if_neg hgt.ne', if_neg hgt.not_gt]

end

theorem memBytes_congr {m m' : List (Nat × Byte)} {a n : Nat} (h : ∀ i < n, sget memZero m (a + i) = sget memZero m' (a + i)) :
    memBytes m a n = memBytes m' a n := by
  induction n generalizing a with
  | zero => rfl
  | succ n ih =>
    have hrest : memBytes m (a + 1) n = memBytes m' (a + 1) n := ih fun i hi => by
      rw [Nat.add_assoc, Nat.add_comm 1]
      exact h (i + 1) (Nat.succ_lt_succ hi)
    have hfirst : sget memZero m a = sget memZero m' a := h 0 (Nat.succ_pos n)
    rw [memBytes, memBytes, hfirst, hrest]

theorem memLine_congr {m m' : List (Nat × Byte)} {a : Nat} (h : ∀ i < 64, sget memZero m (a + i) = sget memZero m' (a + i)) :
    memLine m a = memLine m' a := by
  rw [memLine, memBytes_congr h, memLine]

theorem memBytes_nil (a n : Nat) : leNat (memBytes [] a n) = 0 := by
  induction n generalizing a with
  | zero => rfl
  | succ n ih =>
    rw [memBytes, leNat, ih]
    rfl

theorem memLine_nil (a : Nat) : memLine [] a = 0 := by
  rw [memLine, memBytes_nil]
  rfl

/-! ## What the writes of a report leave (R23, R425, R427) -/

section
variable {P : State → Prop} {s : State} {cls inst : Nat}

/-- A property survives the writes that a report makes to the registers of a page. -/
def SurvivesPage (P : State → Prop) (cls inst : Nat) : Prop :=
  ∀ (s : State) (off : Nat) (v : Word), off ∈ reportOffsets → P s → P (setReg cls inst off v s)

/-- A property survives the writes to the coalescer and the event log, and those to the FAULT page. -/
structure SurvivesFaults (P : State → Prop) : Prop where
  faults : ∀ (s : State) (x : Faults), P s → P { s with faults := x }
  page : SurvivesPage P 0x13 0

theorem rset64_survives (hpage : SurvivesPage P cls inst) {off : Nat} (hlo : off ∈ reportOffsets) (hhi : off + 4 ∈ reportOffsets)
    (h : P s) (v : Dword) : P (rset64 (regKey cls inst off 0) v s) := by
  rw [rset64, regKey_hi]
  exact hpage _ _ _ hhi (hpage _ _ _ hlo h)

theorem bump48Quiet_survives (hpage : SurvivesPage P cls inst) {off : Nat} (hlo : off ∈ reportOffsets)
    (hhi : off + 4 ∈ reportOffsets) (h : P s) (n : Nat) : P (bump48Quiet (regKey cls inst off 0) n s) := by
  unfold bump48Quiet
  rw [regKey_hi]
  dsimp only
  split
  all_goals exact hpage _ _ _ hhi (hpage _ _ _ hlo h)

section
variable (hP : SurvivesFaults P)
include hP

theorem recordCause_survives (hpage : SurvivesPage P cls inst) (h : P s) (bit f detail : Nat) :
    P (recordCause cls inst bit f detail s) := by
  have hcounted : P (causeCounted s cls inst bit) :=
    hpage _ _ _ (by decide) (hpage _ _ _ (by decide) (hP.faults _ _ h))
  cases hfirst : leavesFirst s cls inst bit with
  | true =>
    rw [recordCause_of_leaves hfirst]
    exact hpage _ _ _ (by decide) hcounted
  | false =>
    rw [recordCause_of_takes hfirst]
    exact rset64_survives hpage (by decide) (by decide) (hpage _ _ _ (by decide) hcounted) _

/-- A cause that the FAULT page raises where a condition holds. -/
theorem ite_faultCause_survives {p : Prop} [Decidable p] (h : P s) (bit f detail : Nat) :
    P (if p then recordCause 0x13 0 bit f detail s else s) := by
  split
  · exact recordCause_survives hP hP.page h ..
  · exact h

theorem logEvent_survives (h : P s) (code cls inst f : Nat) (d : List Byte) : P (logEvent code cls inst f d s) := by
  unfold logEvent
  extract_lets faults pos gone e logged j was counted lost
  have hlogged : P logged := hP.faults _ _ h
  split
  · have hcounted : P counted := bump48Quiet_survives hP.page (by decide) (by decide) hlogged 1
    exact ite_faultCause_survives hP (ite_faultCause_survives hP hcounted ..) ..
  · exact hlogged

theorem dropReport_survives (h : P s) (key : Nat) : P (dropReport key s) := by
  unfold dropReport
  extract_lets j was counted caused dropped
  have hcounted : P counted := bump48Quiet_survives hP.page (by decide) (by decide) h 1
  have hdropped : P dropped := ite_faultCause_survives hP (recordCause_survives hP hP.page hcounted ..) ..
  split
  · exact hdropped
  · exact logEvent_survives hP (hP.faults _ _ hdropped) ..

theorem enqueueReports_survives (h : P s) (mk : Nat → Report) (l : List Nat) : P (enqueueReports mk l s) := by
  induction l generalizing s with
  | nil => exact h
  | cons key l ih =>
    refine ih ?_
    unfold enqueueReport
    split
    · exact dropReport_survives hP h _
    · exact hP.faults _ _ h

theorem raiseCe_survives (hpage : SurvivesPage P cls inst) (h : P s) (bit detail : Nat) :
    P (raiseCe cls inst bit detail s) := by
  have hrecorded : P (recordCause cls inst bit 0 detail s) := recordCause_survives hP hpage h ..
  unfold raiseCe raise record
  dsimp only
  split
  · exact h
  · split
    · exact hrecorded
    · exact enqueueReports_survives hP hrecorded ..

theorem logLoss_survives (hpage : SurvivesPage P 0 0) (h : P s) (level cls group : Nat) (insts : List Nat) :
    P (logLoss level cls group insts s) := by
  cases insts with
  | nil => exact h
  | cons i t => exact raiseCe_survives hP hpage (logEvent_survives hP h ..) ..

theorem logLosses_survives (hpage : SurvivesPage P 0 0) (h : P s) (level : Nat) (l : List Loss) : P (logLosses level l s) :=
  foldl_keep (fun _ _ hs => logLoss_survives hP hpage hs ..) h

end

end

section
variable {s u t : State} {k : Nat}

/-- A register lies neither in the DEVICE page nor in the FAULT page: its key is none of those that the log of a loss
writes. -/
def BesideReports (k : Nat) : Prop := ∀ off ∈ reportOffsets, k ≠ regKey 0 0 off 0 ∧ k ≠ regKey 0x13 0 off 0

/-- The registers beside those of the reports are those of `s`. -/
def SameBeside (s t : State) : Prop := t.Canonical ∧ ∀ k, BesideReports k → rget t k = rget s k

theorem setReg_beside {cls inst off : Nat} (hkey : ∀ k, BesideReports k → k ≠ regKey cls inst off 0) (h : SameBeside s t)
    (v : Word) : SameBeside s (setReg cls inst off v t) :=
  ⟨closed_canonical.rset trivial h.1, fun k hk => (rget_rset_other h.1.regs (hkey k hk) v).trans (h.2 k hk)⟩

theorem survivesFaults_beside (s : State) : SurvivesFaults (SameBeside s) where
  faults _ _ h := ⟨closed_canonical.faults trivial h.1, h.2⟩
  page _ _ v hoff h := setReg_beside (fun _ hk => (hk _ hoff).2) h v

theorem logLosses_beside (h : SameBeside s t) (level : Nat) (l : List Loss) : SameBeside s (logLosses level l t) :=
  logLosses_survives (survivesFaults_beside s) (fun _ _ v hoff h => setReg_beside (fun _ hk => (hk _ hoff).1) h v) h level l

theorem logLosses_same (level : Nat) (l : List Loss) (s : State) : SameButReports s (logLosses level l s) := by
  refine foldl_keep (P := SameButReports s) (fun u n h => h.trans ?_) (.refl s)
  unfold logLoss
  split
  · exact .refl u
  · exact (logEvent_same ..).trans (raiseCe_same ..)

/-! ## Class-L registers (R384) -/

theorem resetRegion_same (level : Nat) (r : Region) (extra : List Loss) (s : State) :
    SameButReports s (resetRegion level r extra s) := by
  have hdropped : SameButReports s (dropRegs (regionHit s r) s) := rfl
  exact hdropped.trans (logLosses_same ..)

theorem keyPage_regKey {cls inst off : Nat} (hcls : cls < 64) (hinst : inst < 2 ^ 14) (hoff : off < 2 ^ 12) :
    keyPage (regKey cls inst off 0) = (cls, inst, off) := by
  simp only [keyPage, regKey, regAddr, Prod.mk.injEq]
  omega

theorem besideReports_regKey {cls inst off : Nat} (hcls : cls ∈ [4, 5, 6]) (hinst : inst < 2 ^ 14) (hoff : off < 2 ^ 12) :
    BesideReports (regKey cls inst off 0) := by
  intro o ho
  have hlt := reportOffsets_lt o ho
  simp only [List.mem_cons, List.not_mem_nil, or_false] at hcls
  simp only [regKey, regAddr, ne_eq]
  omega

/-- A class-L register of the region returns to its reset value; another one of a unit's page stays as it was. -/
theorem reg_resetRegion (hs : s.Canonical) {cls inst off : Nat} (hcls : cls ∈ [4, 5, 6]) (hinst : inst < 2 ^ 14)
    (hoff : off < 2 ^ 12) (level : Nat) (r : Region) (extra : List Loss) : reg (resetRegion level r extra s) cls inst off =
      if regionHit s r cls inst off then reg State.reset cls inst off else reg s cls inst off := by
  have hclsLt : cls < 64 := by
    simp only [List.mem_cons, List.not_mem_nil, or_false] at hcls
    omega
  have hbeside : SameBeside (dropRegs (regionHit s r) s) (resetRegion level r extra s) :=
    logLosses_beside (t := dropRegs (regionHit s r) s) ⟨closed_canonical.regsDrop trivial hs, fun _ _ => rfl⟩ _ _
  rw [reg, hbeside.2 _ (besideReports_regKey hcls hinst hoff), rget, dropRegs, sget_sdrop hs.regs,
    keyPage_regKey hclsLt hinst hoff]
  rfl

end

/-! ## What is placed from an image reads only memory (R378) -/

section
variable {s u t : State}

/-- Memory, windows and keys are those of `s`: what is read at a physical address is the same. -/
structure SameMemory (s u : State) : Prop where
  hub : u.hub = s.hub
  hbm : u.hbm = s.hbm
  keys : u.mem.keys = s.mem.keys
  fuses : u.dev.fuses = s.dev.fuses
  windows : ∀ i off, i < 8 → off < 2 ^ 12 → reg u 6 i off = reg s 6 i off

theorem SameMemory.trans (h : SameMemory s u) (g : SameMemory u t) : SameMemory s t where
  hub := g.hub.trans h.hub
  hbm := g.hbm.trans h.hbm
  keys := g.keys.trans h.keys
  fuses := g.fuses.trans h.fuses
  windows i off hi hoff := (g.windows i off hi hoff).trans (h.windows i off hi hoff)

theorem winOff_lt (w : Nat) (x : WinReg) : winOff w x < 2 ^ 12 := by
  cases x
  all_goals
    simp only [winOff]
    omega

section
variable (h : SameMemory s u)
include h

theorem SameMemory.window_eq {w : Nat} (hw : w < 256) : window u w = window s w := by
  have hcirque : w / 32 < 8 := by omega
  simp only [window, h.windows _ _ hcirque (winOff_lt w _)]

theorem SameMemory.windowHolding_eq (a b : Nat) : windowHolding u a b = windowHolding s a b := by
  have hall : (List.range 256).map (window u) = (List.range 256).map (window s) :=
    List.map_congr_left fun w hw => h.window_eq (List.mem_range.mp hw)
  rw [windowHolding, hall, windowHolding]

theorem SameMemory.physLine_eq (a : Nat) : physLine u a = physLine s a := by
  simp only [physLine, hbmExists, variantH, hbmPlace, hbmSymbols, hbmPlain, keySlot, h.windowHolding_eq, h.hub, h.hbm, h.keys,
    h.fuses]
  rfl

theorem SameMemory.physBytes_eq (a n : Nat) : physBytes u a n = physBytes s a n := by
  simp only [physBytes, h.physLine_eq]

theorem SameMemory.physNat_eq (a n : Nat) : physNat u a n = physNat s a n := by
  rw [physNat, h.physBytes_eq, physNat]

theorem SameMemory.dirEnt_eq (addr k : Nat) : dirEnt u addr k = dirEnt s addr k := by
  simp only [dirEnt, h.physNat_eq, h.physBytes_eq]

theorem SameMemory.coreSecs_eq (addr c : Nat) : coreSecs u addr c = coreSecs s addr c := by
  have hdir : dirEnt u addr = dirEnt s addr := funext (h.dirEnt_eq addr)
  simp only [coreSecs, sectionBytes, sectionOf, dirOf, hdir, h.physNat_eq, h.physBytes_eq]

theorem SameMemory.secsOf_eq (im : Option Image) (c : Nat) : secsOf u im c = secsOf s im c := by
  cases im with
  | none => rfl
  | some i => exact h.coreSecs_eq i.addr c

theorem SameMemory.coreFresh_eq (hsched : u.sched = s.sched) (hnow : u.now = s.now) (c : Nat) (both : Bool) (x : Core) :
    coreFresh u c both x = coreFresh s c both x := by
  simp only [coreFresh, h.secsOf_eq, hsched, hnow, armedImage, armed]
  rfl

end

/-! ## The reset of a core (R378) -/

/-- The reset of a core changes cores, core SRAM and the traffic between switches only. -/
theorem freshCores_same {f : Fld} (hsram : Fld.sram ≠ f) (hcores : Fld.cores ≠ f) (hfab : Fld.fab ≠ f) (keep both : Bool)
    (cs : List Nat) (s : State) : f.same s (freshCores keep both cs s) :=
  keep_freshCores (closed_same f s) hsram hcores hfab (Fld.same_refl f s)

theorem sameMemory_of_same (hhub : Fld.hub.same s u) (hhbm : Fld.hbm.same s u) (hmem : Fld.mem.same s u)
    (hdev : Fld.dev.same s u) (hregs : ∀ i off, i < 8 → off < 2 ^ 12 → reg u 6 i off = reg s 6 i off) : SameMemory s u :=
  ⟨hhub, hhbm, congrArg Mem.keys hmem, congrArg DevSt.fuses hdev, hregs⟩

theorem freshCores_sameMemory (keep both : Bool) (cs : List Nat) (s : State) : SameMemory s (freshCores keep both cs s) := by
  have hkept {f : Fld} (h : f ≠ .sram ∧ f ≠ .cores ∧ f ≠ .fab) : f.same s (freshCores keep both cs s) :=
    freshCores_same h.1.symm h.2.1.symm h.2.2.symm keep both cs s
  have hregs : (freshCores keep both cs s).regs = s.regs := hkept (f := .regs) (by decide)
  exact sameMemory_of_same (hkept (by decide)) (hkept (by decide)) (hkept (by decide)) (hkept (by decide)) fun i off _ _ => by
    rw [reg, rget, hregs, reg, rget]

section
variable {c d : Nat} {keep both : Bool}

theorem returnAll_same {f : Fld} (hfab : Fld.fab ≠ f) (x : Core) (l : List (Chan × Port)) : f.same s (returnAll c x l s) :=
  keep_returnAll (closed_same f s) hfab (Fld.same_refl f s)

/-- The traffic that a core's reset drops, and its SRAM unless that is kept. -/
def coreCleared (keep : Bool) (c : Nat) (s : State) : State :=
  if keep then dropCoreWires c (returnAll c (core s c) allInputs s)
  else zeroSram c (dropCoreWires c (returnAll c (core s c) allInputs s))

theorem freshCore_eq : freshCore keep both c s =
    setCore c (coreFresh (coreCleared keep c s) c both (core (coreCleared keep c s) c)) (coreCleared keep c s) := rfl

theorem coreCleared_same {f : Fld} (hfab : Fld.fab ≠ f) (hsram : Fld.sram ≠ f) : f.same s (coreCleared keep c s) := by
  have hdropped : f.same s (dropCoreWires c (returnAll c (core s c) allInputs s)) :=
    keep_dropCoreWires (closed_same f s) hfab (returnAll_same hfab _ _)
  unfold coreCleared
  split
  · exact hdropped
  · exact keep_zeroSram (closed_same f s) hsram hdropped

theorem core_coreCleared (d : Nat) : core (coreCleared keep c s) d = core s d := by
  have hcores : (coreCleared keep c s).cores = s.cores := coreCleared_same (f := .cores) (by decide) (by decide)
  rw [core, hcores, core]

theorem coreCleared_sameMemory : SameMemory s (coreCleared keep c s) := by
  have hkept {f : Fld} (h : f ≠ .fab ∧ f ≠ .sram) : f.same s (coreCleared keep c s) :=
    coreCleared_same h.1.symm h.2.symm
  have hregs : (coreCleared keep c s).regs = s.regs := hkept (f := .regs) (by decide)
  exact sameMemory_of_same (hkept (by decide)) (hkept (by decide)) (hkept (by decide)) (hkept (by decide)) fun i off _ _ => by
    rw [reg, rget, hregs, reg, rget]

theorem coreFresh_coreCleared (x : Core) : coreFresh (coreCleared keep c s) d both x = coreFresh s d both x :=
  coreCleared_sameMemory.coreFresh_eq (coreCleared_same (f := .sched) (by decide) (by decide))
    (coreCleared_same (f := .now) (by decide) (by decide)) ..

section
variable (hs : s.Canonical)
include hs

theorem coreCleared_canonical : (coreCleared keep c s).Canonical := by
  have hreturned : (returnAll c (core s c) allInputs s).Canonical := keep_returnAll closed_canonical trivial hs
  have hdropped := keep_dropCoreWires closed_canonical trivial (x1 := c) hreturned
  unfold coreCleared
  split
  · exact hdropped
  · exact keep_zeroSram closed_canonical trivial hdropped

theorem freshCore_canonical : (freshCore keep both c s).Canonical :=
  keep_freshCore closed_canonical trivial trivial trivial hs

theorem core_freshCore : core (freshCore keep both c s) c = coreFresh s c both (core s c) := by
  rw [freshCore_eq, core_setCore (coreCleared_canonical hs).cores, core_coreCleared, coreFresh_coreCleared]

theorem core_freshCore_other (hd : d ≠ c) : core (freshCore keep both c s) d = core s d := by
  rw [freshCore_eq, core_setCore_other (coreCleared_canonical hs).cores hd, core_coreCleared]

end

/-- The image's sections read the same after the reset of another core. -/
theorem coreFresh_freshCore (x : Core) : coreFresh (freshCore keep both c s) d both x = coreFresh s d both x := by
  have hone : freshCore keep both c s = freshCores keep both [c] s := rfl
  rw [hone]
  exact (freshCores_sameMemory keep both [c] s).coreFresh_eq
    (freshCores_same (f := .sched) (by decide) (by decide) (by decide) ..)
    (freshCores_same (f := .now) (by decide) (by decide) (by decide) ..) ..

theorem core_freshCores_other {cs : List Nat} (hs : s.Canonical) (hd : d ∉ cs) :
    core (freshCores keep both cs s) d = core s d := by
  induction cs generalizing s with
  | nil => rfl
  | cons c cs ih =>
    obtain ⟨hc, hcs⟩ := List.ne_and_not_mem_of_not_mem_cons hd
    exact (ih (freshCore_canonical hs) hcs).trans (core_freshCore_other hs hc)

theorem core_freshCores {cs : List Nat} (hs : s.Canonical) (hnodup : cs.Nodup) (hc : c ∈ cs) :
    core (freshCores keep both cs s) c = coreFresh s c both (core s c) := by
  induction cs generalizing s with
  | nil => exact absurd hc List.not_mem_nil
  | cons e cs ih =>
    obtain ⟨he, hcs⟩ := List.nodup_cons.mp hnodup
    rcases List.mem_cons.mp hc with rfl | hmem
    · exact (core_freshCores_other (freshCore_canonical hs) he).trans (core_freshCore hs)
    · have hne : c ≠ e := fun heq => he (heq ▸ hmem)
      rw [freshCores, ih (freshCore_canonical hs) hcs hmem, coreFresh_freshCore, core_freshCore_other hs hne]

/-! ## The SRAM of a core -/

/-- Where the byte of a line of a core's SRAM lies in the store. -/
theorem sramAddr_byte {n i : Nat} (hn : n < 7168) (hi : i < 64) :
    (sramAddr c n + i) / 2 ^ 19 = c ∧ (sramAddr c n + i) % 2 ^ 19 < 7168 * 64 := by
  simp only [sramAddr]
  omega

theorem sramLine_zeroSram (hs : s.Canonical) {n : Nat} (hn : n < 7168) :
    sramLine (zeroSram c s) d n = if d = c then 0 else sramLine s d n := by
  have hdropped (i : Nat) (hi : i < 64) : sget memZero (zeroSram c s).sram (sramAddr d n + i) =
      if d = c then 0 else sget memZero s.sram (sramAddr d n + i) := by
    obtain ⟨hcore, hline⟩ := sramAddr_byte (c := d) hn hi
    rw [zeroSram, sget_sdrop hs.sram, hcore, decide_eq_true hline, Bool.and_true]
    simp only [beq_iff_eq]
    rfl
  rw [sramLine]
  split
  · next hd =>
    simp only [if_pos hd] at hdropped
    exact (memLine_congr (m' := []) hdropped).trans (memLine_nil _)
  · next hd =>
    simp only [if_neg hd] at hdropped
    exact memLine_congr hdropped

theorem sramLine_freshCore (hs : s.Canonical) {n : Nat} (hn : n < 7168) :
    sramLine (freshCore keep both c s) d n = if keep = false ∧ d = c then 0 else sramLine s d n := by
  have hreturned : (returnAll c (core s c) allInputs s).Canonical := keep_returnAll closed_canonical trivial hs
  have hdropped := keep_dropCoreWires closed_canonical trivial (x1 := c) hreturned
  have hsram : (dropCoreWires c (returnAll c (core s c) allInputs s)).sram = s.sram :=
    returnAll_same (f := .sram) (by decide) _ _
  have hcleared : sramLine (freshCore keep both c s) d n = sramLine (coreCleared keep c s) d n := rfl
  rw [hcleared, coreCleared]
  cases keep with
  | true => rw [if_pos rfl, if_neg (by simp), sramLine, hsram, sramLine]
  | false =>
    rw [if_neg Bool.false_ne_true, sramLine_zeroSram hdropped hn, sramLine, hsram, ← sramLine]
    simp only [true_and]

/-- Unless SRAM is kept, the SRAM of every core of the list reads 0; no other core's changes. -/
theorem sramLine_freshCores {cs : List Nat} (hs : s.Canonical) {n : Nat} (hn : n < 7168) :
    sramLine (freshCores keep both cs s) d n = if keep = false ∧ d ∈ cs then 0 else sramLine s d n := by
  induction cs generalizing s with
  | nil => simp [freshCores]
  | cons c cs ih =>
    have hlist : (keep = false ∧ d ∈ cs ∨ keep = false ∧ d = c) ↔ keep = false ∧ d ∈ c :: cs := by
      rw [← and_or_left, List.mem_cons, or_comm]
    rw [freshCores, ih (freshCore_canonical hs), sramLine_freshCore hs hn, ← ite_or]
    exact if_congr hlist rfl rfl

end

end

/-! ## DRAIN_END (R377) -/

section
variable {s u t : State} {r : Region} {x : ResetRun}

/-- The drain of a region has ended. -/
def drainMarked (x : ResetRun) (s : State) : State :=
  { s with resets := s.resets.map fun y => if y == x then { y with drained := true } else y }

section
variable (hfind : (s.resets.find? fun x => x.region == r && !x.drained) = some x)
include hfind

theorem drainEnd_of_empty (hheld : heldFlits s (regionCores s r) = 0) : drainEnd r s = drainMarked x s := by
  simp only [drainEnd, hfind, hheld, if_true]
  rfl

theorem drainEnd_of_held {n : Nat} (hn : n = heldFlits s (regionCores s r)) (hheld : n ≠ 0)
    (ht : t = dropHeld (regionCores s r) (passTo (x.at_ + drainWindow r) (drainMarked x s))) : drainEnd r s =
      raiseCe 0x15 (regionPart t r) 2 (regionLevel r + 2 ^ 8 * min 255 n) (bump48 0x15 (regionPart t r) 0x60 0 n (some (5, 2)) t) := by
  subst ht
  simp only [drainEnd, hfind, ← hn, if_neg hheld]
  rfl

end

/-! ## RESET_COMPLETE (R378) -/

/-- The cores and the class-L registers of a core or a cluster have returned to reset, and its reset is over. -/
def lowCompleted (r : Region) (x : ResetRun) (s : State) : State :=
  { freshCores false false (regionCores s r) (resetRegion (regionLevel r) r [] s) with
    resets := s.resets.filter fun y => y != x }

section
variable (hfind : (s.resets.find? fun x => x.region == r && x.drained) = some x)
include hfind

theorem resetComplete_of_low (hlow : ∀ p, r ≠ .partition p) : resetComplete r s = fillRemap (lowCompleted r x s) := by
  have hlost : (resetRegion (regionLevel r) r [] s).resets = s.resets :=
    (resetRegion_same ..).same (f := .resets) (by decide) (by decide)
  have hfresh : (freshCores false false (regionCores s r) (resetRegion (regionLevel r) r [] s)).resets =
      (resetRegion (regionLevel r) r [] s).resets :=
    freshCores_same (f := .resets) (by decide) (by decide) (by decide) ..
  have hresets := hfresh.trans hlost
  cases r with
  | partition p => exact absurd rfl (hlow p)
  | core c =>
    simp only [resetComplete, hfind, hresets, lowCompleted]
  | cluster k =>
    simp only [resetComplete, hfind, hresets, lowCompleted]

end

theorem resetComplete_of_partition {p : Nat} (hfind : (s.resets.find? fun x => x.region == .partition p && x.drained) = some x)
    (hu : u = partFresh p 2 (keepSram s p) x.keepP s) : resetComplete (.partition p) s =
      partDone p (if assigned u then 4 else 0) { u with resets := u.resets.filter fun y => y != x } := by
  subst hu
  simp only [resetComplete, hfind]
  rfl

theorem fillRemap_same {f : Fld} (hdev : Fld.dev ≠ f) (s : State) : f.same s (fillRemap s) :=
  keep_fillRemap (closed_same f s) hdev (Fld.same_refl f s)

/-! ## The cores of a core or of a cluster (R106) -/

theorem lowCompleted_same {f : Fld} (h : f ∉ [Fld.dev, .resets, .sram, .cores, .fab, .regs, .faults]) :
    f.same s (fillRemap (lowCompleted r x s)) := by
  simp only [List.mem_cons, List.not_mem_nil, or_false, not_or] at h
  obtain ⟨hdev, hresets, hsram, hcores, hfab, hregs, hfaults⟩ := h
  have hlost : f.same s (resetRegion (regionLevel r) r [] s) := (resetRegion_same ..).same hregs hfaults
  have hfresh := keep_freshCores (closed_same f s) (x1 := false) (x2 := false) (x3 := regionCores s r) (Ne.symm hsram)
    (Ne.symm hcores) (Ne.symm hfab) hlost
  exact keep_fillRemap (closed_same f s) (Ne.symm hdev) ((closed_same f s).resets (Ne.symm hresets) hfresh)

theorem clusterOf_clusterCore {k i : Nat} (hi : i < 16) : clusterOf (96 * (4 * (k / 24) + i / 4) + 4 * (k % 24) + i % 4) = k := by
  simp only [clusterOf]
  omega

theorem clusterCores_nodup (k : Nat) : (clusterCores k).Nodup := by
  refine List.Nodup.map_on (fun i hi j hj heq => ?_) List.nodup_range
  rw [List.mem_range] at hi hj
  omega

theorem regionCores_nodup (hlow : ∀ p, r ≠ .partition p) : (regionCores s r).Nodup := by
  cases r with
  | partition p => exact absurd rfl (hlow p)
  | core c => exact List.nodup_singleton c
  | cluster k => exact clusterCores_nodup k

/-- A core of a core or cluster that exists is one of the 9,216, and its class-L registers are of the region. -/
theorem regionHit_of_core {dt c off : Nat} (hwf : (Instr.resetComplete dt r).wf = true) (hlow : ∀ p, r ≠ .partition p)
    (hc : c ∈ regionCores s r) (hret : retClass 5 c off = 4) : c < 9216 ∧ regionHit s r 5 c off = true := by
  cases r with
  | partition p => exact absurd rfl (hlow p)
  | core i =>
    obtain rfl := List.mem_singleton.mp hc
    have hlt : c < 9216 := of_decide_eq_true (List.all_eq_true.mp hwf ⟨"core", c, 9216⟩ (List.mem_singleton.mpr rfl))
    exact ⟨hlt, by simp [regionHit, hret]⟩
  | cluster k =>
    have hlt : k < 576 := of_decide_eq_true (List.all_eq_true.mp hwf ⟨"cluster", k, 576⟩ (List.mem_singleton.mpr rfl))
    obtain ⟨i, hi, rfl⟩ := List.mem_map.mp hc
    rw [List.mem_range] at hi
    exact ⟨by omega, by simp [regionHit, hret, clusterOf_clusterCore hi]⟩

theorem regionHit_of_cluster {k off : Nat} (hret : retClass 4 k off = 4) : regionHit s (.cluster k) 4 k off = true := by
  simp [regionHit, hret]

theorem cluster_lt_of_wf {dt k : Nat} (hwf : (Instr.resetComplete dt (.cluster k)).wf = true) : k < 576 :=
  of_decide_eq_true (List.all_eq_true.mp hwf ⟨"cluster", k, 576⟩ (List.mem_singleton.mpr rfl))

section
variable (hs : s.Canonical)
include hs

/-- The registers of units after the completion are those that the loss of class L leaves. -/
theorem reg_lowCompleted {cls inst off : Nat} (hcls : cls ∈ [4, 5, 6]) (hinst : inst < 2 ^ 14) (hoff : off < 2 ^ 12) :
    reg (fillRemap (lowCompleted r x s)) cls inst off =
      if regionHit s r cls inst off then reg State.reset cls inst off else reg s cls inst off := by
  have hremapped : (fillRemap (lowCompleted r x s)).regs = (lowCompleted r x s).regs :=
    fillRemap_same (f := .regs) (by decide) _
  have hfresh : (lowCompleted r x s).regs = (resetRegion (regionLevel r) r [] s).regs :=
    freshCores_same (f := .regs) (by decide) (by decide) (by decide) ..
  have hregs := hremapped.trans hfresh
  rw [← reg_resetRegion hs hcls hinst hoff (regionLevel r) r [], reg, rget, hregs, reg, rget]

theorem resetRegion_sameMemory (level : Nat) : SameMemory s (resetRegion level r [] s) := by
  have hsame := resetRegion_same level r [] s
  refine sameMemory_of_same (hsame.same (by decide) (by decide)) (hsame.same (by decide) (by decide))
    (hsame.same (by decide) (by decide)) (hsame.same (by decide) (by decide)) fun i off hi hoff => ?_
  rw [reg_resetRegion hs (by decide) (by omega) hoff]
  exact if_neg (by simp [regionHit]; cases r <;> simp)

theorem resetRegion_canonical (level : Nat) : (resetRegion level r [] s).Canonical :=
  keep_resetRegion closed_canonical raiseSet_true hs

theorem core_lowCompleted (hlow : ∀ p, r ≠ .partition p) {c : Nat} (hc : c ∈ regionCores s r) :
    core (fillRemap (lowCompleted r x s)) c = coreFresh s c false (core s c) := by
  have hsame := resetRegion_same (regionLevel r) r [] s
  have hremapped : (fillRemap (lowCompleted r x s)).cores = (lowCompleted r x s).cores :=
    fillRemap_same (f := .cores) (by decide) _
  have hcores : (resetRegion (regionLevel r) r [] s).cores = s.cores := hsame.same (f := .cores) (by decide) (by decide)
  have hfresh := core_freshCores (keep := false) (both := false) (resetRegion_canonical hs (r := r) (regionLevel r))
    (regionCores_nodup (s := s) hlow) hc
  rw [core, hremapped]
  refine hfresh.trans ?_
  rw [(resetRegion_sameMemory hs _).coreFresh_eq (hsame.same (f := .sched) (by decide) (by decide))
    (hsame.same (f := .now) (by decide) (by decide)), core, hcores, core]

theorem sramLine_lowCompleted {d n : Nat} (hn : n < 7168) : sramLine (fillRemap (lowCompleted r x s)) d n =
    if d ∈ regionCores s r then 0 else sramLine s d n := by
  have hremapped : (fillRemap (lowCompleted r x s)).sram = (lowCompleted r x s).sram :=
    fillRemap_same (f := .sram) (by decide) _
  have hsram : (resetRegion (regionLevel r) r [] s).sram = s.sram :=
    (resetRegion_same ..).same (f := .sram) (by decide) (by decide)
  have hfresh := sramLine_freshCores (keep := false) (both := false) (cs := regionCores s r) (d := d)
    (resetRegion_canonical hs (r := r) (regionLevel r)) hn
  rw [sramLine, hremapped]
  refine hfresh.trans ?_
  rw [sramLine, hsram, ← sramLine]
  simp only [true_and]

end

end

/-- Settles O58: a drain by whether flits are held at its end, and a completion by what it makes of each core, of each class-L
register and of each line of core SRAM. -/
theorem resetsComplete : Obligations.ResetsComplete := by
  refine ⟨fun dt r x n s u hwf hfind hn hu => ?drain, fun dt r cs x s hwf hs hlow hcs hfind => ?low,
    fun dt p x s u hwf hfind hu => ?part⟩
  case drain =>
    replace hu : u = drainMarked x (elapse dt s) := hu
    rw [exec_drainEnd dt r s hwf, hu]
    refine ⟨fun hempty => ?_, fun hheld => ⟨_, rfl, ?_⟩⟩
    · rw [drainEnd_of_empty (s := elapse dt s) hfind (hn.symm.trans hempty)]
    · rw [drainEnd_of_held (s := elapse dt s) hfind hn hheld rfl]
      rfl
  case low =>
    subst hcs
    have hse : (elapse dt s).Canonical := closed_canonical.elapse trivial hs
    refine ⟨fillRemap (lowCompleted r x (elapse dt s)), ?exec, ?hbm, ?hub, ?resets, fun c hc => ⟨?core, fun n hn => ?zero,
      fun off hoff hret => ?regs⟩, fun k off hr hoff hret => ?clusterRegs, fun d hd n hn => ?other⟩
    case exec => rw [exec_resetComplete dt r s hwf, resetComplete_of_low (s := elapse dt s) hfind hlow]
    case hbm => exact lowCompleted_same (f := .hbm) (by decide)
    case hub => exact lowCompleted_same (f := .hub) (by decide)
    case resets => exact fillRemap_same (f := .resets) (by decide) _
    case core => exact core_lowCompleted hse hlow hc
    case zero => exact (sramLine_lowCompleted hse hn).trans (if_pos hc)
    case regs =>
      obtain ⟨hlt, hhit⟩ := regionHit_of_core hwf hlow hc hret
      exact (reg_lowCompleted hse (by decide) (by omega) hoff).trans (if_pos hhit)
    case clusterRegs =>
      subst hr
      have hlt := cluster_lt_of_wf hwf
      exact (reg_lowCompleted hse (by decide) (by omega) hoff).trans (if_pos (regionHit_of_cluster hret))
    case other => exact (sramLine_lowCompleted hse hn).trans (if_neg hd)
  case part =>
    rw [exec_resetComplete dt _ s hwf, resetComplete_of_partition (s := elapse dt s) hfind hu]

end Sys2Proof.Machine

/-! # Power states: a Ridge that the list of power states names twice (Table 13.7) -/

namespace Sys2Proof.Machine

open Sys2Proof

/-! ## What the exit from Retain or Off leaves of the power states (R384) -/

section
variable {s : State} {p : Nat} {f : Fld}

theorem abandonFills_of_no_fills (h : s.dev.fills = []) : abandonFills p s = s := by
  simp only [abandonFills, h, List.filter_nil, raiseAbandoned, dropFills]
  rw [if_neg Bool.false_ne_true, ← h]

/-- With no fill under way the start of a partition's reset leaves the device and the partitions as they were. -/
theorem partBegin_same (hfills : s.dev.fills = []) (h : f ∉ [Fld.regs, .hub, .hbm, .faults, .mem, .cairn, .engines, .serve]) :
    f.same s (partBegin p s) := by
  simp only [List.mem_cons, List.not_mem_nil, or_false, not_or] at h
  obtain ⟨hregs, hhub, hhbm, hfaults, hmem, hcairn, hengines, hserve⟩ := h
  have hdropped {g : Fld} (gregs : Fld.regs ≠ g) (ghub : Fld.hub ≠ g) (ghbm : Fld.hbm ≠ g) (gfaults : Fld.faults ≠ g)
      (gmem : Fld.mem ≠ g) (gcairn : Fld.cairn ≠ g) (gengines : Fld.engines ≠ g) :
      g.same s (abandonRestore p (dropOwned p (abandonPartMoves p s))) :=
    keep_abandonRestore (closed_same g s) gcairn (keep_dropOwned (closed_same g s) gengines
      (keep_abandonPartMoves (closed_same g s) gregs ghub ghbm gfaults gmem gcairn (Fld.same_refl g s)))
  have hdev : (abandonRestore p (dropOwned p (abandonPartMoves p s))).dev = s.dev :=
    hdropped (g := .dev) (by decide) (by decide) (by decide) (by decide) (by decide) (by decide) (by decide)
  have hdone := hdropped (Ne.symm hregs) (Ne.symm hhub) (Ne.symm hhbm) (Ne.symm hfaults) (Ne.symm hmem) (Ne.symm hcairn)
    (Ne.symm hengines)
  unfold partBegin
  rw [abandonFills_of_no_fills (by rw [hdev, hfills])]
  dsimp only
  split
  · exact keep_endSequences (closed_same f s) (Ne.symm hserve) hdone
  · exact hdone

theorem remapEmpty_power (l : List Nat) (s : State) : (remapEmpty l s).dev.power = s.dev.power := by
  induction l generalizing s with
  | nil => rfl
  | cons n l ih =>
    rw [remapEmpty, ih]
    split
    all_goals rfl

/-- A partition whose cores and registers have returned to reset at its exit from Retain or Off, before its end is counted. -/
def exitFresh (p : Nat) (s : State) : State :=
  let cs := regionCores s (.partition p)
  let off := offCores s cs
  freshCores true true (cs.filter fun c => !off.contains c) (freshCores false true off
    (reloadMicrocode off (partRegs p 2 (partPower s p == 7) (partBegin p s))))

theorem powerExit_of_deep (h : 6 < partPower s p) :
    powerExit p s = setPower 0 (partRidges s p) (partDone p (idleCode (exitFresh p s)) (exitFresh p s)) := by
  unfold powerExit
  dsimp only
  rw [if_neg (Nat.not_le.mpr h)]
  rfl

theorem partRegs_same (h : f ∉ [Fld.regs, .faults, .energy]) (level : Nat) (keepP : Bool) (s : State) :
    f.same s (partRegs p level keepP s) := by
  simp only [List.mem_cons, List.not_mem_nil, or_false, not_or] at h
  obtain ⟨hregs, hfaults, henergy⟩ := h
  have hlost {extra : List Loss} : f.same s (resetRegion level (.partition p) extra s) :=
    (resetRegion_same ..).same hregs hfaults
  unfold partRegs
  dsimp only
  split
  · exact hlost
  · exact keep_dropEnergyPart (closed_same f s) (Ne.symm henergy) hlost

theorem exitFresh_parts (hfills : s.dev.fills = []) : (exitFresh p s).parts = s.parts := by
  have hfresh : (exitFresh p s).parts = (partRegs p 2 (partPower s p == 7) (partBegin p s)).parts :=
    keep_freshCores (closed_same .parts _) (by decide) (by decide) (by decide)
      (freshCores_same (f := .parts) (by decide) (by decide) (by decide) ..)
  have hlost : (partRegs p 2 (partPower s p == 7) (partBegin p s)).parts = (partBegin p s).parts :=
    partRegs_same (f := .parts) (by decide) ..
  have hbegun : (partBegin p s).parts = s.parts := partBegin_same (f := .parts) hfills (by decide)
  exact hfresh.trans (hlost.trans hbegun)

theorem exitFresh_power (hfills : s.dev.fills = []) : (exitFresh p s).dev.power = s.dev.power := by
  have hfresh : (exitFresh p s).dev = (reloadMicrocode (offCores s (regionCores s (.partition p)))
      (partRegs p 2 (partPower s p == 7) (partBegin p s))).dev :=
    keep_freshCores (closed_same .dev _) (by decide) (by decide) (by decide)
      (freshCores_same (f := .dev) (by decide) (by decide) (by decide) ..)
  have hlost : (partRegs p 2 (partPower s p == 7) (partBegin p s)).dev = (partBegin p s).dev :=
    partRegs_same (f := .dev) (by decide) ..
  have hbegun : (partBegin p s).dev = s.dev := partBegin_same (f := .dev) hfills (by decide)
  have hpower := congrArg DevSt.power (hlost.trans hbegun)
  rw [hfresh]
  exact hpower

end

section
variable {s : State} {p : Nat}

/-- The columns of a partition whose switches a reset has emptied take their spares (R177). -/
def columnsEmptied (p : Nat) (s : State) : State :=
  remapEmpty ((partRidges s p).flatMap fun d => (List.range 24).map fun k => 24 * d + k) s

/-- A partition's reset, emptied and counted, before the partition gets its new state. -/
def partCounted (p : Nat) (s : State) : State :=
  let u := bump48 0x15 p 0x50 0 1 (some (5, 0)) (columnsEmptied p s)
  setReg 0x15 p 0x48 0 (rset64 (regKey 0x15 p 0x68 0) (tickN u) u)

theorem partDone_eq (st : Nat) :
    ∃ x : Part, partDone p st s = setPart p x (partCounted p s) ∧ x.resetAfter = (part (partCounted p s) p).resetAfter :=
  ⟨_, rfl, rfl⟩

theorem partCounted_same {f : Fld} (h : f ∉ [Fld.regs, .faults]) : f.same (columnsEmptied p s) (partCounted p s) := by
  simp only [List.mem_cons, List.not_mem_nil, or_false, not_or] at h
  have hcounted : f.same (columnsEmptied p s) (bump48 0x15 p 0x50 0 1 (some (5, 0)) (columnsEmptied p s)) :=
    (bump48_same ..).same h.1 h.2
  exact (closed_same f _).rset (Ne.symm h.1) (keep_rset64 (closed_same f _) (Ne.symm h.1) hcounted)

theorem partCounted_parts : (partCounted p s).parts = s.parts := by
  have hemptied : (columnsEmptied p s).parts = s.parts :=
    keep_remapEmpty (closed_same .parts s) (by decide) (Fld.same_refl .parts s)
  have hcounted : (partCounted p s).parts = (columnsEmptied p s).parts := partCounted_same (f := .parts) (by decide)
  exact hcounted.trans hemptied

theorem partCounted_power : (partCounted p s).dev.power = s.dev.power := by
  have hcounted : (partCounted p s).dev = (columnsEmptied p s).dev := partCounted_same (f := .dev) (by decide)
  exact (congrArg DevSt.power hcounted).trans (remapEmpty_power _ s)

theorem partDone_power (st : Nat) : (partDone p st s).dev.power = s.dev.power := partCounted_power

theorem partDone_resetAfter (hs : swf (fun _ => Part.reset) s.parts = true) (st : Nat) :
    (part (partDone p st s) p).resetAfter = (part s p).resetAfter := by
  obtain ⟨x, heq, hx⟩ := partDone_eq (s := s) (p := p) st
  have hcounted : part (partCounted p s) p = part s p := by rw [part, partCounted_parts, part]
  have hparts : swf (fun _ => Part.reset) (partCounted p s).parts = true := by rw [partCounted_parts, hs]
  rw [heq, part, setPart, sget_sset_same hparts, hx, hcounted]

end

section
variable {s : State} {p due : Nat}

/-- An exit from Retain or Off with no fill under way and no reset asked for meanwhile. -/
theorem powerDone_of_deep (hs : swf (fun _ => Part.reset) s.parts = true) (hmove : (part s p).move = some (0, due))
    (hfills : s.dev.fills = []) (hdeep : 6 < partPower s p) (hafter : (part s p).resetAfter = false) :
    powerDone p s = setPower 0 (partRidges s p) (partDone p (idleCode (exitFresh p (passTo due s))) (exitFresh p (passTo due s))) := by
  have hexit := powerExit_of_deep (s := passTo due s) hdeep
  have hparts : (exitFresh p (passTo due s)).parts = s.parts := exitFresh_parts (s := passTo due s) hfills
  have hleft : (part (exitFresh p (passTo due s)) p).resetAfter = false := by rw [part, hparts, ← part, hafter]
  have hnone : (part (powerExit p (passTo due s)) p).resetAfter = false := by
    rw [hexit]
    exact (partDone_resetAfter (by rw [hparts, hs]) _).trans hleft
  simp only [powerDone, hmove, if_true, hnone]
  exact hexit

end

/-! ## The counterexample to `PowerStatesChange` -/

/-- Partition 0 is in Retain and its exit ends now; the list of power states names Ridge 0 twice. -/
def twicePowered : State :=
  { State.reset with
    dev := { DevSt.reset with up := true, power := [(0, 7), (0, 7)] }
    parts := [(0, { Part.reset with st := 7, move := some (0, 0) })] }

theorem twicePowered_canonical : twicePowered.Canonical := by
  constructor
  all_goals decide

/-- The exit takes the first entry of Ridge 0 away, and then the second one shows. -/
theorem powerDone_twicePowered : ridgePower (powerDone 0 (elapse 0 twicePowered)) 0 = 7 := by
  have hexit := powerDone_of_deep (s := elapse 0 twicePowered) (p := 0) twicePowered_canonical.parts rfl rfl (by decide) rfl
  rw [hexit, ridgePower, setPower, partDone_power, exitFresh_power rfl]
  decide

/-- Refutes O59: the canonical form does not speak of the list of power states (`dev.power`). Where that list names a Ridge
twice, the exit to Active takes one entry away, and the Ridge reads as it did before, not Active as the last clause says. -/
theorem not_powerStatesChange : ¬ Obligations.PowerStatesChange := by
  rintro ⟨-, hdone⟩
  obtain ⟨-, -, -, hexit⟩ := hdone 0 0 0 0 twicePowered _ (by decide) twicePowered_canonical rfl rfl rfl
  obtain ⟨t, hexec, -, hactive, -⟩ := hexit rfl (by decide)
  rw [exec_powerTransitionDone 0 0 twicePowered (by decide)] at hexec
  have hzero : ridgePower t 0 = 0 := hactive 0 (by decide)
  rw [← Host.Outcome.next.inj hexec, powerDone_twicePowered] at hzero
  exact absurd hzero (by decide)

end Sys2Proof.Machine
